-- ==== Sys2Proof/Word.lean ====
section
/-! DEFINITION. The word types of the Q9: 32-bit registers (spec/00_scope.md R6) and bytes. -/

namespace Sys2Proof

/-- A register word (R6). -/
abbrev Word := BitVec 32

/-- A byte of memory or of a datagram. -/
abbrev Byte := BitVec 8

end Sys2Proof
end

