-- ==== Sys2Proof/Operand.lean ====
section
/-! DEFINITION. The operands of the commands: who asks, and the parsed content of what arrives from outside
(datagrams, frames, messages, readings). Byte-level formats that the Q9 itself checks stay bytes. -/

namespace Sys2Proof

/-- Who performs a register access: Ketrum firmware on a control core, or the KCP session in slot n
(spec/03_control_kcp.md). -/
inductive Requester where
  | firmware
  | session (slot : Fin 8)
  deriving DecidableEq, Repr

/-- One access of a lane to the local store of its cell (spec/02_structure_cukar.md R48): a byte of a bank that it writes,
or reads where write is none. -/
structure StoreAccess where
  lane : Fin 16
  bank : Fin 8
  offset : Fin 8192
  write : Option Byte
  deriving DecidableEq, Repr

/-- The run of the work item at the head of a block's queue: the accesses that the lanes of its cell make to the local store,
cycle by cycle (spec/02_structure_cukar.md R48, R51). -/
structure ItemRun where
  block : Fin 64
  accesses : List (List StoreAccess)
  deriving DecidableEq, Repr

/-- A parity error in a cell: in the replay of a kernel step, or in a step run for the first time (spec/02_structure_cukar.md
R49). -/
structure ParityHit where
  cell : Fin 16
  inReplay : Bool
  deriving DecidableEq, Repr

/-- A received IDLE set: the 10-bit alignment of its comma, and whether it is inverted (spec/09_serial_lanes.md R302). -/
structure IdleSet where
  alignment : Fin 10
  inverted : Bool
  deriving DecidableEq, Repr

/-- A received ALIGN set: its LANE, ASEQ and FLAGS bytes (spec/09_serial_lanes.md R299). -/
structure AlignSet where
  lane : Nat
  aseq : Nat
  flags : Nat
  deriving DecidableEq, Repr

/-- A received code group: its ten bits, and whether the receiver's running disparity before it is positive
(spec/09_serial_lanes.md R294, R296). -/
structure CodeGroup where
  bits : Fin 1024
  positive : Bool
  deriving DecidableEq, Repr

/-- What a start of a region push finds: the bytes of its data that have come on chip since the last look, and whether the rest
keeps coming in time (spec/10_panel_protocol.md R332, R344). -/
structure PushFeed where
  arrived : Nat
  stream : Bool
  deriving DecidableEq, Repr

/-- What a PTP message carries that the time unit looks at first (spec/11_time_presentation.md R362): the port it arrived on,
whether over IPv6, its domain, the sender's clockIdentity and portNumber, its sequenceId. -/
structure PtpHeader where
  port : Fin 4
  ip6 : Bool
  domain : Nat
  clockId : Nat
  portNumber : Nat
  seq : Nat
  /-- logMessageInterval -/
  logInterval : Int
  /-- MAC and IP address of the sender -/
  mac : Nat
  ip : Nat
  deriving DecidableEq, Repr

/-- An IP address that a packet is sent to. -/
inductive IpAddr where
  | v4 (a : Nat)
  | v6 (a : Nat)
  deriving DecidableEq, Repr

/-- A KCP datagram as it reaches UDP port 52161 (spec/03_control_kcp.md R99), OPCODE apart (the command names it). dst is the
address it is sent to, origin stands for the source address and port; udpLength is the length of the whole datagram; payload
and tag are the bytes after the header. -/
structure KcpDatagram where
  port : Fin 4
  dst : IpAddr
  origin : Nat
  magic : Nat
  version : Nat
  sessionId : Nat
  seq : Nat
  flags : Nat
  status : Nat
  payloadLength : Nat
  reserved : Nat
  udpLength : Nat
  payload : List Byte
  tag : List Byte
  deriving DecidableEq, Repr

/-- Where a lifecycle or mode request comes from: a KCP request, or a register write (PATH_CMD, CHIP_MODEREQ) of a
requester. -/
inductive Source where
  | kcp (d : KcpDatagram)
  | register (who : Requester)
  deriving DecidableEq, Repr

/-- The IP part of a received Ethernet frame (spec/04_ethernet_ingest.md R138, R139): the address it is sent to; checksum: 0 =
zero, 1 = good, 2 = bad, 3 = not a UDP datagram. -/
inductive IpPart where
  | none
  | v4 (dst : Nat) (fragment options : Bool) (checksum : Nat)
  | v6 (dst : Nat) (fragment extension : Bool) (checksum : Nat)
  deriving DecidableEq, Repr

/-- A frame received on a port (R135 to R139): its length, whether the FCS is good and an RS codeword was
uncorrectable, the VID of its 802.1Q tag, its priority, whether it is a PAUSE frame, its IP part, and the bytes in the
receive queue of its priority once it is queued. -/
structure EthFrame where
  length : Nat
  fcsGood : Bool
  fecUncorr : Bool
  vid : Option Nat
  priority : Fin 8
  pause : Bool
  ip : IpPart
  fill : Nat
  deriving DecidableEq, Repr

/-- A request that a port answers (R138): the question, the address asked for, the sender's MAC address and, for an echo,
the data. -/
inductive AddressRequest where
  | arp (ip4 source : Nat)
  | solicitation (ip6 source : Nat)
  | echo4 (ip4 source : Nat) (data : List Byte)
  | echo6 (ip6 source : Nat) (data : List Byte)
  deriving DecidableEq, Repr

/-- The instructions of the TAP (spec/20_test_identity.md R556). -/
inductive TapInstr where
  | bypass | idcode | samplePreload | extest | extestPulse | extestTrain | clamp | highz
  deriving DecidableEq, Repr

/-- What TCK, TMS, TDI and TRST_N do to the TAP: Test-Logic-Reset, an instruction scan that loads an instruction, a data
scan of the bits on TDI. -/
inductive TapOp where
  | reset
  | load (i : TapInstr)
  | scan (tdi : List Bool)
  deriving DecidableEq, Repr

/-- A UDP datagram as it reaches a port: the address and UDP port it is sent to, and its bytes (R144). -/
structure BattDatagram where
  dst : IpAddr
  udpPort : Nat
  bytes : List Byte
  deriving DecidableEq, Repr

/-- A batt (R144): the length of its datagram, the fields of its header, its payload. -/
structure Batt where
  udpLength : Nat
  magic : Nat
  version : Nat
  kind : Nat
  streamId : Nat
  bflags : Nat
  payloadLength : Nat
  seq : Nat
  unit : Nat
  unitOffset : Nat
  launchS : Nat
  launchNs : Nat
  rayCount : Nat
  payload : List Byte
  deriving DecidableEq, Repr

/-- A layer that a VPS names, as H.265 parsing gives it: nuh_layer_id, whether it is a depth layer, the layers it depends
on directly, and the minimum vertical CTU offsets that vps_vui signals for them. -/
structure VpsLayer where
  id : Nat
  isDepth : Bool
  deps : List Nat
  offsets : List (Nat × Nat)
  deriving DecidableEq, Repr

/-- The content of a parameter set as H.265 parsing gives it (spec/05_decode.md R160 to R162, R187); rest stands for all
that this manual does not name, so that two sets can be compared. A PPS gives its tile columns and rows in CTBs, none for one
tile. -/
inductive ParamContent where
  | vps (layers : List VpsLayer) (rest : Nat)
  | sps (vpsId profile level width height cropX cropY cropW cropH chroma bits ctbLog : Nat) (unsupported : Bool) (rest : Nat)
  | pps (spsId : Nat) (unsupported wavefront : Bool) (cols rows : List Nat) (rest : Nat)
  deriving DecidableEq, Repr

/-- A slice segment as H.265 parsing gives it (R173, R180, R183 to R186, R196), beside what its NAL unit header and first bit
say: its PPS, its address, its POC; rps lists the pictures its reference
picture set names with their mark (1 short-term, 2 long-term) and whether they are in a reference list; interLayer the
reference layers of the same access unit; rows the CTU rows of the segment in decoding order, each as first CTU and number
of CTUs. -/
structure SliceNal where
  ppsId : Nat
  dependent : Bool
  address : Nat
  poc : Int
  rps : List (Int × Nat × Bool)
  interLayer : List Nat
  rows : List (Nat × Nat)
  deriving DecidableEq, Repr

/-- What H.265 parsing gives of a NAL unit behind its header (R163, R164, R183): nothing, a parameter set with its identifier,
a slice segment, or a decoded picture hash with its method. -/
inductive NalBody where
  | none
  | param (id : Nat) (content : ParamContent)
  | slice (s : SliceNal)
  | hash (method : Nat) (value : List Byte)
  deriving DecidableEq, Repr

/-- A decoded sample: its plane (0 luma, 1 Cb, 2 Cr), its position in the plane, its value. -/
structure Sample where
  plane : Fin 3
  x : Nat
  y : Nat
  value : Nat
  deriving DecidableEq, Repr

/-- The result of a row task (R163, R183): the code and CTU of an error, and the decoded samples. -/
structure RowResult where
  error : Option (Nat × Nat)
  samples : List Sample
  deriving DecidableEq, Repr

end Sys2Proof
end

