-- ==== Sys2Proof/Syntax.lean ====
section
/-! DEFINITION. The commands of the Q9: one constructor per row of spec/opcode_table.json, with the row's operands. -/

namespace Sys2Proof

/-- The commands. -/
inductive Instr where
  /-- REGISTER_WRITE (R15): A write to a register that has no row of its own sets its fields, or is refused outside its window, under its access type and commit point. -/
  | registerWrite (who : Requester) (width : Nat) (addr : Nat) (value : Word)
  /-- READ_LO_CAPTURE (R10): A read of a _LO register captures its _HI word for the next _HI read. -/
  | readLoCapture (who : Requester) (addr : Nat)
  /-- WRITE_LO_HOLD (R10): A write of a _LO register holds the value until the _HI write. -/
  | writeLoHold (who : Requester) (addr : Nat) (value : Word)
  /-- WRITE_HI_APPLY (R10): A write of a _HI register applies both words together, with the low word in force when no _LO write is held. -/
  | writeHiApply (who : Requester) (addr : Nat) (value : Word)
  /-- RC_COUNTER_READ (R14): A read of an RC field returns its value and clears it, keeping an increment of the same cycle for the next read. -/
  | rcCounterRead (who : Requester) (addr : Nat)
  /-- TIME_NOW_CAPTURE (R371): A read of TIME_NOW_S_LO captures TIME_NOW_S_HI, TIME_NOW_NS and TIME_NOW_FRAC at the same instant. -/
  | timeNowCapture (who : Requester)
  /-- TE_STAMP_CAPTURE (R357): A read of PANEL_TES_LO captures PANEL_TES_HI and PANEL_TENS of the same TE edge. -/
  | teStampCapture (who : Requester)
  /-- GEOM_WORD_WRITE (R40): A write of GEOM_Wn replaces one word of the staged descriptor copy, or is refused outside its window or while PENDING is 1. -/
  | geomWordWrite (who : Requester) (word : Fin 16) (value : Word)
  /-- GEOM_ARM (R40): GEOM_CTRL.ARM offers the staged descriptor at the next presentation fence and sets PENDING. -/
  | geomArm (who : Requester)
  /-- GEOM_DISCARD (R43): GEOM_CTRL.DISCARD returns the staged copy to the descriptor in force and clears PENDING. -/
  | geomDiscard (who : Requester)
  /-- CELL_PARITY_ERROR (R49): A parity error in a cell's local store or register file starts a replay or a retirement of the cell. -/
  | cellParityError (block : Fin 64) (hit : ParityHit)
  /-- WORK_ITEM_WATCHDOG (R50): A work item not complete after 2 ms is treated as a failed replay, and BLK_HANG is raised. -/
  | workItemWatchdog (block : Fin 64) (cell : Fin 16)
  /-- WORK_ITEM_DISPATCH (R51): The block scheduler gives a waiting work item to the first idle cell that is not retired, in rotating order. -/
  | workItemDispatch (run : ItemRun)
  /-- BLOCK_ECC_ERROR (R52): A block-buffer ECC error is corrected, or it poisons dependent results and the work item is reissued once. -/
  | blockEccError (block : Fin 64) (cell : Fin 16) (double : Bool)
  /-- RG_BLKCTRL_ISOLATE (R53): A write of RG_BLKCTRL.ISOLATE declares the selected local blocks failed. -/
  | rgBlkctrlIsolate (who : Requester) (region : Fin 16) (mask : Fin 16)
  /-- SRAM_ECC_ERROR (R55): An ECC error in region SRAM is corrected, or it poisons dependent data. -/
  | sramEccError (region : Fin 16) (kernelArea : Bool) (double : Bool) (block : Fin 64) (cell : Fin 16)
  /-- SPARE_READY (R62): A spare block finishes powering and loading its kernels, and SPARE_READY is raised. -/
  | spareReady (block : Fin 64)
  /-- SPARE_SWAPPED (R62): At the first frame boundary after SPARE_READY, the spare takes the failed block's role. -/
  | spareSwapped (block : Fin 64)
  /-- RM_SILENT (R57): A region error manager that has not answered for 10 ms moves the Q9 to SAFE. -/
  | rmSilent (region : Fin 16)
  /-- RB_ROLE_WRITE (R90): A write of RB_ROLEn sets or keeps the OFF overrides of the next load, or is refused whole. -/
  | rbRoleWrite (who : Requester) (index : Fin 8) (value : Word)
  /-- IMAGE_LOAD (R91): IMG_CTRL.LOAD starts validation of an image from a flash slot or from the load buffer. -/
  | imageLoad (who : Requester) (source : Fin 4)
  /-- IMAGE_VALIDATION_DONE (R84): Validation of an image ends, and the image is applied or rejected. -/
  | imageValidationDone (flashError : Bool) (selfTestFails : List Nat)
  /-- HELLO (R104): A HELLO request opens a session in the opening state and is answered with a device nonce. -/
  | hello (d : KcpDatagram)
  /-- AUTH (R106): An AUTH request with SEQ 1 completes the opening of a session. -/
  | auth (d : KcpDatagram)
  /-- KCP_READ (R113): A READ request reads consecutive registers. -/
  | kcpRead (d : KcpDatagram)
  /-- KCP_WRITE (R113): A WRITE request writes consecutive registers in ascending order, stopping at the first failure. -/
  | kcpWrite (d : KcpDatagram)
  /-- KCP_BATCH (R115): A BATCH request performs a list of read, write and masked-write items, optionally all or nothing. -/
  | kcpBatch (d : KcpDatagram)
  /-- DECLARE (R119): The DECLARE action moves an object from UNDECLARED to DECLARED and resets its binding registers. -/
  | declare (src : Source) (kind id : Nat)
  /-- BIND (R120): The BIND action checks and takes the binding registers and takes leases, moving the object to BOUND. -/
  | bind (src : Source) (kind id : Nat)
  /-- ARM (R121): The ARM action moves a BOUND object to ARMED, first repeating BIND when a binding register has changed. -/
  | arm (src : Source) (kind id : Nat)
  /-- DISARM (R122): The DISARM action moves an ARMED object to BOUND, with CASCADE first disarming the objects that name it. -/
  | disarm (src : Source) (kind id : Nat) (cascade : Bool)
  /-- UNBIND (R119): The UNBIND action moves a BOUND object to DECLARED and makes the release of its leases pending. -/
  | unbind (src : Source) (kind id : Nat)
  /-- UNDECLARE (R119): The UNDECLARE action removes a DECLARED object. -/
  | undeclare (src : Source) (kind id : Nat)
  /-- SYNC (R126): A COMMIT SYNC waits for the next presentation fence and is answered with its time. -/
  | sync (d : KcpDatagram)
  /-- SYNC_TIMEOUT (R126): A SYNC that sees no fence within 1 s is answered with TIMEOUT. -/
  | syncTimeout (slot : Fin 8) (seq : Nat)
  /-- UNKNOWN_OPCODE (R100): A request with an unknown OPCODE is answered with status OPCODE. -/
  | unknownOpcode (d : KcpDatagram) (opcode : Nat)
  /-- BULK_PUT (R129): A BULK_PUT chunk opens a transfer or continues one, and writes its data into the target. -/
  | bulkPut (d : KcpDatagram)
  /-- BULK_END (R130): An END chunk checks completeness and the CRC, decompresses a fuller transfer, and closes the transfer. -/
  | bulkEnd (d : KcpDatagram)
  /-- BULK_GET (R132): A BULK_GET request reads one range out of a target. -/
  | bulkGet (d : KcpDatagram)
  /-- BULK_TIMEOUT (R130): A transfer that sees no chunk for 10 s is discarded. -/
  | bulkTimeout (slot : Fin 8) (transfer : Nat)
  /-- SESSION_OPEN_TIMEOUT (R106): An opening session that receives no AUTH within 1 s of the HELLO response is closed. -/
  | sessionOpenTimeout (slot : Fin 8)
  /-- SESSION_IDLE_TIMEOUT (R107): A session that receives no valid request for KCP_IDLE.SECONDS is closed. -/
  | sessionIdleTimeout (slot : Fin 8)
  /-- SEQ_GAP_TIMEOUT (R109): A request held for 20 ms behind a gap in SEQ is answered with SEQ_GAP without being executed. -/
  | seqGapTimeout (slot : Fin 8) (seq : Nat)
  /-- EVENT_SEND (R502): The Q9 sends an EVENT snapshot to a bound host channel when a newly visible source appears. -/
  | eventSend (channel : Fin 4)
  /-- EVENT_RETRANSMIT (R111): An EVENT unacknowledged for 2 ms is resent with a new snapshot, and the session closes after the 8th send. -/
  | eventRetransmit (channel : Fin 4)
  /-- EVENT_REPEAT (R502): After REPEAT_MS without acknowledgement while the channel stays asserted, a new EVENT is sent. -/
  | eventRepeat (channel : Fin 4)
  /-- EVENT_ACK (R111): Host software acknowledges an EVENT with a response of the same SEQ. -/
  | eventAck (d : KcpDatagram)
  /-- ETH_FRAME_RECEIVE (R135): A frame received on a port is checked for length, FCS, VLAN and IP rules, then delivered or discarded. -/
  | ethFrameReceive (port : Fin 4) (frame : EthFrame)
  /-- PFC_FRAME_RECEIVE (R137): A received PFC frame pauses or resumes transmission of the enabled priorities. -/
  | pfcFrameReceive (port : Fin 4) (mask : Nat) (quanta : List Nat)
  /-- PFC_XON (R137): A receive queue that falls below 25 % makes the port send PFC XON. -/
  | pfcXon (port : Fin 4) (priority : Fin 8) (fill : Nat)
  /-- ADDRESS_REQUEST_REPLY (R138): The port answers an ARP request, an IPv6 neighbour solicitation or an ICMP echo request for its addresses. -/
  | addressRequestReply (port : Fin 4) (request : AddressRequest)
  /-- ETH_LINK_UP (R158): An Ethernet port's link comes up and LINK_UP is raised. -/
  | ethLinkUp (port : Fin 4)
  /-- ETH_LINK_DOWN (R142): An Ethernet port's link goes down, LINK_DOWN is raised, and a PRIMARY port is declared lost. -/
  | ethLinkDown (port : Fin 4)
  /-- PRIMARY_TIMEOUT (R142): A PRIMARY port without batts for ETH_ROLE.TIMEOUT ms while named by an armed stream is declared lost. -/
  | primaryTimeout (port : Fin 4)
  /-- ETH_CFG_WRITE (R143): A write of ETH_CFG takes the new settings, and a change of SPEED restarts the link at the new rate. -/
  | ethCfgWrite (who : Requester) (port : Fin 4) (value : Word)
  /-- ETH_ROLE_WRITE (R143): A write of ETH_ROLE changes the port's partner role, or is refused while an armed stream or the confidence output names the port. -/
  | ethRoleWrite (who : Requester) (port : Fin 4) (value : Word)
  /-- ETH_IP6_WRITE (R138): A write of ETH_IP6_3 puts the IPv6 address of the four words into effect. -/
  | ethIp6Write (who : Requester) (port : Fin 4) (value : Word)
  /-- BATT_RECEIVE (R145): A batt datagram is checked and either placed into its unit in the jitter buffer or discarded and counted. -/
  | battReceive (port : Fin 4) (datagram : BattDatagram)
  /-- UNIT_DEADLINE (R150): A unit's deadline passes, and the unit becomes releasable whether complete or not. -/
  | unitDeadline (stream : Fin 64)
  /-- UNIT_REQUEST (R379): Once Q9 time reaches launch time minus PIPE_US, the consumer asks the jitter buffer for the unit. -/
  | unitRequest (stream : Fin 64)
  /-- NAL_UNIT_PARSE (R164): The header parser or firmware parses one NAL unit: parameter sets, slice headers, RPS and row tasks. -/
  | nalUnitParse (context : Fin 4) (nal : NalBody) (bad : Bool)
  /-- ROW_TASK_DISPATCH (R174): An idle decode engine takes the ready row task that comes first in decoding order. -/
  | rowTaskDispatch (past2 : List (Fin 8))
  /-- ROW_TASK_COMPLETE (R173): A decode engine completes a row task, which can make further rows ready. -/
  | rowTaskComplete (engine : Fin 8) (result : RowResult)
  /-- CTU_CONCEAL (R194): Once its sources are final, a CTU is concealed by borrowing, temporal copy or fill. -/
  | ctuConceal (context : Fin 4) (slot ctu : Nat)
  /-- SLOT_WAIT_TIMEOUT (R172): A picture that finds no free slot within 5 ms is treated as absent and SLOT_EXHAUST is raised. -/
  | slotWaitTimeout (context : Fin 4)
  /-- DECODE_PARITY_ERROR (R177): A decode engine parity error reissues the row, or takes the engine out of service on a second error. -/
  | decodeParityError (engine : Fin 8)
  /-- HP_PARITY_ERROR (R182): A header-parser parity error raises HP_FAULT and moves every context to firmware header mode. -/
  | hpParityError
  /-- INSTANT_START (R227): A carding instant starts once its key views, seam wait and a work-pool half are available, and converts its samples. -/
  | instantStart (layer : Fin 64)
  /-- CARD_TILE_COMPLETE (R228): A carding tile completes and its rays reach the conformer. -/
  | cardTileComplete (block : Fin 64) (cell : Fin 16)
  /-- SEAM_WAIT_TIMEOUT (R232): An instant whose seam strips have not arrived by WAIT_US proceeds without them and raises SEAM_MISS. -/
  | seamWaitTimeout (layer : Fin 64)
  /-- MAP_ARM (R245): CONF_MAPCTRL.ARM copies a host map into the inactive map copy and starts its checks. -/
  | mapArm (who : Requester)
  /-- MAP_CHECK_DONE (R245): The checks of a copied map end, setting READY or rejecting the map. -/
  | mapCheckDone
  /-- MAP_DISCARD (R246): CONF_MAPCTRL.DISCARD drops the map being loaded and clears PENDING and READY. -/
  | mapDiscard (who : Requester)
  /-- COLOUR_ARM (R255): CONF_COLCTRL.ARM offers the staged colour set at the next fence. -/
  | colourArm (who : Requester)
  /-- COLOUR_DISCARD (R255): CONF_COLCTRL.DISCARD returns the staged colour set to the set in force. -/
  | colourDiscard (who : Requester)
  /-- CONF_STAGE_WRITE (R259): A write of CONF_STAGE selects the staging pool and slot count and leaves the reference undefined. -/
  | confStageWrite (who : Requester) (value : Word)
  /-- RAY_FRAME_START (R260): The conformer starts the next ray frame once a slot is free. -/
  | rayFrameStart
  /-- CONF_ITEM_COMPLETE (R261): A conformer work item of one hogel tile completes its codes and nap-map bits. -/
  | confItemComplete (block : Fin 64) (cell : Fin 16)
  /-- PLANK_START (R277): PLK_CTRL.START checks the operation and starts it, or completes it EMPTY, or refuses it. -/
  | plankStart (who : Requester) (engine : Fin 2)
  /-- PLANK_ABORT (R281): PLK_CTRL.ABORT stops the running operation within 2 µs with RESULT ABORTED. -/
  | plankAbort (who : Requester) (engine : Fin 2)
  /-- PLANK_BAND_COMPLETE (R279): The plank engine completes one 16-line band of its operation. -/
  | plankBandComplete (engine : Fin 2)
  /-- OV_FRONT_WRITE (R287): A write of OV_FRONT stages a front-buffer change for the next fence. -/
  | ovFrontWrite (who : Requester) (overlay : Fin 16) (value : Word)
  /-- LINK_CFG_WRITE (R312): A write of LNK_CFG that is taken begins attempt 1, or moves the link to OFF when ENABLE is 0. -/
  | linkCfgWrite (who : Requester) (link : Fin 5) (value : Word)
  /-- LINK_RETRAIN (R312): LNK_CTRL.RETRAIN begins attempt 1 and clears EXCLUDED. -/
  | linkRetrain (who : Requester) (link : Fin 5)
  /-- IDLE_RECEIVE (R302): A received IDLE set counts towards symbol lock on its lane. -/
  | idleReceive (link : Fin 5) (lane : Fin 8) (ordered : IdleSet)
  /-- ALIGN_RECEIVE (R299): A received ALIGN set deskews the lanes and carries READY, STEP and RATES from the partner. -/
  | alignReceive (link : Fin 5) (lane : Fin 8) (ordered : AlignSet) (skew : Nat) (train : Bool)
  /-- SKIP_RECEIVE (R304): A received SKIP set compensates clock difference by insertion or deletion and deskews again. -/
  | skipReceive (link : Fin 5) (inserted deleted : Nat)
  /-- CODE_GROUP_ERROR (R296): An invalid, disallowed or wrong-disparity code group is counted and passed on as an error marker. -/
  | codeGroupError (link : Fin 5) (lane : Fin 8) (group : CodeGroup)
  /-- SIGNAL_DETECT_RISE (R310): A rising signal detect on a receive lane of a DOWN link begins training at attempt 1. -/
  | signalDetectRise (link : Fin 5) (lane : Fin 8)
  /-- SIGNAL_DETECT_FALL (R301): Signal detect de-asserts after 1 µs below 40 mVppd and the lane loses symbol lock. -/
  | signalDetectFall (link : Fin 5) (lane : Fin 8)
  /-- ATTEMPT_TIMEOUT (R309): An attempt not UP or NEGOTIATE within 10 ms fails and leads to BACKOFF or DOWN. -/
  | attemptTimeout (link : Fin 5)
  /-- BACKOFF_END (R309): The gap before the next attempt ends, and training begins again. -/
  | backoffEnd (link : Fin 5)
  /-- STEP_ECHO_TIMEOUT (R314): A Band-1 step that the panel does not echo within 1 ms leaves the link UP at 3.125 Gbaud with RATE_FALLBACK. -/
  | stepEchoTimeout (link : Fin 5)
  /-- SILENT_END (R313): 100 µs after the last ALIGN with STEP, training begins at the new rate. -/
  | silentEnd (link : Fin 5)
  /-- LANE_PERIOD_START (R298): A new lane period begins with ALIGN, and the HOLD or TRAIN sets due in it are placed. -/
  | lanePeriodStart (link : Fin 5)
  /-- IDLE_TRAIN_DUE (R306): After 65,536 idle-class symbol times a TRAIN burst is sent in the next lane period. -/
  | idleTrainDue (link : Fin 5)
  /-- ADAPT_FREEZE (R305): After 1,024 idle-class symbols, a receiver freezes equaliser adaptation and sets FROZEN. -/
  | adaptFreeze (link : Fin 5) (lane : Fin 8)
  /-- LNK_PRESET_WRITE (R317): A write of the LNK_PRESETn of the band in force applies the preset with a TRAIN burst. -/
  | lnkPresetWrite (who : Requester) (n : Fin 4) (value : Word)
  /-- TE_RISING_EDGE (R340): A rising edge of PANEL_TE is timestamped and measured, and marks a flip opportunity. -/
  | teRisingEdge
  /-- TE_FALLING_EDGE (R340): A falling edge of PANEL_TE ends the TE pulse and closes the guard window. -/
  | teFallingEdge
  /-- TE_TIMEOUT (R340): No rising edge for 4 × PANEL_TEPER clears TE_OK and raises TE_LOST. -/
  | teTimeout
  /-- FENCE_SAMPLE (R373): At F(E), the staged values are sampled and taken into force for the fence at E. -/
  | fenceSample
  /-- BUILD_DEADLINE (R381): At the build deadline of a target edge, the conformer starts the frame without late instants. -/
  | buildDeadline
  /-- FRAME_BEGIN_SEND (R382): The Q9 sends FRAME_BEGIN for the chosen READY frame once its conditions for the target edge hold. -/
  | frameBeginSend
  /-- REGION_PUSH_START (R332): A region push starts once its prefetch data is on chip. -/
  | regionPushStart (feed : PushFeed)
  /-- PUSH_UNDERRUN (R344): Data not on chip when a data position is due ends the push with ABORT REASON 0x01. -/
  | pushUnderrun
  /-- FRAME_COMMIT_SEND (R337): FRAME_COMMIT is sent when its end set completes before the guard window, or after the window closes. -/
  | frameCommitSend
  /-- STATUS_FRAME_RECEIVE (R351): A STATUS return frame updates the panel state and drives commits, resends, restarts and holds. -/
  | statusFrameReceive (frame : List Byte)
  /-- CAPS_FRAME_RECEIVE (R353): A CAPS body is checked against the descriptor and sets CAPS_OK or MISMATCH. -/
  | capsFrameReceive (frame : List Byte)
  /-- CAP_QUERY_RETRY (R353): Without a CAPS answer, CAP_QUERY is repeated 1 ms later, up to three queries. -/
  | capQueryRetry
  /-- PANEL_QUERY (R353): PANEL_CTRL.QUERY runs panel discovery with CAP_QUERY. -/
  | panelQuery (who : Requester)
  /-- STATUS_LOST (R354): No valid return frame for 5 ms while UP raises STATUS_LOST and takes BSTATE as invalid. -/
  | statusLost
  /-- ABORT_STATUS_TIMEOUT (R346): No STATUS within 100 µs after an abort makes the Q9 take BSTATE as 0x3 and restart. -/
  | abortStatusTimeout
  /-- HOLD_WAIT_TIMEOUT (R517): 1 ms after HOLD without a HOLDING status, the panel link is stopped and the TX groups switched off. -/
  | holdWaitTimeout
  /-- PTP_ANNOUNCE_RECEIVE (R363): An Announce message feeds the best master clock algorithm. -/
  | ptpAnnounceReceive (h : PtpHeader) (grandmaster : List Nat) (stepsRemoved : Nat)
  /-- PTP_SYNC_RECEIVE (R364): A Sync message is timestamped at the PCS boundary for an offset measurement. -/
  | ptpSyncReceive (h : PtpHeader) (twoStep : Bool) (seconds ns : Nat) (correction : Int)
  /-- PTP_FOLLOW_UP_RECEIVE (R364): A Follow_Up message supplies a two-step master's origin time. -/
  | ptpFollowUpReceive (h : PtpHeader) (seconds ns : Nat) (correction : Int)
  /-- PTP_DELAY_RESP_RECEIVE (R364): A Delay_Resp completes one offset measurement that drives the servo. -/
  | ptpDelayRespReceive (h : PtpHeader) (clock portNumber seconds ns : Nat) (correction : Int)
  /-- DELAY_REQ_SEND (R362): A Delay_Req is sent to the master at the interval of its Delay_Resp. -/
  | delayReqSend
  /-- ANNOUNCE_TIMEOUT (R363): announceReceiptTimeout expires, the master is lost, and another is chosen or HOLDOVER entered. -/
  | announceTimeout
  /-- PTP_MANAGEMENT_RECEIVE (R362): A PTP management message is discarded. -/
  | ptpManagementReceive (h : PtpHeader)
  /-- SAMPLE_MAP_BUILT (R395): The ENCASSIST blocks finish a sample map, which takes force and raises SEL_TAKEN. -/
  | sampleMapBuilt
  /-- ENC_ROW_COMPLETE (R404): The encoder completes one CTU row and budgets the next. -/
  | encRowComplete (bits : Nat) (bytes : List Byte)
  /-- ENC_BATT_SEND (R408): A confidence batt leaves at its paced earliest time, or is dropped while the port's link is down. -/
  | encBattSend
  /-- AFL_HELLO_RECEIVE (R421): A received HELLO checks the wiring and refreshes the sender's membership. -/
  | aflHelloReceive (link : Fin 4) (codeError : Bool) (frame : List Byte)
  /-- AFL_PLAN_RECEIVE (R425): A PLAN token names the target edge and launch time for the next frame. -/
  | aflPlanReceive (link : Fin 4) (codeError : Bool) (frame : List Byte)
  /-- GO_COMMIT (R425): GO with ACTION 0x0 makes each device commit its open frame. -/
  | goCommit (link : Fin 4) (codeError : Bool) (frame : List Byte)
  /-- GO_DEFER (R425): GO with ACTION 0x1 keeps frames open for the next edge and counts a deferral. -/
  | goDefer (link : Fin 4) (codeError : Bool) (frame : List Byte)
  /-- GO_FORCE (R425): GO with ACTION 0x2 commits complete devices and discards the rest. -/
  | goForce (link : Fin 4) (codeError : Bool) (frame : List Byte)
  /-- AFL_DONE_RECEIVE (R425): The leader records a DONE from a device for the target edge. -/
  | aflDoneReceive (link : Fin 4) (codeError : Bool) (frame : List Byte)
  /-- AFL_EVENT_RECEIVE (R431): The leader stores a member's pending-word snapshot and raises REMOTE_EVENT for newly set bits. -/
  | aflEventReceive (link : Fin 4) (codeError : Bool) (frame : List Byte)
  /-- AFL_SEAM_RECEIVE (R429): A SEAM frame is matched to the receiver's instant, or ignored as SEAM_BAD. -/
  | aflSeamReceive (link : Fin 4) (codeError : Bool) (frame : List Byte)
  /-- AFL_HELLO_SEND (R420): Every 1 ms each device sends HELLO on every UP link. -/
  | aflHelloSend
  /-- AFL_LOSS_TIMEOUT (R422): No HELLO from the leader or a member for LOST_MS declares it lost. -/
  | aflLossTimeout (device : Fin 4)
  /-- AFL_GO_SEND (R425): At F(E) − GO_US the leader sends GO with commit, defer or force. -/
  | aflGoSend
  /-- AFL_EVENT_SEND (R431): A member sends its pending words within 100 µs of a change and at least every 10 ms. -/
  | aflEventSend
  /-- HBM_REQUEST (R438): A memory request enters its bank queue, stalling its pseudo-channel input when the queue is full. -/
  | hbmRequest (id : Nat) (write : Bool) (m : Nat) (data : List Byte)
  /-- HBM_READ_RETURN (R447): A read column word returns and its ECC is checked. -/
  | hbmReadReturn (pc : Fin 64) (ecc : Fin 3)
  /-- HBM_REFRESH_DUE (R443): tREFI expires for a pseudo-channel and an all-bank refresh is issued. -/
  | hbmRefreshDue (pc : Fin 64)
  /-- HBM_FREQCTL_WRITE (R450): A write of HBM_FREQCTL.TARGET makes a rate change pending, or is refused. -/
  | hbmFreqctlWrite (who : Requester) (stack : Fin 2) (value : Word)
  /-- HBM_FREQ_CHANGE_START (R452): A pending rate change starts when no panel push is in progress. -/
  | hbmFreqChangeStart (stack : Fin 2)
  /-- HBM_FREQ_CHANGE_DONE (R452): The stack exits self-refresh at the new rate and held requests are released. -/
  | hbmFreqChangeDone (stack : Fin 2)
  /-- XLAT_REQUEST (R465): An engine request is checked for generation, mapping and permission, and faults at the first failure. -/
  | xlatRequest (ctx : Fin 64) (ca : Nat) (write : Bool) (lease : Option (Nat × Nat)) (block : Fin 64) (cell : Fin 16)
  /-- XLAT_RELEASE (R463): A write of XLAT_RELEASE disarms, unbinds and forcibly releases an object's leases. -/
  | xlatRelease (who : Requester) (value : Word)
  /-- FORCED_RELEASE_DRAINED (R464): Old-generation requests finish and the forced release completes. -/
  | forcedReleaseDrained
  /-- LEASE_RELEASE_COMPLETE (R462): A pending release completes at the first fence after its holder count reaches 0. -/
  | leaseReleaseComplete (entry : Fin 256)
  /-- XLAT_PROBE (R456): A write of XLAT_PROBE_HI walks a context's table and records the leaf entry. -/
  | xlatProbe (who : Requester) (value : Word)
  /-- ENGINE_RESUME (R474): A parked engine resumes from its save area after checking it. -/
  | engineResume (context : Fin 64)
  /-- FULLER_START (R484): FUL_CTRL.START checks a host job and starts it or lets it wait. -/
  | fullerStart (who : Requester) (engine : Fin 2)
  /-- FULLER_ABORT (R488): FUL_CTRL.ABORT stops the host job within 2 µs with RESULT ABORTED. -/
  | fullerAbort (who : Requester) (engine : Fin 2)
  /-- FULLER_BLOCK_DONE (R485): A fuller engine completes a 64 KiB block, where it may park. -/
  | fullerBlockDone (engine : Fin 2)
  /-- EVT_CLAIM (R496): A write of EVT_CLAIM claims a pending source. -/
  | evtClaim (who : Requester) (value : Word)
  /-- EVT_DONE (R497): A write of EVT_DONE completes an active source or counts a stray completion. -/
  | evtDone (who : Requester) (value : Word)
  /-- EVT_PEND_CLEAR (R494): A write of 1 to an EVT_PENDn bit clears the PENDING of an edge source. -/
  | evtPendClear (who : Requester) (word : Fin 32) (value : Word)
  /-- EVT_SWSET (R504): A write of EVT_SWSET raises software edge sources. -/
  | evtSwset (who : Requester) (value : Word)
  /-- EVT_SWLEVEL (R504): A write of EVT_SWLEVEL sets or clears the conditions of software level sources. -/
  | evtSwlevel (who : Requester) (value : Word)
  /-- EVT_HOST_WRITE (R500): A write of EVT_HOSTn binds or unbinds a host channel and sets REPEAT_MS. -/
  | evtHostWrite (who : Requester) (channel : Fin 4) (value : Word)
  /-- HOLDOFF_WINDOW_END (R501): A group's hold-off window ends and its held sources are released. -/
  | holdoffWindowEnd (group : Fin 64)
  /-- ERRLOG_ENTRY_WRITE (R507): A queued entry is written to the ring 1 µs after its time. -/
  | errlogEntryWrite
  /-- ERRLOG_RD_WRITE (R508): A write of ERRLOG_RD frees read entries of the ring. -/
  | errlogRdWrite (who : Requester) (value : Word)
  /-- MODE_REQUEST (R513): A write of CHIP_MODEREQ or a KCP MODE request starts a permitted transition or is refused. -/
  | modeRequest (src : Source) (mode : Fin 16)
  /-- MODE_TRANSITION_COMPLETE (R515): A mode transition completes and MODE_CHANGED is raised. -/
  | modeTransitionComplete
  /-- HOUSEKEEPING_ROUND (R524): Every 10 ms all sensors and rails are read and thermal decisions are applied. -/
  | housekeepingRound (readings : List (Option Int)) (railWarn railFault : Fin 128)
  /-- FAST_SENSOR_READ (R524): Every 500 µs sensors near a threshold are read again and thermal decisions are applied. -/
  | fastSensorRead (readings : List (Option Int))
  /-- DVFS_CHANGE_DONE (R519): A ray-block clock and voltage change completes within 50 µs. -/
  | dvfsChangeDone (block : Fin 64)
  /-- SIZING_STAGE (R543): SIZ_CTRL OP 0x1 copies a set from a pool and starts its checks. -/
  | sizingStage (who : Requester)
  /-- SIZING_WRITE (R543): SIZ_CTRL OP 0x2 builds the set in force and programs it into the other flash copy. -/
  | sizingWrite (who : Requester)
  /-- SIZING_DISCARD (R543): SIZ_CTRL OP 0x3 drops staged records that have not yet taken force. -/
  | sizingDiscard (who : Requester)
  /-- SIZING_STAGE_DONE (R539): The checks of a staged set end and the set is staged whole or rejected. -/
  | sizingStageDone
  /-- SIZING_WRITE_DONE (R543): A flash write of the sizing set ends after read-back and comparison. -/
  | sizingWriteDone (agrees : Bool)
  /-- ETH_LOOP_WRITE (R548): A write of ETH_LOOP sets a port loopback mode and clears its counters. -/
  | ethLoopWrite (who : Requester) (port : Fin 4) (value : Word)
  /-- ETH_LOOP_TIMEOUT (R548): TIMEOUT_S after MODE was written, the port loopback returns to mode 0x0. -/
  | ethLoopTimeout (port : Fin 4)
  /-- LNK_LOOP_WRITE (R549): A write of LNK_LOOP sets a lane loopback mode, stopping or restarting the link state machine. -/
  | lnkLoopWrite (who : Requester) (link : Fin 5) (value : Word)
  /-- HBM_PHY_LOOPBACK (R552): HBM_TEST OP 0x1 runs a PHY loopback test. -/
  | hbmPhyLoopback (who : Requester) (controller : Fin 32)
  /-- HBM_CTRL_LOOPBACK (R552): HBM_TEST OP 0x2 runs a controller data loopback test. -/
  | hbmCtrlLoopback (who : Requester) (controller : Fin 32)
  /-- HBM_MBIST (R553): HBM_TEST OP 0x3 starts March C− over every word of the controller's pseudo-channels. -/
  | hbmMbist (who : Requester) (controller : Fin 32)
  /-- HBM_MBIST_DONE (R553): MBIST completes and the Q9 treats HBM content as lost and rebuilds its state. -/
  | hbmMbistDone (controller : Fin 32) (failure : Option (Fin 2 × Fin 48 × Fin 16384))
  /-- DEC_SELFTEST_START (R554): DEC_SELFTEST.START decodes the golden stream in both header modes on every engine. -/
  | decSelftestStart (who : Requester) (pool : Fin 64)
  /-- DEC_SELFTEST_DONE (R555): The golden-stream test ends and failing engines or the header parser are taken out of service. -/
  | decSelftestDone (fails : Fin 256) (headerParser : Bool)
  /-- RESET_ASSERT (R573): RESET_N held low resets the Q9 and idles every lane transmitter. -/
  | resetAssert (lowNs : Nat)
  /-- RESET_RELEASE (R574): The release of RESET_N samples the straps and runs the boot sequence. -/
  | resetRelease (tileId : Fin 4) (flashSdr testEn sfdp : Bool) (trains0 trains1 : Fin 16)
  /-- REFCLK_SYS_LOSS (R568): REFCLK_SYS stopping for more than 10 µs resets the Q9 as by RESET_N. -/
  | refclkSysLoss
  /-- REFCLK_SYS_RETURN (R568): The return of REFCLK_SYS restarts the boot timeline. -/
  | refclkSysReturn (tileId : Fin 4) (flashSdr testEn sfdp : Bool) (trains0 trains1 : Fin 16)
  /-- ALIGN_MISSING (R303): ALIGN missing at its position on a receive lane in two consecutive periods makes the link lose deskew, and an UP link leaves UP. -/
  | alignMissing (link : Fin 5) (lane : Fin 8)
  /-- TRAINING_PHASE_END (R308): 2 ms after an attempt starts, the lanes stop sending back-to-back TRAIN bursts and begin IDLE, ALIGN and SKIP. -/
  | trainingPhaseEnd (link : Fin 5)
  /-- REFCLK_LANE_LOSS (R568): REFCLK_LANE stops, the lane receivers lose lock under R311, and attempts fail until the clock returns. -/
  | refclkLaneLoss
  /-- HBM_WRITE_WAIT_EXPIRY (R441): A pseudo-channel's oldest write has waited 2 µs, and the pseudo-channel turns from reads to writes. -/
  | hbmWriteWaitExpiry (pc : Fin 64)
  /-- TEST_PATTERN_RECEIVE (R550): A received test-pattern data symbol moves the lane checker towards SYNC, clears SYNC after 4 errors in a lane period, or counts an error in ERRORS. -/
  | testPatternReceive (link : Fin 5) (lane : Fin 96) (correct : Bool)
  /-- HBM_LOOPBACK_TEST_DONE (R552): An HBM PHY or controller data loopback test ends, and HBM_TESTSTAT.RESULT leaves running with passed or failed. -/
  | hbmLoopbackTestDone (controller : Fin 32) (passed : Bool)
  /-- POWER_DOMAIN_UP (R582): An on-demand power domain finishes powering up, and the work that was waiting for it, such as an accepted plank START or fuller job, begins. -/
  | powerDomainUp (domain : Fin 120)
  /-- CC_RESTART (R534): A control core's watchdog expires, the core is restarted, and source 970 is raised. -/
  | ccRestart (core : Fin 4)
  /-- CONTROL_CORE_MEMORY_ERROR (R531): An uncorrectable error in control-core memory makes the chip error manager enter SAFE with cause 0x06 and raise FATAL. -/
  | controlCoreMemoryError
  /-- TAP_OPERATION (R556): TCK, TMS, TDI and TRST_N drive the IEEE 1149.1 TAP, and the boundary-scan instructions act on the balls in any mode or reset state. -/
  | tapOperation (op : TapOp)
  deriving DecidableEq, Repr

end Sys2Proof
end

