-- ==== Sys2Proof/Decode.lean ====
section
/-! DEFINITION. The word a table row spells. No row of spec/opcode_table.json gives bits: the commands of the Q9 are
operations and events of a block, so no word spells one. -/

namespace Sys2Proof

/-- The command that a word of nbits bits spells: none, since the table gives no row an encoding. -/
def decodeTableWord (_nbits _w : Nat) : Option Instr := none

end Sys2Proof
end

