-- ==== Sys2Proof/Machine/Bits.lean ====
section
/-! DEFINITION. Bit fields, byte order and two's complement: the bit-field notation of spec/00_scope.md R4 and
the little-endian layout of R5 (network headers keep the standard's big-endian order). -/

namespace Sys2Proof.Machine

/-- Bits [hi:lo] of n (R4). -/
def slice (n hi lo : Nat) : Nat := (n >>> lo) % 2 ^ (hi + 1 - lo)

/-- n with bits [hi:lo] replaced by the low bits of v (R4). -/
def place (n hi lo v : Nat) : Nat :=
  n - slice n hi lo * 2 ^ lo + (v % 2 ^ (hi + 1 - lo)) * 2 ^ lo

/-- 1 for true, 0 for false: the value of a one-bit field. -/
def bit (b : Bool) : Nat := if b then 1 else 0

/-- The unsigned value of little-endian bytes (R5). -/
def leNat : List Byte → Nat
  | [] => 0
  | b :: t => b.toNat + 256 * leNat t

/-- The low k bytes of n, little-endian (R5). -/
def leBytes (n : Nat) : Nat → List Byte
  | 0 => []
  | k + 1 => BitVec.ofNat 8 (n % 256) :: leBytes (n / 256) k

/-- The unsigned value of big-endian bytes (network order, R5). -/
def beNat (bs : List Byte) : Nat := bs.foldl (fun a b => a * 256 + b.toNat) 0

/-- The low k bytes of n, big-endian (network order, R5). -/
def beBytes (n k : Nat) : List Byte := (leBytes n k).reverse

/-- The k bytes of bs from offset i, as an unsigned little-endian value. -/
def leAt (bs : List Byte) (i k : Nat) : Nat := leNat ((bs.drop i).take k)

/-- The k bytes of bs from offset i, as an unsigned big-endian value. -/
def beAt (bs : List Byte) (i k : Nat) : Nat := beNat ((bs.drop i).take k)

/-- The two's complement value of a w-bit pattern. -/
def signedOf (w n : Nat) : Int :=
  let m := n % 2 ^ w
  if m < 2 ^ (w - 1) then (m : Int) else (m : Int) - 2 ^ w

/-- The w-bit pattern of an integer in two's complement. -/
def patternOf (w : Nat) (i : Int) : Nat := (i % (2 ^ w : Nat)).toNat

/-- Ceiling division. -/
def ceilDiv (a b : Nat) : Nat := (a + b - 1) / b

/-- Every byte of a list is zero (reserved bytes, pads). -/
def allZero (bs : List Byte) : Bool := bs.all (· == 0)

/-- Consecutive naturals from start, count of them. -/
def upto (start : Nat) : Nat → List Nat
  | 0 => []
  | n + 1 => start :: upto (start + 1) n

end Sys2Proof.Machine
end

