-- ==== Sys2Proof/Machine/RegNames.lean ====
section
/-! DEFINITION. The manual's register and field names as addresses and bit ranges: R.NAME is an address, F.NAME_FIELD
a field of it (the register tables of every chapter of spec/; links are numbered 0 = panel, 1 to 4 = Afloth links 0 to 3). -/

namespace Sys2Proof.Machine

/-- A field of the register at address addr: bits hi:lo. -/
structure Field where
  addr : Nat
  hi : Nat
  lo : Nat
  deriving DecidableEq, Repr

/-- The window of link 0 (panel) or of link k + 1 (Afloth link k) (spec/09_serial_lanes.md). -/
def linkBase (link : Nat) : Nat := if link = 0 then 0x600000 else 0x700000 + 0x40 * (link - 1)

namespace R

def CHIP_ID : Nat := 0x0
def CHIP_REV : Nat := 0x4
def GEOM_W (n : Nat) : Nat := 0x400100 + 0x4 * n
def GEOM_CTRL : Nat := 0x400140
def GEOM_STATUS : Nat := 0x400144
def GEOM_RAYS : Nat := 0x400148
def GEOM_TILES : Nat := 0x40014C
def RAYH_NANCNT : Nat := 0x400150
def CHIP_EPOCH : Nat := 0x10
def IMG_CTRL : Nat := 0x14
def IMG_STATUS : Nat := 0x18
def IMG_SEQ : Nat := 0x1C
def IMG_VERSION : Nat := 0x20
def RB_ROLE (n : Nat) : Nat := 0x40 + 0x4 * n
def RG_BLKSTATE (n : Nat) : Nat := 0x1000000 + 0x100000 * n
def RG_CELLRET (n : Nat) : Nat := 0x1000004 + 0x100000 * n
def RG_BLKCTRL (n : Nat) : Nat := 0x1000008 + 0x100000 * n
def KCP_SESS (n : Nat) : Nat := 0x10000 + 0x4 * n
def KCP_AUTHFAIL : Nat := 0x10020
def KCP_DISCARD : Nat := 0x10024
def KCP_IDLE : Nat := 0x10028
def PATH_CMD : Nat := 0x10100
def PATH_STATE (n : Nat) : Nat := 0x10200 + 0x4 * n
def ETH_CFG (n : Nat) : Nat := 0x100000 + 0x10000 * n
def ETH_ROLE (n : Nat) : Nat := 0x100004 + 0x10000 * n
def ETH_STATUS (n : Nat) : Nat := 0x100008 + 0x10000 * n
def ETH_MAC_LO (n : Nat) : Nat := 0x10000C + 0x10000 * n
def ETH_MAC_HI (n : Nat) : Nat := 0x100010 + 0x10000 * n
def ETH_IP4 (n : Nat) : Nat := 0x100014 + 0x10000 * n
def ETH_IP6_ (n : Nat) (k : Nat) : Nat := 0x100018 + 0x10000 * n + 0x4 * k
def ETH_RXERR (n : Nat) : Nat := 0x100028 + 0x10000 * n
def ETH_BATTERR (n : Nat) : Nat := 0x10002C + 0x10000 * n
def STRM_CFG (s : Nat) : Nat := 0x108000 + 0x20 * s
def STRM_POOL (s : Nat) : Nat := 0x108004 + 0x20 * s
def STRM_TIMING (s : Nat) : Nat := 0x108008 + 0x20 * s
def STRM_RATE (s : Nat) : Nat := 0x10800C + 0x20 * s
def STRM_UNITS (s : Nat) : Nat := 0x108010 + 0x20 * s
def STRM_LOST (s : Nat) : Nat := 0x108014 + 0x20 * s
def STRM_LATE (s : Nat) : Nat := 0x108018 + 0x20 * s
def STRM_DUP (s : Nat) : Nat := 0x10801C + 0x20 * s
def DEC_CFG : Nat := 0x200000
def DEC_STATUS : Nat := 0x200004
def DEC_CTX_CFG (c : Nat) : Nat := 0x200100 + 0x40 * c
def DEC_CTX_SLOTS (c : Nat) : Nat := 0x200104 + 0x40 * c
def DEC_CTX_RATE (c : Nat) : Nat := 0x200108 + 0x40 * c
def DEC_CTX_FILL (c : Nat) : Nat := 0x20010C + 0x40 * c
def DEC_CTX_STATE (c : Nat) : Nat := 0x200110 + 0x40 * c
def DEC_CTX_CNT (c : Nat) (k : Nat) : Nat := 0x200114 + 0x40 * c + 0x4 * k
def DEC_SLOTSEL : Nat := 0x200200
def DEC_SLOTINFO : Nat := 0x200204
def DEC_SLOTPOC : Nat := 0x200208
def DEC_SLOTCONC : Nat := 0x20020C
def DEC_LAYERSEL : Nat := 0x200210
def DEC_LAYERSTAT : Nat := 0x200214
def CARD_LYR_SRC (l : Nat) : Nat := 0x300000 + 0x40 * l
def CARD_LYR_ORIGIN (l : Nat) : Nat := 0x300004 + 0x40 * l
def CARD_LYR_SIZE (l : Nat) : Nat := 0x300008 + 0x40 * l
def CARD_LYR_PARAM (l : Nat) : Nat := 0x30000C + 0x40 * l
def CARD_LYR_FILL (l : Nat) : Nat := 0x300010 + 0x40 * l
def CARD_LYR_SEAM (l : Nat) : Nat := 0x300014 + 0x40 * l
def CARD_LYR_LAST (l : Nat) : Nat := 0x300018 + 0x40 * l
def CARD_LYR_CNT (l : Nat) (k : Nat) : Nat := 0x30001C + 0x40 * l + 0x4 * k
def CARD_KVD (l : Nat) (n : Nat) : Nat := 0x301000 + 0x200 * l + 0x4 * n
def CARD_OV_BIND (o : Nat) : Nat := 0x309000 + 0x10 * o
def CARD_OV_POS (o : Nat) : Nat := 0x309004 + 0x10 * o
def CARD_OV_DEPTH (o : Nat) : Nat := 0x309008 + 0x10 * o
def CARD_KSET : Nat := 0x30A000
def CONF_STAGE : Nat := 0x400000
def CONF_COLOUR : Nat := 0x400004
def CONF_MATRIX (n : Nat) : Nat := 0x400008 + 0x4 * n
def CONF_COLCTRL : Nat := 0x40001C
def CONF_COLSTATUS : Nat := 0x400020
def CONF_MAPSRC : Nat := 0x400024
def CONF_MAPOFF : Nat := 0x400028
def CONF_MAPCTRL : Nat := 0x40002C
def CONF_MAPSTATUS : Nat := 0x400030
def CONF_MAPENTRY : Nat := 0x400034
def CONF_FRAME : Nat := 0x400038
def CONF_DIRTY : Nat := 0x40003C
def CONF_UNMAPPED : Nat := 0x400040
def CONF_CNT (k : Nat) : Nat := 0x400044 + 0x4 * k
def CONF_GAIN (n : Nat) : Nat := 0x400200 + 0x4 * n
def CONF_TFLUT (n : Nat) : Nat := 0x408000 + 0x4 * n
def PLK_OP (n : Nat) : Nat := 0x500000 + 0x10000 * n
def PLK_DST_SURF (n : Nat) : Nat := 0x500004 + 0x10000 * n
def PLK_SRC_SURF (n : Nat) : Nat := 0x500018 + 0x10000 * n
def PLK_DST_BASE (n : Nat) : Nat := 0x500008 + 0x10000 * n
def PLK_SRC_BASE (n : Nat) : Nat := 0x50001C + 0x10000 * n
def PLK_DST_PITCH (n : Nat) : Nat := 0x50000C + 0x10000 * n
def PLK_SRC_PITCH (n : Nat) : Nat := 0x500020 + 0x10000 * n
def PLK_DST_XY (n : Nat) : Nat := 0x500010 + 0x10000 * n
def PLK_SRC_XY (n : Nat) : Nat := 0x500024 + 0x10000 * n
def PLK_SIZE (n : Nat) : Nat := 0x500014 + 0x10000 * n
def PLK_COLOUR_LO (n : Nat) : Nat := 0x500028 + 0x10000 * n
def PLK_COLOUR_HI (n : Nat) : Nat := 0x50002C + 0x10000 * n
def PLK_BGCOLOUR_LO (n : Nat) : Nat := 0x500030 + 0x10000 * n
def PLK_BGCOLOUR_HI (n : Nat) : Nat := 0x500034 + 0x10000 * n
def PLK_WMARK (n : Nat) : Nat := 0x500038 + 0x10000 * n
def PLK_CTRL (n : Nat) : Nat := 0x50003C + 0x10000 * n
def PLK_STATUS (n : Nat) : Nat := 0x500040 + 0x10000 * n
def PLK_PROGRESS (n : Nat) : Nat := 0x500044 + 0x10000 * n
def OV_FMT (o : Nat) : Nat := 0x508000 + 0x20 * o
def OV_POOL (o : Nat) : Nat := 0x508004 + 0x20 * o
def OV_SIZE (o : Nat) : Nat := 0x508008 + 0x20 * o
def OV_PITCH (o : Nat) : Nat := 0x50800C + 0x20 * o
def OV_BUF0 (o : Nat) : Nat := 0x508010 + 0x20 * o
def OV_BUF1 (o : Nat) : Nat := 0x508014 + 0x20 * o
def OV_FRONT (o : Nat) : Nat := 0x508018 + 0x20 * o
def OV_CONST (o : Nat) : Nat := 0x50801C + 0x20 * o
def LNK_CFG (link : Nat) : Nat := linkBase link + 0x0
def LNK_CTRL (link : Nat) : Nat := linkBase link + 0x4
def LNK_STATUS (link : Nat) : Nat := linkBase link + 0x8
def LNK_DROP (link : Nat) : Nat := linkBase link + 0xC
def LNK_LANESEL (link : Nat) : Nat := linkBase link + 0x10
def LNK_LANEINFO (link : Nat) : Nat := linkBase link + 0x14
def LNK_LANEERR (link : Nat) : Nat := linkBase link + 0x18
def LNK_PRESET (n : Nat) : Nat := 0x600020 + 0x4 * n
def PANEL_CFG : Nat := 0x600040
def PANEL_CTRL : Nat := 0x600044
def PANEL_STATUS : Nat := 0x600048
def PANEL_CAP (n : Nat) : Nat := 0x600050 + 0x4 * n
def PANEL_TEPER : Nat := 0x600078
def PANEL_TEWIDTH : Nat := 0x60007C
def PANEL_TES_LO : Nat := 0x600080
def PANEL_TES_HI : Nat := 0x600084
def PANEL_TENS : Nat := 0x600088
def PANEL_FRAME : Nat := 0x60008C
def PANEL_PUSHES : Nat := 0x600090
def PANEL_CNT (k : Nat) : Nat := 0x600094 + 0x4 * k
def TIME_CFG : Nat := 0x40000
def TIME_STATUS : Nat := 0x40004
def TIME_NOW_S_LO : Nat := 0x40008
def TIME_NOW_S_HI : Nat := 0x4000C
def TIME_NOW_NS : Nat := 0x40010
def TIME_NOW_FRAC : Nat := 0x40014
def TIME_OFFSET : Nat := 0x40018
def TIME_RATE_LO : Nat := 0x4001C
def TIME_RATE_HI : Nat := 0x40020
def TIME_STEPAMT_LO : Nat := 0x40024
def TIME_STEPAMT_HI : Nat := 0x40028
def TIME_MASTER_LO : Nat := 0x4002C
def TIME_MASTER_HI : Nat := 0x40030
def TIME_ASYM : Nat := 0x40034
def PQ_CFG : Nat := 0x40100
def PQ_PIPE : Nat := 0x40104
def PQ_ENTSEL : Nat := 0x40108
def PQ_ENTINFO : Nat := 0x4010C
def PQ_ENTLS_LO : Nat := 0x40110
def PQ_ENTLS_HI : Nat := 0x40114
def PQ_ENTLNS : Nat := 0x40118
def PQ_ENTOV : Nat := 0x4011C
def PQ_CNT (k : Nat) : Nat := 0x40120 + 0x4 * k
def ENC_CFG : Nat := 0x780000
def ENC_SIZE : Nat := 0x780004
def ENC_VIEW (n : Nat) : Nat := 0x780008 + 0x4 * n
def ENC_RC : Nat := 0x780018
def ENC_BITRATE : Nat := 0x78001C
def ENC_TX : Nat := 0x780020
def ENC_PACE : Nat := 0x780024
def ENC_POOL : Nat := 0x780028
def ENC_DST_MAC_LO : Nat := 0x78002C
def ENC_DST_MAC_HI : Nat := 0x780030
def ENC_DST_IP4 : Nat := 0x780034
def ENC_DST_UDP : Nat := 0x780038
def ENC_STATUS : Nat := 0x780040
def ENC_CARRY : Nat := 0x780044
def ENC_CNT (k : Nat) : Nat := 0x780048 + 0x4 * k
def AFL_TILE_CFG : Nat := 0x701000
def AFL_TILE_STATUS : Nat := 0x701004
def AFL_SKEW : Nat := 0x701008
def AFL_CNT (k : Nat) : Nat := 0x70100C + 0x4 * k
def AFL_REMSEL : Nat := 0x701024
def AFL_REMPEND : Nat := 0x701028
def HBM_CFG (c : Nat) : Nat := 0x800000 + 0x10000 * c
def HBM_STATUS (c : Nat) : Nat := 0x800004 + 0x10000 * c
def HBM_ECC_CORR (c : Nat) : Nat := 0x800008 + 0x10000 * c
def HBM_ECC_UNCORR (c : Nat) : Nat := 0x80000C + 0x10000 * c
def HBM_ECC_LAST (c : Nat) : Nat := 0x800010 + 0x10000 * c
def HBM_NRCNT (c : Nat) : Nat := 0x800014 + 0x10000 * c
def HBM_FREQCTL (s : Nat) : Nat := 0x800020 + 0x100000 * s
def HBM_FREQSTAT (s : Nat) : Nat := 0x800024 + 0x100000 * s
def HBM_FREQTIME (s : Nat) : Nat := 0x800028 + 0x100000 * s
def HBM_POOL_A (n : Nat) : Nat := 0x808000 + 0x8 * n
def HBM_POOL_B (n : Nat) : Nat := 0x808004 + 0x8 * n
def XLAT_CTX (n : Nat) : Nat := 0x80000 + 0x4 * n
def XLAT_RELEASE : Nat := 0x80100
def XLAT_LEASESEL : Nat := 0x80104
def XLAT_LEASEINFO : Nat := 0x80108
def XLAT_LEASEOWN : Nat := 0x8010C
def XLAT_LEASEBASE : Nat := 0x80110
def XLAT_LEASELEN : Nat := 0x80114
def XLAT_PROBE_LO : Nat := 0x80118
def XLAT_PROBE_HI : Nat := 0x8011C
def XLAT_PTE_LO : Nat := 0x80120
def XLAT_PTE_HI : Nat := 0x80124
def XLAT_FLT_INFO : Nat := 0x80128
def XLAT_FLT_ADDR_LO : Nat := 0x8012C
def XLAT_FLT_ADDR_HI : Nat := 0x80130
def XLAT_CNT (k : Nat) : Nat := 0x80134 + 0x4 * k
def FUL_JOB (n : Nat) : Nat := 0x580000 + 0x10000 * n
def FUL_SRC (n : Nat) : Nat := 0x580004 + 0x10000 * n
def FUL_DST (n : Nat) : Nat := 0x580010 + 0x10000 * n
def FUL_SRC_OFF (n : Nat) : Nat := 0x580008 + 0x10000 * n
def FUL_DST_OFF (n : Nat) : Nat := 0x580014 + 0x10000 * n
def FUL_SRC_LEN (n : Nat) : Nat := 0x58000C + 0x10000 * n
def FUL_DST_CAP (n : Nat) : Nat := 0x580018 + 0x10000 * n
def FUL_CTRL (n : Nat) : Nat := 0x58001C + 0x10000 * n
def FUL_STATUS (n : Nat) : Nat := 0x580020 + 0x10000 * n
def FUL_OUTLEN (n : Nat) : Nat := 0x580024 + 0x10000 * n
def FUL_PROGRESS (n : Nat) : Nat := 0x580028 + 0x10000 * n
def FUL_STORED (n : Nat) : Nat := 0x58002C + 0x10000 * n
def FUL_CNT0 (n : Nat) : Nat := 0x580030 + 0x10000 * n
def FUL_CNT1 (n : Nat) : Nat := 0x580034 + 0x10000 * n
def EVT_PEND (w : Nat) : Nat := 0x20000 + 0x4 * w
def EVT_EN (w : Nat) : Nat := 0x20080 + 0x4 * w
def EVT_ACTIVE (w : Nat) : Nat := 0x20100 + 0x4 * w
def EVT_LEVEL (w : Nat) : Nat := 0x20180 + 0x4 * w
def EVT_GRP (g : Nat) : Nat := 0x20200 + 0x4 * g
def EVT_CLAIM : Nat := 0x20300
def EVT_DONE : Nat := 0x20304
def EVT_STRAY : Nat := 0x20308
def EVT_ASSERT : Nat := 0x2030C
def EVT_HOST (t : Nat) : Nat := 0x20310 + 0x4 * (t - 4)
def EVT_SWSET : Nat := 0x20320
def EVT_SWLEVEL : Nat := 0x20324
def EVT_CNT (n : Nat) : Nat := 0x20400 + 0x4 * n
def ERRLOG_WR : Nat := 0x30000
def ERRLOG_RD : Nat := 0x30004
def ERRLOG_CFG : Nat := 0x30008
def ERRLOG_STATUS : Nat := 0x3000C
def ERRLOG_DROP (k : Nat) : Nat := 0x30010 + 0x4 * k
def ERRLOG_MERGED : Nat := 0x30020
def CHIP_MODE : Nat := 0x8
def CHIP_MODEREQ : Nat := 0xC
def CHIP_SAFECAUSE : Nat := 0x24
def THERM_CFG : Nat := 0x50000
def THERM_THROT : Nat := 0x50004
def THERM_STATUS : Nat := 0x50008
def THERM_DEFER : Nat := 0x5000C
def THERM_SENS (n : Nat) : Nat := 0x50010 + 0x4 * n
def PWR_DOMAIN (k : Nat) : Nat := 0x50100 + 0x4 * k
def PWR_RBSEL : Nat := 0x50110
def PWR_RBPT : Nat := 0x50114
def PWR_SUPPLY : Nat := 0x50118
def SIZ_SRC : Nat := 0x60000
def SIZ_OFF : Nat := 0x60004
def SIZ_LEN : Nat := 0x60008
def SIZ_CTRL : Nat := 0x6000C
def SIZ_STATUS : Nat := 0x60010
def SIZ_ENTRY : Nat := 0x60014
def SIZ_SEQ : Nat := 0x60018
def SIZ_LIMIT : Nat := 0x6001C
def SIZ_TYPES : Nat := 0x60020
def ETH_LOOP (n : Nat) : Nat := 0x100030 + 0x10000 * n
def ETH_LOOPCNT (n : Nat) (k : Nat) : Nat := 0x100034 + 0x10000 * n + 0x4 * k
def LNK_LOOP (link : Nat) : Nat := linkBase link + 0x30
def LNK_LOOPERR (link : Nat) : Nat := linkBase link + 0x34
def HBM_TEST (c : Nat) : Nat := 0x800040 + 0x10000 * c
def HBM_TESTSTAT (c : Nat) : Nat := 0x800044 + 0x10000 * c
def DEC_SELFTEST : Nat := 0x200300
def DEC_SELFSTAT : Nat := 0x200304
def CHIP_STRAPS : Nat := 0x28
def CHIP_BOOTTIME : Nat := 0x2C

end R

namespace F

def CHIP_ID_VENDOR : Field := ⟨R.CHIP_ID, 31, 16⟩
def CHIP_ID_PART : Field := ⟨R.CHIP_ID, 15, 0⟩
def CHIP_REV_MAJOR : Field := ⟨R.CHIP_REV, 15, 8⟩
def CHIP_REV_MINOR : Field := ⟨R.CHIP_REV, 7, 0⟩
def GEOM_W_WORD (n : Nat) : Field := ⟨(R.GEOM_W n), 31, 0⟩
def GEOM_CTRL_DISCARD : Field := ⟨R.GEOM_CTRL, 1, 1⟩
def GEOM_CTRL_ARM : Field := ⟨R.GEOM_CTRL, 0, 0⟩
def GEOM_STATUS_SOURCE : Field := ⟨R.GEOM_STATUS, 10, 10⟩
def GEOM_STATUS_NAP_LIMITED : Field := ⟨R.GEOM_STATUS, 9, 9⟩
def GEOM_STATUS_PENDING : Field := ⟨R.GEOM_STATUS, 8, 8⟩
def GEOM_STATUS_ERR : Field := ⟨R.GEOM_STATUS, 3, 0⟩
def GEOM_RAYS_RAY_COUNT : Field := ⟨R.GEOM_RAYS, 29, 0⟩
def GEOM_TILES_TILES_Y : Field := ⟨R.GEOM_TILES, 31, 16⟩
def GEOM_TILES_TILES_X : Field := ⟨R.GEOM_TILES, 15, 0⟩
def RAYH_NANCNT_COUNT : Field := ⟨R.RAYH_NANCNT, 31, 0⟩
def CHIP_EPOCH_EPOCH : Field := ⟨R.CHIP_EPOCH, 31, 0⟩
def IMG_CTRL_LOAD : Field := ⟨R.IMG_CTRL, 4, 4⟩
def IMG_CTRL_SOURCE : Field := ⟨R.IMG_CTRL, 1, 0⟩
def IMG_STATUS_OVERRIDES : Field := ⟨R.IMG_STATUS, 23, 16⟩
def IMG_STATUS_IN_FORCE : Field := ⟨R.IMG_STATUS, 15, 14⟩
def IMG_STATUS_LAST : Field := ⟨R.IMG_STATUS, 13, 12⟩
def IMG_STATUS_BUSY : Field := ⟨R.IMG_STATUS, 11, 11⟩
def IMG_STATUS_SUB : Field := ⟨R.IMG_STATUS, 7, 4⟩
def IMG_STATUS_ERR : Field := ⟨R.IMG_STATUS, 3, 0⟩
def IMG_SEQ_SEQUENCE : Field := ⟨R.IMG_SEQ, 31, 0⟩
def IMG_VERSION_VERSION : Field := ⟨R.IMG_VERSION, 31, 0⟩
def RB_ROLE_ROLE (n : Nat) (m : Nat) : Field := ⟨(R.RB_ROLE n), 4 * m + 3, 4 * m + 0⟩
def RG_BLKSTATE_SWAPS (n : Nat) : Field := ⟨(R.RG_BLKSTATE n), 23, 16⟩
def RG_BLKSTATE_STATE (n : Nat) (m : Nat) : Field := ⟨(R.RG_BLKSTATE n), 4 * m + 3, 4 * m + 0⟩
def RG_CELLRET_RETIRED (n : Nat) (m : Nat) : Field := ⟨(R.RG_CELLRET n), 8 * m + 7, 8 * m + 0⟩
def RG_BLKCTRL_ISOLATE (n : Nat) : Field := ⟨(R.RG_BLKCTRL n), 3, 0⟩
def KCP_SESS_PORT (n : Nat) : Field := ⟨(R.KCP_SESS n), 13, 12⟩
def KCP_SESS_PRIV (n : Nat) : Field := ⟨(R.KCP_SESS n), 9, 8⟩
def KCP_SESS_KEY_SLOT (n : Nat) : Field := ⟨(R.KCP_SESS n), 5, 4⟩
def KCP_SESS_STATE (n : Nat) : Field := ⟨(R.KCP_SESS n), 1, 0⟩
def KCP_AUTHFAIL_COUNT : Field := ⟨R.KCP_AUTHFAIL, 31, 0⟩
def KCP_DISCARD_COUNT : Field := ⟨R.KCP_DISCARD, 31, 0⟩
def KCP_IDLE_SECONDS : Field := ⟨R.KCP_IDLE, 11, 0⟩
def PATH_CMD_ACTION : Field := ⟨R.PATH_CMD, 31, 28⟩
def PATH_CMD_CASCADE : Field := ⟨R.PATH_CMD, 24, 24⟩
def PATH_CMD_KIND : Field := ⟨R.PATH_CMD, 11, 8⟩
def PATH_CMD_ID : Field := ⟨R.PATH_CMD, 7, 0⟩
def PATH_STATE_STATE (n : Nat) (m : Nat) : Field := ⟨(R.PATH_STATE n), 2 * m + 1, 2 * m + 0⟩
def ETH_CFG_VID (n : Nat) : Field := ⟨(R.ETH_CFG n), 31, 20⟩
def ETH_CFG_PCP (n : Nat) : Field := ⟨(R.ETH_CFG n), 18, 16⟩
def ETH_CFG_PFC_EN (n : Nat) : Field := ⟨(R.ETH_CFG n), 15, 8⟩
def ETH_CFG_VLAN (n : Nat) : Field := ⟨(R.ETH_CFG n), 4, 4⟩
def ETH_CFG_SPEED (n : Nat) : Field := ⟨(R.ETH_CFG n), 1, 0⟩
def ETH_ROLE_TIMEOUT (n : Nat) : Field := ⟨(R.ETH_ROLE n), 25, 16⟩
def ETH_ROLE_MIRROR (n : Nat) : Field := ⟨(R.ETH_ROLE n), 5, 4⟩
def ETH_ROLE_ROLE (n : Nat) : Field := ⟨(R.ETH_ROLE n), 2, 0⟩
def ETH_STATUS_LOST (n : Nat) : Field := ⟨(R.ETH_STATUS n), 3, 3⟩
def ETH_STATUS_FEC_LOCK (n : Nat) : Field := ⟨(R.ETH_STATUS n), 1, 1⟩
def ETH_STATUS_LINK (n : Nat) : Field := ⟨(R.ETH_STATUS n), 0, 0⟩
def ETH_MAC_LO_MAC (n : Nat) : Field := ⟨(R.ETH_MAC_LO n), 31, 0⟩
def ETH_MAC_HI_MAC (n : Nat) : Field := ⟨(R.ETH_MAC_HI n), 15, 0⟩
def ETH_IP4_ADDR (n : Nat) : Field := ⟨(R.ETH_IP4 n), 31, 0⟩
def ETH_IP6_WORD_ADDR (n : Nat) (k : Nat) : Field := ⟨(R.ETH_IP6_ n k), 31, 0⟩
def ETH_RXERR_COUNT (n : Nat) : Field := ⟨(R.ETH_RXERR n), 31, 0⟩
def ETH_BATTERR_REFUSED (n : Nat) : Field := ⟨(R.ETH_BATTERR n), 31, 16⟩
def ETH_BATTERR_MALFORMED (n : Nat) : Field := ⟨(R.ETH_BATTERR n), 15, 0⟩
def STRM_CFG_LOSS_PERMILLE (s : Nat) : Field := ⟨(R.STRM_CFG s), 25, 16⟩
def STRM_CFG_PORTS (s : Nat) : Field := ⟨(R.STRM_CFG s), 11, 8⟩
def STRM_CFG_FORMAT (s : Nat) : Field := ⟨(R.STRM_CFG s), 5, 4⟩
def STRM_CFG_KIND (s : Nat) : Field := ⟨(R.STRM_CFG s), 3, 0⟩
def STRM_POOL_UNITMAX (s : Nat) : Field := ⟨(R.STRM_POOL s), 31, 16⟩
def STRM_POOL_MAX_UNITS (s : Nat) : Field := ⟨(R.STRM_POOL s), 13, 8⟩
def STRM_POOL_POOL_ID (s : Nat) : Field := ⟨(R.STRM_POOL s), 5, 0⟩
def STRM_TIMING_LEAD_US (s : Nat) : Field := ⟨(R.STRM_TIMING s), 31, 16⟩
def STRM_TIMING_DEPTH_US (s : Nat) : Field := ⟨(R.STRM_TIMING s), 15, 0⟩
def STRM_RATE_MBPS (s : Nat) : Field := ⟨(R.STRM_RATE s), 20, 0⟩
def STRM_UNITS_DROPPED (s : Nat) : Field := ⟨(R.STRM_UNITS s), 31, 16⟩
def STRM_UNITS_INCOMPLETE (s : Nat) : Field := ⟨(R.STRM_UNITS s), 15, 0⟩
def STRM_LOST_COUNT (s : Nat) : Field := ⟨(R.STRM_LOST s), 31, 0⟩
def STRM_LATE_COUNT (s : Nat) : Field := ⟨(R.STRM_LATE s), 31, 0⟩
def STRM_DUP_COUNT (s : Nat) : Field := ⟨(R.STRM_DUP s), 31, 0⟩
def DEC_CFG_BACKOFF : Field := ⟨R.DEC_CFG, 11, 8⟩
def DEC_CFG_HASH_CHECK : Field := ⟨R.DEC_CFG, 4, 4⟩
def DEC_CFG_HDR_FORCE : Field := ⟨R.DEC_CFG, 1, 0⟩
def DEC_STATUS_ENGINES : Field := ⟨R.DEC_STATUS, 15, 8⟩
def DEC_STATUS_FWMODE : Field := ⟨R.DEC_STATUS, 7, 4⟩
def DEC_STATUS_ACTIVE : Field := ⟨R.DEC_STATUS, 3, 0⟩
def DEC_CTX_CFG_POOL_ID (c : Nat) : Field := ⟨(R.DEC_CTX_CFG c), 21, 16⟩
def DEC_CTX_CFG_ENABLE (c : Nat) : Field := ⟨(R.DEC_CTX_CFG c), 8, 8⟩
def DEC_CTX_CFG_STREAM_ID (c : Nat) : Field := ⟨(R.DEC_CTX_CFG c), 5, 0⟩
def DEC_CTX_SLOTS_SLOT_COUNT (c : Nat) : Field := ⟨(R.DEC_CTX_SLOTS c), 26, 16⟩
def DEC_CTX_SLOTS_SLOT_UNITS (c : Nat) : Field := ⟨(R.DEC_CTX_SLOTS c), 12, 0⟩
def DEC_CTX_RATE_LATE_US (c : Nat) : Field := ⟨(R.DEC_CTX_RATE c), 31, 16⟩
def DEC_CTX_RATE_MSPS (c : Nat) : Field := ⟨(R.DEC_CTX_RATE c), 12, 0⟩
def DEC_CTX_FILL_DEPTH_FILL (c : Nat) : Field := ⟨(R.DEC_CTX_FILL c), 9, 0⟩
def DEC_CTX_STATE_AU_COUNT (c : Nat) : Field := ⟨(R.DEC_CTX_STATE c), 31, 16⟩
def DEC_CTX_STATE_STARTED (c : Nat) : Field := ⟨(R.DEC_CTX_STATE c), 15, 8⟩
def DEC_CTX_STATE_HDR_MODE (c : Nat) : Field := ⟨(R.DEC_CTX_STATE c), 1, 0⟩
def DEC_CTX_CNT_COUNT (c : Nat) (k : Nat) : Field := ⟨(R.DEC_CTX_CNT c k), 31, 0⟩
def DEC_SLOTSEL_CTX : Field := ⟨R.DEC_SLOTSEL, 13, 12⟩
def DEC_SLOTSEL_SLOT : Field := ⟨R.DEC_SLOTSEL, 9, 0⟩
def DEC_SLOTINFO_METHODS : Field := ⟨R.DEC_SLOTINFO, 18, 16⟩
def DEC_SLOTINFO_LAYER : Field := ⟨R.DEC_SLOTINFO, 13, 8⟩
def DEC_SLOTINFO_HASH_FAIL : Field := ⟨R.DEC_SLOTINFO, 7, 7⟩
def DEC_SLOTINFO_TAINTED : Field := ⟨R.DEC_SLOTINFO, 6, 6⟩
def DEC_SLOTINFO_SUBSTITUTE : Field := ⟨R.DEC_SLOTINFO, 5, 5⟩
def DEC_SLOTINFO_CONCEALED : Field := ⟨R.DEC_SLOTINFO, 4, 4⟩
def DEC_SLOTINFO_CARD_HELD : Field := ⟨R.DEC_SLOTINFO, 3, 3⟩
def DEC_SLOTINFO_DEC_HELD : Field := ⟨R.DEC_SLOTINFO, 2, 2⟩
def DEC_SLOTINFO_MARK : Field := ⟨R.DEC_SLOTINFO, 1, 0⟩
def DEC_SLOTPOC_POC : Field := ⟨R.DEC_SLOTPOC, 31, 0⟩
def DEC_SLOTCONC_CONC_CTUS : Field := ⟨R.DEC_SLOTCONC, 15, 0⟩
def DEC_LAYERSEL_CTX : Field := ⟨R.DEC_LAYERSEL, 13, 12⟩
def DEC_LAYERSEL_LAYER : Field := ⟨R.DEC_LAYERSEL, 5, 0⟩
def DEC_LAYERSTAT_CONCEALED : Field := ⟨R.DEC_LAYERSTAT, 31, 16⟩
def DEC_LAYERSTAT_STATE : Field := ⟨R.DEC_LAYERSTAT, 2, 0⟩
def CARD_LYR_SRC_POOL_ID (l : Nat) : Field := ⟨(R.CARD_LYR_SRC l), 21, 16⟩
def CARD_LYR_SRC_TF (l : Nat) : Field := ⟨(R.CARD_LYR_SRC l), 13, 12⟩
def CARD_LYR_SRC_RANGE (l : Nat) : Field := ⟨(R.CARD_LYR_SRC l), 9, 9⟩
def CARD_LYR_SRC_MATRIX (l : Nat) : Field := ⟨(R.CARD_LYR_SRC l), 8, 8⟩
def CARD_LYR_SRC_STREAM_ID (l : Nat) : Field := ⟨(R.CARD_LYR_SRC l), 5, 0⟩
def CARD_LYR_ORIGIN_Y0 (l : Nat) : Field := ⟨(R.CARD_LYR_ORIGIN l), 27, 16⟩
def CARD_LYR_ORIGIN_X0 (l : Nat) : Field := ⟨(R.CARD_LYR_ORIGIN l), 11, 0⟩
def CARD_LYR_SIZE_H (l : Nat) : Field := ⟨(R.CARD_LYR_SIZE l), 28, 16⟩
def CARD_LYR_SIZE_W (l : Nat) : Field := ⟨(R.CARD_LYR_SIZE l), 12, 0⟩
def CARD_LYR_PARAM_SHIFT_MAX (l : Nat) : Field := ⟨(R.CARD_LYR_PARAM l), 30, 24⟩
def CARD_LYR_PARAM_HOLE_RADIUS (l : Nat) : Field := ⟨(R.CARD_LYR_PARAM l), 20, 16⟩
def CARD_LYR_PARAM_DEPTH_TOL (l : Nat) : Field := ⟨(R.CARD_LYR_PARAM l), 15, 8⟩
def CARD_LYR_PARAM_CONC_POLICY (l : Nat) : Field := ⟨(R.CARD_LYR_PARAM l), 7, 6⟩
def CARD_LYR_PARAM_HOLE_AXES (l : Nat) : Field := ⟨(R.CARD_LYR_PARAM l), 5, 4⟩
def CARD_LYR_PARAM_BLEND (l : Nat) : Field := ⟨(R.CARD_LYR_PARAM l), 3, 3⟩
def CARD_LYR_PARAM_KV_NEAR (l : Nat) : Field := ⟨(R.CARD_LYR_PARAM l), 2, 0⟩
def CARD_LYR_FILL_COLOUR (l : Nat) : Field := ⟨(R.CARD_LYR_FILL l), 29, 0⟩
def CARD_LYR_SEAM_WAIT_US (l : Nat) : Field := ⟨(R.CARD_LYR_SEAM l), 31, 16⟩
def CARD_LYR_SEAM_EDGES (l : Nat) : Field := ⟨(R.CARD_LYR_SEAM l), 11, 8⟩
def CARD_LYR_SEAM_DEPTH (l : Nat) : Field := ⟨(R.CARD_LYR_SEAM l), 4, 0⟩
def CARD_LYR_LAST_SEAM_MISS (l : Nat) : Field := ⟨(R.CARD_LYR_LAST l), 25, 25⟩
def CARD_LYR_LAST_NOFRAME (l : Nat) : Field := ⟨(R.CARD_LYR_LAST l), 24, 24⟩
def CARD_LYR_LAST_CONC_USED (l : Nat) : Field := ⟨(R.CARD_LYR_LAST l), 21, 16⟩
def CARD_LYR_LAST_ABSENT (l : Nat) : Field := ⟨(R.CARD_LYR_LAST l), 13, 8⟩
def CARD_LYR_LAST_PRESENT (l : Nat) : Field := ⟨(R.CARD_LYR_LAST l), 5, 0⟩
def CARD_LYR_CNT_COUNT (l : Nat) (k : Nat) : Field := ⟨(R.CARD_LYR_CNT l k), 31, 0⟩
def CARD_KVD_WORD (l : Nat) (n : Nat) : Field := ⟨(R.CARD_KVD l n), 31, 0⟩
def CARD_OV_BIND_MODE (o : Nat) : Field := ⟨(R.CARD_OV_BIND o), 8, 8⟩
def CARD_OV_BIND_LAYER (o : Nat) : Field := ⟨(R.CARD_OV_BIND o), 5, 0⟩
def CARD_OV_POS_Y (o : Nat) : Field := ⟨(R.CARD_OV_POS o), 31, 16⟩
def CARD_OV_POS_X (o : Nat) : Field := ⟨(R.CARD_OV_POS o), 15, 0⟩
def CARD_OV_DEPTH_VREF (o : Nat) : Field := ⟨(R.CARD_OV_DEPTH o), 27, 24⟩
def CARD_OV_DEPTH_UREF (o : Nat) : Field := ⟨(R.CARD_OV_DEPTH o), 19, 16⟩
def CARD_OV_DEPTH_DISP (o : Nat) : Field := ⟨(R.CARD_OV_DEPTH o), 12, 0⟩
def CARD_KSET_KSET_ID : Field := ⟨R.CARD_KSET, 31, 0⟩
def CONF_STAGE_POOL_ID : Field := ⟨R.CONF_STAGE, 21, 16⟩
def CONF_STAGE_FRAMES : Field := ⟨R.CONF_STAGE, 5, 0⟩
def CONF_COLOUR_DITH_ROTATE : Field := ⟨R.CONF_COLOUR, 5, 5⟩
def CONF_COLOUR_DITH_EN : Field := ⟨R.CONF_COLOUR, 4, 4⟩
def CONF_COLOUR_TF_SEL : Field := ⟨R.CONF_COLOUR, 2, 0⟩
def CONF_MATRIX_COEF_LO (n : Nat) : Field := ⟨(R.CONF_MATRIX n), 15, 0⟩
def CONF_MATRIX_COEF_HI (n : Nat) : Field := ⟨(R.CONF_MATRIX n), 31, 16⟩
def CONF_COLCTRL_DISCARD : Field := ⟨R.CONF_COLCTRL, 1, 1⟩
def CONF_COLCTRL_ARM : Field := ⟨R.CONF_COLCTRL, 0, 0⟩
def CONF_COLSTATUS_PENDING : Field := ⟨R.CONF_COLSTATUS, 8, 8⟩
def CONF_COLSTATUS_TF_IN_FORCE : Field := ⟨R.CONF_COLSTATUS, 2, 0⟩
def CONF_MAPSRC_FULLER : Field := ⟨R.CONF_MAPSRC, 8, 8⟩
def CONF_MAPSRC_POOL_ID : Field := ⟨R.CONF_MAPSRC, 5, 0⟩
def CONF_MAPOFF_OFFSET : Field := ⟨R.CONF_MAPOFF, 31, 0⟩
def CONF_MAPCTRL_DISCARD : Field := ⟨R.CONF_MAPCTRL, 1, 1⟩
def CONF_MAPCTRL_ARM : Field := ⟨R.CONF_MAPCTRL, 0, 0⟩
def CONF_MAPSTATUS_SOURCE : Field := ⟨R.CONF_MAPSTATUS, 13, 12⟩
def CONF_MAPSTATUS_READY : Field := ⟨R.CONF_MAPSTATUS, 9, 9⟩
def CONF_MAPSTATUS_PENDING : Field := ⟨R.CONF_MAPSTATUS, 8, 8⟩
def CONF_MAPSTATUS_ERR : Field := ⟨R.CONF_MAPSTATUS, 3, 0⟩
def CONF_MAPENTRY_ENTRY : Field := ⟨R.CONF_MAPENTRY, 23, 0⟩
def CONF_FRAME_FRAMES_IN_FORCE : Field := ⟨R.CONF_FRAME, 29, 24⟩
def CONF_FRAME_LAST_HANDLE : Field := ⟨R.CONF_FRAME, 20, 16⟩
def CONF_FRAME_PHASE : Field := ⟨R.CONF_FRAME, 1, 0⟩
def CONF_DIRTY_TILES : Field := ⟨R.CONF_DIRTY, 20, 0⟩
def CONF_UNMAPPED_COUNT : Field := ⟨R.CONF_UNMAPPED, 31, 0⟩
def CONF_CNT_COUNT (k : Nat) : Field := ⟨(R.CONF_CNT k), 31, 0⟩
def CONF_GAIN_GAIN_HI (n : Nat) : Field := ⟨(R.CONF_GAIN n), 31, 16⟩
def CONF_GAIN_GAIN_LO (n : Nat) : Field := ⟨(R.CONF_GAIN n), 15, 0⟩
def CONF_TFLUT_CODE_HI (n : Nat) : Field := ⟨(R.CONF_TFLUT n), 27, 16⟩
def CONF_TFLUT_CODE_LO (n : Nat) : Field := ⟨(R.CONF_TFLUT n), 11, 0⟩
def PLK_OP_GLYPH_BG (n : Nat) : Field := ⟨(R.PLK_OP n), 9, 9⟩
def PLK_OP_DIR (n : Nat) : Field := ⟨(R.PLK_OP n), 8, 8⟩
def PLK_OP_OP (n : Nat) : Field := ⟨(R.PLK_OP n), 3, 0⟩
def PLK_DST_SURF_FORMAT (n : Nat) : Field := ⟨(R.PLK_DST_SURF n), 10, 8⟩
def PLK_DST_SURF_POOL_ID (n : Nat) : Field := ⟨(R.PLK_DST_SURF n), 5, 0⟩
def PLK_SRC_SURF_FORMAT (n : Nat) : Field := ⟨(R.PLK_SRC_SURF n), 10, 8⟩
def PLK_SRC_SURF_POOL_ID (n : Nat) : Field := ⟨(R.PLK_SRC_SURF n), 5, 0⟩
def PLK_DST_BASE_BASE (n : Nat) : Field := ⟨(R.PLK_DST_BASE n), 31, 0⟩
def PLK_SRC_BASE_BASE (n : Nat) : Field := ⟨(R.PLK_SRC_BASE n), 31, 0⟩
def PLK_DST_PITCH_PITCH (n : Nat) : Field := ⟨(R.PLK_DST_PITCH n), 18, 0⟩
def PLK_SRC_PITCH_PITCH (n : Nat) : Field := ⟨(R.PLK_SRC_PITCH n), 18, 0⟩
def PLK_DST_XY_Y (n : Nat) : Field := ⟨(R.PLK_DST_XY n), 31, 16⟩
def PLK_DST_XY_X (n : Nat) : Field := ⟨(R.PLK_DST_XY n), 15, 0⟩
def PLK_SRC_XY_Y (n : Nat) : Field := ⟨(R.PLK_SRC_XY n), 31, 16⟩
def PLK_SRC_XY_X (n : Nat) : Field := ⟨(R.PLK_SRC_XY n), 15, 0⟩
def PLK_SIZE_H (n : Nat) : Field := ⟨(R.PLK_SIZE n), 31, 16⟩
def PLK_SIZE_W (n : Nat) : Field := ⟨(R.PLK_SIZE n), 15, 0⟩
def PLK_COLOUR_LO_PIXEL (n : Nat) : Field := ⟨(R.PLK_COLOUR_LO n), 31, 0⟩
def PLK_COLOUR_HI_PIXEL (n : Nat) : Field := ⟨(R.PLK_COLOUR_HI n), 31, 0⟩
def PLK_BGCOLOUR_LO_PIXEL (n : Nat) : Field := ⟨(R.PLK_BGCOLOUR_LO n), 31, 0⟩
def PLK_BGCOLOUR_HI_PIXEL (n : Nat) : Field := ⟨(R.PLK_BGCOLOUR_HI n), 31, 0⟩
def PLK_WMARK_ENABLE (n : Nat) : Field := ⟨(R.PLK_WMARK n), 31, 31⟩
def PLK_WMARK_WLINE (n : Nat) : Field := ⟨(R.PLK_WMARK n), 13, 0⟩
def PLK_CTRL_ABORT (n : Nat) : Field := ⟨(R.PLK_CTRL n), 1, 1⟩
def PLK_CTRL_START (n : Nat) : Field := ⟨(R.PLK_CTRL n), 0, 0⟩
def PLK_STATUS_REFUSE (n : Nat) : Field := ⟨(R.PLK_STATUS n), 23, 8⟩
def PLK_STATUS_BUSY (n : Nat) : Field := ⟨(R.PLK_STATUS n), 4, 4⟩
def PLK_STATUS_RESULT (n : Nat) : Field := ⟨(R.PLK_STATUS n), 2, 0⟩
def PLK_PROGRESS_LINES (n : Nat) : Field := ⟨(R.PLK_PROGRESS n), 14, 0⟩
def OV_FMT_STREAM_ID (o : Nat) : Field := ⟨(R.OV_FMT o), 21, 16⟩
def OV_FMT_SOURCE (o : Nat) : Field := ⟨(R.OV_FMT o), 8, 8⟩
def OV_FMT_FORMAT (o : Nat) : Field := ⟨(R.OV_FMT o), 2, 0⟩
def OV_POOL_POOL_ID (o : Nat) : Field := ⟨(R.OV_POOL o), 5, 0⟩
def OV_SIZE_H (o : Nat) : Field := ⟨(R.OV_SIZE o), 28, 16⟩
def OV_SIZE_W (o : Nat) : Field := ⟨(R.OV_SIZE o), 12, 0⟩
def OV_PITCH_PITCH (o : Nat) : Field := ⟨(R.OV_PITCH o), 18, 0⟩
def OV_BUF0_BASE (o : Nat) : Field := ⟨(R.OV_BUF0 o), 31, 0⟩
def OV_BUF1_BASE (o : Nat) : Field := ⟨(R.OV_BUF1 o), 31, 0⟩
def OV_FRONT_FRONT (o : Nat) : Field := ⟨(R.OV_FRONT o), 0, 0⟩
def OV_CONST_COLOUR (o : Nat) : Field := ⟨(R.OV_CONST o), 29, 0⟩
def LNK_CFG_START (link : Nat) : Field := ⟨(R.LNK_CFG link), 8, 8⟩
def LNK_CFG_ENABLE (link : Nat) : Field := ⟨(R.LNK_CFG link), 4, 4⟩
def LNK_CFG_RATE (link : Nat) : Field := ⟨(R.LNK_CFG link), 1, 0⟩
def LNK_CTRL_RETRAIN (link : Nat) : Field := ⟨(R.LNK_CTRL link), 0, 0⟩
def LNK_STATUS_PARTNER_RATES (link : Nat) : Field := ⟨(R.LNK_STATUS link), 23, 20⟩
def LNK_STATUS_EXCLUDED (link : Nat) : Field := ⟨(R.LNK_STATUS link), 19, 16⟩
def LNK_STATUS_RATE_IN_FORCE (link : Nat) : Field := ⟨(R.LNK_STATUS link), 13, 12⟩
def LNK_STATUS_BAND (link : Nat) : Field := ⟨(R.LNK_STATUS link), 9, 8⟩
def LNK_STATUS_ATTEMPT (link : Nat) : Field := ⟨(R.LNK_STATUS link), 7, 4⟩
def LNK_STATUS_STATE (link : Nat) : Field := ⟨(R.LNK_STATUS link), 2, 0⟩
def LNK_DROP_COUNT (link : Nat) : Field := ⟨(R.LNK_DROP link), 31, 0⟩
def LNK_LANESEL_LANE (link : Nat) : Field := ⟨(R.LNK_LANESEL link), 2, 0⟩
def LNK_LANEINFO_LANE_SEEN (link : Nat) : Field := ⟨(R.LNK_LANEINFO link), 23, 16⟩
def LNK_LANEINFO_SKEW (link : Nat) : Field := ⟨(R.LNK_LANEINFO link), 13, 8⟩
def LNK_LANEINFO_FROZEN (link : Nat) : Field := ⟨(R.LNK_LANEINFO link), 4, 4⟩
def LNK_LANEINFO_POLARITY (link : Nat) : Field := ⟨(R.LNK_LANEINFO link), 3, 3⟩
def LNK_LANEINFO_DESKEWED (link : Nat) : Field := ⟨(R.LNK_LANEINFO link), 2, 2⟩
def LNK_LANEINFO_SYMLOCK (link : Nat) : Field := ⟨(R.LNK_LANEINFO link), 1, 1⟩
def LNK_LANEINFO_SIGDET (link : Nat) : Field := ⟨(R.LNK_LANEINFO link), 0, 0⟩
def LNK_LANEERR_DISPERR (link : Nat) : Field := ⟨(R.LNK_LANEERR link), 31, 16⟩
def LNK_LANEERR_CODEVIOL (link : Nat) : Field := ⟨(R.LNK_LANEERR link), 15, 0⟩
def LNK_PRESET_AMP (n : Nat) : Field := ⟨(R.LNK_PRESET n), 21, 16⟩
def LNK_PRESET_POST (n : Nat) : Field := ⟨(R.LNK_PRESET n), 12, 8⟩
def LNK_PRESET_PRE (n : Nat) : Field := ⟨(R.LNK_PRESET n), 4, 0⟩
def PANEL_CFG_MAX_RESTART : Field := ⟨R.PANEL_CFG, 27, 24⟩
def PANEL_CFG_PREFETCH : Field := ⟨R.PANEL_CFG, 18, 16⟩
def PANEL_CFG_GUARD_ROWS : Field := ⟨R.PANEL_CFG, 11, 8⟩
def PANEL_CFG_COMP_EN : Field := ⟨R.PANEL_CFG, 0, 0⟩
def PANEL_CTRL_QUERY : Field := ⟨R.PANEL_CTRL, 0, 0⟩
def PANEL_STATUS_FRONT_FRAME : Field := ⟨R.PANEL_STATUS, 31, 16⟩
def PANEL_STATUS_BSTATE : Field := ⟨R.PANEL_STATUS, 9, 8⟩
def PANEL_STATUS_COMP_ACTIVE : Field := ⟨R.PANEL_STATUS, 4, 4⟩
def PANEL_STATUS_MISMATCH : Field := ⟨R.PANEL_STATUS, 3, 3⟩
def PANEL_STATUS_CAPS_OK : Field := ⟨R.PANEL_STATUS, 2, 2⟩
def PANEL_STATUS_HOLDING : Field := ⟨R.PANEL_STATUS, 1, 1⟩
def PANEL_STATUS_TE_OK : Field := ⟨R.PANEL_STATUS, 0, 0⟩
def PANEL_CAP_WORD (n : Nat) : Field := ⟨(R.PANEL_CAP n), 31, 0⟩
def PANEL_TEPER_PERIOD_NS : Field := ⟨R.PANEL_TEPER, 31, 0⟩
def PANEL_TEWIDTH_WIDTH_NS : Field := ⟨R.PANEL_TEWIDTH, 15, 0⟩
def PANEL_TES_LO_VALUE : Field := ⟨R.PANEL_TES_LO, 31, 0⟩
def PANEL_TES_HI_VALUE : Field := ⟨R.PANEL_TES_HI, 31, 0⟩
def PANEL_TENS_VALUE : Field := ⟨R.PANEL_TENS, 31, 0⟩
def PANEL_FRAME_FRAME : Field := ⟨R.PANEL_FRAME, 31, 16⟩
def PANEL_FRAME_RESTARTS : Field := ⟨R.PANEL_FRAME, 3, 0⟩
def PANEL_PUSHES_COUNT : Field := ⟨R.PANEL_PUSHES, 20, 0⟩
def PANEL_CNT_COUNT (k : Nat) : Field := ⟨(R.PANEL_CNT k), 31, 0⟩
def TIME_CFG_DOMAIN : Field := ⟨R.TIME_CFG, 23, 16⟩
def TIME_CFG_PORTS : Field := ⟨R.TIME_CFG, 15, 12⟩
def TIME_CFG_IPVER : Field := ⟨R.TIME_CFG, 9, 8⟩
def TIME_CFG_DREQ_UNICAST : Field := ⟨R.TIME_CFG, 5, 5⟩
def TIME_CFG_PROFILE : Field := ⟨R.TIME_CFG, 4, 4⟩
def TIME_CFG_SOURCE : Field := ⟨R.TIME_CFG, 0, 0⟩
def TIME_STATUS_PORT : Field := ⟨R.TIME_STATUS, 13, 12⟩
def TIME_STATUS_STEP_ARMED : Field := ⟨R.TIME_STATUS, 11, 11⟩
def TIME_STATUS_STEPPED : Field := ⟨R.TIME_STATUS, 10, 10⟩
def TIME_STATUS_TWO_STEP : Field := ⟨R.TIME_STATUS, 9, 9⟩
def TIME_STATUS_STATE : Field := ⟨R.TIME_STATUS, 2, 0⟩
def TIME_NOW_S_LO_VALUE : Field := ⟨R.TIME_NOW_S_LO, 31, 0⟩
def TIME_NOW_S_HI_VALUE : Field := ⟨R.TIME_NOW_S_HI, 31, 0⟩
def TIME_NOW_NS_VALUE : Field := ⟨R.TIME_NOW_NS, 31, 0⟩
def TIME_NOW_FRAC_VALUE : Field := ⟨R.TIME_NOW_FRAC, 31, 0⟩
def TIME_OFFSET_OFFSET_NS : Field := ⟨R.TIME_OFFSET, 31, 0⟩
def TIME_RATE_LO_RATE : Field := ⟨R.TIME_RATE_LO, 31, 0⟩
def TIME_RATE_HI_RATE : Field := ⟨R.TIME_RATE_HI, 31, 0⟩
def TIME_STEPAMT_LO_STEP_NS : Field := ⟨R.TIME_STEPAMT_LO, 31, 0⟩
def TIME_STEPAMT_HI_STEP_NS : Field := ⟨R.TIME_STEPAMT_HI, 31, 0⟩
def TIME_MASTER_LO_CLOCK_ID : Field := ⟨R.TIME_MASTER_LO, 31, 0⟩
def TIME_MASTER_HI_CLOCK_ID : Field := ⟨R.TIME_MASTER_HI, 31, 0⟩
def TIME_ASYM_ASYM_NS : Field := ⟨R.TIME_ASYM, 31, 0⟩
def PQ_CFG_LATE_INST : Field := ⟨R.PQ_CFG, 1, 1⟩
def PQ_CFG_MISS : Field := ⟨R.PQ_CFG, 0, 0⟩
def PQ_PIPE_BUILD_US : Field := ⟨R.PQ_PIPE, 31, 16⟩
def PQ_PIPE_PIPE_US : Field := ⟨R.PQ_PIPE, 15, 0⟩
def PQ_ENTSEL_HANDLE : Field := ⟨R.PQ_ENTSEL, 4, 0⟩
def PQ_ENTINFO_FRAME : Field := ⟨R.PQ_ENTINFO, 31, 16⟩
def PQ_ENTINFO_ASAP : Field := ⟨R.PQ_ENTINFO, 5, 5⟩
def PQ_ENTINFO_LATE : Field := ⟨R.PQ_ENTINFO, 4, 4⟩
def PQ_ENTINFO_STATE : Field := ⟨R.PQ_ENTINFO, 2, 0⟩
def PQ_ENTLS_LO_VALUE : Field := ⟨R.PQ_ENTLS_LO, 31, 0⟩
def PQ_ENTLS_HI_VALUE : Field := ⟨R.PQ_ENTLS_HI, 31, 0⟩
def PQ_ENTLNS_VALUE : Field := ⟨R.PQ_ENTLNS, 31, 0⟩
def PQ_ENTOV_BUF1 : Field := ⟨R.PQ_ENTOV, 31, 16⟩
def PQ_ENTOV_USED : Field := ⟨R.PQ_ENTOV, 15, 0⟩
def PQ_CNT_COUNT (k : Nat) : Field := ⟨(R.PQ_CNT k), 31, 0⟩
def ENC_CFG_GOP_LEN : Field := ⟨R.ENC_CFG, 23, 16⟩
def ENC_CFG_DIVIDE : Field := ⟨R.ENC_CFG, 11, 8⟩
def ENC_CFG_MATRIX : Field := ⟨R.ENC_CFG, 4, 4⟩
def ENC_CFG_MODE : Field := ⟨R.ENC_CFG, 1, 0⟩
def ENC_SIZE_OUT_H : Field := ⟨R.ENC_SIZE, 27, 16⟩
def ENC_SIZE_OUT_W : Field := ⟨R.ENC_SIZE, 11, 0⟩
def ENC_VIEW_VIEW_V (n : Nat) (m : Nat) : Field := ⟨(R.ENC_VIEW n), 8 * m + 7, 8 * m + 4⟩
def ENC_VIEW_VIEW_U (n : Nat) (m : Nat) : Field := ⟨(R.ENC_VIEW n), 8 * m + 3, 8 * m + 0⟩
def ENC_RC_QP_MAX : Field := ⟨R.ENC_RC, 29, 24⟩
def ENC_RC_QP_MIN : Field := ⟨R.ENC_RC, 21, 16⟩
def ENC_RC_RC_MODE : Field := ⟨R.ENC_RC, 8, 8⟩
def ENC_RC_INTRA_Q : Field := ⟨R.ENC_RC, 3, 0⟩
def ENC_BITRATE_MAX : Field := ⟨R.ENC_BITRATE, 31, 16⟩
def ENC_BITRATE_TARGET : Field := ⟨R.ENC_BITRATE, 15, 0⟩
def ENC_TX_TX_DELAY_US : Field := ⟨R.ENC_TX, 31, 16⟩
def ENC_TX_PORT : Field := ⟨R.ENC_TX, 13, 12⟩
def ENC_TX_STREAM_ID : Field := ⟨R.ENC_TX, 5, 0⟩
def ENC_PACE_PACE_MBPS : Field := ⟨R.ENC_PACE, 13, 0⟩
def ENC_POOL_POOL_ID : Field := ⟨R.ENC_POOL, 5, 0⟩
def ENC_DST_MAC_LO_VALUE : Field := ⟨R.ENC_DST_MAC_LO, 31, 0⟩
def ENC_DST_MAC_HI_VALUE : Field := ⟨R.ENC_DST_MAC_HI, 15, 0⟩
def ENC_DST_IP4_VALUE : Field := ⟨R.ENC_DST_IP4, 31, 0⟩
def ENC_DST_UDP_VALUE : Field := ⟨R.ENC_DST_UDP, 15, 0⟩
def ENC_STATUS_PICTURES : Field := ⟨R.ENC_STATUS, 31, 16⟩
def ENC_STATUS_HIGH_TIER : Field := ⟨R.ENC_STATUS, 2, 2⟩
def ENC_STATUS_SEL_PENDING : Field := ⟨R.ENC_STATUS, 1, 1⟩
def ENC_STATUS_RUNNING : Field := ⟨R.ENC_STATUS, 0, 0⟩
def ENC_CARRY_CARRY : Field := ⟨R.ENC_CARRY, 31, 0⟩
def ENC_CNT_COUNT (k : Nat) : Field := ⟨(R.ENC_CNT k), 31, 0⟩
def AFL_TILE_CFG_MAX_DEFER : Field := ⟨R.AFL_TILE_CFG, 31, 28⟩
def AFL_TILE_CFG_GO_US : Field := ⟨R.AFL_TILE_CFG, 27, 16⟩
def AFL_TILE_CFG_LOST_MS : Field := ⟨R.AFL_TILE_CFG, 15, 8⟩
def AFL_TILE_CFG_COUNT : Field := ⟨R.AFL_TILE_CFG, 5, 4⟩
def AFL_TILE_CFG_TOPO : Field := ⟨R.AFL_TILE_CFG, 1, 0⟩
def AFL_TILE_STATUS_WIRING : Field := ⟨R.AFL_TILE_STATUS, 19, 16⟩
def AFL_TILE_STATUS_LEADER_OK : Field := ⟨R.AFL_TILE_STATUS, 12, 12⟩
def AFL_TILE_STATUS_AWAITED : Field := ⟨R.AFL_TILE_STATUS, 11, 8⟩
def AFL_TILE_STATUS_SEEN : Field := ⟨R.AFL_TILE_STATUS, 7, 4⟩
def AFL_TILE_STATUS_TILE_ID : Field := ⟨R.AFL_TILE_STATUS, 1, 0⟩
def AFL_SKEW_SKEW_NS : Field := ⟨R.AFL_SKEW, 31, 0⟩
def AFL_CNT_COUNT (k : Nat) : Field := ⟨(R.AFL_CNT k), 31, 0⟩
def AFL_REMSEL_WORD : Field := ⟨R.AFL_REMSEL, 12, 8⟩
def AFL_REMSEL_DEVICE : Field := ⟨R.AFL_REMSEL, 1, 0⟩
def AFL_REMPEND_PENDING : Field := ⟨R.AFL_REMPEND, 31, 0⟩
def HBM_CFG_NR_EN (c : Nat) : Field := ⟨(R.HBM_CFG c), 8, 8⟩
def HBM_CFG_NR_K (c : Nat) : Field := ⟨(R.HBM_CFG c), 3, 0⟩
def HBM_STATUS_INORDER (c : Nat) : Field := ⟨(R.HBM_STATUS c), 13, 12⟩
def HBM_STATUS_NR_NOMASK (c : Nat) : Field := ⟨(R.HBM_STATUS c), 9, 9⟩
def HBM_STATUS_SELFREF (c : Nat) : Field := ⟨(R.HBM_STATUS c), 8, 8⟩
def HBM_STATUS_REFI (c : Nat) : Field := ⟨(R.HBM_STATUS c), 7, 6⟩
def HBM_STATUS_BAND (c : Nat) : Field := ⟨(R.HBM_STATUS c), 5, 4⟩
def HBM_STATUS_RATE (c : Nat) : Field := ⟨(R.HBM_STATUS c), 1, 0⟩
def HBM_ECC_CORR_PC1 (c : Nat) : Field := ⟨(R.HBM_ECC_CORR c), 31, 16⟩
def HBM_ECC_CORR_PC0 (c : Nat) : Field := ⟨(R.HBM_ECC_CORR c), 15, 0⟩
def HBM_ECC_UNCORR_PC1 (c : Nat) : Field := ⟨(R.HBM_ECC_UNCORR c), 31, 16⟩
def HBM_ECC_UNCORR_PC0 (c : Nat) : Field := ⟨(R.HBM_ECC_UNCORR c), 15, 0⟩
def HBM_ECC_LAST_VALID (c : Nat) : Field := ⟨(R.HBM_ECC_LAST c), 31, 31⟩
def HBM_ECC_LAST_WORD (c : Nat) : Field := ⟨(R.HBM_ECC_LAST c), 29, 0⟩
def HBM_NRCNT_COUNT (c : Nat) : Field := ⟨(R.HBM_NRCNT c), 31, 0⟩
def HBM_FREQCTL_TARGET (s : Nat) : Field := ⟨(R.HBM_FREQCTL s), 1, 0⟩
def HBM_FREQSTAT_CHANGES (s : Nat) : Field := ⟨(R.HBM_FREQSTAT s), 31, 16⟩
def HBM_FREQSTAT_AVAIL (s : Nat) : Field := ⟨(R.HBM_FREQSTAT s), 15, 12⟩
def HBM_FREQSTAT_ACTIVE (s : Nat) : Field := ⟨(R.HBM_FREQSTAT s), 9, 9⟩
def HBM_FREQSTAT_PENDING (s : Nat) : Field := ⟨(R.HBM_FREQSTAT s), 8, 8⟩
def HBM_FREQSTAT_CEILING (s : Nat) : Field := ⟨(R.HBM_FREQSTAT s), 5, 4⟩
def HBM_FREQSTAT_IN_FORCE (s : Nat) : Field := ⟨(R.HBM_FREQSTAT s), 1, 0⟩
def HBM_FREQTIME_DURATION_NS (s : Nat) : Field := ⟨(R.HBM_FREQTIME s), 15, 0⟩
def HBM_POOL_A_SIZE (n : Nat) : Field := ⟨(R.HBM_POOL_A n), 31, 16⟩
def HBM_POOL_A_BASE (n : Nat) : Field := ⟨(R.HBM_POOL_A n), 15, 0⟩
def HBM_POOL_B_VALID (n : Nat) : Field := ⟨(R.HBM_POOL_B n), 8, 8⟩
def HBM_POOL_B_KIND (n : Nat) : Field := ⟨(R.HBM_POOL_B n), 7, 0⟩
def XLAT_CTX_PARKS (n : Nat) : Field := ⟨(R.XLAT_CTX n), 31, 16⟩
def XLAT_CTX_STATE (n : Nat) : Field := ⟨(R.XLAT_CTX n), 2, 0⟩
def XLAT_RELEASE_KIND : Field := ⟨R.XLAT_RELEASE, 19, 16⟩
def XLAT_RELEASE_ID : Field := ⟨R.XLAT_RELEASE, 5, 0⟩
def XLAT_LEASESEL_LEASE : Field := ⟨R.XLAT_LEASESEL, 7, 0⟩
def XLAT_LEASEINFO_GEN : Field := ⟨R.XLAT_LEASEINFO, 31, 16⟩
def XLAT_LEASEINFO_HOLDERS : Field := ⟨R.XLAT_LEASEINFO, 15, 8⟩
def XLAT_LEASEINFO_STATE : Field := ⟨R.XLAT_LEASEINFO, 1, 0⟩
def XLAT_LEASEOWN_POOL_ID : Field := ⟨R.XLAT_LEASEOWN, 29, 24⟩
def XLAT_LEASEOWN_OWNER_ID : Field := ⟨R.XLAT_LEASEOWN, 13, 8⟩
def XLAT_LEASEOWN_OWNER_KIND : Field := ⟨R.XLAT_LEASEOWN, 2, 0⟩
def XLAT_LEASEBASE_PAGES : Field := ⟨R.XLAT_LEASEBASE, 31, 0⟩
def XLAT_LEASELEN_PAGES : Field := ⟨R.XLAT_LEASELEN, 31, 0⟩
def XLAT_PROBE_LO_CA : Field := ⟨R.XLAT_PROBE_LO, 31, 0⟩
def XLAT_PROBE_HI_CTX : Field := ⟨R.XLAT_PROBE_HI, 29, 24⟩
def XLAT_PROBE_HI_CA : Field := ⟨R.XLAT_PROBE_HI, 8, 0⟩
def XLAT_PTE_LO_PTE : Field := ⟨R.XLAT_PTE_LO, 31, 0⟩
def XLAT_PTE_HI_PTE : Field := ⟨R.XLAT_PTE_HI, 31, 0⟩
def XLAT_FLT_INFO_VALID : Field := ⟨R.XLAT_FLT_INFO, 31, 31⟩
def XLAT_FLT_INFO_CTX : Field := ⟨R.XLAT_FLT_INFO, 29, 24⟩
def XLAT_FLT_INFO_LEASE_VALID : Field := ⟨R.XLAT_FLT_INFO, 16, 16⟩
def XLAT_FLT_INFO_LEASE : Field := ⟨R.XLAT_FLT_INFO, 15, 8⟩
def XLAT_FLT_INFO_CODE : Field := ⟨R.XLAT_FLT_INFO, 3, 0⟩
def XLAT_FLT_ADDR_LO_CA : Field := ⟨R.XLAT_FLT_ADDR_LO, 31, 0⟩
def XLAT_FLT_ADDR_HI_CA : Field := ⟨R.XLAT_FLT_ADDR_HI, 8, 0⟩
def XLAT_CNT_COUNT (k : Nat) : Field := ⟨(R.XLAT_CNT k), 31, 0⟩
def FUL_JOB_WIDTH (n : Nat) : Field := ⟨(R.FUL_JOB n), 12, 8⟩
def FUL_JOB_OP (n : Nat) : Field := ⟨(R.FUL_JOB n), 1, 0⟩
def FUL_SRC_POOL_ID (n : Nat) : Field := ⟨(R.FUL_SRC n), 5, 0⟩
def FUL_DST_POOL_ID (n : Nat) : Field := ⟨(R.FUL_DST n), 5, 0⟩
def FUL_SRC_OFF_OFFSET (n : Nat) : Field := ⟨(R.FUL_SRC_OFF n), 31, 0⟩
def FUL_DST_OFF_OFFSET (n : Nat) : Field := ⟨(R.FUL_DST_OFF n), 31, 0⟩
def FUL_SRC_LEN_BYTES (n : Nat) : Field := ⟨(R.FUL_SRC_LEN n), 31, 0⟩
def FUL_DST_CAP_BYTES (n : Nat) : Field := ⟨(R.FUL_DST_CAP n), 31, 0⟩
def FUL_CTRL_ABORT (n : Nat) : Field := ⟨(R.FUL_CTRL n), 1, 1⟩
def FUL_CTRL_START (n : Nat) : Field := ⟨(R.FUL_CTRL n), 0, 0⟩
def FUL_STATUS_REFUSE (n : Nat) : Field := ⟨(R.FUL_STATUS n), 31, 16⟩
def FUL_STATUS_ERR (n : Nat) : Field := ⟨(R.FUL_STATUS n), 15, 12⟩
def FUL_STATUS_STATE (n : Nat) : Field := ⟨(R.FUL_STATUS n), 9, 8⟩
def FUL_STATUS_BUSY (n : Nat) : Field := ⟨(R.FUL_STATUS n), 4, 4⟩
def FUL_STATUS_RESULT (n : Nat) : Field := ⟨(R.FUL_STATUS n), 2, 0⟩
def FUL_OUTLEN_BYTES (n : Nat) : Field := ⟨(R.FUL_OUTLEN n), 31, 0⟩
def FUL_PROGRESS_BLOCKS (n : Nat) : Field := ⟨(R.FUL_PROGRESS n), 31, 0⟩
def FUL_STORED_BLOCKS (n : Nat) : Field := ⟨(R.FUL_STORED n), 31, 0⟩
def FUL_CNT0_COUNT (n : Nat) : Field := ⟨(R.FUL_CNT0 n), 31, 0⟩
def FUL_CNT1_COUNT (n : Nat) : Field := ⟨(R.FUL_CNT1 n), 31, 0⟩
def EVT_PEND_PENDING (w : Nat) : Field := ⟨(R.EVT_PEND w), 31, 0⟩
def EVT_EN_ENABLE (w : Nat) : Field := ⟨(R.EVT_EN w), 31, 0⟩
def EVT_ACTIVE_ACTIVE (w : Nat) : Field := ⟨(R.EVT_ACTIVE w), 31, 0⟩
def EVT_LEVEL_LEVEL (w : Nat) : Field := ⟨(R.EVT_LEVEL w), 31, 0⟩
def EVT_GRP_HELD (g : Nat) : Field := ⟨(R.EVT_GRP g), 25, 25⟩
def EVT_GRP_LOG (g : Nat) : Field := ⟨(R.EVT_GRP g), 24, 24⟩
def EVT_GRP_TARGETS (g : Nat) : Field := ⟨(R.EVT_GRP g), 23, 16⟩
def EVT_GRP_HOLDOFF (g : Nat) : Field := ⟨(R.EVT_GRP g), 15, 0⟩
def EVT_CLAIM_TARGET : Field := ⟨R.EVT_CLAIM, 18, 16⟩
def EVT_CLAIM_SOURCE : Field := ⟨R.EVT_CLAIM, 9, 0⟩
def EVT_DONE_SOURCE : Field := ⟨R.EVT_DONE, 9, 0⟩
def EVT_STRAY_LAST : Field := ⟨R.EVT_STRAY, 25, 16⟩
def EVT_STRAY_COUNT : Field := ⟨R.EVT_STRAY, 15, 0⟩
def EVT_ASSERT_TARGETS : Field := ⟨R.EVT_ASSERT, 7, 0⟩
def EVT_HOST_REPEAT_MS (t : Nat) : Field := ⟨(R.EVT_HOST t), 23, 16⟩
def EVT_HOST_SESSION (t : Nat) : Field := ⟨(R.EVT_HOST t), 6, 4⟩
def EVT_HOST_BIND (t : Nat) : Field := ⟨(R.EVT_HOST t), 0, 0⟩
def EVT_SWSET_RAISE : Field := ⟨R.EVT_SWSET, 15, 0⟩
def EVT_SWLEVEL_CONDITION : Field := ⟨R.EVT_SWLEVEL, 15, 0⟩
def EVT_CNT_COUNT (n : Nat) (m : Nat) : Field := ⟨(R.EVT_CNT n), 8 * m + 7, 8 * m + 0⟩
def ERRLOG_WR_SEQ : Field := ⟨R.ERRLOG_WR, 31, 0⟩
def ERRLOG_RD_SEQ : Field := ⟨R.ERRLOG_RD, 31, 0⟩
def ERRLOG_CFG_WMARK : Field := ⟨R.ERRLOG_CFG, 12, 0⟩
def ERRLOG_STATUS_QUEUED : Field := ⟨R.ERRLOG_STATUS, 22, 16⟩
def ERRLOG_STATUS_FULL : Field := ⟨R.ERRLOG_STATUS, 13, 13⟩
def ERRLOG_STATUS_FILL : Field := ⟨R.ERRLOG_STATUS, 12, 0⟩
def ERRLOG_DROP_DROP_HI (k : Nat) : Field := ⟨(R.ERRLOG_DROP k), 31, 16⟩
def ERRLOG_DROP_DROP_LO (k : Nat) : Field := ⟨(R.ERRLOG_DROP k), 15, 0⟩
def ERRLOG_MERGED_COUNT : Field := ⟨R.ERRLOG_MERGED, 31, 0⟩
def CHIP_MODE_PENDING : Field := ⟨R.CHIP_MODE, 12, 12⟩
def CHIP_MODE_TARGET : Field := ⟨R.CHIP_MODE, 11, 8⟩
def CHIP_MODE_BASE : Field := ⟨R.CHIP_MODE, 7, 4⟩
def CHIP_MODE_MODE : Field := ⟨R.CHIP_MODE, 3, 0⟩
def CHIP_MODEREQ_MODE : Field := ⟨R.CHIP_MODEREQ, 3, 0⟩
def CHIP_SAFECAUSE_CAUSE : Field := ⟨R.CHIP_SAFECAUSE, 7, 0⟩
def THERM_CFG_SHUT_HYST : Field := ⟨R.THERM_CFG, 19, 16⟩
def THERM_CFG_THROT_HYST : Field := ⟨R.THERM_CFG, 11, 8⟩
def THERM_CFG_WARN_HYST : Field := ⟨R.THERM_CFG, 3, 0⟩
def THERM_THROT_THROT_SHARE : Field := ⟨R.THERM_THROT, 22, 16⟩
def THERM_THROT_THROT_MHZ : Field := ⟨R.THERM_THROT, 10, 0⟩
def THERM_STATUS_FAST : Field := ⟨R.THERM_STATUS, 22, 22⟩
def THERM_STATUS_THROT : Field := ⟨R.THERM_STATUS, 21, 21⟩
def THERM_STATUS_WARN : Field := ⟨R.THERM_STATUS, 20, 20⟩
def THERM_STATUS_HBM1_BAND : Field := ⟨R.THERM_STATUS, 17, 16⟩
def THERM_STATUS_HBM0_BAND : Field := ⟨R.THERM_STATUS, 15, 14⟩
def THERM_STATUS_BAND : Field := ⟨R.THERM_STATUS, 13, 12⟩
def THERM_STATUS_TDIE : Field := ⟨R.THERM_STATUS, 11, 0⟩
def THERM_DEFER_COUNT : Field := ⟨R.THERM_DEFER, 31, 0⟩
def THERM_SENS_BROKEN (n : Nat) : Field := ⟨(R.THERM_SENS n), 31, 31⟩
def THERM_SENS_EFFECTIVE (n : Nat) : Field := ⟨(R.THERM_SENS n), 27, 16⟩
def THERM_SENS_RAW (n : Nat) : Field := ⟨(R.THERM_SENS n), 11, 0⟩
def PWR_DOMAIN_ON (k : Nat) : Field := ⟨(R.PWR_DOMAIN k), 31, 0⟩
def PWR_RBSEL_BLOCK : Field := ⟨R.PWR_RBSEL, 5, 0⟩
def PWR_RBPT_VOLT_MV : Field := ⟨R.PWR_RBPT, 31, 16⟩
def PWR_RBPT_CLOCK_MHZ : Field := ⟨R.PWR_RBPT, 15, 0⟩
def PWR_SUPPLY_FAULT : Field := ⟨R.PWR_SUPPLY, 14, 8⟩
def PWR_SUPPLY_WARN : Field := ⟨R.PWR_SUPPLY, 6, 0⟩
def SIZ_SRC_POOL_ID : Field := ⟨R.SIZ_SRC, 5, 0⟩
def SIZ_OFF_VALUE : Field := ⟨R.SIZ_OFF, 31, 0⟩
def SIZ_LEN_VALUE : Field := ⟨R.SIZ_LEN, 31, 0⟩
def SIZ_CTRL_OP : Field := ⟨R.SIZ_CTRL, 1, 0⟩
def SIZ_STATUS_FAIL_TYPE : Field := ⟨R.SIZ_STATUS, 23, 16⟩
def SIZ_STATUS_ERR : Field := ⟨R.SIZ_STATUS, 15, 12⟩
def SIZ_STATUS_PEND_EPOCH : Field := ⟨R.SIZ_STATUS, 6, 6⟩
def SIZ_STATUS_PEND_FENCE : Field := ⟨R.SIZ_STATUS, 5, 5⟩
def SIZ_STATUS_BUSY : Field := ⟨R.SIZ_STATUS, 4, 4⟩
def SIZ_STATUS_COPY : Field := ⟨R.SIZ_STATUS, 1, 0⟩
def SIZ_ENTRY_ENTRY : Field := ⟨R.SIZ_ENTRY, 23, 0⟩
def SIZ_SEQ_SEQUENCE : Field := ⟨R.SIZ_SEQ, 31, 0⟩
def SIZ_LIMIT_STEP_RS : Field := ⟨R.SIZ_LIMIT, 31, 16⟩
def SIZ_LIMIT_STEP_DXY : Field := ⟨R.SIZ_LIMIT, 15, 0⟩
def SIZ_TYPES_IN_FORCE : Field := ⟨R.SIZ_TYPES, 6, 1⟩
def ETH_LOOP_TIMEOUT_S (n : Nat) : Field := ⟨(R.ETH_LOOP n), 31, 24⟩
def ETH_LOOP_MODE (n : Nat) : Field := ⟨(R.ETH_LOOP n), 18, 16⟩
def ETH_LOOP_GEN_EN (n : Nat) : Field := ⟨(R.ETH_LOOP n), 15, 15⟩
def ETH_LOOP_FRAME_LEN (n : Nat) : Field := ⟨(R.ETH_LOOP n), 13, 0⟩
def ETH_LOOPCNT_COUNT (n : Nat) (k : Nat) : Field := ⟨(R.ETH_LOOPCNT n k), 31, 0⟩
def LNK_LOOP_BASE_LANE (link : Nat) : Field := ⟨(R.LNK_LOOP link), 14, 8⟩
def LNK_LOOP_MODE (link : Nat) : Field := ⟨(R.LNK_LOOP link), 2, 0⟩
def LNK_LOOPERR_SYNC (link : Nat) : Field := ⟨(R.LNK_LOOPERR link), 31, 31⟩
def LNK_LOOPERR_ERRORS (link : Nat) : Field := ⟨(R.LNK_LOOPERR link), 30, 0⟩
def HBM_TEST_OP (c : Nat) : Field := ⟨(R.HBM_TEST c), 1, 0⟩
def HBM_TESTSTAT_FAIL_ROW (c : Nat) : Field := ⟨(R.HBM_TESTSTAT c), 29, 16⟩
def HBM_TESTSTAT_FAIL_PC (c : Nat) : Field := ⟨(R.HBM_TESTSTAT c), 15, 15⟩
def HBM_TESTSTAT_FAIL_BANK (c : Nat) : Field := ⟨(R.HBM_TESTSTAT c), 13, 8⟩
def HBM_TESTSTAT_RESULT (c : Nat) : Field := ⟨(R.HBM_TESTSTAT c), 1, 0⟩
def DEC_SELFTEST_POOL_ID : Field := ⟨R.DEC_SELFTEST, 13, 8⟩
def DEC_SELFTEST_START : Field := ⟨R.DEC_SELFTEST, 0, 0⟩
def DEC_SELFSTAT_FAIL : Field := ⟨R.DEC_SELFSTAT, 23, 16⟩
def DEC_SELFSTAT_PASS : Field := ⟨R.DEC_SELFSTAT, 15, 8⟩
def DEC_SELFSTAT_HP_FAIL : Field := ⟨R.DEC_SELFSTAT, 2, 2⟩
def DEC_SELFSTAT_RESULT : Field := ⟨R.DEC_SELFSTAT, 1, 0⟩
def CHIP_STRAPS_FLASH_SDR : Field := ⟨R.CHIP_STRAPS, 2, 2⟩
def CHIP_STRAPS_TILE_ID : Field := ⟨R.CHIP_STRAPS, 1, 0⟩
def CHIP_BOOTTIME_CAUSE : Field := ⟨R.CHIP_BOOTTIME, 31, 30⟩
def CHIP_BOOTTIME_MS : Field := ⟨R.CHIP_BOOTTIME, 19, 0⟩

end F

end Sys2Proof.Machine
end

