-- ==== Sys2Proof/Machine/RegTable.lean ====
section
/-! DEFINITION. The register map: every register of the manual with its address, commit point and fields
(access type and reset value), as its register tables give them (spec/00_scope.md R6, R12, R15, R18 and
the register tables of every chapter). A field whose Reset column shows "image" resets to 0 (R580). -/

namespace Sys2Proof.Machine

/-- The access types of R12. -/
inductive Access where
  | rw | ro | wo | w1c | w1s | rc | rwl
  deriving DecidableEq, Repr

/-- The commit points of R15. -/
inductive CommitPoint where
  | immediate | streamStart | fence | epoch | none
  deriving DecidableEq, Repr

/-- One field of a register table: bits hi:lo, access type, reset value. -/
structure FieldDesc where
  hi : Nat
  lo : Nat
  access : Access
  reset : Nat
  deriving DecidableEq, Repr

/-- One register or an array of registers: instance (i, j) lies at base + s1 × i + s2 × j. -/
structure RegDesc where
  name : String
  base : Nat
  s1 : Nat
  n1 : Nat
  s2 : Nat
  n2 : Nat
  commit : CommitPoint
  fields : List FieldDesc
  deriving DecidableEq, Repr

/-- The registers of spec/00_scope.md. -/
def regTable00 : List RegDesc :=
  [ ⟨"CHIP_ID", 0x0, 0x0, 1, 0x0, 1, .none,
     [⟨31, 16, .ro, 0x4B54⟩, ⟨15, 0, .ro, 0x9140⟩]⟩,
    ⟨"CHIP_REV", 0x4, 0x0, 1, 0x0, 1, .none,
     [⟨15, 8, .ro, 0x2⟩, ⟨7, 0, .ro, 0x1⟩]⟩ ]

/-- The registers of spec/01_ray_space.md. -/
def regTable01 : List RegDesc :=
  [ ⟨"GEOM_W", 0x400100, 0x4, 16, 0x0, 1, .fence,
     [⟨31, 0, .rw, 0x0⟩]⟩,
    ⟨"GEOM_CTRL", 0x400140, 0x0, 1, 0x0, 1, .immediate,
     [⟨1, 1, .wo, 0x0⟩, ⟨0, 0, .wo, 0x0⟩]⟩,
    ⟨"GEOM_STATUS", 0x400144, 0x0, 1, 0x0, 1, .none,
     [⟨10, 10, .ro, 0x0⟩, ⟨9, 9, .ro, 0x0⟩, ⟨8, 8, .ro, 0x0⟩, ⟨3, 0, .ro, 0x0⟩]⟩,
    ⟨"GEOM_RAYS", 0x400148, 0x0, 1, 0x0, 1, .none,
     [⟨29, 0, .ro, 0x0⟩]⟩,
    ⟨"GEOM_TILES", 0x40014C, 0x0, 1, 0x0, 1, .none,
     [⟨31, 16, .ro, 0x0⟩, ⟨15, 0, .ro, 0x0⟩]⟩,
    ⟨"RAYH_NANCNT", 0x400150, 0x0, 1, 0x0, 1, .none,
     [⟨31, 0, .rc, 0x0⟩]⟩ ]

/-- The registers of spec/02_structure_cukar.md. -/
def regTable02 : List RegDesc :=
  [ ⟨"CHIP_EPOCH", 0x10, 0x0, 1, 0x0, 1, .none,
     [⟨31, 0, .ro, 0x0⟩]⟩,
    ⟨"IMG_CTRL", 0x14, 0x0, 1, 0x0, 1, .immediate,
     [⟨4, 4, .wo, 0x0⟩, ⟨1, 0, .wo, 0x0⟩]⟩,
    ⟨"IMG_STATUS", 0x18, 0x0, 1, 0x0, 1, .none,
     [⟨23, 16, .ro, 0x0⟩, ⟨15, 14, .ro, 0x0⟩, ⟨13, 12, .ro, 0x0⟩, ⟨11, 11, .ro, 0x0⟩, ⟨7, 4, .ro, 0x0⟩, ⟨3, 0, .ro, 0x0⟩]⟩,
    ⟨"IMG_SEQ", 0x1C, 0x0, 1, 0x0, 1, .epoch,
     [⟨31, 0, .ro, 0x0⟩]⟩,
    ⟨"IMG_VERSION", 0x20, 0x0, 1, 0x0, 1, .epoch,
     [⟨31, 0, .ro, 0x0⟩]⟩,
    ⟨"RB_ROLE", 0x40, 0x4, 8, 0x0, 1, .epoch,
     [⟨3, 0, .rwl, 0x0⟩, ⟨7, 4, .rwl, 0x0⟩, ⟨11, 8, .rwl, 0x0⟩, ⟨15, 12, .rwl, 0x0⟩, ⟨19, 16, .rwl, 0x0⟩, ⟨23, 20, .rwl, 0x0⟩, ⟨27, 24, .rwl, 0x0⟩, ⟨31, 28, .rwl, 0x0⟩]⟩,
    ⟨"RG_BLKSTATE", 0x1000000, 0x100000, 16, 0x0, 1, .none,
     [⟨23, 16, .ro, 0x0⟩, ⟨3, 0, .ro, 0x0⟩, ⟨7, 4, .ro, 0x0⟩, ⟨11, 8, .ro, 0x0⟩, ⟨15, 12, .ro, 0x0⟩]⟩,
    ⟨"RG_CELLRET", 0x1000004, 0x100000, 16, 0x0, 1, .none,
     [⟨7, 0, .ro, 0x0⟩, ⟨15, 8, .ro, 0x0⟩, ⟨23, 16, .ro, 0x0⟩, ⟨31, 24, .ro, 0x0⟩]⟩,
    ⟨"RG_BLKCTRL", 0x1000008, 0x100000, 16, 0x0, 1, .immediate,
     [⟨3, 0, .w1s, 0x0⟩]⟩ ]

/-- The registers of spec/03_control_kcp.md. -/
def regTable03 : List RegDesc :=
  [ ⟨"KCP_SESS", 0x10000, 0x4, 8, 0x0, 1, .none,
     [⟨13, 12, .ro, 0x0⟩, ⟨9, 8, .ro, 0x0⟩, ⟨5, 4, .ro, 0x0⟩, ⟨1, 0, .ro, 0x0⟩]⟩,
    ⟨"KCP_AUTHFAIL", 0x10020, 0x0, 1, 0x0, 1, .none,
     [⟨31, 0, .rc, 0x0⟩]⟩,
    ⟨"KCP_DISCARD", 0x10024, 0x0, 1, 0x0, 1, .none,
     [⟨31, 0, .rc, 0x0⟩]⟩,
    ⟨"KCP_IDLE", 0x10028, 0x0, 1, 0x0, 1, .immediate,
     [⟨11, 0, .rw, 0xA⟩]⟩,
    ⟨"PATH_CMD", 0x10100, 0x0, 1, 0x0, 1, .immediate,
     [⟨31, 28, .wo, 0x0⟩, ⟨24, 24, .wo, 0x0⟩, ⟨11, 8, .wo, 0x0⟩, ⟨7, 0, .wo, 0x0⟩]⟩,
    ⟨"PATH_STATE", 0x10200, 0x4, 10, 0x0, 1, .none,
     [⟨1, 0, .ro, 0x0⟩, ⟨3, 2, .ro, 0x0⟩, ⟨5, 4, .ro, 0x0⟩, ⟨7, 6, .ro, 0x0⟩, ⟨9, 8, .ro, 0x0⟩, ⟨11, 10, .ro, 0x0⟩, ⟨13, 12, .ro, 0x0⟩, ⟨15, 14, .ro, 0x0⟩, ⟨17, 16, .ro, 0x0⟩, ⟨19, 18, .ro, 0x0⟩, ⟨21, 20, .ro, 0x0⟩, ⟨23, 22, .ro, 0x0⟩, ⟨25, 24, .ro, 0x0⟩, ⟨27, 26, .ro, 0x0⟩, ⟨29, 28, .ro, 0x0⟩, ⟨31, 30, .ro, 0x0⟩]⟩ ]

/-- The registers of spec/04_ethernet_ingest.md. -/
def regTable04 : List RegDesc :=
  [ ⟨"ETH_CFG", 0x100000, 0x10000, 4, 0x0, 1, .immediate,
     [⟨31, 20, .rw, 0x0⟩, ⟨18, 16, .rw, 0x0⟩, ⟨15, 8, .rw, 0x0⟩, ⟨4, 4, .rw, 0x0⟩, ⟨1, 0, .rw, 0x3⟩]⟩,
    ⟨"ETH_ROLE", 0x100004, 0x10000, 4, 0x0, 1, .immediate,
     [⟨25, 16, .rw, 0x64⟩, ⟨5, 4, .rw, 0x0⟩, ⟨2, 0, .rw, 0x1⟩]⟩,
    ⟨"ETH_STATUS", 0x100008, 0x10000, 4, 0x0, 1, .none,
     [⟨3, 3, .ro, 0x0⟩, ⟨1, 1, .ro, 0x0⟩, ⟨0, 0, .ro, 0x0⟩]⟩,
    ⟨"ETH_MAC_LO", 0x10000C, 0x10000, 4, 0x0, 1, .none,
     [⟨31, 0, .ro, 0x0⟩]⟩,
    ⟨"ETH_MAC_HI", 0x100010, 0x10000, 4, 0x0, 1, .none,
     [⟨15, 0, .ro, 0x0⟩]⟩,
    ⟨"ETH_IP4", 0x100014, 0x10000, 4, 0x0, 1, .immediate,
     [⟨31, 0, .rw, 0x0⟩]⟩,
    ⟨"ETH_IP6_", 0x100018, 0x10000, 4, 0x4, 4, .immediate,
     [⟨31, 0, .rw, 0x0⟩]⟩,
    ⟨"ETH_RXERR", 0x100028, 0x10000, 4, 0x0, 1, .none,
     [⟨31, 0, .rc, 0x0⟩]⟩,
    ⟨"ETH_BATTERR", 0x10002C, 0x10000, 4, 0x0, 1, .none,
     [⟨31, 16, .rc, 0x0⟩, ⟨15, 0, .rc, 0x0⟩]⟩,
    ⟨"STRM_CFG", 0x108000, 0x20, 64, 0x0, 1, .streamStart,
     [⟨25, 16, .rw, 0x0⟩, ⟨11, 8, .rw, 0x0⟩, ⟨5, 4, .rw, 0x0⟩, ⟨3, 0, .rw, 0x0⟩]⟩,
    ⟨"STRM_POOL", 0x108004, 0x20, 64, 0x0, 1, .streamStart,
     [⟨31, 16, .rw, 0x0⟩, ⟨13, 8, .rw, 0x0⟩, ⟨5, 0, .rw, 0x0⟩]⟩,
    ⟨"STRM_TIMING", 0x108008, 0x20, 64, 0x0, 1, .streamStart,
     [⟨31, 16, .rw, 0x0⟩, ⟨15, 0, .rw, 0x0⟩]⟩,
    ⟨"STRM_RATE", 0x10800C, 0x20, 64, 0x0, 1, .streamStart,
     [⟨20, 0, .rw, 0x0⟩]⟩,
    ⟨"STRM_UNITS", 0x108010, 0x20, 64, 0x0, 1, .none,
     [⟨31, 16, .rc, 0x0⟩, ⟨15, 0, .rc, 0x0⟩]⟩,
    ⟨"STRM_LOST", 0x108014, 0x20, 64, 0x0, 1, .none,
     [⟨31, 0, .rc, 0x0⟩]⟩,
    ⟨"STRM_LATE", 0x108018, 0x20, 64, 0x0, 1, .none,
     [⟨31, 0, .rc, 0x0⟩]⟩,
    ⟨"STRM_DUP", 0x10801C, 0x20, 64, 0x0, 1, .none,
     [⟨31, 0, .rc, 0x0⟩]⟩ ]

/-- The registers of spec/05_decode.md. -/
def regTable05 : List RegDesc :=
  [ ⟨"DEC_CFG", 0x200000, 0x0, 1, 0x0, 1, .immediate,
     [⟨11, 8, .rw, 0x2⟩, ⟨4, 4, .rw, 0x0⟩, ⟨1, 0, .rw, 0x0⟩]⟩,
    ⟨"DEC_STATUS", 0x200004, 0x0, 1, 0x0, 1, .none,
     [⟨15, 8, .ro, 0xFF⟩, ⟨7, 4, .ro, 0x0⟩, ⟨3, 0, .ro, 0x0⟩]⟩,
    ⟨"DEC_CTX_CFG", 0x200100, 0x40, 4, 0x0, 1, .streamStart,
     [⟨21, 16, .rw, 0x0⟩, ⟨8, 8, .rw, 0x0⟩, ⟨5, 0, .rw, 0x0⟩]⟩,
    ⟨"DEC_CTX_SLOTS", 0x200104, 0x40, 4, 0x0, 1, .streamStart,
     [⟨26, 16, .rw, 0x0⟩, ⟨12, 0, .rw, 0x0⟩]⟩,
    ⟨"DEC_CTX_RATE", 0x200108, 0x40, 4, 0x0, 1, .streamStart,
     [⟨31, 16, .rw, 0x1F40⟩, ⟨12, 0, .rw, 0x0⟩]⟩,
    ⟨"DEC_CTX_FILL", 0x20010C, 0x40, 4, 0x0, 1, .streamStart,
     [⟨9, 0, .rw, 0x0⟩]⟩,
    ⟨"DEC_CTX_STATE", 0x200110, 0x40, 4, 0x0, 1, .none,
     [⟨31, 16, .ro, 0x0⟩, ⟨15, 8, .ro, 0x0⟩, ⟨1, 0, .ro, 0x0⟩]⟩,
    ⟨"DEC_CTX_CNT", 0x200114, 0x40, 4, 0x4, 10, .none,
     [⟨31, 0, .rc, 0x0⟩]⟩,
    ⟨"DEC_SLOTSEL", 0x200200, 0x0, 1, 0x0, 1, .immediate,
     [⟨13, 12, .rw, 0x0⟩, ⟨9, 0, .rw, 0x0⟩]⟩,
    ⟨"DEC_SLOTINFO", 0x200204, 0x0, 1, 0x0, 1, .none,
     [⟨18, 16, .ro, 0x0⟩, ⟨13, 8, .ro, 0x0⟩, ⟨7, 7, .ro, 0x0⟩, ⟨6, 6, .ro, 0x0⟩, ⟨5, 5, .ro, 0x0⟩, ⟨4, 4, .ro, 0x0⟩, ⟨3, 3, .ro, 0x0⟩, ⟨2, 2, .ro, 0x0⟩, ⟨1, 0, .ro, 0x0⟩]⟩,
    ⟨"DEC_SLOTPOC", 0x200208, 0x0, 1, 0x0, 1, .none,
     [⟨31, 0, .ro, 0x0⟩]⟩,
    ⟨"DEC_SLOTCONC", 0x20020C, 0x0, 1, 0x0, 1, .none,
     [⟨15, 0, .ro, 0x0⟩]⟩,
    ⟨"DEC_LAYERSEL", 0x200210, 0x0, 1, 0x0, 1, .immediate,
     [⟨13, 12, .rw, 0x0⟩, ⟨5, 0, .rw, 0x0⟩]⟩,
    ⟨"DEC_LAYERSTAT", 0x200214, 0x0, 1, 0x0, 1, .none,
     [⟨31, 16, .ro, 0x0⟩, ⟨2, 0, .ro, 0x0⟩]⟩ ]

/-- The registers of spec/06_carding.md. -/
def regTable06 : List RegDesc :=
  [ ⟨"CARD_LYR_SRC", 0x300000, 0x40, 64, 0x0, 1, .fence,
     [⟨21, 16, .rw, 0x0⟩, ⟨13, 12, .rw, 0x0⟩, ⟨9, 9, .rw, 0x0⟩, ⟨8, 8, .rw, 0x0⟩, ⟨5, 0, .rw, 0x0⟩]⟩,
    ⟨"CARD_LYR_ORIGIN", 0x300004, 0x40, 64, 0x0, 1, .fence,
     [⟨27, 16, .rw, 0x0⟩, ⟨11, 0, .rw, 0x0⟩]⟩,
    ⟨"CARD_LYR_SIZE", 0x300008, 0x40, 64, 0x0, 1, .fence,
     [⟨28, 16, .rw, 0x0⟩, ⟨12, 0, .rw, 0x0⟩]⟩,
    ⟨"CARD_LYR_PARAM", 0x30000C, 0x40, 64, 0x0, 1, .fence,
     [⟨30, 24, .rw, 0x20⟩, ⟨20, 16, .rw, 0x8⟩, ⟨15, 8, .rw, 0x10⟩, ⟨7, 6, .rw, 0x0⟩, ⟨5, 4, .rw, 0x3⟩, ⟨3, 3, .rw, 0x0⟩, ⟨2, 0, .rw, 0x4⟩]⟩,
    ⟨"CARD_LYR_FILL", 0x300010, 0x40, 64, 0x0, 1, .fence,
     [⟨29, 0, .rw, 0x0⟩]⟩,
    ⟨"CARD_LYR_SEAM", 0x300014, 0x40, 64, 0x0, 1, .fence,
     [⟨31, 16, .rw, 0x0⟩, ⟨11, 8, .rw, 0x0⟩, ⟨4, 0, .rw, 0x0⟩]⟩,
    ⟨"CARD_LYR_LAST", 0x300018, 0x40, 64, 0x0, 1, .none,
     [⟨25, 25, .ro, 0x0⟩, ⟨24, 24, .ro, 0x0⟩, ⟨21, 16, .ro, 0x0⟩, ⟨13, 8, .ro, 0x0⟩, ⟨5, 0, .ro, 0x0⟩]⟩,
    ⟨"CARD_LYR_CNT", 0x30001C, 0x40, 64, 0x4, 7, .none,
     [⟨31, 0, .rc, 0x0⟩]⟩,
    ⟨"CARD_KVD", 0x301000, 0x200, 64, 0x4, 68, .fence,
     [⟨31, 0, .rw, 0x0⟩]⟩,
    ⟨"CARD_OV_BIND", 0x309000, 0x10, 16, 0x0, 1, .fence,
     [⟨8, 8, .rw, 0x0⟩, ⟨5, 0, .rw, 0x0⟩]⟩,
    ⟨"CARD_OV_POS", 0x309004, 0x10, 16, 0x0, 1, .fence,
     [⟨31, 16, .rw, 0x0⟩, ⟨15, 0, .rw, 0x0⟩]⟩,
    ⟨"CARD_OV_DEPTH", 0x309008, 0x10, 16, 0x0, 1, .fence,
     [⟨27, 24, .rw, 0x0⟩, ⟨19, 16, .rw, 0x0⟩, ⟨12, 0, .rw, 0x0⟩]⟩,
    ⟨"CARD_KSET", 0x30A000, 0x0, 1, 0x0, 1, .epoch,
     [⟨31, 0, .ro, 0x0⟩]⟩ ]

/-- The registers of spec/07_conformer.md. -/
def regTable07 : List RegDesc :=
  [ ⟨"CONF_STAGE", 0x400000, 0x0, 1, 0x0, 1, .immediate,
     [⟨21, 16, .rw, 0x0⟩, ⟨5, 0, .rw, 0x2⟩]⟩,
    ⟨"CONF_COLOUR", 0x400004, 0x0, 1, 0x0, 1, .fence,
     [⟨5, 5, .rw, 0x1⟩, ⟨4, 4, .rw, 0x1⟩, ⟨2, 0, .rw, 0x1⟩]⟩,
    ⟨"CONF_MATRIX", 0x400008, 0x0, 1, 0x0, 1, .fence,
     [⟨15, 0, .rw, 0x1000⟩, ⟨31, 16, .rw, 0x0⟩]⟩,
    ⟨"CONF_MATRIX", 0x40000C, 0x0, 1, 0x0, 1, .fence,
     [⟨15, 0, .rw, 0x0⟩, ⟨31, 16, .rw, 0x0⟩]⟩,
    ⟨"CONF_MATRIX", 0x400010, 0x0, 1, 0x0, 1, .fence,
     [⟨15, 0, .rw, 0x1000⟩, ⟨31, 16, .rw, 0x0⟩]⟩,
    ⟨"CONF_MATRIX", 0x400014, 0x0, 1, 0x0, 1, .fence,
     [⟨15, 0, .rw, 0x0⟩, ⟨31, 16, .rw, 0x0⟩]⟩,
    ⟨"CONF_MATRIX", 0x400018, 0x0, 1, 0x0, 1, .fence,
     [⟨15, 0, .rw, 0x1000⟩, ⟨31, 16, .rw, 0x0⟩]⟩,
    ⟨"CONF_COLCTRL", 0x40001C, 0x0, 1, 0x0, 1, .immediate,
     [⟨1, 1, .wo, 0x0⟩, ⟨0, 0, .wo, 0x0⟩]⟩,
    ⟨"CONF_COLSTATUS", 0x400020, 0x0, 1, 0x0, 1, .none,
     [⟨8, 8, .ro, 0x0⟩, ⟨2, 0, .ro, 0x1⟩]⟩,
    ⟨"CONF_MAPSRC", 0x400024, 0x0, 1, 0x0, 1, .immediate,
     [⟨8, 8, .rw, 0x0⟩, ⟨5, 0, .rw, 0x0⟩]⟩,
    ⟨"CONF_MAPOFF", 0x400028, 0x0, 1, 0x0, 1, .immediate,
     [⟨31, 0, .rw, 0x0⟩]⟩,
    ⟨"CONF_MAPCTRL", 0x40002C, 0x0, 1, 0x0, 1, .immediate,
     [⟨1, 1, .wo, 0x0⟩, ⟨0, 0, .wo, 0x0⟩]⟩,
    ⟨"CONF_MAPSTATUS", 0x400030, 0x0, 1, 0x0, 1, .none,
     [⟨13, 12, .ro, 0x0⟩, ⟨9, 9, .ro, 0x0⟩, ⟨8, 8, .ro, 0x0⟩, ⟨3, 0, .ro, 0x0⟩]⟩,
    ⟨"CONF_MAPENTRY", 0x400034, 0x0, 1, 0x0, 1, .none,
     [⟨23, 0, .ro, 0x0⟩]⟩,
    ⟨"CONF_FRAME", 0x400038, 0x0, 1, 0x0, 1, .none,
     [⟨29, 24, .ro, 0x2⟩, ⟨20, 16, .ro, 0x0⟩, ⟨1, 0, .ro, 0x0⟩]⟩,
    ⟨"CONF_DIRTY", 0x40003C, 0x0, 1, 0x0, 1, .none,
     [⟨20, 0, .ro, 0x0⟩]⟩,
    ⟨"CONF_UNMAPPED", 0x400040, 0x0, 1, 0x0, 1, .none,
     [⟨31, 0, .ro, 0x0⟩]⟩,
    ⟨"CONF_CNT", 0x400044, 0x4, 3, 0x0, 1, .none,
     [⟨31, 0, .rc, 0x0⟩]⟩,
    ⟨"CONF_GAIN", 0x400200, 0x4, 128, 0x0, 1, .fence,
     [⟨31, 16, .rw, 0x4000⟩, ⟨15, 0, .rw, 0x4000⟩]⟩,
    ⟨"CONF_TFLUT", 0x408000, 0x4, 7681, 0x0, 1, .fence,
     [⟨27, 16, .rw, 0x0⟩, ⟨11, 0, .rw, 0x0⟩]⟩ ]

/-- The registers of spec/08_plank_overlay.md. -/
def regTable08a : List RegDesc :=
  [ ⟨"PLK_OP", 0x500000, 0x10000, 2, 0x0, 1, .immediate,
     [⟨9, 9, .rw, 0x0⟩, ⟨8, 8, .rw, 0x0⟩, ⟨3, 0, .rw, 0x0⟩]⟩,
    ⟨"PLK_DST_SURF", 0x500004, 0x10000, 2, 0x0, 1, .immediate,
     [⟨10, 8, .rw, 0x0⟩, ⟨5, 0, .rw, 0x0⟩]⟩,
    ⟨"PLK_SRC_SURF", 0x500018, 0x10000, 2, 0x0, 1, .immediate,
     [⟨10, 8, .rw, 0x0⟩, ⟨5, 0, .rw, 0x0⟩]⟩,
    ⟨"PLK_DST_BASE", 0x500008, 0x10000, 2, 0x0, 1, .immediate,
     [⟨31, 0, .rw, 0x0⟩]⟩,
    ⟨"PLK_SRC_BASE", 0x50001C, 0x10000, 2, 0x0, 1, .immediate,
     [⟨31, 0, .rw, 0x0⟩]⟩,
    ⟨"PLK_DST_PITCH", 0x50000C, 0x10000, 2, 0x0, 1, .immediate,
     [⟨18, 0, .rw, 0x0⟩]⟩,
    ⟨"PLK_SRC_PITCH", 0x500020, 0x10000, 2, 0x0, 1, .immediate,
     [⟨18, 0, .rw, 0x0⟩]⟩,
    ⟨"PLK_DST_XY", 0x500010, 0x10000, 2, 0x0, 1, .immediate,
     [⟨31, 16, .rw, 0x0⟩, ⟨15, 0, .rw, 0x0⟩]⟩,
    ⟨"PLK_SRC_XY", 0x500024, 0x10000, 2, 0x0, 1, .immediate,
     [⟨31, 16, .rw, 0x0⟩, ⟨15, 0, .rw, 0x0⟩]⟩,
    ⟨"PLK_SIZE", 0x500014, 0x10000, 2, 0x0, 1, .immediate,
     [⟨31, 16, .rw, 0x0⟩, ⟨15, 0, .rw, 0x0⟩]⟩,
    ⟨"PLK_COLOUR_LO", 0x500028, 0x10000, 2, 0x0, 1, .immediate,
     [⟨31, 0, .rw, 0x0⟩]⟩,
    ⟨"PLK_COLOUR_HI", 0x50002C, 0x10000, 2, 0x0, 1, .immediate,
     [⟨31, 0, .rw, 0x0⟩]⟩,
    ⟨"PLK_BGCOLOUR_LO", 0x500030, 0x10000, 2, 0x0, 1, .immediate,
     [⟨31, 0, .rw, 0x0⟩]⟩,
    ⟨"PLK_BGCOLOUR_HI", 0x500034, 0x10000, 2, 0x0, 1, .immediate,
     [⟨31, 0, .rw, 0x0⟩]⟩,
    ⟨"PLK_WMARK", 0x500038, 0x10000, 2, 0x0, 1, .immediate,
     [⟨31, 31, .rw, 0x0⟩, ⟨13, 0, .rw, 0x0⟩]⟩,
    ⟨"PLK_CTRL", 0x50003C, 0x10000, 2, 0x0, 1, .immediate,
     [⟨1, 1, .wo, 0x0⟩, ⟨0, 0, .wo, 0x0⟩]⟩,
    ⟨"PLK_STATUS", 0x500040, 0x10000, 2, 0x0, 1, .none,
     [⟨23, 8, .ro, 0x0⟩, ⟨4, 4, .ro, 0x0⟩, ⟨2, 0, .ro, 0x0⟩]⟩,
    ⟨"PLK_PROGRESS", 0x500044, 0x10000, 2, 0x0, 1, .none,
     [⟨14, 0, .ro, 0x0⟩]⟩,
    ⟨"OV_FMT", 0x508000, 0x20, 16, 0x0, 1, .fence,
     [⟨21, 16, .rw, 0x0⟩, ⟨8, 8, .rw, 0x0⟩, ⟨2, 0, .rw, 0x0⟩]⟩,
    ⟨"OV_POOL", 0x508004, 0x20, 16, 0x0, 1, .fence,
     [⟨5, 0, .rw, 0x0⟩]⟩,
    ⟨"OV_SIZE", 0x508008, 0x20, 16, 0x0, 1, .fence,
     [⟨28, 16, .rw, 0x0⟩, ⟨12, 0, .rw, 0x0⟩]⟩,
    ⟨"OV_PITCH", 0x50800C, 0x20, 16, 0x0, 1, .fence,
     [⟨18, 0, .rw, 0x0⟩]⟩,
    ⟨"OV_BUF0", 0x508010, 0x20, 16, 0x0, 1, .fence,
     [⟨31, 0, .rw, 0x0⟩]⟩,
    ⟨"OV_BUF1", 0x508014, 0x20, 16, 0x0, 1, .fence,
     [⟨31, 0, .rw, 0x0⟩]⟩ ]

/-- The registers of spec/08_plank_overlay.md. -/
def regTable08b : List RegDesc :=
  [ ⟨"OV_FRONT", 0x508018, 0x20, 16, 0x0, 1, .fence,
     [⟨0, 0, .rw, 0x0⟩]⟩,
    ⟨"OV_CONST", 0x50801C, 0x20, 16, 0x0, 1, .fence,
     [⟨29, 0, .rw, 0x0⟩]⟩ ]

/-- The registers of spec/09_serial_lanes.md. -/
def regTable09 : List RegDesc :=
  [ ⟨"LNK_CFG", 0x600000, 0x0, 1, 0x0, 1, .immediate,
     [⟨8, 8, .rw, 0x0⟩, ⟨4, 4, .rw, 0x1⟩, ⟨1, 0, .rw, 0x3⟩]⟩,
    ⟨"LNK_CFG", 0x700000, 0x40, 4, 0x0, 1, .immediate,
     [⟨8, 8, .rw, 0x0⟩, ⟨4, 4, .rw, 0x0⟩, ⟨1, 0, .rw, 0x3⟩]⟩,
    ⟨"LNK_CTRL", 0x600004, 0x0, 1, 0x0, 1, .immediate,
     [⟨0, 0, .wo, 0x0⟩]⟩,
    ⟨"LNK_CTRL", 0x700004, 0x40, 4, 0x0, 1, .immediate,
     [⟨0, 0, .wo, 0x0⟩]⟩,
    ⟨"LNK_STATUS", 0x600008, 0x0, 1, 0x0, 1, .none,
     [⟨23, 20, .ro, 0x0⟩, ⟨19, 16, .ro, 0x0⟩, ⟨13, 12, .ro, 0x0⟩, ⟨9, 8, .ro, 0x0⟩, ⟨7, 4, .ro, 0x0⟩, ⟨2, 0, .ro, 0x0⟩]⟩,
    ⟨"LNK_STATUS", 0x700008, 0x40, 4, 0x0, 1, .none,
     [⟨23, 20, .ro, 0x0⟩, ⟨19, 16, .ro, 0x0⟩, ⟨13, 12, .ro, 0x0⟩, ⟨9, 8, .ro, 0x0⟩, ⟨7, 4, .ro, 0x0⟩, ⟨2, 0, .ro, 0x0⟩]⟩,
    ⟨"LNK_DROP", 0x60000C, 0x0, 1, 0x0, 1, .none,
     [⟨31, 0, .rc, 0x0⟩]⟩,
    ⟨"LNK_DROP", 0x70000C, 0x40, 4, 0x0, 1, .none,
     [⟨31, 0, .rc, 0x0⟩]⟩,
    ⟨"LNK_LANESEL", 0x600010, 0x0, 1, 0x0, 1, .immediate,
     [⟨2, 0, .rw, 0x0⟩]⟩,
    ⟨"LNK_LANESEL", 0x700010, 0x40, 4, 0x0, 1, .immediate,
     [⟨2, 0, .rw, 0x0⟩]⟩,
    ⟨"LNK_LANEINFO", 0x600014, 0x0, 1, 0x0, 1, .none,
     [⟨23, 16, .ro, 0x0⟩, ⟨13, 8, .ro, 0x0⟩, ⟨4, 4, .ro, 0x0⟩, ⟨3, 3, .ro, 0x0⟩, ⟨2, 2, .ro, 0x0⟩, ⟨1, 1, .ro, 0x0⟩, ⟨0, 0, .ro, 0x0⟩]⟩,
    ⟨"LNK_LANEINFO", 0x700014, 0x40, 4, 0x0, 1, .none,
     [⟨23, 16, .ro, 0x0⟩, ⟨13, 8, .ro, 0x0⟩, ⟨4, 4, .ro, 0x0⟩, ⟨3, 3, .ro, 0x0⟩, ⟨2, 2, .ro, 0x0⟩, ⟨1, 1, .ro, 0x0⟩, ⟨0, 0, .ro, 0x0⟩]⟩,
    ⟨"LNK_LANEERR", 0x600018, 0x0, 1, 0x0, 1, .none,
     [⟨31, 16, .rc, 0x0⟩, ⟨15, 0, .rc, 0x0⟩]⟩,
    ⟨"LNK_LANEERR", 0x700018, 0x40, 4, 0x0, 1, .none,
     [⟨31, 16, .rc, 0x0⟩, ⟨15, 0, .rc, 0x0⟩]⟩,
    ⟨"LNK_PRESET", 0x600020, 0x0, 1, 0x0, 1, .immediate,
     [⟨21, 16, .rw, 0x20⟩, ⟨12, 8, .rw, 0x7⟩, ⟨4, 0, .rw, 0x0⟩]⟩,
    ⟨"LNK_PRESET", 0x600024, 0x0, 1, 0x0, 1, .immediate,
     [⟨21, 16, .rw, 0x20⟩, ⟨12, 8, .rw, 0x8⟩, ⟨4, 0, .rw, 0x1⟩]⟩,
    ⟨"LNK_PRESET", 0x600028, 0x0, 1, 0x0, 1, .immediate,
     [⟨21, 16, .rw, 0x20⟩, ⟨12, 8, .rw, 0x9⟩, ⟨4, 0, .rw, 0x2⟩]⟩,
    ⟨"LNK_PRESET", 0x60002C, 0x0, 1, 0x0, 1, .immediate,
     [⟨21, 16, .rw, 0x20⟩, ⟨12, 8, .rw, 0xA⟩, ⟨4, 0, .rw, 0x2⟩]⟩ ]

/-- The registers of spec/10_panel_protocol.md. -/
def regTable10 : List RegDesc :=
  [ ⟨"PANEL_CFG", 0x600040, 0x0, 1, 0x0, 1, .immediate,
     [⟨27, 24, .rw, 0x3⟩, ⟨18, 16, .rw, 0x2⟩, ⟨11, 8, .rw, 0x2⟩, ⟨0, 0, .rw, 0x0⟩]⟩,
    ⟨"PANEL_CTRL", 0x600044, 0x0, 1, 0x0, 1, .immediate,
     [⟨0, 0, .wo, 0x0⟩]⟩,
    ⟨"PANEL_STATUS", 0x600048, 0x0, 1, 0x0, 1, .none,
     [⟨31, 16, .ro, 0x0⟩, ⟨9, 8, .ro, 0x3⟩, ⟨4, 4, .ro, 0x0⟩, ⟨3, 3, .ro, 0x0⟩, ⟨2, 2, .ro, 0x0⟩, ⟨1, 1, .ro, 0x0⟩, ⟨0, 0, .ro, 0x0⟩]⟩,
    ⟨"PANEL_CAP", 0x600050, 0x4, 10, 0x0, 1, .none,
     [⟨31, 0, .ro, 0x0⟩]⟩,
    ⟨"PANEL_TEPER", 0x600078, 0x0, 1, 0x0, 1, .none,
     [⟨31, 0, .ro, 0x0⟩]⟩,
    ⟨"PANEL_TEWIDTH", 0x60007C, 0x0, 1, 0x0, 1, .none,
     [⟨15, 0, .ro, 0x0⟩]⟩,
    ⟨"PANEL_TES_LO", 0x600080, 0x0, 1, 0x0, 1, .none,
     [⟨31, 0, .ro, 0x0⟩]⟩,
    ⟨"PANEL_TES_HI", 0x600084, 0x0, 1, 0x0, 1, .none,
     [⟨31, 0, .ro, 0x0⟩]⟩,
    ⟨"PANEL_TENS", 0x600088, 0x0, 1, 0x0, 1, .none,
     [⟨31, 0, .ro, 0x0⟩]⟩,
    ⟨"PANEL_FRAME", 0x60008C, 0x0, 1, 0x0, 1, .none,
     [⟨31, 16, .ro, 0x0⟩, ⟨3, 0, .ro, 0x0⟩]⟩,
    ⟨"PANEL_PUSHES", 0x600090, 0x0, 1, 0x0, 1, .none,
     [⟨20, 0, .ro, 0x0⟩]⟩,
    ⟨"PANEL_CNT", 0x600094, 0x4, 6, 0x0, 1, .none,
     [⟨31, 0, .rc, 0x0⟩]⟩ ]

/-- The registers of spec/11_time_presentation.md. -/
def regTable11 : List RegDesc :=
  [ ⟨"TIME_CFG", 0x40000, 0x0, 1, 0x0, 1, .immediate,
     [⟨23, 16, .rw, 0x0⟩, ⟨15, 12, .rw, 0xF⟩, ⟨9, 8, .rw, 0x3⟩, ⟨5, 5, .rw, 0x0⟩, ⟨4, 4, .rw, 0x0⟩, ⟨0, 0, .rw, 0x1⟩]⟩,
    ⟨"TIME_STATUS", 0x40004, 0x0, 1, 0x0, 1, .none,
     [⟨13, 12, .ro, 0x0⟩, ⟨11, 11, .ro, 0x1⟩, ⟨10, 10, .ro, 0x0⟩, ⟨9, 9, .ro, 0x0⟩, ⟨2, 0, .ro, 0x1⟩]⟩,
    ⟨"TIME_NOW_S_LO", 0x40008, 0x0, 1, 0x0, 1, .none,
     [⟨31, 0, .ro, 0x0⟩]⟩,
    ⟨"TIME_NOW_S_HI", 0x4000C, 0x0, 1, 0x0, 1, .none,
     [⟨31, 0, .ro, 0x0⟩]⟩,
    ⟨"TIME_NOW_NS", 0x40010, 0x0, 1, 0x0, 1, .none,
     [⟨31, 0, .ro, 0x0⟩]⟩,
    ⟨"TIME_NOW_FRAC", 0x40014, 0x0, 1, 0x0, 1, .none,
     [⟨31, 0, .ro, 0x0⟩]⟩,
    ⟨"TIME_OFFSET", 0x40018, 0x0, 1, 0x0, 1, .none,
     [⟨31, 0, .ro, 0x0⟩]⟩,
    ⟨"TIME_RATE_LO", 0x4001C, 0x0, 1, 0x0, 1, .none,
     [⟨31, 0, .ro, 0x0⟩]⟩,
    ⟨"TIME_RATE_HI", 0x40020, 0x0, 1, 0x0, 1, .none,
     [⟨31, 0, .ro, 0x0⟩]⟩,
    ⟨"TIME_STEPAMT_LO", 0x40024, 0x0, 1, 0x0, 1, .none,
     [⟨31, 0, .ro, 0x0⟩]⟩,
    ⟨"TIME_STEPAMT_HI", 0x40028, 0x0, 1, 0x0, 1, .none,
     [⟨31, 0, .ro, 0x0⟩]⟩,
    ⟨"TIME_MASTER_LO", 0x4002C, 0x0, 1, 0x0, 1, .none,
     [⟨31, 0, .ro, 0x0⟩]⟩,
    ⟨"TIME_MASTER_HI", 0x40030, 0x0, 1, 0x0, 1, .none,
     [⟨31, 0, .ro, 0x0⟩]⟩,
    ⟨"TIME_ASYM", 0x40034, 0x0, 1, 0x0, 1, .immediate,
     [⟨31, 0, .rw, 0x0⟩]⟩,
    ⟨"PQ_CFG", 0x40100, 0x0, 1, 0x0, 1, .fence,
     [⟨1, 1, .rw, 0x0⟩, ⟨0, 0, .rw, 0x0⟩]⟩,
    ⟨"PQ_PIPE", 0x40104, 0x0, 1, 0x0, 1, .fence,
     [⟨31, 16, .rw, 0x3A98⟩, ⟨15, 0, .rw, 0x61A8⟩]⟩,
    ⟨"PQ_ENTSEL", 0x40108, 0x0, 1, 0x0, 1, .immediate,
     [⟨4, 0, .rw, 0x0⟩]⟩,
    ⟨"PQ_ENTINFO", 0x4010C, 0x0, 1, 0x0, 1, .none,
     [⟨31, 16, .ro, 0x0⟩, ⟨5, 5, .ro, 0x0⟩, ⟨4, 4, .ro, 0x0⟩, ⟨2, 0, .ro, 0x0⟩]⟩,
    ⟨"PQ_ENTLS_LO", 0x40110, 0x0, 1, 0x0, 1, .none,
     [⟨31, 0, .ro, 0x0⟩]⟩,
    ⟨"PQ_ENTLS_HI", 0x40114, 0x0, 1, 0x0, 1, .none,
     [⟨31, 0, .ro, 0x0⟩]⟩,
    ⟨"PQ_ENTLNS", 0x40118, 0x0, 1, 0x0, 1, .none,
     [⟨31, 0, .ro, 0x0⟩]⟩,
    ⟨"PQ_ENTOV", 0x4011C, 0x0, 1, 0x0, 1, .none,
     [⟨31, 16, .ro, 0x0⟩, ⟨15, 0, .ro, 0x0⟩]⟩,
    ⟨"PQ_CNT", 0x40120, 0x4, 4, 0x0, 1, .none,
     [⟨31, 0, .rc, 0x0⟩]⟩ ]

/-- The registers of spec/12_confidence_encoder.md. -/
def regTable12 : List RegDesc :=
  [ ⟨"ENC_CFG", 0x780000, 0x0, 1, 0x0, 1, .fence,
     [⟨23, 16, .rw, 0x3C⟩, ⟨11, 8, .rw, 0x1⟩, ⟨4, 4, .rw, 0x0⟩, ⟨1, 0, .rw, 0x1⟩]⟩,
    ⟨"ENC_SIZE", 0x780004, 0x0, 1, 0x0, 1, .fence,
     [⟨27, 16, .rw, 0x870⟩, ⟨11, 0, .rw, 0xF00⟩]⟩,
    ⟨"ENC_VIEW", 0x780008, 0x4, 4, 0x0, 1, .fence,
     [⟨7, 4, .rw, 0x0⟩, ⟨15, 12, .rw, 0x0⟩, ⟨23, 20, .rw, 0x0⟩, ⟨31, 28, .rw, 0x0⟩, ⟨3, 0, .rw, 0x0⟩, ⟨11, 8, .rw, 0x0⟩, ⟨19, 16, .rw, 0x0⟩, ⟨27, 24, .rw, 0x0⟩]⟩,
    ⟨"ENC_RC", 0x780018, 0x0, 1, 0x0, 1, .fence,
     [⟨29, 24, .rw, 0x2D⟩, ⟨21, 16, .rw, 0xA⟩, ⟨8, 8, .rw, 0x0⟩, ⟨3, 0, .rw, 0x8⟩]⟩,
    ⟨"ENC_BITRATE", 0x78001C, 0x0, 1, 0x0, 1, .fence,
     [⟨31, 16, .rw, 0xFA0⟩, ⟨15, 0, .rw, 0xFA0⟩]⟩,
    ⟨"ENC_TX", 0x780020, 0x0, 1, 0x0, 1, .fence,
     [⟨31, 16, .rw, 0x4E20⟩, ⟨13, 12, .rw, 0x0⟩, ⟨5, 0, .rw, 0x0⟩]⟩,
    ⟨"ENC_PACE", 0x780024, 0x0, 1, 0x0, 1, .fence,
     [⟨13, 0, .rw, 0x3E8⟩]⟩,
    ⟨"ENC_POOL", 0x780028, 0x0, 1, 0x0, 1, .fence,
     [⟨5, 0, .rw, 0x0⟩]⟩,
    ⟨"ENC_DST_MAC_LO", 0x78002C, 0x0, 1, 0x0, 1, .fence,
     [⟨31, 0, .rw, 0x0⟩]⟩,
    ⟨"ENC_DST_MAC_HI", 0x780030, 0x0, 1, 0x0, 1, .fence,
     [⟨15, 0, .rw, 0x0⟩]⟩,
    ⟨"ENC_DST_IP4", 0x780034, 0x0, 1, 0x0, 1, .fence,
     [⟨31, 0, .rw, 0x0⟩]⟩,
    ⟨"ENC_DST_UDP", 0x780038, 0x0, 1, 0x0, 1, .fence,
     [⟨15, 0, .rw, 0xCBC0⟩]⟩,
    ⟨"ENC_STATUS", 0x780040, 0x0, 1, 0x0, 1, .none,
     [⟨31, 16, .ro, 0x0⟩, ⟨2, 2, .ro, 0x0⟩, ⟨1, 1, .ro, 0x0⟩, ⟨0, 0, .ro, 0x0⟩]⟩,
    ⟨"ENC_CARRY", 0x780044, 0x0, 1, 0x0, 1, .none,
     [⟨31, 0, .ro, 0x0⟩]⟩,
    ⟨"ENC_CNT", 0x780048, 0x4, 5, 0x0, 1, .none,
     [⟨31, 0, .rc, 0x0⟩]⟩ ]

/-- The registers of spec/13_afloth_tiling.md. -/
def regTable13 : List RegDesc :=
  [ ⟨"AFL_TILE_CFG", 0x701000, 0x0, 1, 0x0, 1, .immediate,
     [⟨31, 28, .rw, 0x2⟩, ⟨27, 16, .rw, 0x14⟩, ⟨15, 8, .rw, 0x5⟩, ⟨5, 4, .rw, 0x3⟩, ⟨1, 0, .rw, 0x0⟩]⟩,
    ⟨"AFL_TILE_STATUS", 0x701004, 0x0, 1, 0x0, 1, .none,
     [⟨19, 16, .ro, 0x0⟩, ⟨12, 12, .ro, 0x0⟩, ⟨11, 8, .ro, 0x0⟩, ⟨7, 4, .ro, 0x0⟩, ⟨1, 0, .ro, 0x0⟩]⟩,
    ⟨"AFL_SKEW", 0x701008, 0x0, 1, 0x0, 1, .none,
     [⟨31, 0, .ro, 0x0⟩]⟩,
    ⟨"AFL_CNT", 0x70100C, 0x4, 6, 0x0, 1, .none,
     [⟨31, 0, .rc, 0x0⟩]⟩,
    ⟨"AFL_REMSEL", 0x701024, 0x0, 1, 0x0, 1, .immediate,
     [⟨12, 8, .rw, 0x0⟩, ⟨1, 0, .rw, 0x0⟩]⟩,
    ⟨"AFL_REMPEND", 0x701028, 0x0, 1, 0x0, 1, .none,
     [⟨31, 0, .ro, 0x0⟩]⟩ ]

/-- The registers of spec/14_hbm_controller.md. -/
def regTable14 : List RegDesc :=
  [ ⟨"HBM_CFG", 0x800000, 0x10000, 32, 0x0, 1, .immediate,
     [⟨8, 8, .rw, 0x1⟩, ⟨3, 0, .rw, 0x9⟩]⟩,
    ⟨"HBM_STATUS", 0x800004, 0x10000, 32, 0x0, 1, .none,
     [⟨13, 12, .ro, 0x0⟩, ⟨9, 9, .ro, 0x0⟩, ⟨8, 8, .ro, 0x0⟩, ⟨7, 6, .ro, 0x0⟩, ⟨5, 4, .ro, 0x0⟩, ⟨1, 0, .ro, 0x3⟩]⟩,
    ⟨"HBM_ECC_CORR", 0x800008, 0x10000, 32, 0x0, 1, .none,
     [⟨31, 16, .rc, 0x0⟩, ⟨15, 0, .rc, 0x0⟩]⟩,
    ⟨"HBM_ECC_UNCORR", 0x80000C, 0x10000, 32, 0x0, 1, .none,
     [⟨31, 16, .rc, 0x0⟩, ⟨15, 0, .rc, 0x0⟩]⟩,
    ⟨"HBM_ECC_LAST", 0x800010, 0x10000, 32, 0x0, 1, .none,
     [⟨31, 31, .ro, 0x0⟩, ⟨29, 0, .ro, 0x0⟩]⟩,
    ⟨"HBM_NRCNT", 0x800014, 0x10000, 32, 0x0, 1, .none,
     [⟨31, 0, .rc, 0x0⟩]⟩,
    ⟨"HBM_FREQCTL", 0x800020, 0x100000, 2, 0x0, 1, .immediate,
     [⟨1, 0, .rw, 0x3⟩]⟩,
    ⟨"HBM_FREQSTAT", 0x800024, 0x100000, 2, 0x0, 1, .none,
     [⟨31, 16, .ro, 0x0⟩, ⟨15, 12, .ro, 0x0⟩, ⟨9, 9, .ro, 0x0⟩, ⟨8, 8, .ro, 0x0⟩, ⟨5, 4, .ro, 0x3⟩, ⟨1, 0, .ro, 0x3⟩]⟩,
    ⟨"HBM_FREQTIME", 0x800028, 0x100000, 2, 0x0, 1, .none,
     [⟨15, 0, .ro, 0x0⟩]⟩,
    ⟨"HBM_POOL_A", 0x808000, 0x8, 64, 0x0, 1, .epoch,
     [⟨31, 16, .ro, 0x0⟩, ⟨15, 0, .ro, 0x0⟩]⟩,
    ⟨"HBM_POOL_B", 0x808004, 0x8, 64, 0x0, 1, .epoch,
     [⟨8, 8, .ro, 0x0⟩, ⟨7, 0, .ro, 0x0⟩]⟩ ]

/-- The registers of spec/15_translation_preemption.md. -/
def regTable15 : List RegDesc :=
  [ ⟨"XLAT_CTX", 0x80000, 0x4, 64, 0x0, 1, .none,
     [⟨31, 16, .ro, 0x0⟩, ⟨2, 0, .ro, 0x0⟩]⟩,
    ⟨"XLAT_RELEASE", 0x80100, 0x0, 1, 0x0, 1, .immediate,
     [⟨19, 16, .wo, 0x0⟩, ⟨5, 0, .wo, 0x0⟩]⟩,
    ⟨"XLAT_LEASESEL", 0x80104, 0x0, 1, 0x0, 1, .immediate,
     [⟨7, 0, .rw, 0x0⟩]⟩,
    ⟨"XLAT_LEASEINFO", 0x80108, 0x0, 1, 0x0, 1, .none,
     [⟨31, 16, .ro, 0x0⟩, ⟨15, 8, .ro, 0x0⟩, ⟨1, 0, .ro, 0x0⟩]⟩,
    ⟨"XLAT_LEASEOWN", 0x8010C, 0x0, 1, 0x0, 1, .none,
     [⟨29, 24, .ro, 0x0⟩, ⟨13, 8, .ro, 0x0⟩, ⟨2, 0, .ro, 0x0⟩]⟩,
    ⟨"XLAT_LEASEBASE", 0x80110, 0x0, 1, 0x0, 1, .none,
     [⟨31, 0, .ro, 0x0⟩]⟩,
    ⟨"XLAT_LEASELEN", 0x80114, 0x0, 1, 0x0, 1, .none,
     [⟨31, 0, .ro, 0x0⟩]⟩,
    ⟨"XLAT_PROBE_LO", 0x80118, 0x0, 1, 0x0, 1, .immediate,
     [⟨31, 0, .rw, 0x0⟩]⟩,
    ⟨"XLAT_PROBE_HI", 0x8011C, 0x0, 1, 0x0, 1, .immediate,
     [⟨29, 24, .rw, 0x0⟩, ⟨8, 0, .rw, 0x0⟩]⟩,
    ⟨"XLAT_PTE_LO", 0x80120, 0x0, 1, 0x0, 1, .none,
     [⟨31, 0, .ro, 0x0⟩]⟩,
    ⟨"XLAT_PTE_HI", 0x80124, 0x0, 1, 0x0, 1, .none,
     [⟨31, 0, .ro, 0x0⟩]⟩,
    ⟨"XLAT_FLT_INFO", 0x80128, 0x0, 1, 0x0, 1, .none,
     [⟨31, 31, .ro, 0x0⟩, ⟨29, 24, .ro, 0x0⟩, ⟨16, 16, .ro, 0x0⟩, ⟨15, 8, .ro, 0x0⟩, ⟨3, 0, .ro, 0x0⟩]⟩,
    ⟨"XLAT_FLT_ADDR_LO", 0x8012C, 0x0, 1, 0x0, 1, .none,
     [⟨31, 0, .ro, 0x0⟩]⟩,
    ⟨"XLAT_FLT_ADDR_HI", 0x80130, 0x0, 1, 0x0, 1, .none,
     [⟨8, 0, .ro, 0x0⟩]⟩,
    ⟨"XLAT_CNT", 0x80134, 0x4, 5, 0x0, 1, .none,
     [⟨31, 0, .rc, 0x0⟩]⟩ ]

/-- The registers of spec/16_fuller.md. -/
def regTable16 : List RegDesc :=
  [ ⟨"FUL_JOB", 0x580000, 0x10000, 2, 0x0, 1, .immediate,
     [⟨12, 8, .rw, 0xC⟩, ⟨1, 0, .rw, 0x0⟩]⟩,
    ⟨"FUL_SRC", 0x580004, 0x10000, 2, 0x0, 1, .immediate,
     [⟨5, 0, .rw, 0x0⟩]⟩,
    ⟨"FUL_DST", 0x580010, 0x10000, 2, 0x0, 1, .immediate,
     [⟨5, 0, .rw, 0x0⟩]⟩,
    ⟨"FUL_SRC_OFF", 0x580008, 0x10000, 2, 0x0, 1, .immediate,
     [⟨31, 0, .rw, 0x0⟩]⟩,
    ⟨"FUL_DST_OFF", 0x580014, 0x10000, 2, 0x0, 1, .immediate,
     [⟨31, 0, .rw, 0x0⟩]⟩,
    ⟨"FUL_SRC_LEN", 0x58000C, 0x10000, 2, 0x0, 1, .immediate,
     [⟨31, 0, .rw, 0x0⟩]⟩,
    ⟨"FUL_DST_CAP", 0x580018, 0x10000, 2, 0x0, 1, .immediate,
     [⟨31, 0, .rw, 0x0⟩]⟩,
    ⟨"FUL_CTRL", 0x58001C, 0x10000, 2, 0x0, 1, .immediate,
     [⟨1, 1, .wo, 0x0⟩, ⟨0, 0, .wo, 0x0⟩]⟩,
    ⟨"FUL_STATUS", 0x580020, 0x10000, 2, 0x0, 1, .none,
     [⟨31, 16, .ro, 0x0⟩, ⟨15, 12, .ro, 0x0⟩, ⟨9, 8, .ro, 0x0⟩, ⟨4, 4, .ro, 0x0⟩, ⟨2, 0, .ro, 0x0⟩]⟩,
    ⟨"FUL_OUTLEN", 0x580024, 0x10000, 2, 0x0, 1, .none,
     [⟨31, 0, .ro, 0x0⟩]⟩,
    ⟨"FUL_PROGRESS", 0x580028, 0x10000, 2, 0x0, 1, .none,
     [⟨31, 0, .ro, 0x0⟩]⟩,
    ⟨"FUL_STORED", 0x58002C, 0x10000, 2, 0x0, 1, .none,
     [⟨31, 0, .ro, 0x0⟩]⟩,
    ⟨"FUL_CNT0", 0x580030, 0x10000, 2, 0x0, 1, .none,
     [⟨31, 0, .rc, 0x0⟩]⟩,
    ⟨"FUL_CNT1", 0x580034, 0x10000, 2, 0x0, 1, .none,
     [⟨31, 0, .rc, 0x0⟩]⟩ ]

/-- The registers of spec/17_events_errors.md. -/
def regTable17 : List RegDesc :=
  [ ⟨"EVT_PEND", 0x20000, 0x4, 32, 0x0, 1, .immediate,
     [⟨31, 0, .w1c, 0x0⟩]⟩,
    ⟨"EVT_EN", 0x20080, 0x4, 32, 0x0, 1, .immediate,
     [⟨31, 0, .rw, 0x0⟩]⟩,
    ⟨"EVT_ACTIVE", 0x20100, 0x4, 32, 0x0, 1, .none,
     [⟨31, 0, .ro, 0x0⟩]⟩,
    ⟨"EVT_LEVEL", 0x20180, 0x4, 32, 0x0, 1, .none,
     [⟨31, 0, .ro, 0x0⟩]⟩,
    ⟨"EVT_GRP", 0x20200, 0x4, 64, 0x0, 1, .immediate,
     [⟨25, 25, .ro, 0x0⟩, ⟨24, 24, .rw, 0x1⟩, ⟨23, 16, .rw, 0x0⟩, ⟨15, 0, .rw, 0x0⟩]⟩,
    ⟨"EVT_CLAIM", 0x20300, 0x0, 1, 0x0, 1, .immediate,
     [⟨18, 16, .wo, 0x0⟩, ⟨9, 0, .wo, 0x0⟩]⟩,
    ⟨"EVT_DONE", 0x20304, 0x0, 1, 0x0, 1, .immediate,
     [⟨9, 0, .wo, 0x0⟩]⟩,
    ⟨"EVT_STRAY", 0x20308, 0x0, 1, 0x0, 1, .none,
     [⟨25, 16, .ro, 0x0⟩, ⟨15, 0, .rc, 0x0⟩]⟩,
    ⟨"EVT_ASSERT", 0x2030C, 0x0, 1, 0x0, 1, .none,
     [⟨7, 0, .ro, 0x0⟩]⟩,
    ⟨"EVT_HOST", 0x20310, 0x4, 4, 0x0, 1, .immediate,
     [⟨23, 16, .rw, 0x0⟩, ⟨6, 4, .ro, 0x0⟩, ⟨0, 0, .rw, 0x0⟩]⟩,
    ⟨"EVT_SWSET", 0x20320, 0x0, 1, 0x0, 1, .immediate,
     [⟨15, 0, .w1s, 0x0⟩]⟩,
    ⟨"EVT_SWLEVEL", 0x20324, 0x0, 1, 0x0, 1, .immediate,
     [⟨15, 0, .rw, 0x0⟩]⟩,
    ⟨"EVT_CNT", 0x20400, 0x4, 256, 0x0, 1, .none,
     [⟨7, 0, .rc, 0x0⟩, ⟨15, 8, .rc, 0x0⟩, ⟨23, 16, .rc, 0x0⟩, ⟨31, 24, .rc, 0x0⟩]⟩,
    ⟨"ERRLOG_WR", 0x30000, 0x0, 1, 0x0, 1, .none,
     [⟨31, 0, .ro, 0x0⟩]⟩,
    ⟨"ERRLOG_RD", 0x30004, 0x0, 1, 0x0, 1, .immediate,
     [⟨31, 0, .rw, 0x0⟩]⟩,
    ⟨"ERRLOG_CFG", 0x30008, 0x0, 1, 0x0, 1, .immediate,
     [⟨12, 0, .rw, 0xC00⟩]⟩,
    ⟨"ERRLOG_STATUS", 0x3000C, 0x0, 1, 0x0, 1, .none,
     [⟨22, 16, .ro, 0x0⟩, ⟨13, 13, .ro, 0x0⟩, ⟨12, 0, .ro, 0x0⟩]⟩,
    ⟨"ERRLOG_DROP", 0x30010, 0x4, 4, 0x0, 1, .none,
     [⟨31, 16, .rc, 0x0⟩, ⟨15, 0, .rc, 0x0⟩]⟩,
    ⟨"ERRLOG_MERGED", 0x30020, 0x0, 1, 0x0, 1, .none,
     [⟨31, 0, .rc, 0x0⟩]⟩ ]

/-- The registers of spec/18_modes_power_thermal.md. -/
def regTable18 : List RegDesc :=
  [ ⟨"CHIP_MODE", 0x8, 0x0, 1, 0x0, 1, .none,
     [⟨12, 12, .ro, 0x0⟩, ⟨11, 8, .ro, 0x0⟩, ⟨7, 4, .ro, 0x1⟩, ⟨3, 0, .ro, 0x1⟩]⟩,
    ⟨"CHIP_MODEREQ", 0xC, 0x0, 1, 0x0, 1, .immediate,
     [⟨3, 0, .wo, 0x0⟩]⟩,
    ⟨"CHIP_SAFECAUSE", 0x24, 0x0, 1, 0x0, 1, .none,
     [⟨7, 0, .ro, 0x0⟩]⟩,
    ⟨"THERM_CFG", 0x50000, 0x0, 1, 0x0, 1, .immediate,
     [⟨19, 16, .rw, 0x4⟩, ⟨11, 8, .rw, 0x4⟩, ⟨3, 0, .rw, 0x4⟩]⟩,
    ⟨"THERM_THROT", 0x50004, 0x0, 1, 0x0, 1, .immediate,
     [⟨22, 16, .rw, 0x20⟩, ⟨10, 0, .rw, 0x384⟩]⟩,
    ⟨"THERM_STATUS", 0x50008, 0x0, 1, 0x0, 1, .none,
     [⟨22, 22, .ro, 0x0⟩, ⟨21, 21, .ro, 0x0⟩, ⟨20, 20, .ro, 0x0⟩, ⟨17, 16, .ro, 0x0⟩, ⟨15, 14, .ro, 0x0⟩, ⟨13, 12, .ro, 0x0⟩, ⟨11, 0, .ro, 0x0⟩]⟩,
    ⟨"THERM_DEFER", 0x5000C, 0x0, 1, 0x0, 1, .none,
     [⟨31, 0, .rc, 0x0⟩]⟩,
    ⟨"THERM_SENS", 0x50010, 0x4, 18, 0x0, 1, .none,
     [⟨31, 31, .ro, 0x0⟩, ⟨27, 16, .ro, 0x0⟩, ⟨11, 0, .ro, 0x0⟩]⟩,
    ⟨"PWR_DOMAIN", 0x50100, 0x4, 4, 0x0, 1, .none,
     [⟨31, 0, .ro, 0x0⟩]⟩,
    ⟨"PWR_RBSEL", 0x50110, 0x0, 1, 0x0, 1, .immediate,
     [⟨5, 0, .rw, 0x0⟩]⟩,
    ⟨"PWR_RBPT", 0x50114, 0x0, 1, 0x0, 1, .none,
     [⟨31, 16, .ro, 0x0⟩, ⟨15, 0, .ro, 0x0⟩]⟩,
    ⟨"PWR_SUPPLY", 0x50118, 0x0, 1, 0x0, 1, .none,
     [⟨14, 8, .ro, 0x0⟩, ⟨6, 0, .ro, 0x0⟩]⟩ ]

/-- The registers of spec/19_sizing_records.md. -/
def regTable19 : List RegDesc :=
  [ ⟨"SIZ_SRC", 0x60000, 0x0, 1, 0x0, 1, .immediate,
     [⟨5, 0, .rw, 0x0⟩]⟩,
    ⟨"SIZ_OFF", 0x60004, 0x0, 1, 0x0, 1, .immediate,
     [⟨31, 0, .rw, 0x0⟩]⟩,
    ⟨"SIZ_LEN", 0x60008, 0x0, 1, 0x0, 1, .immediate,
     [⟨31, 0, .rw, 0x0⟩]⟩,
    ⟨"SIZ_CTRL", 0x6000C, 0x0, 1, 0x0, 1, .immediate,
     [⟨1, 0, .wo, 0x0⟩]⟩,
    ⟨"SIZ_STATUS", 0x60010, 0x0, 1, 0x0, 1, .none,
     [⟨23, 16, .ro, 0x0⟩, ⟨15, 12, .ro, 0x0⟩, ⟨6, 6, .ro, 0x0⟩, ⟨5, 5, .ro, 0x0⟩, ⟨4, 4, .ro, 0x0⟩, ⟨1, 0, .ro, 0x0⟩]⟩,
    ⟨"SIZ_ENTRY", 0x60014, 0x0, 1, 0x0, 1, .none,
     [⟨23, 0, .ro, 0x0⟩]⟩,
    ⟨"SIZ_SEQ", 0x60018, 0x0, 1, 0x0, 1, .none,
     [⟨31, 0, .ro, 0x0⟩]⟩,
    ⟨"SIZ_LIMIT", 0x6001C, 0x0, 1, 0x0, 1, .immediate,
     [⟨31, 16, .rw, 0x100⟩, ⟨15, 0, .rw, 0x40⟩]⟩,
    ⟨"SIZ_TYPES", 0x60020, 0x0, 1, 0x0, 1, .none,
     [⟨6, 1, .ro, 0x0⟩]⟩ ]

/-- The registers of spec/20_test_identity.md. -/
def regTable20 : List RegDesc :=
  [ ⟨"ETH_LOOP", 0x100030, 0x10000, 4, 0x0, 1, .immediate,
     [⟨31, 24, .rw, 0xA⟩, ⟨18, 16, .rw, 0x0⟩, ⟨15, 15, .rw, 0x0⟩, ⟨13, 0, .rw, 0x5EE⟩]⟩,
    ⟨"ETH_LOOPCNT", 0x100034, 0x10000, 4, 0x4, 3, .none,
     [⟨31, 0, .ro, 0x0⟩]⟩,
    ⟨"LNK_LOOP", 0x600030, 0x0, 1, 0x0, 1, .immediate,
     [⟨14, 8, .rw, 0x0⟩, ⟨2, 0, .rw, 0x0⟩]⟩,
    ⟨"LNK_LOOP", 0x700030, 0x40, 4, 0x0, 1, .immediate,
     [⟨14, 8, .rw, 0x0⟩, ⟨2, 0, .rw, 0x0⟩]⟩,
    ⟨"LNK_LOOPERR", 0x600034, 0x0, 1, 0x0, 1, .none,
     [⟨31, 31, .ro, 0x0⟩, ⟨30, 0, .rc, 0x0⟩]⟩,
    ⟨"LNK_LOOPERR", 0x700034, 0x40, 4, 0x0, 1, .none,
     [⟨31, 31, .ro, 0x0⟩, ⟨30, 0, .rc, 0x0⟩]⟩,
    ⟨"HBM_TEST", 0x800040, 0x10000, 32, 0x0, 1, .immediate,
     [⟨1, 0, .wo, 0x0⟩]⟩,
    ⟨"HBM_TESTSTAT", 0x800044, 0x10000, 32, 0x0, 1, .none,
     [⟨29, 16, .ro, 0x0⟩, ⟨15, 15, .ro, 0x0⟩, ⟨13, 8, .ro, 0x0⟩, ⟨1, 0, .ro, 0x0⟩]⟩,
    ⟨"DEC_SELFTEST", 0x200300, 0x0, 1, 0x0, 1, .immediate,
     [⟨13, 8, .rw, 0x0⟩, ⟨0, 0, .wo, 0x0⟩]⟩,
    ⟨"DEC_SELFSTAT", 0x200304, 0x0, 1, 0x0, 1, .none,
     [⟨23, 16, .ro, 0x0⟩, ⟨15, 8, .ro, 0x0⟩, ⟨2, 2, .ro, 0x0⟩, ⟨1, 0, .ro, 0x0⟩]⟩ ]

/-- The registers of spec/21_pins_startup.md. -/
def regTable21 : List RegDesc :=
  [ ⟨"CHIP_STRAPS", 0x28, 0x0, 1, 0x0, 1, .none,
     [⟨2, 2, .ro, 0x0⟩, ⟨1, 0, .ro, 0x0⟩]⟩,
    ⟨"CHIP_BOOTTIME", 0x2C, 0x0, 1, 0x0, 1, .none,
     [⟨31, 30, .ro, 0x0⟩, ⟨19, 0, .ro, 0x0⟩]⟩ ]

/-- The register map, chapter by chapter. -/
def regTable : List RegDesc :=
  regTable00 ++
  regTable01 ++
  regTable02 ++
  regTable03 ++
  regTable04 ++
  regTable05 ++
  regTable06 ++
  regTable07 ++
  regTable08a ++
  regTable08b ++
  regTable09 ++
  regTable10 ++
  regTable11 ++
  regTable12 ++
  regTable13 ++
  regTable14 ++
  regTable15 ++
  regTable16 ++
  regTable17 ++
  regTable18 ++
  regTable19 ++
  regTable20 ++
  regTable21

/-- Instance (i, j) of d at address a, when a is one of d's addresses. -/
def regIndex (d : RegDesc) (a : Nat) : Option (Nat × Nat) :=
  if a < d.base then none else
  let off := a - d.base
  let i := if d.s1 = 0 then 0 else min (off / d.s1) (d.n1 - 1)
  let r := off - d.s1 * i
  let j := if d.s2 = 0 then 0 else r / d.s2
  if r = d.s2 * j ∧ i < d.n1 ∧ j < d.n2 then some (i, j) else none

/-- The register at address a with its instance, found in table order. -/
def regFindIn (a : Nat) : List RegDesc → Option (RegDesc × Nat × Nat)
  | [] => none
  | d :: t =>
    match regIndex d a with
    | some (i, j) => some (d, i, j)
    | none => regFindIn a t

/-- The register at address a (R8: none where the address is unmapped). -/
def regFind (a : Nat) : Option (RegDesc × Nat × Nat) := regFindIn a regTable

/-- The reset value that a register's fields make up. -/
def regDescReset (d : RegDesc) : Nat :=
  d.fields.foldl (fun acc f => acc + f.reset * 2 ^ f.lo) 0

end Sys2Proof.Machine
end

