-- ==== Sys2Proof/Config.lean ====
section
/-! DEFINITION. Free values: results and contents the manual leaves open. Each is an opaque constant without a body, so no
proof can see a value of it (the assumption log names every one). -/

namespace Sys2Proof

/-- A byte the manual calls undefined, fresh at each draw (n counts the draws). -/
opaque Config.freeByte : Nat → Byte

/-- A natural the manual leaves open, fresh at each draw. -/
opaque Config.freeNat : Nat → Nat

/-- The random source of the security controller (nonces, neighbour-refresh draws), fresh at each draw. -/
opaque Config.random : Nat → Nat

/-- The sign and payload of a NaN result of binary16 arithmetic, which IEEE 754 leaves open, by the operands. -/
opaque Config.nan16 : Nat → Nat → Nat

/-- The sign and payload of a NaN result of binary32 arithmetic, by the operands. -/
opaque Config.nan32 : Nat → Nat → Nat

/-- The linear value (as a binary16 pattern) of a signal outside 0.0 to 1.0 or not a number, for which the curves of R210
are not defined, by the transfer function and the binary32 pattern of the signal. -/
opaque Config.transfer : Nat → Nat → Nat

/-- The length of the boundary-scan chain, which the manual does not state (spec/20_test_identity.md R556). -/
opaque Config.boundaryCells : Nat

/-- What the flash holds beyond the 128 MiB that the manual requires (spec/21_pins_startup.md R572). -/
opaque Config.flashExtra : Nat

/-- Where firmware puts the level-2 or level-3 table of a context, level and index, among its 3,840 pages
(spec/15_translation_preemption.md R457). -/
opaque Config.tablePage : Nat → Nat → Nat → Nat

end Sys2Proof
end

