-- ==== Sys2Proof/Machine/Float.lean ====
section
/-! DEFINITION. IEEE 754 binary16 and binary32 arithmetic on bit patterns, every operation exact and then rounded once
to nearest with ties to even, subnormals kept (spec/06_carding.md R211, spec/07_conformer.md R249,
spec/08_plank_overlay.md R273). A NaN result's sign and payload are free values. -/

namespace Sys2Proof.Machine

/-- A format: precision in bits (hidden bit included), the exponent of the smallest subnormal is -minExp, width in bits. -/
structure FloatFormat where
  prec : Nat
  minExp : Nat
  width : Nat
  deriving DecidableEq, Repr

/-- binary16. -/
def half : FloatFormat := ⟨11, 24, 16⟩

/-- binary32. -/
def single : FloatFormat := ⟨24, 149, 32⟩

/-- The value of a pattern: (-1)^neg × mant × 2^(-scale), an infinity, or a NaN. -/
inductive FloatVal where
  | nan
  | inf (neg : Bool)
  | fin (neg : Bool) (mant : Nat) (exp : Int)
  deriving DecidableEq, Repr

/-- The number of exponent bits of a format. -/
def expBits (f : FloatFormat) : Nat := f.width - f.prec

/-- The pattern of +infinity. -/
def infPattern (f : FloatFormat) : Nat := (2 ^ expBits f - 1) * 2 ^ (f.prec - 1)

/-- The sign bit of a format. -/
def signBit (f : FloatFormat) : Nat := 2 ^ (f.width - 1)

/-- The value of a bit pattern. -/
def floatDecode (f : FloatFormat) (p : Nat) : FloatVal :=
  let neg := decide (p % 2 ^ f.width ≥ signBit f)
  let m := p % signBit f
  let e := m / 2 ^ (f.prec - 1)
  let frac := m % 2 ^ (f.prec - 1)
  if e = 2 ^ expBits f - 1 then (if frac = 0 then .inf neg else .nan)
  else if e = 0 then .fin neg frac (-(f.minExp : Int))
  else .fin neg (frac + 2 ^ (f.prec - 1)) ((e : Int) - 1 - f.minExp)

/-- floor(num ÷ den) rounded to nearest, ties to even. -/
def roundEven (num den : Nat) : Nat :=
  let q := num / den
  let r := num % den
  if 2 * r > den ∨ (2 * r = den ∧ q % 2 = 1) then q + 1 else q

/-- num ÷ den × 2^e as a fraction of naturals. -/
def scaleFrac (num den : Nat) (e : Int) : Nat × Nat :=
  if e ≥ 0 then (num * 2 ^ e.toNat, den) else (num, den * 2 ^ (-e).toNat)

/-- floor(log2(num ÷ den)) for positive num and den. -/
def fracLog2 (num den : Nat) : Int :=
  let k : Int := (num.log2 : Int) - den.log2
  let (n, d) := scaleFrac num den (-k)
  if n < d then k - 1 else k

/-- The pattern of the magnitude num ÷ den × 2^e rounded to the format; infinity on overflow. -/
def roundMag (f : FloatFormat) (num den : Nat) (e : Int) : Nat :=
  if num = 0 then 0 else
  let k := fracLog2 num den + e
  let lsb : Int := max (k - (f.prec - 1 : Nat)) (-(f.minExp : Int))
  let (n, d) := scaleFrac num den (e - lsb)
  let m := roundEven n d
  let p := (lsb + f.minExp).toNat * 2 ^ (f.prec - 1) + m
  if p ≥ infPattern f then infPattern f else p

/-- A signed magnitude as a pattern. -/
def withSign (f : FloatFormat) (neg : Bool) (mag : Nat) : Nat := if neg then mag + signBit f else mag

/-- A NaN pattern from a free number. -/
def nanPattern (f : FloatFormat) (n : Nat) : Nat :=
  withSign f (n % 2 = 1) (infPattern f + 1 + (n / 2) % (2 ^ (f.prec - 1) - 1))

/-- The free number behind the NaN that operands a and b give. -/
def nanSeed (f : FloatFormat) (a b : Nat) : Nat := if f.width = 16 then Config.nan16 a b else Config.nan32 a b

/-- Sum of two finite values, exact: (negative, magnitude, exponent). -/
def exactSum (na : Bool) (ma : Nat) (ea : Int) (nb : Bool) (mb : Nat) (eb : Int) : Bool × Nat × Int :=
  let e := min ea eb
  let a : Int := (if na then -1 else 1) * (ma * 2 ^ (ea - e).toNat : Nat)
  let b : Int := (if nb then -1 else 1) * (mb * 2 ^ (eb - e).toNat : Nat)
  let s := a + b
  if s = 0 then (na && nb, 0, e) else (decide (s < 0), s.natAbs, e)

/-- Addition, rounded once. -/
def floatAdd (f : FloatFormat) (a b : Nat) : Nat :=
  match floatDecode f a, floatDecode f b with
  | .fin na ma ea, .fin nb mb eb =>
    let (n, m, e) := exactSum na ma ea nb mb eb
    withSign f n (roundMag f m 1 e)
  | .inf na, .inf nb => if na = nb then withSign f na (infPattern f) else nanPattern f (nanSeed f a b)
  | .inf na, .fin _ _ _ => withSign f na (infPattern f)
  | .fin _ _ _, .inf nb => withSign f nb (infPattern f)
  | _, _ => nanPattern f (nanSeed f a b)

/-- A pattern with its sign changed. -/
def floatNeg (f : FloatFormat) (a : Nat) : Nat :=
  if a % 2 ^ f.width ≥ signBit f then a % signBit f else a % signBit f + signBit f

/-- Subtraction, rounded once. -/
def floatSub (f : FloatFormat) (a b : Nat) : Nat := floatAdd f a (floatNeg f b)

/-- Multiplication, rounded once. -/
def floatMul (f : FloatFormat) (a b : Nat) : Nat :=
  match floatDecode f a, floatDecode f b with
  | .fin na ma ea, .fin nb mb eb => withSign f (na != nb) (roundMag f (ma * mb) 1 (ea + eb))
  | .inf na, .inf nb => withSign f (na != nb) (infPattern f)
  | .inf na, .fin nb mb _ | .fin nb mb _, .inf na =>
    if mb = 0 then nanPattern f (nanSeed f a b) else withSign f (na != nb) (infPattern f)
  | _, _ => nanPattern f (nanSeed f a b)

/-- Division, rounded once. -/
def floatDiv (f : FloatFormat) (a b : Nat) : Nat :=
  match floatDecode f a, floatDecode f b with
  | .fin na ma ea, .fin nb mb eb =>
    if mb = 0 then
      if ma = 0 then nanPattern f (nanSeed f a b) else withSign f (na != nb) (infPattern f)
    else withSign f (na != nb) (roundMag f ma mb (ea - eb))
  | .inf na, .fin nb _ _ => withSign f (na != nb) (infPattern f)
  | .fin na _ _, .inf nb => withSign f (na != nb) 0
  | _, _ => nanPattern f (nanSeed f a b)

/-- Conversion between formats, rounded once (widening is exact). -/
def floatConvert (src dst : FloatFormat) (a : Nat) : Nat :=
  match floatDecode src a with
  | .fin n m e => withSign dst n (roundMag dst m 1 e)
  | .inf n => withSign dst n (infPattern dst)
  | .nan => nanPattern dst (nanSeed dst a 0)

/-- The pattern of the rational num ÷ den, rounded once. -/
def floatOfFrac (f : FloatFormat) (num den : Nat) : Nat := roundMag f num den 0

/-- Whether a pattern is a NaN. -/
def isNan (f : FloatFormat) (a : Nat) : Bool := floatDecode f a == .nan

/-- R29 for one binary16 channel: NaN becomes +0.0, infinities become ±65504.0. -/
def sanitiseHalf (a : Nat) : Nat :=
  match floatDecode half a with
  | .nan => 0
  | .inf neg => if neg then 0xFBFF else 0x7BFF
  | .fin _ _ _ => a % 65536

/-- a ≤ b as finite binary16 values (carding and clamp comparisons). -/
def halfLe (a b : Nat) : Bool :=
  match floatDecode half a, floatDecode half b with
  | .fin na ma ea, .fin nb mb eb =>
    let (n, m, _) := exactSum na ma ea (!nb) mb eb
    n || m == 0
  | _, _ => false

end Sys2Proof.Machine
end

