-- ==== Sys2Proof/Machine/Crc.lean ====
section
/-! DEFINITION. CRC-32C (spec/02_structure_cukar.md R66), and the frame check sequence of an Ethernet frame. -/

namespace Sys2Proof.Machine

/-- Eight shifts of the reflected register with the reflected polynomial 0x82F6_3B78 of R66. -/
def crcShift : Nat → Nat → Nat
  | 0, c => c
  | k + 1, c => crcShift k (if c % 2 = 1 then (c / 2) ^^^ 0x82F63B78 else c / 2)

/-- One byte into the register. -/
def crcStep (c : Nat) (b : Byte) : Nat := crcShift 8 (c ^^^ b.toNat)

/-- The register after a list of bytes. -/
def crcRun (c : Nat) (bs : List Byte) : Nat := bs.foldl crcStep c

/-- The CRC-32C of a list of bytes (R66). -/
def crc32c (bs : List Byte) : Nat := crcRun 0xFFFFFFFF bs ^^^ 0xFFFFFFFF

/-- Eight shifts of the reflected register of the frame check sequence, polynomial 0xEDB8_8320 (PRESUMED: IEEE 802.3, which
spec/04_ethernet_ingest.md R133 names; the assumption log's entry on loopbacks). -/
def fcsShift : Nat → Nat → Nat
  | 0, c => c
  | k + 1, c => fcsShift k (if c % 2 = 1 then (c / 2) ^^^ 0xEDB88320 else c / 2)

/-- The frame check sequence of a frame's bytes. -/
def frameFcs (bs : List Byte) : Nat := bs.foldl (fun c b => fcsShift 8 (c ^^^ b.toNat)) 0xFFFFFFFF ^^^ 0xFFFFFFFF

end Sys2Proof.Machine
end

