-- ==== Sys2Proof/Machine/GeomCheck.lean ====
section
/-! DEFINITION. The panel geometry descriptor (spec/01_ray_space.md R36), its checks (R37), the ray index (R24) and the
mapping from subpixel to ray (spec/07_conformer.md R237 to R239). -/

namespace Sys2Proof.Machine

/-- The fields of a panel geometry descriptor (R36). -/
structure Geom where
  version : Nat
  length : Nat
  hogelsX : Nat
  hogelsY : Nat
  viewsU : Nat
  viewsV : Nat
  rayFormat : Nat
  lensType : Nat
  panelW : Nat
  panelH : Nat
  layout : Nat
  viewFlip : Nat
  slantP : Int
  slantQ : Nat
  pitchX : Nat
  pitchY : Nat
  rateNum : Nat
  rateDen : Nat
  deriving DecidableEq, Repr

/-- The descriptor fields of 64 bytes (R36). -/
def geomOfBytes (bs : List Byte) : Geom where
  version := leAt bs 0x00 2
  length := leAt bs 0x02 2
  hogelsX := leAt bs 0x04 2
  hogelsY := leAt bs 0x06 2
  viewsU := leAt bs 0x08 1
  viewsV := leAt bs 0x09 1
  rayFormat := leAt bs 0x0A 1
  lensType := leAt bs 0x0B 1
  panelW := leAt bs 0x0C 4
  panelH := leAt bs 0x10 4
  layout := leAt bs 0x14 1
  viewFlip := leAt bs 0x15 1
  slantP := signedOf 8 (leAt bs 0x16 1)
  slantQ := leAt bs 0x17 1
  pitchX := leAt bs 0x18 4
  pitchY := leAt bs 0x1C 4
  rateNum := leAt bs 0x20 4
  rateDen := leAt bs 0x24 4

/-- The ray count N of a geometry (R19). -/
def rayCount (g : Geom) : Nat := g.hogelsX * g.hogelsY * g.viewsV * g.viewsU

/-- The linear ray index (R24). -/
def rayIndex (g : Geom) (hx hy u v : Nat) : Nat :=
  ((hy * g.hogelsX + hx) * g.viewsV + v) * g.viewsU + u

/-- The hogel and view of a ray index (R24): hogel_x, hogel_y, view_u, view_v. -/
def rayDecompose (g : Geom) (ray : Nat) : Nat × Nat × Nat × Nat :=
  let t := ray / g.viewsU
  let h := t / g.viewsV
  (h % g.hogelsX, h / g.hogelsX, ray % g.viewsU, t % g.viewsV)

/-- Bits per ray in a packed run (R31): RAY30, RAY36, RAYH. -/
def rayBits (format : Nat) : Nat := if format = 0 then 30 else if format = 1 then 36 else 48

/-- Container bytes per ray (R26). -/
def rayContainer (format : Nat) : Nat := if format = 0 then 4 else if format = 1 then 6 else 8

/-- The ray at position k of a packed run (R31). -/
def runRay (b : Nat) (run : List Byte) (k : Nat) : Nat :=
  let first := b * k / 8
  (leAt run first (b / 8 + 2) >>> (b * k % 8)) % 2 ^ b

/-- The bytes of a packed run of rays with zero fill bits (R31, R32). -/
def runBytes (b : Nat) (rays : List Nat) : List Byte :=
  let n := rays.foldr (fun r acc => r % 2 ^ b + 2 ^ b * acc) 0
  leBytes n (ceilDiv (b * rays.length) 8)

/-- Tile columns and rows of the nap map (R35). -/
def tilesX (g : Geom) : Nat := ceilDiv g.panelW 64

/-- Tile rows of the nap map (R35). -/
def tilesY (g : Geom) : Nat := ceilDiv g.panelH 64

/-- The row pitch of a ray frame (R257). -/
def framePitch (g : Geom) : Nat := ceilDiv ((if g.rayFormat = 0 then 4 else 6) * g.panelW) 64 * 64

/-- The row pitch of the reference (R257). -/
def refPitch (g : Geom) : Nat := ceilDiv (6 * g.panelW) 64 * 64

/-- The nap-map bytes of a slot (R257). -/
def napBytes (g : Geom) : Nat := ceilDiv (tilesX g * tilesY g) 512 * 64

/-- 2 MiB units of one map copy, of the reference and of one slot (R257). -/
def mapUnits (g : Geom) : Nat := ceilDiv (32 + 8 * g.hogelsX * g.hogelsY) 2097152

/-- 2 MiB units of the reference (R257). -/
def refUnits (g : Geom) : Nat := ceilDiv (refPitch g * g.panelH) 2097152

/-- 2 MiB units of one ray-frame slot (R257). -/
def slotUnits (g : Geom) : Nat := ceilDiv (framePitch g * g.panelH + napBytes g) 2097152

/-- The need of a staging pool with the given slot count, in 2 MiB units (R257). -/
def stagingNeed (g : Geom) (frames : Nat) : Nat := 2 * mapUnits g + refUnits g + frames * slotUnits g

/-- The lens fields that check 0x8 of R37 refuses. -/
def lensBad (g : Geom) : Bool :=
  if g.lensType = 0 then
    g.slantP == 0 || decide (g.slantP < -48) || decide (g.slantP > 48) || g.slantQ == 0 || decide (g.slantQ > 16)
  else if g.lensType ≤ 2 then g.slantP != 0 || g.slantQ != 0
  else true

/-- The pitches that check 0xA of R37 refuses. -/
def pitchBad (g : Geom) : Bool :=
  g.pitchX == 0 || decide (g.pitchX > 16384) || g.pitchY == 0 || decide (g.pitchY > 16384) ||
  (g.lensType == 1 && (g.pitchX != g.viewsU * 768 || g.pitchY != g.viewsV * 256))

/-- The panel dimensions that check 0xB of R37 refuses. -/
def panelBad (g : Geom) : Bool :=
  g.panelW == 0 || decide (g.panelW > 65536) || g.panelH == 0 || decide (g.panelH > 65536) ||
  g.panelW * g.panelH != rayCount g ||
  (g.lensType == 1 && (g.panelW != g.hogelsX * g.viewsU || g.panelH != g.hogelsY * g.viewsV))

/-- The frame rates that check 0xC of R37 refuses. -/
def rateBad (g : Geom) : Bool :=
  g.rateDen == 0 || decide (g.rateNum * 1001 < 24000 * g.rateDen) || decide (g.rateNum > 120 * g.rateDen)

/-- The first failing check of R37 over 64 descriptor bytes, 0 when every check passes; staging is the size in
2 MiB units of the staging pool of check 0xD. -/
def geomCheck (bs : List Byte) (staging : Nat) : Nat :=
  let g := geomOfBytes bs
  if g.version ≠ 1 ∨ g.length ≠ 64 then 0x1
  else if leAt bs 0x3C 4 ≠ crc32c (bs.take 0x3C) then 0x2
  else if !allZero ((bs.drop 0x28).take 20) ∨ g.viewFlip ≥ 4 then 0x3
  else if g.hogelsX = 0 ∨ g.hogelsX > 4096 ∨ g.hogelsY = 0 ∨ g.hogelsY > 4096 then 0x4
  else if g.viewsU = 0 ∨ g.viewsU > 16 ∨ g.viewsV = 0 ∨ g.viewsV > 16 then 0x5
  else if rayCount g > 2 ^ 29 then 0x6
  else if g.rayFormat > 1 then 0x7
  else if lensBad g then 0x8
  else if g.layout > 3 then 0x9
  else if pitchBad g then 0xA
  else if panelBad g then 0xB
  else if rateBad g then 0xC
  else if staging < stagingNeed g 2 then 0xD
  else 0

/-- The colour (0 red, 1 green, 2 blue) of subpixel k under a layout (R237). -/
def subpixelColour (layout k : Nat) : Nat := if layout % 2 = 0 then k else 2 - k

/-- The centre position of subpixel k of pixel (px, py) (R237, R238). -/
def subpixelCentre (g : Geom) (px py k : Nat) : Int × Int :=
  if g.lensType = 1 then ((768 * px + 384 : Nat), (256 * py + 128 : Nat))
  else if g.layout ≤ 1 then ((768 * px + 256 * k + 128 : Nat), (256 * py + 128 : Nat))
  else ((768 * px + 384 : Nat), (256 * py + 43 + 85 * k : Nat))

/-- Where a subpixel's light comes from (R239, R240). -/
inductive RaySource where
  | unmapped
  | black (hogel : Nat)
  | ray (hx hy u v : Nat)
  deriving DecidableEq, Repr

/-- The fields of a conformation map entry (R242): DX, DY, ROT, SCALE, BLACK. -/
def mapDx (e : Nat) : Int := signedOf 16 (slice e 15 0)

/-- DY of an entry (R242). -/
def mapDy (e : Nat) : Int := signedOf 16 (slice e 31 16)

/-- ROT of an entry (R242). -/
def mapRot (e : Nat) : Int := signedOf 12 (slice e 43 32)

/-- SCALE of an entry (R242). -/
def mapScale (e : Nat) : Int := signedOf 12 (slice e 55 44)

/-- Clamp of an integer to 0..n-1 as a natural. -/
def clampView (i : Int) (n : Nat) : Nat := if i < 0 then 0 else min i.toNat (n - 1)

/-- The view part of R239 for a subpixel at (dx, dy) from its lens centre. -/
def viewOf (g : Geom) (e : Nat) (dx dy : Int) : Nat × Nat :=
  let a := (dx * 65536).fdiv g.pitchX
  let b := (dy * 65536).fdiv g.pitchY
  let a2 := a + (mapScale e * a - mapRot e * b).fdiv 65536
  let b2 := b + (mapScale e * b + mapRot e * a).fdiv 65536
  let up := clampView (((a2 + 32768) * g.viewsU).fdiv 65536) g.viewsU
  let vp := clampView (((b2 + 32768) * g.viewsV).fdiv 65536) g.viewsV
  (if g.viewFlip % 2 = 1 then g.viewsU - 1 - up else up,
   if g.viewFlip / 2 % 2 = 1 then g.viewsV - 1 - vp else vp)

/-- The ray of subpixel k of pixel (px, py) under a descriptor and a conformation map (R239). -/
def subpixelRay (g : Geom) (map : Nat → Nat) (px py k : Nat) : RaySource :=
  let (x0, y) := subpixelCentre g px py k
  let x1 := if g.lensType = 0 then x0 - (g.slantP * y).fdiv g.slantQ else x0
  let hy := y.fdiv g.pitchY
  let x := if g.lensType = 2 ∧ hy % 2 = 1 then x1 - (g.pitchX / 2 : Nat) else x1
  let hx := x.fdiv g.pitchX
  if hx < 0 ∨ hx ≥ g.hogelsX ∨ hy ≥ g.hogelsY then .unmapped else
  let hogel := hy.toNat * g.hogelsX + hx.toNat
  let e := map hogel
  if slice e 56 56 = 1 then .black hogel else
  let dx := x - (hx * g.pitchX + (g.pitchX / 2 : Nat) + mapDx e)
  let dy := y - (hy * g.pitchY + (g.pitchY / 2 : Nat) + mapDy e)
  let (u, v) := viewOf g e dx dy
  .ray hx.toNat hy.toNat u v

end Sys2Proof.Machine
end

