-- ==== Sys2Proof/Machine/Transfer.lean ====
section
/-! DEFINITION. The curves of SMPTE ST 2084 and ITU-R BT.2100 HLG that spec/06_carding.md R210 and spec/07_conformer.md R251
name, in fixed point of 128 fraction bits. PRESUMED: the constants are those of the two standards, which the spec names and
does not print (the entry of the transfer functions in the assumption log). -/

namespace Sys2Proof.Machine

/-- The fraction bits of the fixed-point numbers. -/
def fixBits : Nat := 128

/-- 1.0 in fixed point. -/
def fixOne : Nat := 2 ^ fixBits

/-- The sum of the terms of exp x after term t, the n-th of a Taylor series, in fixed point. -/
def expTail (x : Int) : Nat → Nat → Int → Int
  | 0, _, _ => 0
  | fuel + 1, n, t => let t' := t * x / ((fixOne * (n + 1) : Nat) : Int); t' + expTail x fuel (n + 1) t'

/-- exp x in fixed point for a fixed-point x between -4 and 4. -/
def expFix (x : Int) : Nat := ((fixOne : Int) + expTail x 80 0 fixOne).toNat

/-- ln 2 in fixed point: the sum of 1 ÷ (k × 2^k). -/
def lnTwo : Nat := ((upto 1 fixBits).map (fun k => fixOne / (k * 2 ^ k))).sum

/-- The next n bits of log2 y for y between 1 and 2 in units of 2^-256: squaring y doubles its logarithm. -/
def logBits : Nat → Nat → Nat → Nat
  | 0, _, acc => acc
  | n + 1, y, acc =>
    let q := y * y / 2 ^ 256
    if q ≥ 2 ^ 257 then logBits n (q / 2) (2 * acc + 1) else logBits n q (2 * acc)

/-- log2 (num ÷ den) in fixed point, for positive num and den. -/
def logTwo (num den : Nat) : Int :=
  let k := fracLog2 num den
  let (n, d) := scaleFrac num den (-k)
  k * fixOne + logBits fixBits (n * 2 ^ 256 / d) 0

/-- (num ÷ den)^(a ÷ b) for positive num, den and b: a fixed-point number from 1 to 2 and a power of two. -/
def powFrac (num den a b : Nat) : Nat × Int :=
  let t := logTwo num den * (a : Int) / (b : Int)
  (expFix (t % (fixOne : Int) * lnTwo / (fixOne : Int)), t / (fixOne : Int))

/-- The ST 2084 EOTF of a signal num ÷ den from 0 to 1, as a fraction of 10,000 cd/m²: with N = V^(1 ÷ m2),
(max(N - c1, 0) ÷ (c2 - c3 N))^(1 ÷ m1), m1 = 1305 ÷ 8192, m2 = 2523 ÷ 32, c1 = 3424 ÷ 4096, c2 = 2413 ÷ 128,
c3 = 2392 ÷ 128. A fixed-point number and a power of two. -/
def pqLinear (num den : Nat) : Nat × Int :=
  if num = 0 then (0, 0) else
  let (f, k) := powFrac num den 32 2523
  let one := 2 ^ (fixBits + (-k).toNat)
  let top := 4096 * f - 3424 * one
  if top = 0 then (0, 0) else powFrac top (32 * (2413 * one - 2392 * f)) 8192 1305

/-- The constants a, b and c of BT.2100 HLG in units of 10^-8. -/
def hlgA : Nat := 17883277

/-- b = 1 - 4a. -/
def hlgB : Nat := 28466892

/-- c = 0.5 - a ln(4a). -/
def hlgC : Nat := 55991073

/-- Twelve times the inverse OETF of HLG for a signal num ÷ den from 0.5 to 1: exp((V - c) ÷ a) + b, in fixed point. -/
def hlgUpper (num den : Nat) : Nat :=
  let x : Int := (((10 ^ 8 * num : Nat) : Int) - (hlgC * den : Nat)) * (fixOne : Int) / ((hlgA * den : Nat) : Int)
  expFix x + hlgB * fixOne / 10 ^ 8

/-- A fixed-point number × 2^e ÷ q, rounded once to binary32; the truth lies just above the fixed-point number. -/
def singleOfFix (x : Nat) (e : Int) (q : Nat) : Nat :=
  if x = 0 then 0 else roundMag single (2 * x + 1) q (e - (fixBits + 1 : Nat))

/-- The greatest code below 2^bits + c that is reached, for a condition that holds up to some code. -/
def searchCode (reached : Nat → Bool) : Nat → Nat → Nat
  | 0, c => c
  | b + 1, c => if reached (c + 2 ^ b) then searchCode reached b (c + 2 ^ b) else searchCode reached b c

/-- round(4095 × V(L)) of the ST 2084 inverse EOTF at L = l × 2^-24, ties away from zero: code c is reached when the EOTF of
(2c - 1) ÷ 8190 is at most L (spec/07_conformer.md R251). -/
def pqCode (l : Nat) : Nat :=
  searchCode (fun c =>
    let (x, e) := pqLinear (2 * c - 1) 8190
    decide (x * 2 ^ 24 ≤ l * 2 ^ (fixBits + (-e).toNat))) 12 0

/-- round(4095 × V(L)) of the HLG OETF at L = l × 2^-24 above 1/12 (R251). -/
def hlgUpperCode (l : Nat) : Nat :=
  searchCode (fun c => decide (2 * (2 * c - 1) < 8190 ∨ hlgUpper (2 * c - 1) 8190 * 2 ^ 24 ≤ 12 * l * fixOne)) 12 0

end Sys2Proof.Machine
end

