-- ==== Sys2Proof/Machine/Colour.lean ====
section
/-! DEFINITION. The colour path of the conformer (spec/07_conformer.md R248 to R254): gain, matrix, clip, transfer table,
dither. -/

namespace Sys2Proof.Machine

/-- The value of a binary16 pattern from 0x0000 to 0x3C00 in units of 2^-24. -/
def halfUnits (p : Nat) : Nat :=
  let e := p / 1024
  let f := p % 1024
  if e = 0 then f else (f + 1024) * 2 ^ (e - 1)

/-- round(4095 × L^(1/2.4)), ties away from zero, by exact comparison: code c is reached when
((2c - 1) ÷ 8190)^12 ≤ L^5 (R251). -/
def bt1886Code (p : Nat) : Nat :=
  let l := halfUnits p
  (upto 1 4095).foldl
    (fun best c => if (2 * c - 1) ^ 12 * (2 ^ 24) ^ 5 ≤ l ^ 5 * 8190 ^ 12 then c else best) 0

/-- round(4095 × L), ties away from zero (R251, linear). -/
def linearCode (p : Nat) : Nat := (2 * 4095 * halfUnits p + 2 ^ 24) / 2 ^ 25

/-- The HLG OETF table: round(4095 × sqrt(3 L)) up to L = 1/12, and the logarithm of BT.2100 above (R251). -/
def hlgTableCode (p : Nat) : Nat :=
  let l := halfUnits p
  if 12 * l ≤ 2 ^ 24 then
    (upto 1 4095).foldl (fun best c => if (2 * c - 1) ^ 2 * 2 ^ 24 ≤ 3 * l * 8190 ^ 2 then c else best) 0
  else hlgUpperCode l

/-- Entry p of the transfer function table that TF_SEL selects; host is the host table (R251). -/
def transferCode (sel : Nat) (host : Nat → Nat) (p : Nat) : Nat :=
  if sel = 0 then linearCode p
  else if sel = 1 then bt1886Code p
  else if sel = 2 then pqCode (halfUnits p)
  else if sel = 3 then hlgTableCode p
  else host p % 4096

/-- A signed Q3.12 coefficient as a binary32 pattern (R250). -/
def coefSingle (w : Nat) : Nat :=
  let i := signedOf 16 w
  withSign single (decide (i < 0)) (roundMag single i.natAbs 4096 0)

/-- An unsigned Q2.14 gain as a binary32 pattern (R250). -/
def gainSingle (w : Nat) : Nat := roundMag single w 16384 0

/-- One row of the colour matrix, in the order of R249. -/
def matrixRow (m0 m1 m2 c0 c1 c2 : Nat) : Nat :=
  floatAdd single (floatAdd single (floatMul single m0 c0) (floatMul single m1 c1)) (floatMul single m2 c2)

/-- Step 4 of R248 for one channel: binary16 and clip (R249); true when the clip changed the channel. -/
def clipChannel (x : Nat) : Nat × Bool :=
  let h := floatConvert single half x
  match floatDecode half h with
  | .nan => (0, true)
  | .inf neg => if neg then (0, true) else (0x3C00, true)
  | .fin neg m _ =>
    if neg then (0, true)
    else if h > 0x3C00 then (0x3C00, true)
    else if m = 0 then (0, false)
    else (h, false)

/-- The colour set in force for a frame (R255). -/
structure ColourSet where
  tfSel : Nat
  dithEn : Bool
  dithRotate : Bool
  matrix : List Nat
  gain : List (Nat × Nat)
  host : List (Nat × Nat)
  deriving DecidableEq, Repr

/-- Coefficient i of the colour matrix. -/
def coef (cs : ColourSet) (i : Nat) : Nat := coefSingle (cs.matrix.getD i 0)

/-- Steps 1 to 4 of R248: the clipped binary16 channels of a RAYH colour with the gain of its view, and the number of
channels clipped. -/
def linearChannels (cs : ColourSet) (gain : Nat) (r g b : Nat) : List Nat × Nat :=
  let c0 := floatMul single (floatConvert half single r) (gainSingle gain)
  let c1 := floatMul single (floatConvert half single g) (gainSingle gain)
  let c2 := floatMul single (floatConvert half single b) (gainSingle gain)
  let o := fun i => clipChannel (matrixRow (coef cs (3 * i)) (coef cs (3 * i + 1)) (coef cs (3 * i + 2)) c0 c1 c2)
  ([(o 0).1, (o 1).1, (o 2).1], bit (o 0).2 + bit (o 1).2 + bit (o 2).2)

/-- The threshold matrix M of R253, row by row. -/
def ditherMatrix : List (List Nat) :=
  [ [35, 2, 51, 18, 44, 9, 58, 24],
    [12, 61, 27, 40, 5, 31, 16, 47],
    [54, 21, 7, 56, 22, 63, 37, 1],
    [29, 43, 33, 14, 48, 11, 26, 59],
    [8, 62, 19, 3, 38, 53, 4, 41],
    [50, 25, 45, 57, 28, 17, 60, 20],
    [15, 0, 36, 10, 46, 6, 34, 52],
    [39, 55, 23, 30, 13, 42, 49, 32] ]

/-- M[row][column]. -/
def ditherEntry (row col : Nat) : Nat := (ditherMatrix.getD row []).getD col 0

/-- The threshold T of a subpixel of colour c (0 red, 1 green, 2 blue) in pixel (px, py) at phase r (R253). -/
def ditherThreshold (r c px py : Nat) : Nat :=
  let x := if c = 1 then (px + 4) % 8 else px % 8
  let y := if c = 2 then (py + 4) % 8 else py % 8
  if r = 0 then ditherEntry y x
  else if r = 1 then ditherEntry (7 - x) y
  else if r = 2 then ditherEntry (7 - y) (7 - x)
  else ditherEntry x (7 - y)

/-- The link code of a 12-bit code (R252, R254): panelCode is true for codes of a RAY30 or RAY36 RAWRAY layer. -/
def linkCode (rayFormat : Nat) (dithEn panelCode : Bool) (r c px py code : Nat) : Nat :=
  if rayFormat = 1 then code
  else if panelCode then code / 4
  else if dithEn then min 1023 ((16 * code + ditherThreshold r c px py) / 64)
  else min 1023 ((code + 2) / 4)

/-- The 12-bit code of a RAY30 code of a RAWRAY layer (R254). -/
def widenCode (code : Nat) : Nat := 4 * code + code / 256

end Sys2Proof.Machine
end

