-- ==== Sys2Proof/Machine/FullerCodec.lean ====
section
/-! DEFINITION. The fuller stream format: decompressor, compressor and the checks of a stream
(spec/16_fuller.md R476 to R483). -/

namespace Sys2Proof.Machine

/-- A dictionary: the strings of codes 258 upwards, in code order (R479). -/
abbrev FullerDict := List (List Byte)

/-- The string of a code below next_free (R479); RESET and END have none. -/
def dictString (d : FullerDict) (code : Nat) : Option (List Byte) :=
  if code < 256 then some [BitVec.ofNat 8 code]
  else if code < 258 then none
  else d[code - 258]?

/-- next_free of a dictionary. -/
def nextFree (d : FullerDict) : Nat := 258 + d.length

/-- The dictionary with one entry more, unless it is full for width w (R480). -/
def dictAdd (w : Nat) (d : FullerDict) (s : List Byte) : FullerDict :=
  if nextFree d < 2 ^ w then d ++ [s] else d

/-- Code i of a payload read as a number (R477). -/
def codeAt (w n i : Nat) : Nat := (n >>> (w * i)) % 2 ^ w

/-- The loop of R480 over a payload of len bytes read as the number n, at code i with fuel codes left:
the output (newest string first) and the dictionary, or the failing code of R483. -/
def decodeCodes (w n len : Nat) : Nat → Nat → FullerDict → Option (List Byte) → List (List Byte) →
    Except Nat (List (List Byte) × FullerDict)
  | 0, _, _, _, _ => .error 0x4
  | fuel + 1, i, d, prev, out =>
    let code := codeAt w n i
    if code = 257 then
      if ceilDiv (w * (i + 1)) 8 = len ∧ n < 2 ^ (w * (i + 1)) then .ok (out, d) else .error 0x4
    else if code = 256 then decodeCodes w n len fuel (i + 1) [] none out
    else
      let s := if code < nextFree d then dictString d code
        else if code = nextFree d then prev.map (fun p => p ++ p.take 1) else none
      match s with
      | none => .error 0x3
      | some s =>
        let d' := match prev with
          | some p => dictAdd w d (p ++ s.take 1)
          | none => d
        decodeCodes w n len fuel (i + 1) d' (some s) (s :: out)

/-- A compressed block's output and the dictionary it leaves (R480). -/
def decodeBlock (w : Nat) (d : FullerDict) (payload : List Byte) : Except Nat (List Byte × FullerDict) :=
  match decodeCodes w (leNat payload) payload.length (payload.length * 8 / w) 0 d none [] with
  | .ok (out, d') => .ok (out.reverse.flatten, d')
  | .error e => .error e

/-- The code of a string in the dictionary, when it is there. -/
def dictCode (d : FullerDict) (s : List Byte) : Option Nat :=
  match s with
  | [] => none
  | [b] => some b.toNat
  | _ => (d.findIdx? (· == s)).map (258 + ·)

/-- The greedy longest match of R481: the codes written (newest first) and the dictionary left. -/
def encodeCodes (w : Nat) : List Byte → List Byte → FullerDict → List Nat → List Nat × FullerDict
  | [], cur, d, out =>
    match dictCode d cur with
    | some c => (257 :: c :: out, d)
    | none => (257 :: out, d)
  | b :: rest, cur, d, out =>
    if (dictCode d (cur ++ [b])).isSome then encodeCodes w rest (cur ++ [b]) d out
    else
      match dictCode d cur with
      | none => encodeCodes w rest [b] d out
      | some c =>
        if nextFree d < 2 ^ w then encodeCodes w rest [b] (d ++ [cur ++ [b]]) (c :: out)
        else encodeCodes w rest [b] [] (256 :: c :: out)

/-- Codes packed as a payload of W-bit codes (R477). -/
def packCodes (w : Nat) (codes : List Nat) : List Byte :=
  leBytes (codes.foldr (fun c acc => c + 2 ^ w * acc) 0) (ceilDiv (w * codes.length) 8)

/-- One block of the compressor: header, payload, whether it is stored, the dictionary left (R481, R482). -/
def encodeBlock (w : Nat) (d : FullerDict) (raw : List Byte) : List Byte × Bool × FullerDict :=
  let (codes, d') := encodeCodes w raw [] d []
  let payload := packCodes w codes.reverse
  let lenField := leBytes (raw.length - 1) 2
  if payload.length < raw.length then
    ([0x01, 0x00] ++ lenField ++ leBytes payload.length 4 ++ payload, false, d')
  else ([0x02, 0x00] ++ lenField ++ leBytes raw.length 4 ++ raw, true, [])

/-- The 16-byte stream header (R476). -/
def fullerHeader (w rawLength : Nat) : List Byte :=
  [0x46, 0x55, 0x4C, 0x52, 0x01, BitVec.ofNat 8 w, 0x00, 0x00] ++ leBytes rawLength 8

/-- The 8-byte trailer (R478). -/
def fullerTrailer (crc : Nat) : List Byte := [0x00, 0x00, 0x00, 0x00] ++ leBytes crc 4

/-- Every block of the data, with the number of stored blocks; fuel bounds the blocks. -/
def encodeBlocks (w : Nat) : Nat → FullerDict → List Byte → List Byte × Nat
  | 0, _, _ => ([], 0)
  | fuel + 1, d, raw =>
    if raw.isEmpty then ([], 0) else
    let (b, stored, d') := encodeBlock w d (raw.take 65536)
    let (rest, n) := encodeBlocks w fuel d' (raw.drop 65536)
    (b ++ rest, n + bit stored)

/-- The whole stream of some data (R476 to R482). -/
def fullerCompress (w : Nat) (raw : List Byte) : List Byte :=
  fullerHeader w raw.length ++ (encodeBlocks w (ceilDiv raw.length 65536) [] raw).1 ++
    fullerTrailer (crc32c raw)

/-- A decompression in progress: code width, RAW_LENGTH, source position, output so far (bytes and CRC register),
dictionary, blocks and stored blocks completed. -/
structure FullerRun where
  width : Nat
  rawLength : Nat
  pos : Nat
  outLen : Nat
  crc : Nat
  dict : FullerDict
  blocks : Nat
  stored : Nat
  deriving DecidableEq, Repr

/-- The header checks of R483 with the destination capacity of R487. -/
def fullerOpen (src : List Byte) (capacity : Nat) : Except Nat FullerRun :=
  if src.length < 16 then .error 0x6
  else if leAt src 0 4 ≠ 0x524C5546 ∨ leAt src 4 1 ≠ 1 ∨ leAt src 5 1 < 9 ∨ leAt src 5 1 > 16 ∨
      leAt src 8 8 ≥ 2 ^ 32 ∨ leAt src 6 2 ≠ 0 then .error 0x1
  else if leAt src 8 8 > capacity then .error 0x7
  else .ok ⟨leAt src 5 1, leAt src 8 8, 16, 0, 0xFFFFFFFF, [], 0, 0⟩

/-- What one step of a decompression yields: a block's output, or the end of the stream. -/
inductive FullerStep where
  | block (r : FullerRun) (out : List Byte)
  | finished
  deriving DecidableEq, Repr

/-- The block at the run's position, or the trailer, with the checks of R483 in the order they are read. -/
def fullerStep (src : List Byte) (r : FullerRun) : Except Nat FullerStep :=
  let rest := src.drop r.pos
  if rest.length < 8 then .error 0x6 else
  let ty := leAt rest 0 1
  let payloadLen := leAt rest 4 4
  if ty = 0 then
    if leAt rest 1 3 ≠ 0 ∨ r.outLen ≠ r.rawLength then .error 0x2
    else if payloadLen ≠ r.crc ^^^ 0xFFFFFFFF then .error 0x5
    else if rest.length ≠ 8 then .error 0x6
    else .ok .finished
  else
    let rawLen := leAt rest 2 2 + 1
    if ty > 2 ∨ leAt rest 1 1 ≠ 0 ∨ r.outLen + rawLen > r.rawLength ∨
        (rawLen ≠ 65536 ∧ r.outLen + rawLen ≠ r.rawLength) ∨ (ty = 2 ∧ payloadLen ≠ rawLen) then .error 0x2
    else if rest.length < 8 + payloadLen then .error 0x6
    else
      let payload := (rest.drop 8).take payloadLen
      let next := fun (out : List Byte) (d : FullerDict) =>
        FullerStep.block ⟨r.width, r.rawLength, r.pos + 8 + payloadLen, r.outLen + rawLen, crcRun r.crc out, d,
          r.blocks + 1, r.stored + (ty - 1)⟩ out
      if ty = 2 then .ok (next payload [])
      else
        match decodeBlock r.width r.dict payload with
        | .error e => .error e
        | .ok (out, d) => if out.length = rawLen then .ok (next out d) else .error 0x4

/-- The blocks of a stream from a run; fuel bounds the blocks. -/
def fullerLoop (src : List Byte) : Nat → FullerRun → List (List Byte) → Except Nat (List Byte)
  | 0, _, _ => .error 0x2
  | fuel + 1, r, out =>
    match fullerStep src r with
    | .error e => .error e
    | .ok .finished => .ok out.reverse.flatten
    | .ok (.block r' o) => fullerLoop src fuel r' (o :: out)

/-- Decompression of a whole stream into at most capacity bytes: the data, or the first failing code of R483. -/
def fullerDecompress (src : List Byte) (capacity : Nat) : Except Nat (List Byte) :=
  match fullerOpen src capacity with
  | .error e => .error e
  | .ok r => fullerLoop src (ceilDiv r.rawLength 65536 + 1) r []

end Sys2Proof.Machine
end

