-- ==== Sys2Proof/Machine/LineCode.lean ====
section
/-! DEFINITION. The 8b/10b code of the lanes and the ordered sets (spec/09_serial_lanes.md R294 to R300), and where the bytes
of a packet lie on the lanes (spec/10_panel_protocol.md R324 to R328, spec/13_afloth_tiling.md R416). PRESUMED: the code
tables are those of IEEE 802.3 Clause 36, which R294 names (the assumption log's entry on the code). -/

namespace Sys2Proof.Machine

/-- A symbol: a data byte, or a control symbol K28.5 and the like by its byte (28 + 32 × 5). -/
inductive Symbol where
  | d (b : Nat)
  | k (b : Nat)
  deriving DecidableEq, Repr

/-- K28.5, the comma of IDLE (R295). -/
def k285 : Symbol := .k 0xBC
/-- K28.3, the first symbol of ALIGN. -/
def k283 : Symbol := .k 0x7C
/-- K28.0, SKIP. -/
def k280 : Symbol := .k 0x1C
/-- K28.7, the first symbol of a TRAIN burst. -/
def k287 : Symbol := .k 0xFC
/-- K27.7, the start of a push or frame. -/
def k277 : Symbol := .k 0xFB
/-- K29.7, the end of a push or frame. -/
def k297 : Symbol := .k 0xFD
/-- K30.7, ABORT. -/
def k307 : Symbol := .k 0xFE
/-- K28.1, HOLD. -/
def k281 : Symbol := .k 0x3C
/-- D10.2, the fill (R298). -/
def d102 : Symbol := .d 0x4A

/-! ## The code (R294) -/

/-- The six bits abcdei of each five-bit value at negative running disparity, a first. -/
def sixTable : List Nat :=
  [0b100111, 0b011101, 0b101101, 0b110001, 0b110101, 0b101001, 0b011001, 0b111000,
   0b111001, 0b100101, 0b010101, 0b110100, 0b001101, 0b101100, 0b011100, 0b010111,
   0b011011, 0b100011, 0b010011, 0b110010, 0b001011, 0b101010, 0b011010, 0b111010,
   0b110011, 0b100110, 0b010110, 0b110110, 0b001110, 0b101110, 0b011110, 0b101011]

/-- The four bits fghj of each three-bit value at negative running disparity. -/
def fourTable : List Nat := [0b1011, 0b1001, 0b0101, 0b1100, 0b1101, 0b1010, 0b0110, 0b1110]

/-- The control code groups at negative running disparity, by their byte. -/
def controlTable : List (Nat × Nat) :=
  [ (0x1C, 0b0011110100), (0x3C, 0b0011111001), (0x5C, 0b0011110101), (0x7C, 0b0011110011), (0x9C, 0b0011110010),
    (0xBC, 0b0011111010), (0xDC, 0b0011110110), (0xFC, 0b0011111000), (0xF7, 0b1110101000), (0xFB, 0b1101101000),
    (0xFD, 0b1011101000), (0xFE, 0b0111101000) ]

/-- The ones among the n low bits of a number. -/
def onesBelow (n v : Nat) : Nat := ((upto 0 n).filter (fun i => v.testBit i)).length

/-- A group of n bits that does not hold as many ones as zeros. -/
def unbalanced (n v : Nat) : Bool := 2 * onesBelow n v != n

/-- The code group abcdeifghj of a symbol, a its highest bit, at a running disparity (true: positive). -/
def codeGroup (rd : Bool) : Symbol → Nat
  | .k b =>
    let g := ((controlTable.find? (fun e => e.1 == b)).map (fun e => e.2)).getD 0
    if rd then 1023 - g else g
  | .d b =>
    let x := b % 32
    let y := b / 32 % 8
    let six := sixTable.getD x 0
    let six' := if rd && (unbalanced 6 six || x == 7) then 63 - six else six
    let rd' := rd != unbalanced 6 six
    let alternate := y == 7 && (if rd' then [11, 13, 14] else [17, 18, 20]).contains x
    let four := if alternate then 0b0111 else fourTable.getD y 0
    let four' := if rd' && (unbalanced 4 four || y == 3) then 15 - four else four
    16 * six' + four'

/-- A symbol changes the running disparity: its code group holds more ones than zeros or fewer. -/
def flipsDisparity (x : Symbol) : Bool := unbalanced 10 (codeGroup false x)

/-- The ten bits of a code group in the order of transmission: bit a first (R294). -/
def groupBits (g : Nat) : List Bool := (upto 0 10).map (fun i => g.testBit (9 - i))

/-- What a lane sends for a list of symbols from a running disparity. -/
def lineBits : Bool → List Symbol → List Bool
  | _, [] => []
  | rd, x :: t => groupBits (codeGroup rd x) ++ lineBits (rd != flipsDisparity x) t

/-- Every symbol of the code. -/
def allSymbols : List Symbol := (upto 0 256).map Symbol.d ++ controlTable.map (fun e => Symbol.k e.1)

/-- The symbol of a code group at a running disparity. -/
def readGroup (rd : Bool) (g : Nat) : Option Symbol := allSymbols.find? (fun x => codeGroup rd x == g)

/-- The control symbols that R295 allows on every receive lane: return lanes and Afloth lanes alike
(spec/10_panel_protocol.md R350 gives return lanes K27.7 and K29.7). -/
def receiveSymbols : List Symbol := [k285, k283, k280, k287, k277, k297]

/-- A symbol that a receive lane may carry (R295). -/
def symbolAllowed (x : Symbol) : Bool :=
  match x with
  | .d _ => true
  | .k _ => receiveSymbols.contains x

/-- The control symbols that the Q9 may send on the lanes of a link (R295): 0 is the panel link. -/
def sendSymbols (link : Nat) : List Symbol :=
  if link = 0 then [k285, k283, k287, k277, k297, k307, k281] else [k285, k283, k280, k287, k277, k297]

/-- What R296 makes of a code group at the receiver's running disparity. -/
inductive GroupKind where
  | good
  | violation
  | disparity
  deriving DecidableEq, Repr

/-- A code group is good, a CODEVIOL (not in the tables, or a control symbol not allowed on the lane), or a DISPERR (a valid
group of the other running disparity). -/
def groupKind (rd : Bool) (g : Nat) : GroupKind :=
  match readGroup rd g, readGroup (!rd) g with
  | some x, _ => if symbolAllowed x then .good else .violation
  | none, some x => if symbolAllowed x then .disparity else .violation
  | none, none => .violation

/-! ## Ordered sets (R297, R300) -/

/-- The next bits of the generator x^7 + x^6 + 1 from its seven stages, the first shifted out first. -/
def trainBits : Nat → Nat → List Bool
  | 0, _ => []
  | n + 1, r => r.testBit 6 :: trainBits n (r * 2 % 128 + bit (r.testBit 6 != r.testBit 5))

/-- The seven stages of that generator after some bits. -/
def trainStages : Nat → Nat → Nat
  | 0, r => r
  | n + 1, r => trainStages n (r * 2 % 128 + bit (r.testBit 6 != r.testBit 5))

/-- A byte from eight bits, bit 0 first. -/
def byteOfBits (l : List Bool) : Nat := l.foldr (fun b acc => 2 * acc + bit b) 0

/-- Bytes from bits, eight at a time. -/
def bytesOfBits : Nat → List Bool → List Nat
  | 0, _ => []
  | n + 1, l => byteOfBits (l.take 8) :: bytesOfBits n (l.drop 8)

/-- Bytes 0 to 62 of a TRAIN burst: the stages all 1 at its start (R300). -/
def trainBytes : List Nat := bytesOfBits 63 (trainBits 504 127)

/-- The symbols of an IDLE set. -/
def idleSet : List Symbol := [k285, d102, d102, d102]

/-- The symbols of a TRAIN burst. -/
def trainBurst : List Symbol := k287 :: trainBytes.map Symbol.d

/-- What the transmitted lanes of a link carry over a stretch of a lane period, all lanes at the same positions. -/
inductive LaneRun where
  /-- ALIGN with ASEQ and FLAGS (R299) -/
  | align (aseq flags : Nat)
  /-- IDLE sets -/
  | idle (sets : Nat)
  /-- a SKIP set -/
  | skip
  /-- TRAIN bursts -/
  | train (bursts : Nat)
  /-- a HOLD set with FRAME (spec/10_panel_protocol.md R347) -/
  | hold (frame : Nat)
  /-- positions of a packet or frame, an ABORT set or fill: at each position one symbol for each lane -/
  | positions (rows : List (List Symbol))
  deriving DecidableEq, Repr

/-- The symbols of a run on one lane. -/
def LaneRun.onLane (lane : Nat) : LaneRun → List Symbol
  | .align aseq flags => [k283, .d lane, .d (aseq % 256), .d (flags % 256)]
  | .idle n => (List.replicate n idleSet).flatten
  | .skip => [k280, k280, k280, k280]
  | .train n => (List.replicate n trainBurst).flatten
  | .hold f => [k281, .d (f % 256), .d (f / 256 % 256), .d 0]
  | .positions rows => rows.map (fun r => r.getD lane d102)

/-- A list of symbols leaves the running disparity changed. -/
def flipsAll (l : List Symbol) : Bool := l.foldl (fun acc x => acc != flipsDisparity x) false

/-- A run leaves the running disparity of a lane changed: each IDLE set does, and a TRAIN burst as its symbols have it. -/
def LaneRun.flips (lane : Nat) : LaneRun → Bool
  | .idle n => n % 2 == 1
  | .train n => n % 2 == 1 && flipsAll trainBurst
  | r => flipsAll (r.onLane lane)

/-! ## Packets and frames on the lanes -/

/-- Bytes in rows of n, at most k rows, the last filled with zeros. -/
def laneRows (n : Nat) : Nat → List Byte → List (List Symbol)
  | 0, _ => []
  | k + 1, l =>
    (l.take n ++ List.replicate (n - (l.take n).length) 0).map (fun (b : Byte) => Symbol.d b.toNat) :: laneRows n k (l.drop n)

/-- One symbol on every one of n lanes. -/
def everyLane (n : Nat) (x : Symbol) : List Symbol := List.replicate n x

/-- A panel packet position by position over 96 lanes (spec/10_panel_protocol.md R325, R327, R328): K27.7 and three copies of
the header, D data positions, K29.7 and the GCRC of each TX group on the first four of its lanes. -/
def packetRows (header data : List Byte) (d : Nat) (gcrc : List Nat) : List (List Symbol) :=
  let copies := (laneRows 32 3 header).map (fun r => r ++ r ++ r)
  let crcs := gcrc.flatMap (fun c => (leBytes c 4).map (fun b => Symbol.d b.toNat) ++ List.replicate 4 (.d 0))
  everyLane 96 k277 :: copies ++ laneRows 96 d data ++
    [everyLane 96 k297, crcs, everyLane 96 (.d 0), everyLane 96 (.d 0)]

/-- An Afloth frame position by position over 8 lanes (spec/13_afloth_tiling.md R416), from its bytes: header, data and
DATA_CRC. -/
def frameRows (bytes : List Byte) : List (List Symbol) :=
  let n := bytes.length - 28
  everyLane 8 k277 :: laneRows 8 3 (bytes.take 24) ++ laneRows 8 (4 * ceilDiv n 32) ((bytes.drop 24).take n) ++
    everyLane 8 k297 :: laneRows 8 3 (bytes.drop (24 + n))

/-- An ABORT set on every panel lane (spec/10_panel_protocol.md R344). -/
def abortRows (frame reason : Nat) : List (List Symbol) :=
  [everyLane 96 k307, everyLane 96 (.d (frame % 256)), everyLane 96 (.d (frame / 256 % 256)), everyLane 96 (.d (reason % 256))]

end Sys2Proof.Machine
end

