-- ==== Sys2Proof/Machine/Output.lean ====
section
/-! DEFINITION. Status codes (spec/03_control_kcp.md R112) and the record of everything the Q9 answers or sends. -/

namespace Sys2Proof.Machine

/-- The status codes of R112. -/
inductive Status where
  | ok | unmapped | align | window | locked | value | busy | mode | state | noRoute | noRole | pool | inUse | length
  | opcode | version | sessionLimit | privilege | staleSeq | seqGap | bulkRange | bulkIncomplete | bulkCrc
  | batchIllegal | timeout
  deriving DecidableEq, Repr

/-- The code of a status (R112). -/
def statusCode : Status → Nat
  | .ok => 0x0000 | .unmapped => 0x0001 | .align => 0x0002 | .window => 0x0003 | .locked => 0x0004
  | .value => 0x0005 | .busy => 0x0006 | .mode => 0x0007 | .state => 0x0008 | .noRoute => 0x0009
  | .noRole => 0x000A | .pool => 0x000B | .inUse => 0x000C | .length => 0x000D | .opcode => 0x000E
  | .version => 0x000F | .sessionLimit => 0x0010 | .privilege => 0x0011 | .staleSeq => 0x0012
  | .seqGap => 0x0013 | .bulkRange => 0x0014 | .bulkIncomplete => 0x0015 | .bulkCrc => 0x0016
  | .batchIllegal => 0x0017 | .timeout => 0x0018

/-- What the Q9 answers or sends. -/
inductive Output where
  /-- the status of a direct register request -/
  | status (who : Requester) (addr : Nat) (st : Status)
  /-- the value and status of a direct register read -/
  | value (who : Requester) (addr : Nat) (v : Word) (st : Status)
  /-- a KCP response or EVENT request from a port, in a frame with an 802.1Q tag or none, to an origin: opcode, session
  identifier, SEQ, FLAGS, STATUS, payload, tag -/
  | kcp (port : Nat) (tag8021q : Option Nat) (origin opcode sessionId seq flags : Nat) (st : Status) (payload tag : List Byte)
  /-- a packet for the panel TX lanes: header bytes, data bytes and the 12 GCRC values of its end set
  (spec/10_panel_protocol.md R324 to R328); what of it leaves, and where, is in lanes -/
  | panelPacket (header data : List Byte) (gcrc : List Nat)
  /-- an ABORT set, which takes the place of the rest of a push: FRAME and REASON (R344) -/
  | panelAbort (frame reason : Nat)
  /-- HOLD sets begin, with FRAME (R347) -/
  | panelHold (frame : Nat)
  /-- an event of a link's transmitters, by name: electrical idle, a preset, a loopback pattern (spec/09_serial_lanes.md) -/
  | laneSet (link : Nat) (name : String) (arg : Nat)
  /-- what the transmitted lanes of a link carry from a set of four positions of the lane period on, and the running disparity
  of each lane before it (spec/09_serial_lanes.md R294 to R298) -/
  | lanes (link slot : Nat) (disparity : List Bool) (runs : List LaneRun)
  /-- an Ethernet frame or datagram from a port, by kind, with its bytes -/
  | frame (port : Nat) (kind : String) (bytes : List Byte)
  /-- an Afloth frame on a link: its bytes (spec/13_afloth_tiling.md) -/
  | afloth (link : Nat) (bytes : List Byte)
  /-- a memory read answer: request, word, poisoned (spec/14_hbm_controller.md R447) -/
  | memory (id : Nat) (data : List Byte) (poisoned : Bool)
  /-- a translation answer: memory byte, or none on a fault (spec/15_translation_preemption.md R465) -/
  | translated (ctx ca : Nat) (m : Option Nat)
  /-- bits on TDO (spec/20_test_identity.md R556) -/
  | tap (bits : List Bool)
  /-- what the boundary cells drive on the balls; none with HIGHZ (R556) -/
  | balls (bits : Option (List Bool))
  deriving DecidableEq, Repr

end Sys2Proof.Machine
end

