-- ==== Sys2Proof/Machine/Tab.lean ====
section
/-! DEFINITION. Sparse tables: a sorted list of key and value pairs that lists no entry equal to what an unlisted
key reads as, so that equal contents are equal data. Memories (Host.Cell lists), the register file and every
numbered array of the Q9 are held so. -/

namespace Sys2Proof.Machine

/-- A sparse table from Nat keys. -/
abbrev Tab (α : Type) := List (Nat × α)

/-- The listed value at a key. -/
def tabFind {α : Type} : Tab α → Nat → Option α
  | [], _ => none
  | (a, v) :: t, k => if a = k then some v else tabFind t k

/-- The value at a key, d where the key is not listed. -/
def tabGet {α : Type} (d : α) (t : Tab α) (k : Nat) : α := (tabFind t k).getD d

/-- The table with k listed as v, in key order. -/
def tabInsert {α : Type} : Tab α → Nat → α → Tab α
  | [], k, v => [(k, v)]
  | (a, w) :: t, k, v =>
    if k < a then (k, v) :: (a, w) :: t
    else if k = a then (k, v) :: t
    else (a, w) :: tabInsert t k v

/-- The table without k. -/
def tabErase {α : Type} (t : Tab α) (k : Nat) : Tab α := t.filter (fun e => e.1 != k)

/-- The table that reads v at k: writing the value an unlisted key reads as removes the entry. -/
def tabPut {α : Type} [DecidableEq α] (d : α) (t : Tab α) (k : Nat) (v : α) : Tab α :=
  if v = d then tabErase t k else tabInsert t k v

/-- The table with the value at k changed by f. -/
def tabModify {α : Type} [DecidableEq α] (d : α) (t : Tab α) (k : Nat) (f : α → α) : Tab α :=
  tabPut d t k (f (tabGet d t k))

/-- Every key of the tail lies above k. -/
def tabAbove {α : Type} (k : Nat) (t : Tab α) : Bool := t.all (fun e => decide (k < e.1))

/-- The canonical form: keys strictly rising and no entry equal to the default d. -/
def tabWf {α : Type} [DecidableEq α] (d : Nat → α) : Tab α → Bool
  | [] => true
  | (k, v) :: t => decide (v ≠ d k) && tabAbove k t && tabWf d t

/-- A sorted list of Nats without repeats as a set: insertion. -/
def setInsert (k : Nat) : List Nat → List Nat
  | [] => [k]
  | a :: t => if k < a then k :: a :: t else if k = a then a :: t else a :: setInsert k t

/-- Removal from a set of Nats. -/
def setErase (k : Nat) (l : List Nat) : List Nat := l.filter (· != k)

end Sys2Proof.Machine
end

