-- ==== Sys2Proof/Machine/State.lean ====
section
/-! DEFINITION. The state of the Q9 as plain data: pins and clocks, the register file, the memories, and the state that
stands behind the registers, chapter by chapter of spec/. -/

namespace Sys2Proof.Machine

/-- The reasons a command can fault. No command of the Q9 faults: errors set registers and raise event sources
(spec/17_events_errors.md). The type has one constructor so that it is a type. -/
inductive Fault where
  /-- Raised by nobody. Safe: the model never answers it. -/
  | none
  deriving DecidableEq, Repr

/-- The reasons a command can be refused by the model. -/
inductive Refusal where
  /-- An arm of exec whose command has no meaning yet. Safe: the model stops. -/
  | notModelled (mnemonic : String)
  deriving DecidableEq, Repr

/-- Pins, clocks and boot progress (spec/21_pins_startup.md R562 to R574). -/
structure Pins where
  inReset : Bool := false
  refSys : Bool := true
  refLane : Bool := true
  testEn : Bool := false
  flashSdr : Bool := false
  /-- SFDP could not be read: the flash counts as absent (R571) -/
  flashAbsent : Bool := false
  bootStep : Nat := 1
  te : Bool := false
  deriving DecidableEq, Repr

/-- An entry waiting in the error-log writer's queue (spec/17_events_errors.md R506, R507); at is the reference-clock
time of the first report. -/
structure LogEntry where
  source : Nat
  code : Nat
  detail : Nat
  at_ : Nat
  timeS : Nat
  timeNs : Nat
  repeat_ : Nat
  eflags : Nat
  deriving DecidableEq, Repr

/-- The event controller and the error-log writer behind their registers (spec/17_events_errors.md). -/
structure EvtState where
  /-- level sources whose condition holds (R493) -/
  cond : List Nat := []
  /-- end of the running hold-off window of a group (R501) -/
  window : Tab (Option Nat) := []
  /-- sources that were pending when their group's window began (R501) -/
  snap : List Nat := []
  /-- sources held by a window (R501) -/
  held : List Nat := []
  /-- target that claimed an active source (R496) -/
  claimer : Tab Nat := []
  /-- last raise of a source that is raised at most once per ms -/
  lastRaise : Tab (Option Nat) := []
  queue : List LogEntry := []
  deriving DecidableEq, Repr

/-- One EVENT in flight to a host channel (spec/03_control_kcp.md R111). -/
structure EventFlight where
  seq : Nat
  sends : Nat
  sentAt : Nat
  visible : List Nat
  deriving DecidableEq, Repr

/-- What a host channel remembers between EVENTs (spec/17_events_errors.md R502). -/
structure HostChannel where
  flight : Option EventFlight := none
  acked : List Nat := []
  ackedAt : Option Nat := none
  deriving DecidableEq, Repr, Inhabited

/-! Chapters. -/

/-- The work items that block schedulers hand to cells (spec/06_carding.md R228, spec/07_conformer.md R261,
spec/12_confidence_encoder.md R393). -/
inductive WorkItem where
  | card (layer count tile : Nat)
  | conf (handle tile : Nat)
  /-- encoder analysis: part 0 builds the sample map, part r + 1 finds the complexity of CTU row r -/
  | assist (part : Nat)
  deriving DecidableEq, Repr

/-- A work item with the mark that it has been reissued after poison (spec/02_structure_cukar.md R52). -/
structure QueuedItem where
  item : WorkItem
  reissued : Bool
  deriving DecidableEq, Repr

/-- One cell of a ray block (R48 to R51). -/
structure CellState where
  item : Option QueuedItem := none
  since : Nat := 0
  /-- the kernel step in progress is replayed -/
  replaying : Bool := false
  retired : Bool := false
  /-- local store: byte i of bank b at b × 8,192 + i (R48) -/
  store : List Host.Cell := []
  /-- lane that each bank served last (R48) -/
  served : Tab Nat := []
  /-- byte that each lane read last -/
  lanes : Tab Nat := []
  deriving DecidableEq, Repr

/-- One ray block's scheduler (R51 to R53, R60, R62, R63). -/
structure BlockState where
  cells : Tab CellState := []
  /-- cell picked last (R51). DESIGN CHOICE: R51 names none for the first pick after a load; 15 makes it begin at cell 0 -/
  last : Nat := 15
  queue : List QueuedItem := []
  /-- items that it has been given of the frame's work in progress (R60) -/
  given : Nat := 0
  /-- its router port is open (R62 step 1) -/
  portOpen : Bool := true
  /-- its cells hold the kernels of the region's kernel area; not so for a spare that is not ready (R62 step 3) -/
  loaded : Bool := true
  /-- a frame boundary of its region has come since it was ready (R62 step 4) -/
  boundary : Bool := false
  /-- the ray frame, counted from the load, in which an item was last poisoned after reissue (R53) -/
  poisonFrame : Option Nat := none
  /-- role before isolation (R62) -/
  lostRole : Nat := 0
  /-- for a spare: the failed block it replaces (R62) -/
  replaces : Option Nat := none
  deriving DecidableEq, Repr

/-- Traffic that waits in the on-chip network: its endpoints, its virtual channel, and the ray block that sends it, none
for traffic that comes through a region's network port or from another endpoint (R54, R56). -/
structure Transfer where
  src : Nat
  dst : Nat
  vc : Nat
  block : Option Nat
  deriving DecidableEq, Repr

/-- A weighted round-robin arbiter (R54, R56): the requester served last and the grants that it still has of its weight. -/
structure Arbiter where
  last : Nat := 0
  credit : Nat := 0
  deriving DecidableEq, Repr, Inhabited

/-- The on-chip network: traffic waiting at the region routers, oldest first; traffic waiting at its destination; the
arbiters of the 16 region routers and of the destination endpoints by channel (256 × VC + DST). -/
structure NetState where
  routers : List Transfer := []
  waiting : List Transfer := []
  regions : Tab Arbiter := []
  endpoints : Tab Arbiter := []
  deriving DecidableEq, Repr

/-- A pool of the MEMORY section (R76); BASE and SIZE in units of 2 MiB. -/
structure PoolRec where
  id : Nat
  kind : Nat
  base : Nat
  size : Nat
  deriving DecidableEq, Repr

/-- A route of the ROUTES section (R72). -/
structure RouteRec where
  src : Nat
  dst : Nat
  vc : Nat
  share : Nat
  inOrder : Bool
  deriving DecidableEq, Repr

/-- A kernel of the KERNELS section (R74). -/
structure KernelRec where
  id : Nat
  role : Nat
  offset : Nat
  length : Nat
  deriving DecidableEq, Repr

/-- A Cukar image, parsed (R65 to R83). -/
structure ImageRec where
  sequence : Nat
  imageVersion : Nat
  roles : List Nat
  routes : List RouteRec
  ksetId : Nat
  kernels : List KernelRec
  kernelSet : List Byte
  pools : List PoolRec
  /-- per group: HOLDOFF, TARGETS, ENABLE (R78) -/
  groups : List (Nat × Nat × Nat)
  /-- DOMAIN[d] (R79) -/
  domains : List Nat
  /-- POINT[k]: mV, MHz (R79) -/
  points : List (Nat × Nat)
  geometry : List Byte
  deriving DecidableEq, Repr

/-- A load in validation (R84, R87, R90, R94): SOURCE, whether it is the boot load, the slot still to try, the
overrides taken. -/
structure LoadRec where
  source : Nat
  boot : Bool
  other : Option Nat
  overrides : List Nat
  deriving DecidableEq, Repr

/-- The structure in force and the load in progress (spec/02_structure_cukar.md). -/
structure StructState where
  image : Option ImageRec := none
  load : Option LoadRec := none
  /-- blocks that the image in force was loaded with overridden, and blocks that hold an override for the next load (R90) -/
  overrides : List Nat := []
  held : List Nat := []
  /-- end of the bytes delivered to the load buffer since CONFIGURE was entered (R84 check 0x2) -/
  loaded : Nat := 0
  blocks : Tab BlockState := []
  /-- the newest ray frame and instants of which each region has issued work, as started counts: 128 × region for frames,
  128 × region + 1 + layer for instants (R62) -/
  issued : Tab Nat := []
  /-- traffic that waits in the on-chip network (R54, R56) -/
  net : NetState := {}
  deriving DecidableEq, Repr

/-- A KCP response (spec/03_control_kcp.md R99). -/
structure KcpResponse where
  opcode : Nat
  seq : Nat
  status : Status
  payload : List Byte
  deriving DecidableEq, Repr

/-- A request that waits behind a gap in SEQ (R109), with the opcode of its command. -/
structure HeldRequest where
  opcode : Nat
  datagram : KcpDatagram
  deadline : Nat
  deriving DecidableEq, Repr

/-- A COMMIT SYNC whose answer waits for its fence (R110, R126): SEQ, when its execution began, where its answer goes, and
whether the session closes with it. -/
structure SyncWait where
  seq : Nat
  since : Nat
  port : Nat
  origin : Nat
  close : Bool
  deriving DecidableEq, Repr

/-- A KCP session beyond its KCP_SESSn register (R103 to R111). -/
structure Session where
  id : Nat := 0
  maxPayload : Nat := 512
  key : List Byte := []
  origin : Nat := 0
  /-- last executed SEQ (R109) -/
  last : Nat := 0
  cache : List KcpResponse := []
  held : List HeldRequest := []
  /-- executed COMMIT SYNCs whose answer waits (R110, R126) -/
  syncs : List SyncWait := []
  openedAt : Nat := 0
  lastValid : Nat := 0
  eventSeq : Nat := 0
  deriving DecidableEq, Repr

/-- An open bulk transfer (R129 to R131). -/
structure Bulk where
  slot : Nat
  target : Nat
  pool : Nat
  base : Nat
  total : Nat
  id : Nat
  fuller : Bool
  /-- bytes received, by offset -/
  data : Tab (Option Byte)
  /-- offset of the collection area in its pool (R131) -/
  area : Nat
  lastChunk : Nat
  deriving DecidableEq, Repr

/-- A path object (R118 to R122). -/
structure PathObj where
  /-- 0 UNDECLARED, 1 DECLARED, 2 BOUND, 3 ARMED -/
  state : Nat := 0
  /-- binding registers taken at BIND: address and word -/
  binding : Tab (Option Word) := []
  /-- a binding register has been written since the last BIND (R121) -/
  written : Bool := false
  /-- a binding register has been written since DECLARE, so that a DECLARED object names others (R122) -/
  touched : Bool := false
  /-- order of arming (R122) -/
  order : Nat := 0
  /-- joined presentation at a fence (R121) -/
  joined : Bool := false
  deriving DecidableEq, Repr

/-- Control over KCP (spec/03_control_kcp.md). -/
structure KcpState where
  sessions : Tab Session := []
  bulks : List Bulk := []
  channels : Tab HostChannel := []
  paths : Tab PathObj := []
  armCount : Nat := 0
  /-- staged writes of the batch in progress (R116) -/
  shadow : Option (List (Nat × Word)) := none
  deriving DecidableEq, Repr

/-- A key view of an instant after conversion (spec/06_carding.md R209 to R213): records maps the sample index
(y + S) × (W + 2S) + (x + S) to its 8-byte record (R, G, B in binary16, then d). -/
structure KeyViewRec where
  present : Bool
  sizeBad : Bool
  concealed : Bool
  substitute : Bool
  tainted : Bool
  records : Tab (Option Nat)
  deriving DecidableEq, Repr

/-- A decoded picture as it passes to carding (spec/05_decode.md R168, R175, R197): its slot, geometry and every flag. -/
structure PicRef where
  slot : Nat
  width : Nat
  height : Nat
  cropX : Nat
  cropY : Nat
  cropW : Nat
  cropH : Nat
  bits : Nat
  concealed : Bool
  methods : Nat
  concCtus : Nat
  substitute : Bool
  tainted : Bool
  hashFail : Bool
  deriving DecidableEq, Repr

/-- What an instant converts (R227): the pictures of an access unit per key view (texture, depth; none = absent) with the
slots of its other complete pictures, the bytes of a RAWKEY unit with the key views that ingest marked absent
(spec/04_ethernet_ingest.md R156), or the rays of a RAWRAY unit, which need no conversion. -/
inductive InstantInput where
  | rays
  | coded (ctx : Nat) (pics : List (Option PicRef × Option PicRef)) (others : List Nat)
  | raw (data : Tab (Option Byte)) (absent : List Nat)
  deriving DecidableEq, Repr

/-- The front buffer of an overlay as an instant that started with it reads it (spec/08_plank_overlay.md R286). -/
structure FrontRec where
  overlay : Nat
  /-- 0 BUF0, 1 BUF1 -/
  buffer : Nat
  /-- the lease of the buffer: entry and generation (spec/15_translation_preemption.md R461) -/
  hold : Nat × Nat
  pool : Nat
  base : Nat
  pitch : Nat
  format : Nat
  width : Nat
  height : Nat
  deriving DecidableEq, Repr

/-- A carding instant or the instant of a RAWRAY layer (R227, spec/11_time_presentation.md R380). -/
structure Instant where
  layer : Nat
  count : Nat
  /-- launch time in Q9 nanoseconds, or none -/
  launch : Option Nat
  unit : Nat
  input : InstantInput
  /-- 0 waiting for start, 1 synthesising, 2 complete -/
  phase : Nat
  /-- the unit or access unit was handed over at this time -/
  readyAt : Nat
  /-- seam wait ends at this time; it ended with strips missing (R232) -/
  seamUntil : Nat
  seamMissed : Bool
  views : List KeyViewRec
  excluded : List Nat
  /-- hogel tiles not yet complete (R228) -/
  todo : List Nat
  /-- rays produced: ray index to RAYH container, or to a panel code for RAY30 and RAY36 RAWRAY units -/
  rays : Tab (Option Nat)
  /-- RAWRAY codes of RAY30 (0) or RAY36 (1); 2 for RAYH colours (R254) -/
  format : Nat
  /-- overlays read and their front buffers at the start (R286) -/
  fronts : List FrontRec
  /-- leases held beside those of the front buffers: entry and generation (spec/15_translation_preemption.md R461) -/
  holds : List (Nat × Nat)
  /-- the half of the work area that its records stand in (R213), and the context address of that half -/
  half : Nat
  area : Option Nat
  late : Bool
  clamped : Bool
  withheld : Bool
  /-- register file at the start (spec/11_time_presentation.md R374) -/
  regs : Tab Word
  deriving DecidableEq, Repr

/-- Carding (spec/06_carding.md). -/
structure CardState where
  instants : List Instant := []
  /-- instants started per layer -/
  counts : Tab Nat := []
  deriving DecidableEq, Repr

/-- A map being loaded (spec/07_conformer.md R245): the bytes copied (none where the source was not legal or did not
decompress, with the code), its entries. -/
structure MapLoad where
  bytes : List Byte
  early : Nat
  sizing : Bool
  deriving DecidableEq, Repr

/-- The ray frame of a slot and its presentation entry (spec/07_conformer.md R260 to R264,
spec/11_time_presentation.md R376, R377). -/
structure FrameEntry where
  /-- 0 FREE, 1 BUILDING, 2 READY, 3 PUSHING, 4 COMMITTED -/
  state : Nat := 0
  launch : Option Nat := none
  late : Bool := false
  /-- Q9 time in nanoseconds whose nearest predicted edge is the target edge: the launch time, or an edge chosen later -/
  target : Option Nat := none
  /-- frames started before it since the load -/
  order : Nat := 0
  discardWhenDone : Bool := false
  /-- no later edge lets spec/11_time_presentation.md R382 hold for it (R383) -/
  noEdge : Bool := false
  frameNo : Nat := 0
  instants : List (Nat × Nat) := []
  used : Nat := 0
  buf1 : Nat := 0
  phase : Nat := 0
  todo : List Nat := []
  codes : Tab (Option Nat) := []
  clipped : Bool := false
  /-- nap map: dirty tiles -/
  dirty : List Nat := []
  /-- every tile dirty (R268) -/
  whole : Bool := false
  completed : Bool := false
  map : Tab Nat := []
  regs : Tab Word := []
  /-- leases held: entry and generation -/
  holds : List (Nat × Nat) := []
  deriving DecidableEq, Repr

/-- The conformer (spec/07_conformer.md). -/
structure ConfState where
  map : Tab Nat := []
  mapCopy : Nat := 0
  load : Option MapLoad := none
  refUndefined : Bool := true
  /-- subpixels (3 × pixel + k) whose reference code is a panel code of a RAWRAY layer (R254) -/
  refPanel : List Nat := []
  frames : Tab FrameEntry := []
  /-- ray frames started since the load (R253) -/
  started : Nat := 0
  owed : List Nat := []
  whole : Bool := false
  waited : Bool := false
  /-- launch time of the last frame that started (spec/11_time_presentation.md R381) -/
  lastLaunch : Option Nat := none
  /-- launch time whose build deadline has passed before its frame could start (R381) -/
  cut : Option Nat := none
  deriving DecidableEq, Repr

/-- A running plank operation (spec/08_plank_overlay.md R277 to R283): the parameter words at START. -/
structure PlankOp where
  words : List Nat
  lines : Nat
  wmarked : Bool
  waiting : Bool
  deriving DecidableEq, Repr

/-- A region push (spec/10_panel_protocol.md R330, R331). -/
structure Push where
  tx0 : Nat
  ty : Nat
  tw : Nat
  deriving DecidableEq, Repr

/-- The frame open at the panel (R336 to R346). -/
structure OpenFrame where
  handle : Nat
  frameNo : Nat
  pushes : List Push
  /-- next push to send -/
  next : Nat := 0
  /-- push in progress, and whether it is sent compressed -/
  busy : Option (Nat × Bool) := none
  resend : List Nat := []
  failures : Tab Nat := []
  restarts : Nat := 0
  /-- an ABORT was sent, or a commit rejected, at this time and the panel's STATUS is awaited (R346) -/
  abortedAt : Option Nat := none
  /-- its FRAME_COMMIT has been sent -/
  committed : Bool := false
  /-- target edge in Q9 nanoseconds -/
  target : Option Nat := none
  /-- counted as late while open (spec/11_time_presentation.md R383) -/
  missed : Bool := false
  /-- DONE has been sent for it (spec/13_afloth_tiling.md R425) -/
  doneSent : Bool := false
  /-- a GO lets it commit (R425) -/
  go : Bool := false
  deriving DecidableEq, Repr

/-- The panel protocol (spec/10_panel_protocol.md). -/
structure PanelState where
  /-- the last CAPS body received -/
  caps : Option (List Byte) := none
  /-- CAP_QUERY packets sent in the discovery in progress -/
  queries : Nat := 0
  querying : Bool := false
  queryAt : Nat := 0
  /-- Q9 time of the last rising TE edge in ns, and reference time of it -/
  edge : Option Nat := none
  edgeAt : Nat := 0
  /-- rising edges since TE was lost or since reset -/
  edges : Nat := 0
  /-- TE_LOST has been raised since the last rising edge (R340) -/
  teLost : Bool := false
  /-- fence values of the coming edge already sampled (spec/11_time_presentation.md R373) -/
  sampled : Bool := false
  opened : Option OpenFrame := none
  /-- reference time at which the packet in progress, with its gap, ends -/
  busyUntil : Nat := 0
  holding : Bool := false
  holdAt : Option Nat := none
  /-- the next FRAME_BEGIN ends a hold (R349) -/
  held : Bool := false
  lastFlip : Nat := 0
  lastReturn : Nat := 0
  lost : Bool := false
  /-- no STATUS has arrived since the link came UP -/
  fresh : Bool := true
  /-- tile row after the last row pushed under THROTTLED (spec/18_modes_power_thermal.md R529) -/
  throttleRow : Nat := 0
  /-- the next push of the open frame, and the bytes of its data that are on chip (R332) -/
  fetched : Nat × Nat := (0, 0)
  /-- the data of the push in progress was wholly on chip when it started (R332, R344) -/
  whole : Bool := false
  /-- BSTATE is taken as 0x3 for the next frame begun (R354) -/
  invalidNext : Bool := false
  deriving DecidableEq, Repr

/-- A fence token in force (spec/13_afloth_tiling.md R423, R425): the local target edge, the token's edge, the launch time
(none for ASAP), the leader's FRAME and the deferrals so far. -/
structure TokenRec where
  edge : Nat
  named : Nat
  launch : Option Nat
  lframe : Nat
  defers : Nat
  /-- edge named by its PLAN -/
  planned : Nat
  deriving DecidableEq, Repr

/-- A seam strip as received (R427 to R429): layer, edge of the receiver, launch time, key view, the sender's layout CRC,
its samples by index in the strip, each a 64-bit value. -/
structure StripRec where
  layer : Nat
  edge : Nat
  launch : Option Nat
  kv : Nat
  crc : Nat
  samples : Tab (Option Nat)
  deriving DecidableEq, Repr

/-- The tiling logic behind its registers (spec/13_afloth_tiling.md). -/
structure AflState where
  /-- last SEQ sent by TYPE, and last SEQ accepted by 16 × ORIGIN + TYPE -/
  sent : Tab (Option Nat) := []
  seen : Tab (Option Nat) := []
  /-- time of the last HELLO by ORIGIN, and the devices declared lost -/
  hello : Tab (Option Nat) := []
  lost : List Nat := []
  helloAt : Nat := 0
  /-- tiling has been in use since this time -/
  since : Nat := 0
  token : Option TokenRec := none
  /-- members whose DONE has arrived for the token's edge (leader) -/
  done : List Nat := []
  /-- members from which DONE is awaited since the last PLAN (leader) -/
  awaited : List Nat := []
  /-- this device sent STATUS 0x1 for the token's edge -/
  noFrame : Bool := false
  /-- the panel is held because the leader holds or is lost (R426) -/
  leaderHold : Bool := false
  /-- last snapshot by 32 × member + word -/
  remote : Tab Word := []
  /-- the snapshot last sent, with its time -/
  sentWords : List Word := []
  sentAt : Option Nat := none
  strips : List StripRec := []
  deriving DecidableEq, Repr

/-- A receive lane of a link (spec/09_serial_lanes.md R301 to R305). -/
structure LinkLane where
  sigdet : Bool := false
  symlock : Bool := false
  /-- IDLE sets counted towards symbol lock, and their 10-bit alignment -/
  idles : Nat := 0
  alignment : Nat := 0
  polarity : Bool := false
  deskewed : Bool := false
  skew : Nat := 0
  laneSeen : Nat := 0
  frozen : Bool := false
  /-- CODEVIOL and DISPERR of the lane period in progress -/
  errors : Nat := 0
  codeviol : Nat := 0
  disperr : Nat := 0
  /-- consecutive lane periods with READY 1 and with READY 0 -/
  readyOnes : Nat := 0
  readyZeros : Nat := 0
  /-- FLAGS and ASEQ of the last ALIGN -/
  flags : Nat := 0
  aseq : Nat := 0
  /-- consecutive lane periods without ALIGN -/
  missing : Nat := 0
  deriving DecidableEq, Repr

/-- A lane checker of a loopback mode (spec/20_test_identity.md R550): correct symbols in a row, whether it holds SYNC, and
errored symbols in the lane period. -/
structure LaneCheck where
  good : Nat := 0
  sync : Bool := false
  bad : Nat := 0
  deriving DecidableEq, Repr

/-- A packet, frame or ABORT set that waits for positions on the transmitted lanes or is being sent. -/
structure TxPacket where
  /-- not before this time -/
  start : Nat
  /-- a REGION push, which an ABORT cuts off -/
  push : Bool
  begun : Bool
  /-- position by position, what is left of it: one symbol for each lane -/
  rows : List (List Symbol)
  deriving DecidableEq, Repr

/-- The transmitter of a link (spec/09_serial_lanes.md R294 to R300). -/
structure TxState where
  /-- running disparity of each lane, true positive; lanes not listed are negative -/
  rd : List Bool := []
  /-- sets of four positions of the lane period that have been laid out -/
  slot : Nat := 0
  /-- ASEQ and FLAGS of the period's ALIGN -/
  align : Nat × Nat := (0, 0)
  /-- a TRAIN burst takes positions 64 to 127 -/
  train : Bool := false
  /-- a HOLD set with this FRAME takes positions 4 to 7 -/
  hold : Option Nat := none
  /-- TRAIN bursts back to back -/
  bursts : Bool := false
  queue : List TxPacket := []
  /-- IDLE sets still due before the next packet -/
  gap : Nat := 0
  /-- the seven stages of the generator whose output the lanes carry in a far-end loopback (spec/20_test_identity.md R550) -/
  pattern : Option Nat := none
  deriving DecidableEq, Repr

/-- A link behind its registers (spec/09_serial_lanes.md). -/
structure LinkUnit where
  tx : TxState := {}
  lanes : Tab LinkLane := []
  /-- start of the attempt, or of the gap, STEP or silence in progress -/
  since : Nat := 0
  /-- TRAIN bursts are sent back to back (R308) -/
  bursts : Bool := false
  /-- ASEQ of the next ALIGN -/
  aseq : Nat := 0
  /-- start of the lane period in progress -/
  period : Nat := 0
  /-- end of the last push, frame or TRAIN burst sent (R306) -/
  lastBusy : Nat := 0
  trainDue : Bool := false
  /-- end of the last push or frame received or TRAIN burst (R305) -/
  lastHeard : Nat := 0
  /-- STEP is sent with this rate (R313); the last ALIGN with STEP is due -/
  step : Option Nat := none
  lastStep : Bool := false
  /-- STEP has been sent since this time (R313 step 4) -/
  stepAt : Option Nat := none
  /-- the attempt in progress is that of step 8 -/
  stepping : Bool := false
  errRaised : Bool := false
  /-- K28.0 inserted less those deleted since the attempt began (R304) -/
  elastic : Int := 0
  presetDue : Bool := false
  /-- stopped as if ENABLE were 0 (spec/18_modes_power_thermal.md R517) or by a loopback mode -/
  stopped : Bool := false
  /-- the lane checkers of LNK_LOOP -/
  checks : Tab LaneCheck := []
  deriving DecidableEq, Repr

/-- What the security controller's fuses hold: host keys HK0 to HK3 with their privilege (spec/03_control_kcp.md R103),
image public keys (spec/02_structure_cukar.md R70) and port MAC addresses (spec/04_ethernet_ingest.md R138). -/
structure Fuses where
  hostKeys : Tab (Option (List Byte × Nat)) := []
  /-- P-384 public key points by slot; none where unprovisioned or revoked -/
  imageKeys : Tab (Option (Nat × Nat)) := []
  macs : Tab Nat := []
  deriving DecidableEq, Repr

/-- The identity of a master: clockIdentity and portNumber of its PTP port, and the Ethernet port it is heard on
(spec/11_time_presentation.md R363). -/
structure MasterId where
  clockId : Nat
  portNumber : Nat
  port : Nat
  deriving DecidableEq, Repr

/-- A PTP master heard (spec/11_time_presentation.md R363): the data its Announce messages carry, in the order the best
master clock algorithm compares them. -/
structure MasterRec where
  clockId : Nat
  portNumber : Nat
  port : Nat
  ip6 : Bool
  mac : Nat
  ip : Nat
  quality : List Nat
  lastAnnounce : Nat
  timeout : Nat
  deriving DecidableEq, Repr

/-- One offset measurement in progress (R364): times in Q9 nanoseconds or master nanoseconds. -/
structure PtpMeasure where
  syncSeq : Nat := 0
  t2 : Option Nat := none
  t1 : Option Nat := none
  /-- correctionField of the Sync and Follow_Up, in nanoseconds -/
  correction : Int := 0
  dreqSeq : Nat := 0
  t3 : Option Nat := none
  deriving DecidableEq, Repr

/-- The time unit behind its registers (R359 to R370). -/
structure TimeState where
  /-- Q9 time in units of 2^-48 ns (R359, R367) -/
  q : Nat := 0
  masters : List MasterRec := []
  chosen : Option MasterId := none
  measure : PtpMeasure := {}
  /-- offsets of the chosen master, newest first, in ns -/
  offsets : List Int := []
  /-- consecutive offsets above 1 ms after the step (R368) -/
  bad : Nat := 0
  /-- consecutive offsets within 1 µs (R365, R368) -/
  good : Nat := 0
  dreqSeq : Nat := 0
  dreqDue : Option Nat := none
  dreqLog : Int := 0
  deriving DecidableEq, Repr

/-- A request in a bank queue (spec/14_hbm_controller.md R438); kind: 0 a request, 1 a neighbour refresh (R445), 2 the
write-back of a corrected word (R448). -/
structure MemReq where
  id : Nat
  write : Bool
  row : Nat
  /-- memory byte of its 32-byte word -/
  word : Nat
  data : List Byte
  at_ : Nat
  kind : Nat := 0
  deriving DecidableEq, Repr

/-- One bank of a pseudo-channel (R439). -/
structure BankState where
  queue : List MemReq := []
  openRow : Option Nat := none
  hits : Nat := 0
  /-- neighbour rows drawn while the row is open (R445) -/
  due : List Nat := []
  deriving DecidableEq, Repr

/-- One pseudo-channel (R438 to R445). -/
structure PcState where
  banks : Tab BankState := []
  /-- requests stalled or held at the input, with their bank -/
  input : List (Nat × MemReq) := []
  pointer : Nat := 0
  lastRefresh : Nat := 0
  /-- tREFI in force, and the one that follows the next refresh (R444) -/
  refi : Nat := 3900
  nextRefi : Nat := 3900
  /-- no command is taken before this time (R443) -/
  busyUntil : Nat := 0
  deriving DecidableEq, Repr

/-- A memory stack (R443, R450 to R452). -/
structure StackState where
  /-- rates with a training result of step 5 in force, bit r for rate r (R451) -/
  trained : Nat := 0
  startedAt : Nat := 0
  /-- rate that the change in progress brings -/
  next : Nat := 3
  /-- row-adjacency masks in force (R445, R446) -/
  masks : Option (Nat × Nat) := none
  deriving DecidableEq, Repr

/-- The memory controllers (spec/14_hbm_controller.md). -/
structure HbmState where
  pcs : Tab PcState := []
  stackUnits : Tab StackState := []
  /-- the test that a controller runs: OP of HBM_TEST (spec/20_test_identity.md R552) -/
  tests : Tab Nat := []
  /-- controllers that have logged a missing row-adjacency record in this epoch (R446) -/
  noMaskLogged : List Nat := []
  deriving DecidableEq, Repr

/-- A lease entry (spec/15_translation_preemption.md R459, R460); base and length in 4 KiB pages; part numbers the ranges
of one object. -/
structure Lease where
  /-- 0 free, 1 bound, 2 release pending -/
  state : Nat := 0
  gen : Nat := 0
  kind : Nat := 0
  owner : Nat := 0
  part : Nat := 0
  pool : Nat := 0
  base : Nat := 0
  len : Nat := 0
  /-- a fence has passed since its holder count reached 0 (R462) -/
  fenced : Bool := false
  /-- its release has been forced and drains (R464) -/
  draining : Bool := false
  deriving DecidableEq, Repr

/-- The translation unit (R454 to R474): leases, forced releases that drain (who wrote XLAT_RELEASE, KIND, ID, whether a
holder remained), and the engines parked by pre-emption, by context, with their restart point. -/
structure XlatState where
  leases : Tab Lease := []
  forced : List (Requester × Nat × Nat × Bool) := []
  parked : Tab (Option Nat) := []
  /-- parks of each context since the load, modulo 2^32: SEQ of R472 and, modulo 65,536, XLAT_CTXn.PARKS -/
  parks : Tab Nat := []
  deriving DecidableEq, Repr

/-- A host job of a fuller engine (spec/16_fuller.md R484 to R488): its words at START, the place it has reached. -/
structure FulJob where
  words : List Nat
  /-- it parks at its next block (R333, R468) -/
  yield : Bool := false
  /-- 1 waiting, 2 running, 3 parked -/
  state : Nat
  /-- pos: source bytes read; outLen: bytes decompressed, or bytes of stream written; crc, dict, blocks as they stand;
  none before the first block -/
  run : Option FullerRun
  deriving DecidableEq, Repr

/-- The modes and temperature behind their registers (spec/18_modes_power_thermal.md). -/
structure ModeState where
  /-- the conditions of R526 -/
  throttle : Bool := false
  warn : Bool := false
  shutdown : Bool := false
  dieBand : Nat := 0
  stackBand : Tab Nat := []
  /-- rounds in which a region sensor was discrepant, and restoring (R525) -/
  discrepant : Tab Nat := []
  restoring : Tab Nat := []
  /-- T_die of the last reading in quarter degrees -/
  tdie : Option Int := none
  /-- consecutive rounds with a rail outside ±10 % (R523) -/
  railBad : Tab Nat := []
  /-- SAFE entry decided, waiting for HOLDING or 1 ms -/
  safeAt : Option Nat := none
  safeCause : Nat := 0
  /-- last reading of each sensor in quarter degrees, none where it was missing or invalid (R524, R525) -/
  sensors : Tab (Option Int) := []
  txOff : Bool := false
  /-- voltage and clock of a block while its change is in progress (R519) -/
  changing : Tab (Option (Nat × Nat)) := []
  /-- on-demand domains that are up (R582) -/
  up : List Nat := []
  deriving DecidableEq, Repr

/-- The batts of a unit that arrived on one lane (spec/04_ethernet_ingest.md R146, R151). -/
structure LaneUnit where
  first : Option Nat := none
  last : Option Nat := none
  seqs : List Nat := []
  deriving DecidableEq, Repr

/-- A unit held in a jitter buffer (R149 to R151). Times in Q9 nanoseconds. -/
structure JbUnit where
  unit : Nat
  launch : Option Nat
  deadline : Nat
  /-- to be released as if its deadline had passed (R154, R155) -/
  expired : Bool := false
  /-- the consumer has asked for it (R379) -/
  asked : Bool := false
  lanes : Tab (Option LaneUnit) := []
  /-- bytes by offset, or rays by index for RAWRAY -/
  data : Tab (Option Nat) := []
  /-- the bytes of the buffer that its data takes (R154) -/
  bytes : Nat := 0
  deriving DecidableEq, Repr

/-- A lane of a stream (R146, R155): highest SEQ, the SEQ numbers received with their UNIT, and the SEQ of a received LAST
batt with its unit. -/
structure LaneState where
  highest : Option Nat := none
  received : List (Nat × Nat) := []
  lasts : List (Nat × Nat) := []
  deriving DecidableEq, Repr

/-- An ARMED stream behind its registers (R145 to R156, R585). -/
structure StreamState where
  lanes : Tab (Option LaneState) := []
  units : List JbUnit := []
  released : Option Nat := none
  /-- units discarded under R153 -/
  discarded : List Nat := []
  /-- rays of the previous passed unit -/
  prev : Option (Tab (Option Nat)) := none
  /-- launch times whose first batt has arrived and whose frame has not started (R380) -/
  seen : List Nat := []
  deriving DecidableEq, Repr, Inhabited

/-- A port behind its registers (R133 to R143). -/
structure PortState where
  /-- the IPv6 address in effect (R138) -/
  ip6 : Nat := 0
  /-- priorities with XOFF sent (R137) -/
  xoff : List Nat := []
  /-- priority paused by the partner until a time (R137) -/
  paused : Tab Nat := []
  /-- time of the last batt (R142) -/
  lastBatt : Nat := 0
  /-- time at which ETH_LOOP was written (spec/20_test_identity.md R548) -/
  loopAt : Nat := 0
  /-- frames that wait for the end of a pause, oldest first (R137) -/
  waiting : List Output := []
  deriving DecidableEq, Repr, Inhabited

/-- Ethernet ports and stream ingest (spec/04_ethernet_ingest.md). -/
structure IngestState where
  ports : Tab PortState := []
  streams : Tab StreamState := []
  deriving DecidableEq, Repr

/-- A frame slot (spec/05_decode.md R168, R170, R197): au the order of its access unit, cols and rows its tiles in CTBs (none:
one tile). ctus: 0 not decoded, 1 decoded, 2 concealed, 3 to be concealed. -/
structure SlotPic where
  layer : Nat := 0
  poc : Int := 0
  au : Nat := 0
  irap : Bool := false
  mark : Nat := 0
  decHeld : Bool := false
  width : Nat := 0
  height : Nat := 0
  cropX : Nat := 0
  cropY : Nat := 0
  cropW : Nat := 0
  cropH : Nat := 0
  chroma : Bool := false
  bits : Nat := 8
  ctbLog : Nat := 4
  cols : List Nat := []
  rows : List Nat := []
  ctus : Tab Nat := []
  refs : List Nat := []
  methods : Nat := 0
  /-- CTUs concealed by inter-view borrowing, temporal copy and fill -/
  iv : Nat := 0
  temporal : Nat := 0
  filled : Nat := 0
  substitute : Bool := false
  tainted : Bool := false
  hashFail : Bool := false
  /-- its decoded picture hash SEI: method and value (R163) -/
  hash : Option (Nat × List Byte) := none
  /-- syntax errors and slice segments found missing in it, for the counters (R198) -/
  syntaxErrors : Nat := 0
  lostSegments : Nat := 0
  /-- the slot that temporal copy reads for a substitute (R196) -/
  source : Option Nat := none
  /-- all of the picture has been received, or declared lost -/
  ended : Bool := false
  complete : Bool := false
  deriving DecidableEq, Repr, Inhabited

/-- A layer of a context (R162, R167, R180, R181, R186). state as DEC_LAYERSTAT.STATE. -/
structure DecLayer where
  state : Nat := 0
  concealed : Nat := 0
  isDepth : Bool := false
  deps : List Nat := []
  /-- the minimum vertical CTU offsets that vps_vui signals, by reference layer (R173) -/
  offsets : List (Nat × Nat) := []
  started : Bool := false
  skipped : Bool := false
  spsId : Nat := 0
  ppsId : Option Nat := none
  /-- an error was detected since the last segment (R183) -/
  erred : Bool := false
  /-- slot of the picture under decoder hold (R170) -/
  held : Option Nat := none
  /-- the layer's next picture is the first, or the first after an end of sequence (R164) -/
  fresh : Bool := true
  /-- RASL pictures of the layer's last IRAP picture are not output (R196) -/
  noRasl : Bool := false
  /-- syntax errors of a picture that has not been opened (R198) -/
  syntaxErrors : Nat := 0
  /-- slot of the picture being received; in tile scan, its next CTU and the first CTU of its last segment -/
  current : Option Nat := none
  nextCtu : Nat := 0
  lastAddr : Option Nat := none
  /-- the last independent segment was received (R185) -/
  indep : Bool := false
  /-- the picture in progress found no slot (R172) -/
  absent : Bool := false
  deriving DecidableEq, Repr, Inhabited

/-- An access unit in decoding (R174 to R176). -/
structure AuState where
  order : Nat
  unit : Nat
  launch : Option Nat
  /-- bytes of the unit that ingest passed, by offset -/
  data : Tab (Option Nat)
  /-- the NAL units not yet parsed, of those without a missing byte (R147, R156) -/
  nals : List (List Byte)
  /-- the layers of its VCL NAL units (R181) -/
  layers : List Nat
  arrived : Nat
  /-- parsing has begun -/
  begun : Bool := false
  vcl : Bool := false
  /-- every NAL unit has been parsed -/
  parsed : Bool := false
  /-- discarded in start-up (R180) -/
  dropped : Bool := false
  /-- it begins a coded video sequence (R187) -/
  begins : Bool := false
  firmware : Bool := true
  pics : List (Nat × Option Nat) := []
  /-- luma samples decoded, for R181 -/
  used : Nat := 0
  deriving DecidableEq, Repr

/-- A row task (R173, R174). state: 0 waiting, 1 running, 2 complete. -/
structure RowTask where
  ctx : Nat
  order : Nat
  layer : Nat
  slot : Nat
  /-- segment number within its access unit, and row number within the segment -/
  segment : Nat
  row : Nat
  first : Nat
  count : Nat
  /-- its tile, and whether it is the segment's first row in it -/
  tile : Nat
  opens : Bool
  wavefront : Bool
  dependent : Bool
  /-- slots of its segment's temporal references; slots of its reference layers with their margins in CTU rows -/
  refs : List Nat
  interLayer : List (Nat × Nat)
  state : Nat := 0
  engine : Nat := 0
  /-- engine that met a parity error in it (R177) -/
  avoid : Option Nat := none
  /-- leases held: entry and generation -/
  holds : List (Nat × Nat) := []
  /-- the stream was disarmed while the task ran: its POINT (spec/15_translation_preemption.md R461, R473); ctx is then the
  context + 4 -/
  orphan : Option Nat := none
  deriving DecidableEq, Repr

/-- A stored parameter set (R187): kind (0 VPS, 1 SPS, 2 PPS), identifier and content. -/
structure StoredSet where
  kind : Nat
  id : Nat
  content : ParamContent
  deriving DecidableEq, Repr

/-- A decode context behind its registers. -/
structure DecCtx where
  slots : Tab SlotPic := []
  layers : Tab DecLayer := []
  sets : List StoredSet := []
  vps : Option Nat := none
  aus : List AuState := []
  /-- access units since ARM (R180) -/
  count : Nat := 0
  startup : Bool := true
  /-- hardware header mode has begun since ARM (R180) -/
  switched : Bool := false
  baseSeen : Bool := false
  /-- header mode of the access unit in progress -/
  firmware : Bool := true
  segments : Nat := 0
  /-- a slice waits for a slot since this time, with its layer (R172) -/
  slotWait : Option (Nat × Nat) := none
  deriving DecidableEq, Repr, Inhabited

/-- The decode complex (spec/05_decode.md). -/
structure DecState where
  ctxs : Tab DecCtx := []
  tasks : List RowTask := []
  order : Nat := 0
  /-- engines with one parity error in the epoch (R177) -/
  struck : List Nat := []
  /-- the header parser is out of service (R182) -/
  hpOut : Bool := false
  /-- the golden-stream test runs (spec/20_test_identity.md R554) -/
  selfTest : Bool := false
  deriving DecidableEq, Repr


/-- Sizing records (spec/19_sizing_records.md): records in force, staged for a fence and for an epoch, keyed by
16 × TYPE + INSTANCE; the operation that runs (0 none, 1 STAGE, 2 WRITE) with the bytes of the set. -/
structure SizState where
  inForce : Tab (List Byte) := []
  fence : Tab (List Byte) := []
  epoch : Tab (List Byte) := []
  op : Nat := 0
  /-- the bytes that the operation copies or writes; none where the source names no legal range -/
  bytes : Option (List Byte) := none
  /-- the map record in force is offered again at the next fence (R542) -/
  offer : Bool := false
  /-- the map record in force was read at reset, before any descriptor was in force -/
  fresh : Bool := false
  /-- the staged map record has been decompressed into the inactive copy (R542) -/
  ready : Bool := false
  deriving DecidableEq, Repr


/-- A picture in coding (spec/12_confidence_encoder.md R399 to R406). -/
structure EncPicture where
  count : Nat
  idr : Bool
  /-- Q9 time of its fence in nanoseconds -/
  time : Nat
  /-- reconstruction input: 10-bit samples, Y at 3 × index, Cb and Cr at 3 × index + 1 and + 2 of the full-size picture -/
  samples : Tab Nat
  /-- complexities of the rows not yet coded -/
  rows : List Nat
  /-- row in coding -/
  row : Nat := 0
  budget : Nat
  spent : Nat := 0
  /-- budget of the row in coding (R404) -/
  rowBudget : Nat
  complexity : Nat
  /-- the rest is coded at QP 51 (R405) -/
  overBudget : Bool := false
  bytes : List Byte := []
  holds : List (Nat × Nat)
  /-- the registers in force at its start, which it uses throughout (spec/11_time_presentation.md R374) -/
  regs : Tab Word
  deriving DecidableEq, Repr

/-- A batt of the confidence stream that waits for its earliest time on its port (R407, R408). -/
structure EncBatt where
  port : Nat
  earliest : Nat
  first : Bool
  bytes : List Byte
  deriving DecidableEq, Repr

/-- The confidence encoder (spec/12_confidence_encoder.md). -/
structure EncState where
  /-- register snapshot, descriptor and map of the sample map being built (R395) -/
  building : Option (Tab Word × Tab Nat) := none
  /-- sample map in force: 3 × sample + c to 3 × pixel + subpixel -/
  map : Tab Nat := []
  /-- register snapshot of the sample map in force -/
  mapRegs : Option (Tab Word) := none
  /-- 0 no map in force; 1 the next frame that starts is the all-dirty frame of R395; 2 that frame has started; 3 it has
  flipped -/
  stage : Nat := 0
  /-- order of the all-dirty frame (R396) -/
  stageFrame : Nat := 0
  /-- link codes by 3 × sample + c -/
  shadow : Tab Nat := []
  /-- fences since the all-dirty frame flipped -/
  fences : Nat := 0
  pic : Option EncPicture := none
  count : Nat := 0
  /-- pictures coded since the last IDR -/
  sinceIdr : Nat := 0
  needIdr : Bool := true
  /-- complexities of the last 16 coded pictures of each type -/
  histIdr : List Nat := []
  histP : List Nat := []
  seq : Option Nat := none
  batts : List EncBatt := []
  deriving DecidableEq, Repr



/-- The TAP (spec/20_test_identity.md R556): the instruction in force, and what the boundary cells hold. -/
structure TapState where
  instr : TapInstr := .idcode
  boundary : List Bool := []
  deriving DecidableEq, Repr

/-- The state of the Q9. -/
structure State where
  pins : Pins := {}
  /-- reference clock since the release of RESET_N, in ns -/
  now : Nat := 0
  /-- draws of free values made so far (the model's own counter) -/
  free : Nat := 0
  /-- the register file: words that differ from their reset value, by address -/
  regs : Tab Word := []
  /-- staged writes that await their commit point (R15 to R17) -/
  staged : Tab (Option Word) := []
  /-- LO words written and not yet applied (R10, R11) -/
  heldLo : Tab (Option Word) := []
  /-- words captured by the last capturing read (R10, R579) -/
  captured : Tab Word := []
  /-- in-package memory by memory byte M (spec/14_hbm_controller.md R436) -/
  hbm : List Host.Cell := []
  /-- 32-byte memory words that read poisoned, by M ÷ 32 (R449) -/
  poison : List Nat := []
  /-- xSPI flash by byte offset (spec/02_structure_cukar.md R86) -/
  flash : List Host.Cell := []
  /-- region SRAM: region n byte b at n × 8 MiB + b (spec/02_structure_cukar.md R47) -/
  sram : List Host.Cell := []
  fuses : Fuses := {}
  evt : EvtState := {}
  struct : StructState := {}
  kcp : KcpState := {}
  card : CardState := {}
  conf : ConfState := {}
  plank : Tab (Option PlankOp) := []
  panel : PanelState := {}
  afl : AflState := {}
  links : Tab LinkUnit := []
  time : TimeState := {}
  mem : HbmState := {}
  xlat : XlatState := {}
  ingest : IngestState := {}
  dec : DecState := {}
  siz : SizState := {}
  enc : EncState := {}
  fuller : Tab (Option FulJob) := []
  mode : ModeState := {}
  tap : TapState := {}
  /-- what left the device, newest first -/
  out : List Output := []
  /-- the commands that wait, first in first out -/
  pending : List Instr := []
  deriving DecidableEq, Repr

/-- The state right after reset (spec/21_pins_startup.md R573, R574 step 1; assumption log entry 1). -/
def State.reset : State := {}

end Sys2Proof.Machine
end

