-- ==== Sys2Proof/Machine/Ops.lean ====
section
/-! DEFINITION. The named operations over registers and memories that every command uses. -/

namespace Sys2Proof.Machine

/-! ## Outcomes -/

/-- Commands other than reset and the TAP act while the Q9 runs: not in reset, its clock running, TEST_EN not sampled 1
(spec/21_pins_startup.md R568, R569, R573). -/
def live (s : State) : Bool := !s.pins.inReset && s.pins.refSys && !s.pins.testEn

/-- A command whose effect is f. -/
def whenLive (s : State) (f : State → State) : Host.Outcome State Fault Refusal :=
  .next (if live s then f s else s)

/-- What a register access or a request answers, with the state it leaves. -/
abbrev Res := Status × State

/-! ## The register file -/

/-- The value a register word has after reset (the Reset columns; a read-only table of R251 for CONF_TFLUT). -/
def regReset (a : Nat) : Word :=
  match regFind a with
  | some (d, _, _) =>
    if d.base = R.CONF_TFLUT 0 then
      let n := (a - d.base) / 4
      BitVec.ofNat 32 (bt1886Code (2 * n) + (if n < 7680 then 65536 * bt1886Code (2 * n + 1) else 0))
    else BitVec.ofNat 32 (regDescReset d)
  | none => 0

/-- The word in force of the register at a. -/
def State.word (s : State) (a : Nat) : Word := (tabFind s.regs a).getD (regReset a)

/-- The state with the word in force at a replaced. -/
def State.setWord (s : State) (a : Nat) (w : Word) : State :=
  { s with regs := if w = regReset a then tabErase s.regs a else tabInsert s.regs a w }

/-- The value of a field in force. -/
def State.get (s : State) (f : Field) : Nat := slice (s.word f.addr).toNat f.hi f.lo

/-- A one-bit field as a Bool. -/
def State.flag (s : State) (f : Field) : Bool := s.get f == 1

/-- The state with a field in force replaced by the low bits of v. -/
def State.set (s : State) (f : Field) (v : Nat) : State :=
  s.setWord f.addr (BitVec.ofNat 32 (place (s.word f.addr).toNat f.hi f.lo v))

/-- A field's value in a given word. -/
def wordField (w : Word) (f : Field) : Nat := slice w.toNat f.hi f.lo

/-- The largest value of a field. -/
def Field.max (f : Field) : Nat := 2 ^ (f.hi + 1 - f.lo) - 1

/-- A counter field increased by n, saturating (R14 and the counters of every chapter). -/
def State.bumpBy (s : State) (f : Field) (n : Nat) : State := s.set f (min f.max (s.get f + n))

/-- A counter field increased by one, saturating. -/
def State.bump (s : State) (f : Field) : State := s.bumpBy f 1

/-- The word staged for a register, when one is (R16, R17). -/
def State.stagedWord (s : State) (a : Nat) : Option Word := tabGet none s.staged a

/-- The word a commit point would take: the staged one, else the one in force. -/
def State.nextWord (s : State) (a : Nat) : Word := (s.stagedWord a).getD (s.word a)

/-- A field of the word a commit point would take. -/
def State.getNext (s : State) (f : Field) : Nat := slice (s.nextWord f.addr).toNat f.hi f.lo

/-- The state with a word staged (R17: the last write is taken). -/
def State.stage (s : State) (a : Nat) (w : Word) : State := { s with staged := tabInsert s.staged a (some w) }

/-- The state without a staged word at a. -/
def State.unstage (s : State) (a : Nat) : State := { s with staged := tabErase s.staged a }

/-- A staged word takes force (R15). -/
def State.commit (s : State) (a : Nat) : State :=
  match s.stagedWord a with
  | some w => (s.setWord a w).unstage a
  | none => s

/-- Several staged words take force in one step. -/
def State.commitAll (s : State) (as : List Nat) : State := as.foldl State.commit s

/-- Several staged words are dropped. -/
def State.unstageAll (s : State) (as : List Nat) : State := as.foldl State.unstage s

/-- Registers take their reset values, staged and in force. -/
def State.resetWords (s : State) (as : List Nat) : State :=
  as.foldl (fun s a => (s.setWord a (regReset a)).unstage a) s

/-! ## Free values and the trace of what leaves the device -/

/-- A fresh free natural. -/
def State.draw (s : State) : Nat × State := (Config.freeNat s.free, { s with free := s.free + 1 })

/-- n fresh free bytes. -/
def State.drawBytes (s : State) (n : Nat) : List Byte × State :=
  ((upto s.free n).map Config.freeByte, { s with free := s.free + n })

/-- n fresh bytes from the random source of the security controller. -/
def State.drawRandom (s : State) (n : Nat) : List Byte × State :=
  ((upto s.free n).map (fun i => BitVec.ofNat 8 (Config.random i)), { s with free := s.free + n })

/-- The trace with one output more. -/
def State.emit (s : State) (o : Output) : State := { s with out := o :: s.out }

/-! ## Memories -/

/-- What an unlisted byte of in-package memory or SRAM reads as (assumption log entry 2). -/
def ramBlank : Byte := 0

/-- What an unlisted byte of flash reads as: erased (assumption log entry 4). -/
def flashBlank : Byte := 0xFF

/-- One byte of a memory. -/
def cellGet (d : Byte) (m : List Host.Cell) (a : Nat) : Byte := tabGet d m a

/-- A memory with one byte written. -/
def cellPut (d : Byte) (m : List Host.Cell) (a : Nat) (v : Byte) : List Host.Cell := tabPut d m a v

/-- n bytes of a memory from a. -/
def cellRead (d : Byte) (m : List Host.Cell) (a n : Nat) : List Byte := (upto a n).map (cellGet d m)

/-- The cells of consecutive bytes from a, without those that read as unlisted bytes. -/
def cellRun (d : Byte) (a : Nat) : List Byte → List Host.Cell
  | [] => []
  | b :: t => if b = d then cellRun d (a + 1) t else (a, b) :: cellRun d (a + 1) t

/-- A memory with consecutive bytes written from a. -/
def cellWrite (d : Byte) (m : List Host.Cell) (a : Nat) (bs : List Byte) : List Host.Cell :=
  m.filter (fun e => decide (e.1 < a)) ++ cellRun d a bs ++ m.filter (fun e => decide (a + bs.length ≤ e.1))

/-- A memory with n bytes from a back at what unlisted bytes read as. -/
def cellClear (m : List Host.Cell) (a n : Nat) : List Host.Cell :=
  m.filter (fun e => decide (e.1 < a) || decide (a + n ≤ e.1))

/-- The canonical form of a memory: addresses strictly rising, nothing listed that reads as an unlisted byte. -/
def Memory.wf (d : Byte) (m : List Host.Cell) : Bool := tabWf (fun _ => d) m

/-- Every memory of a state is in canonical form. -/
def State.memWf (s : State) : Bool := Memory.wf ramBlank s.hbm && Memory.wf flashBlank s.flash && Memory.wf ramBlank s.sram

/-- n bytes of in-package memory from memory byte M. -/
def State.hbmRead (s : State) (a n : Nat) : List Byte := cellRead ramBlank s.hbm a n

/-- Whether any 32-byte word of a range is poisoned (R449). -/
def State.hbmPoisoned (s : State) (a n : Nat) : Bool :=
  s.poison.any (fun w => decide (32 * w < a + n) && decide (a < 32 * w + 32))

/-- In-package memory with bytes written from M; a word that is written is poisoned no longer (R449). -/
def State.hbmWrite (s : State) (a : Nat) (bs : List Byte) : State :=
  { s with
    hbm := cellWrite ramBlank s.hbm a bs
    poison := if bs.isEmpty then s.poison else s.poison.filter (fun w => decide (w < a / 32) || decide ((a + bs.length - 1) / 32 < w)) }

/-- A memory word becomes poisoned (R449). -/
def State.poisonWord (s : State) (w : Nat) : State := { s with poison := setInsert w s.poison }

/-- n bytes of flash; an absent flash reads as erased (spec/21_pins_startup.md R571). -/
def State.flashRead (s : State) (a n : Nat) : List Byte :=
  if s.pins.flashAbsent then List.replicate n flashBlank else cellRead flashBlank s.flash a n

/-- Flash programmed from a. -/
def State.flashWrite (s : State) (a : Nat) (bs : List Byte) : State :=
  if s.pins.flashAbsent then s else { s with flash := cellWrite flashBlank s.flash a bs }

/-- The sectors of n bytes from a erased. -/
def State.flashErase (s : State) (a n : Nat) : State :=
  if s.pins.flashAbsent then s else { s with flash := cellClear s.flash a n }

/-- n bytes of region SRAM, region r offset b at r × 8 MiB + b. -/
def State.sramRead (s : State) (a n : Nat) : List Byte := cellRead ramBlank s.sram a n

/-- Region SRAM written from a. -/
def State.sramWrite (s : State) (a : Nat) (bs : List Byte) : State :=
  { s with sram := cellWrite ramBlank s.sram a bs }

/-! ## Pools of the image in force (spec/02_structure_cukar.md R76) -/

/-- The pools in force. -/
def State.pools (s : State) : List PoolRec :=
  match s.struct.image with
  | some i => i.pools
  | none => []

/-- The pool with an ID. -/
def State.pool (s : State) (id : Nat) : Option PoolRec := s.pools.find? (fun p => p.id == id)

/-- The bytes of a pool. -/
def poolBytes (p : PoolRec) : Nat := 2097152 * p.size

/-- The memory byte of a pool's first byte (spec/14_hbm_controller.md R436). -/
def poolBase (p : PoolRec) : Nat := 2097152 * p.base

/-- The pool of a KIND with the lowest ID. -/
def State.lowestPool (s : State) (kind : Nat) : Option PoolRec :=
  (s.pools.filter (fun p => p.kind == kind)).foldl
    (fun best p => match best with
      | none => some p
      | some b => if p.id < b.id then some p else some b) none

/-- n bytes of a pool from an offset. -/
def State.poolRead (s : State) (p : PoolRec) (off n : Nat) : List Byte := s.hbmRead (poolBase p + off) n

/-- A pool written from an offset. -/
def State.poolWrite (s : State) (p : PoolRec) (off : Nat) (bs : List Byte) : State := s.hbmWrite (poolBase p + off) bs

/-! ## Modes (spec/18_modes_power_thermal.md R512) -/

/-- CHIP_MODE.MODE. -/
def State.modeNow (s : State) : Nat := s.get F.CHIP_MODE_MODE

/-- The display modes of R512: LIVE, SCHEDULED, RAW_RAY, TILE_MEMBER, RECOVERY. -/
def displayMode (m : Nat) : Bool := m == 0x6 || m == 0x7 || m == 0x8 || m == 0x9 || m == 0xD

/-- BOOT, CONFIGURE, STANDBY and SAFE. -/
def quietMode (m : Nat) : Bool := m == 0x1 || m == 0x2 || m == 0x3 || m == 0xC

/-- The mode whose rules apply: in THROTTLED the base mode (R529). -/
def State.ruleMode (s : State) : Nat := if s.modeNow = 0xB then s.get F.CHIP_MODE_BASE else s.modeNow

/-! ## The geometry in force -/

/-- The 64 bytes of the descriptor in force (spec/01_ray_space.md R40). -/
def State.geomBytes (s : State) : List Byte := (upto 0 16).flatMap (fun n => leBytes (s.word (R.GEOM_W n)).toNat 4)

/-- The descriptor in force. -/
def State.geom (s : State) : Geom := geomOfBytes s.geomBytes

/-- Whether a descriptor is in force (R580). -/
def State.hasGeom (s : State) : Bool := s.get F.CHIP_EPOCH_EPOCH != 0

/-! ## Q9 time (spec/11_time_presentation.md R359) -/

/-- Q9 time in whole nanoseconds. -/
def State.q9 (s : State) : Nat := s.time.q / 2 ^ 48

/-- SECONDS of Q9 time. -/
def State.seconds (s : State) : Nat := s.q9 / 1000000000 % 2 ^ 64

/-- NS of Q9 time. -/
def State.nanos (s : State) : Nat := s.q9 % 1000000000

/-- FRAC of Q9 time in 2^-32 ns. -/
def State.frac (s : State) : Nat := s.time.q % 2 ^ 48 / 2 ^ 16

/-! ## Path objects (spec/03_control_kcp.md R118) -/

/-- The key of a path object: KIND and ID. -/
def pathKey (kind id : Nat) : Nat := kind * 256 + id

/-- A path object. -/
def State.path (s : State) (kind id : Nat) : PathObj := tabGet {} s.kcp.paths (pathKey kind id)

/-- The state with a path object replaced. -/
def State.setPath (s : State) (kind id : Nat) (p : PathObj) : State :=
  { s with kcp := { s.kcp with paths := tabPut {} s.kcp.paths (pathKey kind id) p } }

/-- Whether an object is ARMED. -/
def State.armed (s : State) (kind id : Nat) : Bool := (s.path kind id).state == 3

/-- The IDs of a kind. -/
def pathIds (kind : Nat) : List Nat :=
  if kind = 1 ∨ kind = 2 then upto 0 64 else if kind = 3 then upto 0 16 else if kind = 4 ∨ kind = 5 then [0] else []

/-- The ARMED objects of a kind. -/
def State.armedIds (s : State) (kind : Nat) : List Nat := (pathIds kind).filter (s.armed kind)

/-- A register word of an object's binding as BIND took it. -/
def State.bindWord (s : State) (kind id a : Nat) : Nat := ((tabGet none (s.path kind id).binding a).getD (s.word a)).toNat

/-- A field of an object's binding. -/
def State.bindField (s : State) (kind id : Nat) (f : Field) : Nat := slice (s.bindWord kind id f.addr) f.hi f.lo

/-! ## Ports in loopback -/

/-- A port takes no frame from the wire: ETH_LOOP modes 0x1 to 0x3 (spec/20_test_identity.md R547). -/
def State.portDeaf (s : State) (n : Nat) : Bool := 1 ≤ s.get (F.ETH_LOOP_MODE n) && s.get (F.ETH_LOOP_MODE n) ≤ 3

/-- What a frame on a port does, where the port takes frames from the wire. -/
def heard (n : Nat) (f : State → State) (s : State) : State := if s.portDeaf n then s else f s

/-! ## Fuller engines -/

/-- A host job runs on fuller engine n. -/
def State.fullerRuns (s : State) (n : Nat) : Bool :=
  match tabGet none s.fuller (4 * n + 3) with
  | some j => j.state == 2
  | none => false

/-- The engine that an internal fuller job takes: the first without a running host job, FULL1 where both run one. -/
def State.internalEngine (s : State) : Nat := bit (s.fullerRuns 0)

/-- The job of the highest class gives way at its next block when a job of a lower class number needs an engine and none is
idle: host jobs on both engines, FULL1 at a tie (spec/15_translation_preemption.md R468). -/
def yieldFuller (s : State) : State :=
  if s.fullerRuns 0 && s.fullerRuns 1 then
    match tabGet none s.fuller 7 with
    | some j => { s with fuller := tabInsert s.fuller 7 (some { j with yield := true }) }
    | none => s
  else s

/-! ## Register requests -/

/-- The privilege of a requester (spec/03_control_kcp.md R103): firmware has every right; a session that of its slot. -/
def State.privilege (s : State) (who : Requester) : Nat :=
  match who with
  | .firmware => 3
  | .session n => s.get (F.KCP_SESS_PRIV n.val)

/-- The privilege that a write of a register needs: ADMIN for CHIP offsets 0x14 to 0x5F, else OPERATE (R103). -/
def writePrivilege (addr : Nat) : Nat := if 0x14 ≤ addr ∧ addr ≤ 0x5F then 3 else 2

/-- In BOOT a session's write is answered with MODE (spec/21_pins_startup.md R575). -/
def State.bootRefuses (s : State) (who : Requester) : Bool := who != .firmware && s.modeNow == 0x1

/-- The status and effect of a write whose effect is f: the mode and the requester's privilege are checked first. -/
def permit (who : Requester) (addr : Nat) (f : State → Res) (s : State) : Res :=
  if s.bootRefuses who then (.mode, s) else if s.privilege who < writePrivilege addr then (.privilege, s) else f s

/-- A write request of a requester at an address whose effect is f: its status is answered. -/
def request (who : Requester) (addr : Nat) (f : State → Res) (s : State) : State :=
  (permit who addr f s).2.emit (.status who addr (permit who addr f s).1)

/-- A write that answers OK with the effect f. -/
def okay (s : State) : Res := (.ok, s)

/-- A refused write changes nothing. -/
def refuse (st : Status) (s : State) : Res := (st, s)

/-- A write to a staged register: the batch shadow takes it during a batch, else the staged copy (R16, R17, R116). -/
def State.stageWrite (s : State) (a : Nat) (w : Word) : State :=
  match s.kcp.shadow with
  | some l => { s with kcp := { s.kcp with shadow := some (l ++ [(a, w)]) } }
  | none => s.stage a w

/-- The word a masked write takes as old (R115): of the batch shadow, else staged, else in force. -/
def State.oldWord (s : State) (a : Nat) : Word :=
  match (s.kcp.shadow.getD []).reverse.find? (fun e => e.1 == a) with
  | some e => e.2
  | none => s.nextWord a

/-- No stream, layer, overlay or presentation queue is ARMED (spec/01_ray_space.md R39). -/
def State.nothingArmed (s : State) : Bool :=
  [1, 2, 3, 4].all (fun k => (s.armedIds k).isEmpty)

end Sys2Proof.Machine
end

