-- ==== Sys2Proof/Machine/Flags.lean ====
section
/-! DEFINITION. Event flags: pending, active and count bits of the sources, hold-off windows, and the reports to the
error-log writer (spec/17_events_errors.md R491 to R511). -/

namespace Sys2Proof.Machine

/-- The level sources of R492 and spec/18_modes_power_thermal.md R534. -/
def isLevel (src : Nat) : Bool :=
  src == 16 || src == 17 || src == 23 || src == 25 || src == 961 || src == 962 || decide (1008 ≤ src ∧ src ≤ 1023)

/-- The sources that some chapter defines; the others are reserved (R491 and the event table of each chapter). -/
def sourceDefined (src : Nat) : Bool :=
  let inR := fun (a b : Nat) => decide (a ≤ src ∧ src ≤ b)
  inR 0 6 || inR 16 25 || (inR 64 127 && decide ((src - 64) % 16 ≤ 10)) || inR 128 133 || inR 144 147 ||
  inR 192 216 || (inR 320 575 && decide ((src - 320) % 16 ≤ 11)) || inR 576 583 || inR 608 614 ||
  (inR 640 671 && ((inR 640 643) || inR 656 659 || src == 648)) ||
  (inR 672 687 && decide ((src - 672) % 8 ≤ 3)) || inR 688 707 ||
  (inR 768 831 && (inR 768 771 || inR 772 795)) || inR 832 835 || inR 864 927 || inR 928 932 ||
  inR 960 962 || inR 968 970 || inR 992 1023

/-- EVT_LEVELn (R492). -/
def levelWord (w : Nat) : Word :=
  BitVec.ofNat 32 ((upto 0 32).foldl (fun acc i => if isLevel (32 * w + i) then acc + 2 ^ i else acc) 0)

/-- The bit of source src in pending-style word registers that start at base (R491). -/
def sourceField (base : Nat → Nat) (src : Nat) : Field := ⟨base (src / 32), src % 32, src % 32⟩

/-- PENDING of a source: the EVT_PEND bit of an edge source, the condition of a level source (R493). -/
def State.isPending (s : State) (src : Nat) : Bool :=
  if isLevel src then s.evt.cond.contains src else s.flag (sourceField R.EVT_PEND src)

/-- ACTIVE of a source. -/
def State.isActive (s : State) (src : Nat) : Bool := s.flag (sourceField R.EVT_ACTIVE src)

/-- ENABLE of a source. -/
def State.isEnabled (s : State) (src : Nat) : Bool := s.flag (sourceField R.EVT_EN src)

/-- The TARGETS of a source's group. -/
def State.targetsOf (s : State) (src : Nat) : Nat := s.get (F.EVT_GRP_TARGETS (src / 16))

/-- Visibility but for the target (R495). -/
def State.presentable (s : State) (src : Nat) : Bool :=
  s.isPending src && s.isEnabled src && !s.evt.held.contains src && !(isLevel src && s.isActive src)

/-- Source src is visible to target t (R495). -/
def State.visibleTo (s : State) (src t : Nat) : Bool := s.presentable src && (s.targetsOf src).testBit t

/-- Source src is visible to some target. -/
def State.visible (s : State) (src : Nat) : Bool := s.presentable src && s.targetsOf src != 0

/-- The sources visible to a target. -/
def State.visibleSet (s : State) (t : Nat) : List Nat := (upto 0 1024).filter (fun src => s.visibleTo src t)

/-- Target t is asserted (R495). -/
def State.asserted (s : State) (t : Nat) : Bool := (upto 0 1024).any (fun src => s.visibleTo src t)

/-- Source src is visible to a target to which it was not visible in the state before (R501 step 1). -/
def newlyVisible (before s : State) (src : Nat) : Bool :=
  (upto 0 8).any (fun t => s.visibleTo src t && !before.visibleTo src t)

/-- A window of src's group starts, when none runs and HOLDOFF is not 0 (R501 step 1). -/
def startWindow (src : Nat) (s : State) : State :=
  let g := src / 16
  let h := s.get (F.EVT_GRP_HOLDOFF g)
  if h ≠ 0 ∧ tabGet none s.evt.window g = none then
    let snap := (upto (16 * g) 16).filter s.isPending
    let s := { s with evt := { s.evt with
      window := tabPut none s.evt.window g (some (s.now + 1000 * h))
      snap := s.evt.snap.filter (fun x => x / 16 != g) ++ snap } }
    s.set (F.EVT_GRP_HELD g) 1
  else s

/-- Windows that start because sources of a list became visible (R501 step 1). -/
def startNewWindows (before : State) (srcs : List Nat) (s : State) : State :=
  srcs.foldl (fun s src => if newlyVisible before s src then startWindow src s else s) s

/-- A source whose PENDING is set during a window and was 0 when the window began is held (R501 step 2). -/
def holdSource (src : Nat) (s : State) : State :=
  if (tabGet none s.evt.window (src / 16)).isSome ∧ ¬ s.evt.snap.contains src then
    { s with evt := { s.evt with held := setInsert src s.evt.held } }
  else s

/-- COUNT of a source increases, saturating at 255 (R493). -/
def countSource (src : Nat) (s : State) : State := s.bump (F.EVT_CNT_COUNT (src / 4) (src % 4))

/-! ## The error log -/

/-- The loss class of a source (R509). -/
def lossClass (src : Nat) : Nat :=
  if src < 64 then 0
  else if src < 192 ∨ (768 ≤ src ∧ src < 832) then 1
  else if src < 320 ∨ (832 ≤ src ∧ src < 864) then 2
  else if src < 640 then 3
  else if src < 688 then 4
  else if src < 768 then 5
  else if src < 960 then 6
  else 7

/-- An arrival at an edge source, or the rise of a level condition: PENDING, COUNT, hold-off (R493, R501). -/
def arrive (src : Nat) (s : State) : State :=
  let t := if isLevel src then { s with evt := { s.evt with cond := setInsert src s.evt.cond } }
    else s.set (sourceField R.EVT_PEND src) 1
  startNewWindows s [src] (holdSource src (countSource src t))

/-- At most one raise of a source per ms (R509, R448, R475): whether it may be raised now. -/
def State.msQuiet (s : State) (src : Nat) : Bool :=
  match tabGet none s.evt.lastRaise src with
  | none => true
  | some t => decide (s.now ≥ t + 1000000)

/-- The time of a raise is remembered for msQuiet. -/
def noteRaise (src : Nat) (s : State) : State :=
  { s with evt := { s.evt with lastRaise := tabPut none s.evt.lastRaise src (some s.now) } }

/-- n reports of a source are lost: its class counter and LOG_DROP at most once per ms (R509). -/
def logDrop (src n : Nat) (s : State) : State :=
  let c := lossClass src
  let s := s.bumpBy (if c % 2 = 0 then F.ERRLOG_DROP_DROP_LO (c / 2) else F.ERRLOG_DROP_DROP_HI (c / 2)) n
  if s.msQuiet 960 then noteRaise 960 (arrive 960 s) else s

/-- Whether a report merges into a queued entry (R507). -/
def mergesWith (src code now : Nat) (e : LogEntry) : Bool :=
  e.source == src && e.code == code && decide (now ≤ e.at_ + 1000)

/-- The first queued entry that a report merges into takes it (R507). -/
def mergeReport (src code detail now : Nat) : List LogEntry → List LogEntry
  | [] => []
  | e :: t =>
    if mergesWith src code now e then
      { e with
        repeat_ := min 0xFFFF (e.repeat_ + 1)
        eflags := if detail = e.detail then e.eflags else 1 } :: t
    else e :: mergeReport src code detail now t

/-- Entries wait in order of TIME, equal times in ascending SOURCE (R507). -/
def insertEntry (e : LogEntry) : List LogEntry → List LogEntry
  | [] => [e]
  | f :: t => if f.at_ < e.at_ ∨ (f.at_ = e.at_ ∧ f.source ≤ e.source) then f :: insertEntry e t else e :: f :: t

/-- A report to the error-log writer (R505, R507, R509). -/
def report (src code detail : Nat) (s : State) : State :=
  if ¬ s.flag (F.EVT_GRP_LOG (src / 16)) ∨ (960 ≤ src ∧ src ≤ 967) then s
  else if s.evt.queue.any (mergesWith src code s.now) then
    ({ s with evt := { s.evt with queue := mergeReport src code detail s.now s.evt.queue } }).bump F.ERRLOG_MERGED_COUNT
  else if s.evt.queue.length ≥ 64 then logDrop src 1 s
  else
    let e : LogEntry := ⟨src, code, detail, s.now, s.seconds, s.nanos, 0, 0⟩
    let q := insertEntry e s.evt.queue
    ({ s with evt := { s.evt with queue := q } }).set F.ERRLOG_STATUS_QUEUED q.length

/-- To raise a source with a report code and detail (R492, R493, R505). -/
def raiseWith (src code detail : Nat) (s : State) : State := report src code detail (arrive src s)

/-- To raise a source. -/
def raise (src : Nat) (s : State) : State := raiseWith src 0 0 s

/-- To raise a source at most once per ms. -/
def raiseQuiet (src code detail : Nat) (s : State) : State :=
  if s.msQuiet src then noteRaise src (raiseWith src code detail s) else s

/-- To raise a source at most once per ms, and report every time (spec/15_translation_preemption.md R475). -/
def raisePerMs (src code detail : Nat) (s : State) : State :=
  if s.msQuiet src then noteRaise src (raiseWith src code detail s) else report src code detail s

/-- A level source's condition: its rise is a raise, its fall clears PENDING (R492, R493). -/
def setCond (src : Nat) (on : Bool) (s : State) : State :=
  if on then (if s.evt.cond.contains src then s else raise src s)
  else { s with evt := { s.evt with cond := setErase src s.evt.cond, held := setErase src s.evt.held } }

/-- FILL of the ring and its level sources follow ERRLOG_WR and ERRLOG_RD (R508, R511). -/
def logLevels (s : State) : State :=
  let fill := ((s.word R.ERRLOG_WR).toNat + 2 ^ 32 - (s.word R.ERRLOG_RD).toNat) % 2 ^ 32
  let full := fill == 4096
  let s := (s.set F.ERRLOG_STATUS_FILL fill).set F.ERRLOG_STATUS_FULL (bit full)
  setCond 962 (decide (fill ≥ s.get F.ERRLOG_CFG_WMARK)) (setCond 961 full s)

end Sys2Proof.Machine
end

