-- ==== Sys2Proof/Machine/Work.lean ====
section
/-! DEFINITION. Ray-block roles and work queues, and the owners of staged registers (spec/02_structure_cukar.md R51, R58
to R60; spec/03_control_kcp.md R118, R121). -/

namespace Sys2Proof.Machine

/-! ## Roles and blocks -/

/-- ROLE of block k in force (R58). -/
def State.role (s : State) (k : Nat) : Nat := s.get (F.RB_ROLE_ROLE (k / 8) (k % 8))

/-- ROLE of block k replaced. -/
def State.setRole (s : State) (k r : Nat) : State := s.set (F.RB_ROLE_ROLE (k / 8) (k % 8)) r

/-- STATE of block k in RG_BLKSTATE. -/
def State.blockState (s : State) (k : Nat) : Nat := s.get (F.RG_BLKSTATE_STATE (k / 4) (k % 4))

/-- STATE of block k replaced. -/
def State.setBlockState (s : State) (k v : Nat) : State := s.set (F.RG_BLKSTATE_STATE (k / 4) (k % 4)) v

/-- The working blocks of a role (R60). -/
def State.workers (s : State) (role : Nat) : List Nat :=
  (upto 0 64).filter (fun k => s.role k == role && s.blockState k == 1)

/-- The scheduler of block k. -/
def State.block (s : State) (k : Nat) : BlockState := tabGet {} s.struct.blocks k

/-- The scheduler of block k replaced. -/
def State.setBlock (s : State) (k : Nat) (b : BlockState) : State :=
  { s with struct := { s.struct with blocks := tabPut {} s.struct.blocks k b } }



/-- Work items that fail a test leave every queue and every cell. -/
def dropWork (keep : WorkItem → Bool) (s : State) : State :=
  let f := fun (b : BlockState) =>
    { b with
      queue := b.queue.filter (fun q => keep q.item)
      cells := b.cells.map (fun e => (e.1, match e.2.item with
        | some q => if keep q.item then e.2 else { e.2 with item := none, replaying := false }
        | none => e.2)) }
  { s with struct := { s.struct with blocks := s.struct.blocks.map (fun e => (e.1, f e.2)) } }

/-- The work item that a cell of block k runs. -/
def State.cellItem (s : State) (k c : Nat) : Option QueuedItem := (tabGet {} (s.block k).cells c).item

/-- A cell of block k becomes idle. -/
def clearCell (k c : Nat) (s : State) : State :=
  let b := s.block k
  s.setBlock k { b with cells := tabModify {} b.cells c (fun x => { x with item := none, replaying := false }) }

/-- Source of region n at an offset of R97. -/
def regionSource (n off : Nat) : Nat := 320 + 16 * n + off

/-- The contract of CK-STD kernels holds (R234, R267). -/
def State.ckStd (s : State) : Bool := slice (s.word R.CARD_KSET).toNat 31 16 == 0x4353

/-! ## Layers and streams -/

/-- A field of a given word of a register snapshot. -/
def snapField (regs : Tab Word) (f : Field) : Nat :=
  slice ((tabFind regs f.addr).getD (regReset f.addr)).toNat f.hi f.lo

/-- A register word of a snapshot. -/
def snapWord (regs : Tab Word) (a : Nat) : Nat := ((tabFind regs a).getD (regReset a)).toNat

/-- The stream that an ARMED or BOUND layer's binding names. -/
def State.layerStream (s : State) (l : Nat) : Nat := s.bindField 2 l (F.CARD_LYR_SRC_STREAM_ID l)

/-- KV_COUNT of a layer's binding (R207). -/
def State.layerViews (s : State) (l : Nat) : Nat := slice (s.bindWord 2 l (R.CARD_KVD l 0)) 23 16

/-- KIND of a stream's binding. -/
def State.streamKind (s : State) (st : Nat) : Nat := s.bindField 1 st (F.STRM_CFG_KIND st)

/-- PORTS of a stream's binding. -/
def State.streamPorts (s : State) (st : Nat) : Nat := s.bindField 1 st (F.STRM_CFG_PORTS st)

/-- The stream state. -/
def State.stream (s : State) (st : Nat) : StreamState := tabGet {} s.ingest.streams st

/-- The stream state replaced. -/
def State.setStream (s : State) (st : Nat) (x : StreamState) : State :=
  { s with ingest := { s.ingest with streams := tabPut {} s.ingest.streams st x } }

/-- The lowest set bit of a mask of n bits; n where none is set. -/
def lowestBit (mask n : Nat) : Nat := ((upto 0 n).find? (fun i => mask.testBit i)).getD n

/-- A port's transmission of a priority is paused by its partner (spec/04_ethernet_ingest.md R137). -/
def State.portPaused (s : State) (port priority : Nat) : Bool :=
  (s.get (F.ETH_CFG_PFC_EN port)).testBit priority && decide (s.now < tabGet 0 (tabGet {} s.ingest.ports port).paused priority)

/-- A port behind its registers. -/
def State.port (s : State) (n : Nat) : PortState := tabGet {} s.ingest.ports n

/-- A port replaced. -/
def State.setPort (s : State) (n : Nat) (p : PortState) : State :=
  { s with ingest := { s.ingest with ports := tabPut {} s.ingest.ports n p } }

/-- The tag control information of the 802.1Q tag that frames from port n carry, none where it sends them untagged
(spec/04_ethernet_ingest.md R136): PCP in bits 15 to 13, VID in bits 11 to 0. -/
def State.vlanTag (s : State) (n : Nat) : Option Nat :=
  if s.get (F.ETH_CFG_VLAN n) = 1 then some (s.get (F.ETH_CFG_PCP n) * 2 ^ 13 + s.get (F.ETH_CFG_VID n)) else none

/-- A frame from port n with its tag after the two MAC addresses (R136). -/
def State.tagged (s : State) (n : Nat) (frame : List Byte) : List Byte :=
  match s.vlanTag n with
  | some tci => frame.take 12 ++ [0x81, 0x00] ++ beBytes tci 2 ++ frame.drop 12
  | none => frame

/-- Port n sends a frame with priority PCP (R136), or keeps it while its partner pauses that priority (R137). -/
def sendOn (n : Nat) (o : Output) (s : State) : State :=
  if (s.port n).waiting.isEmpty && !s.portPaused n (s.get (F.ETH_CFG_PCP n)) then s.emit o
  else s.setPort n { s.port n with waiting := (s.port n).waiting ++ [o] }

/-- The frames that waited on port n leave in order once their priority is no longer paused (R137). -/
def flushPort (n : Nat) (s : State) : State :=
  if (s.port n).waiting.isEmpty || s.portPaused n (s.get (F.ETH_CFG_PCP n)) then s
  else { s.setPort n { s.port n with waiting := [] } with out := (s.port n).waiting.reverse ++ s.out }

/-- The link-local address of a MAC address: fe80::/64 with its modified EUI-64 identifier (R138). -/
def linkLocal (mac : Nat) : Nat :=
  let hi := mac / 2 ^ 24
  let flipped := if hi / 2 ^ 17 % 2 = 1 then hi - 2 ^ 17 else hi + 2 ^ 17
  0xFE80 * 2 ^ 112 + flipped * 2 ^ 40 + 0xFFFE * 2 ^ 24 + mac % 2 ^ 24

/-- The MAC address of a port. -/
def State.mac (s : State) (n : Nat) : Nat := tabGet 0 s.fuses.macs n

/-- An IPv4 address is the port's. -/
def State.hasIp4 (s : State) (n ip : Nat) : Bool := ip != 0 && (s.word (R.ETH_IP4 n)).toNat == ip

/-- An IPv6 address is the port's. -/
def State.hasIp6 (s : State) (n ip : Nat) : Bool :=
  ip == linkLocal (s.mac n) || (ip != 0 && (s.port n).ip6 == ip)

/-- An address is one of the port's (R138). -/
def State.hasIp (s : State) (n : Nat) : IpAddr → Bool
  | .v4 a => s.hasIp4 n a
  | .v6 a => s.hasIp6 n a

/-- The event source of a stream at an offset of spec/04_ethernet_ingest.md R158: that of the lowest-numbered port of its
PORTS mask. -/
def State.streamSource (s : State) (st off : Nat) : Nat := 64 + 16 * lowestBit (s.streamPorts st) 4 + off

/-! ## Links -/

/-- Link n behind its registers: 0 the panel link, k + 1 Afloth link k. -/
def State.link (s : State) (n : Nat) : LinkUnit := tabGet {} s.links n

/-- A link replaced. -/
def State.setLink (s : State) (n : Nat) (u : LinkUnit) : State := { s with links := tabPut {} s.links n u }

/-- A push, frame or TRAIN burst has ended on the receive lanes of link n: equaliser adaptation resumes
(spec/09_serial_lanes.md R305). -/
def linkHeard (n : Nat) (s : State) : State :=
  let u := s.link n
  s.setLink n { u with lastHeard := s.now, lanes := u.lanes.map (fun e => (e.1, { e.2 with frozen := false })) }

/-- A push, frame or TRAIN burst of link n has been sent (spec/09_serial_lanes.md R306). -/
def linkSent (n : Nat) (s : State) : State := s.setLink n { s.link n with lastBusy := s.now }

/-! ## The objects that staged registers belong to -/

/-- The object (KIND, ID) that a staged register belongs to (R118); the registers of a decode context belong to the
stream that the staged DEC_CTX_CFG names (spec/05_decode.md R166). -/
def State.ownerOf (s : State) (a : Nat) : Option (Nat × Nat) :=
  if 0x108000 ≤ a ∧ a < 0x108800 then some (1, (a - 0x108000) / 0x20)
  else if 0x200100 ≤ a ∧ a < 0x200200 then
    some (1, s.getNext (F.DEC_CTX_CFG_STREAM_ID ((a - 0x200100) / 0x40)))
  else if 0x300000 ≤ a ∧ a < 0x301000 then some (2, (a - 0x300000) / 0x40)
  else if 0x301000 ≤ a ∧ a < 0x309000 then some (2, (a - 0x301000) / 0x200)
  else if 0x309000 ≤ a ∧ a < 0x309100 then some (3, (a - 0x309000) / 0x10)
  else if 0x508000 ≤ a ∧ a < 0x508200 then some (3, (a - 0x508000) / 0x20)
  else if a = R.PQ_CFG ∨ a = R.PQ_PIPE then some (4, 0)
  else if 0x780000 ≤ a ∧ a < 0x790000 then some (5, 0)
  else none

end Sys2Proof.Machine
end

