-- ==== Sys2Proof/Machine/Network.lean ====
section
/-! DEFINITION. The on-chip network: region routers, virtual channels and their weighted round-robin arbiters
(spec/02_structure_cukar.md R54, R56, R72, R73). What a transfer carries takes effect with the command that makes it; the
arbiters decide in which order transfers leave the network, one grant a step of the idle clock (assumption log, network). -/

namespace Sys2Proof.Machine

/-- The endpoint code of control-core and register traffic, which R73 gives none: a code outside its table. -/
def controlEndpoint : Nat := 0x40

/-- SHARE of the route from src to dst, 1 where the image gives none (R54, R72). -/
def State.routeShare (s : State) (src dst : Nat) : Nat :=
  match s.struct.image with
  | some i => ((i.routes.find? (fun r => r.src == src && r.dst == dst)).map (fun r => r.share)).getD 1
  | none => 1

/-- VC of the route from src to dst, 1 where the image gives none. -/
def State.routeVc (s : State) (src dst : Nat) : Nat :=
  match s.struct.image with
  | some i => ((i.routes.find? (fun r => r.src == src && r.dst == dst)).map (fun r => r.vc)).getD 1
  | none => 1

/-- The endpoint of the memory stack that holds a pool (R73, R76). -/
def stackEndpoint (p : PoolRec) : Nat := if p.base < 12288 then 0x24 else 0x25

/-- The network of a state replaced. -/
def State.withNet (s : State) (n : NetState) : State := { s with struct := { s.struct with net := n } }

/-- A transfer enters the network: at the router of its region where a ray block sends it, else towards its destination. -/
def carry (t : Transfer) (s : State) : State :=
  let n := s.struct.net
  s.withNet (if t.block.isSome then { n with routers := n.routers ++ [t] } else { n with waiting := n.waiting ++ [t] })

/-- Ray block k sends to an endpoint on the channel of its region's route. -/
def carryFrom (k dst : Nat) (s : State) : State := carry ⟨k / 4, dst, s.routeVc (k / 4) dst, some k⟩ s

/-- Control-core or register traffic to an endpoint, on VC0 (R56). -/
def carryControl (dst : Nat) (s : State) : State := carry ⟨controlEndpoint, dst, 0, none⟩ s

/-- The requester that a weighted round-robin arbiter grants, and the arbiter after it: the one served last while it waits
and has grants left of its weight, else the next that waits in rotating order. Requesters are numbered below 256. -/
def wrrPick (waits : Nat → Bool) (weight : Nat → Nat) (a : Arbiter) : Option (Nat × Arbiter) :=
  if a.credit ≠ 0 ∧ waits a.last then some (a.last, { a with credit := a.credit - 1 })
  else (((upto (a.last + 1) 256).map (· % 256)).find? waits).map (fun r => (r, ⟨r, weight r - 1⟩))

/-- The first transfer of a list that p holds of is taken out. -/
def takeTransfer (p : Transfer → Bool) : List Transfer → Option (Transfer × List Transfer)
  | [] => none
  | t :: l => if p t then some (t, l) else (takeTransfer p l).map (fun r => (r.1, t :: r.2))

/-- The requester of region router n that a transfer waits for: local block 0 to 3, or 4, the chip network port (R54). -/
def routerPort (n : Nat) (t : Transfer) : Option Nat :=
  match t.block with
  | some k => if t.src = n then some (k % 4) else none
  | none => if t.dst = n then some 4 else none

/-- Region router n grants one transfer: one of its blocks' goes on towards its destination, one from the network port has
arrived (R54). -/
def routerServe (n : Nat) (s : State) : State :=
  let net := s.struct.net
  let at_ := fun r t => routerPort n t == some r
  match wrrPick (fun r => net.routers.any (at_ r))
      (fun r => ((net.routers.find? (at_ r)).map (fun t => s.routeShare t.src t.dst)).getD 1) (tabGet {} net.regions n) with
  | none => s
  | some (r, a) =>
    match takeTransfer (at_ r) net.routers with
    | none => s
    | some (t, rest) => s.withNet { net with
        routers := rest
        waiting := if t.block.isSome then net.waiting ++ [{ t with block := none }] else net.waiting
        regions := tabPut {} net.regions n a }

/-- A transfer has reached its destination; one for a region goes on to that region's router (R54). -/
def arrived (t : Transfer) (rest : List Transfer) (net : NetState) : NetState :=
  { net with waiting := rest, routers := if t.dst < 16 then net.routers ++ [t] else net.routers }

/-- A destination endpoint serves VC1 to VC3: on each, one transfer by weighted round-robin on SHARE (R56). -/
def channelServe (dst vc : Nat) (s : State) : State :=
  let net := s.struct.net
  let from_ := fun src (t : Transfer) => t.dst == dst && t.vc == vc && t.src == src
  match wrrPick (fun src => net.waiting.any (from_ src)) (fun src => s.routeShare src dst)
      (tabGet {} net.endpoints (256 * vc + dst)) with
  | none => s
  | some (src, a) =>
    match takeTransfer (from_ src) net.waiting with
    | none => s
    | some (t, rest) => s.withNet (arrived t rest { net with endpoints := tabPut {} net.endpoints (256 * vc + dst) a })

/-- A destination endpoint serves its oldest VC0 transfer where one waits, and VC1 to VC3 only where none does (R56). -/
def endpointServe (s : State) (dst : Nat) : State :=
  match takeTransfer (fun t => t.dst == dst && t.vc == 0) s.struct.net.waiting with
  | some (t, rest) => s.withNet (arrived t rest s.struct.net)
  | none => [1, 2, 3].foldl (fun s vc => channelServe dst vc s) s

/-- One grant of every router and endpoint at which traffic waits. -/
def netTick (s : State) : State :=
  if s.struct.net.routers.isEmpty && s.struct.net.waiting.isEmpty then s
  else (upto 0 0x26).foldl endpointServe ((upto 0 16).foldl (fun s n => routerServe n s) s)

end Sys2Proof.Machine
end

