-- ==== Sys2Proof/Machine/Leases.lean ====
section
/-! DEFINITION. Leases and their holders, address contexts and their mappings, faults and save areas
(spec/15_translation_preemption.md R454 to R475). -/

namespace Sys2Proof.Machine

/-! ## Entries -/

/-- A lease entry. -/
def State.lease (s : State) (e : Nat) : Lease := tabGet {} s.xlat.leases e

/-- A lease entry replaced. -/
def State.setLease (s : State) (e : Nat) (l : Lease) : State :=
  { s with xlat := { s.xlat with leases := tabPut {} s.xlat.leases e l } }

/-- The entries that an object holds, bound or with a release pending. -/
def State.leasesOf (s : State) (kind owner : Nat) : List Nat :=
  (upto 0 256).filter (fun e => let l := s.lease e; l.state != 0 && l.kind == kind && l.owner == owner)

/-- The bound entries of an object with their generations: what a holder captures (R461). -/
def State.holdsOn (s : State) (kind owner : Nat) : List (Nat × Nat) :=
  ((s.leasesOf kind owner).filter (fun e => (s.lease e).state == 1)).map (fun e => (e, (s.lease e).gen))

/-- The bound entry of one range of an object. -/
def State.leasePart (s : State) (kind owner part : Nat) : Option Nat :=
  (s.leasesOf kind owner).find? (fun e => (s.lease e).state == 1 && (s.lease e).part == part)

/-- Every capture that a holder has: instants, ray frames, running row tasks and the picture in coding (R461). -/
def State.allHolds (s : State) : List (List (Nat × Nat)) :=
  (s.card.instants.filter (fun i => i.phase == 1)).map (fun i => i.holds ++ i.fronts.map (fun f => f.hold)) ++
  (s.conf.frames.filter (fun e => e.2.state == 1)).map (fun e => e.2.holds) ++
  (s.dec.tasks.filter (fun t => t.state == 1)).map (fun t => t.holds) ++
  (match s.enc.pic with | some p => [p.holds] | none => [])

/-- The holder count of an entry (R460). -/
def State.holders (s : State) (e : Nat) : Nat :=
  (s.allHolds.filter (fun h => h.contains (e, (s.lease e).gen))).length

/-- A capture whose generation is no longer the current one (R465). -/
def State.stale (s : State) (holds : List (Nat × Nat)) : Option Nat :=
  (holds.find? (fun h => (s.lease h.1).gen != h.2)).map (fun h => h.1)

/-! ## Taking and releasing -/

/-- Pages of 4 KiB for a number of bytes. -/
def pagesOf (bytes : Nat) : Nat := ceilDiv bytes 4096

/-- Two page ranges of pools overlap. -/
def leaseMeets (pool base len : Nat) (l : Lease) : Bool :=
  l.state != 0 && l.pool == pool && decide (l.base < base + len) && decide (base < l.base + l.len)

/-- The leases that a range meets. -/
def State.meeting (s : State) (pool base len : Nat) : List Nat :=
  (upto 0 256).filter (fun e => leaseMeets pool base len (s.lease e))

/-- The lowest 64 KiB-aligned offset of a pool, in pages, at which a range overlaps no lease (R459). -/
def State.placeRange (s : State) (p : PoolRec) (len : Nat) : Option Nat :=
  let ends := ((upto 0 256).map s.lease).filter (fun l => l.state != 0 && l.pool == p.id)
    |>.map (fun l => ceilDiv (l.base + l.len) 16 * 16)
  let ok := fun b => decide (4096 * (b + len) ≤ poolBytes p) && (s.meeting p.id b len).isEmpty
  ((0 :: ends).filter ok).foldl (fun best b => match best with
    | none => some b
    | some x => some (min x b)) none

/-- The lowest free entry (R460). -/
def State.freeLease (s : State) : Option Nat := (upto 0 256).find? (fun e => (s.lease e).state == 0)

/-- A range of an object is leased (R459, R460); none where no entry is free. -/
def takeLease (kind owner part pool base len : Nat) (s : State) : Option State :=
  s.freeLease.map (fun e => s.setLease e
    { gen := (s.lease e).gen, state := 1, kind := kind, owner := owner, part := part, pool := pool, base := base, len := len })

/-- The release of an entry completes: pages removed, generation increased, entry free (R460, R462). -/
def dropLease (e : Nat) (s : State) : State :=
  s.setLease e { gen := ((s.lease e).gen + 1) % 65536 }

/-- A pending release completes with RELEASE_DONE (R462). -/
def completeRelease (e : Nat) (s : State) : State :=
  let l := s.lease e
  raiseWith 932 0 (l.kind * 256 + l.owner) (dropLease e s)

/-- UNBIND makes the releases of an object pending; RELEASE_DEFERRED when a holder remains (R462). -/
def releaseObject (kind owner : Nat) (s : State) : State :=
  let es := (s.leasesOf kind owner).filter (fun e => (s.lease e).state == 1)
  let s := es.foldl (fun s e => s.setLease e { s.lease e with state := 2, fenced := false }) s
  if es.any (fun e => s.holders e != 0) then raiseWith 931 0 (kind * 256 + owner) s else s

/-- Whether an entry's pending release may complete (R462). -/
def State.releaseDue (s : State) (e : Nat) : Bool :=
  (s.lease e).state == 2 && !(s.lease e).draining && s.holders e == 0 && (!s.armed 4 0 || (s.lease e).fenced)

/-- A fence passes: pending releases whose holder count is 0 may complete (R462). -/
def fenceLeases (s : State) : State :=
  (upto 0 256).foldl (fun s e =>
    if (s.lease e).state = 2 ∧ s.holders e = 0 then s.setLease e { s.lease e with fenced := true } else s) s

/-- An object has a release pending. -/
def State.releasePending (s : State) (kind owner : Nat) : Bool :=
  (s.leasesOf kind owner).any (fun e => (s.lease e).state == 2)

/-- Bytes of a pool that meet a range whose release is pending (R462). -/
def State.pendingMeets (s : State) (pool off n : Nat) : Bool :=
  n != 0 && ((upto 0 256).any (fun e => (s.lease e).state == 2 &&
    leaseMeets pool (off / 4096) (ceilDiv (off + n) 4096 - off / 4096) (s.lease e)))

/-! ## Contexts (R454, R455) -/

/-- A mapped range of a context: pool, first page, pages, READ, WRITE. -/
structure MapRange where
  pool : Nat
  base : Nat
  len : Nat
  read : Bool
  write : Bool
  deriving DecidableEq, Repr

/-- A whole pool as a range. -/
def wholePool (write : Bool) (p : PoolRec) : MapRange := ⟨p.id, 0, 512 * p.size, true, write⟩

/-- The bound or pending ranges that satisfy a test, as mapped ranges. -/
def State.leaseRanges (s : State) (write : Bool) (keep : Lease → Bool) : List MapRange :=
  (((upto 0 256).map s.lease).filter (fun l => l.state != 0 && keep l)).map
    (fun l => ⟨l.pool, l.base, l.len, true, write⟩)

/-- The pool that CONF_STAGE names. -/
def State.stagePools (s : State) : List PoolRec :=
  s.pools.filter (fun p => p.kind == 3 && p.id == s.get F.CONF_STAGE_POOL_ID)

/-- The decode context that the binding of CODED stream st takes (spec/05_decode.md R165, R166). -/
def State.boundContext (s : State) (st : Nat) : Option Nat :=
  (upto 0 4).find? (fun c => (tabGet none (s.path 1 st).binding (R.DEC_CTX_CFG c)).isSome)

/-- The stream that decode context c serves. -/
def State.contextStream (s : State) (c : Nat) : Nat := s.get (F.DEC_CTX_CFG_STREAM_ID c)

/-- The decode context that maps a stream's leases: that of its binding, or, while the release of an unbound stream is
pending, the context that served it (R462). -/
def State.leaseContext (s : State) (st : Nat) : Option Nat :=
  match s.boundContext st with
  | some c => some c
  | none => if s.streamKind st = 1 then (upto 0 4).find? (fun c => s.contextStream c == st) else none

/-- What a context maps (R454). -/
def State.mappings (s : State) (ctx : Nat) : List MapRange :=
  if ctx = 0 then s.pools.map (wholePool true)
  else if ctx ≤ 4 then
    s.leaseRanges true (fun l => l.kind == 1 && s.leaseContext l.owner == some (ctx - 1))
  else if ctx = 5 then
    s.leaseRanges true (fun l => l.kind == 2 || l.kind == 3 || l.kind == 1)
  else if ctx = 6 then
    s.stagePools.map (wholePool true) ++ s.leaseRanges true (fun l => l.kind == 1 && s.streamKind l.owner == 3)
  else if ctx = 7 then
    s.stagePools.map (wholePool false) ++ s.leaseRanges true (fun l => l.kind == 5)
  else if ctx = 8 ∨ ctx = 9 then
    (s.pools.filter (fun p => p.kind == 0 || p.kind == 7)).map (wholePool true) ++
    (s.pools.filter (fun p => p.kind == 9)).map (wholePool false)
  else if ctx = 10 ∨ ctx = 11 then
    (s.pools.filter (fun p => p.kind == 0 || p.kind == 3 || p.kind == 7 || p.kind == 9)).map (wholePool true)
  else if ctx = 12 then s.stagePools.map (wholePool false)
  else if ctx ≤ 16 then
    s.leaseRanges true (fun l => l.kind == 1 || (l.kind == 3 && s.bindField 3 l.owner (F.OV_FMT_SOURCE l.owner) == 1)) ++
    s.leaseRanges false (fun l => l.kind == 5)
  else if ctx = 17 then s.leaseRanges false (fun l => l.kind == 2)
  else if ctx = 18 then (s.lowestPool 4).toList.map (wholePool true)
  else []

/-- The mapped range that holds a context address, with its index (R455, R456). -/
def State.mapFind (s : State) (ctx ca : Nat) : Option MapRange :=
  (s.mappings ctx).find? (fun r =>
    r.pool == ca / 2 ^ 35 && decide (r.base ≤ ca % 2 ^ 35 / 4096) && decide (ca % 2 ^ 35 / 4096 < r.base + r.len))

/-- The largest page that covers an offset within a range and a pool's base: 512, 16 or 1 pages (R457). -/
def pageSize (r : MapRange) (poolPage page : Nat) : Nat :=
  let fits := fun n => decide (r.base ≤ page / n * n) && decide (page / n * n + n ≤ r.base + r.len) &&
    (poolPage + page / n * n) % n == 0
  if fits 512 then 512 else if fits 16 then 16 else 1

/-- The leaf entry of a context address: 0 where nothing is mapped (R456). -/
def State.leafEntry (s : State) (ctx ca : Nat) : Nat :=
  match s.mapFind ctx ca with
  | none => 0
  | some r =>
    match s.pool r.pool with
    | none => 0
    | some p =>
      let page := ca % 2 ^ 35 / 4096
      let n := pageSize r (512 * p.base) page
      (512 * p.base + page / n * n) * 4096 + bit r.write * 16 + bit r.read * 8 +
        (if n = 16 then 4 else if n = 512 then 2 else 0) + 1

/-- The memory byte of a mapped context address (R456). -/
def State.translate (s : State) (ctx ca : Nat) : Option Nat :=
  match s.mapFind ctx ca with
  | none => none
  | some r => (s.pool r.pool).map (fun p => poolBase p + ca % 2 ^ 35)

/-- The 4 KiB tables that the mappings of all contexts need, each by context, level and the bits of the context address that
select it: a level-2 table for each 1 GiB, a level-3 table for each 2 MiB with pages of less than 2 MiB (R456 to R458). -/
def State.tableKeys (s : State) : List (Nat × Nat × Nat) :=
  (upto 0 64).flatMap (fun ctx =>
    let rs := s.mappings ctx
    let l2 := rs.foldl (fun acc r =>
      let first := r.pool * 2 ^ 23 + r.base
      (upto (first / 2 ^ 18) ((first + r.len - 1) / 2 ^ 18 + 1 - first / 2 ^ 18)).foldl (fun acc i => setInsert i acc) acc) []
    let l3 := rs.foldl (fun acc r =>
      match s.pool r.pool with
      | none => acc
      | some p =>
        let ends := [r.base, r.base + r.len - 1]
        ends.foldl (fun acc pg =>
          if pageSize r (512 * p.base) pg = 512 then acc else setInsert ((r.pool * 2 ^ 23 + pg) / 512) acc) acc) []
    l2.map (fun i => (ctx, 2, i)) ++ l3.map (fun i => (ctx, 3, i)))

/-- How many there are. -/
def State.tablesNeeded (s : State) : Nat := s.tableKeys.length

/-- The lowest-numbered pool of KIND 0x5 holds tables and save areas (R458). -/
def State.tablePoolOk (s : State) : Bool :=
  match s.lowestPool 5 with
  | some p => decide (p.size ≥ 19)
  | none => false

/-- The checks of R458 on a state with the BIND's mappings added. -/
def State.tablesFit (s : State) : Bool := s.tablePoolOk && decide (s.tablesNeeded ≤ 3840)

/-! ## The tables as memory holds them (R456, R457) -/

/-- Where the level-2 and level-3 tables lie: each on one of the 3,840 pages behind the level-1 tables. The spec leaves the
page open: it is the first free one from a free value on. -/
def State.tablePages (s : State) : List ((Nat × Nat × Nat) × Nat) :=
  s.tableKeys.foldl (fun acc k =>
    match ((upto (Config.tablePage k.1 k.2.1 k.2.2) 3840).map (· % 3840)).find? (fun n => acc.all (fun e => e.2 != n)) with
    | some n => acc ++ [(k, n)]
    | none => acc) []

/-- A pointer to the table with a key, 0 where there is none; p is the pool of the tables. -/
def tablePointer (p : PoolRec) (pages : List ((Nat × Nat × Nat) × Nat)) (k : Nat × Nat × Nat) : Option Nat :=
  (pages.find? (fun e => e.1 == k)).map (fun e => poolBase p + 0x100000 + 4096 * e.2 + 1)

/-- Entry j of the table with a key (R456). -/
def State.tableEntry (s : State) (p : PoolRec) (pages : List ((Nat × Nat × Nat) × Nat)) (k : Nat × Nat × Nat) (j : Nat) : Nat :=
  if k.2.1 = 1 then (tablePointer p pages (k.1, 2, j)).getD 0
  else if k.2.1 = 2 then
    (tablePointer p pages (k.1, 3, 512 * k.2.2 + j)).getD (s.leafEntry k.1 ((512 * k.2.2 + j) * 2 ^ 21))
  else s.leafEntry k.1 ((512 * k.2.2 + j) * 2 ^ 12)

/-- The table that holds a byte of the table area, none where no table lies. -/
def tableAt (pages : List ((Nat × Nat × Nat) × Nat)) (off : Nat) : Option (Nat × Nat × Nat) :=
  if off < 0x100000 then some (off / 16384, 1, 0)
  else (pages.find? (fun e => e.2 == (off - 0x100000) / 4096)).map (fun e => e.1)

/-- A byte of the table area that a table holds. -/
def State.tableByte (s : State) (p : PoolRec) (pages : List ((Nat × Nat × Nat) × Nat)) (off : Nat) : Option Byte :=
  (tableAt pages off).map (fun k =>
    let j := (if k.2.1 = 1 then off % 16384 else off % 4096) / 8
    BitVec.ofNat 8 (s.tableEntry p pages k j / 2 ^ (8 * (off % 8))))

/-- n bytes of in-package memory from M with the tables that firmware keeps in it: the first 16 MiB of the lowest-numbered
pool of KIND 0x5 (R457). -/
def State.memRead (s : State) (m n : Nat) : List Byte :=
  match s.lowestPool 5 with
  | some p =>
    if poolBase p + 0x1000000 ≤ m ∨ m + n ≤ poolBase p then s.hbmRead m n
    else
      let pages := s.tablePages
      (upto m n).map (fun a =>
        (if poolBase p ≤ a ∧ a < poolBase p + min 0x1000000 (poolBytes p) then s.tableByte p pages (a - poolBase p) else none).getD
          (cellGet ramBlank s.hbm a))
  | none => s.hbmRead m n

/-! ## Save areas (R471 to R474) -/

/-- Offset of a context's save area in its pool, none for contexts without one (R471). -/
def saveOffset (ctx : Nat) : Option Nat :=
  if 1 ≤ ctx ∧ ctx ≤ 4 then some (0x01000000 + (ctx - 1) * 0x00200000)
  else if ctx = 8 then some 0x01800000
  else if ctx = 9 then some 0x01D00000
  else if ctx = 7 then some 0x02200000
  else if ctx = 10 then some 0x02300000
  else if ctx = 11 then some 0x02380000
  else if ctx = 5 then some 0x02400000
  else if ctx = 6 then some 0x02410000
  else none

/-- The context of an engine: PLANK n, FULL n. -/
def plankCtx (n : Nat) : Nat := 8 + n

/-- The context of a fuller engine. -/
def fullerCtx (n : Nat) : Nat := 10 + n

/-- STATE of XLAT_CTXn. -/
def setCtxState (ctx v : Nat) (s : State) : State := s.set (F.XLAT_CTX_STATE ctx) v

/-- A save-area header and body are written (R472); the body, whose form only its engine knows, is free bytes. -/
def writeSave (ctx st point code : Nat) (lease : Option Nat) (addr : Nat) (s : State) : State :=
  match saveOffset ctx, s.lowestPool 5 with
  | some off, some p =>
    let (n, s) := s.draw
    let (body, s) := s.drawBytes (n % 64)
    let seq := tabGet 0 s.xlat.parks ctx
    let h := [0x53, 0x41, 0x56, 0x45] ++ leBytes ctx 1 ++ leBytes st 1 ++ [0, 0] ++ leBytes (s.get F.CHIP_EPOCH_EPOCH) 4 ++
      leBytes seq 4 ++ leBytes point 8 ++ leBytes s.seconds 8 ++ leBytes s.nanos 4 ++ leBytes body.length 4 ++
      leBytes code 1 ++ leBytes (lease.getD 0) 1 ++ leBytes (bit lease.isSome) 1 ++ List.replicate 5 0 ++ leBytes addr 8 ++
      leBytes (crc32c body) 4
    s.poolWrite p off (h ++ leBytes (crc32c h) 4 ++ body)
  | _, _ => s

/-- A park of a context is counted: SEQ modulo 2^32, PARKS modulo 65,536 (R472). -/
def countPark (ctx : Nat) (s : State) : State :=
  let n := (tabGet 0 s.xlat.parks ctx + 1) % 2 ^ 32
  { s with xlat := { s.xlat with parks := tabPut 0 s.xlat.parks ctx n } }.set (F.XLAT_CTX_PARKS ctx) (n % 65536)

/-- The counts of parks begin anew at a load (R472; spec/02_structure_cukar.md R93). -/
def clearParks (s : State) : State :=
  (upto 0 64).foldl (fun s c => s.set (F.XLAT_CTX_PARKS c) 0) { s with xlat := { s.xlat with parks := [] } }

/-- An engine parks by pre-emption at a restart point (R467, R472). -/
def parkEngine (ctx point : Nat) (s : State) : State :=
  let s := countPark ctx s
  let s := setCtxState ctx 2 (writeSave ctx 1 point 0 none 0 s)
  { s with xlat := { s.xlat with parked := tabInsert s.xlat.parked ctx (some point) } }

/-- STATE of a save area as memory holds it returns to 0x0, its header CRC kept right (R469, R472). -/
def emptySave (ctx : Nat) (s : State) : State :=
  match saveOffset ctx, s.lowestPool 5 with
  | some off, some p =>
    let h := s.poolRead p off 60
    let h := h.take 5 ++ [0] ++ h.drop 6
    if (s.poolRead p off 4) = [0x53, 0x41, 0x56, 0x45] then s.poolWrite p off (h ++ leBytes (crc32c h) 4) else s
  | _, _ => s

/-- Nothing is parked any more, every save area is empty (R469). -/
def clearSaves (s : State) : State :=
  let s := (upto 1 11).foldl (fun s c => emptySave c s) s
  let s := { s with xlat := { s.xlat with parked := [] } }
  (upto 0 64).foldl (fun s c => setCtxState c 0 s) s

/-- The checks of R474 on the save area of a context: HDR_CRC, BODY_CRC, MAGIC and EPOCH. -/
def State.saveOk (s : State) (ctx : Nat) : Bool :=
  match saveOffset ctx, s.lowestPool 5 with
  | some off, some p =>
    let h := s.poolRead p off 64
    let body := s.poolRead p (off + 64) (leAt h 0x24 4 % 2 ^ 23)
    leAt h 0x3C 4 == crc32c (h.take 60) && leAt h 0x38 4 == crc32c body &&
    h.take 4 == [0x53, 0x41, 0x56, 0x45] && leAt h 8 4 == s.get F.CHIP_EPOCH_EPOCH
  | _, _ => false

/-! ## Faults (R465, R472, R475) -/

/-- DETAIL of a translation fault's error-log entry: address, lease and context (spec/17_events_errors.md R506). -/
def faultDetail (ctx : Nat) (lease : Option Nat) (addr : Nat) : Nat :=
  addr % 2 ^ 41 + bit lease.isSome * 2 ^ 47 + lease.getD 0 * 2 ^ 48 + ctx * 2 ^ 56

/-- The engine of a context is being pre-empted and has not reached its restart point: nothing is saved (R470). -/
def State.preempting (s : State) (ctx : Nat) : Bool :=
  match if ctx = 10 ∨ ctx = 11 then tabGet none s.fuller (4 * (ctx - 10) + 3) else none with
  | some j => j.yield
  | none => false

/-- A request faults: XLAT_FLT registers, counter, event, fault record in the save area (R465, R470, R472, R475). -/
def xlatFault (ctx code : Nat) (lease : Option Nat) (addr point : Nat) (s : State) : State :=
  let s := s.setWord R.XLAT_FLT_INFO (BitVec.ofNat 32
    (2 ^ 31 + ctx * 2 ^ 24 + bit lease.isSome * 2 ^ 16 + lease.getD 0 * 2 ^ 8 + code))
  let s := s.setWord R.XLAT_FLT_ADDR_LO (BitVec.ofNat 32 addr)
  let s := s.setWord R.XLAT_FLT_ADDR_HI (BitVec.ofNat 32 (addr / 2 ^ 32 % 2 ^ 9))
  let s := s.bump (F.XLAT_CNT_COUNT (code - 1))
  let s := raisePerMs 928 code (faultDetail ctx lease addr) s
  if (saveOffset ctx).isSome ∧ ¬ s.preempting ctx then
    writeSave ctx 2 point code lease addr (countPark ctx s)
  else s

/-- The context address of a byte of a pool (R455). -/
def contextAddress (pool off : Nat) : Nat := pool * 2 ^ 35 + off

/-- The parked work of a context resumes: its save area is checked, then returns to STATE 0x0. False: a check fails, which is
the fault 0x5 (R472, R474). -/
def resumeSave (ctx point : Nat) (s : State) : Bool × State :=
  let ok := s.saveOk ctx
  let s := setCtxState ctx 0 { s with xlat := { s.xlat with parked := tabErase s.xlat.parked ctx } }
  if ok then (true, emptySave ctx s)
  else
    let addr := match s.lowestPool 5, saveOffset ctx with
      | some p, some off => contextAddress p.id off
      | _, _ => 0
    (false, raiseWith 930 5 (faultDetail ctx none addr) (xlatFault ctx 5 none addr point s))

/-- Work with a restart point starts: work that was parked there resumes (R467). False: it is faulted. -/
def resumeAt (ctx point : Nat) (s : State) : Bool × State :=
  if tabGet none s.xlat.parked ctx = some point then resumeSave ctx point s else (true, s)

/-- First context address of a lease's range. -/
def State.leaseAddress (s : State) (e : Nat) : Nat := contextAddress (s.lease e).pool (4096 * (s.lease e).base)

end Sys2Proof.Machine
end

