-- ==== Sys2Proof/Machine/Power.lean ====
section
/-! DEFINITION. Power domains and ray-block operating points (spec/18_modes_power_thermal.md R518 to R520, R582;
spec/02_structure_cukar.md R79, R80). -/

namespace Sys2Proof.Machine

/-- The value of a domain in the POWER section in force (R79): 0 off, 1 on, 2 on demand. -/
def State.domainValue (s : State) (d : Nat) : Nat :=
  match s.struct.image with
  | some i => i.domains.getD d 0
  | none => 0

/-- The block whose operating point block k takes: the block it replaces, and so on where that was a spare itself (R62). -/
def State.pointBlock (s : State) (k : Nat) : Nat :=
  (upto 0 3).foldl (fun k _ => (s.block k).replaces.getD k) k

/-- The POINT of block k in the image in force: mV and MHz (R79); (0, 0) for an overridden block (R90), that of the block it
replaces for a spare (R62). -/
def State.point (s : State) (k : Nat) : Nat × Nat :=
  match s.struct.image with
  | some i => if s.struct.overrides.contains k then (0, 0) else i.points.getD (s.pointBlock k) (0, 0)
  | none => (0, 0)

/-- The link of a link domain: 0 for the panel TX groups, k + 1 for Afloth link k. -/
def linkOfDomain (d : Nat) : Nat := if d < 109 then 0 else d - 108

/-- The condition under which an on-demand domain is powered (R582); a region counts as on at retention too. -/
def State.demand (s : State) (d : Nat) : Bool :=
  if d < 16 then true
  else if d < 80 then
    let k := d - 16
    let r := s.role k
    if r = 1 then (s.armedIds 2).any (fun l => s.layerViews l != 0)
    else if r = 2 then !(s.armedIds 2).isEmpty || s.armed 4 0
    else if r = 3 then s.armed 5 0
    else if r = 4 then s.blockState k == 3 || s.blockState k == 4
    else false
  else if d < 88 then (s.armedIds 1).any (fun st => s.streamKind st == 1) || s.dec.selfTest
  else if d = 88 then s.armed 5 0
  else if d < 91 then (tabGet none s.plank (d - 89)).isSome
  else if d < 93 then s.fuller.any (fun e => e.1 / 4 == d - 91)
  else if d < 97 then s.get (F.ETH_CFG_SPEED (d - 93)) != 0
  else if d < 113 then s.flag (F.LNK_CFG_ENABLE (linkOfDomain d))
  else true

/-- Whether domain d is powered (R520, R582). -/
def State.domainOn (s : State) (d : Nat) : Bool :=
  let m := s.modeNow
  if 113 ≤ d then d < 120
  else if s.get F.CHIP_EPOCH_EPOCH = 0 then
    if d < 16 then d ≤ 4
    else if 93 ≤ d ∧ d < 97 then s.pins.bootStep ≥ 5 && s.demand d
    else 97 ≤ d && d < 109
  else if (m == 0x3 || m == 0xC) && (decide (16 ≤ d) && decide (d < 93)) then false
  else if d ≤ 4 ∧ (m = 0x1 ∨ m = 0x2) then true
  else if (m == 0x3 || m == 0xC) && (decide (93 ≤ d) && decide (d < 97)) then s.demand d
  else if s.mode.txOff ∧ 97 ≤ d ∧ d < 109 then false
  else if 16 ≤ d ∧ d < 80 ∧ (s.role (d - 16) = 5 ∨ s.struct.overrides.contains (d - 16)) then false
  else if 16 ≤ d ∧ d < 80 ∧ (s.block (d - 16)).replaces.isSome ∧ s.blockState (d - 16) = 4 then true
  else match s.domainValue d with
    | 1 => true
    | 2 => if 80 ≤ d ∧ d < 93 then s.demand d && s.mode.up.contains d else s.demand d
    | _ => false

/-- On-demand engine domains whose demand has gone are off again (R582). -/
def settlePower (s : State) : State :=
  { s with mode := { s.mode with up := s.mode.up.filter s.demand } }

/-- Vmin of a clock in mV (R518). -/
def vmin (mhz : Nat) : Nat :=
  if mhz ≤ 500 then 550 else if mhz ≤ 650 then 600 else if mhz ≤ 800 then 650 else if mhz ≤ 950 then 700
  else if mhz ≤ 1100 then 750 else if mhz ≤ 1200 then 800 else 850

/-- A permitted operating point (R518). -/
def pointPermitted (p : Nat × Nat) : Bool :=
  decide (400 ≤ p.2) && decide (p.2 ≤ 1250) && decide (550 ≤ p.1) && decide (p.1 ≤ 850) && decide (vmin p.2 ≤ p.1)

/-- The ray-block ceiling of a die band (R527). -/
def bandCeiling (band : Nat) : Nat := if band ≤ 1 then 1250 else if band = 2 then 1100 else 950

/-- The ceiling in force (R519). -/
def State.ceiling (s : State) : Nat :=
  let b := bandCeiling s.mode.dieBand
  if s.mode.throttle then min b (s.get F.THERM_THROT_THROT_MHZ) else b

/-- Voltage and clock that the controller sets for block k (R519). -/
def State.setPoint (s : State) (k : Nat) : Nat × Nat :=
  let (v, f) := s.point k
  let c := min f s.ceiling
  if c = f then (v, f) else (min v (vmin c), c)

/-- Voltage and clock in force of block k: those before a change until it completes; 0 when off, clock 0 when stopped in
RAW_RAY (R512, R519, R520). -/
def State.pointInForce (s : State) (k : Nat) : Nat × Nat :=
  if ¬ s.domainOn (16 + k) then (0, 0)
  else
    let p := (tabGet none s.mode.changing k).getD (s.setPoint k)
    if s.ruleMode = 0x8 ∧ s.role k = 1 ∧ s.domainValue (16 + k) = 1 then (p.1, 0) else p

/-! ## The spread of work (spec/02_structure_cukar.md R60) -/

/-- Of two blocks, whether the first has had no more of the frame's work, by its clock, once it takes one item more. -/
def State.fairer (s : State) (i j : Nat) : Bool :=
  decide (((s.block i).given + 1) * (s.setPoint j).2 ≤ ((s.block j).given + 1) * (s.setPoint i).2)

/-- The working blocks of a role whose turn it is: an item given to any of them keeps the shares nearest to the clock
rates. -/
def State.fairest (s : State) (role : Nat) : List Nat :=
  let ws := s.workers role
  ws.filter (fun i => ws.all (s.fairer i))

/-- One work item is queued at a working block of a role, in proportion to the clock rates (R60); which of the blocks whose
turn it is takes it is a free choice. With no working block the item is lost. -/
def enqueueItem (role : Nat) (q : QueuedItem) (s : State) : State :=
  let ws := s.fairest role
  let (n, s) := s.draw
  match ws[n % ws.length]? with
  | some k => let b := s.block k; s.setBlock k { b with queue := b.queue ++ [q], given := b.given + 1 }
  | none => s

/-- The work items of a frame or an instant are spread over the blocks of a role (R60). -/
def enqueueAll (role : Nat) (items : List WorkItem) (s : State) : State :=
  let s := (s.workers role).foldl (fun s k => s.setBlock k { s.block k with given := 0 }) s
  items.foldl (fun s i => enqueueItem role ⟨i, false⟩ s) s

/-- DVFS_CAPPED holds while the ceiling lies below a working block's POINT clock (R519). -/
def updateCapped (s : State) : State :=
  setCond 25 ((upto 0 64).any (fun k => s.blockState k == 1 && decide (s.ceiling < (s.point k).2))) s

/-- Every working block whose target point changes begins its change (R519): before is the state before the ceiling
moved. -/
def beginDvfs (before s : State) : State :=
  let moved := (upto 0 64).filter (fun k => s.blockState k == 1 && before.setPoint k != s.setPoint k)
  let s := moved.foldl (fun s k => { s with mode := { s.mode with
    changing := tabPut none s.mode.changing k (some ((tabGet none s.mode.changing k).getD (before.setPoint k))) } }) s
  updateCapped s

/-- The change of block k completes (R519). -/
def dvfsDone (k : Nat) (s : State) : State :=
  { s with mode := { s.mode with changing := tabErase s.mode.changing k } }

/-- A word of PWR_DOMAIN0 to PWR_DOMAIN3. -/
def domainWord (k : Nat) (s : State) : Word :=
  BitVec.ofNat 32 ((upto 0 32).foldl (fun acc i => if s.domainOn (32 * k + i) then acc + 2 ^ i else acc) 0)

/-- The word of PWR_RBPT for the selected block. -/
def rbptWord (s : State) : Word :=
  let p := s.pointInForce (s.get F.PWR_RBSEL_BLOCK)
  BitVec.ofNat 32 (p.1 * 65536 + p.2)

end Sys2Proof.Machine
end

