-- ==== Sys2Proof/Machine/Plank.lean ====
section
/-! DEFINITION. The plank engines and the overlay buffers (spec/08_plank_overlay.md R270 to R291). -/

namespace Sys2Proof.Machine

/-! ## Surfaces -/

/-- A surface (R270): pool, base in bytes, pitch, format. -/
structure Surface where
  pool : Nat
  base : Nat
  pitch : Nat
  format : Nat
  deriving DecidableEq, Repr

/-- The parameters of an operation at START. -/
structure PlankParams where
  op : Nat
  dir : Bool
  glyphBg : Bool
  dst : Surface
  src : Surface
  x : Nat
  y : Nat
  w : Nat
  h : Nat
  sx : Nat
  sy : Nat
  colour : Nat
  background : Nat
  wmark : Bool
  wline : Nat
  deriving DecidableEq, Repr

/-- The parameter registers of an engine, PLK_OP to PLK_WMARK. -/
def plankAddrs (n : Nat) : List Nat := (upto 0 15).map (fun i => R.PLK_OP n + 4 * i)

/-- The parameters that the words of PLK_OP to PLK_WMARK give. -/
def plankParams (ws : List Nat) : PlankParams :=
  let w := fun i => ws.getD i 0
  { op := slice (w 0) 3 0, dir := slice (w 0) 8 8 == 1, glyphBg := slice (w 0) 9 9 == 1
    dst := ⟨slice (w 1) 5 0, 64 * w 2, slice (w 3) 18 0, slice (w 1) 10 8⟩
    src := ⟨slice (w 6) 5 0, 64 * w 7, slice (w 8) 18 0, slice (w 6) 10 8⟩
    x := slice (w 4) 15 0, y := slice (w 4) 31 16
    w := slice (w 5) 15 0, h := slice (w 5) 31 16
    sx := slice (w 9) 15 0, sy := slice (w 9) 31 16
    colour := w 10 + 2 ^ 32 * w 11, background := w 12 + 2 ^ 32 * w 13
    wmark := slice (w 14) 31 31 == 1, wline := slice (w 14) 13 0 }

/-- Bytes per pixel; A1 packs eight pixels in a byte (R270). -/
def pixelBytes (fmt : Nat) : Nat := if fmt = 2 ∨ fmt = 3 then 1 else if fmt = 4 then 8 else 4

/-- Bytes of n pixels of a row. -/
def rowBytes (fmt n : Nat) : Nat := if fmt = 3 then ceilDiv n 8 else n * pixelBytes fmt

/-- The first byte of columns x.. of row y, and the byte after the last of w columns, within the pool. -/
def rowRange (f : Surface) (x y w : Nat) : Nat × Nat :=
  let r := f.base + y * f.pitch
  if f.format = 3 then (r + x / 8, r + (x + w - 1) / 8 + 1)
  else (r + x * pixelBytes f.format, r + (x + w) * pixelBytes f.format)

/-- The byte ranges of a rectangle, row by row. -/
def rectRanges (f : Surface) (x y w h : Nat) : List (Nat × Nat) := (upto y h).map (fun r => rowRange f x r w)

/-- Two lists of byte ranges share a byte. -/
def rangesMeet (a b : List (Nat × Nat)) : Bool :=
  a.any (fun r => b.any (fun q => decide (r.1 < q.2) && decide (q.1 < r.2)))

/-- A legal pitch for x + w pixels (R271). -/
def pitchLegal (f : Surface) (x w : Nat) : Bool :=
  f.pitch % (if f.format = 4 then 128 else 64) == 0 && decide (64 ≤ f.pitch) && decide (f.pitch ≤ 262144) &&
  decide (rowBytes f.format (x + w) ≤ f.pitch)

/-- A legal base (R270). -/
def baseLegal (f : Surface) : Bool := f.base % (if f.format = 4 then 128 else 64) == 0

/-- The operation reads a source surface (R272). -/
def plankReads (p : PlankParams) : Bool := p.op == 1 || p.op == 3 || p.op == 6

/-- The format combinations of R272. -/
def plankFormats (p : PlankParams) : Bool :=
  let d := p.dst.format
  let dOk := d != 3 && decide (d ≤ 4)
  if p.op = 1 then dOk && p.src.format == d
  else if p.op = 3 then dOk && (p.src.format == d || p.src.format == 2)
  else if p.op = 6 then dOk && p.src.format == 3
  else dOk

/-! ## Overlay buffers (R285 to R289) -/

/-- Surface of a buffer of overlay o as bound. -/
def State.overlayBuffer (s : State) (o b : Nat) : Surface :=
  { pool := s.bindField 3 o (F.OV_POOL_POOL_ID o)
    base := 64 * s.bindField 3 o (if b = 0 then F.OV_BUF0_BASE o else F.OV_BUF1_BASE o)
    pitch := s.bindField 3 o (F.OV_PITCH_PITCH o)
    format := s.bindField 3 o (F.OV_FMT_FORMAT o) }

/-- W and H of overlay o as bound. -/
def State.overlaySize (s : State) (o : Nat) : Nat × Nat :=
  (s.bindField 3 o (F.OV_SIZE_W o), s.bindField 3 o (F.OV_SIZE_H o))

/-- The surface of a front buffer that an instant started with. -/
def frontSurface (f : FrontRec) : Surface := ⟨f.pool, f.base, f.pitch, f.format⟩

/-- The front buffers of the carding instants that have started and not completed (R286). -/
def State.frontsInUse (s : State) : List FrontRec :=
  (s.card.instants.filter (fun i => i.phase == 1)).flatMap (fun i => i.fronts)

/-- Buffer b of overlay o is protected while the overlay is bound (R286): in front, or named by a staged OV_FRONT. -/
def State.bufferProtected (s : State) (o b : Nat) : Bool :=
  (s.armed 3 o && s.get (F.OV_FRONT_FRONT o) == b) ||
  (match s.stagedWord (R.OV_FRONT o) with
    | some w => wordField w (F.OV_FRONT_FRONT o) == b
    | none => false)

/-- The bytes of a buffer: pitch × H from its base. -/
def State.bufferRange (s : State) (o b : Nat) : Nat × Nat :=
  let f := s.overlayBuffer o b
  (f.base, f.base + f.pitch * (s.overlaySize o).2)

/-- The protected overlay buffers: pool and byte range. A buffer that an instant began with stays protected where it stood,
whatever becomes of the overlay's binding (R286). -/
def State.protectedBuffers (s : State) : List (Nat × (Nat × Nat)) :=
  s.frontsInUse.map (fun f => (f.pool, (f.base, f.base + f.pitch * f.height))) ++
  (upto 0 16).flatMap (fun o => ([0, 1].filter (fun b => decide (2 ≤ (s.path 3 o).state) && s.bufferProtected o b)).map
    (fun b => ((s.overlayBuffer o b).pool, s.bufferRange o b)))

/-! ## The checks of START (R277) -/

/-- The byte ranges of an operation: pool, ranges, whether written. -/
def plankRanges (p : PlankParams) : List (Nat × List (Nat × Nat) × Bool) :=
  (p.dst.pool, rectRanges p.dst p.x p.y p.w p.h, true) ::
  (if plankReads p then [(p.src.pool, rectRanges p.src p.sx p.sy p.w p.h, false)] else [])

/-- A rectangle lies within a pool of one of the kinds given. -/
def State.rectInPool (s : State) (f : Surface) (kinds : List Nat) (x y w h : Nat) : Bool :=
  match s.pool f.pool with
  | none => false
  | some q => kinds.contains q.kind && decide ((rowRange f x (y + h - 1) w).2 ≤ poolBytes q)

/-- Source and destination rectangles share a byte. -/
def plankOverlap (p : PlankParams) : Bool :=
  plankReads p && p.src.pool == p.dst.pool &&
  rangesMeet (rectRanges p.src p.sx p.sy p.w p.h) (rectRanges p.dst p.x p.y p.w p.h)

/-- Check 9 of R277. A COPY may read what the other engine's running operation writes (R283). -/
def State.plankInUse (s : State) (n : Nat) (p : PlankParams) : Bool :=
  let dst := rectRanges p.dst p.x p.y p.w p.h
  s.protectedBuffers.any (fun e => e.1 == p.dst.pool && rangesMeet dst [e.2]) ||
  (match tabGet none s.plank (1 - n) with
    | none => false
    | some o => (plankRanges p).any (fun a => (plankRanges (plankParams o.words)).any
        (fun b => a.1 == b.1 && (a.2.2 || (b.2.2 && p.op != 1)) && rangesMeet a.2.1 b.2.1)))

/-- Checks 2 to 9 of R277: the refusal, none for EMPTY or a start. -/
def State.plankCheck (s : State) (n : Nat) (p : PlankParams) : Option Status :=
  if quietMode s.modeNow then some .mode
  else if p.op = 0 ∨ p.op > 6 then some .value
  else if p.w = 0 ∨ p.h = 0 then none
  else if p.w > 16384 ∨ p.h > 16384 ∨ ¬ plankFormats p then some .value
  else if ¬ (pitchLegal p.dst p.x p.w && baseLegal p.dst &&
      (!plankReads p || (pitchLegal p.src p.sx p.w && baseLegal p.src))) then some .value
  else if ¬ (s.rectInPool p.dst [0, 7] p.x p.y p.w p.h &&
      (!plankReads p || s.rectInPool p.src [0, 7, 9] p.sx p.sy p.w p.h)) then some .pool
  else if plankOverlap p ∧ p.src ≠ p.dst then some .value
  else if s.plankInUse n p then some .inUse
  else none

/-- Source of engine n at an offset of R291. -/
def plankSource (n off : Nat) : Nat := 640 + 16 * n + off

/-- PLK_STATUS of engine n replaced: RESULT, BUSY, REFUSE. -/
def State.plankStatus (s : State) (n result busy refuse : Nat) : State :=
  ((s.set (F.PLK_STATUS_RESULT n) result).set (F.PLK_STATUS_BUSY n) busy).set (F.PLK_STATUS_REFUSE n) refuse

/-- Rows are taken bottom to top when source and destination overlap and the destination lies lower (R278). -/
def plankUpward (p : PlankParams) : Bool := (p.op == 1 || p.op == 3) && plankOverlap p && decide (p.y > p.sy)

/-- The rectangle row that line i of the traversal takes (R278). -/
def plankLine (p : PlankParams) (i : Nat) : Nat := if plankUpward p then p.h - 1 - i else i

/-! ## The band copy (R279; spec/15_translation_preemption.md R471) -/

/-- Bytes of a line in the band copy. -/
def bandPitch : Nat := 262144

/-- Where the save area of engine n holds its band copy: behind its first MiB. -/
def State.bandCopy (s : State) (n : Nat) : Option Nat :=
  match saveOffset (8 + n), s.lowestPool 5 with
  | some off, some q => some (poolBase q + off + 0x100000)
  | _, _ => none

/-- The rectangle that an engine copies before it writes a band: the destination of a BLEND, the source of an overlapping
COPY. -/
def bandSurface (p : PlankParams) : Option (Surface × Nat × Nat) :=
  if p.op = 3 then some (p.dst, p.x, p.y) else if p.op = 1 ∧ plankOverlap p then some (p.src, p.sx, p.sy) else none

/-- Before the first write of the band after o.lines lines, the engine stages the lines that a rerun of the band would
read. -/
def stageBand (n : Nat) (o : PlankOp) (s : State) : State :=
  let p := plankParams o.words
  match s.bandCopy n, bandSurface p with
  | some a, some (f, x, y) =>
    match s.pool f.pool with
    | none => s
    | some q => (upto 0 (min 16 (p.h - o.lines))).foldl (fun s j =>
        let (lo, hi) := rowRange f x (y + plankLine p (o.lines + j)) p.w
        s.hbmWrite (a + bandPitch * j) (s.poolRead q lo (hi - lo))) s
  | _, _ => s

/-- PLK_CTRL.START (R277, R582). -/
def plankStart (n : Nat) (s : State) : Res :=
  if s.flag (F.PLK_STATUS_BUSY n) then refuse .busy s
  else
    let ws := (plankAddrs n).map (fun a => (s.word a).toNat)
    let p := plankParams ws
    match s.plankCheck n p with
    | some st => (st, raise (plankSource n 3) (s.plankStatus n 5 0 (statusCode st)))
    | none =>
      let s := s.set (F.PLK_PROGRESS_LINES n) 0
      if p.w = 0 ∨ p.h = 0 then okay (raise (plankSource n 0) (s.plankStatus n 2 0 0))
      else
        let s := { s with plank := tabPut none s.plank n (some ⟨ws, 0, false, true⟩) }
        let o : PlankOp := ⟨ws, 0, false, !s.domainOn (89 + n)⟩
        let s := { s with plank := tabPut none s.plank n (some o) }
        let s := if o.waiting then s else stageBand n o s
        okay (s.plankStatus n (s.get (F.PLK_STATUS_RESULT n)) 1 0)

/-! ## The work of a band -/

/-- The pixel of a surface at (x, y); for A1 the bit. -/
def State.pixelRead (s : State) (f : Surface) (x y : Nat) : Nat :=
  match s.pool f.pool with
  | none => 0
  | some q =>
    let a := (rowRange f x y 1).1
    if f.format = 3 then bit ((leNat (s.poolRead q a 1)).testBit (x % 8))
    else leNat (s.poolRead q a (pixelBytes f.format))

/-- A pixel of a surface replaced. -/
def State.pixelWrite (s : State) (f : Surface) (x y v : Nat) : State :=
  match s.pool f.pool with
  | none => s
  | some q => s.poolWrite q (rowRange f x y 1).1 (leBytes v (pixelBytes f.format))

/-- A binary16 source-over channel: a × c + (1 - a) × d (R273). -/
def mixHalf (a c d : Nat) : Nat :=
  floatAdd half (floatMul half a c) (floatMul half (floatSub half 0x3C00 a) d)

/-- One integer channel of BLEND (R273). -/
def blendChannel (as aScale cs cd : Nat) : Nat := (as * cs + (aScale - as) * cd + aScale / 2) / aScale

/-- The alpha of BLEND (R273). -/
def blendAlpha (as aScale ad aMax : Nat) : Nat := ad + (as * (aMax - ad) + aScale / 2) / aScale

/-- The alpha scale of a format. -/
def alphaScale (fmt : Nat) : Nat := if fmt = 1 then 3 else 255

/-- BLEND of a source pixel onto a destination pixel (R273); colour is PLK_COLOUR for an A8 source. -/
def blendPixel (p : PlankParams) (src dst : Nat) : Nat :=
  let a8 := p.src.format == 2 && p.dst.format != 2
  let c := if a8 then p.colour else src
  if p.dst.format = 2 then blendAlpha (src % 256) 255 (dst % 256) 255
  else if p.dst.format = 4 then
    let as := if a8 then floatOfFrac half (src % 256) 255 else slice src 63 48
    let ch := fun lo => mixHalf as (slice c (lo + 15) lo) (slice dst (lo + 15) lo)
    let ad := slice dst 63 48
    ch 0 + ch 16 * 2 ^ 16 + ch 32 * 2 ^ 32 +
      floatAdd half as (floatMul half (floatSub half 0x3C00 as) ad) * 2 ^ 48
  else
    let sc := if a8 then 255 else alphaScale p.dst.format
    let as := if a8 then src % 256 else if p.dst.format = 1 then slice src 31 30 else slice src 31 24
    let n := if p.dst.format = 1 then 10 else 8
    let ch := fun i => blendChannel as sc (slice c (n * i + n - 1) (n * i)) (slice dst (n * i + n - 1) (n * i)) * 2 ^ (n * i)
    let ad := if p.dst.format = 1 then slice dst 31 30 else slice dst 31 24
    ch 0 + ch 1 + ch 2 + blendAlpha as sc ad (alphaScale p.dst.format) * 2 ^ (3 * n)

/-- The columns of rectangle row r that a LINE writes (R274). -/
def lineColumns (p : PlankParams) (r : Nat) : List Nat :=
  let dx := p.w - 1
  let dy := p.h - 1
  let flip := fun c => if p.dir then p.w - 1 - c else c
  if dx ≥ dy then
    if dx = 0 then [0]
    else ((upto 0 p.w).filter (fun i => (2 * i * dy + dx) / (2 * dx) == r)).map flip
  else [flip ((2 * r * dx + dy) / (2 * dy))]

/-- The new value of column c in rectangle row r, where it is written (R272 to R275); source and destination pixels
come from before the band. -/
def plankPixel (before : State) (p : PlankParams) (r c : Nat) : Option Nat :=
  let src := before.pixelRead p.src (p.sx + c) (p.sy + r)
  let dst := before.pixelRead p.dst (p.x + c) (p.y + r)
  if p.op = 1 then some src
  else if p.op = 2 then some p.colour
  else if p.op = 3 then some (blendPixel p src dst)
  else if p.op = 4 then (if (lineColumns p r).contains c then some p.colour else none)
  else if p.op = 5 then
    (if r = 0 ∨ r = p.h - 1 ∨ c = 0 ∨ c = p.w - 1 then some p.colour else none)
  else if src = 1 then some p.colour
  else if p.glyphBg then some p.background
  else none

/-- One rectangle row is written. -/
def plankRow (before : State) (p : PlankParams) (s : State) (r : Nat) : State :=
  (upto 0 p.w).foldl
    (fun s c => match plankPixel before p r c with
      | some v => s.pixelWrite p.dst (p.x + c) (p.y + r) v
      | none => s) s

/-- The watermark line and all lines before it are written after n lines (R283). -/
def plankMarked (p : PlankParams) (n : Nat) : Bool :=
  p.wmark && (if p.wline ≥ p.h then n == p.h
    else if plankUpward p then decide (p.h ≤ p.wline + n) else decide (p.wline < n))

/-- The operation of engine n is over (R280 to R282). -/
def plankEnd (n result : Nat) (s : State) : State :=
  let s := { s with plank := tabErase s.plank n }
  settlePower (raise (plankSource n 0) (s.plankStatus n result 0 0))

/-- The lines of the band in progress become undefined (R280, R281). -/
def plankScramble (o : PlankOp) (s : State) : State :=
  let p := plankParams o.words
  if o.waiting then s
  else ((upto o.lines (min 16 (p.h - o.lines))).map (plankLine p)).foldl (fun s r =>
    match s.pool p.dst.pool with
    | none => s
    | some q =>
      let (a, e) := rowRange p.dst p.x (p.y + r) p.w
      let (bs, s) := s.drawBytes (e - a)
      s.poolWrite q a bs) s

/-- A translation fault ends the operation of engine n (R280). -/
def plankFault (n : Nat) (s : State) : State :=
  match tabGet none s.plank n with
  | none => s
  | some o => plankEnd n 4 (raise (plankSource n 2) (plankScramble o s))

/-- A poisoned word that the band in progress reads, as its context address: a line of the source, or of the destination of a
BLEND (spec/14_hbm_controller.md R449). -/
def State.bandPoison (s : State) (p : PlankParams) (lines : Nat) : Option Nat :=
  let row := fun (f : Surface) (x y : Nat) =>
    match s.pool f.pool with
    | some q =>
      let (lo, hi) := rowRange f x y p.w
      if s.hbmPoisoned (poolBase q + lo) (hi - lo) then some (contextAddress q.id lo) else none
    | none => none
  ((upto lines (min 16 (p.h - lines))).map (plankLine p)).findSome? (fun r =>
    (if p.op = 1 ∨ p.op = 3 ∨ p.op = 6 then row p.src p.sx (p.sy + r) else none).orElse (fun _ =>
      if p.op = 3 then row p.dst p.x (p.y + r) else none))

/-- PLANK_BAND_COMPLETE: the band in progress of engine n is written (R279, R282, R283), unless it reads a poisoned word. -/
def plankBand (n : Nat) (s : State) : State :=
  match tabGet none s.plank n with
  | none => s
  | some o =>
    if o.waiting then s
    else if let some a := s.bandPoison (plankParams o.words) o.lines then plankFault n (xlatFault (plankCtx n) 4 none a o.lines s)
    else
      let p := plankParams o.words
      let k := min 16 (p.h - o.lines)
      let done := o.lines + k
      let t := ((upto o.lines k).map (plankLine p)).foldl (plankRow s p) s
      let t := t.set (F.PLK_PROGRESS_LINES n) done
      let mark := plankMarked p done && !o.wmarked
      let next := { o with lines := done, wmarked := o.wmarked || mark }
      let t := { t with plank := tabPut none t.plank n (some next) }
      let t := if mark then raise (plankSource n 1) t else t
      if done = p.h then plankEnd n 1 t else stageBand n next t

/-- PLK_CTRL.ABORT (R281). -/
def plankAbort (n : Nat) (s : State) : Res :=
  match tabGet none s.plank n with
  | none => okay s
  | some o => okay (plankEnd n 3 (plankScramble o s))

/-- A write of PLK_CTRL. -/
def plankCtrl (n : Nat) (v : Word) (s : State) : Res :=
  let s := if wordField v (F.PLK_CTRL_ABORT n) = 1 then (plankAbort n s).2 else s
  if wordField v (F.PLK_CTRL_START n) = 1 then plankStart n s else okay s

/-- A waiting operation begins once its engine's domain is on (R582). -/
def plankPowered (n : Nat) (s : State) : State :=
  match tabGet none s.plank n with
  | none => s
  | some o =>
    let s := if o.waiting then stageBand n o s else s
    { s with plank := tabPut none s.plank n (some { o with waiting := false }) }

/-! ## Front buffers -/

/-- A running plank operation writes a byte of buffer b of overlay o (R287). -/
def State.plankWrites (s : State) (o b : Nat) : Bool :=
  [0, 1].any (fun n => match tabGet none s.plank n with
    | none => false
    | some op =>
      let p := plankParams op.words
      p.dst.pool == (s.overlayBuffer o b).pool && rangesMeet (rectRanges p.dst p.x p.y p.w p.h) [s.bufferRange o b])

/-- A write of OV_FRONT (R287, R288, R290). -/
def ovFrontWrite (o : Nat) (v : Word) (s : State) : Res :=
  if (s.path 3 o).state = 0 then refuse .window s
  else if s.bindField 3 o (F.OV_FMT_SOURCE o) = 1 then refuse .value s
  else if s.plankWrites o (wordField v (F.OV_FRONT_FRONT o)) then refuse .busy s
  else okay (s.stageWrite (R.OV_FRONT o) (v &&& 1))

/-- A complete OVERLAY unit is copied into the back buffer, which becomes front at the next fence (R288). -/
def overlayUnit (st : Nat) (data : Tab (Option Nat)) (s : State) : State :=
  (s.armedIds 3).foldl (fun s o =>
    if s.bindField 3 o (F.OV_FMT_SOURCE o) = 1 ∧ s.bindField 3 o (F.OV_FMT_STREAM_ID o) = st then
      let back := 1 - s.get (F.OV_FRONT_FRONT o)
      let f := s.overlayBuffer o back
      let n := f.pitch * (s.overlaySize o).2
      match s.pool f.pool with
      | none => s
      | some q =>
        let s := data.foldl (fun s e => if e.1 < n then
          s.poolWrite q (f.base + e.1) [BitVec.ofNat 8 (e.2.getD 0)] else s) s
        s.stage (R.OV_FRONT o) (BitVec.ofNat 32 back)
    else s) s

/-- The front buffers taken at a fence by the ARMED overlays (R287). -/
def takeFronts (s : State) : State :=
  (s.armedIds 3).foldl (fun s o =>
    let old := s.get (F.OV_FRONT_FRONT o)
    match s.stagedWord (R.OV_FRONT o) with
    | none => s
    | some _ =>
      let s := s.commit (R.OV_FRONT o)
      if s.get (F.OV_FRONT_FRONT o) = old then s else raiseWith 648 0 o s) s

/-! ## The commands -/

/-- PLANK_START (R277). -/
def execPlankStart (who : Requester) (engine : Fin 2) (s : State) : Host.Outcome State Fault Refusal :=
  whenLive s (request who (R.PLK_CTRL engine.val) (plankStart engine.val))

/-- PLANK_ABORT (R281). -/
def execPlankAbort (who : Requester) (engine : Fin 2) (s : State) : Host.Outcome State Fault Refusal :=
  whenLive s (request who (R.PLK_CTRL engine.val) (plankAbort engine.val))

/-- PLANK_BAND_COMPLETE (R279). -/
def execPlankBandComplete (engine : Fin 2) (s : State) : Host.Outcome State Fault Refusal :=
  whenLive s (plankBand engine.val)

/-- OV_FRONT_WRITE (R287). -/
def execOvFrontWrite (who : Requester) (overlay : Fin 16) (value : Word) (s : State) : Host.Outcome State Fault Refusal :=
  whenLive s (request who (R.OV_FRONT overlay.val) (ovFrontWrite overlay.val value))

end Sys2Proof.Machine
end

