-- ==== Sys2Proof/Machine/Geometry.lean ====
section
/-! DEFINITION. The geometry registers and what a new descriptor brings (spec/01_ray_space.md R39 to R46, R581;
spec/07_conformer.md R240, R241, R244, R259). -/

namespace Sys2Proof.Machine

/-- The addresses of GEOM_W0 to GEOM_W15. -/
def geomAddrs : List Nat := (upto 0 16).map R.GEOM_W

/-- The window of R39: IDLE_HOLD or CALIBRATE, and nothing armed. -/
def geomWindow (s : State) : Bool := (s.modeNow == 0x5 || s.modeNow == 0x4) && s.nothingArmed

/-- A write of GEOM_Wn (R39, R40, R42). -/
def geomWordWrite (n : Nat) (v : Word) (s : State) : Res :=
  if ¬ geomWindow s ∨ s.flag F.GEOM_STATUS_PENDING then refuse .window s
  else okay (s.stageWrite (R.GEOM_W n) v)

/-- The staged copy returns to the descriptor in force and PENDING clears (R43). -/
def geomDrop (s : State) : State := (s.unstageAll geomAddrs).set F.GEOM_STATUS_PENDING 0

/-- GEOM_CTRL.ARM (R39, R40, R42). DESIGN CHOICE: ARM written with PENDING 1 already while an object is armed answers WINDOW:
the window of R39 is tested before the OK of R42. -/
def geomArm (s : State) : Res :=
  if ¬ geomWindow s then refuse .window s
  else if s.flag F.GEOM_STATUS_PENDING then okay s
  else okay (s.set F.GEOM_STATUS_PENDING 1)

/-- GEOM_CTRL.DISCARD (R43). -/
def geomDiscard (s : State) : Res := okay (geomDrop s)

/-- A write of GEOM_CTRL (R39 to R43, R581). -/
def geomCtrlWrite (v : Word) (s : State) : Res :=
  let arm := wordField v F.GEOM_CTRL_ARM == 1
  let discard := wordField v F.GEOM_CTRL_DISCARD == 1
  if arm && discard then refuse .value s
  else if arm then geomArm s
  else if discard then geomDiscard s
  else okay s

/-- The map entry of a hogel in force (spec/07_conformer.md R242). -/
def State.mapEntry (s : State) (hogel : Nat) : Nat := tabGet 0 s.conf.map hogel

/-- The number of subpixels without a ray under a descriptor and a map (spec/07_conformer.md R240). -/
def unmappedCount (g : Geom) (map : Nat → Nat) : Nat :=
  ((upto 0 (g.panelW * g.panelH)).map (fun p =>
    ((upto 0 3).filter (fun k => subpixelRay g map (p % g.panelW) (p / g.panelW) k == .unmapped)).length)).sum

/-- CONF_UNMAPPED follows a new mapping; a non-zero count raises UNMAPPED (spec/07_conformer.md R240, R241). -/
def newMapping (s : State) : State :=
  let n := unmappedCount s.geom s.mapEntry
  let s := s.set F.CONF_UNMAPPED_COUNT n
  if n = 0 then s else raise 582 s

/-- Line rate of a link in units of 0.125 Gbaud: 3.125, 6.25, 12.5, 16.0 Gbaud (spec/09_serial_lanes.md R292). -/
def lineRate (code : Nat) : Nat := if code = 0 then 25 else if code = 1 then 50 else if code = 2 then 100 else 128

/-- The line rate of the panel link: in force while the link is UP, else as configured (assumption log entry 6). -/
def State.panelRate (s : State) : Nat :=
  lineRate (if s.get (F.LNK_STATUS_STATE 0) = 4 then s.get (F.LNK_STATUS_RATE_IN_FORCE 0) else s.get (F.LNK_CFG_RATE 0))

/-- NAP_LIMITED (R46): N × b × rate exceeds the usable payload 96 × 0.8 × line rate × 4092/4096 × 4000/4016
(spec/10_panel_protocol.md R355), compared exactly in bits per second. -/
def napLimited (s : State) : State :=
  let g := s.geom
  let need := rayCount g * rayBits g.rayFormat * g.rateNum * 4096 * 4016
  let have_ := s.panelRate * 125000000 * 96 * 8 / 10 * 4092 * 4000 * g.rateDen
  if s.hasGeom then s.set F.GEOM_STATUS_NAP_LIMITED (bit (decide (need > have_))) else s

/-- The staging pool that CONF_STAGE names, in 2 MiB units (R37 check 0xD). -/
def State.stagingUnits (s : State) : Nat :=
  match s.pool (s.get F.CONF_STAGE_POOL_ID) with
  | some p => if p.kind = 3 then p.size else 0
  | none => 0

/-- The greatest slot count up to FRAMES that a pool of the given units holds (spec/07_conformer.md R259). -/
def framesThatFit (g : Geom) (units : Nat) : Nat → Nat
  | 0 => 2
  | n + 1 => if stagingNeed g (n + 1) ≤ units then n + 1 else framesThatFit g units n

/-- The staging pool in force. -/
def State.stagingPool (s : State) : Option PoolRec :=
  (s.pool (s.get F.CONF_STAGE_POOL_ID)).filter (fun p => p.kind == 3)

/-- The bytes of a map written to a copy of the staging pool (R257). -/
def writeMapCopy (copy : Nat) (bs : List Byte) (s : State) : State :=
  match s.stagingPool with
  | none => s
  | some p => s.poolWrite p (copy * mapUnits s.geom * 2097152) (bs.take (mapUnits s.geom * 2097152))

/-- A conformation map as memory holds it: its header and one entry for each hogel (spec/07_conformer.md R243). -/
def mapImage (g : Geom) (map : Tab Nat) : List Byte :=
  let entries := (upto 0 (g.hogelsX * g.hogelsY)).flatMap (fun i => leBytes (tabGet 0 map i) 8)
  leBytes 0x50414D43 4 ++ leBytes 1 4 ++ leBytes g.hogelsX 2 ++ leBytes g.hogelsY 2 ++ leBytes 0 4 ++
    leBytes (crc32c entries) 4 ++ leBytes 0 12 ++ entries

/-- The map in force stands in its copy of the staging pool (spec/07_conformer.md R257): written where the map or the pool is
new. -/
def storeMap (s : State) : State := writeMapCopy s.conf.mapCopy (mapImage s.geom s.conf.map) s

/-- 64 descriptor bytes take force: words, ray and tile counts, an all-zero map where the hogel array changed
(spec/07_conformer.md R244), the slot count that fits (R259), the first frame whole (R45), NAP_LIMITED (R46). -/
def installGeom (bs : List Byte) (s : State) : State :=
  let old := s.geom
  let g := geomOfBytes bs
  let s := (upto 0 16).foldl (fun s n => s.setWord (R.GEOM_W n) (BitVec.ofNat 32 (leAt bs (4 * n) 4))) s
  let s := s.unstageAll geomAddrs
  let s := s.set F.GEOM_RAYS_RAY_COUNT (rayCount g)
  let s := (s.set F.GEOM_TILES_TILES_X (tilesX g)).set F.GEOM_TILES_TILES_Y (tilesY g)
  let s := if old.hogelsX = g.hogelsX ∧ old.hogelsY = g.hogelsY then s
    else storeMap (({ s with conf := { s.conf with map := [] } }).set F.CONF_MAPSTATUS_SOURCE 0)
  let s := { s with conf := { s.conf with whole := true, refUndefined := true, refPanel := [] } }
  let s := s.set F.CONF_FRAME_FRAMES_IN_FORCE (framesThatFit g s.stagingUnits (s.get F.CONF_STAGE_FRAMES))
  napLimited s

/-- The staged descriptor at a fence (R41): sampled, checked, taken or refused. True when it took force. -/
def geomTake (s : State) : Bool × State :=
  if ¬ s.flag F.GEOM_STATUS_PENDING then (false, s) else
  let bs := (upto 0 16).flatMap (fun n => leBytes (s.nextWord (R.GEOM_W n)).toNat 4)
  let err := geomCheck bs s.stagingUnits
  let s := geomDrop s
  let s := s.set F.GEOM_STATUS_ERR err
  if err = 0 then (true, newMapping ((installGeom bs s).set F.GEOM_STATUS_SOURCE 1))
  else (false, raise 576 s)

/-- GEOM_WORD_WRITE (R40). -/
def execGeomWordWrite (who : Requester) (word : Fin 16) (value : Word) (s : State) : Host.Outcome State Fault Refusal :=
  whenLive s (request who (R.GEOM_W word.val) (geomWordWrite word.val value))

/-- GEOM_ARM (R40). -/
def execGeomArm (who : Requester) (s : State) : Host.Outcome State Fault Refusal :=
  whenLive s (request who R.GEOM_CTRL geomArm)

/-- GEOM_DISCARD (R43). -/
def execGeomDiscard (who : Requester) (s : State) : Host.Outcome State Fault Refusal :=
  whenLive s (request who R.GEOM_CTRL geomDiscard)

end Sys2Proof.Machine
end

