-- ==== Sys2Proof/Machine/MapCheck.lean ====
section
/-! DEFINITION. Checks of conformation maps and sizing sets (spec/07_conformer.md R242 to R245; spec/19_sizing_records.md
R536 to R540). -/

namespace Sys2Proof.Machine

/-! ## Conformation maps -/

/-- The number of bytes of the fuller stream that starts at 0 of a source, by its block headers (R476, R477); none when it
does not end within the fuel or the limit. -/
def fullerExtent (read : Nat → Nat → List Byte) (limit : Nat) : Nat → Nat → Option Nat
  | 0, _ => none
  | fuel + 1, pos =>
    if pos + 8 > limit then none
    else
      let h := read pos 8
      if leAt h 0 1 = 0 then some (pos + 8) else fullerExtent read limit fuel (pos + 8 + leAt h 4 4)

/-- The entries of a map (R243). -/
def mapEntries (bs : List Byte) : List Nat := (upto 0 ((bs.length - 32) / 8)).map (fun i => leAt bs (32 + 8 * i) 8)

/-- The difference of two signed fields exceeds a step. -/
def stepBad (f : Nat → Int) (a b step : Nat) : Bool := decide ((f a - f b).natAbs > step)

/-- Two neighbouring entries break the steps of R538; entries with BLACK are not compared. -/
def neighbourBad (stepXY stepRS a b : Nat) : Bool :=
  slice a 56 56 == 0 && slice b 56 56 == 0 &&
  (stepBad mapDx a b stepXY || stepBad mapDy a b stepXY || stepBad mapRot a b stepRS || stepBad mapScale a b stepRS)

/-- Entry i of a map that is hx wide breaks the limits of R538. -/
def entryImplausible (g : Geom) (stepXY stepRS hx : Nat) (es : List Nat) (i : Nat) : Bool :=
  let e := es.getD i 0
  decide ((mapDx e).natAbs > g.pitchX / 2) || decide ((mapDy e).natAbs > g.pitchY / 2) ||
  (hx != 0 && i % hx != 0 && neighbourBad stepXY stepRS e (es.getD (i - 1) 0)) ||
  (decide (hx ≤ i) && hx != 0 && neighbourBad stepXY stepRS e (es.getD (i - hx) 0))

/-- The first entry of a map that fails a test. -/
def firstEntry (es : List Nat) (bad : Nat → Bool) : Option Nat := (upto 0 es.length).find? bad

/-- Checks 0x3 to 0x6 of R245: the code, 0 when all pass, and the entry of code 0x6. -/
def mapHeaderCheck (g : Geom) (bs : List Byte) : Nat × Nat :=
  if leAt bs 0 4 ≠ 0x50414D43 ∨ leAt bs 4 2 ≠ 1 ∨ leAt bs 6 2 ≠ 0 ∨ leAt bs 12 4 ≠ 0 ∨
      !allZero ((bs.drop 0x14).take 12) then (0x3, 0)
  else if leAt bs 8 2 ≠ g.hogelsX ∨ leAt bs 10 2 ≠ g.hogelsY then (0x4, 0)
  else if leAt bs 0x10 4 ≠ crc32c (bs.drop 32) then (0x5, 0)
  else match firstEntry (mapEntries bs) (fun i => slice ((mapEntries bs).getD i 0) 63 57 != 0) with
    | some i => (0x6, i)
    | none => (0, 0)

/-- Checks 0x3 to 0x7 of R245 on the bytes of a map. -/
def mapCheck (g : Geom) (stepXY stepRS : Nat) (bs : List Byte) : Nat × Nat :=
  match mapHeaderCheck g bs with
  | (0, _) =>
    match firstEntry (mapEntries bs) (entryImplausible g stepXY stepRS g.hogelsX (mapEntries bs)) with
    | some i => (0x7, i)
    | none => (0, 0)
  | r => r

/-- The bytes that a map needs under a descriptor (R243). -/
def mapBytes (g : Geom) : Nat := 32 + 8 * g.hogelsX * g.hogelsY

/-! ## Sizing sets -/

/-- A record of a sizing set (R536). -/
structure SizRecord where
  type : Nat
  instance_ : Nat
  body : List Byte
  /-- its header and CRC are right (checks 0x3 and 0x4) -/
  headerGood : Bool
  crcGood : Bool
  deriving DecidableEq, Repr

/-- The number of instances of a type (R537). -/
def sizInstances (type : Nat) : Nat := if type = 3 then 8 else if type = 4 then 2 else 1

/-- Check 0x5 without the fuller stream: the LENGTH that a TYPE has (R537). -/
def sizLengthBad (type n : Nat) : Bool :=
  if type = 6 then decide (n < 24) || decide (n > 8388524)
  else n != (if type = 1 then 64 else if type = 2 then 16 else if type = 3 then 1024 else if type = 4 then 8 else 20)

/-- The records of a set from position pos, with whether the gap before each is zero (R536); a record whose header
overruns the set ends the list. -/
def sizRecords (bs : List Byte) : Nat → Nat → List SizRecord
  | 0, _ => []
  | n + 1, pos =>
    let h := (bs.drop pos).take 16
    let len := leAt h 8 4
    let end_ := pos + 16 + len + 4
    let type := leAt h 4 1
    let inst := leAt h 6 2
    let good := h.length == 16 && leAt h 0 4 == 0x43525A53 && leAt h 5 1 == 1 && leAt h 12 4 == 0 &&
      decide (1 ≤ type) && decide (type ≤ 6) && decide (inst < sizInstances type) && decide (end_ ≤ bs.length)
    let next := ceilDiv end_ 64 * 64
    let gap := allZero ((bs.drop end_).take (next - end_))
    let r : SizRecord := ⟨type, inst, (bs.drop (pos + 16)).take len, good && gap,
      leAt bs (pos + 16 + len) 4 == crc32c ((bs.drop pos).take (16 + len))⟩
    if good then r :: sizRecords bs n next else [r]

/-- Checks 0x1 and 0x2 of R539 on the bytes of a copy or of a staged set: the code and the set's own bytes. -/
def sizSetCheck (bs : List Byte) : Nat × List Byte :=
  let len := leAt bs 12 4
  if leAt bs 0 4 ≠ 0x535A4953 ∨ leAt bs 4 2 ≠ 1 ∨ leAt bs 6 2 > 16 ∨ len % 64 ≠ 0 ∨ len < 64 ∨ len > 8388608 ∨
      len > bs.length ∨ !allZero ((bs.drop 16).take 44) then (1, [])
  else if leAt bs 0x3C 4 ≠ crc32c (bs.take 0x3C ++ (bs.take len).drop 0x40) then (2, [])
  else (0, bs.take len)

/-- The records of a set that passed checks 0x1 and 0x2. -/
def sizSetRecords (bs : List Byte) : List SizRecord := sizRecords bs (leAt bs 6 2) 64

/-- What the checks of a record depend on: descriptor, SIZ_LIMIT and the LNK_PRESET field test. -/
structure SizLimits where
  geom : Geom
  stepXY : Nat
  stepRS : Nat

/-- A word of LNK_PRESETn whose fields lie outside their range (spec/09_serial_lanes.md): POST and PRE of 0 to 31 and
63, MAIN, reserved bits; given as a test. -/
def presetBad (ok : Nat → Bool) (body : List Byte) : Bool := (upto 0 4).any (fun i => !ok (leAt body (4 * i) 4))

/-- The decompressed map of a map record, when its stream passes. -/
def sizMap (r : SizRecord) : Option (List Byte) :=
  match fullerDecompress r.body (2 ^ 32 - 1) with
  | .ok bs => some bs
  | .error _ => none

/-- An entry of a diode trim record breaks R538. -/
def trimBad (body : List Byte) : Bool :=
  (upto 0 16).any (fun i =>
    let off := signedOf 16 (leAt body (4 * i) 2)
    let gain := leAt body (4 * i + 2) 2
    decide (off < -640) || decide (off > 640) || decide (gain < 0x3CCD) || decide (gain > 0x4333))

/-- An HBM training record breaks R538. -/
def trainBad (body : List Byte) : Bool :=
  (upto 0 32).any (fun i =>
    let e := (body.drop (32 * i)).take 32
    (e.take 10).any (fun b => decide (b.toNat > 127)) || decide (leAt e 10 1 < 16) || decide (leAt e 10 1 > 112) ||
    !allZero (e.drop 11))

/-- A row adjacency record breaks R538. -/
def adjacencyBad (body : List Byte) : Bool :=
  let a := leAt body 0 2
  let b := leAt body 2 2
  a == 0 || decide (a > 16383) || b == 0 || decide (b > 16383) || a == b || !allZero (body.drop 4)

/-- A colour-matrix record breaks R538. -/
def matrixBad (body : List Byte) : Bool :=
  (upto 0 9).any (fun i =>
    let c := signedOf 16 (leAt body (2 * i) 2)
    if i % 4 = 0 then decide (c < 0x800) || decide (c > 0x2000) else decide (c < -0x1000) || decide (c > 0x1000)) ||
  !allZero (body.drop 18)

/-- Check 0x6 of a record: whether it fails, and the entry of a map. -/
def sizEntryBad (l : SizLimits) (ok : Nat → Bool) (r : SizRecord) : Option Nat :=
  let yes := fun (b : Bool) => if b then some 0 else none
  if r.type = 1 then yes (trimBad r.body)
  else if r.type = 2 then yes (presetBad ok r.body)
  else if r.type = 3 then yes (trainBad r.body)
  else if r.type = 4 then yes (adjacencyBad r.body)
  else if r.type = 5 then yes (matrixBad r.body)
  else match sizMap r with
    | none => none
    | some m => firstEntry (mapEntries m) (entryImplausible l.geom l.stepXY l.stepRS (leAt m 8 2) (mapEntries m))

/-- Check 0x7 of a record. -/
def sizMapBad (l : SizLimits) (r : SizRecord) : Bool :=
  r.type == 6 && (match sizMap r with
    | none => true
    | some m => m.length != mapBytes l.geom || (mapHeaderCheck l.geom m).1 != 0)

/-- Checks 0x5 to 0x7 of one record (R535: record by record at reset): code and entry. -/
def sizRecordCheck (l : SizLimits) (ok : Nat → Bool) (r : SizRecord) : Nat × Nat :=
  if sizLengthBad r.type r.body.length ∨ (r.type = 6 ∧ sizMap r = none) then (5, 0)
  else match sizEntryBad l ok r with
    | some i => (6, i)
    | none => if sizMapBad l r then (7, 0) else (0, 0)

/-- A TYPE and INSTANCE pair occurs earlier in the list. -/
def sizRepeats : List SizRecord → List SizRecord
  | [] => []
  | r :: t => t.filter (fun q => q.type == r.type && q.instance_ == r.instance_) ++ sizRepeats t

/-- The checks 0x3 to 0x7 of R539 in the order of their codes over all records: code, failing TYPE, entry. -/
def sizCheckRecords (l : SizLimits) (ok : Nat → Bool) (count : Nat) (rs : List SizRecord) : Nat × Nat × Nat :=
  match rs.find? (fun r => !r.headerGood), sizRepeats rs with
  | some r, _ => (3, r.type, 0)
  | none, q :: _ => (3, q.type, 0)
  | none, [] =>
    if rs.length ≠ count then (3, 0, 0)
    else match rs.find? (fun r => !r.crcGood) with
      | some r => (4, r.type, 0)
      | none =>
        match [5, 6, 7].findSome? (fun code =>
            rs.findSome? (fun r => match sizRecordCheck l ok r with
              | (c, e) => if c = code then some (code, r.type, e) else none)) with
        | some x => x
        | none => (0, 0, 0)

/-- A set built from records, padded to 64-byte starts (R536, R543). -/
def sizBuild (seq : Nat) (rs : List (Nat × Nat × List Byte)) : List Byte :=
  let pad := fun (b : List Byte) => b ++ List.replicate (ceilDiv b.length 64 * 64 - b.length) (0 : Byte)
  let rec1 := fun (r : Nat × Nat × List Byte) =>
    let b : List Byte := leBytes 0x43525A53 4 ++ leBytes r.1 1 ++ leBytes 1 1 ++ leBytes r.2.1 2 ++
      leBytes r.2.2.length 4 ++ leBytes 0 4 ++ r.2.2
    pad (b ++ leBytes (crc32c b) 4)
  let body := rs.flatMap rec1
  let head : List Byte := leBytes 0x535A4953 4 ++ leBytes 1 2 ++ leBytes rs.length 2 ++ leBytes seq 4 ++
    leBytes (64 + body.length) 4 ++ List.replicate 44 (0 : Byte)
  head ++ leBytes (crc32c (head ++ body)) 4 ++ body

end Sys2Proof.Machine
end

