-- ==== Sys2Proof/Machine/Conformer.lean ====
section
/-! DEFINITION. The conformer: host maps, the colour set, the staging pool, ray frames and owed tiles
(spec/07_conformer.md R240 to R268). -/

namespace Sys2Proof.Machine

/-- The state with its conformer part replaced. -/
def State.withConf (s : State) (c : ConfState) : State := { s with conf := c }

/-- A ray-frame slot. -/
def State.frame (s : State) (h : Nat) : FrameEntry := tabGet {} s.conf.frames h

/-- A ray-frame slot replaced. -/
def State.setFrame (s : State) (h : Nat) (f : FrameEntry) : State :=
  s.withConf { s.conf with frames := tabPut {} s.conf.frames h f }

/-- The slots in use. -/
def State.handles (s : State) : List Nat := upto 0 (s.get F.CONF_FRAME_FRAMES_IN_FORCE)

/-- The slots whose frame is in a state (R377). -/
def State.framesIn (s : State) (st : Nat) : List Nat := (upto 0 32).filter (fun h => (s.frame h).state == st)

/-! ## Maps (R242 to R247) -/

/-- A host map fails: PENDING and READY return to 0, ERR and ENTRY take the code (R245 step 5). -/
def mapReject (code entry : Nat) (s : State) : State :=
  let s := s.withConf { s.conf with load := none }
  let s := ((s.set F.CONF_MAPSTATUS_PENDING 0).set F.CONF_MAPSTATUS_READY 0).set F.CONF_MAPSTATUS_ERR code
  raise 577 (s.set F.CONF_MAPENTRY_ENTRY (if code = 6 ∨ code = 7 then entry else 0))

/-- The source of a host map: none when check 0x1 fails, else its bytes or the code 0x2 (R245). -/
def State.mapSource (s : State) : Option (Except Nat (List Byte)) :=
  match s.pool (s.get F.CONF_MAPSRC_POOL_ID) with
  | none => none
  | some p =>
    let off := (s.word R.CONF_MAPOFF).toNat
    let need := mapBytes s.geom
    if p.kind ≠ 0 ∧ p.kind ≠ 9 then none
    else if s.get F.CONF_MAPSRC_FULLER = 0 then
      if off + need > poolBytes p then none else some (.ok (s.poolRead p off need))
    else if off + 24 > poolBytes p then none
    else
      match fullerExtent (fun a n => s.poolRead p (off + a) n) (poolBytes p - off) (need / 65536 + 3) 16 with
      | none => some (.error 2)
      | some n => match fullerDecompress (s.poolRead p off n) need with
        | .ok bs => some (if bs.length = need then .ok bs else .error 2)
        | .error _ => some (.error 2)

/-- CONF_MAPCTRL.ARM: the map is copied into the inactive copy (R245 steps 1 and 2, R246). -/
def mapArm (s : State) : Res :=
  if s.flag F.CONF_MAPSTATUS_PENDING then refuse .window s
  else
    let t := s.set F.CONF_MAPSTATUS_PENDING 1
    let t := if s.get F.CONF_MAPSRC_FULLER = 1 ∧ s.mapSource.isSome then yieldFuller t else t
    match s.mapSource with
    | none => okay (mapReject 1 0 t)
    | some (.error e) => okay (t.withConf { t.conf with load := some ⟨[], e, false⟩ })
    | some (.ok bs) =>
      let t := t.withConf { t.conf with load := some ⟨bs, 0, false⟩ }
      okay (writeMapCopy (1 - t.conf.mapCopy) bs t)

/-- The copy being loaded is dropped, without ERR (R246). -/
def mapDrop (s : State) : State :=
  let s := s.withConf { s.conf with load := none }
  (s.set F.CONF_MAPSTATUS_PENDING 0).set F.CONF_MAPSTATUS_READY 0

/-- CONF_MAPCTRL.DISCARD (R246). -/
def mapDiscard (s : State) : Res := okay (mapDrop s)

/-- A write of CONF_MAPCTRL (R581). -/
def mapCtrlWrite (v : Word) (s : State) : Res :=
  let arm := wordField v F.CONF_MAPCTRL_ARM == 1
  let discard := wordField v F.CONF_MAPCTRL_DISCARD == 1
  if arm && discard then refuse .value s else if arm then mapArm s else if discard then mapDiscard s else okay s

/-- A write of CONF_MAPSRC or CONF_MAPOFF (R246). -/
def mapSrcWrite (a : Nat) (v : Word) (s : State) : Res :=
  if s.flag F.CONF_MAPSTATUS_PENDING then refuse .window s
  else if a = R.CONF_MAPOFF then
    if v.toNat % 64 ≠ 0 then refuse .value s else okay (s.setWord a v)
  else okay ((s.set F.CONF_MAPSRC_FULLER (wordField v F.CONF_MAPSRC_FULLER)).set F.CONF_MAPSRC_POOL_ID
    (wordField v F.CONF_MAPSRC_POOL_ID))

/-- MAP_CHECK_DONE: the checks of the copy end (R245 steps 3 to 5). -/
def mapCheckDone (s : State) : State :=
  match s.conf.load with
  | none => s
  | some l =>
    if s.flag F.CONF_MAPSTATUS_READY then s
    else if l.early ≠ 0 then mapReject l.early 0 s
    else
      match mapCheck s.geom (s.get F.SIZ_LIMIT_STEP_DXY) (s.get F.SIZ_LIMIT_STEP_RS) l.bytes with
      | (0, _) => ((s.set F.CONF_MAPSTATUS_READY 1).set F.CONF_MAPSTATUS_ERR 0).set F.CONF_MAPENTRY_ENTRY 0
      | (c, e) => mapReject c e s

/-- The entries of a map as a table. -/
def mapTable (bs : List Byte) : Tab Nat :=
  ((upto 0 (mapEntries bs).length).zip (mapEntries bs)).filter (fun e => e.2 != 0)

/-- A map takes force in the inactive copy with a SOURCE (R245 step 4, R241). -/
def mapTakeBytes (bs : List Byte) (source : Nat) (s : State) : State :=
  let s := s.withConf { s.conf with map := mapTable bs, mapCopy := 1 - s.conf.mapCopy }
  newMapping (raise 578 (s.set F.CONF_MAPSTATUS_SOURCE source))

/-- A READY host map at a fence (R245 step 4, R247). -/
def mapTake (s : State) : State :=
  match s.conf.load, s.flag F.CONF_MAPSTATUS_READY with
  | some l, true =>
    if leAt l.bytes 8 2 ≠ s.geom.hogelsX ∨ leAt l.bytes 10 2 ≠ s.geom.hogelsY then mapReject 4 0 s
    else mapDrop (mapTakeBytes l.bytes 2 s)
  | _, _ => s

/-! ## The colour set (R255) -/

/-- An address of the colour set. -/
def isColourAddr (a : Nat) : Bool :=
  a == R.CONF_COLOUR || (decide (R.CONF_MATRIX 0 ≤ a) && decide (a ≤ R.CONF_MATRIX 4)) ||
  (decide (R.CONF_GAIN 0 ≤ a) && decide (a ≤ R.CONF_GAIN 127)) ||
  (decide (R.CONF_TFLUT 0 ≤ a) && decide (a ≤ R.CONF_TFLUT 7680))

/-- The staged words of the colour set. -/
def State.stagedColour (s : State) : List Nat := (s.staged.map (fun e => e.1)).filter isColourAddr

/-- A write of a colour-set register (R251, R255). -/
def colourWrite (a : Nat) (v : Word) (s : State) : Res :=
  if s.flag F.CONF_COLSTATUS_PENDING then refuse .window s
  else if a = R.CONF_COLOUR then
    if wordField v F.CONF_COLOUR_TF_SEL > 4 then refuse .value s else okay (s.stageWrite a (v &&& 0x37))
  else if R.CONF_TFLUT 0 ≤ a then
    if slice v.toNat 31 28 ≠ 0 ∨ slice v.toNat 15 12 ≠ 0 then refuse .value s
    else okay (s.stageWrite a (if a = R.CONF_TFLUT 7680 then v &&& 0xFFF else v))
  else if a = R.CONF_MATRIX 4 then okay (s.stageWrite a (v &&& 0xFFFF))
  else okay (s.stageWrite a v)

/-- The staged colour set returns to the set in force. -/
def colourDrop (s : State) : State := (s.unstageAll s.stagedColour).set F.CONF_COLSTATUS_PENDING 0

/-- The staged copy of every matrix word: a record that takes force before the armed set leaves no word of it behind
(R256). -/
def stageMatrix (s : State) : State :=
  (upto 0 5).foldl (fun s n => s.stage (R.CONF_MATRIX n) (s.nextWord (R.CONF_MATRIX n))) s

/-- CONF_COLCTRL.ARM (R255, R256). -/
def colourArm (s : State) : Res :=
  if s.flag F.CONF_COLSTATUS_PENDING then refuse .window s else okay ((stageMatrix s).set F.CONF_COLSTATUS_PENDING 1)

/-- CONF_COLCTRL.DISCARD (R255). -/
def colourDiscard (s : State) : Res := okay (colourDrop s)

/-- A write of CONF_COLCTRL (R581). -/
def colCtrlWrite (v : Word) (s : State) : Res :=
  let arm := wordField v F.CONF_COLCTRL_ARM == 1
  let discard := wordField v F.CONF_COLCTRL_DISCARD == 1
  if arm && discard then refuse .value s else if arm then colourArm s else if discard then colourDiscard s else okay s

/-- The armed colour set takes force at a fence (R255). -/
def colourTake (s : State) : State :=
  if ¬ s.flag F.CONF_COLSTATUS_PENDING then s
  else
    let s := (s.commitAll s.stagedColour).set F.CONF_COLSTATUS_PENDING 0
    raise 579 (s.set F.CONF_COLSTATUS_TF_IN_FORCE (s.get F.CONF_COLOUR_TF_SEL))

/-- The host table of the registers of a snapshot: entry p. -/
def hostTable (regs : Tab Word) (p : Nat) : Nat :=
  let w := snapWord regs (R.CONF_TFLUT (p / 2))
  if p % 2 = 0 then slice w 11 0 else slice w 27 16

/-- The colour set of a register snapshot. -/
def colourSet (regs : Tab Word) : ColourSet where
  tfSel := snapField regs F.CONF_COLOUR_TF_SEL
  dithEn := snapField regs F.CONF_COLOUR_DITH_EN == 1
  dithRotate := snapField regs F.CONF_COLOUR_DITH_ROTATE == 1
  matrix := (upto 0 9).map (fun i => let w := snapWord regs (R.CONF_MATRIX (i / 2))
    if i % 2 = 0 then slice w 15 0 else slice w 31 16)
  gain := []
  host := []

/-- The gain of a view (R250). -/
def viewGain (regs : Tab Word) (u v : Nat) : Nat :=
  let g := 16 * v + u
  let w := snapWord regs (R.CONF_GAIN (g / 2))
  if g % 2 = 0 then slice w 15 0 else slice w 31 16

/-- The word of CONF_TFLUTn as it reads: the table in force, a preset included (R251). -/
def tflutWord (n : Nat) (s : State) : Word :=
  let sel := s.get F.CONF_COLSTATUS_TF_IN_FORCE
  if sel = 4 then s.word (R.CONF_TFLUT n)
  else
    let c := transferCode sel (fun _ => 0)
    BitVec.ofNat 32 (c (2 * n) + (if n < 7680 then 65536 * c (2 * n + 1) else 0))

/-! ## The staging pool (R257 to R259) -/

/-- A write of CONF_STAGE (R259). -/
def stagePoolWrite (v : Word) (s : State) : Res :=
  let frames := wordField v F.CONF_STAGE_FRAMES
  if ¬ (s.armedIds 2).isEmpty ∨ s.armed 4 0 then refuse .window s
  else if frames < 2 ∨ frames > 32 then refuse .value s
  else match s.pool (wordField v F.CONF_STAGE_POOL_ID) with
    | none => refuse .pool s
    | some p =>
      if p.kind ≠ 3 ∨ p.size < stagingNeed s.geom frames then refuse .pool s
      else
        let s := (s.set F.CONF_STAGE_POOL_ID p.id).set F.CONF_STAGE_FRAMES frames
        let s := s.set F.CONF_FRAME_FRAMES_IN_FORCE frames
        okay (storeMap (s.withConf { s.conf with refUndefined := true, refPanel := [], whole := true }))

/-- Byte of the reference in the staging pool. -/
def refBase (g : Geom) : Nat := 2 * mapUnits g * 2097152

/-- Byte of slot h in the staging pool. -/
def slotBase (g : Geom) (h : Nat) : Nat := (2 * mapUnits g + refUnits g + h * slotUnits g) * 2097152

/-- The bits of colour c (0 red, 1 green, 2 blue) in a container of w-bit channels (R26). -/
def channelOf (w v c : Nat) : Nat := slice v (w * (2 - c) + w - 1) (w * (2 - c))

/-- A container from its three channels. -/
def packChannels (w r g b : Nat) : Nat := (r * 2 ^ w + g) * 2 ^ w + b

/-- The reference container of a pixel (R257); a free value while the reference is undefined (R259). -/
def refPixel (g : Geom) (px py : Nat) (s : State) : Nat × State :=
  match s.stagingPool, s.conf.refUndefined with
  | some p, false => (leNat (s.poolRead p (refBase g + py * refPitch g + 6 * px) 6) % 2 ^ 36, s)
  | _, _ => let (n, s) := s.draw; (n % 2 ^ 36, s)

/-- The reference container of a pixel replaced. -/
def setRefPixel (g : Geom) (px py v : Nat) (s : State) : State :=
  match s.stagingPool with
  | some p => s.poolWrite p (refBase g + py * refPitch g + 6 * px) (leBytes v 6)
  | none => s

/-- The link container of a pixel in slot h replaced (R258). -/
def setFramePixel (g : Geom) (h px py v : Nat) (s : State) : State :=
  match s.stagingPool with
  | some p =>
    let w := rayContainer g.rayFormat
    s.poolWrite p (slotBase g h + py * framePitch g + w * px) (leBytes v w)
  | none => s

/-- The nap map of slot h (R258). -/
def writeNapMap (g : Geom) (h : Nat) (dirty : List Nat) (s : State) : State :=
  match s.stagingPool with
  | some p =>
    let byte := fun (i : Nat) => BitVec.ofNat 8 ((upto 0 8).foldl
      (fun acc b => if dirty.contains (8 * i + b) then acc + 2 ^ b else acc) 0)
    s.poolWrite p (slotBase g h + framePitch g * g.panelH) ((upto 0 (napBytes g)).map byte)
  | none => s

/-- The reference of a pixel lies in a poisoned word (spec/14_hbm_controller.md R449). -/
def State.refPoisoned (s : State) (g : Geom) (px py : Nat) : Bool :=
  match s.stagingPool with
  | some p => s.hbmPoisoned (poolBase p + refBase g + py * refPitch g + 6 * px) 6
  | none => false

/-- What a pixel of slot h, and its reference, take from a poisoned reference is poisoned too: it never reaches the panel
(spec/14_hbm_controller.md R449). -/
def poisonPixel (g : Geom) (h px py : Nat) (s : State) : State :=
  match s.stagingPool with
  | some p =>
    let w := rayContainer g.rayFormat
    (s.poisonWord ((poolBase p + refBase g + py * refPitch g + 6 * px) / 32)).poisonWord
      ((poolBase p + slotBase g h + py * framePitch g + w * px) / 32)
  | none => s

/-! ## Tiles -/

/-- The nap-map tile of a pixel (R35, R258). -/
def tileOf (g : Geom) (px py : Nat) : Nat := py / 64 * tilesX g + px / 64

/-- The pixels of a nap-map tile. -/
def tilePixels (g : Geom) (t : Nat) : List (Nat × Nat) :=
  let tx := t % tilesX g
  let ty := t / tilesX g
  (upto (64 * ty) (min 64 (g.panelH - 64 * ty))).flatMap (fun py =>
    (upto (64 * tx) (min 64 (g.panelW - 64 * tx))).map (fun px => (px, py)))

/-- Every tile of the nap map. -/
def allTiles (g : Geom) : List Nat := upto 0 (tilesX g * tilesY g)

/-- The hogel tiles of the conformer's work items (R261). -/
def hogelTiles (g : Geom) : List Nat := upto 0 (ceilDiv g.hogelsX 64 * ceilDiv g.hogelsY 64)

/-- The hogel tile of a hogel. -/
def hogelTile (g : Geom) (hx hy : Nat) : Nat := hy / 64 * ceilDiv g.hogelsX 64 + hx / 64

/-- Link code of one 12-bit code for a frame's colour set and phase. -/
def frameLink (g : Geom) (f : FrameEntry) (panelCode : Bool) (c px py code : Nat) : Nat :=
  linkCode g.rayFormat (snapField f.regs F.CONF_COLOUR_DITH_EN == 1) panelCode f.phase c px py code

/-- The channel width of the link format. -/
def linkBits (g : Geom) : Nat := if g.rayFormat = 0 then 10 else 12

/-- The reference code of colour c of a pixel is a panel code of a RAWRAY layer (R254). -/
def State.refIsPanel (s : State) (g : Geom) (px py c : Nat) : Bool :=
  s.conf.refPanel.contains (3 * (py * g.panelW + px) + subpixelColour g.layout c)

/-- A pixel of slot h takes the reduced reference codes; panel codes of a RAWRAY layer are reduced without dither (R254,
R264). -/
def fillPixel (g : Geom) (h : Nat) (f : FrameEntry) (s : State) (p : Nat × Nat) : State :=
  let (v, s) := refPixel g p.1 p.2 s
  let l := fun c => frameLink g f (s.refIsPanel g p.1 p.2 c) c p.1 p.2 (channelOf 12 v c)
  let bad := s.refPoisoned g p.1 p.2
  let s := setFramePixel g h p.1 p.2 (packChannels (linkBits g) (l 0) (l 1) (l 2)) s
  if bad then poisonPixel g h p.1 p.2 s else s

/-- Tiles of a completed frame are made dirty and filled from the reference (R264); CONF_DIRTY counts them where the frame is
the last completed one (R266). -/
def dirtyTiles (h : Nat) (ts : List Nat) (s : State) : State :=
  let g := s.geom
  let f := s.frame h
  let new := ts.filter (fun t => !f.dirty.contains t)
  let s := new.foldl (fun s t => (tilePixels g t).foldl (fillPixel g h f) s) s
  let dirty := new.foldl (fun d t => setInsert t d) f.dirty
  let s := if f.completed ∧ s.get F.CONF_FRAME_LAST_HANDLE = h then s.set F.CONF_DIRTY_TILES dirty.length else s
  writeNapMap g h dirty (s.setFrame h { f with dirty := dirty })

/-- The next frame whose pushes have not begun: the READY frame with the least launch time, a frame without one last. -/
def State.nextReady (s : State) : Option Nat :=
  (s.framesIn 2).foldl (fun best h =>
    match best with
    | none => some h
    | some b =>
      match (s.frame h).launch, (s.frame b).launch with
      | some x, some y => if x < y then some h else best
      | some _, none => some h
      | _, _ => best) none

/-- Owed tiles are ORed into the nap map of the frame in a slot, or wait for the next frame (R265). -/
def oweTilesTo (dest : Option Nat) (ts : List Nat) (s : State) : State :=
  match dest with
  | some h => dirtyTiles h ts s
  | none => s.withConf { s.conf with owed := ts.foldl (fun o t => setInsert t o) s.conf.owed }

/-- Tiles become owed to the next frame whose pushes have not begun (R265). -/
def oweTiles (ts : List Nat) (s : State) : State := oweTilesTo s.nextReady ts s

/-! ## Ray frames (R260 to R268) -/

/-- The lowest free slot. -/
def State.freeSlot (s : State) : Option Nat := s.handles.find? (fun h => (s.frame h).state == 0)

/-- The conformer builds a frame. -/
def State.building (s : State) : Bool := !(s.framesIn 1).isEmpty

/-- A frame that finds no free slot is counted once and raises STAGE_WAIT once (R260). -/
def stageWait (s : State) : State :=
  if s.conf.waited then s
  else raise 580 ((s.withConf { s.conf with waited := true }).bump (F.CONF_CNT_COUNT 2))

/-- An instant of the list covers a hogel. -/
def instantCovers (regs : Tab Word) (l hx hy : Nat) : Bool :=
  let x0 := snapField regs (F.CARD_LYR_ORIGIN_X0 l)
  let y0 := snapField regs (F.CARD_LYR_ORIGIN_Y0 l)
  decide (x0 ≤ hx) && decide (hx < x0 + snapField regs (F.CARD_LYR_SIZE_W l)) &&
  decide (y0 ≤ hy) && decide (hy < y0 + snapField regs (F.CARD_LYR_SIZE_H l))

/-- A frame starts in slot h with the instants given (R260, R374): its register words, map, phase and work items. The first
frame after a load is frame 1 (R253 and its example). -/
def startFrame (h : Nat) (launch target : Option Nat) (late : Bool) (insts : List Instant) (s : State) : State :=
  let n := s.conf.started
  let fronts := insts.flatMap (fun i => i.fronts)
  let mask := fun (b : Nat) => (upto 0 16).foldl
    (fun acc o => if fronts.any (fun e => e.overlay == o && (b == 2 || e.buffer == b)) then acc + 2 ^ o else acc) 0
  let f : FrameEntry := {
    state := 1, launch := launch, target := target, late := late, order := n
    instants := insts.map (fun i => (i.layer, i.count))
    used := mask 2, buf1 := mask 1
    phase := if s.flag F.CONF_COLOUR_DITH_ROTATE then (n + 1) % 4 else 0
    todo := hogelTiles s.geom, whole := s.conf.whole, map := s.conf.map, regs := s.regs }
  let s := s.setFrame h f
  let s := s.withConf { s.conf with
    started := n + 1, waited := false, lastLaunch := if launch.isSome then launch else s.conf.lastLaunch }
  enqueueAll 2 ((hogelTiles s.geom).map (fun t => WorkItem.conf h t)) s

/-- The 12-bit code of a subpixel of colour c from a ray of an instant (R248 to R254): code, whether it came as a panel
code, how many of the ray's three channels the clip changed. Rays of another kernel set than CK-STD are free values (R234,
R267). -/
def rayCode (f : FrameEntry) (i : Instant) (ray u v c : Nat) : Nat × Bool × Nat :=
  if i.format = 1 then (channelOf 12 ray c, true, 0)
  else if i.format = 0 then (widenCode (channelOf 10 ray c), true, 0)
  else
    let cs := colourSet f.regs
    let (xs, clips) := linearChannels cs (viewGain f.regs u v) (channelOf 16 ray 0) (channelOf 16 ray 1) (channelOf 16 ray 2)
    (transferCode cs.tfSel (hostTable f.regs) (xs.getD c 0), false, clips)

/-- The codes of one work item: for each subpixel of its hogels, key 3 × pixel + k, the code with 4,096 added for a panel
code; unmapped subpixels belong to no item and hold 0. -/
def itemCodes (s : State) (f : FrameEntry) (insts : List Instant) (tile : Nat) : List (Nat × Nat) × Nat :=
  let g := s.geom
  let sub := fun (p k : Nat) (acc : List (Nat × Nat) × Nat) =>
    match subpixelRay g (tabGet 0 f.map) (p % g.panelW) (p / g.panelW) k with
    | .unmapped => acc
    | .black hogel =>
      if hogelTile g (hogel % g.hogelsX) (hogel / g.hogelsX) = tile then ((3 * p + k, 0) :: acc.1, acc.2) else acc
    | .ray hx hy u v =>
      if hogelTile g hx hy ≠ tile then acc
      else match insts.find? (fun i => instantCovers i.regs i.layer hx hy) with
        | none => acc
        | some i => match tabGet none i.rays (rayIndex g hx hy u v) with
          | none => acc
          | some ray =>
            let (code, panel, clips) := rayCode f i ray u v (subpixelColour g.layout k)
            ((3 * p + k, code + (if panel then 4096 else 0)) :: acc.1, acc.2 + clips)
  (upto 0 (g.panelW * g.panelH)).foldl (fun acc p => [0, 1, 2].foldl (fun acc k => sub p k acc) acc) ([], 0)

/-- The hogel tile of a subpixel, none for an unmapped one (R239, R261). -/
def subpixelTile (g : Geom) (f : FrameEntry) (px py k : Nat) : Option Nat :=
  match subpixelRay g (tabGet 0 f.map) px py k with
  | .unmapped => none
  | .black hogel => some (hogelTile g (hogel % g.hogelsX) (hogel / g.hogelsX))
  | .ray hx hy _ _ => some (hogelTile g hx hy)

/-- A poisoned word that a work item reads: the map entry of one of its hogels, or the reference of one of its pixels
(spec/14_hbm_controller.md R449). The answer is its context address. -/
def State.itemPoison (s : State) (f : FrameEntry) (tile : Nat) : Option Nat :=
  match s.poison.isEmpty, s.stagingPool with
  | false, some p =>
    let g := s.geom
    let bad := fun (off n : Nat) => if s.hbmPoisoned (poolBase p + off) n then some (p.id * 2 ^ 35 + off) else none
    let entry := fun (i : Nat) =>
      if hogelTile g (i % g.hogelsX) (i / g.hogelsX) = tile then
        bad (s.conf.mapCopy * mapUnits g * 2097152 + 32 + 8 * i) 8 else none
    let pixel := fun (i : Nat) =>
      if [0, 1, 2].any (fun k => subpixelTile g f (i % g.panelW) (i / g.panelW) k == some tile) then
        bad (refBase g + i / g.panelW * refPitch g + 6 * (i % g.panelW)) 6 else none
    ((upto 0 (g.hogelsX * g.hogelsY)).findSome? entry).orElse (fun _ => (upto 0 (g.panelW * g.panelH)).findSome? pixel)
  | _, _ => none

/-- A subpixel (3 × pixel + k) belongs to a black hogel (R240). -/
def State.blackSubpixel (s : State) (f : FrameEntry) (key : Nat) : Bool :=
  match subpixelRay s.geom (tabGet 0 f.map) (key / 3 % s.geom.panelW) (key / 3 / s.geom.panelW) (key % 3) with
  | .black _ => true
  | _ => false

/-- The instants of a frame, newest first. -/
def State.frameInstants (s : State) (f : FrameEntry) : List Instant :=
  (s.card.instants.filter (fun i => f.instants.contains (i.layer, i.count))).reverse

/-- The codes of a pixel of a completed frame by colour: the produced code, 0 for an unmapped subpixel, none where no ray
was produced. -/
def pixelCode (g : Geom) (f : FrameEntry) (px py c : Nat) : Option Nat :=
  let k := subpixelColour g.layout c
  match subpixelRay g (tabGet 0 f.map) px py k with
  | .unmapped => some 0
  | _ => tabGet none f.codes (3 * (py * g.panelW + px) + k)

/-- One pixel when its frame completes (R262 to R264): the reference takes the codes, the slot takes the link codes of a
dirty tile or an undefined container for a clean one. changed says whether a code differs from the reference. -/
def pixelDone (g : Geom) (h : Nat) (f : FrameEntry) (dirty : Bool) (s : State) (p : Nat × Nat) : State :=
  let (v, s) := refPixel g p.1 p.2 s
  let code := fun c => (pixelCode g f p.1 p.2 c).getD (channelOf 12 v c) % 4096
  let panel := fun c => match pixelCode g f p.1 p.2 c with
    | some code => decide (code ≥ 4096)
    | none => s.refIsPanel g p.1 p.2 c
  let l := fun c => frameLink g f (panel c) c p.1 p.2 (code c)
  let bad := s.refPoisoned g p.1 p.2 && [0, 1, 2].any (fun c => (pixelCode g f p.1 p.2 c).isNone)
  let s := setRefPixel g p.1 p.2 (packChannels 12 (code 0) (code 1) (code 2)) s
  let s :=
    if dirty then setFramePixel g h p.1 p.2 (packChannels (linkBits g) (l 0) (l 1) (l 2)) s
    else
      let (n, s) := s.draw
      setFramePixel g h p.1 p.2 n s
  if bad then poisonPixel g h p.1 p.2 s else s

/-- A code of a tile differs from the reference (R262). -/
def tileChanged (g : Geom) (f : FrameEntry) (s : State) (t : Nat) : Bool :=
  (tilePixels g t).any (fun p => [0, 1, 2].any (fun c =>
    match pixelCode g f p.1 p.2 c with
    | some code => decide (code % 4096 ≠ channelOf 12 (refPixel g p.1 p.2 s).1 c)
    | none => false))

/-- The subpixels whose reference code is a panel code once a frame's codes are taken (R254, R263). -/
def panelCodes (codes : Tab (Option Nat)) (old : List Nat) : List Nat :=
  codes.foldl (fun l e => if e.2.getD 0 ≥ 4096 then setInsert e.1 l else setErase e.1 l) old

/-- The frame of slot h completes: nap map, reference, READY (R262 to R266). -/
def frameComplete (h : Nat) (s : State) : State :=
  let g := s.geom
  let f := s.frame h
  let dirty := (allTiles g).filter (fun t => f.whole || s.conf.owed.contains t || tileChanged g f s t)
  let s := (allTiles g).foldl (fun s t => (tilePixels g t).foldl (pixelDone g h f (dirty.contains t)) s) s
  let s := s.withConf { s.conf with
    refUndefined := false, owed := [], whole := s.conf.whole && !f.whole, refPanel := panelCodes f.codes s.conf.refPanel }
  let s := writeNapMap g h dirty s
  let s := s.setFrame h { f with state := 2, completed := true, dirty := dirty, codes := [], todo := [] }
  let s := (s.set F.CONF_FRAME_LAST_HANDLE h).set F.CONF_FRAME_PHASE f.phase
  let s := s.set F.CONF_DIRTY_TILES dirty.length
  if f.clipped then raise 583 s else s

/-- The work item of a hogel tile of slot h completes; a withheld item gives no codes but the 0 of its black hogels (R52,
R240, R261). True when the frame is complete. -/
def confItemDone (h tile : Nat) (withheld : Bool) (s : State) : Bool × State :=
  let f := s.frame h
  if f.state ≠ 1 ∨ ¬ f.todo.contains tile then (false, s)
  else
    let (codes, clips) := itemCodes s f (if withheld then [] else s.frameInstants f) tile
    let free := !s.ckStd
    let table := codes.foldl (fun (t : Tab (Option Nat)) e => tabInsert t e.1 (some e.2)) f.codes
    let (table, s) := if free then
        codes.foldl (fun (acc : Tab (Option Nat) × State) e =>
          if e.2 = 0 ∧ s.blackSubpixel f e.1 then acc
          else let (n, s) := acc.2.draw; (tabInsert acc.1 e.1 (some (n % 4096)), s)) (table, s)
      else (table, s)
    let s := s.bumpBy (F.CONF_CNT_COUNT 0) clips
    let f := { f with codes := table, todo := setErase tile f.todo, clipped := f.clipped || decide (clips > 0) }
    let s := s.setFrame h f
    if f.todo.isEmpty then (true, frameComplete h s) else (false, s)

/-- The frame of slot h leaves: its slot is free (R260, R339). -/
def releaseFrame (h : Nat) (s : State) : State :=
  let s := dropWork (fun i => match i with | .conf k _ => k != h | _ => true) s
  s.withConf { s.conf with frames := tabErase s.conf.frames h }

/-- A frame is discarded and its slot is free; a completed one is counted and its dirty tiles become owed, to the frame in a
slot that is named or to the next (R265). -/
def discardFor (dest : Option Nat) (h : Nat) (s : State) : State :=
  let f := s.frame h
  if f.state = 0 then s
  else
    let s := releaseFrame h s
    if f.completed then oweTilesTo (dest.orElse (fun _ => s.nextReady)) f.dirty (raise 581 (s.bump (F.CONF_CNT_COUNT 1)))
    else s

/-- A frame is discarded, its tiles owed to the next frame (R265). -/
def discardFrame (h : Nat) (s : State) : State := discardFor none h s

/-! ## The commands -/

/-- MAP_ARM (R245). -/
def execMapArm (who : Requester) (s : State) : Host.Outcome State Fault Refusal :=
  whenLive s (request who R.CONF_MAPCTRL mapArm)

/-- MAP_CHECK_DONE (R245). -/
def execMapCheckDone (s : State) : Host.Outcome State Fault Refusal := whenLive s mapCheckDone

/-- MAP_DISCARD (R246). -/
def execMapDiscard (who : Requester) (s : State) : Host.Outcome State Fault Refusal :=
  whenLive s (request who R.CONF_MAPCTRL mapDiscard)

/-- COLOUR_ARM (R255). -/
def execColourArm (who : Requester) (s : State) : Host.Outcome State Fault Refusal :=
  whenLive s (request who R.CONF_COLCTRL colourArm)

/-- COLOUR_DISCARD (R255). -/
def execColourDiscard (who : Requester) (s : State) : Host.Outcome State Fault Refusal :=
  whenLive s (request who R.CONF_COLCTRL colourDiscard)

/-- CONF_STAGE_WRITE (R259). -/
def execConfStageWrite (who : Requester) (value : Word) (s : State) : Host.Outcome State Fault Refusal :=
  whenLive s (request who R.CONF_STAGE (stagePoolWrite value))

end Sys2Proof.Machine
end

