-- ==== Sys2Proof/Machine/Lanes.lean ====
section
/-! DEFINITION. What the transmitted lanes of a link carry, position by position (spec/09_serial_lanes.md R294 to R300, R306;
spec/10_panel_protocol.md R324, R344, R347). A lane period is 1,024 sets of four positions; the model lays them out as time
passes and records the runs with the running disparity of each lane before them. -/

namespace Sys2Proof.Machine

/-- The line rate of link n in units of 0.125 Gbaud. -/
def State.linkRate (s : State) (n : Nat) : Nat := lineRate (s.get (F.LNK_STATUS_RATE_IN_FORCE n))

/-- The lanes that the Q9 transmits on link n (R292). -/
def sendLanes (n : Nat) : Nat := if n = 0 then 96 else 8

/-- The transmitter of link n replaced. -/
def State.setTx (s : State) (n : Nat) (t : TxState) : State := s.setLink n { s.link n with tx := t }

/-- A position of the test pattern on every lane of link n, and the generator's stages after it: its continuous output as data
symbols (spec/20_test_identity.md R550). -/
def patternRow (n g : Nat) : List Symbol × Nat :=
  (everyLane (sendLanes n) (.d (byteOfBits (trainBits 8 g))), trainStages 8 g)

/-- Positions of the test pattern, and the generator's stages after them. -/
def patternRows (n : Nat) : Nat → Nat → List (List Symbol) × Nat
  | 0, g => ([], g)
  | k + 1, g =>
    let (r, g') := patternRow n g
    let (rs, g'') := patternRows n k g'
    (r :: rs, g'')

/-- What the next set of positions carries, how many sets of four it takes, and the transmitter after it (R297, R298): ALIGN,
SKIP, HOLD and TRAIN at their positions, else the packet in sending or one that is due, at least two IDLE sets after the one
before (spec/10_panel_protocol.md R324, spec/13_afloth_tiling.md R416), else IDLE. A link in a far-end loopback carries the
test pattern beside ALIGN and SKIP (spec/20_test_identity.md R550). -/
def txStep (n : Nat) (due : Nat → Bool) (t : TxState) : LaneRun × Nat × TxState :=
  let idle := (LaneRun.idle 1, 1, { t with gap := t.gap - 1 })
  let inside := match t.queue with
    | x :: _ => x.begun
    | [] => false
  if t.bursts then (.train 1, 16, t)
  else if t.slot = 0 then (.align t.align.1 t.align.2, 1, t)
  else if n ≠ 0 ∧ t.slot % 256 = 0 then (.skip, 1, t)
  else if t.train && t.slot == 16 && !inside then (.train 1, 16, t)
  else match t.pattern, t.slot, t.hold with
    | some g, _, _ =>
      let (rows, g') := patternRows n 4 g
      (.positions rows, 1, { t with pattern := some g' })
    | none, 1, some f => (.hold f, 1, t)
    | none, _, _ => match t.queue with
      | [] => idle
      | x :: rest =>
        if t.gap = 0 ∧ (x.begun ∨ (due x.start ∧ ¬ (t.train ∧ t.slot < 32))) then
          let left := x.rows.drop 4
          (.positions (x.rows.take 4), 1,
            if left.isEmpty then { t with queue := rest, gap := 2 }
            else { t with queue := { x with begun := true, rows := left } :: rest })
        else idle

/-- A run joins those before it, the latest first. -/
def addRun : LaneRun → List LaneRun → List LaneRun
  | .idle k, .idle j :: l => .idle (j + k) :: l
  | .train k, .train j :: l => .train (j + k) :: l
  | .positions a, .positions b :: l => .positions (b ++ a) :: l
  | r, l => r :: l

/-- The sets of a lane period up to a limit: the transmitter after them and their runs, the latest first. -/
def txRuns (n : Nat) (due : Nat → Nat → Bool) (limit : Nat) : Nat → TxState → List LaneRun → TxState × List LaneRun
  | 0, t, acc => (t, acc)
  | fuel + 1, t, acc =>
    if t.slot ≥ limit then (t, acc)
    else
      let (r, k, t') := txStep n (due t.slot) t
      txRuns n due limit fuel { t' with slot := t.slot + k } (addRun r acc)

/-- The running disparity of every transmitted lane after a run (R294). -/
def disparityAfter (n : Nat) (rd : List Bool) (r : LaneRun) : List Bool :=
  (upto 0 (sendLanes n)).map (fun i => rd.getD i false != r.flips i)

/-- The lane period of link n is laid out up to a set of four positions. -/
def layTo (n limit : Nat) (s : State) : State :=
  let u := s.link n
  let rate := s.linkRate n
  let due := fun (slot start : Nat) => decide (start * rate ≤ u.period * rate + 320 * slot)
  let (t, runs) := txRuns n due limit 1024 u.tx []
  if runs.isEmpty then s
  else
    (s.setTx n { t with rd := runs.reverse.foldl (disparityAfter n) u.tx.rd }).emit (.lanes n u.tx.slot u.tx.rd runs.reverse)

/-- Positions of the lane period in progress that have been sent by now. -/
def State.sentPositions (s : State) (n : Nat) : Nat := min 4096 ((s.now - (s.link n).period) * s.linkRate n / 80)

/-- Everything that the lanes of link n have carried by now is laid out. -/
def layNow (n : Nat) (s : State) : State := layTo n (s.sentPositions n / 4) s

/-- The lanes of link n carry TRAIN bursts back to back from now on, or no more (R308). -/
def setBursts (n : Nat) (on : Bool) (s : State) : State :=
  let s := layNow n s
  s.setLink n { s.link n with bursts := on, tx := { (s.link n).tx with bursts := on } }

/-- The transmitter of link n starts anew with negative running disparity (R294). -/
def freshTx (n : Nat) (on : Bool) (s : State) : State :=
  let s := layNow n s
  s.setLink n { s.link n with bursts := on, tx := { bursts := on } }

/-- A packet or frame waits for its positions on link n from a time on. -/
def sendRows (n start : Nat) (push : Bool) (rows : List (List Symbol)) (s : State) : State :=
  let t := (s.link n).tx
  s.setTx n { t with queue := t.queue ++ [⟨start, push, false, rows⟩] }

/-- The push in sending ends where it stands, filled with D10.2 to the next multiple of four; one that has not begun never
does (spec/10_panel_protocol.md R344). -/
def cutPush (s : State) : State :=
  let q := s.sentPositions 0 % 4
  let s := layNow 0 s
  let t := (s.link 0).tx
  let cut := fun (x : TxPacket) =>
    if ¬ x.push then [x]
    else if x.begun ∧ q ≠ 0 then [{ x with push := false, rows := x.rows.take q ++ List.replicate (4 - q) (everyLane 96 d102) }]
    else []
  s.setTx 0 { t with queue := t.queue.flatMap cut }

/-- A new lane period of link n begins: the one before is laid out to its end, and ALIGN leaves (R298, R299). -/
def beginPeriod (n aseq flags : Nat) (hold : Option Nat) (s : State) : State :=
  let s := layTo n 1024 s
  let t := (s.link n).tx
  let s := s.setLink n { s.link n with
    period := s.now, tx := { t with slot := 0, align := (aseq, flags), train := false, hold := hold } }
  layTo n 1 s

end Sys2Proof.Machine
end

