-- ==== Sys2Proof/Machine/Panel.lean ====
section
/-! DEFINITION. The panel link's packets and frames: pushes, FRAME_BEGIN, FRAME_COMMIT, abort, restart, discovery and hold
(spec/10_panel_protocol.md R321 to R358), and the predicted TE edges (spec/11_time_presentation.md R373, R378, R385). -/

namespace Sys2Proof.Machine

/-- The state with its panel part replaced. -/
def State.withPanel (s : State) (p : PanelState) : State := { s with panel := p }

/-- The open frame replaced. -/
def State.withOpen (s : State) (o : Option OpenFrame) : State := s.withPanel { s.panel with opened := o }

/-! ## Conditions -/

/-- The panel link is UP (spec/09_serial_lanes.md R307). -/
def State.linkUp (s : State) (link : Nat) : Bool := s.get (F.LNK_STATUS_STATE link) == 4

/-- TE_OK. -/
def State.teOk (s : State) : Bool := s.flag F.PANEL_STATUS_TE_OK

/-- PANEL_TEPER, 0 while not measured. -/
def State.tePeriod (s : State) : Nat := (s.word R.PANEL_TEPER).toNat

/-- ROW_NS of the CAPS body in force (R352). -/
def State.rowNs (s : State) : Nat := slice (s.word (R.PANEL_CAP 5)).toNat 15 0

/-- GUARD_ROWS × ROW_NS (R337). -/
def State.guardNs (s : State) : Nat := s.get F.PANEL_CFG_GUARD_ROWS * s.rowNs

/-! ## Predicted edges -/

/-- The predicted edge nearest to a Q9 time; the earlier of two at equal distance (R378). None before a period has been
measured. -/
def State.edgeNear (s : State) (t : Nat) : Option Nat :=
  match s.panel.edge, s.tePeriod with
  | none, _ => none
  | _, 0 => none
  | some e, p =>
    let d : Int := (t : Int) - e
    let k : Int := -(((p : Int) - 2 * d) / (2 * p))
    some (e + k * p).toNat

/-- The first predicted edge after Q9 time (R385). -/
def State.nextEdge (s : State) : Option Nat :=
  match s.panel.edge, s.tePeriod with
  | none, _ => none
  | _, 0 => none
  | some e, p => some (e + ((s.q9 - e) / p + 1) * p)

/-- F(E): the opening of the guard window (R373). -/
def State.sampleAt (s : State) (e : Nat) : Nat := e - s.guardNs

/-- The target edge of a frame. -/
def State.targetEdge (s : State) (f : FrameEntry) : Option Nat := f.target.bind s.edgeNear

/-! ## Pushes (R330, R331) -/

/-- RAW_BYTES of a rectangle (R330). -/
def pushRaw (g : Geom) (p : Push) : Nat :=
  let w := min (64 * (p.tx0 + p.tw)) g.panelW - 64 * p.tx0
  let h := min 64 (g.panelH - 64 * p.ty)
  ceilDiv (w * h * rayBits g.rayFormat) 8

/-- Data positions for a number of bytes (R330, R333). -/
def dataPositions (bytes : Nat) : Nat := 4 * ceilDiv bytes 384

/-- The largest permitted tile count from tx0 out of n (R330). -/
def pushWidth (g : Geom) (ty tx0 : Nat) : Nat → Nat
  | 0 => 0
  | n + 1 => if n + 1 ≤ 25 ∧ pushRaw g ⟨tx0, ty, n + 1⟩ ≤ 387072 then n + 1 else pushWidth g ty tx0 n

/-- The length of the run of dirty tiles from column tx. -/
def runLength (dirty : Nat → Bool) (tx : Nat) : Nat → Nat
  | 0 => 0
  | n + 1 => if dirty tx then runLength dirty (tx + 1) n + 1 else 0

/-- The pushes of a tile row from column tx (R331). -/
def rowPushes (g : Geom) (dirty : Nat → Bool) (ty : Nat) : Nat → Nat → List Push
  | 0, _ => []
  | fuel + 1, tx =>
    if tx ≥ tilesX g then []
    else
      let n := pushWidth g ty tx (runLength dirty tx (tilesX g - tx))
      if n = 0 then rowPushes g dirty ty fuel (tx + 1)
      else ⟨tx, ty, n⟩ :: rowPushes g dirty ty fuel (tx + n)

/-- The tile rows from a first row, wrapping (R331; spec/18_modes_power_thermal.md R529). -/
def rowOrder (g : Geom) (first : Nat) : List Nat :=
  (upto 0 (tilesY g)).map (fun i => (first % max 1 (tilesY g) + i) % max 1 (tilesY g))

/-- The pushes of a set of dirty tiles in sending order. -/
def pushList (g : Geom) (first : Nat) (dirty : List Nat) : List Push :=
  (rowOrder g first).flatMap (fun ty =>
    let mine := dirty.filter (fun t => t / tilesX g == ty)
    rowPushes g (fun tx => mine.contains (ty * tilesX g + tx)) ty (tilesX g + 1) 0)

/-- The tiles that a frame may push at most under THROTTLED (R529), and the first tile row of its push order. -/
def State.pushLimit (s : State) : Option Nat :=
  if s.modeNow = 0xB then
    some (ceilDiv (tilesX s.geom * tilesY s.geom * s.get F.THERM_THROT_THROT_SHARE) 64)
  else none

/-- The tile row that the push order starts at. -/
def State.firstRow (s : State) : Nat := if s.modeNow = 0xB then s.panel.throttleRow else 0

/-- Dirty tiles in push order from a first row. -/
def tilesInOrder (g : Geom) (first : Nat) (dirty : List Nat) : List Nat :=
  (rowOrder g first).flatMap (fun ty => dirty.filter (fun t => t / tilesX g == ty))

/-- The dirty tiles that a frame pushes now, and those beyond the limit of R529. -/
def State.pushShare (s : State) (dirty : List Nat) : List Nat × List Nat :=
  match s.pushLimit with
  | none => (dirty, [])
  | some n =>
    let o := tilesInOrder s.geom s.firstRow dirty
    (o.take n, o.drop n)

/-! ## Times on the lanes (R355) -/

/-- Nanoseconds that a number of positions takes, ALIGN included: 80 ÷ rate ns each, scaled by 4096 ÷ 4092. -/
def State.positionsNs (s : State) (n : Nat) : Nat := ceilDiv (n * 80 * 4096) (s.panelRate * 4092)

/-- The positions of a list of pushes, sent uncompressed. -/
def pushPositions (g : Geom) (ps : List Push) : Nat := (ps.map (fun p => dataPositions (pushRaw g p) + 16)).sum

/-- The push time of a set of dirty tiles, FRAME_BEGIN and FRAME_COMMIT included (R355). -/
def State.pushTime (s : State) (dirty : List Nat) : Nat :=
  s.positionsNs (pushPositions s.geom (pushList s.geom s.firstRow (s.pushShare dirty).1) + 32)

/-! ## Packets (R324 to R328) -/

/-- A packet header with its HDR_CRC (R326). -/
def panelHeader (type flags frame push tx0 ty tw format d raw : Nat) : List Byte :=
  let h := leBytes type 1 ++ leBytes flags 1 ++ leBytes frame 2 ++ leBytes push 4 ++ leBytes tx0 2 ++ leBytes ty 2 ++
    leBytes tw 2 ++ leBytes format 1 ++ [0] ++ leBytes d 4 ++ leBytes raw 4 ++ List.replicate 68 0
  h ++ leBytes (crc32c h) 4

/-- GCRC_g: the CRC-32C of the data bytes on lanes 8g to 8g + 7, padding up to D × 96 bytes included; 0 for D = 0
(R327, R328). -/
def groupCrc (d : Nat) (data : List Byte) (g : Nat) : Nat :=
  if d = 0 then 0
  else
    let padded := data ++ List.replicate (96 * d - data.length) 0
    crc32c (((upto 0 padded.length).zip padded).filter (fun e => e.1 % 96 / 8 == g) |>.map (fun e => e.2))

/-- A packet leaves, at the same positions on all 96 lanes; the next may start after its end set and two IDLE sets (R324 to
R328). -/
def sendPacket (header data : List Byte) (d : Nat) (s : State) : State :=
  let start := max s.now s.panel.busyUntil
  let gcrc := (upto 0 12).map (groupCrc d data)
  let s := s.withPanel { s.panel with busyUntil := start + s.positionsNs (d + 16) }
  (sendRows 0 start (leAt header 0 1 == 1) (packetRows header data d gcrc) s).emit (.panelPacket header data gcrc)

/-- An ABORT set between packets, or in place of the rest of a push, which is filled to the next multiple of four positions
(R344). -/
def sendAbort (frame reason : Nat) (s : State) : State :=
  let s := sendRows 0 s.now false (abortRows frame reason) (cutPush s)
  (s.withPanel { s.panel with busyUntil := s.now + s.positionsNs 8 }).emit (.panelAbort frame reason)

/-- The code of the link format in packet headers (R326). -/
def packetFormat (g : Geom) : Nat := if g.rayFormat = 0 then 0 else 1

/-- The pixels of a rectangle in raster order. -/
def pushPixels (g : Geom) (p : Push) : List (Nat × Nat) :=
  let w := min (64 * (p.tx0 + p.tw)) g.panelW - 64 * p.tx0
  (upto (64 * p.ty) (min 64 (g.panelH - 64 * p.ty))).flatMap (fun py => (upto (64 * p.tx0) w).map (fun px => (px, py)))

/-- The packed run of a push, read from slot h (R330, R331). -/
def State.pushData (s : State) (h : Nat) (p : Push) : List Byte :=
  match s.stagingPool with
  | none => []
  | some q =>
    let g := s.geom
    let w := rayContainer g.rayFormat
    runBytes (rayBits g.rayFormat) ((pushPixels g p).map (fun x =>
      leNat (s.poolRead q (slotBase g h + x.2 * framePitch g + w * x.1) w) % 2 ^ rayBits g.rayFormat))

/-- The conditions of R333. -/
def State.compActive (s : State) : Bool :=
  s.flag F.PANEL_CFG_COMP_EN && slice (s.word (R.PANEL_CAP 4)).toNat 8 8 == 1 &&
  decide (slice (s.word (R.PANEL_CAP 4)).toNat 23 16 ≥ 12)

/-- COMP_ACTIVE follows R333. -/
def compLevel (s : State) : State := s.set F.PANEL_STATUS_COMP_ACTIVE (bit s.compActive)

/-- A data-rate change of a memory stack is in progress, which a push must not meet (spec/14_hbm_controller.md R452). -/
def State.memChanging (s : State) : Bool := s.flag (F.HBM_FREQSTAT_ACTIVE 0) || s.flag (F.HBM_FREQSTAT_ACTIVE 1)

/-! ## BSTATE -/

/-- The Q9 takes BSTATE as 0x3 (R341, R345, R346, R354). -/
def backInvalid (s : State) : State := raise 706 (s.set F.PANEL_STATUS_BSTATE 3)

/-! ## Leaving a frame -/

/-- The tiles of the discarded open frame, or of the frame in a slot, are owed; the slot is free (R265). -/
def dropOpen (s : State) : State :=
  match s.panel.opened with
  | none => s
  | some o => discardFrame o.handle (s.withOpen none)

/-- Every entry that is not COMMITTED is discarded (R386); the panel learns of an open frame by ABORT with REASON 0x03
(R344). -/
def dropEntries (s : State) : State :=
  let s := match s.panel.opened with
    | some o => if o.committed then s else dropOpen (sendAbort o.frameNo 3 s)
    | none => s
  (upto 0 32).foldl (fun s h =>
    let st := (s.frame h).state
    if st = 1 ∨ st = 2 then discardFrame h s else s) s

/-! ## Hold (R347 to R349, R517) -/

/-- A push is in progress. -/
def State.pushing (s : State) : Bool :=
  match s.panel.opened with
  | some o => o.busy.isSome && decide (s.now < s.panel.busyUntil)
  | none => false

/-- The panel is held: ABORT during a push, the frame not yet complete discarded, HOLD sets begin (R347). -/
def panelHold (s : State) : State :=
  if s.panel.holding then s
  else
    let s := match s.panel.opened with
      | some o => dropOpen (if s.pushing then sendAbort o.frameNo 4 s else s)
      | none => s
    (s.withPanel { s.panel with holding := true, held := true, holdAt := some s.now }).emit (.panelHold s.panel.lastFlip)

/-! ## Restart and discard (R342 to R346) -/

/-- FRAME_BEGIN of the open frame; none of its data is on chip yet (R332). -/
def sendBegin (restart : Bool) (o : OpenFrame) (s : State) : State :=
  let s := s.withPanel { s.panel with fetched := (0, 0) }
  sendPacket (panelHeader 2 (if restart then 2 else 0) o.frameNo 0 0 0 0 (packetFormat s.geom) 0 0) [] 0 s

/-- The open frame restarts, or is discarded beyond MAX_RESTART (R346). -/
def restartFrame (s : State) : State :=
  match s.panel.opened with
  | none => s
  | some o =>
    if o.restarts ≥ s.get F.PANEL_CFG_MAX_RESTART then
      let s := sendAbort o.frameNo 3 s
      raise 697 ((dropOpen s).bump (F.PANEL_CNT_COUNT 2))
    else
      let whole := s.get F.PANEL_STATUS_BSTATE = 3
      let s := if whole then dirtyTiles o.handle (allTiles s.geom) s else s
      let ps := if whole then pushList s.geom s.firstRow (s.frame o.handle).dirty else o.pushes
      let o := { o with pushes := ps, next := 0, busy := none, resend := [], failures := [], restarts := o.restarts + 1
                        abortedAt := none, committed := false, doneSent := false }
      let s := (s.withOpen (some o)).setFrame o.handle { s.frame o.handle with state := 3 }
      let s := raise 696 (s.bump (F.PANEL_CNT_COUNT 1))
      sendBegin true o (s.set F.PANEL_FRAME_RESTARTS o.restarts)

/-- A push of the open frame ends in ABORT and the frame waits for the panel's STATUS (R342, R344, R346). -/
def abortFrame (reason : Nat) (s : State) : State :=
  match s.panel.opened with
  | none => s
  | some o =>
    let s := sendAbort o.frameNo reason s
    s.withOpen (some { o with busy := none, abortedAt := some s.now })

/-! ## Discovery (R353) -/

/-- Whether a CAPS body passes against the descriptor in force (R353). -/
def State.capsPass (s : State) (b : List Byte) : Bool :=
  s.hasGeom && leAt b 8 4 == s.geom.panelW && leAt b 12 4 == s.geom.panelH &&
  (leAt b 16 1).testBit (packetFormat s.geom) && leAt b 0x14 2 != 0 && decide (leAt b 0x20 4 ≥ 387072)

/-- A CAPS body fails, or none arrives (R353). -/
def capsFail (s : State) : State :=
  raise 703 ((s.set F.PANEL_STATUS_MISMATCH 1).set F.PANEL_STATUS_CAPS_OK 0)

/-- A CAPS body is checked (R353). -/
def capsCheck (b : List Byte) (s : State) : State :=
  if s.capsPass b then
    let s := (upto 0 10).foldl (fun s n => s.setWord (R.PANEL_CAP n) (BitVec.ofNat 32 (leAt b (4 * n) 4))) s
    raise 702 (compLevel ((s.set F.PANEL_STATUS_CAPS_OK 1).set F.PANEL_STATUS_MISMATCH 0))
  else capsFail s

/-- The held CAPS body is checked again when a new descriptor takes force (R353). -/
def capsRecheck (s : State) : State :=
  match s.panel.caps with
  | some b => capsCheck b s
  | none => s

/-- A CAP_QUERY packet (R326). -/
def sendQuery (s : State) : State :=
  let s := sendPacket (panelHeader 4 0 0 0 0 0 0 (packetFormat s.geom) 0 0) [] 0 s
  s.withPanel { s.panel with queries := s.panel.queries + 1, querying := true, queryAt := s.now }

/-- Discovery begins (R353); while the link is not UP it waits for LINK_UP. -/
def discover (s : State) : State :=
  if s.linkUp 0 then sendQuery (s.withPanel { s.panel with queries := 0 }) else s

/-- A write of PANEL_CTRL (R353). -/
def panelCtrlWrite (v : Word) (s : State) : Res :=
  okay (if wordField v F.PANEL_CTRL_QUERY = 1 then discover s else s)

/-- A write of PANEL_CFG (R356). -/
def panelCfgWrite (v : Word) (s : State) : Res :=
  let pre := wordField v F.PANEL_CFG_PREFETCH
  if s.armed 4 0 then refuse .window s
  else if pre = 0 ∨ pre = 7 ∨ wordField v F.PANEL_CFG_GUARD_ROWS = 0 then refuse .value s
  else
    let s := (s.set F.PANEL_CFG_MAX_RESTART (wordField v F.PANEL_CFG_MAX_RESTART)).set F.PANEL_CFG_PREFETCH pre
    let s := s.set F.PANEL_CFG_GUARD_ROWS (wordField v F.PANEL_CFG_GUARD_ROWS)
    okay (compLevel (s.set F.PANEL_CFG_COMP_EN (wordField v F.PANEL_CFG_COMP_EN)))

/-! ## The link's effect on the panel protocol -/

/-- The panel link reaches UP: discovery (R353). -/
def panelLinkUp (s : State) : State :=
  discover (s.withPanel { s.panel with fresh := true, lastReturn := s.now, lost := false })

/-- The panel link leaves UP: the open frame is discarded (R341). -/
def panelLinkLost (s : State) : State :=
  dropOpen (s.withPanel { s.panel with querying := false })

end Sys2Proof.Machine
end

