-- ==== Sys2Proof/Machine/AflSend.lean ====
section
/-! DEFINITION. Afloth frames and the wiring: topology, frame format, sending and relaying (spec/13_afloth_tiling.md R412
to R423). -/

namespace Sys2Proof.Machine

/-- TILE_ID. -/
def State.tileId (s : State) : Nat := s.get F.AFL_TILE_STATUS_TILE_ID

/-- TOPO. -/
def State.topo (s : State) : Nat := s.get F.AFL_TILE_CFG_TOPO

/-- Tiling is in use (R413). -/
def State.tiled (s : State) : Bool := s.topo != 0

/-- This device is the leader (R412). -/
def State.leader (s : State) : Bool := s.tileId == 0

/-- The number of devices (R413). -/
def State.devices (s : State) : Nat := if s.topo = 0 then 1 else if s.topo = 2 then 4 else s.get F.AFL_TILE_CFG_COUNT + 1

/-- The device that link k of device t meets (R414). -/
def neighbour (topo devices t k : Nat) : Option Nat :=
  if topo = 1 then
    if k = 0 ∧ 0 < t ∧ t < devices then some (t - 1) else if k = 1 ∧ t + 1 < devices then some (t + 1) else none
  else if topo = 2 then
    match t, k with
    | 0, 1 => some 1
    | 0, 3 => some 2
    | 1, 0 => some 0
    | 1, 3 => some 3
    | 2, 1 => some 3
    | 2, 2 => some 0
    | 3, 0 => some 2
    | 3, 2 => some 1
    | _, _ => none
  else none

/-- Afloth link k may carry frames other than HELLO: UP and not in a wiring fault (R307, R421). -/
def State.aflLinkOk (s : State) (k : Nat) : Bool :=
  s.linkUp (k + 1) && !(s.get F.AFL_TILE_STATUS_WIRING).testBit k

/-- The links away from the leader (R419). -/
def outwardLinks (topo t : Nat) : List Nat :=
  if topo = 1 then [1]
  else if topo = 2 then (if t = 0 then [1, 3] else if t = 1 then [3] else if t = 2 then [1] else [])
  else []

/-- The links of this device that face a neighbour farther from the leader (R419). -/
def State.outward (s : State) : List Nat :=
  (outwardLinks s.topo s.tileId).filter (fun k => (neighbour s.topo s.devices s.tileId k).isSome)

/-- The link towards the leader; in 2 × 2 device 3 uses link 2 while it is UP, else link 0 (R419). -/
def State.inwardLink (s : State) : Nat :=
  if s.topo = 1 then 0
  else if s.tileId = 1 then 0
  else if s.tileId = 2 then 2
  else if s.linkUp 3 then 2 else 0

/-- The frame header of R417 and the data with its DATA_CRC (R416). -/
def aflFrame (type origin hops seq param : Nat) (data : List Byte) : List Byte :=
  let h := leBytes type 1 ++ [0] ++ leBytes origin 1 ++ leBytes hops 1 ++ leBytes seq 4 ++ leBytes data.length 4 ++
    leBytes param 8
  h ++ leBytes (crc32c h) 4 ++ data ++ leBytes (if data.isEmpty then 0 else crc32c data) 4

/-- The time that a number of positions takes on link n, without the ALIGN and SKIP sets between them. -/
def State.rowsNs (s : State) (n k : Nat) : Nat := ceilDiv (k * 80) (s.linkRate n)

/-- A frame leaves on Afloth link k when it is UP, after what is being sent and after a TRAIN burst (R416;
spec/09_serial_lanes.md R306); while the link is not UP, the frame is dropped and counted (R307, R310). -/
def aflEmit (k : Nat) (bytes : List Byte) (s : State) : State :=
  if s.linkUp (k + 1) then
    let rows := frameRows bytes
    let e := max s.now (s.link (k + 1)).lastBusy + s.rowsNs (k + 1) rows.length
    let s := sendRows (k + 1) s.now false rows s
    (s.setLink (k + 1) { s.link (k + 1) with lastBusy := e }).emit (.afloth k bytes)
  else s.bump (F.LNK_DROP_COUNT (k + 1))

/-- The SEQ of this device's next frame of a TYPE: one greater than the last; where the series starts is open (R417). -/
def nextSeq (type : Nat) (s : State) : Nat × State :=
  match tabGet none s.afl.sent type with
  | some n =>
    let m := (n + 1) % 2 ^ 32
    (m, { s with afl := { s.afl with sent := tabInsert s.afl.sent type (some m) } })
  | none =>
    let (n, s) := s.draw
    let m := n % 2 ^ 32
    (m, { s with afl := { s.afl with sent := tabInsert s.afl.sent type (some m) } })

/-- A frame of this device on a list of links; links in a wiring fault carry HELLO alone (R421). -/
def aflSend (type param : Nat) (data : List Byte) (links : List Nat) (s : State) : State :=
  let (seq, s) := nextSeq type s
  let bytes := aflFrame type s.tileId 0 seq param data
  links.foldl (fun s k =>
    if type ≠ 6 ∧ (s.get F.AFL_TILE_STATUS_WIRING).testBit k then s else aflEmit k bytes s) s

/-- An accepted frame is relayed with HOPS increased by 1 (R419): frames of the leader on the outward links, the others
on the inward link. -/
def aflRelay (type origin hops seq : Nat) (data : List Byte) (s : State) : State :=
  if s.leader ∧ origin ≠ 0 then s
  else
    let links := if origin = 0 then s.outward else [s.inwardLink]
    links.foldl (fun s k =>
      if s.aflLinkOk k then aflEmit k (aflFrame type origin (hops + 1) seq 0 data) s else s) s

/-- A launch time as LAUNCH_S and LAUNCH_NS. -/
def launchBytes (t : Option Nat) : List Byte :=
  leBytes (t.getD 0 / 1000000000) 8 ++ leBytes (t.getD 0 % 1000000000) 4

/-- The data of a fence token (R423). -/
def tokenBytes (edge : Nat) (launch : Option Nat) (lframe action defers : Nat) : List Byte :=
  leBytes (edge / 1000000000) 8 ++ leBytes (edge % 1000000000) 4 ++ launchBytes launch ++ leBytes lframe 2 ++
  leBytes (bit launch.isNone) 1 ++ leBytes action 1 ++ leBytes defers 1 ++ [0, 0, 0]

/-- AWAITED follows the members from which DONE is awaited. -/
def awaitedLevel (s : State) : State :=
  let open_ := if s.afl.token.isSome then s.afl.awaited.filter (fun t => !s.afl.done.contains t) else []
  s.set F.AFL_TILE_STATUS_AWAITED (open_.foldl (fun acc t => acc + 2 ^ t) 0)

/-- A new target edge: no DONE has arrived for it; the leader awaits itself and every member not declared lost (R425,
R426). -/
def newToken (t : TokenRec) (s : State) : State :=
  awaitedLevel { s with afl := { s.afl with
    token := some t, done := [], noFrame := false
    awaited := if s.leader then (upto 0 s.devices).filter (fun d => !s.afl.lost.contains d) else [] } }

/-- The leader sends a PLAN with its FRAME_BEGIN (R425 step 1). -/
def sendPlan (edge : Nat) (launch : Option Nat) (lframe : Nat) (s : State) : State :=
  aflSend 1 0 (tokenBytes edge launch lframe 0 0) s.outward
    (newToken ⟨edge, edge, launch, lframe, 0, edge⟩ s)

/-- A DONE of device d is recorded at the leader (R425 step 4). -/
def recordDone (d : Nat) (s : State) : State :=
  awaitedLevel { s with afl := { s.afl with done := setInsert d s.afl.done } }

/-- This device's DONE for the token in force, with a STATUS (R425 step 3): sent towards the leader, or recorded. -/
def sendDone (status : Nat) (s : State) : State :=
  match s.afl.token with
  | none => s
  | some t =>
    let s := { s with afl := { s.afl with noFrame := s.afl.noFrame || status == 1 } }
    if s.leader then recordDone 0 s
    else aflSend 2 0 (leBytes (t.named / 1000000000) 8 ++ leBytes (t.named % 1000000000) 4 ++ leBytes status 1 ++ [0, 0, 0])
      [s.inwardLink] s

/-- The mode as HELLO and other reports carry it: CHIP_MODE.MODE. -/
def helloBytes (s : State) : List Byte :=
  leBytes s.tileId 1 ++ leBytes s.topo 1 ++ leBytes (s.get F.AFL_TILE_CFG_COUNT) 1 ++ leBytes s.modeNow 1 ++
  leBytes (bit s.panel.holding) 1 ++ [0, 0, 0] ++ leBytes (s.get F.CHIP_EPOCH_EPOCH) 4 ++ [0, 0, 0, 0]

/-- The links that face a neighbour of this device. -/
def State.facing (s : State) : List Nat :=
  (upto 0 4).filter (fun k => (neighbour s.topo s.devices s.tileId k).isSome)

end Sys2Proof.Machine
end

