-- ==== Sys2Proof/Machine/Encoder.lean ====
section
/-! DEFINITION. The confidence encoder: sample map, shadow picture, pictures, rate control and timed transmission
(spec/12_confidence_encoder.md R390 to R411). -/

namespace Sys2Proof.Machine

/-- The state with its encoder part replaced. -/
def State.withEnc (s : State) (e : EncState) : State := { s with enc := e }

/-! ## Sample map (R393 to R395) -/

/-- The descriptor of a register snapshot. -/
def snapGeom (regs : Tab Word) : Geom := geomOfBytes ((upto 0 16).flatMap (fun n => leBytes (snapWord regs (R.GEOM_W n)) 4))

/-- View entry e of a register snapshot: view_u and view_v. -/
def snapView (regs : Tab Word) (e : Nat) : Nat × Nat :=
  (snapField regs (F.ENC_VIEW_VIEW_U (e / 4) (e % 4)), snapField regs (F.ENC_VIEW_VIEW_V (e / 4) (e % 4)))

/-- The hogel and view of sample (i, j) (R393): hx, hy, view_u, view_v. -/
def sampleRay (regs : Tab Word) (i j : Nat) : Nat × Nat × Nat × Nat :=
  let g := snapGeom regs
  let w := snapField regs F.ENC_SIZE_OUT_W
  let h := snapField regs F.ENC_SIZE_OUT_H
  if snapField regs F.ENC_CFG_MODE = 2 then
    let cw := w / 4
    let ch := h / 4
    (i % cw * g.hogelsX / cw, j % ch * g.hogelsY / ch, snapView regs (4 * (j / ch) + i / cw))
  else (i * g.hogelsX / w, j * g.hogelsY / h, snapView regs 0)

/-- The first subpixel in raster order of each ray and colour: 3 × ray + colour to 3 × pixel + subpixel (R394). -/
def firstSubpixels (g : Geom) (map : Tab Nat) : Tab Nat :=
  (upto 0 (3 * g.panelW * g.panelH)).foldl (fun t q =>
    match subpixelRay g (tabGet 0 map) (q / 3 % g.panelW) (q / 3 / g.panelW) (q % 3) with
    | .ray hx hy u v =>
      let key := 3 * rayIndex g hx hy u v + subpixelColour g.layout (q % 3)
      if (tabFind t key).isSome then t else tabInsert t key q
    | _ => t) []

/-- The sample map of a snapshot, and its channels without a source (R394). -/
def buildSampleMap (regs : Tab Word) (map : Tab Nat) : Tab Nat × Nat :=
  let g := snapGeom regs
  let w := snapField regs F.ENC_SIZE_OUT_W
  let first := firstSubpixels g map
  (upto 0 (3 * w * snapField regs F.ENC_SIZE_OUT_H)).foldl (fun acc x =>
    let (hx, hy, u, v) := sampleRay regs (x / 3 % w) (x / 3 / w)
    match tabFind first (3 * rayIndex g hx hy u v + x % 3) with
    | some q => (tabInsert acc.1 x q, acc.2)
    | none => (acc.1, acc.2 + 1)) ([], 0)

/-- Encoder analysis that is done, or that nothing needs any more, leaves the ENCASSIST blocks. -/
def dropAssist (p : Nat → Bool) (s : State) : State :=
  dropWork (fun w => match w with | .assist n => !p n | _ => true) s

/-- The building of a sample map begins, with the words of a register snapshot (R395). -/
def encTrigger (regs : Tab Word) (s : State) : State :=
  if s.armed 5 0 then
    let s := enqueueAll 3 [.assist 0] (dropAssist (· == 0) s)
    (s.withEnc { s.enc with building := some (regs, s.conf.map) }).set F.ENC_STATUS_SEL_PENDING 1
  else s

/-- Staged words that a fence will take ask for a new sample map: the sizes, another MODE, or any ENC_VIEW word, changed or
not (R395, R410). -/
def State.encStaged (s : State) : Bool :=
  (R.ENC_SIZE :: (upto 0 4).map R.ENC_VIEW).any (fun a => (s.stagedWord a).isSome) ||
  s.getNext F.ENC_CFG_MODE != s.get F.ENC_CFG_MODE

/-- SAMPLE_MAP_BUILT: the map takes force, and the next frame that starts has every tile dirty (R395). -/
def sampleMapBuilt (s : State) : State :=
  match s.enc.building with
  | none => s
  | some (regs, map) =>
    let (m, missing) := buildSampleMap regs map
    let s := dropAssist (· == 0) s
    let s := s.withEnc { s.enc with
      building := none, map := m, mapRegs := some regs, stage := 1, stageFrame := s.conf.started, shadow := [], needIdr := true }
    let s := (s.set F.ENC_STATUS_SEL_PENDING 0).set F.ENC_STATUS_RUNNING 0
    let s := s.withConf { s.conf with whole := true }
    raise 835 (s.bumpBy (F.ENC_CNT_COUNT 4) missing)

/-! ## Shadow picture (R396, R397) -/

/-- The link code of a subpixel in slot h. -/
def State.slotCode (s : State) (g : Geom) (h q : Nat) : Nat :=
  match s.stagingPool with
  | none => 0
  | some p =>
    let w := rayContainer g.rayFormat
    let px := q / 3 % g.panelW
    let py := q / 3 / g.panelW
    channelOf (linkBits g) (leNat (s.poolRead p (slotBase g h + py * framePitch g + w * px) w))
      (subpixelColour g.layout (q % 3))

/-- The context address of a subpixel's word in slot h where it is poisoned (spec/14_hbm_controller.md R449). -/
def State.slotPoison (s : State) (g : Geom) (h q : Nat) : Option Nat :=
  match s.poison.isEmpty, s.stagingPool with
  | false, some p =>
    let w := rayContainer g.rayFormat
    let off := slotBase g h + q / 3 / g.panelW * framePitch g + w * (q / 3 % g.panelW)
    if s.hbmPoisoned (poolBase p + off) w then some (contextAddress p.id off) else none
  | _, _ => none

/-- BT.709 or BT.2020 Kr and Kb in ten-thousandths (R397, spec/06_carding.md R210). -/
def lumaWeights (matrix : Nat) : Nat × Nat := if matrix = 0 then (2126, 722) else (2627, 593)

/-- A binary32 value rounded to an integer, ties away from zero (R397). -/
def roundAway (a : Nat) : Int :=
  match floatDecode single a with
  | .fin neg m e =>
    let (n, d) := scaleFrac m 1 e
    let r : Int := ((2 * n + d) / (2 * d) : Nat)
    if neg then -r else r
  | _ => 0

/-- Y, Cb and Cr of a sample from its link codes, in binary32 (R397). -/
def convertSample (matrix peak r g b : Nat) : Nat × Nat × Nat :=
  let (kr, kb) := lumaWeights matrix
  let f := single
  let c := fun n => floatOfFrac f n 10000
  let v := fun code => floatDiv f (floatOfFrac f code 1) (floatOfFrac f peak 1)
  let y := floatAdd f (floatAdd f (floatMul f (c kr) (v r)) (floatMul f (c (10000 - kr - kb)) (v g))) (floatMul f (c kb) (v b))
  let chroma := fun x k => floatDiv f (floatSub f (v x) y) (c (2 * (10000 - k)))
  let q := fun off gain x => (roundAway (floatAdd f (floatOfFrac f off 1) (floatMul f (floatOfFrac f gain 1) x))).toNat
  (q 64 876 y, q 512 896 (chroma b kb), q 512 896 (chroma r kr))

/-- The full-size 10-bit picture of the shadow: Y, Cb, Cr at 3 × sample (R397). -/
def State.shadowPicture (s : State) : Tab Nat :=
  match s.enc.mapRegs with
  | none => []
  | some regs =>
    let n := snapField regs F.ENC_SIZE_OUT_W * snapField regs F.ENC_SIZE_OUT_H
    let peak := if (snapGeom regs).rayFormat = 0 then 1023 else 4095
    let code := fun x => tabGet 0 s.enc.shadow x
    (upto 0 n).flatMap (fun i =>
      let (y, cb, cr) := convertSample (s.get F.ENC_CFG_MATRIX) peak (code (3 * i)) (code (3 * i + 1)) (code (3 * i + 2))
      [(3 * i, y), (3 * i + 1, cb), (3 * i + 2, cr)])

/-- A sample of the 4:2:0 chroma plane, c = 1 for Cb and 2 for Cr (R397). -/
def chromaSample (w : Nat) (pic : Tab Nat) (c i j : Nat) : Nat :=
  let at_ := fun x y => tabGet 0 pic (3 * (y * w + x) + c)
  (at_ (2 * i) (2 * j) + at_ (2 * i + 1) (2 * j) + at_ (2 * i) (2 * j + 1) + at_ (2 * i + 1) (2 * j + 1) + 2) / 4

/-- The frame of slot h flips: the values of its dirty tiles enter the shadow in one step (R396), also into a picture that
its fence has just started (R399). Samples in a poisoned word keep their values, and a picture in coding is not sent
(spec/14_hbm_controller.md R449; spec/15_translation_preemption.md R466). -/
def encFlip (h : Nat) (s : State) : State :=
  match s.enc.mapRegs with
  | none => s
  | some _ =>
    let g := s.geom
    let f := s.frame h
    let taken := s.enc.map.filter (fun e => f.dirty.contains (tileOf g (e.2 / 3 % g.panelW) (e.2 / 3 / g.panelW)))
    let bad := taken.findSome? (fun e => s.slotPoison g h e.2)
    let shadow := taken.foldl (fun t e =>
      if (s.slotPoison g h e.2).isSome then t else tabPut 0 t e.1 (s.slotCode g h e.2)) s.enc.shadow
    let s := s.withEnc { s.enc with shadow := shadow }
    let s : State := match bad with
      | some a => (xlatFault 7 4 none a 0 s).withEnc { s.enc with pic := none, needIdr := true }
      | none => s
    let s := if s.enc.stage = 1 ∧ f.order ≥ s.enc.stageFrame then
        (s.withEnc { s.enc with stage := 2, fences := 0 }).set F.ENC_STATUS_RUNNING 1
      else s
    match s.enc.pic, s.panel.edge with
    | some p, some e =>
      if p.row = 0 ∧ p.bytes = [] ∧ p.time = e then s.withEnc { s.enc with pic := some { p with samples := s.shadowPicture } }
      else s
    | _, _ => s

/-! ## Pictures and budgets (R399 to R406) -/

/-- CTU rows of a picture. -/
def State.encRows (s : State) : Nat := ceilDiv (s.get F.ENC_SIZE_OUT_H) 32

/-- The nominal budget of a picture (R402). -/
def State.nominalBits (s : State) : Nat :=
  let g := s.geom
  s.get F.ENC_BITRATE_TARGET * 10000 * s.get F.ENC_CFG_DIVIDE * g.rateDen / g.rateNum

/-- The base budget (R402): hist are the complexities of the last coded pictures of the type. A mean of 0 leaves the ratio
open: the free value n2 stands for floor(n × ratio) within its clamp. -/
def baseBits (n c max target n2 : Nat) (vbr : Bool) (hist : List Nat) : Nat :=
  if ¬ vbr then n
  else
    let sum := hist.sum
    let scaled := if hist = [] then n
      else if sum = 0 then n / 2 + n2 % (3 * n / 2 + 1)
      else
        let num := c * hist.length
        if 2 * num ≤ sum then n / 2 else if num ≥ 2 * sum then 2 * n else n * num / sum
    min scaled (max * n / target)

/-- The budget of a row from what remains (R404). -/
def rowShare (rem : Nat) (rows : List Nat) : Nat :=
  match rows with
  | [] => 0
  | c :: _ => if rows.sum = 0 then rem / rows.length else rem * c / rows.sum

/-- A picture starts, with the registers in force, which it uses throughout (R399, R402 to R404;
spec/11_time_presentation.md R374). Its row complexities are measured against a reconstruction that H.265 leaves to
the coder, and are free values. -/
def encStart (time : Nat) (s : State) : State :=
  let gop := s.get F.ENC_CFG_GOP_LEN
  let idr := s.enc.needIdr || (gop != 0 && decide (s.enc.sinceIdr ≥ gop))
  let (rows, s) := (upto 0 s.encRows).foldl (fun (acc : List Nat × State) _ =>
    let (n, s) := acc.2.draw; (acc.1 ++ [n], s)) ([], s)
  let (n2, s) := s.draw
  let hist := if idr then s.enc.histIdr else s.enc.histP
  let b := baseBits s.nominalBits rows.sum (s.get F.ENC_BITRATE_MAX) (s.get F.ENC_BITRATE_TARGET) n2
    (s.get F.ENC_RC_RC_MODE == 1) hist
  let carry := s.get F.ENC_CARRY_CARRY
  let charge := min carry (7 * b / 8)
  let extra := if idr then b * (s.get F.ENC_RC_INTRA_Q - 4) / 4 else 0
  let s := s.set F.ENC_CARRY_CARRY (min 0xFFFFFFFF (carry - charge + extra))
  let budget := b - charge + extra
  let s := s.set F.ENC_STATUS_HIGH_TIER
    (bit (decide (s.get F.ENC_BITRATE_TARGET > 4000) || decide (s.get F.ENC_BITRATE_MAX > 4000)))
  let s := enqueueAll 3 ((upto 0 s.encRows).map (fun r => .assist (r + 1))) s
  s.withEnc { s.enc with pic := some {
    count := s.enc.count, idr := idr, time := time, samples := s.shadowPicture, rows := rows, budget := budget
    rowBudget := rowShare budget rows, complexity := rows.sum, holds := s.holdsOn 5 0, regs := s.regs } }

/-- A fence passes (R399, R400). -/
def encFence (time : Nat) (s : State) : State :=
  if ¬ s.armed 5 0 ∨ s.enc.stage ≠ 2 then s
  else
    let n := s.enc.fences + 1
    let s := s.withEnc { s.enc with fences := n }
    if n % max 1 (s.get F.ENC_CFG_DIVIDE) ≠ 0 then s
    else if s.enc.pic.isSome then raise 833 (s.bump (F.ENC_CNT_COUNT 1))
    else encStart time s

/-- A filler-data NAL unit of n bytes, start code included (R406). -/
def fillerUnit (n : Nat) : List Byte := [0, 0, 0, 1, 0x4C, 0x01] ++ List.replicate (n - 7) 0xFF ++ [0x80]

/-- The batt header and payload of a piece of a picture's access unit, after the MAC addresses, IPv4 addresses and UDP ports it
is sent to and from (R407, R144). -/
def encBattBytes (s : State) (p : EncPicture) (seq offset : Nat) (first last : Bool) (payload : List Byte) : List Byte :=
  let at_ := snapField p.regs
  let port := at_ F.ENC_TX_PORT
  let unit := p.count % 2 ^ 32
  let time := p.time
  beBytes (at_ F.ENC_DST_MAC_HI_VALUE * 2 ^ 32 + at_ F.ENC_DST_MAC_LO_VALUE) 6 ++ beBytes (s.mac port) 6 ++
  beBytes (s.get (F.ETH_IP4_ADDR port)) 4 ++ beBytes (at_ F.ENC_DST_IP4_VALUE) 4 ++ beBytes 52160 2 ++
  beBytes (at_ F.ENC_DST_UDP_VALUE) 2 ++
  [0x42, 0x54, 1, 1] ++ leBytes (at_ F.ENC_TX_STREAM_ID) 1 ++ leBytes (bit first + 2 * bit last) 1 ++
  leBytes payload.length 2 ++ leBytes seq 4 ++ leBytes unit 4 ++ leBytes offset 8 ++ leBytes (time / 1000000000) 8 ++
  leBytes (time % 1000000000) 4 ++ leBytes 0 4 ++ payload

/-- The batts of an access unit (R407, R408): SEQ from seq, offset bytes already sent. -/
def encSplit (s : State) (p : EncPicture) (seq : Nat) (offset : Nat) : Nat → List Byte → List EncBatt
  | 0, _ => []
  | fuel + 1, bs =>
    let head := bs.take 9510
    let rest := bs.drop 9510
    let at_ := p.time + 1000 * snapField p.regs F.ENC_TX_TX_DELAY_US +
      ceilDiv (8 * offset * 1000) (max 1 (snapField p.regs F.ENC_PACE_PACE_MBPS))
    ⟨snapField p.regs F.ENC_TX_PORT, at_, offset == 0, encBattBytes s p (seq % 2 ^ 32) offset (offset == 0) rest.isEmpty head⟩ ::
      (if rest.isEmpty then [] else encSplit s p (seq + 1) (offset + 9510) fuel rest)

/-- A picture ends: overrun or filler, history, batts (R402, R405 to R408). -/
def encEnd (p : EncPicture) (s : State) : State :=
  let overrun := p.overBudget || decide (p.spent > p.budget)
  let s := if overrun then
      raise 832 ((s.set F.ENC_CARRY_CARRY (min 0xFFFFFFFF (s.get F.ENC_CARRY_CARRY + (p.spent - p.budget)))).bump (F.ENC_CNT_COUNT 0))
    else s
  let gap := p.budget - p.spent
  let bytes := if ¬ overrun ∧ snapField p.regs F.ENC_RC_RC_MODE = 0 ∧ 56 ≤ gap then p.bytes ++ fillerUnit (gap / 8) else p.bytes
  let (seq, s) := match s.enc.seq with
    | some n => (n, s)
    | none => let (n, s) := s.draw; (n % 2 ^ 32, s)
  let bs := encSplit s p seq 0 (bytes.length + 1) bytes
  let e := s.enc
  let s := s.withEnc { e with
    pic := none, count := e.count + 1, sinceIdr := if p.idr then 1 else e.sinceIdr + 1, needIdr := false
    histIdr := if p.idr then (p.complexity :: e.histIdr).take 16 else e.histIdr
    histP := if p.idr then e.histP else (p.complexity :: e.histP).take 16
    seq := some ((seq + bs.length) % 2 ^ 32), batts := e.batts ++ bs }
  s.set F.ENC_STATUS_PICTURES ((s.get F.ENC_STATUS_PICTURES + 1) % 65536)

/-- A row completes with its bits and bytes (R401, R404, R405); a picture whose lease has gone stale is not sent and the
next is IDR (spec/15_translation_preemption.md R466). -/
def encRowDone (bits : Nat) (bytes : List Byte) (s : State) : State :=
  match s.enc.pic with
  | none => s
  | some p =>
    let s := dropAssist (· != 0) s
    match s.stale p.holds with
    | some e =>
      let s := xlatFault 7 3 (some e) (s.leaseAddress e) (p.row + 2 ^ 16 * (p.count % 2 ^ 32)) s
      s.withEnc { s.enc with pic := none, needIdr := true }
    | none =>
      let rows := p.rows.drop 1
      let spent := p.spent + bits
      let p := { p with
        rows := rows, row := p.row + 1, spent := spent, bytes := p.bytes ++ bytes
        overBudget := p.overBudget || (decide (spent ≥ p.budget) && !rows.isEmpty)
        rowBudget := rowShare (p.budget - spent) rows }
      if ¬ rows.isEmpty then s.withEnc { s.enc with pic := some p }
      else if s.armed 5 0 then encEnd p s
      else s.withEnc { s.enc with pic := none, needIdr := true }

/-! ## Transmission (R408, R409) -/

/-- The front batt leaves once its earliest time has come, or is dropped while the port's link is down. -/
def encSend (s : State) : State :=
  match s.enc.batts with
  | [] => s
  | b :: rest =>
    let port := b.port
    if s.q9 < b.earliest ∨ s.portPaused port (s.get (F.ETH_CFG_PCP port)) then s
    else
      let s := s.withEnc { s.enc with batts := rest }
      if s.get (F.ETH_STATUS_LINK port) = 0 then s.bump (F.ENC_CNT_COUNT 3)
      else
        let s := if b.first ∧ s.q9 > b.earliest then raise 834 (s.bump (F.ENC_CNT_COUNT 2)) else s
        s.emit (.frame port "batt" (s.tagged port b.bytes))

/-- The output arms: a new count of pictures, the sample map is built from the words that it joins with (R395, R399). -/
def encArm (regs : Tab Word) (s : State) : State :=
  let s := dropAssist (· != 0) s
  let s := s.withEnc { s.enc with count := 0, sinceIdr := 0, needIdr := true, stage := 0, fences := 0, pic := none }
  encTrigger regs ((s.set F.ENC_STATUS_PICTURES 0).set F.ENC_STATUS_RUNNING 0)

/-- The output disarms: batts in flight are discarded (spec/03_control_kcp.md R119); a picture in coding holds its lease
until it ends, and is not sent (spec/15_translation_preemption.md R461). -/
def encDisarm (s : State) : State :=
  let s := dropAssist (· == 0) s
  let s := s.withEnc { s.enc with building := none, stage := 0, batts := [], map := [], mapRegs := none, shadow := [] }
  (s.set F.ENC_STATUS_SEL_PENDING 0).set F.ENC_STATUS_RUNNING 0

/-! ## The registers (R410) -/

/-- A write of an ENC register (R410, R124). -/
def encWrite (a : Nat) (v : Word) (s : State) : Res :=
  let st := (s.path 5 0).state
  let narrow := a == R.ENC_SIZE || a == R.ENC_POOL || a == R.ENC_TX || decide (R.ENC_DST_MAC_LO ≤ a ∧ a ≤ R.ENC_DST_UDP)
  if st = 0 then refuse .window s
  else if a = R.ENC_RC ∧ (slice v.toNat 21 16 > slice v.toNat 29 24 ∨ slice v.toNat 29 24 > 51 ∨ slice v.toNat 3 0 < 4) then
    refuse .value s
  else if a = R.ENC_PACE ∧ (slice v.toNat 13 0 = 0 ∨ slice v.toNat 13 0 > 10000) then refuse .value s
  else if st = 3 ∧ (narrow ∨ (a = R.ENC_CFG ∧
      (slice v.toNat 1 0 ≠ s.getNext F.ENC_CFG_MODE ∨ slice v.toNat 4 4 ≠ s.getNext F.ENC_CFG_MATRIX))) then refuse .window s
  else okay (s.stageWrite a v)

/-! ## The commands -/

/-- SAMPLE_MAP_BUILT (R395). -/
def execSampleMapBuilt (s : State) : Host.Outcome State Fault Refusal := whenLive s sampleMapBuilt

/-- ENC_ROW_COMPLETE (R404). -/
def execEncRowComplete (bits : Nat) (bytes : List Byte) (s : State) : Host.Outcome State Fault Refusal :=
  whenLive s (encRowDone bits bytes)

/-- ENC_BATT_SEND (R408). -/
def execEncBattSend (s : State) : Host.Outcome State Fault Refusal := whenLive s encSend

end Sys2Proof.Machine
end

