-- ==== Sys2Proof/Machine/Present.lean ====
section
/-! DEFINITION. The presentation queue: instants become ray frames, frames take target edges, are begun, pushed, committed
and flipped (spec/11_time_presentation.md R376 to R386; spec/10_panel_protocol.md R331 to R354). -/

namespace Sys2Proof.Machine

/-! ## Instants and launch times (R380, R381) -/

/-- The state with its carding part replaced. -/
def State.withCard (s : State) (c : CardState) : State := { s with card := c }

/-- Instants that fail a test are gone; their holds end. -/
def dropInstants (keep : Instant → Bool) (s : State) : State :=
  s.withCard { s.card with instants := s.card.instants.filter keep }

/-- An instant belongs to a ray frame. -/
def State.assigned (s : State) (i : Instant) : Bool :=
  s.conf.frames.any (fun e => e.2.state != 0 && e.2.instants.contains (i.layer, i.count))

/-- A complete instant that no frame has taken. -/
def State.spare (s : State) (i : Instant) : Bool := i.phase == 2 && !s.assigned i

/-- A launch time is past for the conformer: its frame has started, or its build deadline has gone. -/
def State.launchPast (s : State) (t : Nat) : Bool :=
  (match s.conf.lastLaunch with | some x => decide (t ≤ x) | none => false) ||
  (match s.conf.cut with | some x => decide (t ≤ x) | none => false)

/-- The frame of a launch time has started. -/
def State.launchStarted (s : State) (t : Nat) : Bool :=
  match s.conf.lastLaunch with | some x => decide (t ≤ x) | none => false

/-- The layers that contribute to the frame for T: ARMED ones, and any whose started instant a DISARM has left (R380;
spec/15_translation_preemption.md R461). -/
def State.contributors (s : State) (t : Nat) : List Nat :=
  (upto 0 64).filter (fun l => (s.armed 2 l && (s.stream (s.layerStream l)).seen.contains t) ||
    s.card.instants.any (fun i => i.layer == l && i.launch == some t && !i.late))

/-- The launch times whose frame has not started. -/
def State.launches (s : State) : List Nat :=
  ((s.armedIds 2).flatMap (fun l => (s.stream (s.layerStream l)).seen) ++
    s.card.instants.filterMap (fun i => if i.late then none else i.launch)).filter (fun t => !s.launchStarted t)

/-- The least of them: frames start in ascending T (R381). -/
def State.nextLaunch (s : State) : Option Nat :=
  s.launches.foldl (fun best t => match best with | none => some t | some b => some (min b t)) none

/-- The layer's instant for T is complete. -/
def State.instantDone (s : State) (t l : Nat) : Bool :=
  s.card.instants.any (fun i => i.layer == l && i.launch == some t && !i.late && i.phase == 2)

/-- Every contributing instant for T has completed, or the build deadline has passed (R381). -/
def State.launchReady (s : State) (t : Nat) : Bool :=
  s.conf.cut == some t || (s.contributors t).all (s.instantDone t)

/-- The complete instants that layers contribute to the frame for T: those for T, and those without a launch time (R380). -/
def State.ownInstants (s : State) (t : Option Nat) : List Instant :=
  s.card.instants.filter (fun i => s.spare i && !i.late && (i.launch.isNone || i.launch == t))

/-- A late instant whose layer contributes an instant of its own to the frame for T (R381). -/
def State.displaced (s : State) (t : Option Nat) (i : Instant) : Bool :=
  s.spare i && i.late && (s.ownInstants t).any (fun j => j.layer == i.layer)

/-- The complete instants that the frame for T takes: its own, and late ones carried over whose layer has none of its own
(R380, R381). -/
def State.frameSet (s : State) (t : Option Nat) : List Instant :=
  s.ownInstants t ++ s.card.instants.filter (fun i => s.spare i && i.late && !s.displaced t i)

/-- Late instants whose layer has an instant of its own in the frame are discarded (R381). -/
def dropCarried (t : Option Nat) (s : State) : State := dropInstants (fun i => !s.displaced t i) s

/-- Launch times up to T leave the record of first batts. -/
def forgetLaunches (t : Nat) (s : State) : State :=
  { s with ingest := { s.ingest with
    streams := s.ingest.streams.map (fun e => (e.1, { e.2 with seen := e.2.seen.filter (fun x => t < x) })) } }

/-- What a frame holds: the RAWRAY units it reads (spec/15_translation_preemption.md R461). -/
def State.frameHolds (s : State) (insts : List Instant) : List (Nat × Nat) :=
  insts.flatMap (fun i => match i.input with
    | .rays => s.holdsOn 1 (s.layerStream i.layer)
    | _ => [])

/-- The frame for T starts in a free slot with its complete instants, without those that are late (R380, R381). -/
def startLaunch (t : Option Nat) (s : State) : State :=
  match s.freeSlot with
  | none => stageWait s
  | some h =>
    let s := dropCarried t s
    let insts := s.frameSet t
    let s := startFrame h t t false insts s
    let s := match t with
      | some x => (forgetLaunches x s).withConf { s.conf with lastLaunch := some x, cut := none }
      | none => s
    s.setFrame h { s.frame h with holds := s.frameHolds insts }

/-- The queue is ARMED and has joined presentation at a fence (spec/03_control_kcp.md R121, R375). -/
def State.queued (s : State) : Bool := s.armed 4 0 && (s.path 4 0).joined

/-- Frames may be shown. -/
def State.presenting (s : State) : Bool := s.queued && s.modeNow != 0xA

/-- Complete instants without a launch time start a frame of their own (R380); a late instant only joins one (R381). -/
def startFree (s : State) : State :=
  if s.card.instants.any (fun i => s.spare i && i.launch.isNone) then startLaunch none s else s

/-- RAY_FRAME_START: the frame for the least launch time once its instants are complete, else a frame of instants without a
launch time (R260, R380, R381). -/
def rayFrameStart (s : State) : State :=
  if ¬ s.queued ∨ s.building then s
  else match s.nextLaunch with
    | some t => if s.launchReady t then startLaunch (some t) s else startFree s
    | none => startFree s

/-- Contributing instants that are not complete at the build deadline are late (R381). -/
def markLate (t : Nat) (s : State) : State :=
  let missing := (s.contributors t).filter (fun l => !s.instantDone t l)
  let s := missing.foldl (fun s _ => raise 146 (s.bump (F.PQ_CNT_COUNT 2))) s
  let s := s.withCard { s.card with
    instants := s.card.instants.map (fun i => if i.launch = some t ∧ i.phase ≠ 2 then { i with late := true } else i) }
  s.withConf { s.conf with cut := some t }

/-- BUILD_US before the target edge of a launch time has come (R381). -/
def State.deadlineDue (s : State) (edge : Option Nat) : Bool :=
  match edge with
  | some e => decide (s.q9 + 1000 * s.get F.PQ_PIPE_BUILD_US ≥ e)
  | none => false

/-- A member that holds no entry with the token's launch time at its build deadline sends STATUS 0x1
(spec/13_afloth_tiling.md R425). -/
def memberNoFrame (s : State) : State :=
  match s.afl.token with
  | some t =>
    if s.tiled ∧ ¬ s.leader ∧ ¬ s.afl.noFrame ∧ s.deadlineDue (some t.edge) ∧
        ¬ (upto 0 32).any (fun h => (s.frame h).state != 0 && (s.frame h).launch == t.launch) then sendDone 1 s
    else s
  | none => s

/-- BUILD_DEADLINE (R381). -/
def buildDeadline (s : State) : State :=
  let s := if ¬ s.queued then s else match s.nextLaunch with
    | some t =>
      if s.deadlineDue (s.edgeNear t) ∧ s.conf.cut ≠ some t then
        let s := markLate t s
        if s.building then s else startLaunch (some t) s
      else s
    | none => s
  memberNoFrame s

/-! ## Target edges (R378, R382, R383) -/

/-- The last TE pulse width. -/
def State.teWidth (s : State) : Nat := s.get F.PANEL_TEWIDTH_WIDTH_NS

/-- The edge at which the open frame flips: its target, or the next edge once its commit has missed that (R337, R383). -/
def State.openFlip (s : State) (o : OpenFrame) : Option Nat := if o.missed then s.nextEdge else o.target

/-- The earliest start of a FRAME_BEGIN for edge e: the end of the pulse before it, and of the pulse at which the open frame
flips (R336, R382). -/
def State.beginAt (s : State) (e : Nat) : Nat :=
  let after := match s.panel.opened.bind s.openFlip with
    | some x => x + s.teWidth
    | none => 0
  max (max s.q9 after) (e - s.tePeriod + s.teWidth)

/-- R382 can hold for edge e with push time t. -/
def State.canMeet (s : State) (e t : Nat) : Bool := decide (s.beginAt e + t < s.sampleAt e)

/-- The first edge after e for which R382 can hold, none where the push time exceeds what one period leaves (R383; assumption
log entry 9). -/
def State.laterEdge (s : State) (e t : Nat) : Option Nat :=
  let p := s.tePeriod
  let far := (s.edgeNear (max e (s.beginAt e + t + s.guardNs))).getD e
  let tries := (upto 1 3).map (fun k => e + k * p) ++ (upto 0 3).map (fun k => far + k * p)
  (tries.filter (fun x => decide (e < x))).find? (fun x => s.canMeet x t)

/-- Every tile must be pushed: the back memory is invalid, or a hold ends over another image (R341, R349, R354). -/
def State.wholeNext (s : State) : Bool :=
  s.panel.invalidNext || s.get F.PANEL_STATUS_BSTATE == 3 || (s.panel.held && s.get F.PANEL_STATUS_FRONT_FRAME != s.panel.lastFlip)

/-- The push time of a frame as it would begin now. -/
def State.frameTime (s : State) (dirty : List Nat) : Nat := s.pushTime (if s.wholeNext then allTiles s.geom else dirty)

/-- The frame of slot h, whose pushes take t, takes the first edge after e for which R382 can hold; where none can, it keeps
its target edge and waits (R383). -/
def retarget (h e t : Nat) (s : State) : State :=
  let f := s.frame h
  match s.laterEdge e t with
  | some x => s.setFrame h { f with late := true, noEdge := false, target := some x }
  | none => s.setFrame h { f with late := true, noEdge := true }

/-- A frame whose pushes take t is found late for its target edge e (R383). One that is still BUILDING takes its new target
once it is READY. -/
def frameLate (h e t : Nat) (s : State) : State :=
  let f := s.frame h
  if f.noEdge then retarget h e t s
  else
    let s := raise 144 (s.bump (F.PQ_CNT_COUNT 0))
    if s.flag F.PQ_CFG_MISS then
      if f.state = 2 then discardFrame h s else s.setFrame h { f with late := true, discardWhenDone := true }
    else if f.state = 2 then retarget h e t s
    else s.setFrame h { f with late := true }

/-- Lateness of a READY frame is decided (R383); a frame without a launch time takes the first edge it can meet (R380).
Members follow the leader's tokens instead (spec/13_afloth_tiling.md R425). -/
def decideLate (h : Nat) (s : State) : State :=
  let f := s.frame h
  if f.state ≠ 2 ∨ (s.tiled ∧ ¬ s.leader) then s
  else match s.targetEdge f with
    | some e => if s.canMeet e (s.frameTime f.dirty) then s else frameLate h e (s.frameTime f.dirty) s
    | none =>
      match f.launch, s.nextEdge with
      | none, some e =>
        let t := s.frameTime f.dirty
        s.setFrame h { f with target := if s.canMeet e t then some e else s.laterEdge e t }
      | _, _ => s

/-- The frame of slot h has completed: its instants are used up, lateness is decided (R377, R383). -/
def frameReady (h : Nat) (s : State) : State :=
  let f := s.frame h
  let s := dropInstants (fun i => !f.instants.contains (i.layer, i.count)) s
  let s := s.setFrame h { f with holds := [] }
  if f.discardWhenDone then discardFrame h s
  else match f.late, s.targetEdge f with
    | true, some e => retarget h e (s.frameTime f.dirty) s
    | _, _ => decideLate h s

/-- F(E) passes: frames not begun that target E, and the open frame not yet committed, are late; the open one flips at the
next edge and is counted once (R383). -/
def lateAtSample (s : State) : State :=
  let due := fun e : Nat => decide (s.sampleAt e ≤ s.q9)
  let s := if s.tiled ∧ ¬ s.leader then s else
    (upto 0 32).foldl (fun s h =>
      let f := s.frame h
      if (f.state = 1 ∧ ¬ f.late) ∨ f.state = 2 then
        match s.targetEdge f with
        | some e => if due e then frameLate h e (s.frameTime f.dirty) s else s
        | none => s
      else s) s
  match s.panel.opened with
  | some o =>
    match o.committed, o.target.bind s.edgeNear with
    | false, some e =>
      if due e ∧ ¬ s.tiled ∧ ¬ o.missed then
        let s := raise 144 (s.bump (F.PQ_CNT_COUNT 0))
        let s := s.setFrame o.handle { s.frame o.handle with late := true }
        s.withOpen (some { o with missed := true })
      else s
    | _, _ => s
  | none => s

/-! ## FRAME_BEGIN (R335, R336, R382, R384) -/

/-- Entry k is superseded by entry h, the next whose pushes begin, which takes its tiles (R265, R384). -/
def supersede (h k : Nat) (s : State) : State :=
  discardFor (some h) k (raise 145 ((s.bump (F.PQ_CNT_COUNT 1)).bump (F.PQ_CNT_COUNT 0)))

/-- The tiles beyond the limit of THROTTLED become owed to the next frame (spec/18_modes_power_thermal.md R529). -/
def deferTiles (h : Nat) (s : State) : State :=
  let f := s.frame h
  let (take, rest) := s.pushShare f.dirty
  if rest.isEmpty then s
  else
    let s := s.setFrame h { f with dirty := f.dirty.filter (fun t => take.contains t) }
    oweTiles rest (s.bumpBy F.THERM_DEFER_COUNT rest.length)

/-- The tile row after the last row pushed is where the next frame's push order starts under THROTTLED (R529). -/
def noteRow (ps : List Push) (s : State) : State :=
  match s.pushLimit, ps.getLast? with
  | some _, some p => s.withPanel { s.panel with throttleRow := (p.ty + 1) % max 1 (tilesY s.geom) }
  | _, _ => s

/-- FRAME_BEGIN of the entry in slot h for edge e (R335, R349, R377, R425). -/
def beginFrame (h e : Nat) (s : State) : State :=
  let s := if s.wholeNext then dirtyTiles h (allTiles s.geom) s else s
  let s := s.withPanel { s.panel with invalidNext := false }
  let first := s.firstRow
  let n := (s.get F.PANEL_FRAME_FRAME + 1) % 65536
  let s := s.setFrame h { s.frame h with state := 3, frameNo := n }
  let s := deferTiles h s
  let ps := pushList s.geom first (s.frame h).dirty
  let s := noteRow ps s
  let o : OpenFrame := { handle := h, frameNo := n, pushes := ps, target := some e }
  let s := (s.set F.PANEL_FRAME_FRAME n).set F.PANEL_FRAME_RESTARTS 0
  let s := if s.panel.held then raise 705 (s.withPanel { s.panel with holding := false, held := false, holdAt := none }) else s
  let s := sendBegin false o (s.withOpen (some o))
  if s.tiled ∧ s.leader then sendPlan e (s.frame h).launch n s else s

/-- The READY entries. -/
def State.readyEntries (s : State) : List Nat := s.framesIn 2

/-- Among entries the one to take: the greatest launch time, entries without one last, the later one among those (R384). -/
def State.pickEntry (s : State) (hs : List Nat) : Option Nat :=
  hs.foldl (fun best h =>
    match best with
    | none => some h
    | some b =>
      match (s.frame h).launch, (s.frame b).launch with
      | some x, some y => if y < x then some h else best
      | some _, none => some h
      | none, some _ => best
      | none, none => if (s.frame b).order < (s.frame h).order then some h else best) none

/-- The target edge of an entry is e or earlier. -/
def State.dueBy (s : State) (e h : Nat) : Bool :=
  match s.targetEdge (s.frame h) with
  | some x => decide (x ≤ e + s.tePeriod / 2)
  | none => false

/-- The READY entries whose target edge is e or earlier (R384). -/
def State.dueEntries (s : State) (e : Nat) : List Nat := s.readyEntries.filter (s.dueBy e)

/-- The READY entries that entry h supersedes when it begins for edge e: those due by e, and those without a launch time that
a later READY entry follows (R384). -/
def State.supersededBy (s : State) (e h : Nat) : List Nat :=
  s.readyEntries.filter (fun k => k != h && (s.dueBy e k ||
    ((s.frame k).launch.isNone && s.readyEntries.any (fun j => decide ((s.frame k).order < (s.frame j).order)))))

/-- The dirty tiles of entry h with those that it takes over. -/
def State.unitedTiles (s : State) (h : Nat) (others : List Nat) : List Nat :=
  others.foldl (fun d k => (s.frame k).dirty.foldl (fun d t => setInsert t d) d) (s.frame h).dirty

/-- Frames may begin: the panel link is UP and CAPS_OK is 1 (R336, R353). -/
def State.panelReady (s : State) : Bool := s.linkUp 0 && s.flag F.PANEL_STATUS_CAPS_OK

/-- Entry h is due while the panel link is not UP or CAPS_OK is 0: it is dropped and counted (spec/09_serial_lanes.md R310,
R311; R353). -/
def dropEntry (h : Nat) (s : State) : State := discardFrame h (s.bump (F.LNK_DROP_COUNT 0))

/-- Entry h, the pick for edge e, begins; the entries that it supersedes are discarded (R382, R384). A member of a tiled panel
follows its token (spec/13_afloth_tiling.md R425). -/
def beginFor (e h : Nat) (member : Bool) (s : State) : State :=
  let others := s.supersededBy e h
  let t := s.frameTime (s.unitedTiles h others)
  if s.q9 + s.tePeriod < e + s.teWidth then s
  else if ¬ member ∧ ¬ s.canMeet e t then frameLate h ((s.targetEdge (s.frame h)).getD e) t s
  else
    let s := others.foldl (fun s k => supersede h k s) s
    if s.panelReady then beginFrame h e s else dropEntry h s

/-- A READY entry without a target edge, or for which no edge would do, is looked at again (R380, R383, R385). -/
def seekEdge (h : Nat) (s : State) : State :=
  let f := s.frame h
  if f.target.isNone then decideLate h s
  else match f.noEdge, s.targetEdge f with
    | true, some e => retarget h e (s.frameTime f.dirty) s
    | _, _ => s

/-- FRAME_BEGIN_SEND (R336, R382, R384; members follow their token, spec/13_afloth_tiling.md R425). -/
def frameBegin (s : State) : State :=
  if ¬ s.presenting ∨ s.panel.opened.isSome ∨ s.pins.te ∨ s.afl.leaderHold ∨ s.memChanging then s
  else
    let s := s.readyEntries.foldl (fun s h => seekEdge h s) s
    match s.nextEdge with
    | none => s
    | some e =>
      if s.tiled ∧ ¬ s.leader then
        match s.afl.token with
        | some t =>
          match s.pickEntry (s.readyEntries.filter (fun h => (s.frame h).launch == t.launch)) with
          | some h => beginFor t.edge h true s
          | none => s
        | none => s
      else
        match s.pickEntry (s.dueEntries e) with
        | some h => beginFor e h false s
        | none => s

/-! ## Pushes and commit (R332, R333, R337, R344) -/

/-- The open frame may send: the link is UP, no packet in progress, no STATUS awaited, not committed. -/
def State.canSend (s : State) (o : OpenFrame) : Bool :=
  s.linkUp 0 && decide (s.now ≥ s.panel.busyUntil) && o.abortedAt.isNone && !o.committed && !s.panel.holding

/-- The push that the open frame sends next, and the frame once it is sent: the first resend, else the next of R331 (R342). -/
def OpenFrame.takePush (o : OpenFrame) : Option (Nat × OpenFrame) :=
  match o.resend with
  | k :: rest => some (k, { o with resend := rest })
  | [] => if o.next < o.pushes.length then some (o.next, { o with next := o.next + 1 }) else none

/-- The data of a push as it is sent, and whether it is compressed (R333). -/
def State.pushForm (s : State) (stream : Bool) (raw : List Byte) : List Byte × Bool :=
  let z := if s.compActive && stream then fullerCompress 12 raw else raw
  if s.compActive && stream && decide (dataPositions z.length < dataPositions raw.length) then (z, true) else (raw, false)

/-- The bytes of an uncompressed push that must be on chip before it starts (R332). -/
def State.prefetch (s : State) (length : Nat) : Nat := min length (65536 * s.get F.PANEL_CFG_PREFETCH)

/-- Bytes on chip of push k after some more have arrived. -/
def State.onChip (s : State) (k length arrived : Nat) : Nat :=
  min length ((if s.panel.fetched.1 = k then s.panel.fetched.2 else 0) + arrived)

/-- A poisoned word among the data of a push, as its context address (spec/14_hbm_controller.md R449). -/
def State.pushPoison (s : State) (h : Nat) (p : Push) : Option Nat :=
  match s.poison.isEmpty, s.stagingPool with
  | false, some q =>
    let g := s.geom
    let w := rayContainer g.rayFormat
    (pushPixels g p).findSome? (fun x =>
      let off := slotBase g h + x.2 * framePitch g + w * x.1
      if s.hbmPoisoned (poolBase q + off) w then some (contextAddress q.id off) else none)
  | _, _ => none

/-- The push that is due reads a poisoned word: the fault of the panel-link complex, and an underrun before any of it is sent
(R344; spec/15_translation_preemption.md R467). -/
def pushPoisoned (a : Nat) (s : State) : State :=
  abortFrame 1 (raise 695 ((xlatFault 12 4 none a 0 s).bump (F.PANEL_CNT_COUNT 0)))

/-- Push k of the open frame leaves as one packet; whole: all its data is on chip. -/
def sendPush (o : OpenFrame) (k : Nat) (p : Push) (raw : Nat) (form : List Byte × Bool) (whole : Bool) (s : State) : State :=
  let d := dataPositions form.1.length
  let s := s.withPanel { s.panel with opened := some { o with busy := some (k, form.2) }, whole := whole, fetched := (0, 0) }
  sendPacket (panelHeader 1 (bit form.2) o.frameNo k p.tx0 p.ty p.tw (packetFormat s.geom) d raw) form.1 d s

/-- REGION_PUSH_START: bytes of the next push's data have arrived on chip, and the push starts once enough of it, or its whole
fuller stream, is there (R331 to R333, R342); poisoned data never reaches the panel (spec/14_hbm_controller.md R449). -/
def regionPush (arrived : Nat) (stream : Bool) (s : State) : State :=
  match s.panel.opened with
  | none => s
  | some o =>
    match o.takePush with
    | none => s
    | some (k, o') =>
      match o.pushes[k]? with
      | none => s
      | some p =>
        let raw := s.pushData o.handle p
        let have_ := s.onChip k raw.length arrived
        let s := s.withPanel { s.panel with fetched := (k, have_) }
        if ¬ s.canSend o then s
        else if let some a := s.pushPoison o.handle p then pushPoisoned a s
        else
          let s := if s.compActive then yieldFuller s else s
          let form := s.pushForm stream raw
          if form.2 ∨ s.prefetch raw.length ≤ have_ then sendPush o' k p raw.length form (form.2 || decide (have_ = raw.length)) s
          else s

/-- PUSH_UNDERRUN (R344): a push that is sent uncompressed, was not wholly on chip when it started, and is in progress. -/
def pushUnderrun (s : State) : State :=
  match s.panel.opened with
  | some o =>
    match o.busy with
    | some (_, false) =>
      if s.now < s.panel.busyUntil ∧ o.abortedAt.isNone ∧ ¬ s.panel.whole then
        abortFrame 1 (raise 695 (s.bump (F.PANEL_CNT_COUNT 0)))
      else s
    | _ => s
  | none => s

/-- FRAME_COMMIT of the open frame (R336, R377). -/
def commitFrame (s : State) : State :=
  match s.panel.opened with
  | none => s
  | some o =>
    let n := o.pushes.length
    let s := s.withOpen (some { o with committed := true, busy := none })
    let s := s.setFrame o.handle { s.frame o.handle with state := 4 }
    sendPacket (panelHeader 3 0 o.frameNo n 0 0 0 (packetFormat s.geom) 0 0) [] 0 (s.set F.PANEL_PUSHES_COUNT n)

/-- Every push of the open frame has been sent. -/
def OpenFrame.sent (o : OpenFrame) : Bool := o.next == o.pushes.length && o.resend.isEmpty

/-- A FRAME_COMMIT started now completes outside the guard window (R337): before it opens, or after it has closed. -/
def State.commitWindow (s : State) : Bool :=
  !s.pins.te && (match s.panel.edge with
    | some e => decide (s.q9 + s.positionsNs 8 < s.sampleAt (e + s.tePeriod))
    | none => false)

/-- The FRAME_COMMIT of the open frame may start: every push is sent, TE_OK is 1, and its end set completes before the guard
window opens (R336, R337, R340). -/
def State.canCommit (s : State) (o : OpenFrame) : Bool := s.canSend o && o.sent && s.teOk && s.commitWindow

/-- FRAME_COMMIT_SEND (R336, R337, R340; in a tiled panel only once a GO lets it, spec/13_afloth_tiling.md R425). -/
def frameCommit (s : State) : State :=
  match s.panel.opened with
  | none => s
  | some o => if s.canCommit o && (!s.tiled || o.go) then commitFrame s else s

/-- A GO lets the open frame commit: at once, or as soon as R337 and R340 let it (spec/13_afloth_tiling.md R425). -/
def letCommit (o : OpenFrame) (s : State) : State := frameCommit (s.withOpen (some { o with go := true }))

/-! ## Return frames (R350 to R354) -/

/-- The body of a 44-byte return frame, none when its CRC fails (R350). -/
def returnBody (frame : List Byte) : Option (List Byte) :=
  if frame.length = 44 ∧ leAt frame 40 4 = crc32c (frame.take 40) then some (frame.take 40) else none

/-- A return frame whose CRC fails is counted (R350). -/
def returnError (s : State) : State := s.bump (F.PANEL_CNT_COUNT 5)

/-- A valid return frame arrived (R354). -/
def noteReturn (s : State) : State := s.withPanel { s.panel with lastReturn := s.now, lost := false }

/-- The frame whose number the panel shows is complete (R339): its values enter the encoder's shadow, its slot is free. -/
def commitComplete (front : Nat) (s : State) : State :=
  match s.panel.opened with
  | none => s
  | some o =>
    if ¬ o.committed ∨ o.frameNo ≠ front then s
    else
      let s := encFlip o.handle s
      let hit := match o.target.bind s.edgeNear, s.panel.edge with
        | some t, some e => decide (t = e)
        | _, _ => false
      let s := if hit then s.bump (F.PQ_CNT_COUNT 3) else s
      releaseFrame o.handle ((s.withOpen none).withPanel { s.panel with opened := none, lastFlip := front })

/-- A failure of push k of the open frame is counted (R342). -/
def countFailure (k : Nat) (s : State) : State :=
  match s.panel.opened with
  | some o => if k < o.pushes.length then raise 698 (s.bump (F.PANEL_CNT_COUNT 3)) else s
  | none => s

/-- A failed push is resent, or ends the frame after its third failure (R342). -/
def pushFailed (k : Nat) (s : State) : State :=
  match s.panel.opened with
  | none => s
  | some o =>
    if k ≥ o.pushes.length then s
    else
      let s := raise 698 (s.bump (F.PANEL_CNT_COUNT 3))
      let n := tabGet 0 o.failures k + 1
      let o := { o with failures := tabInsert o.failures k n }
      if o.committed ∨ o.abortedAt.isSome then s.withOpen (some o)
      else if n ≥ 3 then abortFrame 2 (s.withOpen (some o))
      else s.withOpen (some { o with resend := o.resend ++ [k], doneSent := false })

/-- DONE once APPLIED equals the push count of the open frame (spec/13_afloth_tiling.md R425). -/
def statusDone (openNo applied : Nat) (s : State) : State :=
  match s.panel.opened with
  | some o =>
    if s.tiled ∧ s.afl.token.isSome ∧ ¬ o.doneSent ∧ ¬ o.committed ∧ o.sent ∧ openNo = o.frameNo ∧ applied = o.pushes.length then
      sendDone 0 (s.withOpen (some { o with doneSent := true }))
    else s
  | none => s

/-- STATUS (R351). -/
def statusBody (b : List Byte) (s : State) : State :=
  let bstate := leAt b 6 1 % 4
  let holding := (leAt b 7 1).testBit 0
  let reject := (leAt b 7 1).testBit 1
  let s := noteReturn s
  let newHold := holding && !s.flag F.PANEL_STATUS_HOLDING
  let invalid := bstate == 3 && (s.panel.fresh || s.get F.PANEL_STATUS_BSTATE != 3)
  let s := (s.set F.PANEL_STATUS_FRONT_FRAME (leAt b 2 2)).set F.PANEL_STATUS_BSTATE bstate
  let s := s.set F.PANEL_STATUS_HOLDING (bit holding)
  let s := s.withPanel { s.panel with fresh := false }
  let s := if newHold then raise 704 s else s
  let s := if invalid then raise 706 s else s
  let s := commitComplete (leAt b 2 2) s
  let waited := match s.panel.opened with | some o => o.abortedAt.isSome | none => false
  let bad := leAt b 0x10 4
  if reject then restartFrame (raise 699 ((countFailure bad s).bump (F.PANEL_CNT_COUNT 4)))
  else if waited then restartFrame (countFailure bad s)
  else
    let s := pushFailed bad s
    statusDone (leAt b 4 2) (leAt b 0xC 4) s

/-- A return frame as a STATUS (R350, R351). -/
def statusFrame (frame : List Byte) (s : State) : State :=
  match returnBody frame with
  | none => returnError s
  | some b => if leAt b 0 1 = 1 then statusBody b s else s

/-- A return frame as a CAPS (R350, R352, R353). -/
def capsFrame (frame : List Byte) (s : State) : State :=
  match returnBody frame with
  | none => returnError s
  | some b =>
    if leAt b 0 1 = 2 then
      let s := noteReturn s
      capsCheck b (s.withPanel { s.panel with caps := some b, querying := false })
    else s

/-- CAP_QUERY_RETRY (R353). -/
def queryRetry (s : State) : State :=
  if ¬ s.panel.querying ∨ s.now < s.panel.queryAt + 1000000 then s
  else if s.panel.queries < 3 ∧ s.linkUp 0 then sendQuery s
  else capsFail (s.withPanel { s.panel with querying := false })

/-- STATUS_LOST (R354). -/
def statusLost (s : State) : State :=
  if s.linkUp 0 ∧ ¬ s.panel.lost ∧ s.now ≥ s.panel.lastReturn + 5000000 then
    backInvalid (raise 707 (s.withPanel { s.panel with lost := true, invalidNext := true }))
  else s

/-- ABORT_STATUS_TIMEOUT (R346). -/
def abortTimeout (s : State) : State :=
  match s.panel.opened with
  | some o =>
    match o.abortedAt with
    | some t => if s.now ≥ t + 100000 then restartFrame (backInvalid s) else s
    | none => s
  | none => s

/-! ## TE (R340, R357) -/

/-- A rising TE edge is stamped and measured (R340). -/
def teRise (s : State) : State :=
  let prev := s.panel.edge
  let n := s.panel.edges + 1
  let t := s.q9
  let s := { s with pins := { s.pins with te := true } }
  let s := s.withPanel { s.panel with edge := some t, edgeAt := s.now, edges := n, teLost := false, sampled := false }
  let s := s.setWord R.PANEL_TES_LO (BitVec.ofNat 32 s.seconds)
  let s := s.setWord R.PANEL_TES_HI (BitVec.ofNat 32 (s.seconds / 2 ^ 32))
  let s := s.setWord R.PANEL_TENS (BitVec.ofNat 32 s.nanos)
  match prev with
  | some e =>
    if n ≥ 2 then
      let s := s.setWord R.PANEL_TEPER (BitVec.ofNat 32 (t - e))
      if s.teOk then s else raise 701 (s.set F.PANEL_STATUS_TE_OK 1)
    else s
  | none => s

/-- TE_FALLING_EDGE (R340). -/
def teFall (s : State) : State :=
  let s := { s with pins := { s.pins with te := false } }
  match s.panel.edge with
  | some e => s.set F.PANEL_TEWIDTH_WIDTH_NS (min 0xFFFF (s.q9 - e))
  | none => s

/-- TE_TIMEOUT (R340). -/
def teTimeout (s : State) : State :=
  let wait := if s.tePeriod = 0 then 50000000 else 4 * s.tePeriod
  if s.panel.teLost ∨ s.now < s.panel.edgeAt + wait then s
  else raise 700 ((s.withPanel { s.panel with teLost := true, edges := 0 }).set F.PANEL_STATUS_TE_OK 0)

/-! ## The commands -/

/-- RAY_FRAME_START (R260). -/
def execRayFrameStart (s : State) : Host.Outcome State Fault Refusal := whenLive s rayFrameStart

/-- BUILD_DEADLINE (R381). -/
def execBuildDeadline (s : State) : Host.Outcome State Fault Refusal := whenLive s buildDeadline

/-- FRAME_BEGIN_SEND (R382). -/
def execFrameBeginSend (s : State) : Host.Outcome State Fault Refusal := whenLive s frameBegin

/-- REGION_PUSH_START (R332): bytes of the next push's data that have arrived on chip since the last one; stream: a fuller
stream of the push is complete (R333). -/
def execRegionPushStart (feed : PushFeed) (s : State) : Host.Outcome State Fault Refusal :=
  whenLive s (regionPush feed.arrived feed.stream)

/-- PUSH_UNDERRUN (R344). -/
def execPushUnderrun (s : State) : Host.Outcome State Fault Refusal := whenLive s pushUnderrun

/-- FRAME_COMMIT_SEND (R337). -/
def execFrameCommitSend (s : State) : Host.Outcome State Fault Refusal := whenLive s frameCommit

/-- CAPS_FRAME_RECEIVE (R353). -/
def execCapsFrameReceive (frame : List Byte) (s : State) : Host.Outcome State Fault Refusal := 
  whenLive s (fun s => if s.linkUp 0 then capsFrame frame (linkHeard 0 s) else s)

/-- CAP_QUERY_RETRY (R353). -/
def execCapQueryRetry (s : State) : Host.Outcome State Fault Refusal := whenLive s queryRetry

/-- PANEL_QUERY (R353). -/
def execPanelQuery (who : Requester) (s : State) : Host.Outcome State Fault Refusal :=
  whenLive s (request who R.PANEL_CTRL (panelCtrlWrite 1))

/-- STATUS_LOST (R354). -/
def execStatusLost (s : State) : Host.Outcome State Fault Refusal := whenLive s statusLost

/-- ABORT_STATUS_TIMEOUT (R346). -/
def execAbortStatusTimeout (s : State) : Host.Outcome State Fault Refusal := whenLive s abortTimeout

/-- TE_FALLING_EDGE (R340). -/
def execTeFallingEdge (s : State) : Host.Outcome State Fault Refusal := whenLive s teFall

/-- TE_TIMEOUT (R340). -/
def execTeTimeout (s : State) : Host.Outcome State Fault Refusal := whenLive s teTimeout

end Sys2Proof.Machine
end

