-- ==== Sys2Proof/Machine/Synth.lean ====
section
/-! DEFINITION. The arithmetic of view synthesis: transfer functions, key-view samples, warping, blending, hole filling and
overlays (spec/06_carding.md R207 to R225), bit for bit. -/

namespace Sys2Proof.Machine

/-- A colour in binary16 channels. -/
structure Rgb where
  r : Nat
  g : Nat
  b : Nat
  deriving DecidableEq, Repr

/-! ## Transfer functions (R210, R211) -/

/-- The greatest r below 2^bits with r^5 ≤ n. -/
def fifthRoot (n : Nat) : Nat → Nat → Nat
  | 0, r => r
  | b + 1, r => if (r + 2 ^ b) ^ 5 ≤ n then fifthRoot n b (r + 2 ^ b) else fifthRoot n b r

/-- V^2.4 rounded to binary32 for a positive magnitude m × 2^e: the fifth root of V^12, with a sticky bit below it. -/
def powerTwoPointFour (m : Nat) (e : Int) : Nat :=
  let k : Int := (180 - 12 * (m.log2 + e)) / 5 + 1
  let (n, d) := scaleFrac (m ^ 12) 1 (12 * e + 5 * k)
  let x := n / d
  let r := fifthRoot x 48 0
  let sticky := if r ^ 5 * d = n then 0 else 1
  roundMag single (2 * r + sticky) 1 (-k - 1)

/-- The linear value of a binary32 signal, as binary16 (R210, R211): each curve's power or exponential is one operation,
rounded once to binary32 (DESIGN CHOICE, in the entry of the transfer functions). No signal of R210 is negative or a NaN. -/
def transferHalf (tf v : Nat) : Nat :=
  match floatDecode single v with
  | .fin neg m e =>
    let (num, den) := scaleFrac m 1 e
    if tf = 0 then floatConvert single half v
    else if m = 0 then 0
    else if neg ∨ den < num then Config.transfer tf v % 65536
    else if tf = 1 then floatConvert single half (powerTwoPointFour m e)
    else if tf = 2 then (let (x, k) := pqLinear num den; floatConvert single half (singleOfFix x k 1))
    else if 2 * num ≤ den then
      floatConvert single half (floatDiv single (floatMul single v v) (floatOfFrac single 3 1))
    else floatConvert single half (singleOfFix (hlgUpper num den) 0 12)
  | _ => Config.transfer tf v % 65536

/-- A code as a fraction of its maximum, in binary32. -/
def codeSignal (code peak : Nat) : Nat := floatDiv single (floatOfFrac single code 1) (floatOfFrac single peak 1)

/-- A code through a transfer function. -/
def codeHalf (tf peak code : Nat) : Nat := transferHalf tf (codeSignal code peak)

/-- A packed colour of three w-bit codes, red highest, through a transfer function. -/
def packedRgb (tf w v : Nat) : Rgb :=
  let c := fun i => codeHalf tf (2 ^ w - 1) (v / 2 ^ (w * i) % 2 ^ w)
  ⟨c 2, c 1, c 0⟩

/-- A signed integer in binary32. -/
def singleOfInt (i : Int) : Nat := withSign single (decide (i < 0)) (roundMag single i.natAbs 1 0)

/-- 0.0 to 1.0 (R210 step 4). -/
def clipUnit (v : Nat) : Nat :=
  match floatDecode single v with
  | .fin neg m e =>
    let (num, den) := scaleFrac m 1 e
    if neg then 0 else if num > den then 0x3F800000 else v
  | .inf neg => if neg then 0 else 0x3F800000
  | .nan => v

/-- A CODED texture sample (R210): bits B, full range, BT.2020, transfer function, and the codes Y, Cb, Cr. -/
def codedRgb (bits : Nat) (full bt2020 : Bool) (tf y cb cr : Nat) : Rgb :=
  let f := single
  let q : Nat := 2 ^ (bits - 8)
  let norm := fun (x : Int) (n : Nat) => floatDiv f (singleOfInt x) (floatOfFrac f n 1)
  let y' := if full then norm y (2 ^ bits - 1) else norm ((y : Int) - (16 * q : Nat)) (219 * q)
  let c' := fun (c : Nat) => if full then norm ((c : Int) - (2 ^ (bits - 1) : Nat)) (2 ^ bits - 1) else norm ((c : Int) - (128 * q : Nat)) (224 * q)
  let kr := if bt2020 then 2627 else 2126
  let kb := if bt2020 then 593 else 722
  let k := fun n => floatOfFrac f n 10000
  let r := floatAdd f y' (floatMul f (k (2 * (10000 - kr))) (c' cr))
  let b := floatAdd f y' (floatMul f (k (2 * (10000 - kb))) (c' cb))
  let g := floatDiv f (floatSub f (floatSub f y' (floatMul f (k kr) r)) (floatMul f (k kb) b)) (k (10000 - kr - kb))
  let out := fun v => transferHalf tf (clipUnit v)
  ⟨out r, out g, out b⟩

/-! ## Disparity and records (R212, R213) -/

/-- The disparity of a depth sample (R212). -/
def disparity (depth : Nat) (dscale doffset : Int) : Int :=
  let d := ((depth : Int) * dscale) / 256 + doffset
  if d < -4096 then -4096 else if d > 4095 then 4095 else d

/-- The 8-byte record of a sample (R213). -/
def makeRecord (c : Rgb) (d : Int) : Nat := c.r + 2 ^ 16 * c.g + 2 ^ 32 * c.b + 2 ^ 48 * patternOf 16 d

/-- The colour of a record. -/
def recordRgb (n : Nat) : Rgb := ⟨n % 2 ^ 16, n / 2 ^ 16 % 2 ^ 16, n / 2 ^ 32 % 2 ^ 16⟩

/-- The disparity of a record. -/
def recordD (n : Nat) : Int := signedOf 16 (n / 2 ^ 48)

/-! ## Layers and views -/

/-- A present key view as synthesis uses it: entry index, position, records by (y + S) × (W + 2S) + (x + S). -/
structure SynthView where
  index : Nat
  u : Nat
  v : Nat
  records : Tab (Option Nat)
  deriving DecidableEq, Repr

/-- What synthesis of a layer takes: the rectangle, seam depth, the fields of CARD_LYR_PARAM and the fill colour. -/
structure SynthLayer where
  w : Nat
  h : Nat
  seam : Nat
  shiftMax : Nat
  holeRadius : Nat
  depthTol : Nat
  holeAxes : Nat
  lowestRank : Bool
  kvNear : Nat
  fill : Rgb
  deriving DecidableEq, Repr

/-- dist² of a key view from an output view (R214). -/
def viewDistance (u v : Nat) (k : SynthView) : Nat :=
  let du : Int := (u : Int) - k.u
  let dv : Int := (v : Int) - k.v
  (du * du + dv * dv).toNat

/-- Insertion by rank: least dist², then lowest entry index (R214). -/
def insertRank (u v : Nat) (k : SynthView) : List SynthView → List SynthView
  | [] => [k]
  | x :: t =>
    if viewDistance u v k < viewDistance u v x ∨ (viewDistance u v k = viewDistance u v x ∧ k.index < x.index) then k :: x :: t
    else x :: insertRank u v k t

/-- The key views that synthesis uses, in rank (R214). -/
def rankedViews (l : SynthLayer) (views : List SynthView) (u v : Nat) : List SynthView :=
  (views.foldl (fun acc k => insertRank u v k acc) []).take l.kvNear

/-- The shift of a disparity over Δ view steps, and whether it was clamped (R216). -/
def shiftOf (d delta : Int) (limit : Nat) : Int × Bool :=
  let p := d * delta
  let m := (p.natAbs + 32) / 64
  let c := min m limit
  (if p < 0 then -(c : Int) else c, decide (m > limit))

/-- A candidate of a ray (R217, R218): dist² and record. -/
structure Candidate where
  dist : Nat
  rgb : Rgb
  d : Int
  deriving DecidableEq, Repr

/-- The layer position of a record key: x and y, negative or beyond the rectangle in seams. -/
def recordPos (l : SynthLayer) (key : Nat) : Int × Int :=
  ((key % (l.w + 2 * l.seam) : Nat) - (l.seam : Int), (key / (l.w + 2 * l.seam) : Nat) - (l.seam : Int))

/-- A position within the rectangle as an index. -/
def insideIndex (l : SynthLayer) (x y : Int) : Option Nat :=
  if 0 ≤ x ∧ x < l.w ∧ 0 ≤ y ∧ y < l.h then some (y.toNat * l.w + x.toNat) else none

/-- The records of a key view that land on rays of an output view: for each ray the greatest d, the first in raster order
among equals (R216, R217). -/
def landings (l : SynthLayer) (u v : Nat) (k : SynthView) : Tab (Option Nat) :=
  k.records.foldl (fun t e =>
    match e.2 with
    | none => t
    | some rc =>
      let d := recordD rc
      let (x, y) := recordPos l e.1
      let su := (shiftOf d ((u : Int) - k.u) l.shiftMax).1
      let sv := (shiftOf d ((v : Int) - k.v) l.shiftMax).1
      match insideIndex l (x + su) (y + sv) with
      | none => t
      | some i =>
        match tabGet none t i with
        | none => tabInsert t i (some rc)
        | some old => if recordD old < d then tabInsert t i (some rc) else t) []

/-- The clamped shifts of a key view's records for an output view whose record position satisfies a test (R216). -/
def clampCount (l : SynthLayer) (u v : Nat) (mine : Int × Int → Bool) (k : SynthView) : Nat :=
  (k.records.map (fun e =>
    match e.2 with
    | none => 0
    | some rc =>
      if mine (recordPos l e.1) then
        bit (shiftOf (recordD rc) ((u : Int) - k.u) l.shiftMax).2 + bit (shiftOf (recordD rc) ((v : Int) - k.v) l.shiftMax).2
      else 0)).sum

/-- The blended colour of front candidates in ascending rank (R218). -/
def blendFront (cs : List Candidate) : Rgb :=
  match cs with
  | [] => ⟨0, 0, 0⟩
  | [c] => c.rgb
  | _ =>
    let w := fun (c : Candidate) => floatOfFrac half 1 (1 + c.dist)
    let chan := fun (f : Rgb → Nat) =>
      let (num, den) := cs.foldl (fun (acc : Nat × Nat) c =>
        (floatAdd half acc.1 (floatMul half (w c) (f c.rgb)), floatAdd half acc.2 (w c))) (0, 0)
      floatDiv half num den
    ⟨chan (·.r), chan (·.g), chan (·.b)⟩

/-- The greatest of a list of disparities. -/
def maxD : List Candidate → Int
  | [] => -4096
  | c :: t => t.foldl (fun m x => max m x.d) c.d

/-- Colour and depth of a ray with candidates, in ascending rank (R218). -/
def frontColour (l : SynthLayer) (cs : List Candidate) : Rgb × Int :=
  let dmax := maxD cs
  let front := cs.filter (fun c => decide (c.d ≥ dmax - l.depthTol))
  ((if l.lowestRank then blendFront (front.take 1) else blendFront front), dmax)

/-- A synthesised ray before overlays: colour, d_ray, and how it arose (0 candidates or pass-through, 1 hole-filled, 2 fill
colour). -/
structure SynthRay where
  rgb : Rgb
  d : Int
  kind : Nat
  deriving DecidableEq, Repr

/-- The rays of an output view that pass through or have candidates, by index (R215 to R218). -/
def frontRays (l : SynthLayer) (views : List SynthView) (u v : Nat) : Tab (Option SynthRay) :=
  match rankedViews l views u v with
  | [] => []
  | k0 :: ks =>
    if viewDistance u v k0 = 0 then
      (upto 0 (l.w * l.h)).map (fun i =>
        let key := (i / l.w + l.seam) * (l.w + 2 * l.seam) + (i % l.w + l.seam)
        let rc := (tabGet none k0.records key).getD 0
        (i, some ⟨recordRgb rc, recordD rc, 0⟩))
    else
      let maps := (k0 :: ks).map (fun k => (viewDistance u v k, landings l u v k))
      (upto 0 (l.w * l.h)).filterMap (fun i =>
        let cs := maps.filterMap (fun m => (tabGet none m.2 i).map (fun rc => (⟨m.1, recordRgb rc, recordD rc⟩ : Candidate)))
        if cs.isEmpty then none
        else
          let (c, d) := frontColour l cs
          some (i, some ⟨c, d, 0⟩))

/-- The first ray with candidates in a direction, with its distance (R219). -/
def searchRay (l : SynthLayer) (rays : Tab (Option SynthRay)) (x y dx dy : Int) : Nat → Nat → Option (Nat × SynthRay)
  | 0, _ => none
  | fuel + 1, n =>
    match insideIndex l (x + dx * n) (y + dy * n) with
    | none => none
    | some i =>
      match tabGet none rays i with
      | some r => some (n, r)
      | none => searchRay l rays x y dx dy fuel (n + 1)

/-- The ray at an index, holes filled (R219, R220). -/
def fillRay (l : SynthLayer) (rays : Tab (Option SynthRay)) (i : Nat) : SynthRay :=
  match tabGet none rays i with
  | some r => r
  | none =>
    let x : Int := (i % l.w : Nat)
    let y : Int := (i / l.w : Nat)
    let dirs : List (Int × Int) := (if l.holeAxes.testBit 0 then [(-1, 0), (1, 0)] else []) ++
      (if l.holeAxes.testBit 1 then [(0, -1), (0, 1)] else [])
    let found := dirs.filterMap (fun d => searchRay l rays x y d.1 d.2 l.holeRadius 1)
    match found with
    | [] => ⟨l.fill, -4096, 2⟩
    | f :: rest =>
      let best := rest.foldl (fun (b : Nat × SynthRay) c =>
        if c.2.d < b.2.d ∨ (c.2.d = b.2.d ∧ c.1 < b.1) then c else b) f
      ⟨best.2.rgb, best.2.d, 1⟩

/-! ## Overlays (R222 to R225) -/

/-- An overlay as a layer's instant reads it: identifier, whether always in front, reference view, position, disparity, size,
and its pixels as linear colour and alpha by index. -/
structure SynthOverlay where
  id : Nat
  always : Bool
  u : Nat
  v : Nat
  x : Int
  y : Int
  disp : Int
  w : Nat
  h : Nat
  pixels : List (Rgb × Nat)
  deriving DecidableEq, Repr

/-- Insertion in order of application: ascending DISP, then overlay ID (R225). -/
def insertOverlay (o : SynthOverlay) : List SynthOverlay → List SynthOverlay
  | [] => [o]
  | p :: t => if o.disp < p.disp ∨ (o.disp = p.disp ∧ o.id < p.id) then o :: p :: t else p :: insertOverlay o t

/-- One channel under an overlay pixel: a × o + (1 - a) × r (R224). -/
def overlayChannel (a o r : Nat) : Nat :=
  floatAdd half (floatMul half a o) (floatMul half (floatSub half 0x3C00 a) r)

/-- An overlay's effect on the ray at an index in output view (u, v) (R222, R224). -/
def applyOverlay (l : SynthLayer) (u v i : Nat) (r : SynthRay) (o : SynthOverlay) : SynthRay :=
  let su := (shiftOf o.disp ((u : Int) - o.u) l.shiftMax).1
  let sv := (shiftOf o.disp ((v : Int) - o.v) l.shiftMax).1
  let px : Int := (i % l.w : Nat) - o.x - su
  let py : Int := (i / l.w : Nat) - o.y - sv
  if 0 ≤ px ∧ px < o.w ∧ 0 ≤ py ∧ py < o.h ∧ (o.always ∨ o.disp ≥ r.d) then
    match o.pixels[py.toNat * o.w + px.toNat]? with
    | some (c, a) =>
      if a % 32768 = 0 then r
      else { r with rgb := ⟨overlayChannel a c.r r.rgb.r, overlayChannel a c.g r.rgb.g, overlayChannel a c.b r.rgb.b⟩ }
    | none => r
  else r

/-- Whether an overlay's shifts are clamped in an output view: the number of clamped axes (R216, R222). -/
def overlayClamps (l : SynthLayer) (u v : Nat) (o : SynthOverlay) : Nat :=
  bit (shiftOf o.disp ((u : Int) - o.u) l.shiftMax).2 + bit (shiftOf o.disp ((v : Int) - o.v) l.shiftMax).2

/-- The finished ray at an index of an output view (R214 to R225). -/
def finishRay (l : SynthLayer) (overlays : List SynthOverlay) (rays : Tab (Option SynthRay)) (u v i : Nat) : SynthRay :=
  (overlays.foldl (fun acc o => insertOverlay o acc) []).foldl (fun r o => applyOverlay l u v i r o) (fillRay l rays i)

end Sys2Proof.Machine
end

