-- ==== Sys2Proof/Machine/Carding.lean ====
section
/-! DEFINITION. Carding: instants, the conversion of key views, seam strips, and the synthesis of tiles
(spec/06_carding.md R202 to R235; the sending of strips, spec/13_afloth_tiling.md R427, R428). -/

namespace Sys2Proof.Machine

/-! ## A layer as an instant reads it -/

/-- W of layer l in a register snapshot. -/
def lyrW (regs : Tab Word) (l : Nat) : Nat := snapField regs (F.CARD_LYR_SIZE_W l)

/-- H of layer l. -/
def lyrH (regs : Tab Word) (l : Nat) : Nat := snapField regs (F.CARD_LYR_SIZE_H l)

/-- S of layer l: 0 when it takes no strips (R231). -/
def lyrS (regs : Tab Word) (l : Nat) : Nat := snapField regs (F.CARD_LYR_SEAM_DEPTH l)

/-- KV_COUNT of layer l (R207). -/
def lyrViews (regs : Tab Word) (l : Nat) : Nat := slice (snapWord regs (R.CARD_KVD l 0)) 23 16

/-- The words of entry i of the key-view layout descriptor (R207). -/
def kvEntry (regs : Tab Word) (l i : Nat) : Nat × Nat :=
  (snapWord regs (R.CARD_KVD l (4 + 2 * i)), snapWord regs (R.CARD_KVD l (5 + 2 * i)))

/-- U_POS and V_POS of entry i. -/
def kvPos (regs : Tab Word) (l i : Nat) : Nat × Nat :=
  let e := (kvEntry regs l i).1
  (slice e 7 0, slice e 15 8)

/-- DSCALE and DOFFSET of entry i. -/
def kvDepth (regs : Tab Word) (l i : Nat) : Int × Int :=
  let e := (kvEntry regs l i).2
  (signedOf 16 (slice e 15 0), signedOf 16 (slice e 31 16))

/-- The CRC-32C of the descriptor bytes (R233). -/
def kvdCrc (regs : Tab Word) (l : Nat) : Nat :=
  crc32c ((upto 0 (4 + 2 * lyrViews regs l)).flatMap (fun n => leBytes (snapWord regs (R.CARD_KVD l n)) 4))

/-- A raw sample: three colour words and the depth word (R428). -/
structure RawSample where
  c0 : Nat
  c1 : Nat
  c2 : Nat
  depth : Nat
  deriving DecidableEq, Repr

/-- The SRC code of a layer's samples (R427): 1 CODED, 2 to 4 RAWKEY in RAY30, RAY36, RAYH. -/
def lyrSrc (s : State) (l : Nat) : Nat :=
  let st := s.layerStream l
  if s.streamKind st = 1 then 1 else 2 + s.bindField 1 st (F.STRM_CFG_FORMAT st)

/-- The record of a raw sample (R210 to R213); bits is the bit depth of a CODED texture. -/
def sampleRecord (regs : Tab Word) (l src bits i : Nat) (x : RawSample) : Nat :=
  let tf := snapField regs (F.CARD_LYR_SRC_TF l)
  let c : Rgb :=
    if src = 1 then
      codedRgb bits (snapField regs (F.CARD_LYR_SRC_RANGE l) == 1) (snapField regs (F.CARD_LYR_SRC_MATRIX l) == 1) tf x.c0 x.c1 x.c2
    else if src = 4 then ⟨x.c0, x.c1, x.c2⟩
    else
      let peak := if src = 2 then 1023 else 4095
      ⟨codeHalf tf peak x.c0, codeHalf tf peak x.c1, codeHalf tf peak x.c2⟩
  let db := slice (snapWord regs (R.CARD_KVD l 0)) 31 24
  let depth := x.depth % 2 ^ (if src = 1 then 8 else db)
  let (scale, offset) := kvDepth regs l i
  makeRecord c (disparity depth scale offset)

/-! ## Instants (R227) -/

/-- An instant is replaced. -/
def setInstant (i : Instant) (s : State) : State :=
  s.withCard { s.card with
    instants := s.card.instants.map (fun j => if j.layer = i.layer ∧ j.count = i.count then i else j) }

/-- An instant of a layer by its count. -/
def State.instantOf (s : State) (l n : Nat) : Option Instant :=
  s.card.instants.find? (fun i => i.layer == l && i.count == n)

/-- The waiting instant of a layer that starts next: instants start in order. -/
def State.waitingInstant (s : State) (l : Nat) : Option Instant :=
  s.card.instants.reverse.find? (fun i => i.layer == l && i.phase == 0)

/-- A half of the layer's work pool is free (R213, R227). -/
def State.halfFree (s : State) (l : Nat) : Bool :=
  decide ((s.card.instants.filter (fun j => j.layer == l && j.phase == 1)).length < 2)

/-- The seam wait of the next instant of a layer begins once its other conditions hold (R232); 0 stands for a wait that has
not begun. -/
def beginSeamWait (l : Nat) (s : State) : State :=
  match s.waitingInstant l with
  | some i =>
    if s.halfFree l ∧ i.seamUntil = 0 then
      setInstant { i with seamUntil := s.now + 1000 * s.get (F.CARD_LYR_SEAM_WAIT_US l) } s
    else s
  | none => s

/-- A late instant that completes is discarded with LATE_INST 0x0 (spec/11_time_presentation.md R381). -/
def settleLate (l n : Nat) (s : State) : State :=
  if s.flag F.PQ_CFG_LATE_INST then s else dropInstants (fun i => !(i.layer == l && i.count == n && i.late)) s

/-- The consumer of a stream receives a unit or access unit: one instant per ARMED layer that names the stream. Instants
of RAWRAY units need no carding. -/
def newInstant (launch : Option Nat) (unit : Nat) (input : InstantInput) (rays : Tab (Option Nat)) (l : Nat) (s : State) : State :=
  let n := tabGet 0 s.card.counts l
  let st := s.layerStream l
  let raw := input == .rays
  let late := match launch with
    | some t => s.launchPast t
    | none => false
  let i : Instant := {
    layer := l, count := n, launch := launch, unit := unit, input := input, phase := if raw then 2 else 0
    readyAt := s.now, seamUntil := 0, seamMissed := false
    views := [], excluded := [], todo := [], rays := rays
    format := if raw then s.bindField 1 st (F.STRM_CFG_FORMAT st) else 2
    fronts := [], holds := [], half := 0, area := none, late := late, clamped := false, withheld := false, regs := s.regs }
  let s := s.withCard { s.card with counts := tabInsert s.card.counts l (n + 1), instants := i :: s.card.instants }
  if raw then settleLate l n s else beginSeamWait l s

/-- Instants for every ARMED layer of a stream that has joined presentation. -/
def newInstants (st : Nat) (launch : Option Nat) (unit : Nat) (input : InstantInput) (rays : Tab (Option Nat)) (s : State) : State :=
  ((s.armedIds 2).filter (fun l => s.layerStream l == st && (s.path 2 l).joined)).foldl
    (fun s l => newInstant launch unit input rays l s) s

/-! ## Seams (R231 to R233) -/

/-- The named edges of a layer, none with DEPTH 0. -/
def seamEdges (regs : Tab Word) (l : Nat) : List Nat :=
  if lyrS regs l = 0 then [] else (upto 0 4).filter (fun e => (snapField regs (F.CARD_LYR_SEAM_EDGES l)).testBit e)

/-- The extent of a layer along an edge: H for left and right, W for top and bottom. -/
def edgeExtent (regs : Tab Word) (l e : Nat) : Nat := if e < 2 then lyrH regs l else lyrW regs l

/-- The strips that match an instant at an edge: of the same launch time. -/
def State.stripsFor (s : State) (i : Instant) (e : Nat) : List StripRec :=
  s.afl.strips.filter (fun r => r.layer == i.layer && r.edge == e && r.launch == i.launch)

/-- A strip of a key view has all its samples. -/
def stripWhole (regs : Tab Word) (r : StripRec) : Bool :=
  r.samples.length == lyrS regs r.layer * edgeExtent regs r.layer r.edge

/-- Every key view of a named edge has arrived whole. -/
def State.edgeWhole (s : State) (i : Instant) (e : Nat) : Bool :=
  (upto 0 (lyrViews i.regs i.layer)).all (fun k => (s.stripsFor i e).any (fun r => r.kv == k && stripWhole i.regs r))

/-- No key view of a named edge has arrived whole. -/
def State.edgeMissing (s : State) (i : Instant) (e : Nat) : Bool :=
  !(s.stripsFor i e).any (fun r => stripWhole i.regs r)

/-- The seam wait of an instant is over (R232). -/
def State.seamReady (s : State) (i : Instant) : Bool :=
  i.seamMissed || snapField i.regs (F.CARD_LYR_SEAM_WAIT_US i.layer) == 0 ||
  (seamEdges i.regs i.layer).all (s.edgeWhole i)

/-- An instant goes on without the strips of a named edge (R232). -/
def countSeamMiss (i : Instant) (s : State) : State :=
  raiseWith 612 0 (i.count % 2 ^ 32 * 2 ^ 32 + i.layer) (s.bump (F.CARD_LYR_CNT_COUNT i.layer 6))

/-- SEAM_WAIT_TIMEOUT (R232). -/
def seamTimeout (l : Nat) (s : State) : State :=
  match s.waitingInstant l with
  | none => s
  | some i =>
    if i.seamUntil = 0 ∨ s.now < i.seamUntil ∨ s.seamReady i then s
    else
      let s := setInstant { i with seamMissed := true } s
      if (seamEdges i.regs l).any (s.edgeMissing i) then countSeamMiss i s else s

/-- The strip position of index k across an edge, in the coordinates of the rectangle (R428). -/
def stripPos (regs : Tab Word) (l e k : Nat) : Int × Int :=
  let d := max 1 (lyrS regs l)
  let n := max 1 (edgeExtent regs l e)
  if e = 0 then ((k % d : Nat) - (d : Int), (k / d : Nat))
  else if e = 1 then ((lyrW regs l : Nat) + (k % d : Nat), (k / d : Nat))
  else if e = 2 then ((k % n : Nat), (k / n : Nat) - (d : Int))
  else ((k % n : Nat), (lyrH regs l : Nat) + (k / n : Nat))

/-- The position in the sender's rectangle of sample k of the strip that it sends across edge e (R427, R428). -/
def sentPos (regs : Tab Word) (l e k : Nat) : Nat × Nat :=
  let d := max 1 (lyrS regs l)
  let n := max 1 (edgeExtent regs l e)
  if e = 0 then (k % d, k / d)
  else if e = 1 then (lyrW regs l - d + k % d, k / d)
  else if e = 2 then (k % n, k / n)
  else (k % n, lyrH regs l - d + k / n)

/-- Key of a record at a position of the rectangle with its seams. -/
def recordKey (regs : Tab Word) (l : Nat) (x y : Int) : Nat :=
  let d := lyrS regs l
  ((y + d) * ((lyrW regs l + 2 * d : Nat) : Int) + (x + d)).toNat

/-- A 64-bit strip sample as a raw sample. -/
def unpackSample (v : Nat) : RawSample := ⟨v % 65536, slice v 31 16, slice v 47 32, slice v 63 48⟩

/-- A raw sample as the four words of a strip sample. -/
def packSample (x : RawSample) : Nat := x.c0 + 2 ^ 16 * x.c1 + 2 ^ 32 * x.c2 + 2 ^ 48 * x.depth

/-- The seam records of key view k of an instant. -/
def State.seamRecords (s : State) (i : Instant) (src bits k : Nat) : List (Nat × Nat) :=
  (seamEdges i.regs i.layer).flatMap (fun e =>
    ((s.stripsFor i e).filter (fun r => r.kv == k && stripWhole i.regs r)).flatMap (fun r =>
      r.samples.map (fun x =>
        let (px, py) := stripPos i.regs i.layer e x.1
        (recordKey i.regs i.layer px py, sampleRecord i.regs i.layer src bits k (unpackSample (x.2.getD 0))))))

/-- The rectangle touches edge e of the section (R427). -/
def touchesEdge (g : Geom) (regs : Tab Word) (l e : Nat) : Bool :=
  let x0 := snapField regs (F.CARD_LYR_ORIGIN_X0 l)
  let y0 := snapField regs (F.CARD_LYR_ORIGIN_Y0 l)
  if e = 0 then x0 == 0
  else if e = 1 then x0 + lyrW regs l == g.hogelsX
  else if e = 2 then y0 == 0
  else y0 + lyrH regs l == g.hogelsY

/-- The SEAM frames of one key view across edge e, of up to 8,189 samples each (R427, R428). -/
def sendStrip (i : Instant) (src e k : Nat) (sample : Nat → Nat → RawSample) (s : State) : State :=
  let d := lyrS i.regs i.layer
  let n := edgeExtent i.regs i.layer e
  let param := leNat (leBytes i.layer 1 ++ leBytes e 1 ++ leBytes d 1 ++ leBytes k 1 ++ leBytes src 1 ++ [0] ++ leBytes n 2)
  (upto 0 (ceilDiv (d * n) 8189)).foldl (fun s f =>
    let first := 8189 * f
    let body := (upto first (min 8189 (d * n - first))).flatMap (fun j =>
      let (x, y) := sentPos i.regs i.layer e j
      leBytes (packSample (sample x y)) 8)
    aflSend 4 param (launchBytes i.launch ++ leBytes (kvdCrc i.regs i.layer) 4 ++ leBytes first 4 ++ [0, 0, 0, 0] ++ body) [e] s) s

/-! ## Conversion (R209 to R213) -/

/-- A slot of a decode context in memory: base byte and bytes, none while no lease of the slots is bound. -/
def State.slotRange (s : State) (ctx n : Nat) : Option (Nat × Nat) :=
  let bytes := 65536 * s.get (F.DEC_CTX_SLOTS_SLOT_UNITS ctx)
  match s.leasePart 1 (s.contextStream ctx) 1 with
  | none => none
  | some e => (s.pool (s.lease e).pool).map (fun p => (poolBase p + 4096 * (s.lease e).base + n * bytes, bytes))

/-- A 16-bit sample word of memory, bits [9:0] (spec/05_decode.md R168). -/
def State.sampleWord (s : State) (a : Nat) : Nat := leNat (s.hbmRead a 2) % 1024

/-- The pitch of a picture's planes (R168). -/
def planePitch (width : Nat) : Nat := ceilDiv (2 * width) 64 * 64

/-- Luma, Cb and Cr at a position within the cropping window of a picture (R210). -/
def State.pictureSample (s : State) (base : Nat) (p : PicRef) (x y : Nat) : Nat × Nat × Nat :=
  let xc := x + p.cropX
  let yc := y + p.cropY
  let pitch := planePitch p.width
  let c := base + pitch * p.height + yc / 2 * pitch + 4 * (xc / 2)
  (s.sampleWord (base + yc * pitch + 2 * xc), s.sampleWord c, s.sampleWord (c + 2))

/-- n bits of a byte table at a bit offset (spec/01_ray_space.md R31). -/
def tableBits (data : Tab (Option Byte)) (base bitAt n : Nat) : Nat :=
  leNat ((upto (base + bitAt / 8) 7).map (fun a => (tabGet none data a).getD 0)) / 2 ^ (bitAt % 8) % 2 ^ n

/-- A sample of a RAWKEY key view (spec/04_ethernet_ingest.md R147; R29 for RAYH). -/
def rawSample (data : Tab (Option Byte)) (fmt w h k x y : Nat) : RawSample :=
  let b := rayBits fmt
  let tex := ceilDiv (w * h * b) 8
  let base := k * (tex + 2 * w * h)
  let c := b / 3
  let v := tableBits data base ((y * w + x) * b) b
  let fix := fun n => if fmt = 2 then sanitiseHalf n else n
  ⟨fix (v / 2 ^ (2 * c)), fix (v / 2 ^ c % 2 ^ c), fix (v % 2 ^ c), tableBits data (base + tex) (16 * (y * w + x)) 16⟩

/-- The NaN channels of a RAYH key view (R29). -/
def rawNans (data : Tab (Option Byte)) (w h k : Nat) : Nat :=
  let base := k * (ceilDiv (w * h * 48) 8 + 2 * w * h)
  ((upto 0 (3 * w * h)).map (fun j => bit (isNan half (tableBits data base (16 * j) 16)))).sum

/-- A key view before conversion: how it can be read, or why it is absent. -/
structure KeySource where
  present : Bool
  sizeBad : Bool
  concealed : Bool
  substitute : Bool
  tainted : Bool
  bits : Nat
  sample : Nat → Nat → RawSample

/-- An absent key view. -/
def absentSource (sizeBad : Bool) : KeySource := ⟨false, sizeBad, false, false, false, 8, fun _ _ => ⟨0, 0, 0, 0⟩⟩

/-- Key view k of an instant (R209). -/
def State.keySource (s : State) (i : Instant) (k : Nat) : KeySource :=
  let w := lyrW i.regs i.layer
  let h := lyrH i.regs i.layer
  match i.input with
  | .rays => absentSource false
  | .coded ctx pics _ =>
    match pics.getD k (none, none) with
    | (some t, some d) =>
      if t.cropW ≠ w ∨ t.cropH ≠ h ∨ d.cropW ≠ w ∨ d.cropH ≠ h then absentSource true
      else
        let tb := ((s.slotRange ctx t.slot).getD (0, 0)).1
        let db := ((s.slotRange ctx d.slot).getD (0, 0)).1
        ⟨true, false, t.concealed || d.concealed, t.substitute || d.substitute, t.tainted || d.tainted, t.bits,
          fun x y =>
            let c := s.pictureSample tb t x y
            ⟨c.1, c.2.1, c.2.2, (s.pictureSample db d x y).1⟩⟩
    | _ => absentSource false
  | .raw data absent =>
    if absent.contains k then absentSource false
    else
      let st := s.layerStream i.layer
      ⟨true, false, false, false, false, 8, rawSample data (s.bindField 1 st (F.STRM_CFG_FORMAT st)) w h k⟩

/-- A picture that the conversion reads lies in a poisoned word (spec/14_hbm_controller.md R449): its context address. -/
def State.poisonedPicture (s : State) (i : Instant) : Option Nat :=
  match i.input with
  | .coded ctx pics _ =>
    (pics.flatMap (fun p => p.1.toList ++ p.2.toList)).findSome? (fun p =>
      match s.slotRange ctx p.slot, s.leasePart 1 (s.contextStream ctx) 1 with
      | some (a, n), some e =>
        if s.hbmPoisoned a n then some (s.leaseAddress e + p.slot * n) else none
      | _, _ => none)
  | _ => none

/-- The records of key view k: its own samples and those of its seams. -/
def State.keyView (s : State) (i : Instant) (src k : Nat) : KeyViewRec :=
  let v := s.keySource i k
  let w := lyrW i.regs i.layer
  let own := (upto 0 (w * lyrH i.regs i.layer)).map (fun j =>
    (recordKey i.regs i.layer (j % w : Nat) (j / w : Nat), sampleRecord i.regs i.layer src v.bits k (v.sample (j % w) (j / w))))
  let all := if v.present then own ++ s.seamRecords i src v.bits k else []
  ⟨v.present, v.sizeBad, v.concealed, v.substitute, v.tainted,
    all.foldl (fun t e => tabInsert t e.1 (some e.2)) []⟩

/-- The key views that CONC_POLICY removes: none when none would remain (R214). -/
def removedViews (policy : Nat) (views : List KeyViewRec) : List Nat :=
  let idx := (upto 0 views.length).zip views
  let out := fun (v : KeyViewRec) => v.present &&
    (if policy = 0 then false else if policy = 1 then v.concealed else v.concealed || v.substitute || v.tainted)
  if idx.any (fun e => e.2.present && !out e.2) then (idx.filter (fun e => out e.2)).map (fun e => e.1) else []

/-- The number of work items of a layer (R228). -/
def tileCount (regs : Tab Word) (l : Nat) : Nat := ceilDiv (lyrW regs l) 64 * ceilDiv (lyrH regs l) 64

/-- The overlays that an instant of a layer reads, with their front buffers (R286, R289). -/
def State.overlaysOf (s : State) (l : Nat) : List FrontRec :=
  ((s.armedIds 3).filter (fun o => (s.path 3 o).joined && s.bindField 3 o (F.CARD_OV_BIND_LAYER o) == l)).filterMap
    (fun o =>
      let b := s.get (F.OV_FRONT_FRONT o)
      let f := s.overlayBuffer o b
      (s.leasePart 3 o b).map (fun e =>
        ⟨o, b, (e, (s.lease e).gen), f.pool, f.base, f.pitch, f.format, (s.overlaySize o).1, (s.overlaySize o).2⟩))

/-- What an instant holds beside the front buffers of its overlays: its layer's work area and its stream's ranges
(spec/15_translation_preemption.md R461). -/
def State.instantHolds (s : State) (l : Nat) : List (Nat × Nat) := s.holdsOn 2 l ++ s.holdsOn 1 (s.layerStream l)

/-! ## The work area (R203, R213) -/

/-- The bytes of one key view's records in a half of the work area: a record for each position of the rectangle with its
seams on every side (R203). -/
def viewBytes (regs : Tab Word) (l : Nat) : Nat := 8 * (lyrW regs l + 2 * lyrS regs l) * (lyrH regs l + 2 * lyrS regs l)

/-- The bytes of half of a layer's work area. -/
def halfBytes (regs : Tab Word) (l : Nat) : Nat := lyrViews regs l * viewBytes regs l

/-- The half of the work area that a starting instant takes: the first that no started instant of the layer has. -/
def State.takeHalf (s : State) (l : Nat) : Nat :=
  bit (s.card.instants.any (fun i => i.layer == l && i.phase == 1 && i.half == 0))

/-- The context address of half h of a layer's work area, none where the layer has no lease of one. -/
def State.halfAddress (s : State) (l h : Nat) : Option Nat :=
  (s.leasePart 2 l 0).map (fun e => s.leaseAddress e + h * halfBytes s.regs l)

/-- Memory byte of an instant's half of the work area, none where it has none or its pool is gone. -/
def State.workBase (s : State) (i : Instant) : Option Nat :=
  match i.area with
  | none => none
  | some a => (s.pool (a / 2 ^ 35)).map (fun p => poolBase p + a % 2 ^ 35)

/-- The records of the present key views are written into the instant's half of the work area: key view k at k times the bytes
of a view, its records by row of the rectangle with its seams (R213; the layout is a DESIGN CHOICE, in the entry of the work
area). -/
def writeRecords (i : Instant) (views : List KeyViewRec) (s : State) : State :=
  match s.workBase i with
  | none => s
  | some a => ((upto 0 views.length).zip views).foldl (fun s v =>
      v.2.records.foldl (fun s r =>
        s.hbmWrite (a + v.1 * viewBytes i.regs i.layer + 8 * r.1) (leBytes (r.2.getD 0) 8)) s) s

/-- A record of an instant, or a line of an overlay that it reads, lies in a poisoned memory word. -/
def State.workPoisoned (s : State) (i : Instant) : Bool :=
  (match s.workBase i with
    | none => false
    | some a => s.hbmPoisoned a (halfBytes i.regs i.layer)) ||
  i.fronts.any (fun f => match s.pool f.pool with
    | some q => s.hbmPoisoned (poolBase q + f.base) (f.pitch * f.height)
    | none => false)

/-- The detail of a carding event: the layer and the instant (R235). -/
def instantDetail (i : Instant) : Nat := i.count % 2 ^ 32 * 2 ^ 32 + i.layer

/-- CARD_LYR_LAST and the key-view counters follow the conversion (R209, R214, R230). -/
def noteViews (i : Instant) (views : List KeyViewRec) (removed : List Nat) (missed : Bool) (s : State) : State :=
  let l := i.layer
  let absent := (views.filter (fun v => !v.present)).length
  let used := (((upto 0 views.length).zip views).filter (fun e => e.2.present && !removed.contains e.1)).map (fun e => e.2)
  let s := if views.any (fun v => !v.present && !v.sizeBad) then raiseWith 608 0 (instantDetail i) s else s
  let s := if views.any (fun v => v.sizeBad) then raiseWith 609 0 (instantDetail i) s else s
  let s := s.bumpBy (F.CARD_LYR_CNT_COUNT l 0) absent
  let s := removed.foldl (fun s _ => raiseWith 614 0 (instantDetail i) (s.bump (F.CARD_LYR_CNT_COUNT l 1))) s
  let s := (s.set (F.CARD_LYR_LAST_SEAM_MISS l) (bit missed)).set (F.CARD_LYR_LAST_NOFRAME l) (bit used.isEmpty)
  let s := s.set (F.CARD_LYR_LAST_CONC_USED l) (used.filter (fun v => v.concealed || v.substitute || v.tainted)).length
  let s := (s.set (F.CARD_LYR_LAST_ABSENT l) absent).set (F.CARD_LYR_LAST_PRESENT l) used.length
  if used.isEmpty then raiseWith 610 0 (instantDetail i) (s.bump (F.CARD_LYR_CNT_COUNT l 5)) else s

/-- The NaN channels that the conversion of a RAYH instant replaces are counted (R29). -/
def countNans (i : Instant) (views : List KeyViewRec) (s : State) : State :=
  match i.input with
  | .raw data _ =>
    let st := s.layerStream i.layer
    if s.bindField 1 st (F.STRM_CFG_FORMAT st) = 2 then
      s.bumpBy F.RAYH_NANCNT_COUNT (((upto 0 views.length).zip views).map (fun e =>
        if e.2.present then rawNans data (lyrW i.regs i.layer) (lyrH i.regs i.layer) e.1 else 0)).sum
    else s
  | _ => s

/-- The seam strips of an instant are sent on the UP links that face its named edges (R427). -/
def sendSeams (i : Instant) (src : Nat) (views : List KeyViewRec) (s : State) : State :=
  let before := s
  (seamEdges i.regs i.layer).foldl (fun s e =>
    if touchesEdge s.geom i.regs i.layer e ∧ s.linkUp (e + 1) then
      ((upto 0 views.length).zip views).foldl (fun s v =>
        if v.2.present then sendStrip i src e v.1 (before.keySource i v.1).sample s else s) s
    else s) s

/-- An instant starts: its samples are converted, its strips sent, its tiles queued (R227 to R230, R232). -/
def convertInstant (i : Instant) (s : State) : State :=
  let l := i.layer
  let i := { i with regs := s.regs, half := s.takeHalf l, area := s.halfAddress l (s.takeHalf l) }
  let src := lyrSrc s l
  let missing := (seamEdges i.regs l).any (s.edgeMissing i)
  let s := if missing && !i.seamMissed then countSeamMiss i s else s
  let poisoned := s.poisonedPicture i
  let views := (upto 0 (lyrViews i.regs l)).map (s.keyView i src)
  let removed := removedViews (snapField i.regs (F.CARD_LYR_PARAM_CONC_POLICY l)) views
  let s := writeRecords i views (noteViews i views removed missing (countNans i views s))
  let s := sendSeams i src views s
  let none_ := views.all (fun v => !v.present)
  let i := { i with
    views := views, excluded := removed, phase := if none_ then 2 else 1
    todo := if none_ then [] else upto 0 (tileCount i.regs l)
    fronts := s.overlaysOf l, holds := s.instantHolds l, withheld := poisoned.isSome }
  let s := { s with afl := { s.afl with strips := s.afl.strips.filter (fun r => !(r.layer == l && r.launch == i.launch)) } }
  let s := setInstant i s
  let s := match poisoned with
    | some a => xlatFault 5 4 none a (l + i.count % 2 ^ 32 * 2 ^ 32) s
    | none => s
  let s := beginSeamWait l s
  if none_ then settleLate l i.count s
  else enqueueAll 1 ((upto 0 (tileCount i.regs l)).map (fun t => WorkItem.card l i.count t)) s

/-- INSTANT_START (R227): the next instant of a layer, once its seam wait has ended and a half of the work pool is free. -/
def instantStart (l : Nat) (s : State) : State :=
  match s.waitingInstant l with
  | none => s
  | some i =>
    if s.halfFree l ∧ s.seamReady i then convertInstant i s else s

/-! ## Tiles (R214 to R229) -/

/-- The parameters of synthesis in a register snapshot. -/
def synthLayer (regs : Tab Word) (l : Nat) : SynthLayer where
  w := lyrW regs l
  h := lyrH regs l
  seam := lyrS regs l
  shiftMax := snapField regs (F.CARD_LYR_PARAM_SHIFT_MAX l)
  holeRadius := snapField regs (F.CARD_LYR_PARAM_HOLE_RADIUS l)
  depthTol := snapField regs (F.CARD_LYR_PARAM_DEPTH_TOL l)
  holeAxes := snapField regs (F.CARD_LYR_PARAM_HOLE_AXES l)
  lowestRank := snapField regs (F.CARD_LYR_PARAM_BLEND l) == 1
  kvNear := snapField regs (F.CARD_LYR_PARAM_KV_NEAR l)
  fill := packedRgb (snapField regs (F.CARD_LYR_SRC_TF l)) 10 (snapField regs (F.CARD_LYR_FILL_COLOUR l))

/-- The key views that synthesis ranks. -/
def synthViews (i : Instant) : List SynthView :=
  ((upto 0 i.views.length).zip i.views).filterMap (fun e =>
    if e.2.present && !i.excluded.contains e.1 then
      let (u, v) := kvPos i.regs i.layer e.1
      some ⟨e.1, u, v, e.2.records⟩
    else none)

/-- The colour and alpha of an overlay pixel (R223). -/
def overlayPixel (fmt tf constant v : Nat) : Rgb × Nat :=
  if fmt = 0 then (packedRgb tf 8 (v % 2 ^ 24), floatOfFrac half (slice v 31 24) 255)
  else if fmt = 1 then (packedRgb tf 10 (v % 2 ^ 30), floatOfFrac half (slice v 31 30) 3)
  else if fmt = 2 then (packedRgb tf 10 constant, floatOfFrac half (v % 256) 255)
  else
    let a := sanitiseHalf (slice v 63 48)
    (⟨sanitiseHalf (slice v 15 0), sanitiseHalf (slice v 31 16), sanitiseHalf (slice v 47 32)⟩,
      if a ≥ 32768 then 0 else if a > 0x3C00 then 0x3C00 else a)

/-- The NaN channels of an RGBA16F overlay pixel (R223). -/
def overlayNans (fmt v : Nat) : Nat :=
  if fmt = 4 then ((upto 0 4).map (fun k => bit (isNan half (slice v (16 * k + 15) (16 * k))))).sum else 0

/-- A front buffer's pixels as memory holds them. -/
def State.overlayRaw (s : State) (f : FrontRec) : List Nat :=
  (upto 0 (f.width * f.height)).map (fun j => s.pixelRead (frontSurface f) (j % f.width) (j / f.width))

/-- The overlays of an instant as synthesis reads them, from the buffers they had in front when it started; those whose
lease is stale are transparent (R225, R466; spec/08_plank_overlay.md R286). -/
def State.synthOverlays (s : State) (i : Instant) : List SynthOverlay :=
  (i.fronts.filter (fun f => (s.stale [f.hold]).isNone)).map (fun f =>
    let o := f.overlay
    let tf := snapField i.regs (F.CARD_LYR_SRC_TF i.layer)
    { id := o, always := snapField i.regs (F.CARD_OV_BIND_MODE o) == 1
      u := snapField i.regs (F.CARD_OV_DEPTH_UREF o), v := snapField i.regs (F.CARD_OV_DEPTH_VREF o)
      x := signedOf 16 (snapField i.regs (F.CARD_OV_POS_X o)), y := signedOf 16 (snapField i.regs (F.CARD_OV_POS_Y o))
      disp := signedOf 13 (snapField i.regs (F.CARD_OV_DEPTH_DISP o)), w := f.width, h := f.height
      pixels := (s.overlayRaw f).map (overlayPixel f.format tf (snapField i.regs (F.OV_CONST_COLOUR o))) })

/-- The positions of a tile of the layer (R228). -/
def tileHogels (l : SynthLayer) (t : Nat) : List Nat :=
  let n := ceilDiv l.w 64
  (upto (t / n * 64) (min 64 (l.h - t / n * 64))).flatMap (fun y =>
    (upto (t % n * 64) (min 64 (l.w - t % n * 64))).map (fun x => y * l.w + x))

/-- A record position belongs to a tile; seam positions belong to the tile nearest them. -/
def inTile (l : SynthLayer) (t : Nat) (p : Int × Int) : Bool :=
  let n := ceilDiv l.w 64
  let x := min p.1.toNat (l.w - 1)
  let y := min p.2.toNat (l.h - 1)
  y / 64 * n + x / 64 == t

/-- What a tile gives: rays by ray index, hole-filled rays, rays of the fill colour, clamped shifts. -/
structure TileResult where
  rays : List (Nat × Nat)
  holes : Nat
  fills : Nat
  clamps : Nat
  deriving DecidableEq, Repr

/-- The RAYH container of a colour (spec/01_ray_space.md R26). -/
def rayContainerOf (c : Rgb) : Nat := c.r * 2 ^ 32 + c.g * 2 ^ 16 + c.b

/-- One output view of a tile. -/
def tileView (g : Geom) (i : Instant) (l : SynthLayer) (views : List SynthView) (ovs : List SynthOverlay) (t u v : Nat) : TileResult :=
  let front := frontRays l views u v
  let ranked := rankedViews l views u v
  let through := match ranked with
    | k :: _ => viewDistance u v k == 0
    | [] => false
  let warp := if through then 0 else (ranked.map (clampCount l u v (inTile l t))).sum
  let overrun := if t = 0 then (ovs.map (overlayClamps l u v)).sum else 0
  let rs := (tileHogels l t).map (fun j => (j, finishRay l ovs front u v j))
  let x0 := snapField i.regs (F.CARD_LYR_ORIGIN_X0 i.layer)
  let y0 := snapField i.regs (F.CARD_LYR_ORIGIN_Y0 i.layer)
  { rays := rs.map (fun e => (rayIndex g (x0 + e.1 % l.w) (y0 + e.1 / l.w) u v, rayContainerOf e.2.rgb))
    holes := (rs.filter (fun e => e.2.kind == 1)).length
    fills := (rs.filter (fun e => e.2.kind == 2)).length
    clamps := warp + overrun }

/-- A whole tile: every output view (R228). -/
def State.tileResult (s : State) (i : Instant) (t : Nat) : TileResult :=
  let g := s.geom
  let l := synthLayer i.regs i.layer
  let views := synthViews i
  let ovs := s.synthOverlays i
  (upto 0 (g.viewsU * g.viewsV)).foldl (fun acc k =>
    let r := tileView g i l views ovs t (k % g.viewsU) (k / g.viewsU)
    ⟨acc.rays ++ r.rays, acc.holes + r.holes, acc.fills + r.fills, acc.clamps + r.clamps⟩) ⟨[], 0, 0, 0⟩

/-- An instant completes (R229): its carding holds and its jitter buffer space end with it. -/
def instantDone (l n : Nat) (s : State) : State :=
  match s.instantOf l n with
  | none => s
  | some i => beginSeamWait l (settleLate l n (setInstant { i with phase := 2, holds := [], views := [], input := match i.input with
      | .coded c _ _ => .coded c [] []
      | .raw _ _ => .raw [] []
      | .rays => .rays } s))

/-- A carding instant ends with its rays withheld (spec/15_translation_preemption.md R466). -/
def instantEnds (i : Instant) (s : State) : State :=
  let s := dropWork (fun w => match w with | .card l n _ => !(l == i.layer && n == i.count) | _ => true) s
  beginSeamWait i.layer (dropInstants (fun j => !(j.layer == i.layer && j.count == i.count)) s)

/-- POINT of a carding tile (spec/15_translation_preemption.md R473). -/
def cardPoint (l n t : Nat) : Nat := l + t % 4096 * 2 ^ 16 + n % 2 ^ 32 * 2 ^ 32

/-- The tiles of an instant that cells of the CARD blocks run. -/
def State.runningTiles (s : State) (l n : Nat) : List Nat :=
  s.struct.blocks.flatMap (fun b => b.2.cells.filterMap (fun e => match e.2.item with
    | some ⟨.card a m t, _⟩ => if a = l ∧ m = n then some t else none
    | _ => none))

/-- The context address that a tile of an instant reads through lease e: its half of the work area, the first lease that it
holds, or the start of a range of its stream. -/
def State.instantAddress (s : State) (i : Instant) (e : Nat) : Nat :=
  match i.holds.head?, i.area with
  | some h, some a => if h.1 = e then a else s.leaseAddress e
  | _, _ => s.leaseAddress e

/-- An instant whose layer or stream lease is stale faults in tile t and in every other tile of it that runs
(spec/15_translation_preemption.md R465, R466). -/
def instantStale (i : Instant) (e t : Nat) (s : State) : State :=
  instantEnds i ((s.runningTiles i.layer i.count ++ [t]).foldl (fun s u =>
    xlatFault 5 3 (some e) (s.instantAddress i e) (cardPoint i.layer i.count u) s) s)

/-- A stale lease among those of a layer's work area and its stream. -/
def State.instantFault (s : State) (i : Instant) : Option Nat := s.stale i.holds

/-- A tile of an instant completes (R228): its rays reach the conformer, or are withheld (R52). -/
def cardTile (l n t : Nat) (withheld : Bool) (s : State) : State :=
  match s.instantOf l n with
  | none => s
  | some i =>
    if i.phase ≠ 1 ∨ ¬ i.todo.contains t then s
    else match s.instantFault i with
      | some e => instantStale i e t s
      | none =>
        let r := if withheld || i.withheld then ⟨[], 0, 0, 0⟩ else s.tileResult i t
        let (rays, s) := if s.ckStd then (r.rays, s) else
          r.rays.foldl (fun (acc : List (Nat × Nat) × State) e =>
            let (v, s) := acc.2.draw; ((e.1, v % 2 ^ 48) :: acc.1, s)) ([], s)
        let s := s.bumpBy (F.CARD_LYR_CNT_COUNT l 2) r.holes
        let s := s.bumpBy (F.CARD_LYR_CNT_COUNT l 3) r.fills
        let s := s.bumpBy (F.CARD_LYR_CNT_COUNT l 4) r.clamps
        let s := if r.clamps ≠ 0 ∧ ¬ i.clamped then raiseWith 611 0 (instantDetail i) s else s
        let nans := if t = 0 then (i.fronts.flatMap (fun f => (s.overlayRaw f).map (overlayNans f.format))).sum else 0
        let s := s.bumpBy F.RAYH_NANCNT_COUNT nans
        let i := { i with
          todo := setErase t i.todo, clamped := i.clamped || r.clamps != 0
          rays := rays.foldl (fun tab e => tabInsert tab e.1 (some e.2)) i.rays }
        let s := setInstant i s
        if i.todo.isEmpty then instantDone l n s else s

/-- A conformer item of slot h completes; a complete frame is decided at once (spec/07_conformer.md R261 to R263,
spec/11_time_presentation.md R383). -/
def confTile (h t : Nat) (withheld : Bool) (s : State) : State :=
  let (done, s) := confItemDone h t withheld s
  if done then frameReady h s else s

/-- POINT of a conformer item (spec/15_translation_preemption.md R473). -/
def confPoint (h t : Nat) : Nat := h + t % 4096 * 2 ^ 16

/-- A ray frame that reads a RAWRAY unit whose lease is stale: the unit counts as dropped, and the frame's items run again
without its rays (spec/15_translation_preemption.md R466). -/
def frameEndsUnit (h : Nat) (s : State) : State :=
  let f := s.frame h
  let gone := (s.frameInstants f).filter (fun i => i.input == .rays &&
    (s.holdsOn 1 (s.layerStream i.layer)).all (fun x => !f.holds.contains x))
  let s := gone.foldl (fun s i =>
    let st := s.layerStream i.layer
    raiseWith (s.streamSource st 6) 0 (i.unit % 2 ^ 32 * 2 ^ 32 + st) (s.bump (F.STRM_UNITS_DROPPED st))) s
  let s := dropWork (fun w => match w with | .conf k _ => k != h | _ => true) s
  let s := s.setFrame h { f with
    instants := f.instants.filter (fun x => !gone.any (fun i => i.layer == x.1 && i.count == x.2))
    holds := f.holds.filter (fun x => (s.lease x.1).gen == x.2), codes := [], todo := hogelTiles s.geom }
  enqueueAll 2 ((hogelTiles s.geom).map (fun t => WorkItem.conf h t)) s

/-! ## The commands -/

/-- INSTANT_START (R227). -/
def execInstantStart (layer : Fin 64) (s : State) : Host.Outcome State Fault Refusal := whenLive s (instantStart layer.val)

/-- SEAM_WAIT_TIMEOUT (R232). -/
def execSeamWaitTimeout (layer : Fin 64) (s : State) : Host.Outcome State Fault Refusal := whenLive s (seamTimeout layer.val)

end Sys2Proof.Machine
end

