-- ==== Sys2Proof/Machine/Afloth.lean ====
section
/-! DEFINITION. Tiling: what arrives on the Afloth links, membership, fence tokens and event forwarding
(spec/13_afloth_tiling.md R412 to R433). -/

namespace Sys2Proof.Machine

/-! ## Frames as received (R416 to R418) -/

/-- An accepted Afloth frame. -/
structure AflFrame where
  type : Nat
  origin : Nat
  hops : Nat
  seq : Nat
  param : Nat
  data : List Byte
  deriving DecidableEq, Repr

/-- The length that a TYPE requires (R418, R420, R423, R425, R428, R431). -/
def aflLength (type n : Nat) : Bool :=
  if type = 1 ∨ type = 3 then n == 32
  else if type = 2 ∨ type = 6 then n == 16
  else if type = 5 then n == 128
  else if type = 4 then decide (24 < n) && decide (n ≤ 24 + 8 * 8189) && n % 8 == 0
  else false

/-- A frame of header, data and DATA_CRC bytes that passes R418; none where it is to be discarded and counted. -/
def aflParse (frame : List Byte) : Option AflFrame :=
  let h := frame.take 24
  let n := leAt h 8 4
  let data := (frame.drop 24).take n
  let crc := if n = 0 then 0 else crc32c data
  if frame.length = 28 + n ∧ leAt h 0x14 4 = crc32c (h.take 20) ∧ leAt frame (24 + n) 4 = crc ∧ aflLength (leAt h 0 1) n then
    some ⟨leAt h 0 1, leAt h 2 1, leAt h 3 1, leAt h 4 4, leAt h 12 8, data⟩
  else none

/-- A frame is discarded and counted (R418). -/
def aflDiscard (s : State) : State := raiseQuiet 795 0 0 (s.bump (F.AFL_CNT_COUNT 0))

/-- Serial comparison modulo 2^32. -/
def newerThan (a b : Nat) : Bool :=
  let d := (a + 2 ^ 32 - b) % 2 ^ 32
  decide (1 ≤ d) && decide (d < 2 ^ 31)

/-- A frame on link k is checked (R418, R421); what accepts it goes on with the frame. code: it holds a code group counted
under R296. -/
def aflTake (k : Nat) (code : Bool) (frame : List Byte) (want : AflFrame → Bool) (f : AflFrame → State → State) (s : State) : State :=
  if ¬ s.linkUp (k + 1) then s
  else
  let s := linkHeard (k + 1) s
  match code, aflParse frame with
    | false, some x =>
      let last := tabGet none s.afl.seen (16 * x.origin + x.type)
      let old : Bool := match last with
        | some n => !newerThan x.seq n
        | none => false
      if ¬ want x ∨ (x.type ≠ 6 ∧ (s.get F.AFL_TILE_STATUS_WIRING).testBit k) ∨ (x.type ≠ 4 ∧ old) then s
      else f x { s with afl := { s.afl with seen := tabInsert s.afl.seen (16 * x.origin + x.type) (some x.seq) } }
    | _, _ => aflDiscard s

/-- A frame of the leader or a member in a tiled panel, relayed after its effect here (R419). -/
def aflRelayed (f : AflFrame → State → State) (x : AflFrame) (s : State) : State :=
  if ¬ s.tiled then s else aflRelay x.type x.origin x.hops x.seq x.data (f x s)

/-! ## Membership (R420 to R422, R426) -/

/-- A HELLO of a device arrives: it is no longer lost, and a hold of the leader is followed (R422, R426). -/
def helloFrom (x : AflFrame) (s : State) : State :=
  let was := s.afl.lost.contains x.origin
  let s := { s with afl := { s.afl with hello := tabInsert s.afl.hello x.origin (some s.now), lost := setErase x.origin s.afl.lost } }
  if s.leader then (if was then raise 785 s else s)
  else if x.origin ≠ 0 then s
  else
    let s := s.set F.AFL_TILE_STATUS_LEADER_OK 1
    let s := if was then raise 787 s else s
    if (leAt x.data 4 1).testBit 0 then panelHold { s with afl := { s.afl with leaderHold := true } }
    else s

/-- AFL_HELLO_RECEIVE (R420, R421). -/
def helloReceive (k : Nat) (x : AflFrame) (s : State) : State :=
  let place := neighbour s.topo s.devices s.tileId k
  let right := place == some (leAt x.data 0 1) && leAt x.data 1 1 == s.topo && leAt x.data 2 1 == s.get F.AFL_TILE_CFG_COUNT
  let w := s.get F.AFL_TILE_STATUS_WIRING
  if x.hops = 0 ∧ ¬ right then
    raise 793 (s.set F.AFL_TILE_STATUS_WIRING (if w.testBit k then w else w + 2 ^ k))
  else
    let s := if x.hops = 0 ∧ w.testBit k then s.set F.AFL_TILE_STATUS_WIRING (w - 2 ^ k) else s
    aflRelay x.type x.origin x.hops x.seq x.data (helloFrom x s)

/-- The device is awaited by this one: members by the leader, the leader by a member. -/
def State.watches (s : State) (d : Nat) : Bool :=
  s.tiled && decide (d < s.devices) && d != s.tileId && (s.leader || d == 0)

/-- No HELLO of device d has arrived for LOST_MS. -/
def State.helloLate (s : State) (d : Nat) : Bool :=
  decide (s.now ≥ max s.afl.since ((tabGet none s.afl.hello d).getD 0) + 1000000 * s.get F.AFL_TILE_CFG_LOST_MS)

/-- AFL_LOSS_TIMEOUT (R422, R426). -/
def lossTimeout (d : Nat) (s : State) : State :=
  if ¬ s.watches d ∨ s.afl.lost.contains d ∨ ¬ s.helloLate d then s
  else
    let s := { s with afl := { s.afl with lost := setInsert d s.afl.lost } }
    if s.leader then
      awaitedLevel (raise 784 { s with afl := { s.afl with awaited := setErase d s.afl.awaited } })
    else
      let s := raise 786 (s.set F.AFL_TILE_STATUS_LEADER_OK 0)
      dropEntries (panelHold { s with afl := { s.afl with leaderHold := true } })

/-- AFL_HELLO_SEND (R420): every ms on every UP link. -/
def helloSend (s : State) : State :=
  if ¬ s.tiled ∨ s.now < s.afl.helloAt + 1000000 then s
  else
    let s := { s with afl := { s.afl with helloAt := s.now } }
    aflSend 6 0 (helloBytes s) ((upto 0 4).filter (fun k => s.linkUp (k + 1))) s

/-- SEEN of AFL_TILE_STATUS: HELLO from a device within LOST_MS. -/
def seenMask (s : State) : Nat :=
  (upto 0 4).foldl (fun acc d => match tabGet none s.afl.hello d with
    | some t => if s.now < t + 1000000 * s.get F.AFL_TILE_CFG_LOST_MS then acc + 2 ^ d else acc
    | none => acc) 0

/-! ## Fence tokens (R423 to R426) -/

/-- The edge that a token names. -/
def tokenEdge (x : AflFrame) : Nat := leAt x.data 0 8 * 1000000000 + leAt x.data 8 4

/-- The launch time that a token names; none for ASAP. -/
def tokenLaunch (x : AflFrame) : Option Nat :=
  if (leAt x.data 0x1A 1).testBit 0 then none else some (leAt x.data 0xC 8 * 1000000000 + leAt x.data 0x14 4)

/-- The local edge of a token, with its skew recorded (R424). -/
def localEdge (named : Nat) (s : State) : Nat × State :=
  match s.edgeNear named with
  | none => (named, s)
  | some e =>
    let d : Int := (e : Int) - named
    if d.natAbs > 2000 then
      (e, raise 788 ((s.setWord R.AFL_SKEW (BitVec.ofNat 32 (patternOf 32 d))).bump (F.AFL_CNT_COUNT 5)))
    else (e, s)

/-- PLAN at a member (R425 step 2); it ends a hold of the leader (R426). -/
def planReceive (x : AflFrame) (s : State) : State :=
  let (e, s) := localEdge (tokenEdge x) s
  newToken ⟨e, tokenEdge x, tokenLaunch x, leAt x.data 0x18 2, leAt x.data 0x1C 1, tokenEdge x⟩
    { s with afl := { s.afl with leaderHold := false } }

/-- The token is spent. -/
def dropToken (s : State) : State := awaitedLevel { s with afl := { s.afl with token := none, done := [], noFrame := false } }

/-- GO 0x0 (R425 step 5). -/
def goCommit (s : State) : State :=
  if s.afl.noFrame then dropToken (raise 791 (s.bump (F.AFL_CNT_COUNT 3)))
  else match s.panel.opened with
    | some o =>
      if o.committed then dropToken s
      else dropToken (letCommit o s)
    | none => dropToken s

/-- GO 0x1 (R425 step 6): the token of the next edge; the frames of the devices are late. -/
def goDefer (edge named defers : Nat) (s : State) : State :=
  let s := match s.afl.token with
    | some t => { s with afl := { s.afl with token := some { t with edge := edge, named := named, defers := defers }, noFrame := false } }
    | none => s
  let s := match s.panel.opened with
    | some o =>
      let s := raise 144 (s.bump (F.PQ_CNT_COUNT 0))
      (s.setFrame o.handle { s.frame o.handle with late := true }).withOpen (some { o with target := some edge })
    | none => s
  let s := s.bump (F.AFL_CNT_COUNT 1)
  awaitedLevel (if s.leader then raise 789 s else s)

/-- GO 0x2 (R425 step 7). -/
def goForce (s : State) : State :=
  match s.panel.opened with
  | some o =>
    if o.committed then dropToken s
    else if o.doneSent then dropToken (letCommit o s)
    else dropToken (raise 790 ((dropOpen (sendAbort o.frameNo 3 s)).bump (F.AFL_CNT_COUNT 2)))
  | none => dropToken (raise 790 (s.bump (F.AFL_CNT_COUNT 2)))

/-- A GO of the leader with ACTION 0x0 at a member. -/
def goCommitReceive (x : AflFrame) (s : State) : State := goCommit (localEdge (tokenEdge x) s).2

/-- A GO with ACTION 0x1 serves as the PLAN of its edge. -/
def goDeferReceive (x : AflFrame) (s : State) : State :=
  let (e, s) := localEdge (tokenEdge x) s
  let s := if s.afl.token.isNone then
      newToken ⟨e, tokenEdge x, tokenLaunch x, leAt x.data 0x18 2, leAt x.data 0x1C 1, tokenEdge x⟩ s
    else s
  goDefer e (tokenEdge x) (leAt x.data 0x1C 1) { s with afl := { s.afl with leaderHold := false } }

/-- A GO with ACTION 0x2 at a member. -/
def goForceReceive (x : AflFrame) (s : State) : State := goForce (localEdge (tokenEdge x) s).2

/-- AFL_DONE_RECEIVE (R425 step 4): the leader records a DONE for the frame of its token. -/
def doneReceive (x : AflFrame) (s : State) : State :=
  match s.leader, s.afl.token with
  | true, some t =>
    if t.planned ≤ tokenEdge x ∧ tokenEdge x ≤ t.named then recordDone x.origin s else s
  | _, _ => s

/-- DONE has arrived from every device that is awaited (R425 step 4, R426). -/
def State.allDone (s : State) : Bool := s.afl.awaited.all s.afl.done.contains

/-- AFL_GO_SEND (R425 step 4): the leader's GO at F(E) - GO_US, and its effect on the leader itself. -/
def goSend (s : State) : State :=
  match s.afl.token with
  | none => s
  | some t =>
    if ¬ s.tiled ∨ ¬ s.leader ∨ s.q9 + 1000 * s.get F.AFL_TILE_CFG_GO_US < s.sampleAt t.edge then s
    else
      let links := s.outward
      if s.allDone then goCommit (aflSend 3 0 (tokenBytes t.edge t.launch t.lframe 0 t.defers) links s)
      else if t.defers < s.get F.AFL_TILE_CFG_MAX_DEFER then
        let e := (s.edgeNear (t.edge + s.tePeriod)).getD (t.edge + s.tePeriod)
        goDefer e e (t.defers + 1) (aflSend 3 0 (tokenBytes e t.launch t.lframe 1 (t.defers + 1)) links s)
      else goForce (aflSend 3 0 (tokenBytes t.edge t.launch t.lframe 2 t.defers) links s)

/-! ## Event forwarding (R431) -/

/-- A pending word (R491). -/
def State.pendingWord (s : State) (n : Nat) : Word :=
  BitVec.ofNat 32 ((upto 0 32).foldl (fun acc i => if s.isPending (32 * n + i) then acc + 2 ^ i else acc) 0)

/-- The 32 pending words. -/
def State.pendingWords (s : State) : List Word := (upto 0 32).map s.pendingWord

/-- AFL_EVENT_SEND: a member's pending words after a change, and at least every 10 ms. -/
def eventSend (s : State) : State :=
  let ws := s.pendingWords
  let due : Bool := match s.afl.sentAt with
    | some t => ws != s.afl.sentWords || decide (s.now ≥ t + 10000000)
    | none => true
  if ¬ s.tiled ∨ s.leader ∨ ¬ due then s
  else
    let s := { s with afl := { s.afl with sentWords := ws, sentAt := some s.now } }
    aflSend 5 0 (ws.flatMap (fun w => leBytes w.toNat 4)) [s.inwardLink] s

/-- AFL_EVENT_RECEIVE: the leader keeps the snapshot of a member and raises REMOTE_EVENT for newly set bits. -/
def eventReceive (x : AflFrame) (s : State) : State :=
  if ¬ s.leader then s
  else
    let ws := (upto 0 32).map (fun n => (n, BitVec.ofNat 32 (leAt x.data (4 * n) 4)))
    let new := ws.any (fun e => (e.2 &&& ~~~ (tabGet 0 s.afl.remote (32 * x.origin + e.1) : Word)) != 0)
    let s := { s with afl := { s.afl with
      remote := ws.foldl (fun t e => tabPut 0 t (32 * x.origin + e.1) e.2) s.afl.remote } }
    if new then raise 794 s else s

/-- AFL_REMPEND: the selected word of the selected member. -/
def rempend (s : State) : Word :=
  let d := s.get F.AFL_REMSEL_DEVICE
  if d = 0 then 0 else tabGet 0 s.afl.remote (32 * d + s.get F.AFL_REMSEL_WORD)

/-! ## Seam strips (R429, R233) -/

/-- A strip is ignored (R429). -/
def seamBad (s : State) : State := raise 792 (s.bump (F.AFL_CNT_COUNT 4))

/-- The samples of a SEAM frame join the strip of their key view. -/
def addSamples (l e kv crc : Nat) (launch : Option Nat) (first limit : Nat) (body : List Byte) (s : State) : State :=
  let mine := fun (r : StripRec) => r.layer == l && r.edge == e && r.kv == kv && r.launch == launch
  let old := (s.afl.strips.find? mine).getD ⟨l, e, launch, kv, crc, []⟩
  let n := body.length / 8
  let samples := (upto 0 n).foldl (fun t i =>
    if first + i < limit then tabInsert t (first + i) (some (leAt body (8 * i) 8)) else t) old.samples
  { s with afl := { s.afl with strips := { old with samples := samples } :: s.afl.strips.filter (fun r => !mine r) } }

/-- The instant of a layer for a launch time. -/
def State.instantFor (s : State) (l : Nat) (launch : Option Nat) : Option Instant :=
  s.card.instants.find? (fun i => i.layer == l && i.launch == launch)

/-- The wait of a strip's instant has ended, or the instant has started or gone: the strip comes too late (R232). -/
def State.stripLate (s : State) (l : Nat) (launch : Option Nat) : Bool :=
  match launch, s.instantFor l launch with
  | none, _ => false
  | some _, some i => i.phase != 0 || (i.seamUntil != 0 && decide (i.seamUntil ≤ s.now))
  | some t, none => s.launchPast t

/-- The detail of SEAM_MISMATCH (R235): the layer, and the strip's instant: that of its launch time, else the layer's next. -/
def State.mismatchDetail (s : State) (l : Nat) (launch : Option Nat) : Nat :=
  ((s.instantFor l launch).map (fun i => i.count)).getD (tabGet 0 s.card.counts l) % 2 ^ 32 * 2 ^ 32 + l

/-- AFL_SEAM_RECEIVE: a SEAM frame on the link that faces edge e (R429, R233). -/
def seamReceive (e : Nat) (x : AflFrame) (s : State) : State :=
  let l := x.param % 256 % 64
  let launch := if leAt x.data 0 12 = 0 then none else some (leAt x.data 0 8 * 1000000000 + leAt x.data 8 4)
  if slice x.param 23 16 ≠ lyrS s.regs l ∨ slice x.param 63 48 ≠ edgeExtent s.regs l e ∨ slice x.param 39 32 ≠ lyrSrc s l then seamBad s
  else if leAt x.data 12 4 ≠ kvdCrc s.regs l then raiseWith 613 0 (s.mismatchDetail l launch) s
  else if s.stripLate l launch then s
  else addSamples l e (slice x.param 31 24) (leAt x.data 12 4) launch (leAt x.data 16 4) (lyrS s.regs l * edgeExtent s.regs l e) (x.data.drop 24) s

/-! ## AFL_TILE_CFG -/

/-- A write of AFL_TILE_CFG; window says whether R432 accepts it. -/
def tileCfgWrite (window : Bool) (v : Word) (s : State) : Res :=
  let topo := wordField v F.AFL_TILE_CFG_TOPO
  let count := wordField v F.AFL_TILE_CFG_COUNT
  if s.armed 4 0 ∨ ¬ window then refuse .window s
  else if topo = 3 ∨ count = 0 ∨ (topo = 2 ∧ count ≠ 3) ∨ wordField v F.AFL_TILE_CFG_LOST_MS < 2 ∨ wordField v F.AFL_TILE_CFG_GO_US = 0 then
    refuse .value s
  else
    let start := s.topo == 0 && topo != 0
    let s := ((s.set F.AFL_TILE_CFG_TOPO topo).set F.AFL_TILE_CFG_COUNT count).set F.AFL_TILE_CFG_LOST_MS (wordField v F.AFL_TILE_CFG_LOST_MS)
    let s := (s.set F.AFL_TILE_CFG_GO_US (wordField v F.AFL_TILE_CFG_GO_US)).set F.AFL_TILE_CFG_MAX_DEFER (wordField v F.AFL_TILE_CFG_MAX_DEFER)
    okay (if start then { s with afl := { s.afl with since := s.now } } else s)

/-! ## The commands -/

/-- AFL_HELLO_RECEIVE (R421). -/
def execAflHelloReceive (link : Fin 4) (codeError : Bool) (frame : List Byte) (s : State) : Host.Outcome State Fault Refusal :=
  whenLive s (aflTake link.val codeError frame (fun x => x.type == 6)
    (fun x s => if s.tiled then helloReceive link.val x s else s))

/-- AFL_PLAN_RECEIVE (R425). -/
def execAflPlanReceive (link : Fin 4) (codeError : Bool) (frame : List Byte) (s : State) : Host.Outcome State Fault Refusal :=
  whenLive s (aflTake link.val codeError frame (fun x => x.type == 1 && x.origin == 0) (aflRelayed planReceive))

/-- GO_COMMIT (R425 step 5). -/
def execGoCommit (link : Fin 4) (codeError : Bool) (frame : List Byte) (s : State) : Host.Outcome State Fault Refusal :=
  whenLive s (aflTake link.val codeError frame (fun x => x.type == 3 && x.origin == 0 && leAt x.data 0x1B 1 == 0)
    (aflRelayed goCommitReceive))

/-- GO_DEFER (R425 step 6). -/
def execGoDefer (link : Fin 4) (codeError : Bool) (frame : List Byte) (s : State) : Host.Outcome State Fault Refusal :=
  whenLive s (aflTake link.val codeError frame (fun x => x.type == 3 && x.origin == 0 && leAt x.data 0x1B 1 == 1)
    (aflRelayed goDeferReceive))

/-- GO_FORCE (R425 step 7). -/
def execGoForce (link : Fin 4) (codeError : Bool) (frame : List Byte) (s : State) : Host.Outcome State Fault Refusal :=
  whenLive s (aflTake link.val codeError frame (fun x => x.type == 3 && x.origin == 0 && leAt x.data 0x1B 1 == 2)
    (aflRelayed goForceReceive))

/-- AFL_DONE_RECEIVE (R425). -/
def execAflDoneReceive (link : Fin 4) (codeError : Bool) (frame : List Byte) (s : State) : Host.Outcome State Fault Refusal :=
  whenLive s (aflTake link.val codeError frame (fun x => x.type == 2) (aflRelayed doneReceive))

/-- AFL_EVENT_RECEIVE (R431). -/
def execAflEventReceive (link : Fin 4) (codeError : Bool) (frame : List Byte) (s : State) : Host.Outcome State Fault Refusal :=
  whenLive s (aflTake link.val codeError frame (fun x => x.type == 5) (aflRelayed eventReceive))

/-- AFL_SEAM_RECEIVE (R429). -/
def execAflSeamReceive (link : Fin 4) (codeError : Bool) (frame : List Byte) (s : State) : Host.Outcome State Fault Refusal :=
  whenLive s (aflTake link.val codeError frame (fun x => x.type == 4) (seamReceive link.val))

/-- AFL_HELLO_SEND (R420). -/
def execAflHelloSend (s : State) : Host.Outcome State Fault Refusal := whenLive s helloSend

/-- AFL_LOSS_TIMEOUT (R422). -/
def execAflLossTimeout (device : Fin 4) (s : State) : Host.Outcome State Fault Refusal := whenLive s (lossTimeout device.val)

/-- AFL_GO_SEND (R425). -/
def execAflGoSend (s : State) : Host.Outcome State Fault Refusal := whenLive s goSend

/-- AFL_EVENT_SEND (R431). -/
def execAflEventSend (s : State) : Host.Outcome State Fault Refusal := whenLive s eventSend

end Sys2Proof.Machine
end

