-- ==== Sys2Proof/Machine/PictureHash.lean ====
section
/-! DEFINITION. The decoded picture hash of a picture (spec/05_decode.md R163), which H.265 defines: MD5 (RFC 1321), CRC or
checksum of the samples of each colour component (assumption log entry 87). -/

namespace Sys2Proof.Machine

/-! ## MD5 -/

/-- The 64 additive constants of MD5. -/
def md5K : List Nat :=
  [0xD76AA478, 0xE8C7B756, 0x242070DB, 0xC1BDCEEE,
   0xF57C0FAF, 0x4787C62A, 0xA8304613, 0xFD469501,
   0x698098D8, 0x8B44F7AF, 0xFFFF5BB1, 0x895CD7BE,
   0x6B901122, 0xFD987193, 0xA679438E, 0x49B40821] ++
  [0xF61E2562, 0xC040B340, 0x265E5A51, 0xE9B6C7AA,
   0xD62F105D, 0x02441453, 0xD8A1E681, 0xE7D3FBC8,
   0x21E1CDE6, 0xC33707D6, 0xF4D50D87, 0x455A14ED,
   0xA9E3E905, 0xFCEFA3F8, 0x676F02D9, 0x8D2A4C8A] ++
  [0xFFFA3942, 0x8771F681, 0x6D9D6122, 0xFDE5380C,
   0xA4BEEA44, 0x4BDECFA9, 0xF6BB4B60, 0xBEBFBC70,
   0x289B7EC6, 0xEAA127FA, 0xD4EF3085, 0x04881D05,
   0xD9D4D039, 0xE6DB99E5, 0x1FA27CF8, 0xC4AC5665] ++
  [0xF4292244, 0x432AFF97, 0xAB9423A7, 0xFC93A039,
   0x655B59C3, 0x8F0CCC92, 0xFFEFF47D, 0x85845DD1,
   0x6FA87E4F, 0xFE2CE6E0, 0xA3014314, 0x4E0811A1,
   0xF7537E82, 0xBD3AF235, 0x2AD7D2BB, 0xEB86D391]

/-- The rotation of step i. -/
def md5Shift (i : Nat) : Nat :=
  ([[7, 12, 17, 22], [5, 9, 14, 20], [4, 11, 16, 23], [6, 10, 15, 21]].getD (i / 16) []).getD (i % 4) 0

/-- The four words that MD5 works on. -/
structure Md5Vars where
  a : Nat
  b : Nat
  c : Nat
  d : Nat
  deriving DecidableEq, Repr

/-- The message word that step i takes. -/
def md5Word (i : Nat) : Nat :=
  match i / 16 with
  | 0 => i
  | 1 => (5 * i + 1) % 16
  | 2 => (3 * i + 5) % 16
  | _ => 7 * i % 16

/-- The mixing function of step i. -/
def md5Mix (i : Nat) (v : Md5Vars) : Nat :=
  let nb := v.b ^^^ 0xFFFFFFFF
  match i / 16 with
  | 0 => (v.b &&& v.c) ||| (nb &&& v.d)
  | 1 => (v.d &&& v.b) ||| ((v.d ^^^ 0xFFFFFFFF) &&& v.c)
  | 2 => v.b ^^^ v.c ^^^ v.d
  | _ => v.c ^^^ (v.b ||| (v.d ^^^ 0xFFFFFFFF))

/-- Step i on a block of 16 words. -/
def md5Step (words : List Nat) (v : Md5Vars) (i : Nat) : Md5Vars :=
  let x := (v.a + md5Mix i v + md5K.getD i 0 + words.getD (md5Word i) 0) % 2 ^ 32
  let n := md5Shift i
  ⟨v.d, (v.b + (((x <<< n) ||| (x >>> (32 - n))) % 2 ^ 32)) % 2 ^ 32, v.b, v.c⟩

/-- One block of 64 bytes. -/
def md5Block (h : Md5Vars) (block : List Byte) : Md5Vars :=
  let words := (upto 0 16).map (fun i => leNat ((block.drop (4 * i)).take 4))
  let v := (upto 0 64).foldl (md5Step words) h
  ⟨(h.a + v.a) % 2 ^ 32, (h.b + v.b) % 2 ^ 32, (h.c + v.c) % 2 ^ 32, (h.d + v.d) % 2 ^ 32⟩

/-- n blocks in order. -/
def md5Blocks : Nat → Md5Vars → List Byte → Md5Vars
  | 0, h, _ => h
  | n + 1, h, bs => md5Blocks n (md5Block h (bs.take 64)) (bs.drop 64)

/-- MD5 of a run of bytes: a 1 bit, zero bits and the length in bits fill the last block. -/
def md5 (bs : List Byte) : List Byte :=
  let zeros := (119 - bs.length % 64) % 64
  let padded := bs ++ 0x80 :: List.replicate zeros 0 ++ leBytes (8 * bs.length) 8
  let h := md5Blocks (padded.length / 64) ⟨0x67452301, 0xEFCDAB89, 0x98BADCFE, 0x10325476⟩ padded
  [h.a, h.b, h.c, h.d].flatMap (fun x => leBytes x 4)

/-! ## The hash of a component -/

/-- A colour component of a picture: its width and its samples in raster order. -/
structure Plane where
  width : Nat
  samples : List Nat
  deriving DecidableEq, Repr

/-- The bytes of a component: one for a sample of 8 bits, else two, the low byte first. -/
def Plane.bytes (bits : Nat) (p : Plane) : List Byte := p.samples.flatMap (fun x => leBytes x (if bits ≤ 8 then 1 else 2))

/-- One bit of the component into the CRC, polynomial x^16 + x^12 + x^5 + 1. -/
def hashCrcBit (crc : Nat) (bit : Nat) : Nat :=
  ((2 * crc + bit) % 2 ^ 16) ^^^ (if crc / 2 ^ 15 = 1 then 0x1021 else 0)

/-- One byte of the component into the CRC, its highest bit first. -/
def hashCrcByte (crc : Nat) (b : Byte) : Nat := (upto 0 8).foldl (fun c i => hashCrcBit c (b.toNat / 2 ^ (7 - i) % 2)) crc

/-- The CRC of a component, 16 zero bits behind. -/
def Plane.crc (bits : Nat) (p : Plane) : Nat := (p.bytes bits ++ [0, 0]).foldl hashCrcByte 0xFFFF

/-- The checksum of a component: every byte of a sample under a mask of its position. -/
def Plane.checksum (bits : Nat) (p : Plane) : Nat :=
  let sum := fun (acc : Nat × Nat) (v : Nat) =>
    let x := acc.2 % p.width
    let y := acc.2 / p.width
    let mask := (x % 256) ^^^ (y % 256) ^^^ (x / 256) ^^^ (y / 256)
    let high := if bits ≤ 8 then 0 else (v / 256) ^^^ mask
    ((acc.1 + ((v % 256) ^^^ mask) + high) % 2 ^ 32, acc.2 + 1)
  (p.samples.foldl sum (0, 0)).1

/-- The value that a hash message of a method holds for the components of a picture, none for a method that H.265 reserves. -/
def pictureHash (method bits : Nat) (planes : List Plane) : Option (List Byte) :=
  match method with
  | 0 => some (planes.flatMap (fun p => md5 (p.bytes bits)))
  | 1 => some (planes.flatMap (fun p => beBytes (p.crc bits) 2))
  | 2 => some (planes.flatMap (fun p => beBytes (p.checksum bits) 4))
  | _ => none

end Sys2Proof.Machine
end

