-- ==== Sys2Proof/Machine/Decoder.lean ====
section
/-! DEFINITION. The decode complex: contexts, frame slots, the header parser, row tasks, damage and concealment
(spec/05_decode.md R160 to R201). What H.265 parsing gives behind a NAL unit header and the samples of a decoded row arrive
as operands. -/

namespace Sys2Proof.Machine

/-! ## Contexts and slots -/

/-- A decode context. -/
def State.dctx (s : State) (c : Nat) : DecCtx := tabGet {} s.dec.ctxs c

/-- A decode context replaced. -/
def State.setDctx (s : State) (c : Nat) (x : DecCtx) : State :=
  { s with dec := { s.dec with ctxs := tabPut {} s.dec.ctxs c x } }

/-- A slot of a context. -/
def State.slot (s : State) (c n : Nat) : SlotPic := tabGet {} (s.dctx c).slots n

/-- A slot replaced. -/
def State.setSlot (s : State) (c n : Nat) (p : SlotPic) : State :=
  let x := s.dctx c
  s.setDctx c { x with slots := tabPut {} x.slots n p }

/-- A layer of a context. -/
def State.dlayer (s : State) (c l : Nat) : DecLayer := tabGet {} (s.dctx c).layers l

/-- A layer replaced. -/
def State.setDlayer (s : State) (c l : Nat) (y : DecLayer) : State :=
  let x := s.dctx c
  s.setDctx c { x with layers := tabPut {} x.layers l y }

/-- The layers that the active VPS names. -/
def State.dlayers (s : State) (c : Nat) : List Nat := ((s.dctx c).layers.filter (fun e => e.2.state != 0)).map (fun e => e.1)

/-- Context c serves an ARMED stream. -/
def State.ctxArmed (s : State) (c : Nat) : Bool :=
  s.flag (F.DEC_CTX_CFG_ENABLE c) && s.armed 1 (s.contextStream c) && s.streamKind (s.contextStream c) == 1

/-- The context that serves a stream, in force. -/
def State.streamContext (s : State) (st : Nat) : Option Nat :=
  (upto 0 4).find? (fun c => s.flag (F.DEC_CTX_CFG_ENABLE c) && s.contextStream c == st)

/-- Width of a picture in CTUs. -/
def SlotPic.ctbW (p : SlotPic) : Nat := ceilDiv p.width (2 ^ p.ctbLog)

/-- CTUs of a picture. -/
def SlotPic.ctbs (p : SlotPic) : Nat := p.ctbW * ceilDiv p.height (2 ^ p.ctbLog)

/-- CTUs concealed. -/
def SlotPic.conc (p : SlotPic) : Nat := p.iv + p.temporal + p.filled

/-- The state of a CTU: 0 not decoded, 1 decoded, 2 concealed, 3 to be concealed. -/
def SlotPic.ctu (p : SlotPic) (k : Nat) : Nat := tabGet 0 p.ctus k

/-- CTUs whose state satisfies a test take another. -/
def SlotPic.markCtus (p : SlotPic) (ks : List Nat) (test : Nat → Bool) (v : Nat) : SlotPic :=
  ks.foldl (fun p k => if test (p.ctu k) then { p with ctus := tabPut 0 p.ctus k v } else p) p

/-- Parts of a length with their starts. -/
def spans (start : Nat) : List Nat → List (Nat × Nat)
  | [] => []
  | n :: t => (start, n) :: spans (start + n) t

/-- The tile columns and tile rows of a picture, each with its start in CTBs (R173). -/
def SlotPic.tileCols (p : SlotPic) : List (Nat × Nat) := spans 0 (if p.cols.isEmpty then [p.ctbW] else p.cols)

/-- The tile rows. -/
def SlotPic.tileRows (p : SlotPic) : List (Nat × Nat) := spans 0 (if p.rows.isEmpty then [ceilDiv p.height (2 ^ p.ctbLog)] else p.rows)

/-- The part that a coordinate lies in, by a test on its start and its length. -/
def spanOf (l : List (Nat × Nat)) (inside : Nat × Nat → Bool) : Nat × Nat := (l.find? inside).getD (0, 1)

/-- The place of a CTU in decoding order: tile after tile, each in raster order. -/
def SlotPic.scanPos (p : SlotPic) (k : Nat) : Nat :=
  let x := k % max 1 p.ctbW
  let y := k / max 1 p.ctbW
  let (x0, w) := spanOf p.tileCols (fun e => decide (x < e.1 + e.2))
  let (y0, h) := spanOf p.tileRows (fun e => decide (y < e.1 + e.2))
  y0 * p.ctbW + h * x0 + (y - y0) * w + (x - x0)

/-- The CTU at a place in decoding order. -/
def SlotPic.scanAddr (p : SlotPic) (i : Nat) : Nat :=
  let (y0, h) := spanOf p.tileRows (fun e => decide (i < (e.1 + e.2) * p.ctbW))
  let r := i - y0 * p.ctbW
  let (x0, w) := spanOf p.tileCols (fun e => decide (r < h * (e.1 + e.2)))
  (y0 + (r - h * x0) / max 1 w) * p.ctbW + x0 + (r - h * x0) % max 1 w

/-- The tile of a CTU. -/
def SlotPic.tileOf (p : SlotPic) (k : Nat) : Nat :=
  let below := fun (l : List (Nat × Nat)) (x : Nat) => (l.filter (fun e => decide (e.1 + e.2 ≤ x))).length
  below p.tileRows (k / max 1 p.ctbW) * p.tileCols.length + below p.tileCols (k % max 1 p.ctbW)

/-- The slot holds a picture in decoding. -/
def SlotPic.decoding (p : SlotPic) : Bool := p.mark != 0 && !p.complete

/-- A carding instant that is not complete reads the slot (R170). -/
def State.cardHeld (s : State) (c n : Nat) : Bool :=
  s.card.instants.any (fun i => i.phase != 2 && match i.input with
    | .coded ctx pics others => ctx == c && (others.contains n || pics.any (fun p =>
        (match p.1 with | some x => x.slot == n | none => false) || (match p.2 with | some x => x.slot == n | none => false)))
    | _ => false)

/-- An access unit in decoding lists the slot, or a picture in decoding refers to it. -/
def State.slotInUse (s : State) (c n : Nat) : Bool :=
  (s.dctx c).aus.any (fun a => a.pics.any (fun e => e.2 == some n)) ||
  (s.dctx c).slots.any (fun e => e.2.decoding && e.2.refs.contains n)

/-- A slot is free: mark unused, no hold (R170). A picture in decoding, one that it refers to, and one of an access unit that is
not complete are not free whatever their mark: else R163 and R175 would not hold (DEDUCED). -/
def State.slotFree (s : State) (c n : Nat) : Bool :=
  (s.slot c n).mark == 0 && !(s.slot c n).decHeld && !s.cardHeld c n && !s.slotInUse c n

/-- A slot holds a picture: it is marked or held (R170, R196). -/
def State.slotKept (s : State) (c n : Nat) : Bool := (s.slot c n).mark != 0 || (s.slot c n).decHeld || s.cardHeld c n

/-- The lowest-numbered free slot (R171). -/
def State.takeSlot (s : State) (c : Nat) : Option Nat :=
  (upto 0 (s.get (F.DEC_CTX_SLOTS_SLOT_COUNT c))).find? (s.slotFree c)

/-- The access unit in parsing: the first that is not parsed. -/
def State.parseAu (s : State) (c : Nat) : Option AuState := (s.dctx c).aus.find? (fun a => !a.parsed)

/-- An access unit replaced, by its order. -/
def State.setAu (s : State) (c : Nat) (a : AuState) : State :=
  let x := s.dctx c
  s.setDctx c { x with aus := x.aus.map (fun b => if b.order = a.order then a else b) }

/-- A decoder event with code, context, layer and POC (R183). -/
def decRaise (src code c l : Nat) (poc : Int) (s : State) : State :=
  raiseWith src code (c + 256 * l + 2 ^ 32 * patternOf 32 poc) s

/-! ## Key views as the decoder knows them (R208) -/

/-- The layer object whose descriptor describes a stream's key views: the lowest that names the stream and is BOUND or
ARMED. -/
def State.kvLayer (s : State) (st : Nat) : Option Nat :=
  (upto 0 64).find? (fun l => decide (2 ≤ (s.path 2 l).state) && s.layerStream l == st)

/-- The entries of a stream's descriptor: TEX_LAYER, DEPTH_LAYER, U_POS, V_POS, DSCALE, DOFFSET. -/
structure KvEntry where
  tex : Nat
  depth : Nat
  u : Nat
  v : Nat
  scale : Int
  offset : Int
  deriving DecidableEq, Repr

/-- The key-view entries of a layer object. -/
def State.kvEntries (s : State) (l : Nat) : List KvEntry :=
  (upto 0 (s.layerViews l)).map (fun i =>
    let a := s.bindWord 2 l (R.CARD_KVD l (4 + 2 * i))
    let b := s.bindWord 2 l (R.CARD_KVD l (5 + 2 * i))
    ⟨slice a 23 16, slice a 31 24, slice a 7 0, slice a 15 8, signedOf 16 (slice b 15 0), signedOf 16 (slice b 31 16)⟩)

/-- The key-view entries of a stream. -/
def State.streamEntries (s : State) (st : Nat) : List KvEntry :=
  match s.kvLayer st with
  | some l => s.kvEntries l
  | none => []

/-! ## Header mode (R179, R180) -/

/-- A reason other than start-up for firmware header mode (R179). -/
def State.firmwareForced (s : State) : Bool :=
  s.modeNow == 0xA || s.ruleMode == 0xD || s.dec.hpOut || s.get F.DEC_CFG_HDR_FORCE == 1

/-- Every layer of the descriptor has started, or 256 access units have passed (R180). -/
def State.startupOver (s : State) (c : Nat) : Bool :=
  let es := s.streamEntries (s.contextStream c)
  decide ((s.dctx c).count ≥ 256) ||
  (!es.isEmpty && es.all (fun e => (s.dlayer c e.tex).started && (s.dlayer c e.depth).started))

/-- The registers show the header mode of a context. -/
def showMode (c : Nat) (s : State) : State :=
  let x := s.dctx c
  let m := if x.startup then 1 else if x.firmware then 3 else 2
  let fw := s.get F.DEC_STATUS_FWMODE
  (s.set (F.DEC_CTX_STATE_HDR_MODE c) m).set F.DEC_STATUS_FWMODE
    (if fw.testBit c = x.firmware then fw else if x.firmware then fw + 2 ^ c else fw - 2 ^ c)

/-- An access-unit boundary: a change of header mode takes effect (R179, R180). The first switch to hardware header mode since
ARM raises FW_EXIT. -/
def headerMode (c : Nat) (s : State) : State :=
  let x := s.dctx c
  let overrun := x.startup && s.startupOver c
  let fw := (x.startup && !overrun) || s.firmwareForced
  let s := s.setDctx c { x with startup := x.startup && !overrun, firmware := fw, switched := x.switched || !fw }
  showMode c (if !x.switched && !fw then decRaise 203 0 c 0 0 s else s)

/-- STARTED of a context. -/
def showStarted (c : Nat) (s : State) : State :=
  s.set (F.DEC_CTX_STATE_STARTED c) ((s.dctx c).layers.filter (fun e => e.2.started)).length

/-- ARM of a CODED stream: its context starts in firmware header mode (R179, R180). -/
def decArm (c : Nat) (s : State) : State :=
  let s := s.setDctx c { firmware := true, startup := true }
  let s := (s.set (F.DEC_CTX_STATE_AU_COUNT c) 0).set (F.DEC_CTX_STATE_STARTED c) 0
  let a := s.get F.DEC_STATUS_ACTIVE
  let s := s.set F.DEC_STATUS_ACTIVE (if a.testBit c then a else a + 2 ^ c)
  decRaise 202 0 c 0 0 (showMode c s)

/-- POINT of a row task (spec/15_translation_preemption.md R473). -/
def State.rowPoint (s : State) (t : RowTask) : Nat :=
  let p := s.slot t.ctx t.slot
  t.orphan.getD (t.layer + 2 ^ 16 * (t.first / max 1 p.ctbW) + 2 ^ 32 * patternOf 32 p.poc)

/-- A CODED stream leaves ARMED: its context's work is discarded and the context is idle; a row that runs holds its leases
until it ends (spec/15_translation_preemption.md R461). -/
def decDisarm (c : Nat) (s : State) : State :=
  let tasks := (s.dec.tasks.filter (fun t => t.ctx != c || t.state == 1)).map (fun t =>
    if t.ctx = c then { t with ctx := c + 4, orphan := some (s.rowPoint t) } else t)
  let s := { s with dec := { s.dec with ctxs := tabErase s.dec.ctxs c, tasks := tasks } }
  let a := s.get F.DEC_STATUS_ACTIVE
  let f := s.get F.DEC_STATUS_FWMODE
  let s := s.set F.DEC_STATUS_ACTIVE (if a.testBit c then a - 2 ^ c else a)
  let s := s.set F.DEC_STATUS_FWMODE (if f.testBit c then f - 2 ^ c else f)
  s.set (F.DEC_CTX_STATE_HDR_MODE c) 0

/-! ## NAL units (R147, R156, R164) -/

/-- The bytes of a unit in order; none stands for bytes that are missing. -/
def unitRun (next : Nat) : Tab (Option Nat) → List (Option Byte)
  | [] => []
  | (a, v) :: t =>
    let b := v.map (BitVec.ofNat 8)
    if a = next then b :: unitRun (a + 1) t else none :: b :: unitRun (a + 1) t

/-- A byte stream being cut at its start codes: zero bytes that wait, the bytes of the NAL unit in progress (newest first;
none before the first start code), the NAL units found (newest first). -/
structure NalCut where
  zeros : Nat := 0
  cur : Option (List (Option Byte)) := none
  found : List (List (Option Byte)) := []

/-- The NAL unit in progress ends; zero bytes that trail it are no part of it. -/
def NalCut.close (x : NalCut) : List (List (Option Byte)) :=
  match x.cur with
  | some l => if l.isEmpty then x.found else l.reverse :: x.found
  | none => x.found

/-- One byte of an Annex B byte stream: 0x000001 is a start code. -/
def NalCut.take (x : NalCut) (b : Option Byte) : NalCut :=
  if b = some 0 then { x with zeros := x.zeros + 1 }
  else if b = some 1 ∧ 2 ≤ x.zeros then { cur := some [], found := x.close }
  else { x with zeros := 0, cur := x.cur.map (fun l => b :: (List.replicate x.zeros (some 0) ++ l)) }

/-- The NAL units of a CODED unit (R147): those of which any byte is missing are removed (R156). tail says that bytes after the
last may be missing, which the last NAL unit would lack. -/
def nalUnits (data : Tab (Option Nat)) (tail : Bool) : List (List Byte) :=
  let bytes := unitRun 0 data ++ (if tail then [none] else [])
  ((bytes.foldl NalCut.take {}).close.reverse.filter (fun l => l.all (fun b => b.isSome))).map (fun l => l.map (fun b => b.getD 0))

/-- A NAL unit header: forbidden_zero_bit, nal_unit_type, nuh_layer_id, nuh_temporal_id_plus1, and the bit after it. -/
structure NalHeader where
  forbidden : Bool
  type : Nat
  layer : Nat
  temporal : Nat
  firstBit : Bool
  deriving DecidableEq, Repr

/-- The header of a NAL unit. -/
def nalHeader (bs : List Byte) : NalHeader :=
  let v := beAt bs 0 2
  ⟨decide (2 ^ 15 ≤ v), v / 2 ^ 9 % 64, v / 8 % 64, v % 8, decide (128 ≤ beAt bs 2 1)⟩

/-- A VCL NAL unit: a slice segment. -/
def NalHeader.vcl (h : NalHeader) : Bool := decide (h.type ≤ 9) || decide (16 ≤ h.type ∧ h.type ≤ 21)

/-- A released unit of a CODED stream reaches the decoder as one access unit (R147). -/
def decodeUnit (st unit : Nat) (launch : Option Nat) (data : Tab (Option Nat)) (tail : Bool) (s : State) : State :=
  match s.streamContext st with
  | none => s
  | some c =>
    let x := s.dctx c
    let nals := nalUnits data tail
    let layers := ((nals.map nalHeader).filter (fun h => h.vcl && decide (h.layer < 63))).foldl (fun acc h => setInsert h.layer acc) []
    let a : AuState := { order := s.dec.order, unit := unit, launch := launch, data := data, nals := nals, layers := layers, arrived := s.now }
    { (s.setDctx c { x with aus := x.aus ++ [a] }) with
      dec := { (s.setDctx c { x with aus := x.aus ++ [a] }).dec with order := s.dec.order + 1 } }

/-! ## Layers (R162, R167, R180, R181) -/

/-- Layers that depend on one of a list, directly or indirectly; n bounds the chain. -/
def dependents (layers : Tab DecLayer) (n : Nat) (bad : List Nat) : List Nat :=
  match n with
  | 0 => bad
  | n + 1 => dependents layers n
      (bad ++ (layers.filter (fun e => !bad.contains e.1 && e.2.deps.any bad.contains)).map (fun e => e.1))

/-- A layer is unsupported, with every layer that depends on it; the base layer takes all (R162). -/
def unsupport (c l : Nat) (s : State) : State :=
  let x := s.dctx c
  let bad := if l = 0 then x.layers.map (fun e => e.1) else dependents x.layers 63 [l]
  s.setDctx c { x with layers := x.layers.map (fun e => (e.1, if bad.contains e.1 ∧ e.2.state ≠ 0 then { e.2 with state := 4 } else e.2)) }

/-- The layers beyond 64 that the VPSs active in the ARMED contexts name, taken from the highest context and layer down: context
and layer (R167). -/
def State.excessLayers (s : State) : List (Nat × Nat) :=
  let all := ((upto 0 4).filter s.ctxArmed).flatMap (fun c => (s.dlayers c).map (fun l => (c, l)))
  all.reverse.take (all.length - 64)

/-- The layers beyond 64 become unsupported when context c activates a VPS (R167). -/
def layerLimit (c : Nat) (s : State) : State :=
  if s.excessLayers.isEmpty then s
  else s.excessLayers.foldl (fun s e => unsupport e.1 e.2 s) (decRaise 206 0 c 0 0 s)

/-- A VPS becomes active: its layers are known, and those that it does not name have left the stream but for their count since
ARM, the picture under their hold and their place in the sequence (R162, R167, DEC_LAYERSTAT). -/
def activateVps (c id : Nat) (vs : List VpsLayer) (s : State) : State :=
  let x := s.dctx c
  let mk := fun (v : VpsLayer) =>
    let y := tabGet {} x.layers v.id
    (v.id, { y with state := if y.state = 0 then 1 else y.state, isDepth := v.isDepth, deps := v.deps, offsets := v.offsets })
  let gone := (x.layers.filter (fun e => !vs.any (fun v => v.id == e.1))).map (fun e =>
    (e.1, { e.2 with state := 0, deps := [], started := false, skipped := false }))
  let layers := (gone ++ vs.map mk).foldl (fun t e => tabPut {} t e.1 e.2) []
  layerLimit c (s.setDctx c { x with vps := some id, layers := layers })

/-- The stored set of a kind and identifier. -/
def DecCtx.stored (x : DecCtx) (kind id : Nat) : Option ParamContent :=
  (x.sets.find? (fun p => p.kind == kind && p.id == id)).map (fun p => p.content)

/-- A set is active. -/
def DecCtx.activeSet (x : DecCtx) (kind id : Nat) : Bool :=
  if kind = 0 then x.vps == some id
  else if kind = 1 then x.layers.any (fun e => e.2.started && e.2.spsId == id)
  else x.layers.any (fun e => e.2.started && e.2.ppsId == some id)

/-- The kind of a parameter set: 0 VPS, 1 SPS, 2 PPS. -/
def paramKind : ParamContent → Nat
  | .vps _ _ => 0
  | .sps _ _ _ _ _ _ _ _ _ _ _ _ _ _ => 1
  | .pps _ _ _ _ _ _ => 2

/-- A parameter set in a NAL unit of layer l (R183 code 0x02, R187): one that differs from an active set within a coded video
sequence is discarded, one that begins a sequence is not. -/
def paramSet (c id l : Nat) (poc : Int) (outOfRange newSequence : Bool) (content : ParamContent) (s : State) : State :=
  let x := s.dctx c
  let kind := paramKind content
  if outOfRange then decRaise 200 2 c l poc s
  else if x.activeSet kind id ∧ ¬ newSequence ∧ x.stored kind id ≠ some content then s
  else s.setDctx c { x with sets := ⟨kind, id, content⟩ :: x.sets.filter (fun p => !(p.kind == kind && p.id == id)) }

/-- What the parameter sets of a slice give: width, height, crop, chroma, bit depth, CTB size; none where they are not all
stored. -/
structure PicFormat where
  width : Nat
  height : Nat
  cropX : Nat
  cropY : Nat
  cropW : Nat
  cropH : Nat
  chroma : Bool
  bits : Nat
  ctbLog : Nat
  wavefront : Bool
  cols : List Nat
  rows : List Nat
  vpsId : Nat
  spsId : Nat
  supported : Bool
  deriving DecidableEq, Repr

/-- The layers, bit depths and chroma formats (0 for 4:0:0, 1 for 4:2:0) of a profile (R160). -/
def profileFits (profile l : Nat) (isDepth : Bool) (bits chroma : Nat) : Bool :=
  if profile = 1 then l == 0 && !isDepth && bits == 8 && chroma == 1
  else if profile = 2 then l == 0 && !isDepth && (bits == 8 || bits == 10) && chroma == 1
  else if profile = 6 then !isDepth && bits == 8 && chroma == 1
  else if profile = 8 then bits == 8 && chroma == (if isDepth then 0 else 1)
  else false

/-- The format of layer l's pictures under a PPS, none where the PPS, its SPS or its VPS was never received; supported when
it is within R160, R161 and, for context c, R169. -/
def State.picFormat (s : State) (c l pps : Nat) : Option PicFormat :=
  let x := s.dctx c
  match x.stored 2 pps with
  | some (.pps spsId unsup wavefront cols rows _) =>
    match x.stored 1 spsId with
    | some (.sps vpsId profile level w h cx cy cw ch chroma bits ctb unsupS _) =>
      match x.stored 0 vpsId with
      | some (.vps vs _) =>
        let isDepth := vs.any (fun v => v.id == l && v.isDepth)
        let need := planePitch w * h * (if chroma = 0 then 2 else 3)
        let ok := !unsup && !unsupS && profileFits profile l isDepth bits chroma && decide (level ≤ 186) &&
          decide (64 ≤ w) && decide (w ≤ 8192) && decide (64 ≤ h) && decide (h ≤ 8192) && decide (w * h ≤ 35651584) &&
          decide (4 ≤ ctb) && decide (ctb ≤ 6) && decide (need ≤ 2 * 65536 * s.get (F.DEC_CTX_SLOTS_SLOT_UNITS c))
        some ⟨w, h, cx, cy, cw, ch, chroma != 0, bits, ctb, wavefront, cols, rows, vpsId, spsId, ok⟩
      | _ => none
    | _ => none
  | _ => none

/-- Luma samples of a layer's pictures as its SPS gives them. -/
def State.layerSamples (s : State) (c l : Nat) : Nat :=
  match (s.dctx c).stored 1 (s.dlayer c l).spsId with
  | some (.sps _ _ _ w h _ _ _ _ _ _ _ _ _) => w * h
  | _ => 0

/-- Luma samples of a whole access unit: of every layer whose VCL NAL units it carries (R181). -/
def State.auSamples (s : State) (c : Nat) (a : AuState) : Nat := (a.layers.map (s.layerSamples c)).sum

/-- The sum of MSPS of the ARMED contexts (R181). -/
def State.armedRate (s : State) : Nat :=
  (((upto 0 4).filter s.ctxArmed).map (fun c => s.get (F.DEC_CTX_RATE_MSPS c))).sum

/-! ## Access units -/

/-- The pictures of an access unit are complete or absent (R175). -/
def State.auDone (s : State) (c : Nat) (a : AuState) : Bool :=
  a.parsed && a.pics.all (fun e => match e.2 with
    | some n => (s.slot c n).complete
    | none => true)

/-- The picture of a layer in an access unit as it passes to carding; none when it is absent (R175, R197). -/
def State.picOf (s : State) (c : Nat) (a : AuState) (l : Nat) : Option PicRef :=
  match a.pics.find? (fun e => e.1 == l) with
  | some (_, some n) =>
    let p := s.slot c n
    some ⟨n, p.width, p.height, p.cropX, p.cropY, p.cropW, p.cropH, p.bits, decide (p.conc ≠ 0), p.methods, min 0xFFFF p.conc,
      p.substitute, p.tainted, p.hashFail⟩
  | _ => none

/-- The slots of an access unit's pictures that no key view of a descriptor names (R175). -/
def otherSlots (a : AuState) (es : List KvEntry) : List Nat :=
  (a.pics.filter (fun e => !es.any (fun v => v.tex == e.1 || v.depth == e.1))).filterMap (fun e => e.2)

/-- An access unit completes: it may be late, its complete pictures get a carding hold and pass to carding, AU_COUNT counts
(R175, R176). -/
def auComplete (c : Nat) (a : AuState) (s : State) : State :=
  let st := s.contextStream c
  let late := match a.launch with
    | some t => decide (s.q9 + 1000 * s.get (F.DEC_CTX_RATE_LATE_US c) > t)
    | none => false
  let s := if late then decRaise 201 0 c 0 0 (s.bump (F.DEC_CTX_CNT_COUNT c 8)) else s
  let s := s.set (F.DEC_CTX_STATE_AU_COUNT c) ((s.get (F.DEC_CTX_STATE_AU_COUNT c) + 1) % 65536)
  let s := ((s.armedIds 2).filter (fun l => s.layerStream l == st && (s.path 2 l).joined)).foldl
    (fun s l => newInstant a.launch a.unit
      (.coded c ((s.kvEntries l).map (fun e => (s.picOf c a e.tex, s.picOf c a e.depth))) (otherSlots a (s.kvEntries l))) [] l s) s
  let x := s.dctx c
  let s := s.setDctx c { x with aus := x.aus.filter (fun b => b.order != a.order) }
  { s with dec := { s.dec with tasks := s.dec.tasks.filter (fun t => !(t.ctx == c && t.order == a.order)) } }

/-- Every access unit whose pictures are all complete or absent completes, whatever the state of earlier ones (R175). -/
def auSettle (c : Nat) : Nat → State → State
  | 0, s => s
  | n + 1, s =>
    match (s.dctx c).aus.find? (s.auDone c) with
    | some a => auSettle c n (auComplete c a s)
    | none => s

/-- The components of a picture in memory: luma, then Cb and Cr (R168). -/
def State.slotPlanes (s : State) (c n : Nat) : List Plane :=
  let p := s.slot c n
  let base := ((s.slotRange c n).getD (0, 0)).1
  let pitch := planePitch p.width
  let plane := fun (off step w h : Nat) => Plane.mk w ((upto 0 h).flatMap (fun y =>
    (upto 0 w).map (fun x => s.sampleWord (base + off + y * pitch + step * x))))
  plane 0 2 p.width p.height ::
    (if p.chroma then [plane (pitch * p.height) 4 (p.width / 2) (p.height / 2), plane (pitch * p.height + 2) 4 (p.width / 2) (p.height / 2)]
     else [])

/-- A picture's decoded picture hash SEI differs from the hash of its samples (R163); a message of a reserved method is none. -/
def State.hashDiffers (s : State) (c n : Nat) : Bool :=
  let p := s.slot c n
  match p.hash with
  | none => false
  | some (method, value) =>
    match pictureHash method p.bits (s.slotPlanes c n) with
    | none => false
    | some own => own != value

/-- The picture under a layer's decoder hold comes later in decoding order than an access unit (R170). -/
def State.heldLater (s : State) (c l au : Nat) : Bool :=
  match (s.dlayer c l).held with
  | some h => decide (au < (s.slot c h).au)
  | none => false

/-- A picture is complete once all of it has been received or declared lost and every CTU is decoded or concealed: flags,
counters and the decoder hold (R163, R170, R175, R197, R198). -/
def picSettle (c n : Nat) (s : State) : State :=
  let p := s.slot c n
  if p.complete ∨ ¬ p.ended ∨ ¬ (upto 0 p.ctbs).all (fun k => p.ctu k == 1 || p.ctu k == 2) then s
  else
    let tainted := p.refs.any (fun r => let q := s.slot c r; q.conc != 0 || q.substitute || q.tainted)
    let bad := s.flag F.DEC_CFG_HASH_CHECK && p.conc == 0 && s.hashDiffers c n
    let p := { p with complete := true, tainted := tainted, hashFail := bad }
    let s := s.setSlot c n p
    let s := if bad then decRaise 205 0 c p.layer p.poc (s.bump (F.DEC_CTX_CNT_COUNT c 9)) else s
    let s := (s.bumpBy (F.DEC_CTX_CNT_COUNT c 0) p.syntaxErrors).bumpBy (F.DEC_CTX_CNT_COUNT c 1) p.lostSegments
    let s := s.bumpBy (F.DEC_CTX_CNT_COUNT c 6) (bit p.substitute)
    let y := s.dlayer c p.layer
    let s := if p.substitute || s.heldLater c p.layer p.au then s else
      let s := match y.held with
        | some h => s.setSlot c h { s.slot c h with decHeld := false }
        | none => s
      (s.setSlot c n { p with decHeld := true }).setDlayer c p.layer { y with held := some n }
    if p.conc = 0 then s
    else
      let s := (s.bump (F.DEC_CTX_CNT_COUNT c 2)).bumpBy (F.DEC_CTX_CNT_COUNT c 3) p.iv
      let s := (s.bumpBy (F.DEC_CTX_CNT_COUNT c 4) p.temporal).bumpBy (F.DEC_CTX_CNT_COUNT c 5) p.filled
      let y := s.dlayer c p.layer
      decRaise 194 0 c p.layer p.poc (s.setDlayer c p.layer { y with concealed := min 0xFFFF (y.concealed + 1) })

/-- After a change in slot n: the picture and the access units of the context settle. -/
def settle (c n : Nat) (s : State) : State :=
  let s := picSettle c n s
  auSettle c (s.dctx c).aus.length s

/-! ## Loss (R184 to R186, R188) -/

/-- CTUs of a picture that are not decoded are to be concealed; their tasks that have not run are dropped. -/
def loseCtus (c n : Nat) (ks : List Nat) (s : State) : State :=
  s.setSlot c n ((s.slot c n).markCtus ks (· == 0) 3)

/-- Tasks of a slot that satisfy a test are dropped. -/
def dropTasks (c n : Nat) (test : RowTask → Bool) (s : State) : State :=
  { s with dec := { s.dec with tasks := s.dec.tasks.filter (fun t => !(t.ctx == c && t.slot == n && test t)) } }

/-- The rest of the picture in slot n, from a place in decoding order, is concealed, and its tasks there are dropped (R186). -/
def concealRest (c n from_ : Nat) (s : State) : State :=
  let p := s.slot c n
  let s := dropTasks c n (fun t => t.state != 2 && decide (from_ ≤ p.scanPos t.first)) s
  s.setSlot c n (p.markCtus ((upto from_ (p.ctbs - from_)).map p.scanAddr) (fun _ => true) 3)

/-- The slots of a layer's later pictures that are in decoding, up to its next IRAP picture, and whether that one has been
parsed (R186). -/
def State.laterPics (s : State) (c l au : Nat) : List Nat × Bool :=
  let later := (s.dctx c).slots.filter (fun e => e.2.layer == l && decide (au < e.2.au) && e.2.mark != 0 && !e.2.substitute)
  let irap := (later.filter (fun e => e.2.irap)).foldl (fun m e => some (match m with | some k => min k e.2.au | none => e.2.au)) (none : Option Nat)
  ((later.filter (fun e => match irap with | some k => decide (e.2.au < k) | none => true)).map (fun e => e.1), irap.isSome)

/-- A depth layer loses a segment at a place in decoding order: it stops, the rest of its picture and its later pictures up to
the next IRAP picture are concealed (R186). Where that one has been parsed already, the layer has resumed with it. -/
def depthWait (c l n from_ : Nat) (s : State) : State :=
  let p := s.slot c n
  let y := s.dlayer c l
  let s := concealRest c n from_ s
  if y.state = 3 then s
  else
    let (later, resumed) := s.laterPics c l p.au
    let s := later.foldl (fun s m => concealRest c m 0 s) s
    let s := decRaise 196 0 c l p.poc s
    if resumed then decRaise 197 0 c l p.poc s else s.setDlayer c l { s.dlayer c l with state := 3 }

/-- CTUs of a layer's picture, in decoding order, are found lost: a depth layer waits for its next IRAP (R185, R186). -/
def segmentLost (c l n : Nat) (ks : List Nat) (s : State) : State :=
  match ks with
  | [] => s
  | k :: _ =>
    let s := loseCtus c n ks s
    if (s.dlayer c l).isDepth ∧ (s.dlayer c l).state = 2 then depthWait c l n ((s.slot c n).scanPos k) s else s

/-- A gap in the slice segments up to a place in decoding order (R185): a segment is missing (code 0x08) unless an error
explains the gap. -/
def gapTo (c l n place : Nat) (s : State) : State :=
  let y := s.dlayer c l
  if place ≤ y.nextCtu then s
  else
    let p := s.slot c n
    let ks := (upto y.nextCtu (place - y.nextCtu)).map p.scanAddr
    let s := s.setDlayer c l { y with erred := false, nextCtu := place }
    let s := if y.erred ∨ y.state = 3 then s
      else decRaise 193 8 c l p.poc (s.setSlot c n { p with lostSegments := p.lostSegments + 1 })
    segmentLost c l n ks s

/-- A layer's picture ends: the CTUs after the last received are lost (R185). -/
def endPicture (c l : Nat) (s : State) : State :=
  let y := s.dlayer c l
  match y.current with
  | none => s.setDlayer c l { y with absent := false, lastAddr := none, nextCtu := 0, indep := false, erred := false }
  | some n =>
    let s := gapTo c l n (s.slot c n).ctbs s
    let s := s.setSlot c n { s.slot c n with ended := true }
    let s := s.setDlayer c l { s.dlayer c l with current := none, absent := false, lastAddr := none, nextCtu := 0, indep := false, erred := false }
    picSettle c n s

/-- A picture enters slot n: its access unit, format, layer, POC and mark, and the errors that came before it opened. -/
def openSlot (c n l au : Nat) (irap : Bool) (poc : Int) (mark : Nat) (f : PicFormat) (s : State) : State :=
  let y := s.dlayer c l
  let s := s.setSlot c n { layer := l, poc := poc, au := au, irap := irap, mark := mark, width := f.width, height := f.height
                           cropX := f.cropX, cropY := f.cropY, cropW := f.cropW, cropH := f.cropH, chroma := f.chroma
                           bits := f.bits, ctbLog := f.ctbLog, cols := f.cols, rows := f.rows, syntaxErrors := y.syntaxErrors }
  s.setDlayer c l { y with syntaxErrors := 0 }

/-- The access unit in parsing lists a picture of a layer, or its absence. -/
def listPic (c l : Nat) (n : Option Nat) (s : State) : State :=
  match s.parseAu c with
  | none => s
  | some a => if a.pics.any (fun e => e.1 == l) then s else s.setAu c { a with pics := a.pics ++ [(l, n)] }

/-- The format of a layer's last picture parameters. -/
def State.layerFormat (s : State) (c l : Nat) : Option PicFormat := (s.dlayer c l).ppsId.bind (s.picFormat c l)

/-- The POC of an access unit, from a picture that it has. -/
def State.auPoc (s : State) (c : Nat) (a : AuState) : Int :=
  match a.pics.findSome? (fun e => e.2) with
  | some n => (s.slot c n).poc
  | none => 0

/-- An access unit lacks the picture of a started layer: a picture with every CTU to be concealed, mark short-term (R188). -/
def buildMissing (c l : Nat) (s : State) : State :=
  match s.parseAu c, s.layerFormat c l, s.takeSlot c with
  | some a, some f, some n =>
    let s := openSlot c n l a.order false (s.auPoc c a) 1 f s
    let p := s.slot c n
    listPic c l (some n) (s.setSlot c n { p.markCtus (upto 0 p.ctbs) (fun _ => true) 3 with ended := true })
  | some a, some _, none => listPic c l none (decRaise 198 0 c l (s.auPoc c a) s)
  | _, _, _ => listPic c l none s

/-- Syntax errors of a layer that no picture of the access unit took count at its end (R198). -/
def flushErrors (c l : Nat) (s : State) : State :=
  let y := s.dlayer c l
  (s.setDlayer c l { y with syntaxErrors := 0 }).bumpBy (F.DEC_CTX_CNT_COUNT c 0) y.syntaxErrors

/-- The parsed access unit ends: pictures end, missing ones are built, an access unit without VCL NAL units is counted
(R185, R188), and the boundary is passed (R180). -/
def endAu (c : Nat) (s : State) : State :=
  match s.parseAu c with
  | none => s
  | some a =>
    let s := if a.vcl then
        let s := (s.dlayers c).foldl (fun s l => endPicture c l s) s
        if a.dropped then s else
          ((s.dlayers c).filter (fun l =>
            let y := s.dlayer c l
            y.started && (y.state == 2 || y.state == 3) && !a.pics.any (fun e => e.1 == l))).foldl (fun s l =>
              match s.parseAu c with
              | some b => if b.pics.any (fun e => e.1 == l) then s else buildMissing c l s
              | none => s) s
      else decRaise 207 10 c 0 0 s
    let s := (s.dctx c).layers.foldl (fun s e => flushErrors c e.1 s) s
    let s := match s.parseAu c with
      | some b => s.setAu c { b with parsed := true }
      | none => s
    let x := s.dctx c
    let s := s.setDctx c { x with count := x.count + 1, segments := 0 }
    let s := headerMode c s
    auSettle c (s.dctx c).aus.length s

/-- A coded video sequence begins with an IRAP picture of the base layer that is IDR or BLA, or the first, or the first after an
end of sequence (R164, R187). -/
def State.beginsSequence (s : State) (c : Nat) (h : NalHeader) : Bool :=
  h.layer == 0 && (decide (16 ≤ h.type ∧ h.type ≤ 20) || (h.type == 21 && (s.dlayer c 0).fresh))

/-- Parsing of an access unit begins: a boundary (R179, R180). -/
def beginAu (c : Nat) (s : State) : State :=
  match s.parseAu c with
  | none => s
  | some a => if a.begun then s else
    let s := headerMode c s
    s.setAu c { a with begun := true, firmware := (s.dctx c).firmware
                       begins := a.nals.any (fun n => s.beginsSequence c (nalHeader n)) }

/-! ## Slice segments -/

/-- A slice segment NAL unit: what parsing gives, with the layer, the type and the first bit that its bytes show. -/
structure Slice extends SliceNal where
  /-- its header holds a value out of range -/
  headerBad : Bool
  layer : Nat
  irap : Bool
  /-- an IDR or BLA picture -/
  clean : Bool
  rasl : Bool
  firstInPicture : Bool

/-- A slice segment behind its NAL unit header. -/
def NalHeader.slice (h : NalHeader) (x : SliceNal) (bad : Bool) : Slice :=
  { x with headerBad := bad, layer := h.layer, irap := decide (16 ≤ h.type), clean := decide (16 ≤ h.type ∧ h.type ≤ 20)
           rasl := h.type == 8 || h.type == 9, firstInPicture := h.firstBit }

/-- A syntax error (R183) in the picture of slot n: source 192; the counter takes it when the picture completes (R198). -/
def syntaxError (code c n : Nat) (s : State) : State :=
  let p := s.slot c n
  decRaise 192 code c p.layer p.poc (s.setSlot c n { p with syntaxErrors := p.syntaxErrors + 1 })

/-- A syntax error of a layer, in its picture that is being received or in one that has not been opened. -/
def layerError (code c l : Nat) (poc : Int) (s : State) : State :=
  let y := s.dlayer c l
  match y.current with
  | some n => syntaxError code c n s
  | none => decRaise 192 code c l poc (s.setDlayer c l { y with syntaxErrors := y.syntaxErrors + 1 })

/-- A slice segment is stopped by an error in its header: its CTUs will be found without it (R184). -/
def headerError (code c : Nat) (x : Slice) (s : State) : State :=
  let y := s.dlayer c x.layer
  layerError code c x.layer x.poc (s.setDlayer c x.layer { y with erred := true, indep := y.indep && x.dependent })

/-- The marks of a layer's slots follow the reference picture set of its new picture (R170). -/
def markSlots (c l : Nat) (rps : List (Int × Nat × Bool)) (s : State) : State :=
  let x := s.dctx c
  s.setDctx c { x with slots := x.slots.map (fun e =>
    if e.2.layer = l ∧ e.2.mark ≠ 0 then
      (e.1, { e.2 with mark := match rps.find? (fun r => r.1 == e.2.poc) with | some r => r.2.1 | none => 0 })
    else e) }

/-- The slot of a layer's picture with a POC and a mark. -/
def State.slotOf (s : State) (c l : Nat) (poc : Int) : Option Nat :=
  ((s.dctx c).slots.find? (fun e => e.2.layer == l && e.2.poc == poc && e.2.mark != 0)).map (fun e => e.1)

/-- The layer's picture in a slot with the greatest POC below a missing one, else with the least above it (R196). -/
def State.nearestPic (s : State) (c l : Nat) (poc : Int) : Option Nat :=
  let own := (s.dctx c).slots.filter (fun e => e.2.layer == l && s.slotKept c e.1)
  let best := fun (l : List (Nat × SlotPic)) (better : Int → Int → Bool) => (l.foldl (fun b e => match b with
    | none => some e
    | some x => if better e.2.poc x.2.poc then some e else b) none).map (fun e => e.1)
  let below := own.filter (fun e => decide (e.2.poc < poc))
  if below.isEmpty then best (own.filter (fun e => decide (poc < e.2.poc))) (fun a b => decide (a < b))
  else best below (fun a b => decide (a > b))

/-- Substitutes for the pictures that a reference picture set names and no slot holds (R196). -/
def substitutes (c l : Nat) (a : AuState) (rps : List (Int × Nat × Bool)) (f : PicFormat) (s : State) : State :=
  rps.foldl (fun s r =>
    if (s.slotOf c l r.1).isSome then s
    else
      let s := decRaise 195 9 c l r.1 s
      match s.takeSlot c with
      | none => s
      | some n =>
        let source := s.nearestPic c l r.1
        let y := s.dlayer c l
        let s := openSlot c n l a.order false r.1 r.2.1 f s
        let s := s.setDlayer c l y
        let p := s.slot c n
        s.setSlot c n { p.markCtus (upto 0 p.ctbs) (fun _ => true) 3 with
          ended := true, substitute := true, source := source, syntaxErrors := 0 }) s

/-- The picture of a reference layer in an access unit. -/
def auSlot (a : AuState) (l : Nat) : Option Nat := (a.pics.find? (fun e => e.1 == l)).bind (fun e => e.2)

/-- An unsupported layer is taken up again at an IRAP picture with supported parameter sets (R162): the layers it depends on and
the base layer are supported, and it is not among the layers beyond 64 (R167). -/
def State.readmits (s : State) (c : Nat) (x : Slice) (f : PicFormat) : Bool :=
  x.irap && f.supported && !(s.dlayer c x.layer).deps.any (fun d => (s.dlayer c d).state == 4) &&
  (x.layer == 0 || (s.dlayer c 0).state != 4) && !s.excessLayers.contains (c, x.layer)

/-- A layer starts, resumes or continues at a slice of a new picture: whether its picture is decoded (R162, R180, R181,
R186). The answer is 0 absent, 1 decoded, 2 wholly concealed. -/
def layerGate (c : Nat) (x : Slice) (f : PicFormat) (a : AuState) (s : State) : Nat × State :=
  let l := x.layer
  let y := s.dlayer c l
  let y := if y.state = 4 then { y with state := if y.started then 2 else 1 } else y
  if ¬ f.supported then (0, decRaise 199 0 c l x.poc (unsupport c l (s.setDlayer c l y)))
  else
    let starts := !y.started && x.irap && y.deps.all (fun d => (s.dlayer c d).started)
    let y := if x.irap then { y with spsId := f.spsId, noRasl := x.clean || y.fresh || starts, fresh := false } else y
    let y := { y with ppsId := some x.ppsId }
    let y := if starts then { y with started := true, state := 2 } else y
    let s := showStarted c (s.setDlayer c l y)
    if ¬ y.started ∨ (x.rasl ∧ y.noRasl) then (0, s)
    else
      let n := f.width * f.height
      let overrun := a.firmware && !(s.dctx c).startup && l != 0 &&
        (decide (s.armedRate > 2000 ∧ (a.used + n) * s.armedRate > 2000 * s.auSamples c a) ||
         y.deps.any (fun d => (s.dlayer c d).skipped))
      let s := match s.parseAu c with
        | some b => s.setAu c { b with used := b.used + n }
        | none => s
      if overrun ∨ (y.skipped ∧ a.firmware) then
        (0, decRaise 204 0 c l x.poc ((s.setDlayer c l { y with skipped := true, state := 5 }).bump (F.DEC_CTX_CNT_COUNT c 7)))
      else if y.skipped then (0, s)
      else if y.state = 3 then
        if x.irap then (1, decRaise 197 0 c l x.poc (s.setDlayer c l { y with state := 2 })) else (2, s)
      else (1, s)

/-- The first IRAP access unit after firmware header mode restarts the skipped layers (R181). -/
def restartSkipped (c : Nat) (a : AuState) (x : Slice) (s : State) : State :=
  if x.layer = 0 ∧ x.irap ∧ ¬ a.firmware then
    let d := s.dctx c
    s.setDctx c { d with layers := d.layers.map (fun e =>
      (e.1, if e.2.skipped then { e.2 with skipped := false, started := false, state := 1 } else e.2)) }
  else s

/-- The first slice segment of a picture with its layer admitted: marks, substitutes, slot (R170 to R172, R196). False when it
waits for a slot. -/
def newPicture (c : Nat) (x : Slice) (f : PicFormat) (how : Nat) (again : Bool) (s : State) : Bool × State :=
  let l := x.layer
  let s := markSlots c l x.rps s
  match s.parseAu c with
  | none => (true, s)
  | some a =>
    let s := if how = 1 ∧ ¬ again then substitutes c l a x.rps f s else s
    match s.takeSlot c with
    | some n =>
      let s := listPic c l (some n) (openSlot c n l a.order x.irap x.poc 1 f s)
      let d := s.dctx c
      let s := s.setDctx c { d with slotWait := none }
      let y := s.dlayer c l
      let s := s.setDlayer c l { y with current := some n, nextCtu := 0, lastAddr := none, indep := false }
      let p := s.slot c n
      (true, if how = 2 then s.setSlot c n (p.markCtus (upto 0 p.ctbs) (fun _ => true) 3) else s)
    | none =>
      let d := s.dctx c
      (false, s.setDctx c { d with slotWait := some (d.slotWait.getD (s.now + 5000000, l)) })

/-- The slots of the pictures in a slice segment's reference lists: temporal, and inter-layer with the margin in CTU rows (R173). -/
def State.segmentRefs (s : State) (c : Nat) (a : AuState) (x : Slice) : List Nat × List (Nat × Nat) :=
  let offsets := (s.dlayer c x.layer).offsets
  ((x.rps.filter (fun r => r.2.2)).filterMap (fun r => s.slotOf c x.layer r.1),
   x.interLayer.filterMap (fun l => (auSlot a l).map (fun n => (n, tabGet 1 offsets l))))

/-- The row tasks of a slice segment (R173): its picture refers to what the segment refers to. -/
def rowTasks (c n : Nat) (a : AuState) (x : Slice) (wavefront : Bool) (s : State) : State :=
  let d := s.dctx c
  let seg := d.segments
  let p := s.slot c n
  let (refs, inter) := s.segmentRefs c a x
  let mk := fun (e : Nat × Nat × Nat) =>
    let tile := p.tileOf e.2.1
    ({ ctx := c, order := a.order, layer := x.layer, slot := n, segment := seg, row := e.1, first := e.2.1, count := e.2.2
       tile := tile, opens := (x.rows.take e.1).all (fun r => p.tileOf r.1 != tile), wavefront := wavefront
       dependent := x.dependent, refs := refs, interLayer := inter } : RowTask)
  let ts := ((upto 0 x.rows.length).zip x.rows).map mk
  let s := s.setSlot c n { p with refs := (refs ++ inter.map (fun e => e.1)).foldl (fun acc r => setInsert r acc) p.refs }
  let s := s.setDctx c { s.dctx c with segments := seg + 1 }
  { s with dec := { s.dec with tasks := s.dec.tasks ++ ts } }

/-- The CTUs of a slice segment in decoding order. -/
def segmentCtus (x : Slice) : List Nat := x.rows.flatMap (fun r => upto r.1 r.2)

/-- A slice segment of the picture in slot n (R183 to R186). -/
def segment (c n : Nat) (x : Slice) (wavefront : Bool) (s : State) : State :=
  let l := x.layer
  let y := s.dlayer c l
  let p := s.slot c n
  let place := p.scanPos x.address
  let past : Bool := match y.lastAddr with
    | some k => decide (place ≤ k)
    | none => false
  if past || decide (x.address ≥ p.ctbs) then headerError 4 c x s
  else
    let s := gapTo c l n place s
    let y := s.dlayer c l
    let after := (segmentCtus x).foldl (fun m k => max m (p.scanPos k + 1)) (place + 1)
    let missing := x.rps.any (fun r => r.2.2 && (s.slotOf c l r.1).isNone)
    let s := s.setDlayer c l { y with lastAddr := some place, nextCtu := max y.nextCtu after, erred := false
                                      indep := if x.dependent then y.indep else true }
    if x.dependent ∧ ¬ y.indep then
      segmentLost c l n (segmentCtus x) (decRaise 193 7 c l p.poc s)
    else if missing then segmentLost c l n (segmentCtus x) s
    else if (s.dlayer c l).state = 3 then loseCtus c n (segmentCtus x) s
    else
      match s.parseAu c with
      | some a => rowTasks c n a x wavefront s
      | none => s

/-- The VPS that the base layer names becomes active as its sequence begins. -/
def sequenceStarts (c : Nat) (h : NalHeader) (x : Slice) (s : State) : State :=
  match s.picFormat c 0 x.ppsId with
  | none => s
  | some f =>
    match if s.beginsSequence c h then (s.dctx c).stored 0 f.vpsId else none with
    | some (.vps vs _) => activateVps c f.vpsId vs s
    | _ => s

/-- A slice segment of a layer that is not unsupported, or that is taken up again (R162). -/
def admittedSlice (c : Nat) (x : Slice) (f : PicFormat) (a : AuState) (s : State) : Bool × State :=
  let y := s.dlayer c x.layer
  let s := if x.firstInPicture ∧ (y.current.isSome ∨ y.absent) ∧ (s.dctx c).slotWait.isNone then endPicture c x.layer s else s
  let y := s.dlayer c x.layer
  match y.current with
  | some n => (true, segment c n x f.wavefront s)
  | none =>
    if y.absent then (true, s)
    else
      let again := (s.dctx c).slotWait.isSome
      let (how, s) := if again then (if y.state = 3 then 2 else 1, s) else layerGate c x f a s
      if how = 0 then (true, listPic c x.layer none (s.setDlayer c x.layer { s.dlayer c x.layer with absent := true }))
      else
        let (ok, s) := newPicture c x f how again s
        match ok, (s.dlayer c x.layer).current with
        | true, some n => (true, segment c n x f.wavefront s)
        | _, _ => (false, s)

/-- A slice segment NAL unit. True unless it waits for a slot and is to be presented again (R172). NAL units of an unsupported
layer are discarded, whatever they hold, until an IRAP picture takes the layer up (R162). -/
def sliceNal (c : Nat) (h : NalHeader) (nal : SliceNal) (bad : Bool) (s : State) : Bool × State :=
  let x := h.slice nal bad
  match s.parseAu c with
  | none => (true, s)
  | some a =>
    let s := s.setAu c { a with vcl := true }
    if a.dropped then (true, s)
    else if ¬ (s.dctx c).baseSeen ∧ ¬ (x.layer = 0 ∧ x.irap) then (true, s.setAu c { a with vcl := true, dropped := true })
    else
      let d := s.dctx c
      let s := restartSkipped c a x (s.setDctx c { d with baseSeen := true })
      let s := if x.headerBad ∨ d.slotWait.isSome ∨ ¬ (x.firstInPicture ∨ d.vps = none) then s else sequenceStarts c h x s
      let y := s.dlayer c x.layer
      match if x.headerBad then none else s.picFormat c x.layer x.ppsId with
      | none => (true, if y.state = 4 ∨ (y.state = 0 ∧ (s.dctx c).vps.isSome) then s else headerError 3 c x s)
      | some f =>
        if y.state = 0 ∨ (y.state = 4 ∧ ¬ s.readmits c x f) then (true, s)
        else admittedSlice c x f a s

/-- What parsing gives fits the type of its NAL unit. -/
def NalHeader.fits (h : NalHeader) : NalBody → Bool
  | .none => !h.vcl && !decide (32 ≤ h.type ∧ h.type ≤ 34)
  | .param _ content => h.type == 32 + paramKind content
  | .slice _ => h.vcl
  | .hash _ _ => h.type == 39 || h.type == 40

/-- A NAL unit whose header is broken (R183 code 0x01): what its layer lacks has an error to explain it (R184). -/
def brokenNal (c : Nat) (h : NalHeader) (a : AuState) (s : State) : State :=
  layerError 1 c h.layer (s.auPoc c a) (s.setDlayer c h.layer { s.dlayer c h.layer with erred := true })

/-- An end of sequence NAL unit of a layer, or the end of the bitstream for all: the next picture begins a sequence (R164). -/
def sequenceEnds (c : Nat) (test : Nat → Bool) (s : State) : State :=
  let d := s.dctx c
  s.setDctx c { d with layers := d.layers.map (fun e => (e.1, if test e.1 then { e.2 with fresh := true } else e.2)) }

/-- One NAL unit with a sound header below layer 63; bad where a value behind the header is out of range. True unless it waits for
a slot. -/
def nalBody (c : Nat) (h : NalHeader) (body : NalBody) (bad : Bool) (s : State) : Bool × State :=
  match body with
  | .param id content =>
    match s.parseAu c with
    | some a => (true, paramSet c id h.layer (s.auPoc c a) bad a.begins content s)
    | none => (true, s)
  | .slice x => sliceNal c h x bad s
  | .hash method value =>
    match (s.dlayer c h.layer).current with
    | some n => (true, s.setSlot c n { s.slot c n with hash := some (method, value) })
    | none => (true, s)
  | .none =>
    (true, if h.type = 36 then sequenceEnds c (· == h.layer) s else if h.type = 37 then sequenceEnds c (fun _ => true) s else s)

/-- The first NAL unit that waits in the access unit in parsing has been dealt with; after the last the access unit ends. -/
def nalDone (c : Nat) (s : State) : State :=
  match s.parseAu c with
  | none => s
  | some a =>
    let s := s.setAu c { a with nals := a.nals.drop 1 }
    if a.nals.length ≤ 1 then endAu c s else s

/-- NAL_UNIT_PARSE: the next NAL unit of the access unit in parsing, with what H.265 parsing gives behind its header (R164). An
access unit in which none is left ends. A body that does not fit the NAL unit's type changes nothing. -/
def nalParse (c : Nat) (body : NalBody) (bad : Bool) (s : State) : State :=
  match s.parseAu c with
  | none => s
  | some a =>
    match a.nals with
    | [] => nalDone c (beginAu c s)
    | bs :: _ =>
      let h := nalHeader bs
      if bs.length < 2 ∨ h.forbidden ∨ h.temporal = 0 then
        let s := beginAu c s
        nalDone c (brokenNal c h a s)
      else if h.layer = 63 then nalDone c (beginAu c s)
      else if ¬ h.fits body then s
      else
        let (done, s) := nalBody c h body bad (beginAu c s)
        if done then nalDone c s else s

/-- SLOT_WAIT_TIMEOUT (R172): the picture that waits is absent, and its first slice segment is passed over. -/
def slotTimeout (c : Nat) (s : State) : State :=
  let d := s.dctx c
  match d.slotWait with
  | some (t, l) =>
    if s.now < t then s
    else
      let poc := match s.parseAu c with | some a => s.auPoc c a | none => 0
      let s := s.setDctx c { d with slotWait := none }
      let s := s.setDlayer c l { s.dlayer c l with absent := true }
      nalDone c (decRaise 198 0 c l poc (listPic c l none s))
  | none => s

/-! ## Row tasks (R173, R174) -/

/-- The order of decoding of two tasks (R174). -/
def taskBefore (a b : RowTask) : Bool :=
  decide (a.order < b.order) || (a.order == b.order && (decide (a.layer < b.layer) || (a.layer == b.layer &&
    (decide (a.segment < b.segment) || (a.segment == b.segment && decide (a.row < b.row))))))

/-- The engines in service. -/
def State.engines (s : State) : List Nat := (upto 0 8).filter (fun e => (s.get F.DEC_STATUS_ENGINES).testBit e)

/-- The task that an engine runs. -/
def State.engineTask (s : State) (e : Nat) : Option RowTask := s.dec.tasks.find? (fun t => t.state == 1 && t.engine == e)

/-- A row far enough for the row below: complete, or its first two CTUs done, which past2 says of the engines that run one. -/
def farEnough (past2 : List (Fin 8)) (t : RowTask) : Bool := t.state == 2 || (t.state == 1 && past2.any (fun e => e.val == t.engine))

/-- The row that a task waits on: the row above it in its segment and tile, or, for the first row of a dependent segment, the
last row of the preceding segment of its picture. A tile's first row in a segment waits on no other tile. -/
def State.rowBefore (s : State) (t : RowTask) : Option RowTask :=
  s.dec.tasks.foldl (fun best u =>
    if u.ctx = t.ctx ∧ u.slot = t.slot ∧ u.order = t.order ∧
        (if t.opens then t.row = 0 ∧ t.dependent ∧ u.segment < t.segment
         else u.segment = t.segment ∧ u.tile = t.tile ∧ u.row < t.row) then
      match best with
      | none => some u
      | some b => if taskBefore b u then some u else best
    else best) none

/-- The conditions on earlier rows (R173). -/
def State.rowsReady (s : State) (past2 : List (Fin 8)) (t : RowTask) : Bool :=
  match s.rowBefore t with
  | none => true
  | some u => if t.wavefront then farEnough past2 u else u.state == 2

/-- A reference layer picture is complete up to the CTU row that holds a luma line and a margin of rows below it (R173). -/
def State.refRows (s : State) (c n line margin : Nat) : Bool :=
  let p := s.slot c n
  (upto 0 (min p.ctbs ((line / 2 ^ p.ctbLog + margin + 1) * p.ctbW))).all (fun k => p.ctu k == 1 || p.ctu k == 2)

/-- The last luma line of a task's CTU row. -/
def State.lastLine (s : State) (t : RowTask) : Nat :=
  let p := s.slot t.ctx t.slot
  min p.height ((t.first / max 1 p.ctbW + 1) * 2 ^ p.ctbLog) - 1

/-- A row task is ready (R173). -/
def State.taskReady (s : State) (past2 : List (Fin 8)) (t : RowTask) : Bool :=
  t.state == 0 && s.rowsReady past2 t && t.refs.all (fun r => (s.slot t.ctx r).complete) &&
  t.interLayer.all (fun r => s.refRows t.ctx r.1 (s.lastLine t) r.2)

/-- The idle engine that takes a task: a later row without wavefront stays on its engine while that is in service. -/
def State.engineFor (s : State) (t : RowTask) : Option Nat :=
  let idle := s.engines.filter (fun e => (s.engineTask e).isNone && t.avoid != some e)
  match s.rowBefore t with
  | some u => if ¬ t.opens ∧ ¬ t.wavefront ∧ t.avoid.isNone ∧ s.engines.contains u.engine then
      idle.find? (· == u.engine) else idle.head?
  | none => idle.head?

/-- A task replaced. -/
def setTask (t : RowTask) (s : State) : State :=
  { s with dec := { s.dec with tasks := s.dec.tasks.map (fun u =>
    if u.ctx = t.ctx ∧ u.order = t.order ∧ u.segment = t.segment ∧ u.row = t.row ∧ u.slot = t.slot then t else u) } }

/-- ROW_TASK_DISPATCH: an idle engine takes the ready row task that comes first in decoding order (R174); a row that was
parked resumes, or is lost where its save area fails its checks (spec/15_translation_preemption.md R467, R474). -/
def rowDispatch (past2 : List (Fin 8)) (s : State) : State :=
  let ready := s.dec.tasks.filter (fun t => s.taskReady past2 t && (s.engineFor t).isSome)
  match ready with
  | [] => s
  | t :: rest =>
    let t := rest.foldl (fun b u => if taskBefore u b then u else b) t
    match s.engineFor t with
    | none => s
    | some e =>
      let (ok, s) := resumeAt (1 + t.ctx % 4) (s.rowPoint t) s
      if ok then setTask { t with state := 1, engine := e, holds := s.holdsOn 1 (s.contextStream t.ctx) } s
      else settle t.ctx t.slot (segmentLost t.ctx t.layer t.slot (upto t.first t.count)
        (dropTasks t.ctx t.slot (fun u => u == t) s))

/-- A picture that a row task reads or writes lies in a poisoned word. -/
def State.rowPoison (s : State) (t : RowTask) : Bool :=
  (t.slot :: (s.slot t.ctx t.slot).refs).any (fun n => match s.slotRange t.ctx n with
    | some (a, b) => s.hbmPoisoned a b
    | none => false)

/-- An error found in a segment at a CTU: that CTU, the BACKOFF CTUs before it in the segment and all after it are concealed, the
CTUs before those are kept (R184, R186). -/
def segmentError (t : RowTask) (code ctu : Nat) (s : State) : State :=
  let c := t.ctx
  let s := syntaxError code c t.slot s
  let p := s.slot c t.slot
  let mine := fun (u : RowTask) => u.segment == t.segment && u.ctx == c && u.slot == t.slot
  let all := (s.dec.tasks.filter mine).flatMap (fun u => upto u.first u.count)
  let places := all.map p.scanPos
  let start := places.foldl min (p.scanPos ctu)
  let from_ := max start (p.scanPos ctu - s.get F.DEC_CFG_BACKOFF)
  let ks := all.filter (fun k => decide (from_ ≤ p.scanPos k))
  let kept := (upto t.first t.count).filter (fun k => decide (p.scanPos k < from_))
  let s := s.setSlot c t.slot ((p.markCtus kept (fun _ => true) 1).markCtus ks (fun _ => true) 3)
  let s := dropTasks c t.slot (fun u => u.segment == t.segment && u.state != 2 && decide (t.row ≤ u.row)) s
  if (s.dlayer c t.layer).isDepth then depthWait c t.layer t.slot from_ s else s

/-- The place of a sample in its slot (R168): none outside the picture's planes. -/
def SlotPic.sampleOffset (p : SlotPic) (e : Sample) : Option Nat :=
  let pitch := planePitch p.width
  if e.plane = 0 then
    if e.x < p.width ∧ e.y < p.height then some (e.y * pitch + 2 * e.x) else none
  else if p.chroma ∧ e.x < p.width / 2 ∧ e.y < p.height / 2 then
    some (pitch * p.height + e.y * pitch + 4 * e.x + 2 * (e.plane.val - 1))
  else none

/-- The CTU of a sample. -/
def SlotPic.sampleCtu (p : SlotPic) (e : Sample) : Nat :=
  let k := if e.plane = 0 then 1 else 2
  k * e.y / 2 ^ p.ctbLog * p.ctbW + k * e.x / 2 ^ p.ctbLog

/-- The decoded samples of a row are written, each as a 16-bit word in its plane (R168); CTUs that are or will be concealed keep
what concealment gives them. -/
def writeSamples (c n : Nat) (samples : List Sample) (s : State) : State :=
  match s.slotRange c n with
  | none => s
  | some (a, _) =>
    let p := s.slot c n
    samples.foldl (fun s e => match if p.ctu (p.sampleCtu e) < 2 then p.sampleOffset e else none with
      | some off => s.hbmWrite (a + off) (leBytes (e.value % 1024) 2)
      | none => s) s

/-- ROW_TASK_COMPLETE: the row that an engine runs is complete, or ends in an error (R173, R183, R184); a stale lease
discards it, a poisoned word loses it (spec/15_translation_preemption.md R466, R467). -/
def rowComplete (e : Nat) (r : RowResult) (s : State) : State :=
  match s.engineTask e with
  | none => s
  | some t =>
    let c := t.ctx
    match s.stale t.holds with
    | some le =>
      dropTasks c t.slot (fun u => u == t) (xlatFault (1 + c % 4) 3 (some le) (s.leaseAddress le) (s.rowPoint t) s)
    | none =>
      if t.orphan.isSome then dropTasks c t.slot (fun u => u == t) s
      else
      let s := writeSamples c t.slot r.samples s
      if s.rowPoison t then
        let s := xlatFault (1 + c) 4 none 0 (s.rowPoint t) s
        let s := dropTasks c t.slot (fun u => u == t) s
        settle c t.slot (segmentLost c t.layer t.slot (upto t.first t.count) s)
      else match r.error with
        | some (code, ctu) => settle c t.slot (segmentError t code ctu s)
        | none =>
          let p := s.slot c t.slot
          let s := s.setSlot c t.slot (p.markCtus (upto t.first t.count) (· == 0) 1)
          settle c t.slot (setTask { t with state := 2, holds := [] } s)

/-- DECODE_PARITY_ERROR (R177): the row is reissued to another engine; a second error in an epoch takes the engine out of
service, which parks the row (spec/15_translation_preemption.md R468). -/
def decParity (e : Nat) (s : State) : State :=
  match s.engineTask e with
  | none => s
  | some t =>
    let s := if t.orphan.isSome then dropTasks t.ctx t.slot (fun u => u == t) s
      else setTask { t with state := 0, avoid := some e, holds := [] } s
    if s.dec.struck.contains e then
      let s := if t.orphan.isSome then s else parkEngine (1 + t.ctx % 4) (s.rowPoint t) s
      decRaise (208 + e) 0 (t.ctx % 4) t.layer (s.slot t.ctx t.slot).poc (s.set F.DEC_STATUS_ENGINES (s.get F.DEC_STATUS_ENGINES - 2 ^ e))
    else { s with dec := { s.dec with struck := setInsert e s.dec.struck } }

/-- HP_PARITY_ERROR (R182): its log entry names the context whose access unit is being parsed (R199). -/
def hpParity (s : State) : State :=
  let c := ((upto 0 4).find? (fun c => match s.parseAu c with | some a => a.begun | none => false)).getD 0
  decRaise 216 0 c 0 0 { s with dec := { s.dec with hpOut := true } }

/-! ## Concealment (R189 to R196) -/

/-- The decode entry of a layer: as a texture or as a depth. -/
def entryOf (es : List KvEntry) (isDepth : Bool) (l : Nat) : Option KvEntry :=
  es.find? (fun e => if isDepth then e.depth == l else e.tex == l)

/-- Layer a depends on layer b, directly or indirectly. -/
def dependsOn (layers : Tab DecLayer) (a b : Nat) : Bool := (dependents layers 63 [b]).contains a && a != b

/-- The picture of a layer beside the picture in slot n: of the same access unit, or of the same POC for a substitute. -/
def State.besideOf (s : State) (c n l : Nat) : Option Nat :=
  let p := s.slot c n
  if p.substitute then
    ((s.dctx c).slots.find? (fun e => e.2.layer == l && e.2.poc == p.poc && e.1 != n && s.slotKept c e.1)).map (fun e => e.1)
  else match (s.dctx c).aus.find? (fun a => a.pics.any (fun e => e.2 == some n)) with
    | some a => auSlot a l
    | none => none

/-- A source of inter-view borrowing: its entry, its slot, the slot of its depth picture. -/
structure Borrow where
  layer : Nat
  entry : KvEntry
  slot : Nat
  depthSlot : Nat
  deriving DecidableEq, Repr

/-- The layers of the stream that can qualify as sources for a picture, with their entries (R190). -/
def State.borrowEntries (s : State) (c n : Nat) : List (Nat × KvEntry) :=
  let p := s.slot c n
  let es := s.streamEntries (s.contextStream c)
  let isDepth := (s.dlayer c p.layer).isDepth
  match entryOf es isDepth p.layer with
  | none => []
  | some _ =>
    ((s.dlayers c).filter (fun l => l != p.layer && (s.dlayer c l).isDepth == isDepth &&
      !dependsOn (s.dctx c).layers l p.layer)).filterMap (fun l => (entryOf es isDepth l).map (fun e => (l, e)))

/-- The layers that qualify but for the state of their CTUs (R190). -/
def State.borrowLayers (s : State) (c n : Nat) : List Borrow :=
  let p := s.slot c n
  let isDepth := (s.dlayer c p.layer).isDepth
  (s.borrowEntries c n).filterMap (fun (l, e) => match s.besideOf c n l with
    | some m =>
      let q := s.slot c m
      let same := q.width == p.width && q.height == p.height && q.chroma == p.chroma && q.bits == p.bits
      let d := if isDepth then some m else s.besideOf c n e.depth
      match same, d with
      | true, some d => some ⟨l, e, m, d⟩
      | _, _ => none
    | none => none)

/-- The layers that can qualify have had their pictures parsed, or will have none: else their rows are still to come (R194). -/
def State.sourcesParsed (s : State) (c n : Nat) : Bool :=
  let p := s.slot c n
  p.substitute || (s.dctx c).aus.all (fun a => a.parsed || !a.pics.any (fun e => e.2 == some n) ||
    (s.borrowEntries c n).all (fun (l, e) =>
      a.pics.any (fun x => x.1 == l) && ((s.dlayer c p.layer).isDepth || a.pics.any (fun x => x.1 == e.depth))))

/-- Squared distance of two entries (R190). -/
def entryDistance (a b : KvEntry) : Nat :=
  let u : Int := (a.u : Int) - b.u
  let v : Int := (a.v : Int) - b.v
  (u * u + v * v).toNat

/-- The co-located CTU row of a source is complete or declared lost (R194). -/
def rowFinal (p : SlotPic) (k : Nat) : Bool :=
  (upto (k / max 1 p.ctbW * p.ctbW) p.ctbW).all (fun j => p.ctu j != 0 || decide (j ≥ p.ctbs))

/-- The layer that a CTU borrows from: nearest in the descriptor, then lowest (R190). -/
def State.chooseBorrow (s : State) (c n k : Nat) : Option Borrow :=
  let p := s.slot c n
  let es := s.streamEntries (s.contextStream c)
  match entryOf es (s.dlayer c p.layer).isDepth p.layer with
  | none => none
  | some me =>
    ((s.borrowLayers c n).filter (fun b => (s.slot c b.slot).ctu k == 1 && (s.slot c b.depthSlot).ctu k == 1)).foldl
      (fun best b => match best with
        | none => some b
        | some x =>
          if entryDistance b.entry me < entryDistance x.entry me ∨
            (entryDistance b.entry me = entryDistance x.entry me ∧ b.layer < x.layer) then some b else best) none

/-- Top-left luma position of a CTU. -/
def ctuPos (p : SlotPic) (k : Nat) : Nat × Nat := (k % max 1 p.ctbW * 2 ^ p.ctbLog, k / max 1 p.ctbW * 2 ^ p.ctbLog)

/-- The 8 × 8 blocks of a CTU (R191). -/
def ctuBlocks (p : SlotPic) (k : Nat) : List (Nat × Nat) :=
  let (x0, y0) := ctuPos p k
  let n := 2 ^ p.ctbLog / 8
  ((upto 0 (n * n)).map (fun j => (x0 + 8 * (j % n), y0 + 8 * (j / n)))).filter (fun b => decide (b.1 < p.width) && decide (b.2 < p.height))

/-- A coordinate clamped to 0 .. limit - 1. -/
def clampTo (limit : Nat) (i : Int) : Nat := min (limit - 1) i.toNat

/-- The base of a slot in memory. -/
def State.slotBase (s : State) (c n : Nat) : Nat := ((s.slotRange c n).getD (0, 0)).1

/-- A luma sample of a slot. -/
def State.lumaAt (s : State) (c n x y : Nat) : Nat := s.sampleWord (s.slotBase c n + y * planePitch (s.slot c n).width + 2 * x)

/-- The shift of a block (R191). -/
def State.blockShift (s : State) (c : Nat) (b : Borrow) (me : KvEntry) (x y : Nat) : Int × Int :=
  let p := s.slot c b.depthSlot
  let d := disparity (s.lumaAt c b.depthSlot (min (x + 4) (p.width - 1)) (min (y + 4) (p.height - 1))) b.entry.scale b.entry.offset
  let shift := fun (delta : Int) =>
    let q := d * delta
    let m : Int := ((q.natAbs + 32) / 64 : Nat)
    if q < 0 then -m else m
  (shift ((b.entry.u : Int) - me.u), shift ((b.entry.v : Int) - me.v))

/-- The luma samples that a block reads with a shift, clamped (R191). -/
def blockReads (p : SlotPic) (x y : Nat) (sh : Int × Int) : List (Nat × Nat) :=
  (upto 0 64).map (fun j => (clampTo p.width ((x + j % 8 : Nat) + sh.1), clampTo p.height ((y + j / 8 : Nat) + sh.2)))

/-- The CTUs that those samples lie in. -/
def readCtus (p : SlotPic) (x y : Nat) (sh : Int × Int) : List Nat :=
  ((blockReads p x y sh).map (fun q => q.2 / 2 ^ p.ctbLog * p.ctbW + q.1 / 2 ^ p.ctbLog)).foldl (fun acc k => setInsert k acc) []

/-- A 16-bit sample word of a slot is written. -/
def putSample (c n off v : Nat) (s : State) : State := s.hbmWrite (s.slotBase c n + off) (leBytes v 2)

/-- Luma and chroma of a block are copied from another slot with a luma and a chroma shift. -/
def copyBlock (c n m x y : Nat) (sh ch : Int × Int) (s : State) : State :=
  let p := s.slot c n
  let q := s.slot c m
  let pitch := planePitch p.width
  let src := planePitch q.width
  let a := s.slotBase c m
  let old := s
  let s := (upto 0 64).foldl (fun s j =>
    let tx := x + j % 8
    let ty := y + j / 8
    if tx < p.width ∧ ty < p.height then
      putSample c n (ty * pitch + 2 * tx)
        (old.sampleWord (a + clampTo q.height (ty + sh.2) * src + 2 * clampTo q.width (tx + sh.1))) s
    else s) s
  if ¬ p.chroma then s
  else (upto 0 16).foldl (fun s j =>
    let tx := x / 2 + j % 4
    let ty := y / 2 + j / 4
    if tx < p.width / 2 ∧ ty < p.height / 2 then
      let from_ := a + src * q.height + clampTo (q.height / 2) (ty + ch.2) * src + 4 * clampTo (q.width / 2) (tx + ch.1)
      let dest := pitch * p.height + ty * pitch + 4 * tx
      putSample c n (dest + 2) (old.sampleWord (from_ + 2)) (putSample c n dest (old.sampleWord from_) s)
    else s) s

/-- A block is borrowed: with its shift when every CTU it reads is clean, else from the co-located place (R191). -/
def borrowBlock (c n : Nat) (b : Borrow) (me : KvEntry) (s : State) (xy : Nat × Nat) : State :=
  let q := s.slot c b.slot
  let sh := s.blockShift c b me xy.1 xy.2
  if (readCtus q xy.1 xy.2 sh).all (fun k => q.ctu k == 1) then
    copyBlock c n b.slot xy.1 xy.2 sh (sh.1 / 2, sh.2 / 2) s
  else copyBlock c n b.slot xy.1 xy.2 (0, 0) (0, 0) s

/-- The picture that a temporal copy reads: the one under decoder hold, or for a substitute the nearest by POC (R192, R196). -/
def State.temporalSource (s : State) (c n : Nat) : Option Nat :=
  let p := s.slot c n
  let pick := if p.substitute then p.source else (s.dlayer c p.layer).held
  pick.filter (fun m => (s.slot c m).width == p.width && (s.slot c m).height == p.height && m != n)

/-- The value of fill for a picture (R193). -/
def State.fillValue (s : State) (c n : Nat) : Nat :=
  let p := s.slot c n
  if (s.dlayer c p.layer).isDepth then min (2 ^ p.bits - 1) (s.get (F.DEC_CTX_FILL_DEPTH_FILL c)) else 2 ^ (p.bits - 1)

/-- A block is filled. -/
def fillBlock (c n v : Nat) (s : State) (xy : Nat × Nat) : State :=
  let p := s.slot c n
  let pitch := planePitch p.width
  let s := (upto 0 64).foldl (fun s j =>
    let tx := xy.1 + j % 8
    let ty := xy.2 + j / 8
    if tx < p.width ∧ ty < p.height then putSample c n (ty * pitch + 2 * tx) v s else s) s
  if ¬ p.chroma then s
  else (upto 0 16).foldl (fun s j =>
    let tx := xy.1 / 2 + j % 4
    let ty := xy.2 / 2 + j / 4
    let dest := pitch * p.height + ty * pitch + 4 * tx
    if tx < p.width / 2 ∧ ty < p.height / 2 then putSample c n (dest + 2) v (putSample c n dest v s) else s) s

/-- The picture that temporal copy would read is still in decoding: an earlier picture of the layer, or a substitute's source. -/
def State.earlierOpen (s : State) (c n : Nat) : Bool :=
  let p := s.slot c n
  if p.substitute then match p.source with | some m => (s.slot c m).decoding | none => false
  else ((s.dctx c).aus.takeWhile (fun a => !a.pics.any (fun e => e.2 == some n))).any (fun a =>
    a.pics.any (fun e => e.1 == p.layer && (match e.2 with | some m => !(s.slot c m).complete | none => false)))

/-- A CTU may be concealed: its sources are final (R194). -/
def State.concealReady (s : State) (c n k : Nat) : Bool :=
  let p := s.slot c n
  s.sourcesParsed c n && (s.borrowLayers c n).all (fun b => rowFinal (s.slot c b.slot) k && rowFinal (s.slot c b.depthSlot) k) &&
  (match s.chooseBorrow c n k, entryOf (s.streamEntries (s.contextStream c)) (s.dlayer c p.layer).isDepth p.layer with
    | some b, some me =>
      let q := s.slot c b.slot
      (ctuBlocks p k).all (fun xy => (readCtus q xy.1 xy.2 (s.blockShift c b me xy.1 xy.2)).all (fun j => q.ctu j != 0))
    | _, _ => !s.earlierOpen c n)

/-- CTU_CONCEAL: a CTU to be concealed is, once its sources are final (R189 to R194). -/
def ctuConceal (c n k : Nat) (s : State) : State :=
  let p := s.slot c n
  if p.ctu k ≠ 3 ∨ ¬ s.concealReady c n k then s
  else
    let done := fun (q : SlotPic) (m : Nat) => { q with ctus := tabPut 0 q.ctus k 2, methods := if q.methods.testBit m then q.methods else q.methods + 2 ^ m }
    let blocks := ctuBlocks p k
    let me := entryOf (s.streamEntries (s.contextStream c)) (s.dlayer c p.layer).isDepth p.layer
    let s := match s.chooseBorrow c n k, me with
      | some b, some me =>
        (blocks.foldl (borrowBlock c n b me) s).setSlot c n { done p 0 with iv := p.iv + 1 }
      | _, _ =>
        match s.temporalSource c n with
        | some m => (blocks.foldl (fun s xy => copyBlock c n m xy.1 xy.2 (0, 0) (0, 0) s) s).setSlot c n { done p 1 with temporal := p.temporal + 1 }
        | none => (blocks.foldl (fillBlock c n (s.fillValue c n)) s).setSlot c n { done p 2 with filled := p.filled + 1 }
    settle c n s

/-! ## Registers -/

/-- A write of DEC_CFG (R200). -/
def decCfgWrite (v : Word) (s : State) : Res :=
  if (s.armedIds 1).any (fun st => s.streamKind st == 1) then refuse .window s
  else if wordField v F.DEC_CFG_HDR_FORCE ≥ 2 then refuse .value s
  else
    let s := (s.set F.DEC_CFG_BACKOFF (wordField v F.DEC_CFG_BACKOFF)).set F.DEC_CFG_HASH_CHECK (wordField v F.DEC_CFG_HASH_CHECK)
    okay (s.set F.DEC_CFG_HDR_FORCE (wordField v F.DEC_CFG_HDR_FORCE))

/-- A write of a register of a decode context (R166): staged for the stream that the staged DEC_CTX_CFG names. -/
def decCtxWrite (c a : Nat) (v : Word) (s : State) : Res :=
  let st := wordField (if a = R.DEC_CTX_CFG c then v else s.oldWord (R.DEC_CTX_CFG c)) (F.DEC_CTX_CFG_STREAM_ID c)
  let p := (s.path 1 st).state
  if (p = 1 ∨ p = 2) ∧ ¬ s.ctxArmed c then okay (s.stageWrite a v) else refuse .window s

/-- The selected slot: a number at or above SLOT_COUNT reads as a free, unused slot. -/
def State.selectedSlot (s : State) : SlotPic × Bool :=
  let c := s.get F.DEC_SLOTSEL_CTX
  let n := s.get F.DEC_SLOTSEL_SLOT
  if n < s.get (F.DEC_CTX_SLOTS_SLOT_COUNT c) then (s.slot c n, s.cardHeld c n) else ({}, false)

/-- DEC_SLOTINFO, DEC_SLOTPOC, DEC_SLOTCONC and DEC_LAYERSTAT at the instant of a read (R201). -/
def decRead (a : Nat) (s : State) : Word :=
  let (p, held) := s.selectedSlot
  if a = R.DEC_SLOTINFO then
    BitVec.ofNat 32 (p.methods * 2 ^ 16 + p.layer * 2 ^ 8 + bit p.hashFail * 128 + bit p.tainted * 64 + bit p.substitute * 32 +
      bit (decide (p.conc ≠ 0)) * 16 + bit held * 8 + bit p.decHeld * 4 + p.mark)
  else if a = R.DEC_SLOTPOC then BitVec.ofNat 32 (patternOf 32 p.poc)
  else if a = R.DEC_SLOTCONC then BitVec.ofNat 32 (min 0xFFFF p.conc)
  else
    let y := s.dlayer (s.get F.DEC_LAYERSEL_CTX) (s.get F.DEC_LAYERSEL_LAYER)
    BitVec.ofNat 32 (y.concealed * 2 ^ 16 + y.state)

/-! ## The commands -/

/-- NAL_UNIT_PARSE (R164). -/
def execNalUnitParse (context : Fin 4) (nal : NalBody) (bad : Bool) (s : State) : Host.Outcome State Fault Refusal :=
  whenLive s (nalParse context.val nal bad)

/-- ROW_TASK_DISPATCH (R174). -/
def execRowTaskDispatch (past2 : List (Fin 8)) (s : State) : Host.Outcome State Fault Refusal := whenLive s (rowDispatch past2)

/-- ROW_TASK_COMPLETE (R173). -/
def execRowTaskComplete (engine : Fin 8) (result : RowResult) (s : State) : Host.Outcome State Fault Refusal :=
  whenLive s (rowComplete engine.val result)

/-- CTU_CONCEAL (R194). -/
def execCtuConceal (context : Fin 4) (slot ctu : Nat) (s : State) : Host.Outcome State Fault Refusal :=
  whenLive s (ctuConceal context.val slot ctu)

/-- SLOT_WAIT_TIMEOUT (R172). -/
def execSlotWaitTimeout (context : Fin 4) (s : State) : Host.Outcome State Fault Refusal := whenLive s (slotTimeout context.val)

/-- DECODE_PARITY_ERROR (R177). -/
def execDecodeParityError (engine : Fin 8) (s : State) : Host.Outcome State Fault Refusal := whenLive s (decParity engine.val)

/-- HP_PARITY_ERROR (R182). -/
def execHpParityError (s : State) : Host.Outcome State Fault Refusal := whenLive s hpParity

end Sys2Proof.Machine
end

