-- ==== Sys2Proof/Machine/Ingest.lean ====
section
/-! DEFINITION. Ethernet ports, batts, units and the jitter buffer (spec/04_ethernet_ingest.md R133 to R159, R585). -/

namespace Sys2Proof.Machine

/-! ## Ports -/

/-- The source of port n at an offset of R158. -/
def portSource (n off : Nat) : Nat := 64 + 16 * n + off

/-- An ARMED stream names a port. -/
def State.portNamed (s : State) (n : Nat) : Bool := (s.armedIds 1).any (fun st => (s.streamPorts st).testBit n)

/-- A PRIMARY port is declared lost (R142). -/
def portLost (n : Nat) (s : State) : State :=
  if s.get (F.ETH_ROLE_ROLE n) = 1 ∧ s.get (F.ETH_STATUS_LOST n) = 0 then
    raise (portSource n 8) (s.set (F.ETH_STATUS_LOST n) 1)
  else s

/-- ETH_LINK_UP (R133, R575): the ports start at step 5 of the start-up. -/
def ethLinkUp (n : Nat) (s : State) : State :=
  if s.get (F.ETH_CFG_SPEED n) = 0 ∨ s.pins.bootStep < 5 ∨ s.get (F.ETH_STATUS_LINK n) = 1 then s
  else raise (portSource n 0) ((s.set (F.ETH_STATUS_LINK n) 1).set (F.ETH_STATUS_FEC_LOCK n) 1)

/-- ETH_LINK_DOWN (R142). -/
def ethLinkDown (n : Nat) (s : State) : State :=
  if s.get (F.ETH_STATUS_LINK n) = 0 then s
  else portLost n (raise (portSource n 1) ((s.set (F.ETH_STATUS_LINK n) 0).set (F.ETH_STATUS_FEC_LOCK n) 0))

/-- PRIMARY_TIMEOUT (R142). -/
def primaryTimeout (n : Nat) (s : State) : State :=
  if s.portNamed n ∧ s.now ≥ (s.port n).lastBatt + 1000000 * s.get (F.ETH_ROLE_TIMEOUT n) then portLost n s else s

/-- A write of ETH_CFG (R143): a change of SPEED restarts the link. -/
def ethCfgWrite (n : Nat) (v : Word) (s : State) : Res :=
  let speed := wordField v (F.ETH_CFG_SPEED n)
  let vlan := wordField v (F.ETH_CFG_VLAN n)
  let vid := wordField v (F.ETH_CFG_VID n)
  let changes := speed != s.get (F.ETH_CFG_SPEED n)
  if changes && s.portNamed n then refuse .inUse s
  else if vlan = 1 ∧ (vid = 0 ∨ vid = 4095) then refuse .value s
  else
    let s := if changes then ethLinkDown n s else s
    let s := ((s.set (F.ETH_CFG_VID n) vid).set (F.ETH_CFG_PCP n) (wordField v (F.ETH_CFG_PCP n))).set (F.ETH_CFG_VLAN n) vlan
    okay ((s.set (F.ETH_CFG_PFC_EN n) (wordField v (F.ETH_CFG_PFC_EN n))).set (F.ETH_CFG_SPEED n) speed)

/-- A write of ETH_ROLE (R142, R143; spec/12_confidence_encoder.md R392). -/
def ethRoleWrite (n : Nat) (v : Word) (s : State) : Res :=
  let role := wordField v (F.ETH_ROLE_ROLE n)
  let timeout := wordField v (F.ETH_ROLE_TIMEOUT n)
  if s.portNamed n ∨ (s.armed 5 0 ∧ s.get F.ENC_TX_PORT = n) then refuse .inUse s
  else if role ≥ 5 ∨ timeout = 0 ∨ timeout > 1000 then refuse .value s
  else
    let s := ((s.set (F.ETH_ROLE_ROLE n) role).set (F.ETH_ROLE_MIRROR n) (wordField v (F.ETH_ROLE_MIRROR n))).set (F.ETH_ROLE_TIMEOUT n) timeout
    okay (if role = 1 then s else s.set (F.ETH_STATUS_LOST n) 0)

/-- A write of ETH_IP6_0 to ETH_IP6_3: the address takes effect with the last word (R138). -/
def ethIp6Write (n k : Nat) (v : Word) (s : State) : Res :=
  let s := s.setWord (R.ETH_IP6_ n k) v
  okay (if k = 3 then
    s.setPort n { s.port n with ip6 := (upto 0 4).foldl (fun acc j => acc * 2 ^ 32 + (s.word (R.ETH_IP6_ n j)).toNat) 0 }
  else s)

/-- A reply frame leaves a port to a MAC address (R136, R139). -/
def ethReply (n : Nat) (kind : String) (dst : Nat) (body : List Byte) (s : State) : State :=
  if s.get (F.ETH_STATUS_LINK n) = 0 then s
  else sendOn n (.frame n kind (s.tagged n (beBytes dst 6 ++ beBytes (s.mac n) 6 ++ body))) s

/-- ADDRESS_REQUEST_REPLY (R138, R139). -/
def addressReply (n : Nat) (r : AddressRequest) (s : State) : State :=
  match r with
  | .arp ip src => if s.hasIp4 n ip then ethReply n "arp reply" src (beBytes ip 4) s else s
  | .solicitation ip src => if s.hasIp6 n ip then ethReply n "neighbour advertisement" src (beBytes ip 16) s else s
  | .echo4 ip src data => if s.hasIp4 n ip then ethReply n "echo reply" src (beBytes ip 4 ++ data) s else s
  | .echo6 ip src data => if s.hasIp6 n ip then ethReply n "echo reply" src (beBytes ip 16 ++ data) s else s

/-! ## Frames (R135 to R139) -/

/-- The VLAN rule (R136). -/
def State.vlanOk (s : State) (n : Nat) (f : EthFrame) : Bool :=
  if s.get (F.ETH_CFG_VLAN n) = 1 then f.vid == some (s.get (F.ETH_CFG_VID n)) else f.vid == none || f.vid == some 0

/-- An address is an IPv4 or IPv6 multicast address, as PTP messages are sent to (spec/11_time_presentation.md R362). -/
def multicast : IpAddr → Bool
  | .v4 a => a / 2 ^ 28 == 0xE
  | .v6 a => a / 2 ^ 120 == 0xFF

/-- The IP rules (R138, R139): the address is the port's or multicast; a zero checksum is accepted under IPv4 only. -/
def State.ipOk (s : State) (n : Nat) : IpPart → Bool
  | .none => true
  | .v4 dst fragment options checksum => (s.hasIp4 n dst || multicast (.v4 dst)) && !fragment && !options && checksum != 2
  | .v6 dst fragment extension checksum =>
    (s.hasIp6 n dst || multicast (.v6 dst)) && !fragment && !extension && checksum != 2 && checksum != 0

/-- A receive queue of an enabled priority passes 75 % of 2 MiB: PFC XOFF (R137). -/
def pfcXoff (n p fill : Nat) (s : State) : State :=
  if (s.get (F.ETH_CFG_PFC_EN n)).testBit p ∧ fill > 1572864 ∧ ¬ (s.port n).xoff.contains p then
    (s.setPort n { s.port n with xoff := setInsert p (s.port n).xoff }).emit (.frame n "pfc xoff" [BitVec.ofNat 8 p])
  else s

/-- ETH_FRAME_RECEIVE (R134 to R139): the frame's content reaches its consumer as a command of its own. -/
def frameReceive (n : Nat) (f : EthFrame) (s : State) : State :=
  if s.get (F.ETH_STATUS_LINK n) = 0 then s
  else
    let s := if f.fecUncorr then raise (portSource n 2) s else s
    if f.length > 9600 ∨ ¬ f.fcsGood then raise (portSource n 3) (s.bump (F.ETH_RXERR_COUNT n))
    else if f.pause ∨ ¬ s.vlanOk n f ∨ ¬ s.ipOk n f.ip then s
    else pfcXoff n f.priority.val f.fill s

/-- PFC_FRAME_RECEIVE (R137): a quantum is 512 bit times; 0 resumes. -/
def pfcReceive (n mask : Nat) (quanta : List Nat) (s : State) : State :=
  let rate := 50 * 2 ^ s.get (F.ETH_CFG_SPEED n)
  let p := s.port n
  let paused := (upto 0 8).foldl (fun t k =>
    if mask.testBit k ∧ (s.get (F.ETH_CFG_PFC_EN n)).testBit k then
      tabPut 0 t k (if quanta.getD k 0 = 0 then 0 else s.now + ceilDiv (512 * quanta.getD k 0) rate)
    else t) p.paused
  s.setPort n { p with paused := paused }

/-- PFC_XON (R137): below 25 % of 2 MiB. -/
def pfcXon (n p fill : Nat) (s : State) : State :=
  if (s.port n).xoff.contains p ∧ fill < 524288 then
    (s.setPort n { s.port n with xoff := setErase p (s.port n).xoff }).emit (.frame n "pfc xon" [BitVec.ofNat 8 p])
  else s

/-! ## Batts (R144 to R148) -/

/-- The unit precedes another in serial arithmetic (R152). -/
def unitBefore (a b : Nat) : Bool := newerThan b a

/-- Two units lie exactly 2^31 apart (R152). -/
def unitApart (a b : Nat) : Bool := (b + 2 ^ 32 - a % 2 ^ 32) % 2 ^ 32 == 2 ^ 31

/-- The batt of a datagram's bytes: the 40-byte header, little-endian but for MAGIC, and the payload (R144). -/
def parseBatt (bytes : List Byte) : Batt where
  udpLength := bytes.length
  magic := leAt bytes 0x00 2
  version := leAt bytes 0x02 1
  kind := leAt bytes 0x03 1
  streamId := leAt bytes 0x04 1
  bflags := leAt bytes 0x05 1
  payloadLength := leAt bytes 0x06 2
  seq := leAt bytes 0x08 4
  unit := leAt bytes 0x0C 4
  unitOffset := leAt bytes 0x10 8
  launchS := leAt bytes 0x18 8
  launchNs := leAt bytes 0x20 4
  rayCount := leAt bytes 0x24 4
  payload := bytes.drop 40

/-- The malformed cases of R145. -/
def battMalformed (b : Batt) : Bool :=
  b.udpLength != 40 + b.payloadLength || b.payload.length != b.payloadLength || decide (b.payloadLength > 9510) ||
  b.magic != 0x5442 || b.version != 1 || b.kind == 0 || decide (b.kind > 5) || decide (b.bflags / 8 ≠ 0) ||
  decide (b.launchNs > 999999999) || (b.rayCount != 0 && b.kind != 3)

/-- The launch time of a batt; none for 0 and 0 (R144). -/
def battLaunch (b : Batt) : Option Nat :=
  if b.launchS = 0 ∧ b.launchNs = 0 then none else some (b.launchS * 1000000000 + b.launchNs)

/-- The kinds that a port accepts (R140); SEAM only in LOOPBACK_TEST. -/
def State.roleAccepts (s : State) (n kind : Nat) : Bool :=
  let role := s.get (F.ETH_ROLE_ROLE n)
  let eff := if role = 2 then (if s.get (F.ETH_ROLE_ROLE (s.get (F.ETH_ROLE_MIRROR n))) = 1 then 1 else 0) else role
  if kind = 5 then s.modeNow == 0xA
  else if eff = 1 then true else if eff = 3 then decide (kind ≤ 3) else false

/-- The port whose lane a batt on port n belongs to (R141, R146). -/
def State.lanePort (s : State) (n : Nat) : Nat :=
  if s.get (F.ETH_ROLE_ROLE n) = 2 then s.get (F.ETH_ROLE_MIRROR n) else n

/-- The lanes of a stream (R146). -/
def State.lanesOf (s : State) (st : Nat) : List Nat :=
  (((upto 0 4).filter (fun n => (s.streamPorts st).testBit n)).map s.lanePort).foldl (fun acc n => setInsert n acc) []

/-- The refused cases of R145; a SCHEDULED base mode refuses a batt without launch time (spec/18_modes_power_thermal.md
R512). -/
def State.battRefused (s : State) (n : Nat) (b : Batt) : Bool :=
  !s.armed 1 b.streamId || s.streamKind b.streamId != b.kind || !(s.streamPorts b.streamId).testBit (s.lanePort n) ||
  !s.roleAccepts n b.kind || (s.ruleMode == 0x7 && (battLaunch b).isNone)

/-- Bits per ray of a stream's FORMAT. -/
def State.streamBits (s : State) (st : Nat) : Nat := rayBits (s.bindField 1 st (F.STRM_CFG_FORMAT st))

/-- The malformed cases of R148. -/
def State.battOutside (s : State) (b : Batt) : Bool :=
  if b.kind = 3 then
    b.payloadLength != ceilDiv (b.rayCount * s.streamBits b.streamId) 8 || decide (b.unitOffset + b.rayCount > rayCount s.geom)
  else decide (b.unitOffset + b.payloadLength > 65536 * s.bindField 1 b.streamId (F.STRM_POOL_UNITMAX b.streamId))

/-- A batt is discarded under ETH_BATTERR. -/
def battError (n : Nat) (refused : Bool) (s : State) : State :=
  raise (portSource n 4) (s.bump (if refused then F.ETH_BATTERR_REFUSED n else F.ETH_BATTERR_MALFORMED n))

/-- A unit-level event of a stream with its unit (R158). -/
def unitRaise (st off unit : Nat) (s : State) : State := raiseWith (s.streamSource st off) 0 (unit % 2 ^ 32 * 2 ^ 32 + st) s

/-- The held units in UNIT order, oldest first. -/
def oldestUnit (us : List JbUnit) : Option JbUnit :=
  us.foldl (fun best u => match best with
    | none => some u
    | some b => if unitBefore u.unit b.unit then some u else some b) none

/-- A lane of a stream. -/
def laneOf (x : StreamState) (lane : Nat) : LaneState := (tabGet none x.lanes lane).getD {}

/-- A lane of a unit. -/
def unitLane (u : JbUnit) (lane : Nat) : LaneUnit := (tabGet none u.lanes lane).getD {}

/-! ## Units (R150, R151, R156, R585) -/

/-- The batts of a lane from FIRST to LAST have all arrived. -/
def laneWhole (u : LaneUnit) : Bool :=
  match u.first, u.last with
  | some a, some b => (upto 0 ((b + 2 ^ 32 - a) % 2 ^ 32 + 1)).all (fun k => u.seqs.contains ((a + k) % 2 ^ 32))
  | _, _ => false

/-- A unit is complete (R151). -/
def State.unitWhole (s : State) (st : Nat) (u : JbUnit) : Bool := (s.lanesOf st).all (fun l => laneWhole (unitLane u l))

/-- Whether a unit's deadline has passed: in Q9 time with a launch time, else from its first batt's arrival (R150). -/
def State.unitExpired (s : State) (u : JbUnit) : Bool :=
  u.expired || (if u.launch.isSome then decide (s.q9 ≥ u.deadline) else decide (s.now ≥ u.deadline))

/-- Distance of a SEQ from a base, modulo 2^32. -/
def seqFrom (base q : Nat) : Nat := (q + 2 ^ 32 - base % 2 ^ 32) % 2 ^ 32

/-- The unit before a unit among those released and discarded. -/
def prevUnit (x : StreamState) (unit : Nat) : Option Nat :=
  ((x.released.toList ++ x.discarded).filter (fun k => unitBefore k unit)).foldl (fun best k => match best with
    | none => some k
    | some b => if unitBefore b k then some k else some b) none

/-- The missing SEQ numbers of a lane at release (R156). -/
def laneMissing (x : StreamState) (lane unit : Nat) (u : LaneUnit) : Nat :=
  match u.seqs with
  | [] => 1
  | q :: _ =>
    let low := (u.seqs.foldl (fun m k => min m ((k + 2 ^ 32 - q + 2 ^ 31) % 2 ^ 32)) (2 ^ 31))
    let lowSeq := (low + q + 2 ^ 31) % 2 ^ 32
    let start := match u.first with
      | some a => (a, 0)
      | none => match (prevUnit x unit).bind (fun p => ((laneOf x lane).lasts.find? (fun (e : Nat × Nat) => e.2 == p)).map (fun (e : Nat × Nat) => e.1)) with
        | some e => ((e + 1) % 2 ^ 32, 0)
        | none => (lowSeq, 1)
    let last := match u.last with
      | some b => (seqFrom start.1 b, 0)
      | none => (u.seqs.foldl (fun m k => max m (seqFrom start.1 k)) 0, 1)
    let have_ := (u.seqs.filter (fun k => decide (seqFrom start.1 k ≤ last.1))).length
    start.2 + last.2 + (last.1 + 1 - have_)

/-- The rays of a RAWRAY unit as they pass: carried, or for an incomplete unit of the previous passed unit (R585). -/
def passedRays (whole : Bool) (prev : Option (Tab (Option Nat))) (data : Tab (Option Nat)) : Tab (Option Nat) :=
  if whole then data
  else data.foldl (fun t e => tabInsert t e.1 e.2) (prev.getD [])

/-- A key view of a RAWKEY unit has a missing byte; layer l gives its size. -/
def State.rawMissing (s : State) (l : Nat) (data : Tab (Option Nat)) : List Nat :=
  let w := s.bindField 2 l (F.CARD_LYR_SIZE_W l)
  let h := s.bindField 2 l (F.CARD_LYR_SIZE_H l)
  let n := ceilDiv (w * h * s.streamBits (s.layerStream l)) 8 + 2 * w * h
  (upto 0 (s.layerViews l)).filter (fun k => (upto (k * n) n).any (fun a => (tabGet none data a).isNone))

/-- The bytes of a RAWKEY unit as carding reads them; a byte of a complete unit that no batt carried is a free value. -/
def rawBytes (data : Tab (Option Nat)) (holes : List Nat) (s : State) : Tab (Option Byte) × State :=
  let t : Tab (Option Byte) := data.map (fun e => (e.1, e.2.map (BitVec.ofNat 8)))
  holes.foldl (fun acc a => let (b, s) := acc.2.drawBytes 1; (tabInsert acc.1 a (some (b.headD 0)), s)) (t, s)

/-- The bytes of a layer's RAWKEY unit that no batt carried. -/
def State.rawHoles (s : State) (l : Nat) (data : Tab (Option Nat)) : List Nat :=
  let w := s.bindField 2 l (F.CARD_LYR_SIZE_W l)
  let h := s.bindField 2 l (F.CARD_LYR_SIZE_H l)
  let n := ceilDiv (w * h * s.streamBits (s.layerStream l)) 8 + 2 * w * h
  (upto 0 (s.layerViews l * n)).filter (fun a => (tabGet none data a).isNone)

/-- The ARMED layers that consume a stream. -/
def State.consumers (s : State) (st : Nat) : List Nat :=
  (s.armedIds 2).filter (fun l => s.layerStream l == st && (s.path 2 l).joined)

/-- The SEAM frames that a SEAM unit carries, header and data each (spec/13_afloth_tiling.md R430): each is taken as if it had
arrived on the link that faces the edge opposite EDGE. -/
def seamFrames : Nat → List Byte → State → State
  | 0, _, s => s
  | n + 1, bs, s =>
    let len := leAt bs 8 4
    let frame := bs.take (24 + len)
    let x : AflFrame := ⟨leAt bs 0 1, leAt bs 2 1, leAt bs 3 1, leAt bs 4 4, leAt bs 12 8, frame.drop 24⟩
    let e := leAt bs 13 1 % 4
    let opposite := if e % 2 = 0 then e + 1 else e - 1
    if bs.length < 24 + len ∨ leAt bs 0x14 4 ≠ crc32c (bs.take 20) ∨ x.type ≠ 4 ∨ ¬ aflLength 4 len then aflDiscard s
    else
      let s := seamReceive opposite x s
      if bs.length = 24 + len then s else seamFrames n (bs.drop (24 + len)) s

/-- The bytes of a unit in order of offset. -/
def unitBytes (data : Tab (Option Nat)) : List Byte := data.map (fun e => BitVec.ofNat 8 (e.2.getD 0))

/-- A unit is dropped (R156). -/
def unitDrop (st unit : Nat) (s : State) : State := unitRaise st 6 unit (s.bump (F.STRM_UNITS_DROPPED st))

/-- The unit passes to its consumer, or is dropped (R151, R156). -/
def unitPass (st : Nat) (u : JbUnit) (whole : Bool) (s : State) : State :=
  let kind := s.streamKind st
  let note := fun s : State => if whole then s else unitRaise st 5 u.unit (s.bump (F.STRM_UNITS_INCOMPLETE st))
  if kind = 1 then
    decodeUnit st u.unit u.launch u.data ((s.lanesOf st).any (fun l => (unitLane u l).last.isNone)) (note s)
  else if kind = 2 then
    let gone := match s.kvLayer st with
      | some l => decide ((s.rawMissing l u.data).length = s.layerViews l)
      | none => false
    if !whole && gone then unitDrop st u.unit s
    else
      let s := note s
      (s.consumers st).foldl (fun s l =>
        let absent := if whole then [] else s.rawMissing l u.data
        let (data, s) := rawBytes u.data (if whole then s.rawHoles l u.data else []) s
        newInstant u.launch u.unit (.raw data absent) [] l s) s
  else if kind = 3 then
    let n := rayCount s.geom
    let x := s.stream st
    let lost := (n - u.data.length) * 1000 > s.bindField 1 st (F.STRM_CFG_LOSS_PERMILLE st) * n
    if !whole && (x.prev.isNone || decide lost) then unitDrop st u.unit s
    else
      let rays := passedRays whole x.prev u.data
      let s := (note s).setStream st { x with prev := some rays }
      newInstants st u.launch u.unit .rays rays s
  else if ¬ whole then unitDrop st u.unit s
  else if kind = 4 then overlayUnit st u.data s
  else seamFrames 64 (unitBytes u.data) s

/-- A unit is released (R151): the SEQ numbers that it lacks are counted (R156). -/
def unitRelease (st : Nat) (u : JbUnit) (s : State) : State :=
  let whole := s.unitWhole st u
  let x := s.stream st
  let lost := if whole then 0 else ((s.lanesOf st).map (fun l => laneMissing x l u.unit (unitLane u l))).sum
  let s := s.bumpBy (F.STRM_LOST_COUNT st) lost
  let s := s.setStream st { x with
    released := some u.unit, units := x.units.filter (fun v => v.unit != u.unit)
    discarded := x.discarded.filter (fun k => !unitBefore k u.unit) }
  unitPass st u whole s

/-- RAWKEY units of a stream held by instants that are not complete, each with its bytes: they keep their jitter buffer space
(R229). -/
def State.heldRaw (s : State) (st : Nat) : Tab Nat :=
  s.card.instants.foldl (fun t i =>
    match i.input with
    | .raw data _ => if i.phase != 2 && s.layerStream i.layer == st then tabInsert t i.unit data.length else t
    | _ => t) []

/-- Units are released in UNIT order while the oldest may be (R151). -/
def unitPump (st : Nat) : Nat → State → State
  | 0, s => s
  | n + 1, s =>
    match oldestUnit (s.stream st).units with
    | some u =>
      if (s.unitWhole st u || s.unitExpired u) && (u.launch.isNone || u.asked || u.expired) then
        unitPump st n (unitRelease st u s)
      else s
    | none => s

/-- Every unit that may be released is. -/
def unitsRelease (st : Nat) (s : State) : State := unitPump st (s.stream st).units.length s

/-- The oldest held unit is released as if its deadline had passed (R154, R155). -/
def releaseOldest (st : Nat) (s : State) : State :=
  match oldestUnit (s.stream st).units with
  | some u => unitRelease st u s
  | none => s

/-- The held units older than a unit are released as if their deadlines had passed (R155). -/
def releaseOlder (st unit : Nat) : Nat → State → State
  | 0, s => s
  | n + 1, s =>
    match oldestUnit (s.stream st).units with
    | some u => if unitBefore u.unit unit then releaseOlder st unit n (unitRelease st u s) else s
    | none => s

/-- The unit of a batt is replaced. -/
def setUnit (st : Nat) (u : JbUnit) (s : State) : State :=
  let x := s.stream st
  s.setStream st { x with units := u :: x.units.filter (fun v => v.unit != u.unit) }

/-- The jitter buffer holds fewer than MAX_UNITS units (R149, R229). -/
def State.hasRoom (s : State) (st : Nat) : Bool :=
  decide ((s.stream st).units.length + (s.heldRaw st).length < s.bindField 1 st (F.STRM_POOL_MAX_UNITS st))

/-- Units are released until a new one may be held (R154). -/
def makeRoom (st : Nat) : Nat → State → State
  | 0, s => s
  | n + 1, s => if s.hasRoom st || (s.stream st).units.isEmpty then s else makeRoom st n (releaseOldest st s)

/-- The bytes that data of a unit takes: every byte or ray once (R148, R154). -/
def State.unitSpace (s : State) (st : Nat) (data : Tab (Option Nat)) : Nat :=
  if s.streamKind st = 3 then ceilDiv (data.length * s.streamBits st) 8 else data.length

/-- The bytes that the jitter buffer of a stream holds (R154, R229). -/
def State.jitterBytes (s : State) (st : Nat) : Nat :=
  ((s.stream st).units.map (fun u => u.bytes)).sum + ((s.heldRaw st).map (fun e => e.2)).sum

/-- The bytes that it can hold (R149). -/
def State.jitterSize (s : State) (st : Nat) : Nat :=
  s.bindField 1 st (F.STRM_POOL_MAX_UNITS st) * s.bindField 1 st (F.STRM_POOL_UNITMAX st) * 65536

/-- Units other than that of the batt are released until its n further bytes fit (R154); false when the batt's own unit is the
oldest. -/
def makeSpace (st unit n : Nat) : Nat → State → Bool × State
  | 0, s => (true, s)
  | k + 1, s =>
    if s.jitterBytes st + n ≤ s.jitterSize st then (true, s)
    else match oldestUnit (s.stream st).units with
      | some u => if u.unit = unit then (false, s) else makeSpace st unit n k (unitRelease st u s)
      | none => (true, s)

/-- The rays or bytes of a batt by index; RAYH rays as they enter (spec/01_ray_space.md R29). -/
def State.battItems (s : State) (b : Batt) : List (Nat × Nat) :=
  if b.kind = 3 then
    let w := s.streamBits b.streamId
    let run := leNat b.payload
    (upto 0 b.rayCount).map (fun k =>
      let v := run / 2 ^ (w * k) % 2 ^ w
      (b.unitOffset + k, if w = 48 then packChannels 16 (sanitiseHalf (v / 2 ^ 32)) (sanitiseHalf (v / 2 ^ 16 % 65536)) (sanitiseHalf (v % 65536)) else v))
  else ((upto 0 b.payload.length).zip b.payload).map (fun e => (b.unitOffset + e.1, e.2.toNat))

/-- The NaN channels of a RAYH batt (R29). -/
def State.battNans (s : State) (b : Batt) : Nat :=
  if b.kind = 3 ∧ s.streamBits b.streamId = 48 then
    ((upto 0 (3 * b.rayCount)).map (fun k => bit (isNan half (leNat b.payload / 2 ^ (16 * k) % 65536)))).sum
  else 0

/-- The data of a unit with a batt's: of two that carry the same ray or byte, the later wins (R148). -/
def State.withItems (s : State) (b : Batt) (data : Tab (Option Nat)) : Tab (Option Nat) :=
  (s.battItems b).foldl (fun t e => tabInsert t e.1 (some e.2)) data

/-- The further bytes that a batt takes in its unit (R154): bytes or rays that it writes again take none. -/
def State.furtherBytes (s : State) (b : Batt) : Nat :=
  match (s.stream b.streamId).units.find? (fun u => u.unit == b.unit) with
  | some u => s.unitSpace b.streamId (s.withItems b u.data) - u.bytes
  | none => 0

/-- A batt is placed into its unit (R146, R147). -/
def battPlace (lane : Nat) (b : Batt) (s : State) : State :=
  let st := b.streamId
  match (s.stream st).units.find? (fun u => u.unit == b.unit) with
  | none => s
  | some u =>
    let x := unitLane u lane
    let x := { x with
      first := if b.bflags.testBit 0 then some b.seq else x.first
      last := if b.bflags.testBit 1 then some b.seq else x.last
      seqs := setInsert b.seq x.seqs }
    let data := s.withItems b u.data
    let u := { u with lanes := tabInsert u.lanes lane (some x), bytes := s.unitSpace st data, data := data }
    unitsRelease st (setUnit st u (s.bumpBy F.RAYH_NANCNT_COUNT (s.battNans b)))

/-- A unit opens with its first batt (R150), which may find its deadline past (R153). True when the unit is held. DESIGN
CHOICE: where instants of carding keep the space of MAX_UNITS units (R229) and none is left to release, the batt is discarded
with JB_OVERFLOW. -/
def unitOpen (b : Batt) (s : State) : Bool × State :=
  let st := b.streamId
  let launch := battLaunch b
  let deadline := match launch with
    | some t => t - 1000 * s.bindField 1 st (F.STRM_TIMING_LEAD_US st)
    | none => s.now + 1000 * s.bindField 1 st (F.STRM_TIMING_DEPTH_US st)
  let past := launch.isSome && decide (deadline < s.q9)
  if past then
    let x := s.stream st
    (false, unitDrop st b.unit (s.setStream st { x with discarded := b.unit :: x.discarded }))
  else
    let s := makeRoom st 64 s
    let x := s.stream st
    match x.released with
    | some r =>
      if ¬ unitBefore r b.unit then (false, s.bump (F.STRM_LATE_COUNT st))
      else if s.hasRoom st then (true, s) else (false, unitRaise st 7 b.unit s)
    | none => if s.hasRoom st then (true, s) else (false, unitRaise st 7 b.unit s)

/-- The held unit of a first batt, with its launch time remembered for the frame that it contributes to
(spec/11_time_presentation.md R380). -/
def unitHold (b : Batt) (s : State) : State :=
  let st := b.streamId
  let launch := battLaunch b
  let deadline := match launch with
    | some t => t - 1000 * s.bindField 1 st (F.STRM_TIMING_LEAD_US st)
    | none => s.now + 1000 * s.bindField 1 st (F.STRM_TIMING_DEPTH_US st)
  let s := setUnit st { unit := b.unit, launch := launch, deadline := deadline } s
  let x := s.stream st
  s.setStream st { x with seen := match launch with
    | some t => setInsert t x.seen
    | none => x.seen }

/-- SEQ numbers of a lane that are kept to recognise second copies. -/
def recentSeqs (highest : Nat) (l : List (Nat × Nat)) : List (Nat × Nat) :=
  l.filter (fun e => decide (seqFrom e.1 highest ≤ 1048576))

/-- The lane takes note of a batt: highest SEQ, LAST batts (R155, R156), and, of a batt that is kept, its SEQ: a later batt is a
second copy only of a batt that was kept (R141, DEDUCED). -/
def laneNote (st lane : Nat) (kept : Bool) (b : Batt) (s : State) : State :=
  let x := s.stream st
  let y := laneOf x lane
  let top := match y.highest with
    | some h => if newerThan b.seq h then b.seq else h
    | none => b.seq
  let y := { y with highest := some top, received := (if kept then [(b.seq, b.unit)] else []) ++ recentSeqs top y.received
                    lasts := if b.bflags.testBit 1 then (b.seq, b.unit) :: y.lasts.take 63 else y.lasts }
  s.setStream st { x with lanes := tabInsert x.lanes lane (some y) }

/-- DISCONTINUITY: the lane starts anew at the batt's SEQ, and older units are released (R155). -/
def laneReset (st lane : Nat) (b : Batt) (s : State) : State :=
  let x := s.stream st
  let s := s.setStream st { x with lanes := tabInsert x.lanes lane (some { highest := some b.seq }) }
  releaseOlder st b.unit (s.stream st).units.length s

/-- A batt counts as an arrival on its port (R142). -/
def battArrival (n : Nat) (s : State) : State :=
  let s := s.setPort n { s.port n with lastBatt := s.now }
  if s.get (F.ETH_STATUS_LOST n) = 1 then raise (portSource n 9) (s.set (F.ETH_STATUS_LOST n) 0) else s

/-- A batt of a known stream and lane (R150 to R155). A batt of a unit that is released or discarded is late whether or not an
earlier copy of it was kept (R152, R153, DEDUCED); of a unit that is not, a second copy counts in STRM_DUP (R141). -/
def battTake (lane : Nat) (b : Batt) (s : State) : State :=
  let st := b.streamId
  let x := s.stream st
  if x.discarded.contains b.unit then (laneNote st lane false b s).bump (F.STRM_LATE_COUNT st)
  else if (match x.released with | some r => !unitBefore r b.unit | none => false) then
    (laneNote st lane false b s).bump (F.STRM_LATE_COUNT st)
  else if (laneOf x lane).received.any (fun e => e.1 == b.seq) then s.bump (F.STRM_DUP_COUNT st)
  else
    let (held, s) := match x.units.find? (fun u => u.unit == b.unit) with
      | some _ => (true, s)
      | none =>
        let (ok, s) := unitOpen b s
        (ok, if ok then unitHold b s else s)
    if ¬ held then laneNote st lane false b s
    else
      let other := (s.stream st).units.any (fun u => u.unit == b.unit && u.launch != battLaunch b)
      if other then unitRaise st 10 b.unit ((laneNote st lane false b s).bump (F.STRM_LATE_COUNT st))
      else
        let (fits, s) := makeSpace st b.unit (s.furtherBytes b) 64 s
        if fits then battPlace lane b (laneNote st lane true b s)
        else unitRaise st 7 b.unit (laneNote st lane false b s)

/-- BATT_RECEIVE (R141 to R156). -/
def battReceive (n : Nat) (b : Batt) (s : State) : State :=
  let st := b.streamId
  let lane := s.lanePort n
  if s.get (F.ETH_STATUS_LINK n) = 0 then s
  else if battMalformed b then battError lane false s
  else if s.battRefused n b then battError lane true s
  else if s.battOutside b then battError lane false s
  else
    let x := s.stream st
    let y := laneOf x lane
    let disc := b.bflags.testBit 2
    let far : Bool := match y.highest with
      | some h => newerThan b.seq h && decide (seqFrom h b.seq > 1048576)
      | none => false
    if far && !disc then battError lane false s
    else
      let s := battArrival n s
      let apart : Bool := match x.released with
        | some r => unitApart r b.unit
        | none => match oldestUnit x.units with
          | some u => unitApart u.unit b.unit
          | none => false
      if apart then battError lane false s
      else battTake lane b (if disc && !y.received.contains (b.seq, b.unit) then laneReset st lane b s else s)

/-- A datagram at a port: a batt when it is sent to UDP port 52160 of one of the port's addresses (R138, R144). -/
def datagramReceive (n : Nat) (d : BattDatagram) (s : State) : State :=
  if d.udpPort = 52160 ∧ s.hasIp n d.dst then battReceive n (parseBatt d.bytes) s else s

/-- UNIT_DEADLINE (R150, R151). -/
def unitDeadline (st : Nat) (s : State) : State := if s.armed 1 st then unitsRelease st s else s

/-- UNIT_REQUEST (R151; spec/11_time_presentation.md R379): units whose launch time is PIPE_US or less away are asked for. -/
def unitRequest (st : Nat) (s : State) : State :=
  if ¬ s.armed 1 st then s
  else
    let x := s.stream st
    let pipe := 1000 * s.get F.PQ_PIPE_PIPE_US
    unitsRelease st (s.setStream st { x with units := x.units.map (fun u =>
      { u with asked := u.asked || (match u.launch with | some t => decide (s.q9 + pipe ≥ t) | none => false) }) })

/-- A stream arms: its ports count their batts from now (R142), its lanes and units are empty. -/
def streamArm (st : Nat) (s : State) : State :=
  let s := s.setStream st {}
  let others := (s.armedIds 1).filter (· != st)
  (upto 0 4).foldl (fun s n =>
    if (s.streamPorts st).testBit n ∧ ¬ others.any (fun k => (s.streamPorts k).testBit n) then
      s.setPort n { s.port n with lastBatt := s.now }
    else s) s

/-- A stream leaves ARMED: what it holds is discarded (spec/03_control_kcp.md R119). -/
def streamDisarm (st : Nat) (s : State) : State := s.setStream st {}

/-- In far-end remote loopback a received frame leaves again unchanged (spec/20_test_identity.md R546). -/
def farEnd (n : Nat) (s : State) : State :=
  if s.get (F.ETH_LOOP_MODE n) = 4 then s.emit (.frame n "far-end remote" []) else s

/-! ## The commands -/

/-- ETH_FRAME_RECEIVE (R135). -/
def execEthFrameReceive (port : Fin 4) (frame : EthFrame) (s : State) : Host.Outcome State Fault Refusal :=
  whenLive s (heard port.val (fun s => frameReceive port.val frame (farEnd port.val s)))

/-- PFC_FRAME_RECEIVE (R137). -/
def execPfcFrameReceive (port : Fin 4) (mask : Nat) (quanta : List Nat) (s : State) : Host.Outcome State Fault Refusal :=
  whenLive s (heard port.val (pfcReceive port.val mask quanta))

/-- PFC_XON (R137). -/
def execPfcXon (port : Fin 4) (priority : Fin 8) (fill : Nat) (s : State) : Host.Outcome State Fault Refusal :=
  whenLive s (pfcXon port.val priority.val fill)

/-- ADDRESS_REQUEST_REPLY (R138). -/
def execAddressRequestReply (port : Fin 4) (request : AddressRequest) (s : State) : Host.Outcome State Fault Refusal :=
  whenLive s (heard port.val (addressReply port.val request))

/-- ETH_LINK_UP (R133). -/
def execEthLinkUp (port : Fin 4) (s : State) : Host.Outcome State Fault Refusal := whenLive s (ethLinkUp port.val)

/-- ETH_LINK_DOWN (R142). -/
def execEthLinkDown (port : Fin 4) (s : State) : Host.Outcome State Fault Refusal := whenLive s (ethLinkDown port.val)

/-- PRIMARY_TIMEOUT (R142). -/
def execPrimaryTimeout (port : Fin 4) (s : State) : Host.Outcome State Fault Refusal := whenLive s (primaryTimeout port.val)

/-- ETH_CFG_WRITE (R143). -/
def execEthCfgWrite (who : Requester) (port : Fin 4) (value : Word) (s : State) : Host.Outcome State Fault Refusal :=
  whenLive s (request who (R.ETH_CFG port.val) (ethCfgWrite port.val value))

/-- ETH_ROLE_WRITE (R143). -/
def execEthRoleWrite (who : Requester) (port : Fin 4) (value : Word) (s : State) : Host.Outcome State Fault Refusal :=
  whenLive s (request who (R.ETH_ROLE port.val) (ethRoleWrite port.val value))

/-- ETH_IP6_WRITE (R138): ETH_IP6_3 completes the address. -/
def execEthIp6Write (who : Requester) (port : Fin 4) (value : Word) (s : State) : Host.Outcome State Fault Refusal :=
  whenLive s (request who (R.ETH_IP6_ port.val 3) (ethIp6Write port.val 3 value))

/-- BATT_RECEIVE (R145). -/
def execBattReceive (port : Fin 4) (datagram : BattDatagram) (s : State) : Host.Outcome State Fault Refusal :=
  whenLive s (heard port.val (datagramReceive port.val datagram))

/-- UNIT_DEADLINE (R150). -/
def execUnitDeadline (stream : Fin 64) (s : State) : Host.Outcome State Fault Refusal := whenLive s (unitDeadline stream.val)

/-- UNIT_REQUEST (R151). -/
def execUnitRequest (stream : Fin 64) (s : State) : Host.Outcome State Fault Refusal := whenLive s (unitRequest stream.val)

end Sys2Proof.Machine
end

