-- ==== Sys2Proof/Machine/Links.lean ====
section
/-! DEFINITION. The lane layer of the panel link and the four Afloth links: symbol lock, deskew, lane periods, bring-up,
Band-1 start and pre-emphasis (spec/09_serial_lanes.md R292 to R320). Link 0 is the panel link, link k + 1 Afloth link k. -/

namespace Sys2Proof.Machine

/-! ## Lanes and states -/

/-- Receive lanes of a link (R292). -/
def laneCount (n : Nat) : Nat := if n = 0 then 4 else 8

/-- Receive lane i of link n. -/
def State.lane (s : State) (n i : Nat) : LinkLane := tabGet {} (s.link n).lanes i

/-- A receive lane replaced. -/
def State.setLane (s : State) (n i : Nat) (x : LinkLane) : State :=
  let u := s.link n
  s.setLink n { u with lanes := tabPut {} u.lanes i x }

/-- The receive lanes of link n. -/
def State.lanes (s : State) (n : Nat) : List LinkLane := (upto 0 (laneCount n)).map (s.lane n)

/-- LNK_STATUS.STATE. -/
def State.linkState (s : State) (n : Nat) : Nat := s.get (F.LNK_STATUS_STATE n)

/-- The event source of a link at an offset of R320: 0 LINK_UP, 1 LINK_LOST, 2 LINK_DOWN, 3 LANE_ERR. -/
def linkSource (n off : Nat) : Nat := if n = 0 then 688 + off else 768 + 4 * (n - 1) + off



/-- The time of a number of symbols on link n in ns (R292, R298: 10 bits a symbol). -/
def State.symbolsNs (s : State) (n k : Nat) : Nat := k * 80 / s.linkRate n

/-- Every receive lane of link n holds symbol lock and deskew. -/
def State.lanesReady (s : State) (n : Nat) : Bool := (s.lanes n).all (fun x => x.symlock && x.deskewed)

/-- The receivers of link n run: in an attempt, in NEGOTIATE and UP (R307, R309). -/
def State.receiving (s : State) (n : Nat) : Bool :=
  s.linkState n == 1 || s.linkState n == 3 || s.linkState n == 4

/-- A lane's receiver starts again: lock, deskew and what R308 counts are gone; signal detect and the error counters
stay. -/
def freshLane (x : LinkLane) : LinkLane :=
  { sigdet := x.sigdet, polarity := x.polarity, laneSeen := x.laneSeen, skew := x.skew, codeviol := x.codeviol,
    disperr := x.disperr }

/-- The receivers of link n start again. -/
def resetLanes (n : Nat) (s : State) : State :=
  let u := s.link n
  s.setLink n { u with lanes := u.lanes.map (fun e => (e.1, freshLane e.2)) }

/-! ## Attempts (R307 to R309, R312, R316) -/

/-- The panel link's rate counts again towards NAP_LIMITED (R316). -/
def rateMoved (n : Nat) (s : State) : State := if n = 0 then napLimited s else s

/-- The rate of a first attempt: 3.125 Gbaud under Band-1 start, else LNK_CFG.RATE (R313, R315). -/
def State.firstRate (s : State) (n : Nat) : Nat := if s.flag (F.LNK_CFG_START n) then 0 else s.get (F.LNK_CFG_RATE n)

/-- An attempt of link n begins (R308): TRAIN bursts, negative running disparity (R294), ASEQ 0. step: it is step 8 of R313. -/
def beginAttempt (n attempt rate : Nat) (step : Bool) (s : State) : State :=
  let s := freshTx n true (resetLanes n s)
  let u := s.link n
  let s := s.setLink n { u with since := s.now, aseq := 0, period := s.now, lastBusy := s.now, elastic := 0
                                lastHeard := s.now, step := none, lastStep := false, stepAt := none, stepping := step }
  let s := (s.set (F.LNK_STATUS_ATTEMPT n) attempt).set (F.LNK_STATUS_RATE_IN_FORCE n) rate
  rateMoved n (s.set (F.LNK_STATUS_STATE n) 1)

/-- Attempt 1 of link n begins. -/
def firstAttempt (n : Nat) (s : State) : State := beginAttempt n 1 (s.firstRate n) false s

/-- A link that was UP is so no longer: the panel protocol discards the open frame and counts it in LNK_DROP
(R310, R311; spec/10_panel_protocol.md R341). -/
def leaveUp (n : Nat) (s : State) : State :=
  if ¬ s.linkUp n ∨ n ≠ 0 then s
  else
    let s := match s.panel.opened with
      | some o => if o.committed then s else s.bump (F.LNK_DROP_COUNT 0)
      | none => s
    panelLinkLost s

/-- A link moves to OFF, its transmitters in electrical idle (R312). -/
def linkOff (n : Nat) (s : State) : State :=
  let s := freshTx n false (resetLanes n (leaveUp n s))
  let u := s.link n
  let s := s.setLink n { u with step := none, lastStep := false, stepAt := none, stepping := false }
  rateMoved n ((s.set (F.LNK_STATUS_STATE n) 0).emit (.laneSet n "ELECTRICAL_IDLE" 0))

/-- Attempt 1 begins at once from whatever state the link is in (R312). -/
def retrain (n : Nat) (s : State) : State := firstAttempt n (leaveUp n s)

/-- The link is stopped as if ENABLE were 0 (spec/18_modes_power_thermal.md R517). -/
def linkStop (n : Nat) (s : State) : State :=
  if (s.link n).stopped then s
  else
    let s := linkOff n s
    s.setLink n { s.link n with stopped := true }

/-- A stopped link starts again where ENABLE is 1 (R517). -/
def linkStart (n : Nat) (s : State) : State :=
  if ¬ (s.link n).stopped then s
  else
    let s := s.setLink n { s.link n with stopped := false }
    if s.flag (F.LNK_CFG_ENABLE n) then firstAttempt n s else s

/-- The link reaches UP: LINK_UP, and discovery on the panel link (R308; spec/10_panel_protocol.md R353). -/
def reachUp (n : Nat) (s : State) : State :=
  let u := s.link n
  let s := s.setLink n { u with step := none, lastStep := false, stepAt := none, stepping := false }
  let s := rateMoved n (s.set (F.LNK_STATUS_STATE n) 4)
  let s := raise (linkSource n 0) s
  if n = 0 then panelLinkUp s else s

/-- An UP link leaves UP: LINK_LOST, and attempt 1 with no gap (R311). -/
def linkLost (n : Nat) (s : State) : State :=
  if s.linkUp n then raise (linkSource n 1) (firstAttempt n (leaveUp n s)) else s

/-! ## Band-1 start (R313, R314) -/

/-- R_new: the highest rate of PARTNER_RATES at or below LNK_CFG.RATE and not in EXCLUDED, where all four return lanes
carry the same RATES; else 3.125 Gbaud (R313 step 2). -/
def State.newRate (s : State) : Nat :=
  let rates := (s.lanes 0).map (fun x => x.flags / 16)
  match rates with
  | [] => 0
  | r :: t =>
    if t.all (fun x => x == r) then
      (((upto 0 4).reverse.find? (fun c => r.testBit c && decide (c ≤ s.get (F.LNK_CFG_RATE 0)) &&
        !(s.get (F.LNK_STATUS_EXCLUDED 0)).testBit c))).getD 0
    else 0

/-- Band-1 start has locked at 3.125 Gbaud (R313 steps 2 to 4). -/
def negotiate (s : State) : State :=
  let s := s.set (F.LNK_STATUS_STATE 0) 3
  let r := s.newRate
  if r = 0 then reachUp 0 s else s.setLink 0 { s.link 0 with step := some r }

/-- The attempt in progress succeeds (R308 step 4, R313 steps 1 and 9). -/
def attemptDone (n : Nat) (s : State) : State :=
  if (s.link n).stepping then reachUp n (raise 692 s)
  else if n = 0 ∧ s.flag (F.LNK_CFG_START 0) then negotiate s
  else reachUp n s

/-- The attempt of step 8 fails: 3.125 Gbaud again, the rate excluded (R314). -/
def stepFailed (s : State) : State :=
  let r := s.get (F.LNK_STATUS_RATE_IN_FORCE 0)
  let s := s.set (F.LNK_STATUS_EXCLUDED 0) (s.get (F.LNK_STATUS_EXCLUDED 0) ||| 2 ^ r)
  raise 693 (firstAttempt 0 s)

/-- ATTEMPT_TIMEOUT: 10 ms after its start (R309, R310, R314). -/
def attemptTimeout (n : Nat) (s : State) : State :=
  let u := s.link n
  if s.linkState n ≠ 1 ∨ s.now < u.since + 10000000 then s
  else if u.stepping then stepFailed s
  else
    let s := resetLanes n s
    let s := setBursts n false (s.setLink n { s.link n with since := s.now })
    if s.get (F.LNK_STATUS_ATTEMPT n) < 8 then s.set (F.LNK_STATUS_STATE n) 2
    else raise (linkSource n 2) (s.set (F.LNK_STATUS_STATE n) 5)

/-- BACKOFF_END: the gap before the next attempt ends (R309). -/
def backoffEnd (n : Nat) (s : State) : State :=
  let a := s.get (F.LNK_STATUS_ATTEMPT n)
  if s.linkState n = 2 ∧ s.now ≥ (s.link n).since + 10000000 * 2 ^ (a - 1) then beginAttempt n (a + 1) (s.firstRate n) false s
  else s

/-- STEP_ECHO_TIMEOUT: no echo within 1 ms of step 4 (R314). -/
def stepEchoTimeout (n : Nat) (s : State) : State :=
  let u := s.link n
  match u.stepAt with
  | some t =>
    if s.linkState n = 3 ∧ ¬ u.lastStep ∧ s.now ≥ t + 1000000 then reachUp n (raise 693 s) else s
  | none => s

/-- SILENT_END: 100 µs after the Q9's last ALIGN (R313 step 7). -/
def silentEnd (n : Nat) (s : State) : State :=
  let u := s.link n
  if s.linkState n = 6 ∧ s.now ≥ u.since + 100000 then
    beginAttempt n (s.get (F.LNK_STATUS_ATTEMPT n)) (u.step.getD 0) true s
  else s

/-- TRAINING_PHASE_END: 2 ms after the attempt's start (R308 steps 1 and 2). -/
def trainingPhaseEnd (n : Nat) (s : State) : State :=
  let u := s.link n
  if s.linkState n = 1 ∧ u.bursts ∧ s.now ≥ u.since + 2000000 then
    linkHeard n (linkSent n (setBursts n false s))
  else s

/-! ## What the Q9 sends in lane periods (R297 to R299, R306, R317) -/

/-- RATES of FLAGS (R299). -/
def State.flagRates (s : State) (n : Nat) : Nat := if n = 0 then 2 ^ (s.get (F.LNK_CFG_RATE 0) + 1) - 1 else 8

/-- FLAGS of an ALIGN (R299, R308, R309, R313). -/
def State.alignFlags (s : State) (n : Nat) : Nat :=
  let u := s.link n
  bit (s.receiving n && s.lanesReady n) + 2 * bit u.step.isSome + 4 * u.step.getD 0 + 16 * s.flagRates n

/-- A TRAIN burst at symbols 64 to 127 of the lane period; what becomes ready within it starts after it
(R306, R317). -/
def sendTrain (n : Nat) (s : State) : State :=
  let e := s.now + s.symbolsNs n 128
  let u := s.link n
  let s := s.setLink n { u with lastBusy := e, trainDue := false, tx := { u.tx with train := true } }
  if n = 0 then s.withPanel { s.panel with busyUntil := max s.panel.busyUntil e } else s

/-- A new preset at an ALIGN outside a push, its TRAIN burst, PRESET_APPLIED (R317). -/
def applyPreset (s : State) : State :=
  if (s.link 0).presetDue ∧ ¬ s.pushing then
    let b := s.mode.dieBand
    let s := (s.set (F.LNK_STATUS_BAND 0) b).setLink 0 { s.link 0 with presetDue := false }
    raise 694 (sendTrain 0 (s.emit (.laneSet 0 "PRESET" b)))
  else s

/-- The ALIGN of a lane period with STEP: the first starts the 1 ms of step 5, the one after the echo is the last before
the silence (R313 steps 4 to 7). -/
def stepPeriod (n : Nat) (s : State) : State :=
  let u := s.link n
  if s.linkState n ≠ 3 ∨ u.step.isNone then s
  else if u.lastStep then
    let s := freshTx n false (s.setLink n { u with since := s.now + s.symbolsNs n 4 })
    (resetLanes n (s.set (F.LNK_STATUS_STATE n) 6)).emit (.laneSet n "ELECTRICAL_IDLE" 0)
  else if u.stepAt.isNone then s.setLink n { u with stepAt := some s.now }
  else s

/-- A new lane period of a link in a loopback mode: the checkers' counts start again, and in a far-end loopback ALIGN leaves
(spec/20_test_identity.md R550). -/
def patternPeriod (n : Nat) (s : State) : State :=
  let u := s.link n
  if s.now * s.linkRate n < u.period * s.linkRate n + 327680 then s
  else
    let s := if u.tx.pattern.isSome then beginPeriod n u.aseq (s.alignFlags n) none s else s
    s.setLink n { s.link n with
      period := s.now, aseq := (u.aseq + 1) % 256, checks := u.checks.map (fun e => (e.1, { e.2 with bad := 0 })) }

/-- A new lane period of link n (R298): the one before is complete, ALIGN leaves with ASEQ and FLAGS; a HOLD set while the panel
is held (spec/10_panel_protocol.md R347), a preset and the TRAIN burst that are due follow in it. The counts of R302 and R320
start again. -/
def lanePeriod (n : Nat) (s : State) : State :=
  let u := s.link n
  let st := s.linkState n
  if st = 0 ∨ st = 6 ∨ st = 7 ∨ s.now * s.linkRate n < u.period * s.linkRate n + 327680 then s
  else
    let hold := if n = 0 ∧ s.panel.holding then some s.panel.lastFlip else none
    let s := beginPeriod n u.aseq (s.alignFlags n) hold s
    let u := s.link n
    let s := s.setLink n { u with
      errRaised := false, lanes := u.lanes.map (fun e => (e.1, { e.2 with errors := 0 }))
      aseq := if u.bursts then 0 else (u.aseq + 1) % 256 }
    if u.bursts then s
    else
      let s := if n = 0 then applyPreset s else s
      let s := if (s.link n).trainDue then sendTrain n s else s
      stepPeriod n s

/-- IDLE_TRAIN_DUE: 65,536 idle-class symbol times have passed on the transmitted lanes (R306). -/
def idleTrainDue (n : Nat) (s : State) : State :=
  let u := s.link n
  let st := s.linkState n
  let busy := if n = 0 then max u.lastBusy s.panel.busyUntil else u.lastBusy
  if st = 0 ∨ st = 6 ∨ u.bursts ∨ s.now < busy + s.symbolsNs n 65536 then s
  else s.setLink n { u with trainDue := true }

/-- ADAPT_FREEZE: 1,024 idle-class symbols have arrived on a lane (R305). -/
def adaptFreeze (n i : Nat) (s : State) : State :=
  if s.receiving n ∧ i < laneCount n ∧ s.now ≥ (s.link n).lastHeard + s.symbolsNs n 1024 then
    s.setLane n i { s.lane n i with frozen := true }
  else s

/-! ## What the receivers take (R296, R299 to R304) -/

/-- An IDLE set on a lane, its comma on a 10-bit alignment: three on one alignment lock the lane, which keeps that alignment
(R302). One that arrives shows that the lane reference runs (spec/21_pins_startup.md R568). -/
def idleReceive (n i alignment : Nat) (inverted : Bool) (s : State) : State :=
  if ¬ s.receiving n ∨ laneCount n ≤ i ∨ ¬ (s.lane n i).sigdet then s
  else
    let s := { s with pins := { s.pins with refLane := true } }
    let x := s.lane n i
    if x.symlock then s
    else
      let k := if x.idles = 0 ∨ x.alignment ≠ alignment then 1 else x.idles + 1
      s.setLane n i { x with
        idles := min 3 k, alignment := alignment, symlock := decide (3 ≤ k), polarity := inverted }

/-- A lane deskews on ALIGN or SKIP once every lane of the link holds symbol lock (R303, R304). -/
def deskewLane (n i : Nat) (s : State) : State :=
  let x := s.lane n i
  if (s.lanes n).all (fun y => y.symlock) ∧ x.laneSeen = i ∧ x.skew ≤ 32 then s.setLane n i { x with deskewed := true } else s

/-- What an ALIGN brings the link to: UP within 10 ms of the attempt's start (R308 step 4), the echo of STEP within 1 ms
(R313 step 5), or the loss of READY (R311). -/
def afterAlign (n i : Nat) (s : State) : State :=
  let u := s.link n
  let st := s.linkState n
  if st = 1 then
    if s.now ≤ u.since + 10000000 ∧ ¬ u.bursts ∧ s.lanesReady n ∧ (s.lanes n).all (fun x => decide (2 ≤ x.readyOnes)) then attemptDone n s else s
  else if st = 3 then
    match u.step, u.stepAt with
    | some r, some t =>
      if s.now ≤ t + 1000000 ∧ (s.lanes n).all (fun x => x.flags.testBit 1 && slice x.flags 3 2 == r) then s.setLink n { u with lastStep := true } else s
    | _, _ => s
  else if st = 4 ∧ 2 ≤ (s.lane n i).readyZeros then linkLost n s
  else s

/-- An ALIGN set on a lane with its LANE, ASEQ and FLAGS, its skew behind the earliest lane in symbol times, and whether a
TRAIN burst has come since the ALIGN before it, which adaptation resumes on (R299, R303, R305). -/
def alignReceive (n i : Nat) (ordered : AlignSet) (skew : Nat) (train : Bool) (s : State) : State :=
  let x := s.lane n i
  if ¬ s.receiving n ∨ laneCount n ≤ i ∨ ¬ x.symlock then s
  else
    let f := ordered.flags % 256
    let ready := f.testBit 0
    let s := s.setLane n i { x with
      laneSeen := ordered.lane % 256, flags := f, aseq := ordered.aseq % 256, skew := min 63 skew, missing := 0
      readyOnes := if ready then min 2 (x.readyOnes + 1) else 0
      readyZeros := if ready then 0 else min 2 (x.readyZeros + 1) }
    let s := s.set (F.LNK_STATUS_PARTNER_RATES n) (f / 16)
    let s := if train then linkHeard n s else s
    afterAlign n i (deskewLane n i s)

/-- A SKIP set on the lanes of a link, 2 to 6 symbols long after K28.0 have been inserted or deleted: one decision for all
lanes of the link, which deskew again (R304). -/
def skipReceive (n inserted deleted : Nat) (s : State) : State :=
  if s.receiving n ∧ (s.lanes n).all (fun x => x.symlock) ∧ inserted ≤ deleted + 2 ∧ deleted ≤ inserted + 2 then
    let u := s.link n
    (upto 0 (laneCount n)).foldl (fun s i => deskewLane n i s) (s.setLink n { u with elastic := u.elastic + inserted - deleted })
  else s

/-- ALIGN missing at its position on a lane; the second period in a row loses the link's deskew (R303, R311). -/
def alignMissing (n i : Nat) (s : State) : State :=
  if ¬ s.receiving n ∨ laneCount n ≤ i then s
  else
    let x := s.lane n i
    let m := x.missing + 1
    let s := s.setLane n i { x with missing := min 2 m, readyOnes := 0, readyZeros := 0 }
    if m < 2 then s
    else
      let u := s.link n
      linkLost n (s.setLink n { u with lanes := u.lanes.map (fun e => (e.1, { e.2 with deskewed := false })) })

/-- A lane loses symbol lock (R302, R311). -/
def loseLock (n i : Nat) (s : State) : State :=
  linkLost n (s.setLane n i { s.lane n i with symlock := false, deskewed := false, idles := 0, readyOnes := 0, readyZeros := 0 })

/-- A code group at the running disparity of a lane's receiver: one that is invalid or not allowed on the lane, or of wrong
disparity, is counted (R296, R302, R320). -/
def codeGroupError (n i group : Nat) (rd : Bool) (s : State) : State :=
  let kind := groupKind rd group
  if ¬ s.receiving n ∨ laneCount n ≤ i ∨ kind = .good then s
  else
    let disparity := kind == .disparity
    let x := s.lane n i
    let x := if disparity then { x with disperr := min 0xFFFF (x.disperr + 1) } else { x with codeviol := min 0xFFFF (x.codeviol + 1) }
    let x := { x with errors := x.errors + 1, idles := if x.symlock then x.idles else 0 }
    let s := s.setLane n i x
    let u := s.link n
    let s := if u.errRaised then s else raise (linkSource n 3) (s.setLink n { u with errRaised := true })
    if 4 ≤ x.errors ∧ x.symlock then loseLock n i s else s

/-- Signal detect asserts on a lane; a DOWN link trains again (R301, R310, R312). -/
def signalRise (n i : Nat) (s : State) : State :=
  if laneCount n ≤ i ∨ (s.lane n i).sigdet then s
  else
    let s := s.setLane n i { s.lane n i with sigdet := true }
    if s.linkState n = 5 then firstAttempt n s else s

/-- Signal detect de-asserts on a lane (R301, R302). -/
def signalFall (n i : Nat) (s : State) : State :=
  if laneCount n ≤ i ∨ ¬ (s.lane n i).sigdet then s
  else loseLock n i (s.setLane n i { s.lane n i with sigdet := false })

/-- REFCLK_LANE stops: every lane loses lock (spec/21_pins_startup.md R568). -/
def laneClockLost (s : State) : State :=
  let s := { s with pins := { s.pins with refLane := false } }
  (upto 0 5).foldl (fun s n =>
    let u := s.link n
    linkLost n (s.setLink n { u with lanes := u.lanes.map (fun e => (e.1, { e.2 with
      symlock := false, deskewed := false, idles := 0, readyOnes := 0, readyZeros := 0 })) })) s

/-! ## Registers (R315, R317, R319) -/

/-- The window of R319, which spec/13_afloth_tiling.md R432 takes too for an Afloth link. -/
def State.linkWindow (s : State) (n : Nat) : Bool :=
  if n = 0 then !s.armed 4 0
  else s.modeNow == 0x5 || s.modeNow == 0x4 || s.modeNow == 0xA || s.modeNow == 0x2 || s.modeNow == 0x3

/-- A write of LNK_CFG (R312, R315, R319). -/
def linkCfgWrite (n : Nat) (v : Word) (s : State) : Res :=
  let start := wordField v (F.LNK_CFG_START n)
  let rate := wordField v (F.LNK_CFG_RATE n)
  let enable := wordField v (F.LNK_CFG_ENABLE n)
  if ¬ s.linkWindow n then refuse .window s
  else if n ≠ 0 ∧ (start = 1 ∨ rate ≠ 3) then refuse .value s
  else
    let s := ((s.set (F.LNK_CFG_START n) start).set (F.LNK_CFG_RATE n) rate).set (F.LNK_CFG_ENABLE n) enable
    let s := s.set (F.LNK_STATUS_EXCLUDED n) 0
    okay (if (s.link n).stopped then rateMoved n s
      else if enable = 0 then (if s.linkState n = 0 then rateMoved n s else linkOff n s)
      else retrain n s)

/-- A write of LNK_CTRL (R312). -/
def linkCtrlWrite (n : Nat) (v : Word) (s : State) : Res :=
  if wordField v (F.LNK_CTRL_RETRAIN n) = 0 then okay s
  else
    let s := s.set (F.LNK_STATUS_EXCLUDED n) 0
    okay (if s.linkState n = 0 then s else retrain n s)

/-- A write of LNK_LANESEL. -/
def laneSelWrite (n : Nat) (v : Word) (s : State) : Res :=
  let i := wordField v (F.LNK_LANESEL_LANE n)
  if laneCount n ≤ i then refuse .value s else okay (s.set (F.LNK_LANESEL_LANE n) i)

/-- The preset of band n is due at the next ALIGN outside a push (R317). -/
def presetChanged (s : State) : State := s.setLink 0 { s.link 0 with presetDue := true }

/-- A write of LNK_PRESETn (R317). -/
def presetWrite (n : Nat) (v : Word) (s : State) : Res :=
  let amp := wordField v (F.LNK_PRESET_AMP n)
  let post := wordField v (F.LNK_PRESET_POST n)
  let pre := wordField v (F.LNK_PRESET_PRE n)
  if amp < 16 ∨ 48 < amp ∨ 24 < post ∨ 12 < pre then refuse .value s
  else
    let s := ((s.set (F.LNK_PRESET_AMP n) amp).set (F.LNK_PRESET_POST n) post).set (F.LNK_PRESET_PRE n) pre
    okay (if n = s.mode.dieBand then presetChanged s else s)

/-- LNK_LANEINFO of the selected lane. -/
def laneInfoWord (n : Nat) (s : State) : Word :=
  let x := s.lane n (s.get (F.LNK_LANESEL_LANE n))
  BitVec.ofNat 32 (bit x.sigdet + 2 * bit x.symlock + 4 * bit x.deskewed + 8 * bit x.polarity + 16 * bit x.frozen +
    256 * min 32 x.skew + 65536 * x.laneSeen)

/-- LNK_LANEERR of the selected lane. -/
def laneErrWord (n : Nat) (s : State) : Word :=
  let x := s.lane n (s.get (F.LNK_LANESEL_LANE n))
  BitVec.ofNat 32 (x.codeviol + 65536 * x.disperr)

/-- The counters of the selected lane cleared by a read. -/
def laneErrClear (n : Nat) (s : State) : State :=
  let i := s.get (F.LNK_LANESEL_LANE n)
  s.setLane n i { s.lane n i with codeviol := 0, disperr := 0 }

/-! ## The commands -/

/-- LINK_CFG_WRITE (R312, R319). -/
def execLinkCfgWrite (who : Requester) (link : Fin 5) (value : Word) (s : State) : Host.Outcome State Fault Refusal :=
  whenLive s (request who (R.LNK_CFG link.val) (linkCfgWrite link.val value))

/-- LINK_RETRAIN (R312). -/
def execLinkRetrain (who : Requester) (link : Fin 5) (s : State) : Host.Outcome State Fault Refusal :=
  whenLive s (request who (R.LNK_CTRL link.val) (linkCtrlWrite link.val 1))

/-- IDLE_RECEIVE (R302). -/
def execIdleReceive (link : Fin 5) (lane : Fin 8) (ordered : IdleSet) (s : State) :
    Host.Outcome State Fault Refusal :=
  whenLive s (idleReceive link.val lane.val ordered.alignment.val ordered.inverted)

/-- ALIGN_RECEIVE (R299). -/
def execAlignReceive (link : Fin 5) (lane : Fin 8) (ordered : AlignSet) (skew : Nat) (train : Bool) (s : State) :
    Host.Outcome State Fault Refusal :=
  whenLive s (alignReceive link.val lane.val ordered skew train)

/-- SKIP_RECEIVE (R304). -/
def execSkipReceive (link : Fin 5) (inserted deleted : Nat) (s : State) : Host.Outcome State Fault Refusal :=
  whenLive s (skipReceive link.val inserted deleted)

/-- CODE_GROUP_ERROR (R296). -/
def execCodeGroupError (link : Fin 5) (lane : Fin 8) (group : CodeGroup) (s : State) :
    Host.Outcome State Fault Refusal :=
  whenLive s (codeGroupError link.val lane.val group.bits.val group.positive)

/-- SIGNAL_DETECT_RISE (R310). -/
def execSignalDetectRise (link : Fin 5) (lane : Fin 8) (s : State) : Host.Outcome State Fault Refusal :=
  whenLive s (signalRise link.val lane.val)

/-- SIGNAL_DETECT_FALL (R301). -/
def execSignalDetectFall (link : Fin 5) (lane : Fin 8) (s : State) : Host.Outcome State Fault Refusal :=
  whenLive s (signalFall link.val lane.val)

/-- ATTEMPT_TIMEOUT (R309). -/
def execAttemptTimeout (link : Fin 5) (s : State) : Host.Outcome State Fault Refusal := whenLive s (attemptTimeout link.val)

/-- BACKOFF_END (R309). -/
def execBackoffEnd (link : Fin 5) (s : State) : Host.Outcome State Fault Refusal := whenLive s (backoffEnd link.val)

/-- STEP_ECHO_TIMEOUT (R314). -/
def execStepEchoTimeout (link : Fin 5) (s : State) : Host.Outcome State Fault Refusal := whenLive s (stepEchoTimeout link.val)

/-- SILENT_END (R313). -/
def execSilentEnd (link : Fin 5) (s : State) : Host.Outcome State Fault Refusal := whenLive s (silentEnd link.val)

/-- LANE_PERIOD_START (R298). -/
def execLanePeriodStart (link : Fin 5) (s : State) : Host.Outcome State Fault Refusal := 
  whenLive s (fun s => if s.get (F.LNK_LOOP_MODE link.val) = 0 then lanePeriod link.val s else patternPeriod link.val s)

/-- IDLE_TRAIN_DUE (R306). -/
def execIdleTrainDue (link : Fin 5) (s : State) : Host.Outcome State Fault Refusal := whenLive s (idleTrainDue link.val)

/-- ADAPT_FREEZE (R305). -/
def execAdaptFreeze (link : Fin 5) (lane : Fin 8) (s : State) : Host.Outcome State Fault Refusal :=
  whenLive s (adaptFreeze link.val lane.val)

/-- LNK_PRESET_WRITE (R317). -/
def execLnkPresetWrite (who : Requester) (n : Fin 4) (value : Word) (s : State) : Host.Outcome State Fault Refusal :=
  whenLive s (request who (R.LNK_PRESET n.val) (presetWrite n.val value))

/-- ALIGN_MISSING (R303). -/
def execAlignMissing (link : Fin 5) (lane : Fin 8) (s : State) : Host.Outcome State Fault Refusal :=
  whenLive s (alignMissing link.val lane.val)

/-- TRAINING_PHASE_END (R308). -/
def execTrainingPhaseEnd (link : Fin 5) (s : State) : Host.Outcome State Fault Refusal := whenLive s (trainingPhaseEnd link.val)

/-- REFCLK_LANE_LOSS (spec/21_pins_startup.md R568). -/
def execRefclkLaneLoss (s : State) : Host.Outcome State Fault Refusal := whenLive s laneClockLost

end Sys2Proof.Machine
end

