-- ==== Sys2Proof/Machine/HbmRate.lean ====
section
/-! DEFINITION. The memory stacks: where a memory byte lies, the bank queues, refresh, masks and the data rate
(spec/14_hbm_controller.md R434 to R446, R450 to R452). -/

namespace Sys2Proof.Machine

/-! ## Mapping (R435, R436) -/

/-- Bytes of a stack. -/
def stackBytes : Nat := 25769803776

/-- The place of a memory byte: pseudo-channel 0 to 63 (32 × stack + pcsel), bank 16 × SID + bank, row, column. -/
structure MemPlace where
  pc : Nat
  bank : Nat
  row : Nat
  col : Nat
  deriving DecidableEq, Repr

/-- R436. -/
def memPlace (m : Nat) : MemPlace :=
  let st := m / stackBytes
  let a := m % stackBytes
  let pcsel := (a / 256 % 32) ^^^ (a / 8192 % 32)
  let l := a / 8192 * 256 + a % 256
  let q := l / 1024
  let row := q / 48
  ⟨32 * st + pcsel, 16 * (q / 16 % 3) + ((q % 16) ^^^ (row % 16)), row, l / 32 % 32⟩

/-- The controller of a pseudo-channel. -/
def ctrlOf (pc : Nat) : Nat := pc / 2

/-- The controllers of a stack. -/
def stackCtrls (k : Nat) : List Nat := upto (16 * k) 16

/-- The pseudo-channels of a stack. -/
def stackPcs (k : Nat) : List Nat := upto (32 * k) 32

/-! ## State access -/

/-- A pseudo-channel. -/
def State.pc (s : State) (p : Nat) : PcState := tabGet {} s.mem.pcs p

/-- A pseudo-channel replaced. -/
def State.setPc (s : State) (p : Nat) (x : PcState) : State :=
  { s with mem := { s.mem with pcs := tabPut {} s.mem.pcs p x } }

/-- A stack. -/
def State.stack (s : State) (k : Nat) : StackState := tabGet {} s.mem.stackUnits k

/-- A stack replaced. -/
def State.setStack (s : State) (k : Nat) (x : StackState) : State :=
  { s with mem := { s.mem with stackUnits := tabPut {} s.mem.stackUnits k x } }

/-- A bank of a pseudo-channel. -/
def PcState.bank (x : PcState) (b : Nat) : BankState := tabGet {} x.banks b

/-- A bank replaced. -/
def PcState.setBank (x : PcState) (b : Nat) (y : BankState) : PcState := { x with banks := tabPut {} x.banks b y }

/-! ## Queues (R438, R441, R442) -/

/-- Requests of a bank queue, without what the controller adds itself. -/
def BankState.load (y : BankState) : Nat := (y.queue.filter (fun r => r.kind == 0)).length

/-- Writes that a pseudo-channel holds in its bank queues. -/
def PcState.writes (x : PcState) : List MemReq := x.banks.flatMap (fun e => e.2.queue.filter (fun r => r.write))

/-- In-order mode: a queued write is older than a queued read of its row (R442). -/
def inOrder : List MemReq → Bool
  | [] => false
  | r :: t => (r.write && t.any (fun q => !q.write && q.row == r.row && q.kind == 0)) || inOrder t

/-- INORDER of a controller follows its queues. -/
def orderLevel (c : Nat) (s : State) : State :=
  let on := fun p => (s.pc (2 * c + p)).banks.any (fun e => inOrder e.2.queue)
  s.set (F.HBM_STATUS_INORDER c) (bit (on 0) + 2 * bit (on 1))

/-- The stack of a pseudo-channel takes no request: a change of its rate or a PHY loopback runs (R452;
spec/20_test_identity.md R546). -/
def State.pcHeld (s : State) (p : Nat) : Bool := s.flag (F.HBM_STATUS_SELFREF (ctrlOf p)) || s.flag (F.HBM_FREQSTAT_ACTIVE (p / 32))

/-- The head of a pseudo-channel's input enters its bank queue while there is room (R438). -/
def drainInput : Nat → PcState → PcState
  | 0, x => x
  | n + 1, x =>
    match x.input with
    | [] => x
    | (b, r) :: t =>
      let y := x.bank b
      if 16 ≤ y.load then x
      else drainInput n (PcState.setBank { x with input := t } b { y with queue := y.queue ++ [r] })

/-- The input of pseudo-channel p enters its bank queues unless the stack holds requests. -/
def takeInput (p : Nat) (s : State) : State :=
  if s.pcHeld p then s
  else
    let x := s.pc p
    orderLevel (ctrlOf p) (s.setPc p (drainInput x.input.length x))

/-! ## Refresh (R443, R444) -/

/-- tREFI of a band in ns. -/
def bandRefi (band : Nat) : Nat := if band ≤ 1 then 3900 else if band = 2 then 1950 else 975

/-- HBM_STATUS.REFI of a tREFI. -/
def refiCode (refi : Nat) : Nat := if refi = 3900 then 0 else if refi = 1950 then 1 else 2

/-- HBM_STATUS.REFI of a controller: the shorter interval of its two pseudo-channels. -/
def refiLevel (c : Nat) (s : State) : State :=
  s.set (F.HBM_STATUS_REFI c) (refiCode (min (s.pc (2 * c)).refi (s.pc (2 * c + 1)).refi))

/-- A bank is precharged: the neighbour refreshes drawn while its row was open go to the head of its queue (R445). -/
def prechargeBank (t : Nat) (y : BankState) : BankState :=
  { y with openRow := none, hits := 0, due := []
           queue := y.due.map (fun r => { id := 0, write := false, row := r, word := 0, data := [], at_ := t, kind := 1 }) ++ y.queue }

/-- Neighbour refreshes that the precharge of some banks brings are counted (R445). -/
def countNeighbours (p : Nat) (banks : List BankState) (s : State) : State :=
  s.bumpBy (F.HBM_NRCNT_COUNT (ctrlOf p)) (banks.filter (fun y => !y.due.isEmpty)).length

/-- All banks of a pseudo-channel are precharged. -/
def prechargeAll (p : Nat) (s : State) : State :=
  let x := s.pc p
  countNeighbours p (x.banks.map (fun e => e.2))
    (s.setPc p { x with banks := x.banks.map (fun e => (e.1, prechargeBank s.now e.2)) })

/-- REFab of pseudo-channel p (R443, R444). -/
def refreshPc (p : Nat) (s : State) : State :=
  let s := prechargeAll p s
  let x := s.pc p
  refiLevel (ctrlOf p) (s.setPc p { x with lastRefresh := s.now, refi := x.nextRefi, busyUntil := s.now + 350 })

/-- The stack's band brings a new tREFI (R444); a stack in self-refresh refreshes itself (R452). -/
def stackRefi (k band : Nat) (s : State) : State :=
  let r := bandRefi band
  (stackPcs k).foldl (fun s p =>
    let x := s.pc p
    if r < x.refi then
      let s := refiLevel (ctrlOf p) (s.setPc p { x with refi := r, nextRefi := r })
      if x.lastRefresh + r < s.now ∧ ¬ s.pcHeld p then refreshPc p s else s
    else s.setPc p { x with nextRefi := r }) s

/-- The refresh phase of stack k starts now (R443). -/
def startRefresh (k : Nat) (s : State) : State :=
  (stackPcs k).foldl (fun s p =>
    let x := s.pc p
    s.setPc p { x with lastRefresh := s.now + p % 32 * x.refi / 32 }) s

/-! ## Rates (R450 to R452) -/

/-- The rate that R450 and R451 ask for, none where no rate is available. -/
def State.wantedRate (s : State) (k : Nat) : Option Nat :=
  let avail := s.get (F.HBM_FREQSTAT_AVAIL k)
  let low := min (s.get (F.HBM_FREQCTL_TARGET k)) (s.get (F.HBM_FREQSTAT_CEILING k))
  match (upto 0 (low + 1)).reverse.find? (fun r => avail.testBit r) with
  | some r => some r
  | none => (upto 0 4).find? (fun r => avail.testBit r)

/-- PENDING follows the rate asked for (R450). -/
def rateCheck (k : Nat) (s : State) : State :=
  let now := if s.flag (F.HBM_FREQSTAT_ACTIVE k) then (s.stack k).next else s.get (F.HBM_FREQSTAT_IN_FORCE k)
  s.set (F.HBM_FREQSTAT_PENDING k) (bit (match s.wantedRate k with | some r => r != now | none => false))

/-- The thermal ceiling of a stack (R450; spec/18_modes_power_thermal.md R521). -/
def setMemCeiling (k c : Nat) (s : State) : State := rateCheck k (s.set (F.HBM_FREQSTAT_CEILING k) c)

/-- Ceilings of R521: 1.6 in STANDBY and SAFE, 4.8 in THROTTLED for a stack in band D, else 6.4 Gb/s/pin. -/
def memCeilings (s : State) : State :=
  [0, 1].foldl (fun s k =>
    let c := if s.modeNow = 0x3 ∨ s.modeNow = 0xC then 0
      else if s.modeNow = 0xB ∧ tabGet 0 s.mode.stackBand k = 3 then 2 else 3
    if c = s.get (F.HBM_FREQSTAT_CEILING k) then s else setMemCeiling k c s) s

/-! ## Masks (R445, R446) -/

/-- The row-adjacency masks of a stack take force, or there are none: NR_NOMASK, and one error-log entry of each
controller per epoch (R446). -/
def setMasks (k : Nat) (m : Option (Nat × Nat)) (s : State) : State :=
  let s := s.setStack k { s.stack k with masks := m }
  (stackCtrls k).foldl (fun s c =>
    let s := s.set (F.HBM_STATUS_NR_NOMASK c) (bit m.isNone)
    if m.isSome ∨ s.mem.noMaskLogged.contains c then s
    else report (864 + 2 * c) 0 0 { s with mem := { s.mem with noMaskLogged := setInsert c s.mem.noMaskLogged } }) s

end Sys2Proof.Machine
end

