-- ==== Sys2Proof/Machine/Sizing.lean ====
section
/-! DEFINITION. Sizing records: the copies in flash, staging, taking force and writing back
(spec/19_sizing_records.md R535 to R543). -/

namespace Sys2Proof.Machine

/-- The state with its sizing part replaced. -/
def State.withSiz (s : State) (x : SizState) : State := { s with siz := x }

/-- The key of a record. -/
def sizKey (type inst : Nat) : Nat := 16 * type + inst

/-- A word with fields within the ranges of LNK_PRESETn and reserved bits 0 (R538). -/
def presetWordOk (w : Nat) : Bool :=
  let v : Word := BitVec.ofNat 32 w
  let amp := wordField v (F.LNK_PRESET_AMP 0)
  let post := wordField v (F.LNK_PRESET_POST 0)
  let pre := wordField v (F.LNK_PRESET_PRE 0)
  decide (16 ≤ amp) && decide (amp ≤ 48) && decide (post ≤ 24) && decide (pre ≤ 12) &&
  w == amp * 2 ^ (F.LNK_PRESET_AMP 0).lo + post * 2 ^ (F.LNK_PRESET_POST 0).lo + pre * 2 ^ (F.LNK_PRESET_PRE 0).lo

/-- The limits of R538 and R539 on the state. -/
def State.sizLimits (s : State) : SizLimits := ⟨s.geom, s.get F.SIZ_LIMIT_STEP_DXY, s.get F.SIZ_LIMIT_STEP_RS⟩

/-- SIZ_TYPES shows which types have a record in force. -/
def showTypes (s : State) : State :=
  s.set F.SIZ_TYPES_IN_FORCE ((upto 1 6).foldl (fun acc t =>
    if s.siz.inForce.any (fun e => e.1 / 16 == t) then acc + 2 ^ (t - 1) else acc) 0)

/-- A check of a set or record failed: one error-log entry, whose SOURCE the manual does not give, and MAP_REJECT for a map
(R540). -/
def sizReject (code type entry : Nat) (s : State) : State :=
  let (n, s) := s.draw
  let s := report (n % 960) (256 * type + code) 0 s
  if type = 6 then raise 577 (s.set F.CONF_MAPENTRY_ENTRY entry) else s

/-- SIZ_STATUS after an operation (R539). -/
def sizResult (code type entry : Nat) (s : State) : State :=
  let s := (s.set F.SIZ_STATUS_ERR code).set F.SIZ_STATUS_FAIL_TYPE type
  s.set F.SIZ_ENTRY_ENTRY entry

/-- An operation ends. -/
def sizEnd (s : State) : State := (s.withSiz { s.siz with op := 0, bytes := none }).set F.SIZ_STATUS_BUSY 0

/-! ## Taking force (R541, R542) -/

/-- The stack and rate of a training record's INSTANCE (R537). -/
def trainTarget (inst : Nat) : Nat × Nat := (inst % 2, inst / 2 % 4)

/-- A record of TYPE 1 to 4 takes force: presets, training and masks reach the units that use them; diode trims are read
from the record at each reading. -/
def applyRecord (type inst : Nat) (body : List Byte) (s : State) : State :=
  if type = 2 then
    presetChanged ((upto 0 4).foldl (fun s i => s.setWord (R.LNK_PRESET i) (BitVec.ofNat 32 (leAt body (4 * i) 4))) s)
  else if type = 3 then
    let (k, r) := trainTarget inst
    let t := (s.stack k).trained
    let s := s.setStack k { s.stack k with trained := if t.testBit r then t else t + 2 ^ r }
    s.set (F.HBM_FREQSTAT_AVAIL k) (s.stack k).trained
  else if type = 4 then setMasks (inst % 2) (some (leAt body 0 2, leAt body 2 2)) s
  else s

/-- The records that wait for a structure epoch or mode change take force (R541). -/
def takeEpochRecords (s : State) : State :=
  if s.siz.epoch.isEmpty then s
  else
    let es := s.siz.epoch
    let s := s.withSiz { s.siz with epoch := [], inForce := es.foldl (fun t e => tabInsert t e.1 e.2) s.siz.inForce }
    showTypes ((es.foldl (fun s e => applyRecord (e.1 / 16) (e.1 % 16) e.2 s) s).set F.SIZ_STATUS_PEND_EPOCH 0)

/-- The colour matrix of a record takes force (R541, spec/07_conformer.md R256). -/
def setMatrix (body : List Byte) (s : State) : State :=
  (upto 0 9).foldl (fun s i =>
    s.set (if i % 2 = 0 then F.CONF_MATRIX_COEF_LO (i / 2) else F.CONF_MATRIX_COEF_HI (i / 2)) (leAt body (2 * i) 2)) s

/-- PEND_FENCE as the staged records stand. -/
def showFence (s : State) : State := s.set F.SIZ_STATUS_PEND_FENCE (bit (!s.siz.fence.isEmpty))

/-- A fence takes a staged colour-matrix record. -/
def takeMatrixRecord (s : State) : State :=
  match tabFind s.siz.fence (sizKey 5 0) with
  | none => s
  | some body =>
    let s := s.withSiz { s.siz with fence := tabErase s.siz.fence (sizKey 5 0), inForce := tabInsert s.siz.inForce (sizKey 5 0) body }
    showTypes (showFence (setMatrix body s))

/-- CONF_MAPSTATUS.ERR after a map record is offered at a fence: 0 where it passes, else the first code of
spec/07_conformer.md R245 that it fails. -/
def recordMapErr (g : Geom) (r : SizRecord) : Nat :=
  match sizMap r with
  | none => 2
  | some m =>
    let c := (mapHeaderCheck g m).1
    if c ≠ 0 then c else if m.length ≠ mapBytes g then 4 else 7

/-- A map record that is offered at a fence fails: reported as R540 states and shown in CONF_MAPSTATUS.ERR
(spec/07_conformer.md R245 step 5, R247). -/
def mapRecordFails (r : SizRecord) (code entry : Nat) (s : State) : State :=
  (sizReject code 6 entry (sizResult code 6 entry s)).set F.CONF_MAPSTATUS_ERR (recordMapErr s.geom r)

/-- A map record takes force in the inactive copy. -/
def mapRecordTakes (m : List Byte) (s : State) : State :=
  mapTakeBytes m 1 (writeMapCopy (1 - s.conf.mapCopy) m (s.set F.CONF_MAPSTATUS_ERR 0))

/-- A fence takes a staged map record, or offers the one in force again; it waits while a host map is pending unless it has
been decompressed already. A staged record that no longer agrees with the descriptor is dropped (R542,
spec/07_conformer.md R247). -/
def takeMapRecord (s : State) : State :=
  let key := sizKey 6 0
  let free := !s.flag F.CONF_MAPSTATUS_PENDING
  match tabFind s.siz.fence key with
  | some body =>
    if ¬ (s.siz.ready || free) then s
    else
      let r : SizRecord := ⟨6, 0, body, true, true⟩
      let s := showFence (s.withSiz { s.siz with fence := tabErase s.siz.fence key, ready := false })
      if sizMapBad s.sizLimits r then mapRecordFails r 7 0 s
      else
        let s := showTypes (s.withSiz { s.siz with inForce := tabInsert s.siz.inForce key body, offer := false, fresh := false })
        match sizMap r with
        | some m => mapRecordTakes m s
        | none => s
  | none =>
    match tabFind s.siz.inForce key with
    | none => s
    | some body =>
      if ¬ (s.siz.offer && free) then s
      else
        let r : SizRecord := ⟨6, 0, body, true, true⟩
        let fresh := s.siz.fresh
        let s := s.withSiz { s.siz with offer := false, fresh := false }
        match if fresh then sizRecordCheck s.sizLimits presetWordOk r else (if sizMapBad s.sizLimits r then 7 else 0, 0) with
        | (0, _) =>
          match sizMap r with
          | some m => mapRecordTakes m s
          | none => s
        | (c, e) => mapRecordFails r c e s

/-- The map record in force is offered again at the next fence (R542). -/
def offerMap (s : State) : State :=
  if (tabFind s.siz.inForce (sizKey 6 0)).isSome then s.withSiz { s.siz with offer := true } else s

/-! ## The set at reset (R535) -/

/-- The bytes of a copy that pass checks 0x1 and 0x2. -/
def State.sizCopy (s : State) (copy : Nat) : Option (List Byte) :=
  let base := copy * 0x800000
  let len := leAt (s.flashRead base 64) 12 4
  if len > 0x800000 then none
  else match sizSetCheck (s.flashRead base (max len 64)) with
    | (0, bs) => some bs
    | _ => none

/-- The copy that R535 chooses, with its number. -/
def State.sizChoice (s : State) : Option (Nat × List Byte) :=
  match s.sizCopy 0, s.sizCopy 1 with
  | none, none => none
  | some a, none => some (0, a)
  | none, some b => some (1, b)
  | some a, some b => if leAt a 8 4 < leAt b 8 4 then some (1, b) else some (0, a)

/-- One record of the chosen copy is checked and used, or reported and left out. A map's agreement with a descriptor can be
checked only once one is in force. -/
def readRecord (s : State) (r : SizRecord) : State :=
  let check := if r.type = 6 ∧ ¬ s.hasGeom then
      (if sizLengthBad 6 r.body.length ∨ sizMap r = none then (5, 0) else (0, 0))
    else sizRecordCheck s.sizLimits presetWordOk r
  let (code, entry) : Nat × Nat := if ¬ r.headerGood ∨ (tabFind s.siz.inForce (sizKey r.type r.instance_)).isSome then (3, 0)
    else if ¬ r.crcGood then (4, 0)
    else check
  if code ≠ 0 then sizReject code r.type entry s
  else
    let s := s.withSiz { s.siz with inForce := tabInsert s.siz.inForce (sizKey r.type r.instance_) r.body }
    if r.type = 5 then setMatrix r.body s
    else if r.type = 6 then s.withSiz { s.siz with fresh := !s.hasGeom }
    else applyRecord r.type r.instance_ r.body s

/-- The sizing set is read at the release of RESET_N (R535). -/
def sizBoot (s : State) : State :=
  let s := s.withSiz {}
  match s.sizChoice with
  | none => showTypes s
  | some (copy, bs) =>
    let s := (s.set F.SIZ_STATUS_COPY (copy + 1)).setWord R.SIZ_SEQ (BitVec.ofNat 32 (leAt bs 8 4))
    showTypes ((sizSetRecords bs).foldl readRecord s)

/-! ## Operations (R543) -/

/-- The bytes that SIZ_SRC, SIZ_OFF and SIZ_LEN name, none where check 0x8 fails. -/
def State.sizSource (s : State) : Option (List Byte) :=
  match s.pool (s.get F.SIZ_SRC_POOL_ID) with
  | none => none
  | some p =>
    let off := 64 * (s.word R.SIZ_OFF).toNat
    let n := (s.word R.SIZ_LEN).toNat
    if (p.kind = 0 ∨ p.kind = 9) ∧ off + n ≤ poolBytes p then some (s.poolRead p off n) else none

/-- OP 0x1, STAGE. -/
def sizStage (s : State) : Res :=
  if s.modeNow ≠ 0x4 then refuse .mode s
  else if s.flag F.SIZ_STATUS_BUSY ∨ s.flag F.SIZ_STATUS_PEND_FENCE ∨ s.flag F.SIZ_STATUS_PEND_EPOCH then refuse .busy s
  else if s.word R.SIZ_LEN = 0 then refuse .value s
  else okay ((s.withSiz { s.siz with op := 1, bytes := s.sizSource }).set F.SIZ_STATUS_BUSY 1)

/-- The records of a set that passed are staged (R541). -/
def sizTake (rs : List SizRecord) (s : State) : State :=
  let put := fun (t : Tab (List Byte)) (r : SizRecord) => tabInsert t (sizKey r.type r.instance_) r.body
  let s := s.withSiz { s.siz with
    fence := (rs.filter (fun r => decide (5 ≤ r.type))).foldl put s.siz.fence
    epoch := (rs.filter (fun r => decide (r.type < 5))).foldl put s.siz.epoch
    ready := rs.any (fun r => r.type == 6) && !s.flag F.CONF_MAPSTATUS_PENDING }
  (showFence s).set F.SIZ_STATUS_PEND_EPOCH (bit (!s.siz.epoch.isEmpty))

/-- SIZING_STAGE_DONE: the checks of R539 end. -/
def sizStageDone (s : State) : State :=
  if s.siz.op ≠ 1 then s
  else
    let (code, type, entry, rs) : Nat × Nat × Nat × List SizRecord := match s.siz.bytes with
      | none => (8, 0, 0, [])
      | some bs => match sizSetCheck bs with
        | (0, set) =>
          let rs := sizSetRecords set
          let (c, t, e) := sizCheckRecords s.sizLimits presetWordOk (leAt set 6 2) rs
          (c, t, e, rs)
        | (c, _) => (c, 0, 0, [])
    let s := sizResult code type entry (sizEnd s)
    let s := if rs.any (fun r => r.type == 6) then yieldFuller s else s
    if code = 0 then sizTake rs s else sizReject code type entry s

/-- The copy that a WRITE programs: the other one; copy 0 where none was chosen. -/
def State.sizOther (s : State) : Nat := if s.get F.SIZ_STATUS_COPY = 1 then 1 else 0

/-- OP 0x2, WRITE: the set in force is built and the other copy erased. -/
def sizWrite (who : Requester) (s : State) : Res :=
  if s.privilege who < 3 then refuse .privilege s
  else if s.modeNow ≠ 0x4 ∧ s.modeNow ≠ 0x5 then refuse .mode s
  else if s.flag F.SIZ_STATUS_BUSY then refuse .busy s
  else
    let seq := ((s.word R.SIZ_SEQ).toNat + 1) % 2 ^ 32
    let bs := sizBuild seq (s.siz.inForce.map (fun e => (e.1 / 16, e.1 % 16, e.2)))
    let s := s.flashErase (s.sizOther * 0x800000) 0x800000
    okay ((s.withSiz { s.siz with op := 2, bytes := some bs }).set F.SIZ_STATUS_BUSY 1)

/-- SIZING_WRITE_DONE: the copy is programmed and read back; where the read-back does not match, what it holds is open
(R539 check 0x9). -/
def sizWriteDone (agrees : Bool) (s : State) : State :=
  match s.siz.op, s.siz.bytes with
  | 2, some bs =>
    let copy := s.sizOther
    let s := sizEnd s
    if agrees then
      let s := s.flashWrite (copy * 0x800000) bs
      sizResult 0 0 0 ((s.set F.SIZ_STATUS_COPY (copy + 1)).setWord R.SIZ_SEQ (BitVec.ofNat 32 (leAt bs 8 4)))
    else
      let (free, s) := s.drawBytes bs.length
      let s := s.flashWrite (copy * 0x800000) free
      sizReject 9 0 0 (sizResult 9 0 0 s)
  | _, _ => s

/-- OP 0x3, DISCARD. -/
def sizDiscard (s : State) : Res :=
  if s.flag F.SIZ_STATUS_BUSY then refuse .busy s
  else
    let s := s.withSiz { s.siz with fence := [], epoch := [], ready := false }
    okay ((s.set F.SIZ_STATUS_PEND_FENCE 0).set F.SIZ_STATUS_PEND_EPOCH 0)

/-- A write of SIZ_CTRL. -/
def sizCtrlWrite (who : Requester) (v : Word) (s : State) : Res :=
  let op := wordField v F.SIZ_CTRL_OP
  if op = 1 then sizStage s
  else if op = 2 then sizWrite who s
  else if op = 3 then sizDiscard s
  else okay s

/-- A write of SIZ_LEN: a multiple of 64 up to 8,388,608; 0 is refused only at STAGE. -/
def sizLenWrite (v : Word) (s : State) : Res :=
  if v.toNat % 64 ≠ 0 ∨ v.toNat > 8388608 then refuse .value s else okay (s.setWord R.SIZ_LEN v)

/-! ## The commands -/

/-- SIZING_STAGE (R543). -/
def execSizingStage (who : Requester) (s : State) : Host.Outcome State Fault Refusal :=
  whenLive s (request who R.SIZ_CTRL sizStage)

/-- SIZING_WRITE (R543). -/
def execSizingWrite (who : Requester) (s : State) : Host.Outcome State Fault Refusal :=
  whenLive s (request who R.SIZ_CTRL (sizWrite who))

/-- SIZING_DISCARD (R543). -/
def execSizingDiscard (who : Requester) (s : State) : Host.Outcome State Fault Refusal :=
  whenLive s (request who R.SIZ_CTRL sizDiscard)

/-- SIZING_STAGE_DONE (R539). -/
def execSizingStageDone (s : State) : Host.Outcome State Fault Refusal := whenLive s sizStageDone

/-- SIZING_WRITE_DONE (R543). -/
def execSizingWriteDone (agrees : Bool) (s : State) : Host.Outcome State Fault Refusal := whenLive s (sizWriteDone agrees)

end Sys2Proof.Machine
end

