-- ==== Sys2Proof/Machine/Events.lean ====
section
/-! DEFINITION. The event controller's registers, the hold-off windows and the error-log writer (spec/17_events_errors.md
R491 to R511). -/

namespace Sys2Proof.Machine

/-! ## Claim, completion and clearing -/

/-- A write of EVT_CLAIM (R496). -/
def evtClaim (v : Word) (s : State) : Res :=
  let src := wordField v F.EVT_CLAIM_SOURCE
  if ¬ s.isPending src then refuse .state s
  else if s.isActive src then refuse .inUse s
  else
    let s := s.set (sourceField R.EVT_ACTIVE src) 1
    let s := { s with evt := { s.evt with claimer := tabInsert s.evt.claimer src (wordField v F.EVT_CLAIM_TARGET) } }
    okay (if isLevel src then s else s.set (sourceField R.EVT_PEND src) 0)

/-- A write of EVT_DONE (R497, R498). -/
def evtDone (v : Word) (s : State) : Res :=
  let src := wordField v F.EVT_DONE_SOURCE
  if s.isActive src then
    let t := s.set (sourceField R.EVT_ACTIVE src) 0
    let t := { t with evt := { t.evt with claimer := tabErase t.evt.claimer src } }
    okay (startNewWindows s [src] t)
  else okay ((s.bump F.EVT_STRAY_COUNT).set F.EVT_STRAY_LAST src)

/-- A write of EVT_PENDn clears the edge sources whose bits are 1 (R494). -/
def evtPendClear (n : Nat) (v : Word) (s : State) : Res :=
  okay ((upto (32 * n) 32).foldl
    (fun s src => if v.toNat.testBit (src % 32) && !isLevel src then s.set (sourceField R.EVT_PEND src) 0 else s) s)

/-! ## Software-triggered sources -/

/-- A write of EVT_SWSET raises sources 992 to 1,007 by its bits (R504). -/
def evtSwset (v : Word) (s : State) : Res :=
  okay ((upto 0 16).foldl (fun s i => if v.toNat.testBit i then raise (992 + i) s else s) s)

/-- A write of EVT_SWLEVEL sets and clears the conditions of sources 1,008 to 1,023 (R504). -/
def evtSwlevel (v : Word) (s : State) : Res :=
  okay ((upto 0 16).foldl (fun s i => setCond (1008 + i) (v.toNat.testBit i) s)
    (s.set F.EVT_SWLEVEL_CONDITION (wordField v F.EVT_SWLEVEL_CONDITION)))

/-! ## Group settings -/

/-- A write of EVT_ENn: bits of reserved sources are ignored; sources that become visible start windows. -/
def evtEnable (n : Nat) (v : Word) (s : State) : Res :=
  let srcs := upto (32 * n) 32
  let t := srcs.foldl
    (fun t src => if sourceDefined src then t.set (sourceField R.EVT_EN src) (bit (v.toNat.testBit (src % 32))) else t) s
  okay (startNewWindows s srcs t)

/-- A write of EVT_GRPg: LOG, TARGETS and HOLDOFF (R501, R503). -/
def evtGroup (g : Nat) (v : Word) (s : State) : Res :=
  let t := ((s.set (F.EVT_GRP_LOG g) (wordField v (F.EVT_GRP_LOG g))).set (F.EVT_GRP_TARGETS g)
    (wordField v (F.EVT_GRP_TARGETS g))).set (F.EVT_GRP_HOLDOFF g) (wordField v (F.EVT_GRP_HOLDOFF g))
  okay (startNewWindows s (upto (16 * g) 16) t)

/-! ## Host event channels -/

/-- A host channel forgets its flight and its snapshot. -/
def dropChannel (t : Nat) (s : State) : State :=
  { s with kcp := { s.kcp with channels := tabErase s.kcp.channels t } }

/-- A channel is unbound; REPEAT_MS stays (R500). -/
def unbindChannel (t : Nat) (s : State) : State :=
  (dropChannel t s).set (F.EVT_HOST_BIND t) 0 |>.set (F.EVT_HOST_SESSION t) 0

/-- A write of EVT_HOSTt, t = 4 to 7 (R500). A binding write needs a session: firmware's is answered STATE (assumption
log entry 7). -/
def evtHost (who : Requester) (t : Nat) (v : Word) (s : State) : Res :=
  let bound := s.flag (F.EVT_HOST_BIND t)
  let owner := s.get (F.EVT_HOST_SESSION t)
  let repeat_ := fun s : State => s.set (F.EVT_HOST_REPEAT_MS t) (wordField v (F.EVT_HOST_REPEAT_MS t))
  let mine := match who with
    | .firmware => false
    | .session n => owner == n.val
  if bound && !mine then refuse .inUse s
  else if wordField v (F.EVT_HOST_BIND t) = 0 then okay (repeat_ (if bound then unbindChannel t s else s))
  else match who with
    | .firmware => refuse .state s
    | .session n =>
      if bound then okay (repeat_ s)
      else okay (repeat_ (((dropChannel t s).set (F.EVT_HOST_BIND t) 1).set (F.EVT_HOST_SESSION t) n.val))

/-! ## Hold-off windows -/

/-- A group's window ends: its held sources are released, and a new window starts when any of them is then visible
(R501 step 3). -/
def endWindow (g : Nat) (s : State) : State :=
  let mine := s.evt.held.filter (fun x => x / 16 == g)
  let t := { s with evt := { s.evt with
    window := tabErase s.evt.window g
    snap := s.evt.snap.filter (fun x => x / 16 != g)
    held := s.evt.held.filter (fun x => x / 16 != g) } }
  startNewWindows s mine (t.set (F.EVT_GRP_HELD g) 0)

/-- A window whose time has come ends. -/
def windowEndDue (g : Nat) (s : State) : State :=
  match tabGet none s.evt.window g with
  | some t => if s.now ≥ t then endWindow g s else s
  | none => s

/-- The EVENTS section takes force at a load: HOLDOFF, TARGETS, ENABLE and LOG, then the windows end (R78, R503). -/
def loadEvents (groups : List (Nat × Nat × Nat)) (s : State) : State :=
  let set1 := fun (s : State) (p : Nat × Nat × Nat × Nat) =>
    let (g, h, tg, en) := p
    let s := ((s.set (F.EVT_GRP_HOLDOFF g) h).set (F.EVT_GRP_TARGETS g) tg).set (F.EVT_GRP_LOG g) 1
    (upto (16 * g) 16).foldl
      (fun s src => s.set (sourceField R.EVT_EN src) (if sourceDefined src then bit (en.testBit (src % 16)) else 0)) s
  let t := ((upto 0 groups.length).zip groups).foldl set1 s
  let windows := s.evt.window.map (fun e => e.1)
  let t := startNewWindows s ((upto 0 1024).filter (fun x => (tabGet none s.evt.window (x / 16)).isNone)) t
  windows.foldl (fun s g => endWindow g s) t

/-! ## The error-log writer -/

/-- The DETAIL of an entry and its fields, 32 bytes little-endian (R506). -/
def entryBytes (seq : Nat) (e : LogEntry) : List Byte :=
  leBytes seq 4 ++ leBytes e.source 2 ++ leBytes e.code 2 ++ leBytes e.timeS 8 ++ leBytes e.timeNs 4 ++
  leBytes e.repeat_ 2 ++ leBytes (lossClass e.source) 1 ++ leBytes e.eflags 1 ++ leBytes e.detail 8

/-- The due entries of the writer's queue pass to the ring, or are lost with their merged reports while it is full (R507 to
R509). Before the first load there is no ring, and entries wait (assumption log entry 8). -/
def writeEntry (s : State) : State :=
  match s.evt.queue, s.lowestPool 4 with
  | e :: rest, some p =>
    if s.now < e.at_ + 1000 then s
    else
      let s := ({ s with evt := { s.evt with queue := rest } }).set F.ERRLOG_STATUS_QUEUED rest.length
      if s.flag F.ERRLOG_STATUS_FULL then logDrop e.source (1 + e.repeat_) s
      else
        let n := (s.word R.ERRLOG_WR).toNat
        let s := s.poolWrite p (32 * (n % 4096)) (entryBytes n e)
        logLevels (s.setWord R.ERRLOG_WR (BitVec.ofNat 32 (n + 1)))
  | _, _ => s

/-- A write of ERRLOG_RD (R508). -/
def errlogRd (v : Word) (s : State) : Res :=
  let rd := s.word R.ERRLOG_RD
  if (v - rd).toNat ≤ (s.word R.ERRLOG_WR - rd).toNat then okay (logLevels (s.setWord R.ERRLOG_RD v))
  else refuse .value s

/-- A write of ERRLOG_CFG: WMARK is 1 to 4,096. -/
def errlogCfg (v : Word) (s : State) : Res :=
  let n := wordField v F.ERRLOG_CFG_WMARK
  if n = 0 ∨ n > 4096 then refuse .value s else okay (logLevels (s.set F.ERRLOG_CFG_WMARK n))

/-- The log empties: queue discarded, ERRLOG_WR and ERRLOG_RD 0 (R510). -/
def emptyLog (s : State) : State :=
  let s := ({ s with evt := { s.evt with queue := [] } }).set F.ERRLOG_STATUS_QUEUED 0
  logLevels ((s.setWord R.ERRLOG_WR 0).setWord R.ERRLOG_RD 0)

/-! ## The commands -/

/-- EVT_CLAIM (R496). -/
def execEvtClaim (who : Requester) (value : Word) (s : State) : Host.Outcome State Fault Refusal :=
  whenLive s (request who R.EVT_CLAIM (evtClaim value))

/-- EVT_DONE (R497). -/
def execEvtDone (who : Requester) (value : Word) (s : State) : Host.Outcome State Fault Refusal :=
  whenLive s (request who R.EVT_DONE (evtDone value))

/-- EVT_PEND_CLEAR (R494). -/
def execEvtPendClear (who : Requester) (word : Fin 32) (value : Word) (s : State) : Host.Outcome State Fault Refusal :=
  whenLive s (request who (R.EVT_PEND word.val) (evtPendClear word.val value))

/-- EVT_SWSET (R504). -/
def execEvtSwset (who : Requester) (value : Word) (s : State) : Host.Outcome State Fault Refusal :=
  whenLive s (request who R.EVT_SWSET (evtSwset value))

/-- EVT_SWLEVEL (R504). -/
def execEvtSwlevel (who : Requester) (value : Word) (s : State) : Host.Outcome State Fault Refusal :=
  whenLive s (request who R.EVT_SWLEVEL (evtSwlevel value))

/-- EVT_HOST_WRITE (R500): channel 0 to 3 is target 4 to 7. -/
def execEvtHostWrite (who : Requester) (channel : Fin 4) (value : Word) (s : State) : Host.Outcome State Fault Refusal :=
  whenLive s (request who (R.EVT_HOST (4 + channel.val)) (evtHost who (4 + channel.val) value))

/-- HOLDOFF_WINDOW_END (R501). -/
def execHoldoffWindowEnd (group : Fin 64) (s : State) : Host.Outcome State Fault Refusal :=
  whenLive s (windowEndDue group.val)

/-- ERRLOG_ENTRY_WRITE (R507). -/
def execErrlogEntryWrite (s : State) : Host.Outcome State Fault Refusal := whenLive s writeEntry

/-- ERRLOG_RD_WRITE (R508). -/
def execErrlogRdWrite (who : Requester) (value : Word) (s : State) : Host.Outcome State Fault Refusal :=
  whenLive s (request who R.ERRLOG_RD (errlogRd value))

end Sys2Proof.Machine
end

