-- ==== Sys2Proof/Machine/Crypto.lean ====
section
/-! DEFINITION. The security controller's algorithms: SHA-256 and HMAC-SHA-256 (spec/03_control_kcp.md R105 to R107), SHA-384
and ECDSA P-384 verification (spec/02_structure_cukar.md R69, R70). The manual names the standards FIPS 180-4, RFC 2104 and
FIPS 186-5; constants and steps are theirs (assumption log entry 11). -/

namespace Sys2Proof.Machine

/-! ## SHA-2 -/

/-- The round constants of SHA-256. -/
def sha256K : List Nat :=
  [0x428A2F98, 0x71374491, 0xB5C0FBCF, 0xE9B5DBA5,
   0x3956C25B, 0x59F111F1, 0x923F82A4, 0xAB1C5ED5,
   0xD807AA98, 0x12835B01, 0x243185BE, 0x550C7DC3,
   0x72BE5D74, 0x80DEB1FE, 0x9BDC06A7, 0xC19BF174] ++
  [0xE49B69C1, 0xEFBE4786, 0x0FC19DC6, 0x240CA1CC,
   0x2DE92C6F, 0x4A7484AA, 0x5CB0A9DC, 0x76F988DA,
   0x983E5152, 0xA831C66D, 0xB00327C8, 0xBF597FC7,
   0xC6E00BF3, 0xD5A79147, 0x06CA6351, 0x14292967] ++
  [0x27B70A85, 0x2E1B2138, 0x4D2C6DFC, 0x53380D13,
   0x650A7354, 0x766A0ABB, 0x81C2C92E, 0x92722C85,
   0xA2BFE8A1, 0xA81A664B, 0xC24B8B70, 0xC76C51A3,
   0xD192E819, 0xD6990624, 0xF40E3585, 0x106AA070] ++
  [0x19A4C116, 0x1E376C08, 0x2748774C, 0x34B0BCB5,
   0x391C0CB3, 0x4ED8AA4A, 0x5B9CCA4F, 0x682E6FF3,
   0x748F82EE, 0x78A5636F, 0x84C87814, 0x8CC70208,
   0x90BEFFFA, 0xA4506CEB, 0xBEF9A3F7, 0xC67178F2]

/-- The initial hash value of SHA-256. -/
def sha256H : List Nat :=
  [0x6A09E667, 0xBB67AE85, 0x3C6EF372, 0xA54FF53A,
   0x510E527F, 0x9B05688C, 0x1F83D9AB, 0x5BE0CD19]

/-- The round constants of SHA-512. -/
def sha512K : List Nat :=
  [0x428A2F98D728AE22, 0x7137449123EF65CD, 0xB5C0FBCFEC4D3B2F, 0xE9B5DBA58189DBBC,
   0x3956C25BF348B538, 0x59F111F1B605D019, 0x923F82A4AF194F9B, 0xAB1C5ED5DA6D8118,
   0xD807AA98A3030242, 0x12835B0145706FBE, 0x243185BE4EE4B28C, 0x550C7DC3D5FFB4E2,
   0x72BE5D74F27B896F, 0x80DEB1FE3B1696B1, 0x9BDC06A725C71235, 0xC19BF174CF692694] ++
  [0xE49B69C19EF14AD2, 0xEFBE4786384F25E3, 0x0FC19DC68B8CD5B5, 0x240CA1CC77AC9C65,
   0x2DE92C6F592B0275, 0x4A7484AA6EA6E483, 0x5CB0A9DCBD41FBD4, 0x76F988DA831153B5,
   0x983E5152EE66DFAB, 0xA831C66D2DB43210, 0xB00327C898FB213F, 0xBF597FC7BEEF0EE4,
   0xC6E00BF33DA88FC2, 0xD5A79147930AA725, 0x06CA6351E003826F, 0x142929670A0E6E70] ++
  [0x27B70A8546D22FFC, 0x2E1B21385C26C926, 0x4D2C6DFC5AC42AED, 0x53380D139D95B3DF,
   0x650A73548BAF63DE, 0x766A0ABB3C77B2A8, 0x81C2C92E47EDAEE6, 0x92722C851482353B,
   0xA2BFE8A14CF10364, 0xA81A664BBC423001, 0xC24B8B70D0F89791, 0xC76C51A30654BE30,
   0xD192E819D6EF5218, 0xD69906245565A910, 0xF40E35855771202A, 0x106AA07032BBD1B8] ++
  [0x19A4C116B8D2D0C8, 0x1E376C085141AB53, 0x2748774CDF8EEB99, 0x34B0BCB5E19B48A8,
   0x391C0CB3C5C95A63, 0x4ED8AA4AE3418ACB, 0x5B9CCA4F7763E373, 0x682E6FF3D6B2B8A3,
   0x748F82EE5DEFB2FC, 0x78A5636F43172F60, 0x84C87814A1F0AB72, 0x8CC702081A6439EC,
   0x90BEFFFA23631E28, 0xA4506CEBDE82BDE9, 0xBEF9A3F7B2C67915, 0xC67178F2E372532B] ++
  [0xCA273ECEEA26619C, 0xD186B8C721C0C207, 0xEADA7DD6CDE0EB1E, 0xF57D4F7FEE6ED178,
   0x06F067AA72176FBA, 0x0A637DC5A2C898A6, 0x113F9804BEF90DAE, 0x1B710B35131C471B,
   0x28DB77F523047D84, 0x32CAAB7B40C72493, 0x3C9EBE0A15C9BEBC, 0x431D67C49C100D4C,
   0x4CC5D4BECB3E42B6, 0x597F299CFC657E2A, 0x5FCB6FAB3AD6FAEC, 0x6C44198C4A475817]

/-- The initial hash value of SHA-384. -/
def sha384H : List Nat :=
  [0xCBBB9D5DC1059ED8, 0x629A292A367CD507, 0x9159015A3070DD17, 0x152FECD8F70E5939,
   0x67332667FFC00B31, 0x8EB44A8768581511, 0xDB0C2E0D64F98FA7, 0x47B5481DBEFA4FA4]

/-- What distinguishes SHA-256 from SHA-384: word width and the rotations and shifts of its functions. -/
structure ShaKind where
  w : Nat
  big0 : Nat × Nat × Nat
  big1 : Nat × Nat × Nat
  small0 : Nat × Nat × Nat
  small1 : Nat × Nat × Nat
  k : List Nat
  h : List Nat

/-- SHA-256. -/
def sha256Kind : ShaKind := ⟨32, (2, 13, 22), (6, 11, 25), (7, 18, 3), (17, 19, 10), sha256K, sha256H⟩

/-- SHA-384. -/
def sha384Kind : ShaKind := ⟨64, (28, 34, 39), (14, 18, 41), (1, 8, 7), (19, 61, 6), sha512K, sha384H⟩

/-- Rotation right of a w-bit word. -/
def rotr (w n x : Nat) : Nat := (x >>> n) ||| ((x <<< (w - n)) % 2 ^ w)

/-- A Σ function: three rotations. -/
def bigSigma (w : Nat) (r : Nat × Nat × Nat) (x : Nat) : Nat := rotr w r.1 x ^^^ rotr w r.2.1 x ^^^ rotr w r.2.2 x

/-- A σ function: two rotations and a shift. -/
def smallSigma (w : Nat) (r : Nat × Nat × Nat) (x : Nat) : Nat := rotr w r.1 x ^^^ rotr w r.2.1 x ^^^ (x >>> r.2.2)

/-- The message schedule, newest word first, extended by n words. -/
def shaExtend (k : ShaKind) : Nat → List Nat → List Nat
  | 0, ws => ws
  | n + 1, ws =>
    let v := (smallSigma k.w k.small1 (ws.getD 1 0) + ws.getD 6 0 + smallSigma k.w k.small0 (ws.getD 14 0) + ws.getD 15 0) % 2 ^ k.w
    shaExtend k n (v :: ws)

/-- The working variables a to h. -/
structure ShaVars where
  a : Nat
  b : Nat
  c : Nat
  d : Nat
  e : Nat
  f : Nat
  g : Nat
  h : Nat

/-- One round. -/
def shaRound (k : ShaKind) (v : ShaVars) (kw : Nat × Nat) : ShaVars :=
  let t1 := v.h + bigSigma k.w k.big1 v.e + ((v.e &&& v.f) ^^^ ((2 ^ k.w - 1 - v.e) &&& v.g)) + kw.1 + kw.2
  let t2 := bigSigma k.w k.big0 v.a + ((v.a &&& v.b) ^^^ (v.a &&& v.c) ^^^ (v.b &&& v.c))
  ⟨(t1 + t2) % 2 ^ k.w, v.a, v.b, v.c, (v.d + t1) % 2 ^ k.w, v.e, v.f, v.g⟩

/-- One block of 16 words. -/
def shaBlock (k : ShaKind) (h : List Nat) (block : List Byte) : List Nat :=
  let m := (upto 0 16).map (fun i => beAt block (i * (k.w / 8)) (k.w / 8))
  let ws := (shaExtend k (k.k.length - 16) m.reverse).reverse
  let x := fun i => h.getD i 0
  let v := (k.k.zip ws).foldl (shaRound k) ⟨x 0, x 1, x 2, x 3, x 4, x 5, x 6, x 7⟩
  [x 0 + v.a, x 1 + v.b, x 2 + v.c, x 3 + v.d, x 4 + v.e, x 5 + v.f, x 6 + v.g, x 7 + v.h].map (· % 2 ^ k.w)

/-- The blocks of a padded message, one after another. -/
def shaBlocks (k : ShaKind) : Nat → List Nat → List Byte → List Nat
  | 0, h, _ => h
  | n + 1, h, bs => shaBlocks k n (shaBlock k h (bs.take (2 * k.w))) (bs.drop (2 * k.w))

/-- The digest words of a message: padding of 0x80, zeros and the bit length. -/
def shaWords (k : ShaKind) (bs : List Byte) : List Nat :=
  let block := 2 * k.w
  let len := k.w / 4
  let n := ceilDiv (bs.length + 1 + len) block
  shaBlocks k n k.h (bs ++ [0x80] ++ List.replicate (n * block - bs.length - 1 - len) (0 : Byte) ++ beBytes (8 * bs.length) len)

/-- SHA-256: 32 bytes. -/
def sha256 (bs : List Byte) : List Byte := (shaWords sha256Kind bs).flatMap (fun x => beBytes x 4)

/-- SHA-384: 48 bytes. -/
def sha384 (bs : List Byte) : List Byte := ((shaWords sha384Kind bs).take 6).flatMap (fun x => beBytes x 8)

/-- HMAC-SHA-256 with a key of at most 64 bytes. -/
def hmacSha256 (key message : List Byte) : List Byte :=
  let k := key ++ List.replicate (64 - key.length) (0 : Byte)
  sha256 (k.map (· ^^^ 0x5C) ++ sha256 (k.map (· ^^^ 0x36) ++ message))

/-! ## ECDSA P-384 -/

/-- The field prime of P-384. -/
def p384P : Nat := 2 ^ 384 - 2 ^ 128 - 2 ^ 96 + 2 ^ 32 - 1

/-- The order of the base point. -/
def p384N : Nat :=
  0xFFFFFFFFFFFFFFFFFFFFFFFFFFFFFFFFFFFFFFFFFFFFFFFFC7634D81F4372DDF581A0DB248B0A77AECEC196ACCC52973

/-- The base point. -/
def p384G : Nat × Nat :=
  (0xAA87CA22BE8B05378EB1C71EF320AD746E1D3B628BA79B9859F741E082542A385502F25DBF55296C3A545E3872760AB7,
   0x3617DE4A96262C6F5D9E98BF9292DC29F8F41DBD289A147CE9DA3113B5F0B8C00A60B1CE1D7E819D7A431D7C90EA0E5F)

/-- base ^ exp modulo m, over the low fuel bits of exp. -/
def modPow (m : Nat) : Nat → Nat → Nat → Nat → Nat
  | 0, _, _, acc => acc
  | n + 1, base, e, acc => modPow m n (base * base % m) (e / 2) (if e % 2 = 1 then acc * base % m else acc)

/-- The inverse modulo a prime of at most 384 bits. -/
def modInv (m a : Nat) : Nat := modPow m 384 (a % m) (m - 2) 1

/-- Sum of two points; none is the point at infinity. -/
def pointAdd (a b : Option (Nat × Nat)) : Option (Nat × Nat) :=
  match a, b with
  | none, q => q
  | q, none => q
  | some (x1, y1), some (x2, y2) =>
    if x1 = x2 ∧ (y1 + y2) % p384P = 0 then none
    else
      let l := if x1 = x2 then (3 * x1 * x1 + p384P - 3) * modInv p384P (2 * y1) % p384P
        else (y2 + p384P - y1) * modInv p384P (x2 + p384P - x1) % p384P
      let x := (l * l + 2 * p384P - x1 - x2) % p384P
      some (x, (l * (x1 + p384P - x) + p384P - y1) % p384P)

/-- k times a point, over the low fuel bits of k. -/
def pointMul : Nat → Nat → Option (Nat × Nat) → Option (Nat × Nat) → Option (Nat × Nat)
  | 0, _, _, acc => acc
  | n + 1, k, q, acc => pointMul n (k / 2) (pointAdd q q) (if k % 2 = 1 then pointAdd acc q else acc)

/-- The signature (r, s) over a SHA-384 digest verifies under public key q (R70). -/
def ecdsaVerify (q : Nat × Nat) (digest : List Byte) (r s : Nat) : Bool :=
  if r = 0 ∨ p384N ≤ r ∨ s = 0 ∨ p384N ≤ s then false
  else
    let w := modInv p384N s
    let u1 := beNat digest * w % p384N
    let u2 := r * w % p384N
    match pointAdd (pointMul 384 u1 (some p384G) none) (pointMul 384 u2 (some q) none) with
    | none => false
    | some (x, _) => x % p384N == r

end Sys2Proof.Machine
end

