-- ==== Sys2Proof/Machine/ImageCheck.lean ====
section
/-! DEFINITION. The Cukar image: its sections, the checks of validation and what an image that passes holds
(spec/02_structure_cukar.md R65 to R84, R583). -/

namespace Sys2Proof.Machine

/-! ## The container (R65, R67, R68, R583) -/

/-- IMAGE_LENGTH. -/
def imageLength (bs : List Byte) : Nat := leAt bs 8 4

/-- Check 0x1 on a HEADER (R84). -/
def headerBad (h : List Byte) : Bool :=
  leAt h 0 4 != 0x524B5543 || leAt h 4 2 != 1 || leAt h 6 2 != 256 || !allZero ((h.drop 0xE0).take 32)

/-- IMAGE_LENGTH breaks R65. -/
def imageLengthBad (n : Nat) : Bool := n % 64 != 0 || decide (n < 896) || decide (n > 33554432)

/-- OFFSET of section i. -/
def sectionOffset (bs : List Byte) (i : Nat) : Nat := leAt bs (0x40 + 16 * i + 4) 4

/-- LENGTH of section i. -/
def sectionLength (bs : List Byte) (i : Nat) : Nat := leAt bs (0x40 + 16 * i + 8) 4

/-- The bytes of section i. -/
def imageSection (bs : List Byte) (i : Nat) : List Byte := (bs.drop (sectionOffset bs i)).take (sectionLength bs i)

/-- The fixed LENGTH of a section, where it has one (R583). -/
def fixedLength (i : Nat) : Option Nat :=
  if i = 0 then some 256 else if i = 1 then some 128 else if i = 2 then some 72 else if i = 6 then some 520
  else if i = 7 then some 384 else if i = 8 then some 64 else if i = 9 then some 64 else none

/-- Directory entry i is wrong in itself (R68, R583). -/
def entryBad (bs : List Byte) (i : Nat) : Bool :=
  let e := (bs.drop (0x40 + 16 * i)).take 16
  leAt e 0 1 != i + 1 || !allZero ((e.drop 1).take 3) || !allZero (e.drop 12) ||
  (match fixedLength i with | some n => sectionLength bs i != n | none => false)

/-- Where a section ends, rounded up to 64 bytes. -/
def sectionEnd (bs : List Byte) (i : Nat) : Nat := ceilDiv (sectionOffset bs i + sectionLength bs i) 64 * 64

/-- Check 0x5: the directory. -/
def directoryBad (bs : List Byte) : Bool :=
  (upto 0 10).any (entryBad bs) || sectionOffset bs 0 != 0 ||
  (upto 0 9).any (fun i =>
    sectionOffset bs (i + 1) != sectionEnd bs i ||
    !allZero ((bs.drop (sectionOffset bs i + sectionLength bs i)).take (sectionEnd bs i - sectionOffset bs i - sectionLength bs i))) ||
  sectionOffset bs 9 + 64 != imageLength bs

/-- Check 0x3: the CHECK section (R83). -/
def checkBad (bs : List Byte) : Bool :=
  let n := imageLength bs
  leAt bs (n - 64) 4 != crc32c (bs.take (n - 64)) || !allZero ((bs.drop (n - 60)).take 60)

/-- Check 0x6: KEY_SLOT, HASH_ALG and reserved bytes of SIGNATURE (R69). -/
def signatureBad (keys : Nat → Option (Nat × Nat)) (bs : List Byte) : Bool :=
  let g := imageSection bs 1
  decide (leAt g 0 1 > 3) || leAt g 1 1 != 2 || (keys (leAt g 0 1)).isNone || !allZero ((g.drop 2).take 14) || !allZero (g.drop 0x70)

/-- Check 0x7: the signature verifies (R70). -/
def signatureVerifies (keys : Nat → Option (Nat × Nat)) (bs : List Byte) : Bool :=
  let g := imageSection bs 1
  match keys (leAt g 0 1) with
  | none => false
  | some q => ecdsaVerify q (sha384 (bs.take 0x100 ++ (bs.take (imageLength bs - 64)).drop 0x180)) (beAt g 0x10 48) (beAt g 0x40 48)

/-! ## The sections -/

/-- ROLE of every block (R71). -/
def imageRoles (bs : List Byte) : List Nat := (((imageSection bs 2).drop 8).take 64).map (fun b => b.toNat)

/-- Check 0x8 (R58, R59, R71). -/
def topologyBad (bs : List Byte) : Bool :=
  let t := imageSection bs 2
  leAt t 0 2 != 1 || leAt t 2 2 != 64 || leAt t 4 4 != 0 || (imageRoles bs).any (fun r => decide (r > 4)) || !(imageRoles bs).contains 2

/-- The routes (R72). -/
def imageRoutes (bs : List Byte) : List RouteRec :=
  let t := imageSection bs 3
  (upto 0 (leAt t 2 2)).map (fun i =>
    let e := (t.drop (8 + 8 * i)).take 8
    ⟨leAt e 0 1, leAt e 1 1, leAt e 2 1, leAt e 3 1, leAt e 4 2 == 1⟩)

/-- No value occurs twice. -/
def allDistinct : List Nat → Bool
  | [] => true
  | a :: t => !t.contains a && allDistinct t

/-- Check 0x9 (R72, R73). -/
def routesBad (bs : List Byte) : Bool :=
  let t := imageSection bs 3
  let n := leAt t 2 2
  leAt t 0 2 != 1 || n == 0 || decide (n > 512) || leAt t 4 4 != 0 || t.length != 8 + 8 * n ||
  (upto 0 n).any (fun i => decide (leAt t (12 + 8 * i) 2 > 1) || leAt t (14 + 8 * i) 2 != 0) ||
  (imageRoutes bs).any (fun r => decide (r.src > 0x25) || decide (r.dst > 0x25) || r.src == r.dst ||
    r.vc == 0 || decide (r.vc > 3) || r.share == 0) ||
  !allDistinct ((imageRoutes bs).map (fun r => 256 * r.src + r.dst))

/-- The kernels (R74). -/
def imageKernels (bs : List Byte) : List KernelRec :=
  let t := imageSection bs 4
  (upto 0 (leAt t 2 2)).map (fun i =>
    let e := (t.drop (16 + 16 * i)).take 16
    ⟨leAt e 0 2, leAt e 2 1, leAt e 4 4, leAt e 8 4⟩)

/-- The decompressed kernel set, where its stream passes and has RAW_LENGTH bytes (R74, R75). -/
def kernelSetOf (bs : List Byte) : Option (List Byte) :=
  let t := imageSection bs 4
  match fullerDecompress (t.drop (16 + 16 * leAt t 2 2)) (leAt t 8 4) with
  | .ok raw => if raw.length = leAt t 8 4 then some raw else none
  | .error _ => none

/-- Check 0xA (R74, R75). -/
def kernelsBad (bs : List Byte) : Bool :=
  let t := imageSection bs 4
  let n := leAt t 2 2
  let raw := leAt t 8 4
  let ks := imageKernels bs
  leAt t 0 2 != 1 || n == 0 || decide (n > 64) || raw == 0 || decide (raw > 1048576) || leAt t 12 4 != 0 ||
  (upto 0 n).any (fun i => leAt t (16 + 16 * i + 3) 1 != 0 || leAt t (16 + 16 * i + 12) 4 != 0) ||
  ks.any (fun k => k.role == 0 || decide (k.role > 3) || k.length == 0 || decide (k.offset + k.length > raw)) ||
  !allDistinct (ks.map (fun k => k.id)) || (kernelSetOf bs).isNone ||
  [1, 2, 3].any (fun r => (imageRoles bs).contains r && !ks.any (fun k => k.role == r))

/-- The pools (R76). -/
def imagePools (bs : List Byte) : List PoolRec :=
  let t := imageSection bs 5
  (upto 0 (leAt t 2 2)).map (fun i =>
    let e := (t.drop (8 + 32 * i)).take 32
    ⟨leAt e 0 1, leAt e 1 1, leAt e 4 4, leAt e 8 4⟩)

/-- Two different pools of a list overlap. -/
def poolsOverlap : List PoolRec → Bool
  | [] => false
  | p :: t => t.any (fun q => decide (p.base < q.base + q.size) && decide (q.base < p.base + p.size)) || poolsOverlap t

/-- Check 0xB (R76, R77). -/
def memoryBad (bs : List Byte) : Bool :=
  let t := imageSection bs 5
  let n := leAt t 2 2
  let ps := imagePools bs
  leAt t 0 2 != 1 || n == 0 || decide (n > 64) || leAt t 4 4 != 0 || t.length != 8 + 32 * n ||
  (upto 0 n).any (fun i => leAt t (8 + 32 * i + 2) 2 != 0 || leAt t (8 + 32 * i + 12) 4 != 0) ||
  ps.any (fun p => decide (p.id > 63) || decide (p.kind > 9) || p.size == 0 || decide (p.base + p.size > 24576) ||
    (decide (p.base < 12288) && decide (p.base + p.size > 12288))) ||
  !allDistinct (ps.map (fun p => p.id)) || poolsOverlap ps ||
  (ps.filter (fun p => p.kind == 4)).length != 1 || !ps.any (fun p => p.kind == 3) || !ps.any (fun p => p.kind == 5)

/-- HOLDOFF, TARGETS and ENABLE of every group (R78). -/
def imageGroups (bs : List Byte) : List (Nat × Nat × Nat) :=
  let t := imageSection bs 6
  (upto 0 64).map (fun g => (leAt t (8 + 8 * g) 2, leAt t (10 + 8 * g) 1, leAt t (12 + 8 * g) 2))

/-- Check 0xC (R78). -/
def eventsBad (bs : List Byte) : Bool :=
  let t := imageSection bs 6
  leAt t 0 2 != 1 || leAt t 2 2 != 64 || leAt t 4 4 != 0 ||
  (upto 0 64).any (fun g => leAt t (11 + 8 * g) 1 != 0 || leAt t (14 + 8 * g) 2 != 0)

/-- DOMAIN[d] (R79). -/
def imageDomains (bs : List Byte) : List Nat := (((imageSection bs 7).drop 8).take 120).map (fun b => b.toNat)

/-- POINT[k] (R79). -/
def imagePoints (bs : List Byte) : List (Nat × Nat) :=
  let t := imageSection bs 7
  (upto 0 64).map (fun k => (leAt t (0x80 + 4 * k) 2, leAt t (0x80 + 4 * k + 2) 2))

/-- Check 0xD (R79, R81). -/
def powerBad (bs : List Byte) : Bool :=
  let t := imageSection bs 7
  let ds := imageDomains bs
  let dom := fun d => ds.getD d 0
  let role := fun k => (imageRoles bs).getD k 0
  let point := fun k => (imagePoints bs).getD k (0, 0)
  leAt t 0 2 != 1 || leAt t 2 2 != 120 || leAt t 4 4 != 0 || ds.any (fun d => decide (d > 2)) ||
  (upto 113 7).any (fun d => dom d != 1) ||
  (upto 0 64).any (fun k =>
    if role k = 0 then dom (16 + k) != 0 || point k != (0, 0)
    else (if role k = 4 then dom (16 + k) != 2 else dom (16 + k) == 0) || dom (k / 4) == 0 || !pointPermitted (point k))

/-- The size of the largest staging pool in 2 MiB units (R82, spec/07_conformer.md R257). -/
def imageStaging (bs : List Byte) : Nat :=
  ((imagePools bs).filter (fun p => p.kind == 3)).foldl (fun m p => max m p.size) 0

/-- The R37 code of GEOMETRY. -/
def imageGeometry (bs : List Byte) : Nat := geomCheck (imageSection bs 8) (imageStaging bs)

/-! ## Validation (R84) -/

/-- ERR and SUB of an image: rev is CHIP_REV[15:0], keys the image keys, delivered the bytes delivered, overrides the
blocks to be set OFF (R90). -/
def imageCheck (rev delivered : Nat) (keys : Nat → Option (Nat × Nat)) (overrides : List Nat) (bs : List Byte) : Nat × Nat :=
  if headerBad (bs.take 256) then (0x1, 0)
  else if imageLengthBad (imageLength bs) ∨ imageLength bs > delivered ∨ imageLength bs > bs.length then (0x2, 0)
  else if checkBad bs then (0x3, 0)
  else if leAt bs 0x0C 2 ≠ 0x9140 ∨ leAt bs 0x0E 2 > rev then (0x4, 0)
  else if directoryBad bs then (0x5, 0)
  else if signatureBad keys bs then (0x6, 0)
  else if ¬ signatureVerifies keys bs then (0x7, 0)
  else if topologyBad bs ∨ ¬ (upto 0 64).any (fun k => (imageRoles bs).getD k 0 == 2 && !overrides.contains k) then (0x8, 0)
  else if routesBad bs then (0x9, 0)
  else if kernelsBad bs then (0xA, 0)
  else if memoryBad bs then (0xB, 0)
  else if eventsBad bs then (0xC, 0)
  else if powerBad bs then (0xD, 0)
  else if imageGeometry bs ≠ 0 then (0xE, imageGeometry bs)
  else (0, 0)

/-- What an image holds. -/
def imageRec (bs : List Byte) : ImageRec where
  sequence := leAt bs 0x10 4
  imageVersion := leAt bs 0x14 4
  roles := imageRoles bs
  routes := imageRoutes bs
  ksetId := leAt (imageSection bs 4) 4 4
  kernels := imageKernels bs
  kernelSet := (kernelSetOf bs).getD []
  pools := imagePools bs
  groups := imageGroups bs
  domains := imageDomains bs
  points := imagePoints bs
  geometry := imageSection bs 8

end Sys2Proof.Machine
end

