-- ==== Sys2Proof/Machine/Fuller.lean ====
section
/-! DEFINITION. Host jobs of the two fuller engines (spec/16_fuller.md R484 to R490). -/

namespace Sys2Proof.Machine

/-! ## The job's words -/

/-- Fields of a host job, from its words at START. -/
structure FulParams where
  op : Nat
  width : Nat
  srcPool : Nat
  srcOff : Nat
  srcLen : Nat
  dstPool : Nat
  dstOff : Nat
  dstCap : Nat
  deriving DecidableEq, Repr

/-- FUL_JOB to FUL_DST_CAP of engine n. -/
def fulAddrs (n : Nat) : List Nat :=
  [R.FUL_JOB n, R.FUL_SRC n, R.FUL_SRC_OFF n, R.FUL_SRC_LEN n, R.FUL_DST n, R.FUL_DST_OFF n, R.FUL_DST_CAP n]

/-- The words as fields; offsets in bytes. -/
def fulParams (ws : List Nat) : FulParams :=
  let w := fun i => ws.getD i 0
  { op := w 0 % 4, width := slice (w 0) 12 8, srcPool := w 1 % 64, srcOff := 64 * w 2, srcLen := w 3
    dstPool := w 4 % 64, dstOff := 64 * w 5, dstCap := w 6 }

/-- The host job of engine n. -/
def State.fulJob (s : State) (n : Nat) : Option FulJob := tabGet none s.fuller (4 * n + 3)

/-- The host job of engine n replaced. -/
def State.setFulJob (s : State) (n : Nat) (j : Option FulJob) : State :=
  { s with fuller := tabPut none s.fuller (4 * n + 3) j }

/-- Source of engine n at an offset of R490. -/
def fulSource (n off : Nat) : Nat := 672 + 8 * n + off

/-- RESULT, ERR and REFUSE of engine n. -/
def State.fulResult (s : State) (n result err refuse : Nat) : State :=
  ((s.set (F.FUL_STATUS_RESULT n) result).set (F.FUL_STATUS_ERR n) err).set (F.FUL_STATUS_REFUSE n) refuse

/-- STATE and BUSY of engine n. -/
def State.fulState (s : State) (n st : Nat) : State :=
  (s.set (F.FUL_STATUS_STATE n) st).set (F.FUL_STATUS_BUSY n) (bit (st != 0))

/-! ## The checks of START (R484) -/

/-- A range of a pool of one of some kinds. -/
def State.rangeInPool (s : State) (id : Nat) (kinds : List Nat) (off n : Nat) : Bool :=
  match s.pool id with
  | none => false
  | some p => kinds.contains p.kind && decide (off + n ≤ poolBytes p)

/-- Two byte ranges share a byte. -/
def spansMeet (a n b m : Nat) : Bool := n != 0 && m != 0 && decide (a < b + m) && decide (b < a + n)

/-- Check 6 of R484. -/
def State.fulInUse (s : State) (n : Nat) (p : FulParams) : Bool :=
  let meets := fun (pool a e : Nat) => pool == p.dstPool && spansMeet a (e - a) p.dstOff p.dstCap
  s.protectedBuffers.any (fun b => meets b.1 b.2.1 b.2.2) ||
  [0, 1].any (fun k => match tabGet none s.plank k with
    | none => false
    | some o =>
      let q := plankParams o.words
      (rectRanges q.dst q.x q.y q.w q.h).any (fun r => meets q.dst.pool r.1 r.2)) ||
  (match s.fulJob (1 - n) with
    | none => false
    | some j => let q := fulParams j.words; meets q.dstPool q.dstOff (q.dstOff + q.dstCap))

/-- Checks 2 to 6 of R484: the refusal, none for a start. -/
def State.fulCheck (s : State) (n : Nat) (p : FulParams) : Option Status :=
  if quietMode s.modeNow then some .mode
  else if p.op > 1 ∨ (p.op = 0 ∧ (p.width < 9 ∨ 16 < p.width)) then some .value
  else if ¬ (s.rangeInPool p.srcPool [0, 3, 7, 9] p.srcOff p.srcLen &&
      s.rangeInPool p.dstPool [0, 7, 9] p.dstOff p.dstCap) then some .pool
  else if p.srcPool = p.dstPool ∧ spansMeet p.srcOff p.srcLen p.dstOff p.dstCap then some .value
  else if s.fulInUse n p then some .inUse
  else none

/-- FUL_CTRL.START (R484, R582). -/
def fullerStart (n : Nat) (s : State) : Res :=
  if s.flag (F.FUL_STATUS_BUSY n) then refuse .busy s
  else
    let ws := (fulAddrs n).map (fun a => (s.word a).toNat)
    match s.fulCheck n (fulParams ws) with
    | some st => (st, raise (fulSource n 2) (s.fulResult n 4 0 (statusCode st)))
    | none =>
      let s := (s.set (F.FUL_PROGRESS_BLOCKS n) 0).set (F.FUL_STORED_BLOCKS n) 0
      let s := s.setFulJob n (some ⟨ws, false, 1, none⟩)
      let st := if s.domainOn (91 + n) then 2 else 1
      okay ((s.setFulJob n (some ⟨ws, false, st, none⟩)).fulState n st)

/-! ## How a job ends (R487, R488) -/

/-- The content of the destination capacity is undefined (R487, R488). -/
def fulScramble (p : FulParams) (s : State) : State :=
  match s.pool p.dstPool with
  | none => s
  | some q =>
    let (bs, s) := s.drawBytes p.dstCap
    s.poolWrite q p.dstOff bs

/-- The host job of engine n is over: RESULT, ERR, OUTLEN. -/
def fulOver (n result err out : Nat) (s : State) : State :=
  settlePower ((((s.setFulJob n none).fulResult n result err 0).fulState n 0).set (F.FUL_OUTLEN_BYTES n) out)

/-- A job fails as a whole with a code of R483 (R487). -/
def fulFail (n : Nat) (p : FulParams) (code : Nat) (s : State) : State :=
  raise (fulSource n 1) ((fulOver n 2 code 0 (fulScramble p s)).bump (F.FUL_CNT0_COUNT n))

/-- A job completes (R488). -/
def fulDone (n out : Nat) (s : State) : State := raise (fulSource n 0) (fulOver n 1 0 out s)

/-- A job ends ABORTED (R488). -/
def fulAborted (n : Nat) (s : State) : State :=
  match s.fulJob n with
  | none => s
  | some j => fulOver n 3 0 0 (fulScramble (fulParams j.words) s)

/-- FUL_CTRL.ABORT (R488). -/
def fullerAbort (n : Nat) (s : State) : Res := okay (fulAborted n s)

/-- A write of FUL_CTRL. -/
def fullerCtrl (n : Nat) (v : Word) (s : State) : Res :=
  let s := if wordField v (F.FUL_CTRL_ABORT n) = 1 then (fullerAbort n s).2 else s
  if wordField v (F.FUL_CTRL_START n) = 1 then fullerStart n s else okay s

/-- A write of a job register, refused while BUSY (R484). -/
def fulJobWrite (n a : Nat) (v : Word) (s : State) : Res :=
  if s.flag (F.FUL_STATUS_BUSY n) then refuse .busy s else okay (s.setWord a v)

/-! ## A block (R477, R480 to R483, R485) -/

/-- Bytes of the job's source. -/
def State.fulRead (s : State) (p : FulParams) (off n : Nat) : List Byte :=
  match s.pool p.srcPool with
  | none => []
  | some q => s.poolRead q (p.srcOff + off) n

/-- Bytes written to the job's destination. -/
def fulWrite (p : FulParams) (off : Nat) (bs : List Byte) (s : State) : State :=
  match s.pool p.dstPool with
  | none => s
  | some q => s.poolWrite q (p.dstOff + off) bs

/-- Whether bytes of the source read poisoned (R465 code 0x4). -/
def State.fulPoison (s : State) (p : FulParams) (off n : Nat) : Bool :=
  match s.pool p.srcPool with
  | none => false
  | some q => n != 0 && s.hbmPoisoned (poolBase q + p.srcOff + off) n

/-- A read of the source faults: the fault of R465, and the job fails with FAULT. -/
def fulPoisoned (n : Nat) (p : FulParams) (r : FullerRun) (s : State) : State :=
  fulFail n p 8 (xlatFault (fullerCtx n) 4 none (contextAddress p.srcPool (p.srcOff + r.pos)) r.blocks s)

/-- A block is complete: progress, and the job parks where it yields (R485, R468). -/
def fulNext (n : Nat) (j : FulJob) (r : FullerRun) (s : State) : State :=
  let s := (s.set (F.FUL_PROGRESS_BLOCKS n) r.blocks).set (F.FUL_STORED_BLOCKS n) r.stored
  if j.yield then
    let s := (s.setFulJob n (some { j with run := some r, state := 3, yield := false })).fulState n 3
    raise (fulSource n 3) (parkEngine (fullerCtx n) r.blocks (s.bump (F.FUL_CNT1_COUNT n)))
  else s.setFulJob n (some { j with run := some r })

/-- One block of a compression: the header before the first, the trailer after the last (R476 to R482, R489). -/
def fulCompress (n : Nat) (j : FulJob) (p : FulParams) (s : State) : State :=
  let r := j.run.getD ⟨p.width, p.srcLen, 0, 0, 0xFFFFFFFF, [], 0, 0⟩
  let k := min 65536 (p.srcLen - r.pos)
  let raw := s.fulRead p r.pos k
  let head := if j.run.isNone then fullerHeader p.width p.srcLen else []
  let (blk, stored, dict) := if k = 0 then ([], false, []) else encodeBlock p.width r.dict raw
  let crc := crcRun r.crc raw
  let last := r.pos + k == p.srcLen
  let tail := if last then fullerTrailer (if p.srcLen = 0 then 0 else crc ^^^ 0xFFFFFFFF) else []
  let bs := head ++ blk ++ tail
  if s.fulPoison p r.pos k then fulPoisoned n p r s
  else if r.outLen + bs.length > p.dstCap then fulFail n p 7 s
  else
    let s := fulWrite p r.outLen bs s
    let r := ⟨p.width, p.srcLen, r.pos + k, r.outLen + bs.length, crc, dict, r.blocks + bit (k != 0), r.stored + bit stored⟩
    if last then
      fulDone n r.outLen ((s.set (F.FUL_PROGRESS_BLOCKS n) r.blocks).set (F.FUL_STORED_BLOCKS n) r.stored)
    else fulNext n j r s

/-- The end of the source bytes that the block at a position reads: its header, and the payload that the header names. -/
def fulReadEnd (src : List Byte) (pos : Nat) : Nat := min src.length (pos + 8 + leAt (src.drop pos) 4 4)

/-- One block of a decompression; after the last block the trailer is checked at once (R480, R483, R487). A poisoned word among
the bytes it reads is a fault. -/
def fulExpand (n : Nat) (j : FulJob) (p : FulParams) (s : State) : State :=
  let src := s.fulRead p 0 p.srcLen
  let first := match j.run with | some r => r.pos | none => 0
  if s.fulPoison p first (fulReadEnd src (max 16 first) - first) then
    fulPoisoned n p (j.run.getD ⟨p.width, 0, 0, 0, 0xFFFFFFFF, [], 0, 0⟩) s
  else
  match (match j.run with | some r => Except.ok r | none => fullerOpen src p.dstCap) with
  | .error e => fulFail n p e s
  | .ok r =>
    match fullerStep src r with
    | .error e => fulFail n p e s
    | .ok .finished => fulDone n r.outLen s
    | .ok (.block r' out) =>
      if r'.outLen ≠ r'.rawLength then fulNext n j r' (fulWrite p r.outLen out s)
      else if s.fulPoison p r'.pos (min 8 (p.srcLen - r'.pos)) then fulPoisoned n p r' s
      else
        let s := fulWrite p r.outLen out s
        let s := (s.set (F.FUL_PROGRESS_BLOCKS n) r'.blocks).set (F.FUL_STORED_BLOCKS n) r'.stored
        match fullerStep src r' with
        | .ok .finished => fulDone n r'.outLen s
        | .ok (.block _ _) => fulFail n p 2 s
        | .error e => fulFail n p e s

/-- FULLER_BLOCK_DONE: the block in progress of engine n completes (R485). -/
def fullerBlock (n : Nat) (s : State) : State :=
  match s.fulJob n with
  | none => s
  | some j =>
    if j.state ≠ 2 then s
    else
      let p := fulParams j.words
      if p.op = 0 then fulCompress n j p s else fulExpand n j p s

/-- A waiting job begins once its engine's domain is on (R582). -/
def fullerPowered (n : Nat) (s : State) : State :=
  match s.fulJob n with
  | none => s
  | some j => if j.state = 1 then (s.setFulJob n (some { j with state := 2 })).fulState n 2 else s

/-- A parked job resumes on its engine from its save area (R485, R472). -/
def fullerResume (n : Nat) (s : State) : State :=
  match s.fulJob n with
  | none => s
  | some j => if j.state = 3 then (s.setFulJob n (some { j with state := 2 })).fulState n 2 else s

/-- A parked job whose save area fails its checks fails with FAULT (R474, R467). -/
def fullerLost (n : Nat) (s : State) : State :=
  match s.fulJob n with
  | none => s
  | some j => if j.state = 3 then fulFail n (fulParams j.words) 8 s else s

/-- FULLER_START (R484). -/
def execFullerStart (who : Requester) (engine : Fin 2) (s : State) : Host.Outcome State Fault Refusal :=
  whenLive s (request who (R.FUL_CTRL engine.val) (fullerStart engine.val))

/-- FULLER_ABORT (R488). -/
def execFullerAbort (who : Requester) (engine : Fin 2) (s : State) : Host.Outcome State Fault Refusal :=
  whenLive s (request who (R.FUL_CTRL engine.val) (fullerAbort engine.val))

/-- FULLER_BLOCK_DONE (R485). -/
def execFullerBlockDone (engine : Fin 2) (s : State) : Host.Outcome State Fault Refusal :=
  whenLive s (fullerBlock engine.val)

end Sys2Proof.Machine
end

