-- ==== Sys2Proof/Machine/Paths.lean ====
section
/-! DEFINITION. The lifecycle of the path objects: DECLARE, BIND with every check, ARM, DISARM, UNBIND, UNDECLARE
(spec/03_control_kcp.md R118 to R123, and the BIND rules of the chapters that define the objects). -/

namespace Sys2Proof.Machine

/-! ## Binding registers -/

/-- The contexts whose staged DEC_CTX_CFG names stream st with ENABLE 1 (spec/05_decode.md R165). -/
def State.contextsNaming (s : State) (st : Nat) : List Nat :=
  (upto 0 4).filter (fun c => s.getNext (F.DEC_CTX_CFG_ENABLE c) == 1 && s.getNext (F.DEC_CTX_CFG_STREAM_ID c) == st)

/-- The registers of decode context c (R166). -/
def contextAddrs (c : Nat) : List Nat := [R.DEC_CTX_CFG c, R.DEC_CTX_SLOTS c, R.DEC_CTX_RATE c, R.DEC_CTX_FILL c]

/-- The contexts whose registers belong to stream st: the staged DEC_CTX_CFG names it (spec/05_decode.md R166). -/
def State.contextsOwned (s : State) (st : Nat) : List Nat :=
  (upto 0 4).filter (fun c => s.getNext (F.DEC_CTX_CFG_STREAM_ID c) == st)

/-- The registers of stream st (spec/04_ethernet_ingest.md R159). -/
def streamAddrs (st : Nat) : List Nat := [R.STRM_CFG st, R.STRM_POOL st, R.STRM_TIMING st, R.STRM_RATE st]

/-- The binding registers of an object: those its chapter accepts only while it is DECLARED or BOUND (R121); those of a
stream's decode context apart. -/
def bindAddrs (kind id : Nat) : List Nat :=
  if kind = 1 then streamAddrs id
  else if kind = 2 then
    [R.CARD_LYR_SRC id, R.CARD_LYR_ORIGIN id, R.CARD_LYR_SIZE id, R.CARD_LYR_SEAM id] ++ (upto 0 68).map (R.CARD_KVD id)
  else if kind = 3 then
    [R.CARD_OV_BIND id, R.OV_FMT id, R.OV_POOL id, R.OV_SIZE id, R.OV_PITCH id, R.OV_BUF0 id, R.OV_BUF1 id]
  else if kind = 5 then
    [R.ENC_CFG, R.ENC_SIZE, R.ENC_TX, R.ENC_POOL, R.ENC_DST_MAC_LO, R.ENC_DST_MAC_HI, R.ENC_DST_IP4, R.ENC_DST_UDP]
  else []

/-- The staged registers of an object that a fence takes when it joins (R121, spec/06_carding.md R206). -/
def joinAddrs (kind id : Nat) : List Nat :=
  if kind = 2 then bindAddrs 2 id ++ [R.CARD_LYR_PARAM id, R.CARD_LYR_FILL id]
  else if kind = 3 then bindAddrs 3 id ++ [R.CARD_OV_POS id, R.CARD_OV_DEPTH id, R.OV_FRONT id, R.OV_CONST id]
  else if kind = 4 then [R.PQ_CFG, R.PQ_PIPE]
  else if kind = 5 then bindAddrs 5 0 ++ (upto 0 4).map R.ENC_VIEW ++ [R.ENC_RC, R.ENC_BITRATE, R.ENC_PACE]
  else []

/-- The words a BIND takes: staged, else in force; for a CODED stream with those of its context. -/
def State.nextBinding (s : State) (kind id : Nat) : Tab (Option Word) :=
  let as := bindAddrs kind id ++
    (if kind = 1 ∧ s.getNext (F.STRM_CFG_KIND id) = 1 then (s.contextsNaming id).flatMap contextAddrs else [])
  as.foldl (fun t a => tabInsert t a (some (s.nextWord a))) []

/-- The objects whose binding a write at address a belongs to: a context's register belongs to the streams that the
staged and the binding words of the context name. -/
def State.bindOwners (s : State) (a : Nat) : List (Nat × Nat) :=
  let c := (a - 0x200100) / 0x40
  if c < 4 ∧ (contextAddrs c).contains a then
    (upto 0 64).filter (fun st => s.getNext (F.DEC_CTX_CFG_STREAM_ID c) == st || s.boundContext st == some c)
      |>.map (fun st => (1, st))
  else match s.ownerOf a with
    | some (k, i) => if (bindAddrs k i).contains a then [(k, i)] else []
    | none => []

/-- A binding register has been written since the DECLARE or the BIND of its object (R121, R122), also where the batch that
wrote it has armed the object meanwhile. -/
def noteWritten (a : Nat) (s : State) : State :=
  (s.bindOwners a).foldl (fun s o =>
    let p := s.path o.1 o.2
    if p.state = 0 then s else s.setPath o.1 o.2 { p with written := decide (2 ≤ p.state), touched := true }) s

/-! ## Names (R121, R122) -/

/-- A field of an object's binding: as BIND took it, or, of a DECLARED object, as its registers stand. -/
def State.nameField (s : State) (kind id : Nat) (f : Field) : Nat :=
  if (s.path kind id).state < 2 then s.getNext f else s.bindField kind id f

/-- The objects that an object names which is not UNDECLARED (R121, R122): a BOUND or ARMED object by its binding, a DECLARED
one by its binding registers once one of them has been written. -/
def State.names (s : State) (kind id : Nat) : List (Nat × Nat) :=
  let p := s.path kind id
  if p.state = 0 ∨ (p.state = 1 ∧ ¬ p.touched) then []
  else if kind = 2 then [(1, s.nameField 2 id (F.CARD_LYR_SRC_STREAM_ID id))]
  else if kind = 3 then
    (2, s.nameField 3 id (F.CARD_OV_BIND_LAYER id)) ::
    (if s.nameField 3 id (F.OV_FMT_SOURCE id) = 1 then [(1, s.nameField 3 id (F.OV_FMT_STREAM_ID id))] else [])
  else if kind = 5 then [(4, 0)]
  else []

/-- Every object, by KIND and ID (R118). -/
def allObjects : List (Nat × Nat) := [1, 2, 3, 4, 5].flatMap (fun k => (pathIds k).map (fun i => (k, i)))

/-- The objects whose binding names an object. -/
def State.namers (s : State) (kind id : Nat) : List (Nat × Nat) :=
  allObjects.filter (fun o => (s.names o.1 o.2).contains (kind, id))

/-- Objects in the reverse of the order in which they were armed. -/
def State.byArming (s : State) (os : List (Nat × Nat)) : List (Nat × Nat) :=
  os.foldl (fun acc o =>
    acc.takeWhile (fun p => decide ((s.path o.1 o.2).order < (s.path p.1 p.2).order)) ++
    o :: acc.dropWhile (fun p => decide ((s.path o.1 o.2).order < (s.path p.1 p.2).order))) []

/-! ## The mode gate (R123; spec/18_modes_power_thermal.md R512) -/

/-- ARM of a kind is permitted in a mode: sub is the KIND of a stream or the KV_COUNT of a layer. -/
def armPermitted (mode kind sub : Nat) : Bool :=
  if displayMode mode && mode != 0x8 then kind != 1 || sub != 5
  else if mode = 0xA then true
  else if mode = 0x4 then kind == 4 || kind == 5 || (kind == 1 && sub == 3) || (kind == 2 && sub == 0)
  else if mode = 0x8 then kind == 4 || kind == 5 || (kind == 1 && (sub == 3 || sub == 4)) || (kind == 2 && sub == 0)
  else false

/-- The stream KIND or KV_COUNT of an object's binding. -/
def State.boundSub (s : State) (kind id : Nat) : Nat :=
  if kind = 1 then s.streamKind id else if kind = 2 then s.layerViews id else 0

/-- The stream KIND or KV_COUNT that an ARM would take. -/
def State.armSub (s : State) (kind id : Nat) : Nat :=
  if 2 ≤ (s.path kind id).state ∧ ¬ (s.path kind id).written then s.boundSub kind id
  else if kind = 1 then s.getNext (F.STRM_CFG_KIND id)
  else if kind = 2 then slice (s.nextWord (R.CARD_KVD id 0)).toNat 23 16
  else 0

/-! ## Small parts of the checks -/

/-- A check: its status where the condition holds. -/
def failIf (bad : Bool) (st : Status) : Option Status := if bad then some st else none

/-- The first failure of a list of checks. -/
def firstFailure (l : List (Option Status)) : Option Status := l.findSome? id

/-- A pool exists and has a kind (R120, check 1). -/
def State.poolIs (s : State) (id kind : Nat) : Bool :=
  match s.pool id with
  | some p => p.kind == kind
  | none => false

/-- A pool holds a number of bytes (R120, check 2). -/
def State.poolHolds (s : State) (id bytes : Nat) : Bool :=
  match s.pool id with
  | some p => decide (bytes ≤ poolBytes p)
  | none => false

/-- The endpoint of the HBM stack that a pool lies in (spec/02_structure_cukar.md R73). -/
def State.poolEndpoint (s : State) (id : Nat) : Nat :=
  match s.pool id with
  | some p => if p.base < 12288 then 0x24 else 0x25
  | none => 0x24

/-- The image gives a route (R73). -/
def State.hasRoute (s : State) (src dst : Nat) : Bool :=
  match s.struct.image with
  | some i => i.routes.any (fun r => r.src == src && r.dst == dst)
  | none => false

/-- Every region with a working block of a role, over all of which work is spread (spec/02_structure_cukar.md R60), has a
route from an endpoint. -/
def State.routeToRole (s : State) (src role : Nat) : Bool := (s.workers role).all (fun k => s.hasRoute src (k / 4))

/-- Every region with a working block of a role has a route to an endpoint. -/
def State.routeFromRole (s : State) (role dst : Nat) : Bool := (s.workers role).all (fun k => s.hasRoute (k / 4) dst)

/-- A working block of a role exists (R120, check 4). -/
def State.hasRole (s : State) (role : Nat) : Bool := !(s.workers role).isEmpty

/-- The objects of a kind, one apart, that are BOUND or ARMED. -/
def State.boundOthers (s : State) (kind id : Nat) : List Nat :=
  (pathIds kind).filter (fun i => i != id && decide (2 ≤ (s.path kind i).state))

/-! ## Streams (spec/04_ethernet_ingest.md R141, R149, R157, R159; spec/05_decode.md R165) -/

/-- A field of a stream's registers, or of its context's, is zero or out of range (R159). -/
def State.streamFieldBad (s : State) (st : Nat) : Bool :=
  let k := s.getNext (F.STRM_CFG_KIND st)
  k == 0 || decide (5 < k) || s.getNext (F.STRM_CFG_FORMAT st) == 3 || s.getNext (F.STRM_CFG_PORTS st) == 0 ||
  (k == 3 && decide (1000 < s.getNext (F.STRM_CFG_LOSS_PERMILLE st))) ||
  s.getNext (F.STRM_POOL_UNITMAX st) == 0 || s.getNext (F.STRM_POOL_MAX_UNITS st) == 0 ||
  s.getNext (F.STRM_TIMING_LEAD_US st) == 0 || s.getNext (F.STRM_TIMING_DEPTH_US st) == 0 ||
  s.getNext (F.STRM_RATE_MBPS st) == 0 || decide (1440000 < s.getNext (F.STRM_RATE_MBPS st)) ||
  (k == 1 && (s.contextsNaming st).any (fun c =>
    let n := s.getNext (F.DEC_CTX_SLOTS_SLOT_COUNT c)
    let u := s.getNext (F.DEC_CTX_SLOTS_SLOT_UNITS c)
    let m := s.getNext (F.DEC_CTX_RATE_MSPS c)
    n == 0 || decide (1024 < n) || u == 0 || decide (4096 < u) || m == 0 || decide (8000 < m)))

/-- ROLE of a port. -/
def State.portRole (s : State) (n : Nat) : Nat := s.get (F.ETH_ROLE_ROLE n)

/-- The PRIMARY and LIVE SOURCE ports of a mask. -/
def State.sharePorts (s : State) (ports : Nat) : List Nat :=
  (upto 0 4).filter (fun n => ports.testBit n && (s.portRole n == 1 || s.portRole n == 3))

/-- A SECONDARY port of a mask mirrors a port that is not PRIMARY or not in the mask (R141). -/
def State.mirrorBad (s : State) (ports : Nat) : Bool :=
  (upto 0 4).any (fun n => ports.testBit n && s.portRole n == 2 &&
    !(s.portRole (s.get (F.ETH_ROLE_MIRROR n)) == 1 && ports.testBit (s.get (F.ETH_ROLE_MIRROR n))))

/-- The share of a port in units of 1/12 Mbit/s (R157). -/
def State.share (s : State) (ports mbps n : Nat) : Nat :=
  let k := (s.sharePorts ports).length
  if ports.testBit n ∧ (s.portRole n = 1 ∨ s.portRole n = 2 ∨ s.portRole n = 3) ∧ k ≠ 0 then 12 * mbps / k else 0

/-- 90 % of a port's rate in Mbit/s (R157). -/
def State.portBudget (s : State) (n : Nat) : Nat :=
  let v := s.get (F.ETH_CFG_SPEED n)
  if v = 1 then 90000 else if v = 2 then 180000 else if v = 3 then 360000 else 0

/-- The admission check of R157 fails. -/
def State.admissionBad (s : State) (st : Nat) : Bool :=
  let ports := s.getNext (F.STRM_CFG_PORTS st)
  let mbps := s.getNext (F.STRM_RATE_MBPS st)
  (s.sharePorts ports).isEmpty ||
  (upto 0 4).any (fun n => decide (12 * s.portBudget n < s.share ports mbps n +
    ((s.boundOthers 1 st).map (fun o => s.share (s.streamPorts o) (s.bindField 1 o (F.STRM_RATE_MBPS o)) n)).sum))

/-- The contexts of the other BOUND and ARMED CODED streams, with their streams. -/
def State.otherContexts (s : State) (st : Nat) : List (Nat × Nat) :=
  (s.boundOthers 1 st).filterMap (fun o => if s.streamKind o = 1 then (s.boundContext o).map (fun c => (o, c)) else none)

/-- The slot bytes of the context that serves bound stream o. -/
def State.slotBytes (s : State) (o c : Nat) : Nat :=
  s.bindField 1 o (F.DEC_CTX_SLOTS_SLOT_COUNT c) * s.bindField 1 o (F.DEC_CTX_SLOTS_SLOT_UNITS c) * 65536

/-- The checks of R165 on a CODED stream, in order. -/
def State.codedCheck (s : State) (st : Nat) : Option Status :=
  match s.contextsNaming st with
  | [c] =>
    let pool := s.getNext (F.DEC_CTX_CFG_POOL_ID c)
    let slots := s.getNext (F.DEC_CTX_SLOTS_SLOT_COUNT c)
    let others := s.otherContexts st
    let shared := (others.filter (fun o => s.bindField 1 o.1 (F.DEC_CTX_CFG_POOL_ID o.2) == pool)).map (fun o => s.slotBytes o.1 o.2)
    firstFailure
      [ failIf (!s.poolIs pool 2) .pool
      , failIf (!s.poolHolds pool (slots * s.getNext (F.DEC_CTX_SLOTS_SLOT_UNITS c) * 65536 + shared.sum)) .pool
      , failIf (decide (1024 < slots + (others.map (fun o => s.bindField 1 o.1 (F.DEC_CTX_SLOTS_SLOT_COUNT o.2))).sum)) .value
      , failIf (decide (8000 < s.getNext (F.DEC_CTX_RATE_MSPS c) +
          (others.map (fun o => s.bindField 1 o.1 (F.DEC_CTX_RATE_MSPS o.2))).sum)) .value ]
  | _ => some .value

/-- The flows a stream needs have routes: each port to the stack of its jitter buffer; for a CODED stream, that stack to
every decode engine that the image gives power, and each such engine to the stack of the frame slots. -/
def State.streamRoutes (s : State) (st : Nat) : Bool :=
  let jb := s.poolEndpoint (s.getNext (F.STRM_POOL_POOL_ID st))
  (upto 0 4).all (fun n => !(s.getNext (F.STRM_CFG_PORTS st)).testBit n || s.hasRoute (0x20 + n) jb) &&
  (s.getNext (F.STRM_CFG_KIND st) != 1 || (s.contextsNaming st).all (fun c =>
    (upto 0 8).all (fun e => s.domainValue (80 + e) == 0 ||
      (s.hasRoute jb (0x10 + e) && s.hasRoute (0x10 + e) (s.poolEndpoint (s.getNext (F.DEC_CTX_CFG_POOL_ID c)))))))

/-- The checks of a stream's BIND, those of leases and tables apart. -/
def State.streamCheck (s : State) (st : Nat) : Option Status :=
  let pool := s.getNext (F.STRM_POOL_POOL_ID st)
  let kind := s.getNext (F.STRM_CFG_KIND st)
  firstFailure
    [ failIf (s.streamFieldBad st) .value
    , failIf (!s.poolIs pool 1) .pool
    , failIf (!s.poolHolds pool (s.getNext (F.STRM_POOL_MAX_UNITS st) * s.getNext (F.STRM_POOL_UNITMAX st) * 65536)) .pool
    , failIf (!s.streamRoutes st) .noRoute
    , failIf ((kind == 1 || kind == 2 || kind == 5) && !s.hasRole 1) .noRole
    , failIf (s.mirrorBad (s.getNext (F.STRM_CFG_PORTS st))) .value
    , failIf (s.admissionBad st) .value
    , if kind = 1 then s.codedCheck st else none ]

/-! ## Layers (spec/06_carding.md R202 to R208) -/

/-- The work area of a layer in bytes (R203). -/
def workBytes (views w h depth : Nat) : Nat := 2 * views * (w + 2 * depth) * (h + 2 * depth) * 8

/-- The endpoint that holds the pictures or units a layer reads. -/
def State.streamStack (s : State) (st : Nat) : Nat :=
  match s.streamKind st, s.boundContext st with
  | 1, some c => s.poolEndpoint (s.bindField 1 st (F.DEC_CTX_CFG_POOL_ID c))
  | _, _ => s.poolEndpoint (s.bindField 1 st (F.STRM_POOL_POOL_ID st))

/-- A layer's flows have routes: from where its stream lies, checked once that is bound, to every region with a block of the
role that reads it; and between those regions and the stack of its work area, where it has one. -/
def State.layerRoute (s : State) (views st area : Nat) : Bool :=
  (decide ((s.path 1 st).state < 2) || s.routeToRole (s.streamStack st) (if views = 0 then 2 else 1)) &&
  (views == 0 || (s.routeToRole (s.poolEndpoint area) 1 && s.routeFromRole 1 (s.poolEndpoint area)))

/-- The stream KIND that decides a layer's checks: as bound, else as its registers stand. -/
def State.kindOfStream (s : State) (st : Nat) : Nat :=
  if 2 ≤ (s.path 1 st).state then s.streamKind st else s.getNext (F.STRM_CFG_KIND st)

/-- KV_COUNT agrees with a stream's KIND (R202). -/
def viewsAgree (kind views : Nat) : Bool := if views = 0 then kind == 3 else kind == 1 || kind == 2

/-- A rectangle (X0, Y0, W, H) is legal in the descriptor in force (R203, check 2). -/
def State.rectLegal (s : State) (views x y w h : Nat) : Bool :=
  let g := s.geom
  decide (1 ≤ w) && decide (1 ≤ h) && decide (x + w ≤ g.hogelsX) && decide (y + h ≤ g.hogelsY) &&
  (views != 0 || (w == g.hogelsX && h == g.hogelsY))

/-- Check 2 of R203 on a layer as bound. -/
def State.layerRectLegal (s : State) (l : Nat) : Bool :=
  s.rectLegal (s.layerViews l) (s.bindField 2 l (F.CARD_LYR_ORIGIN_X0 l)) (s.bindField 2 l (F.CARD_LYR_ORIGIN_Y0 l))
    (s.bindField 2 l (F.CARD_LYR_SIZE_W l)) (s.bindField 2 l (F.CARD_LYR_SIZE_H l))

/-- A rectangle shares a hogel with that of bound layer o. -/
def State.rectMeets (s : State) (x y w h o : Nat) : Bool :=
  let x1 := s.bindField 2 o (F.CARD_LYR_ORIGIN_X0 o)
  let y1 := s.bindField 2 o (F.CARD_LYR_ORIGIN_Y0 o)
  decide (x < x1 + s.bindField 2 o (F.CARD_LYR_SIZE_W o)) && decide (x1 < x + w) &&
  decide (y < y1 + s.bindField 2 o (F.CARD_LYR_SIZE_H o)) && decide (y1 < y + h)

/-- A list has no repeats. -/
def distinct : List Nat → Bool
  | [] => true
  | a :: t => !t.contains a && distinct t

/-- The key-view layout descriptor of a layer, by word, passes R208. -/
def State.kvdLegal (s : State) (w : Nat → Nat) (kind : Nat) : Bool :=
  let g := s.geom
  let n := slice (w 0) 23 16
  let bits := slice (w 0) 31 24
  let es := (upto 0 (min n 32)).map (fun i => (w (4 + 2 * i), w (5 + 2 * i)))
  slice (w 0) 15 0 == 1 && w 1 == 0 && w 2 == 0 && w 3 == 0 && decide (n ≤ 32) && viewsAgree kind n &&
  (if kind = 2 then bits == 8 || bits == 10 || bits == 16 else bits == 0) &&
  es.all (fun e => decide (slice e.1 7 0 < g.viewsU) && decide (slice e.1 15 8 < g.viewsV) && slice e.2 15 0 != 0) &&
  distinct (es.map (fun e => slice e.1 15 0)) &&
  (kind != 1 || distinct (es.map (fun e => slice e.1 23 16) ++ es.map (fun e => slice e.1 31 24)))

/-- The checks of a layer's BIND, those of leases and tables apart. -/
def State.layerCheck (s : State) (l : Nat) : Option Status :=
  let kv := fun n => (s.nextWord (R.CARD_KVD l n)).toNat
  let views := slice (kv 0) 23 16
  let st := s.getNext (F.CARD_LYR_SRC_STREAM_ID l)
  let pool := s.getNext (F.CARD_LYR_SRC_POOL_ID l)
  let x := s.getNext (F.CARD_LYR_ORIGIN_X0 l)
  let y := s.getNext (F.CARD_LYR_ORIGIN_Y0 l)
  let w := s.getNext (F.CARD_LYR_SIZE_W l)
  let h := s.getNext (F.CARD_LYR_SIZE_H l)
  let keyed := views != 0 && decide (views ≤ 32)
  firstFailure
    [ failIf (keyed && !s.poolIs pool 6) .pool
    , failIf (keyed && !s.poolHolds pool (workBytes views w h (s.getNext (F.CARD_LYR_SEAM_DEPTH l)))) .pool
    , failIf (!s.layerRoute (if keyed then views else 0) st pool) .noRoute
    , failIf (keyed && !s.hasRole 1) .noRole
    , failIf ((s.path 1 st).state == 0 || !viewsAgree (s.kindOfStream st) views) .value
    , failIf (!s.rectLegal views x y w h) .value
    , failIf ((s.boundOthers 2 l).any (s.rectMeets x y w h)) .inUse
    , failIf (!s.kvdLegal kv (s.kindOfStream st)) .value ]

/-! ## Overlays (spec/08_plank_overlay.md R285; spec/06_carding.md R226) -/

/-- KV_COUNT of a layer: as bound, else as its registers stand. -/
def State.viewsOfLayer (s : State) (l : Nat) : Nat :=
  if 2 ≤ (s.path 2 l).state then s.layerViews l else slice (s.nextWord (R.CARD_KVD l 0)).toNat 23 16

/-- UNITMAX of a stream: as bound, else as its registers stand. -/
def State.unitMax (s : State) (st : Nat) : Nat :=
  if 2 ≤ (s.path 1 st).state then s.bindField 1 st (F.STRM_POOL_UNITMAX st) else s.getNext (F.STRM_POOL_UNITMAX st)

/-- Buffer b of overlay o as BIND would take it. -/
def State.nextBuffer (s : State) (o b : Nat) : Surface :=
  { pool := s.getNext (F.OV_POOL_POOL_ID o)
    base := 64 * s.getNext (if b = 0 then F.OV_BUF0_BASE o else F.OV_BUF1_BASE o)
    pitch := s.getNext (F.OV_PITCH_PITCH o)
    format := s.getNext (F.OV_FMT_FORMAT o) }

/-- The checks of an overlay's BIND, those of leases and tables apart. -/
def State.overlayCheck (s : State) (o : Nat) : Option Status :=
  let b0 := s.nextBuffer o 0
  let b1 := s.nextBuffer o 1
  let w := s.getNext (F.OV_SIZE_W o)
  let h := s.getNext (F.OV_SIZE_H o)
  let n := b0.pitch * h
  let st := s.getNext (F.OV_FMT_STREAM_ID o)
  let l := s.getNext (F.CARD_OV_BIND_LAYER o)
  let g := s.geom
  firstFailure
    [ failIf (!s.poolIs b0.pool 7) .pool
    , failIf (!s.routeToRole (s.poolEndpoint b0.pool) 1) .noRoute
    , failIf (b0.format == 3 || decide (4 < b0.format) || w == 0 || h == 0 || decide (4096 < w) || decide (4096 < h)) .value
    , failIf (!(pitchLegal b0 0 w && baseLegal b0 && baseLegal b1)) .value
    , failIf (!(s.poolHolds b0.pool (b0.base + n) && s.poolHolds b0.pool (b1.base + n))) .pool
    , failIf (decide (b0.base < b1.base + n ∧ b1.base < b0.base + n)) .value
    , failIf (s.getNext (F.OV_FMT_SOURCE o) == 1 &&
        ((s.path 1 st).state == 0 || s.kindOfStream st != 4 || decide (s.unitMax st * 65536 < n))) .value
    , failIf ((s.path 2 l).state == 0 || s.viewsOfLayer l == 0) .value
    , failIf (!(decide (s.getNext (F.CARD_OV_DEPTH_UREF o) < g.viewsU) && decide (s.getNext (F.CARD_OV_DEPTH_VREF o) < g.viewsV))) .value ]

/-! ## The presentation queue (spec/11_time_presentation.md R376) -/

/-- The staging areas in bytes (spec/07_conformer.md R257). -/
def State.stagingBytes (s : State) : Nat := 2097152 * stagingNeed s.geom (s.get F.CONF_FRAME_FRAMES_IN_FORCE)

/-- PIPE_US or BUILD_US is 0. -/
def State.pipeBad (s : State) : Bool := s.getNext F.PQ_PIPE_PIPE_US == 0 || s.getNext F.PQ_PIPE_BUILD_US == 0

/-- The checks of the queue's BIND, those of leases and tables apart. -/
def State.queueCheck (s : State) : Option Status :=
  let pool := s.get F.CONF_STAGE_POOL_ID
  firstFailure
    [ failIf (!s.poolIs pool 3) .pool
    , failIf (!s.poolHolds pool s.stagingBytes) .pool
    , failIf (!(s.hasRoute (s.poolEndpoint pool) 0x1E && s.routeFromRole 2 (s.poolEndpoint pool))) .noRoute
    , failIf (!s.hasRole 2) .noRole
    , failIf s.pipeBad .value ]

/-! ## The confidence output (spec/12_confidence_encoder.md R390, R391) -/

/-- The view entry i of the staged ENC_VIEW registers lies in the view grid. -/
def State.viewLegal (s : State) (i : Nat) : Bool :=
  decide (s.getNext (F.ENC_VIEW_VIEW_U (i / 4) (i % 4)) < s.geom.viewsU) && decide (s.getNext (F.ENC_VIEW_VIEW_V (i / 4) (i % 4)) < s.geom.viewsV)

/-- MODE, sizes, views and DIVIDE are legal (R391). -/
def State.pictureLegal (s : State) : Bool :=
  let m := s.getNext F.ENC_CFG_MODE
  let w := s.getNext F.ENC_SIZE_OUT_W
  let h := s.getNext F.ENC_SIZE_OUT_H
  let d := s.getNext F.ENC_CFG_DIVIDE
  decide (1 ≤ d) && decide (d ≤ 8) && decide (w ≤ 3840) && decide (h ≤ 2160) &&
  (if m = 1 then decide (64 ≤ w) && decide (64 ≤ h) && w % 8 == 0 && h % 8 == 0 && s.viewLegal 0
   else if m = 2 then decide (128 ≤ w) && decide (128 ≤ h) && w % 32 == 0 && h % 32 == 0 && (upto 0 16).all s.viewLegal
   else false)

/-- The encoder area in bytes: 36 × OUT_W × OUT_H + 16 MiB, in whole units (R390). -/
def encoderBytes (w h : Nat) : Nat := ceilDiv (36 * w * h + 16777216) 2097152 * 2097152

/-- The checks of the confidence output's BIND, those of leases and tables apart. -/
def State.outputCheck (s : State) : Option Status :=
  let w := s.getNext F.ENC_SIZE_OUT_W
  let h := s.getNext F.ENC_SIZE_OUT_H
  let pool := s.getNext F.ENC_POOL_POOL_ID
  let port := s.getNext F.ENC_TX_PORT
  let target := s.getNext F.ENC_BITRATE_TARGET
  let g := s.geom
  firstFailure
    [ failIf (!s.poolIs pool 8) .pool
    , failIf (!s.poolHolds pool (encoderBytes w h)) .pool
    , failIf (!(s.hasRoute (s.poolEndpoint (s.get F.CONF_STAGE_POOL_ID)) 0x19 && s.hasRoute 0x19 (0x20 + port))) .noRoute
    , failIf (!s.hasRole 3) .noRole
    , failIf (!s.pictureLegal) .value
    , failIf (s.portRole port != 4) .value
    , failIf (decide (497664000 * (g.rateDen * s.getNext F.ENC_CFG_DIVIDE) < w * h * g.rateNum)) .value
    , failIf (target == 0 || (s.getNext F.ENC_RC_RC_MODE == 1 && decide (s.getNext F.ENC_BITRATE_MAX < target))) .value ]

/-! ## BIND (R120; spec/15_translation_preemption.md R458 to R460) -/

/-- The checks of R120 and of the object's chapter. -/
def State.bindCheck (s : State) (kind id : Nat) : Option Status :=
  if kind = 1 then s.streamCheck id
  else if kind = 2 then s.layerCheck id
  else if kind = 3 then s.overlayCheck id
  else if kind = 4 then s.queueCheck
  else s.outputCheck

/-- The ranges that a BIND leases (R459): part, pool, offset where the binding names one, bytes. -/
def State.bindRanges (s : State) (kind id : Nat) : List (Nat × Nat × Option Nat × Nat) :=
  if kind = 1 then
    (0, s.getNext (F.STRM_POOL_POOL_ID id), none,
      s.getNext (F.STRM_POOL_MAX_UNITS id) * s.getNext (F.STRM_POOL_UNITMAX id) * 65536) ::
    (if s.getNext (F.STRM_CFG_KIND id) = 1 then (s.contextsNaming id).map (fun c =>
      (1, s.getNext (F.DEC_CTX_CFG_POOL_ID c), none,
        s.getNext (F.DEC_CTX_SLOTS_SLOT_COUNT c) * s.getNext (F.DEC_CTX_SLOTS_SLOT_UNITS c) * 65536)) else [])
  else if kind = 2 then
    let views := slice (s.nextWord (R.CARD_KVD id 0)).toNat 23 16
    if views = 0 then []
    else [(0, s.getNext (F.CARD_LYR_SRC_POOL_ID id), none,
      workBytes views (s.getNext (F.CARD_LYR_SIZE_W id)) (s.getNext (F.CARD_LYR_SIZE_H id)) (s.getNext (F.CARD_LYR_SEAM_DEPTH id)))]
  else if kind = 3 then
    [0, 1].map (fun b => (b, (s.nextBuffer id b).pool, some (s.nextBuffer id b).base, (s.nextBuffer id b).pitch * s.getNext (F.OV_SIZE_H id)))
  else if kind = 4 then [(0, s.get F.CONF_STAGE_POOL_ID, some 0, s.stagingBytes)]
  else [(0, s.getNext F.ENC_POOL_POOL_ID, none, encoderBytes (s.getNext F.ENC_SIZE_OUT_W) (s.getNext F.ENC_SIZE_OUT_H))]

/-- A range placed as if no release were pending. -/
def State.placeFree (s : State) (p : PoolRec) (len : Nat) : Option Nat :=
  ({ s with xlat := { s.xlat with leases := s.xlat.leases.filter (fun e => e.2.state != 2) } } : State).placeRange p len

/-- One range of an object is placed and leased (R459, R460, R462). -/
def leaseRange (kind id : Nat) (r : Nat × Nat × Option Nat × Nat) (s : State) : Except Status State :=
  let (part, pool, off, bytes) := r
  match off with
  | some a =>
    let base := a / 4096
    let len := pagesOf (a + bytes) - base
    if (s.meeting pool base len).any (fun e => (s.lease e).state == 2) then .error .inUse
    else match takeLease kind id part pool base len s with
      | some t => .ok t
      | none => .error .pool
  | none =>
    match s.pool pool with
    | none => .error .pool
    | some p =>
      let len := pagesOf bytes
      match s.placeRange p len with
      | none => .error (if (s.placeFree p len).isSome then .inUse else .pool)
      | some base =>
        match takeLease kind id part pool base len s with
        | some t => .ok t
        | none => .error .pool

/-- Every range of an object is leased, or none. -/
def leaseRanges (kind id : Nat) : List (Nat × Nat × Option Nat × Nat) → State → Except Status State
  | [], s => .ok s
  | r :: t, s =>
    match leaseRange kind id r s with
    | .ok s => leaseRanges kind id t s
    | .error st => .error st

/-- An object's bound leases end at once: a repeated BIND replaces them. -/
def dropLeases (kind id : Nat) (s : State) : State :=
  ((s.leasesOf kind id).filter (fun e => (s.lease e).state == 1)).foldl (fun s e => dropLease e s) s

/-- BIND on the staged values: every check, then the binding and its leases are taken (R120, R458 to R460). -/
def bindObject (kind id : Nat) (s : State) : Res :=
  match s.bindCheck kind id with
  | some st => refuse st s
  | none =>
    if ¬ s.tablePoolOk then refuse .pool s
    else
      match leaseRanges kind id (s.bindRanges kind id) (dropLeases kind id s) with
      | .error st => refuse st s
      | .ok t =>
        let t := t.setPath kind id { t.path kind id with state := 2, binding := s.nextBinding kind id, written := false }
        if t.tablesFit then okay t else refuse .pool s

/-! ## ARM and DISARM (R121, R122) -/

/-- The condition of an object's chapter on ARM (spec/06_carding.md R204; spec/02_structure_cukar.md R73;
spec/11_time_presentation.md R376; spec/18_modes_power_thermal.md R512). -/
def State.armCheck (s : State) (kind id : Nat) : Option Status :=
  if kind = 2 then
    firstFailure [failIf (!s.layerRectLegal id) .value, failIf (!s.layerRoute (s.layerViews id) (s.layerStream id) (s.bindField 2 id (F.CARD_LYR_SRC_POOL_ID id))) .noRoute]
  else if kind = 4 then
    firstFailure
      [ failIf s.pipeBad .value
      , failIf (s.get F.TIME_CFG_SOURCE == 1 && !s.flag F.TIME_STATUS_STEPPED) .state
      , failIf (s.ruleMode == 0x7 && s.get F.TIME_STATUS_STATE != 3) .state ]
  else none

/-- A stream starts: its staged registers take force, and those of every context whose staged DEC_CTX_CFG names it (R121;
spec/05_decode.md R166). -/
def startStream (st : Nat) (s : State) : State :=
  let s := s.commitAll (streamAddrs st ++ (s.contextsOwned st).flatMap contextAddrs)
  match if s.streamKind st = 1 then s.boundContext st else none with
  | some c => decArm c (streamArm st s)
  | none => streamArm st s

/-- An object becomes ARMED. -/
def armEffect (kind id : Nat) (s : State) : State :=
  let n := s.kcp.armCount + 1
  let s := s.setPath kind id { s.path kind id with state := 3, order := n, joined := kind == 1 }
  let s := { s with kcp := { s.kcp with armCount := n } }
  if kind = 1 then startStream id s else if kind = 5 then encArm (s.commitAll (joinAddrs 5 0)).regs s else s

/-- An object leaves ARMED: its data in flight is discarded (R119); work that has started and holds a lease runs to its end
(spec/15_translation_preemption.md R461, R462). -/
def disarmObject (kind id : Nat) (s : State) : State :=
  let s := s.setPath kind id { s.path kind id with state := 2, order := 0, joined := false }
  settlePower (
    if kind = 1 then
      let s := match s.boundContext id with
        | some c => if s.streamKind id = 1 then decDisarm c s else s
        | none => s
      streamDisarm id s
    else if kind = 2 then
      dropInstants (fun i => i.layer != id || (i.phase != 0 && (i.input != .rays || s.assigned i))) s
    else if kind = 4 then dropEntries (s.withConf { s.conf with lastLaunch := none, cut := none })
    else if kind = 5 then encDisarm s
    else s)

/-- DISARM with CASCADE: the ARMED objects that name it first, in the reverse of the order of arming. The names go at most
three deep: overlay, layer, stream. -/
def cascade : Nat → Nat → Nat → State → State
  | 0, kind, id, s => if s.armed kind id then disarmObject kind id s else s
  | n + 1, kind, id, s =>
    let s := (s.byArming ((s.namers kind id).filter (fun o => s.armed o.1 o.2))).foldl (fun s o => cascade n o.1 o.2 s) s
    if s.armed kind id then disarmObject kind id s else s

/-- Every ARMED object. -/
def State.armedObjects (s : State) : List (Nat × Nat) := allObjects.filter (fun o => s.armed o.1 o.2)

/-- A mode change disarms what the new mode does not permit, as if by CASCADE (R123; spec/18_modes_power_thermal.md R515). -/
def disarmForbidden (mode : Nat) (s : State) : State :=
  (s.byArming (s.armedObjects.filter (fun o => !armPermitted mode o.1 (s.boundSub o.1 o.2)))).foldl (fun s o => cascade 2 o.1 o.2 s) s

/-! ## The actions (R119) -/

/-- The registers that DECLARE resets (R119): the object's binding registers, for a stream those of its decode contexts too
(spec/05_decode.md R166). -/
def State.declareAddrs (s : State) (kind id : Nat) : List Nat :=
  bindAddrs kind id ++ (if kind = 1 then (s.contextsOwned id).flatMap contextAddrs else [])

/-- DECLARE: the binding registers take their reset values, for a stream with those of the decode contexts that belong to
it. -/
def declareObject (kind id : Nat) (s : State) : Res :=
  if quietMode s.modeNow then refuse .mode s
  else if (s.path kind id).state ≠ 0 then refuse .state s
  else
    okay ((s.resetWords (s.declareAddrs kind id)).setPath kind id { state := 1 })

/-- BIND. -/
def bindAction (kind id : Nat) (s : State) : Res :=
  if quietMode s.modeNow then refuse .mode s
  else if (s.path kind id).state ≠ 1 ∧ (s.path kind id).state ≠ 2 then refuse .state s
  else bindObject kind id s

/-- ARM. -/
def armAction (kind id : Nat) (s : State) : Res :=
  if ¬ armPermitted s.ruleMode kind (s.armSub kind id) then refuse .mode s
  else if (s.path kind id).state ≠ 2 then refuse .state s
  else
    let r := if (s.path kind id).written then bindObject kind id s else (.ok, s)
    if r.1 ≠ .ok then (r.1, s)
    else
      let t := r.2
      if ¬ (t.names kind id).all (fun o => t.armed o.1 o.2) then (.state, t)
      else match t.armCheck kind id with
        | some st => (st, t)
        | none => okay (armEffect kind id t)

/-- DISARM. -/
def disarmAction (kind id : Nat) (withCascade : Bool) (s : State) : Res :=
  if (s.path kind id).state ≠ 3 then refuse .state s
  else if withCascade then okay (cascade 2 kind id s)
  else if ¬ (s.namers kind id).isEmpty then refuse .inUse s
  else okay (disarmObject kind id s)

/-- UNBIND (R119; spec/15_translation_preemption.md R462). -/
def unbindAction (kind id : Nat) (s : State) : Res :=
  if (s.path kind id).state ≠ 2 then refuse .state s
  else if ¬ (s.namers kind id).isEmpty then refuse .inUse s
  else
    let s := releaseObject kind id s
    okay (s.setPath kind id { state := 1, touched := true })

/-- UNDECLARE. -/
def undeclareAction (kind id : Nat) (s : State) : Res :=
  if (s.path kind id).state ≠ 1 then refuse .state s
  else if ¬ (s.namers kind id).isEmpty then refuse .inUse s
  else okay (s.setPath kind id {})

/-- An action by its code; KIND or ID out of range is answered with VALUE (R119, PATH_CMD). -/
def pathAction (action kind id : Nat) (withCascade : Bool) (s : State) : Res :=
  if ¬ (pathIds kind).contains id then refuse .value s
  else if action = 1 then declareObject kind id s
  else if action = 2 then bindAction kind id s
  else if action = 3 then armAction kind id s
  else if action = 4 then disarmAction kind id withCascade s
  else if action = 5 then unbindAction kind id s
  else if action = 6 then undeclareAction kind id s
  else refuse .value s

/-- A write of PATH_CMD. -/
def pathCmdWrite (v : Word) (s : State) : Res :=
  pathAction (wordField v F.PATH_CMD_ACTION) (wordField v F.PATH_CMD_KIND) (wordField v F.PATH_CMD_ID)
    (wordField v F.PATH_CMD_CASCADE == 1) s

/-- A word of PATH_STATE0 to PATH_STATE9. -/
def pathStateWord (n : Nat) (s : State) : Word :=
  let st := fun m =>
    if n < 4 then (s.path 1 (16 * n + m)).state
    else if n < 8 then (s.path 2 (16 * (n - 4) + m)).state
    else if n = 8 then (s.path 3 m).state
    else if m = 0 then (s.path 4 0).state
    else if m = 1 then (s.path 5 0).state
    else 0
  BitVec.ofNat 32 ((upto 0 16).foldl (fun acc m => acc + st m * 4 ^ m) 0)

/-! ## Fences and loads -/

/-- The staged words of an object take force at a fence: all of them when it joins presentation, those its chapter admits
while ARMED later (R121, R125). OV_FRONT is taken by its own rule (spec/08_plank_overlay.md R287). -/
def takeStaged (s : State) : State :=
  [2, 3, 4, 5].foldl (fun s k =>
    (s.armedIds k).foldl (fun s i =>
      let s := s.commitAll ((joinAddrs k i).filter (fun a => k != 3 || a != R.OV_FRONT i))
      s.setPath k i { s.path k i with joined := true }) s) s

/-- A load that passes returns every object to UNDECLARED and ends every lease (R123; spec/02_structure_cukar.md R93). -/
def pathsReset (s : State) : State :=
  let s := (s.byArming s.armedObjects).foldl (fun s o => disarmObject o.1 o.2 s) s
  let s := (upto 0 256).foldl (fun s e => if (s.lease e).state = 0 then s else dropLease e s) s
  { s with kcp := { s.kcp with paths := [] }, xlat := { s.xlat with forced := [] } }

end Sys2Proof.Machine
end

