-- ==== Sys2Proof/Machine/Time.lean ====
section
/-! DEFINITION. Q9 time: the reference clock, PTP, the step and the servo (spec/11_time_presentation.md R359 to R371). -/

namespace Sys2Proof.Machine

/-- The state with its time part replaced. -/
def State.withTime (s : State) (t : TimeState) : State := { s with time := t }

/-! ## Signed 64-bit register pairs -/

/-- A signed 64-bit value in a pair of words. -/
def State.signedPair (s : State) (lo hi : Nat) : Int := signedOf 64 ((s.word lo).toNat + 2 ^ 32 * (s.word hi).toNat)

/-- A pair of words that holds a signed 64-bit value. -/
def State.setPair (s : State) (lo hi : Nat) (v : Int) : State :=
  let n := patternOf 64 v
  (s.setWord lo (BitVec.ofNat 32 n)).setWord hi (BitVec.ofNat 32 (n / 2 ^ 32))

/-! ## The frame generators of the ports (spec/20_test_identity.md R547) -/

/-- Gbit/s of a port's SPEED. -/
def portGbits (code : Nat) : Nat := if code = 0 then 0 else 100 * 2 ^ (code - 1)

/-- Frames that the generator of port n has sent and taken back since ETH_LOOP was written: FRAME_LEN bytes, preamble and
gap each, at the port's rate (spec/20_test_identity.md R547). -/
def State.loopFrames (s : State) (n : Nat) : Nat :=
  if s.portDeaf n && s.flag (F.ETH_LOOP_GEN_EN n) then
    (s.now - (tabGet {} s.ingest.ports n).loopAt) * portGbits (s.get (F.ETH_CFG_SPEED n)) /
      (8 * (s.get (F.ETH_LOOP_FRAME_LEN n) + 20))
  else 0

/-- A frame of the generator of port n, FRAME_LEN bytes: both addresses the port's own, EtherType 0x88B5, its sequence number,
the output of R300 from the start, and the FCS. -/
def State.loopFrame (s : State) (n k : Nat) : List Byte :=
  let len := s.get (F.ETH_LOOP_FRAME_LEN n)
  let fill := bytesOfBits (len - 22) (trainBits (8 * (len - 22)) 127)
  let frame := beBytes (s.mac n) 6 ++ beBytes (s.mac n) 6 ++ [0x88, 0xB5] ++ leBytes k 4 ++ fill.map (BitVec.ofNat 8)
  frame ++ leBytes (frameFcs frame) 4

/-- The frames of port n's generator between two counts leave on the wire in modes 0x1 and 0x2. -/
def loopSend (n before : Nat) (s : State) : State :=
  if s.loopFrames n ≤ before ∨ s.get (F.ETH_LOOP_MODE n) = 3 then s
  else (upto before (s.loopFrames n - before)).foldl (fun s k => s.emit (.frame n "generator" (s.loopFrame n k))) s

/-- One nanosecond of the reference clock passes: Q9 time advances by 1 + RATE × 2^-48 ns (R367), the network carries, frames
whose pause has ended leave (spec/04_ethernet_ingest.md R137), and so do those of the frame generators. In reset, and without
the reference clock, nothing passes. -/
def tick (s : State) : State :=
  let rate := s.signedPair R.TIME_RATE_LO R.TIME_RATE_HI
  if s.pins.inReset || !s.pins.refSys then s
  else
    let t := netTick { s with now := s.now + 1, time := { s.time with q := ((s.time.q : Int) + 2 ^ 48 + rate).toNat } }
    (upto 0 4).foldl (fun t n => loopSend n (s.loopFrames n) (flushPort n t)) t

/-! ## Masters (R362, R363) -/

/-- A PTP message is taken: SOURCE 0x1, a port of PORTS, the configured domain, a configured IP version (R362, R370). -/
def State.ptpTaken (s : State) (h : PtpHeader) : Bool :=
  s.flag F.TIME_CFG_SOURCE && (s.get F.TIME_CFG_PORTS).testBit h.port.val && s.get F.TIME_CFG_DOMAIN == h.domain &&
  (s.get F.TIME_CFG_IPVER).testBit (bit h.ip6)

/-- TIME_STATUS.STATE changes; TIME_FAULT_CLEARED on leaving FAULT (R389). -/
def setTimeState (v : Nat) (s : State) : State :=
  let t := s.set F.TIME_STATUS_STATE v
  if s.get F.TIME_STATUS_STATE = 5 ∧ v ≠ 5 then raise 131 t else t

/-- The identity of a master heard. -/
def MasterRec.id (m : MasterRec) : MasterId := ⟨m.clockId, m.portNumber, m.port⟩

/-- The identity of a message's sender. -/
def senderOf (h : PtpHeader) : MasterId := ⟨h.clockId, h.portNumber, h.port.val⟩

/-- The message intervals that the selected profile permits (R362), as logMessageInterval; kind: 0 Announce, 1 Sync,
2 Delay_Req. -/
def State.permits (s : State) (kind : Nat) (i : Int) : Bool :=
  let between := fun (a b : Int) => decide (a ≤ i ∧ i ≤ b)
  match s.flag F.TIME_CFG_PROFILE, kind with
  | false, 0 => between 0 4
  | false, 1 => between (-1) 1
  | false, _ => between 0 5
  | true, 0 => between (-3) 1
  | true, 1 => between (-7) (-1)
  | true, _ => between (-7) 4

/-- A message interval in nanoseconds. -/
def intervalNs (i : Int) : Nat := if i ≥ 0 then 1000000000 * 2 ^ i.toNat else 1000000000 / 2 ^ (-i).toNat

/-- logMessageInterval of Delay_Req until a Delay_Resp gives one: the profile's default. -/
def State.firstInterval (s : State) : Int := if s.flag F.TIME_CFG_PROFILE then -3 else 0

/-- a is a better master than b by the data that their Announce messages carry, in the order of the default best master
clock algorithm (R363): priority1, class, accuracy, variance, priority2, grandmaster identity, steps removed, then the
sender. -/
def betterList : List Nat → List Nat → Bool
  | [], _ => false
  | _ :: _, [] => false
  | a :: x, b :: y => if a < b then true else if b < a then false else betterList x y

/-- The comparison key of a master. -/
def masterKey (m : MasterRec) : List Nat := m.quality ++ [m.clockId, m.portNumber, m.port]

/-- The best of the masters heard. -/
def bestMaster (ms : List MasterRec) : Option MasterRec :=
  ms.foldl (fun best m => match best with
    | none => some m
    | some b => if betterList (masterKey m) (masterKey b) then some m else best) none

/-- The master in use, as TIME_MASTER and PORT report it. -/
def setMaster (m : Option MasterRec) (s : State) : State :=
  let id := match m with | some x => x.clockId | none => 0
  let s := (s.setWord R.TIME_MASTER_LO (BitVec.ofNat 32 id)).setWord R.TIME_MASTER_HI (BitVec.ofNat 32 (id / 2 ^ 32))
  let s := match m with | some x => s.set F.TIME_STATUS_PORT x.port | none => s
  s.withTime { s.time with
    chosen := m.map (fun x => x.id), measure := {}, offsets := [], dreqDue := none, dreqLog := s.firstInterval }

/-- The master is chosen again from those heard (R363, R369). -/
def chooseMaster (s : State) : State :=
  let best := bestMaster s.time.masters
  let id := best.map (fun m => m.id)
  if id = s.time.chosen then s
  else
    let had := s.time.chosen
    let s := setMaster best s
    match best with
    | none => raise 133 (setTimeState 4 s)
    | some _ =>
      let s := if had.isNone then setTimeState 2 (s.withTime { s.time with good := 0, bad := 0 }) else s
      if had.isSome then raise 132 s else s

/-- PTP_ANNOUNCE_RECEIVE: quality as the best master clock algorithm orders it; announceReceiptTimeout is three of the
sender's Announce intervals (R363). -/
def ptpAnnounce (h : PtpHeader) (quality : List Nat) (s : State) : State :=
  if ¬ s.ptpTaken h ∨ ¬ s.permits 0 h.logInterval then s
  else
    let rest := s.time.masters.filter (fun m => m.id != senderOf h)
    chooseMaster (s.withTime { s.time with masters := rest ++
      [⟨h.clockId, h.portNumber, h.port.val, h.ip6, h.mac, h.ip, quality, s.now, 3 * intervalNs h.logInterval⟩] })

/-- ANNOUNCE_TIMEOUT: masters not heard for announceReceiptTimeout are lost (R363). -/
def announceTimeout (s : State) : State :=
  chooseMaster (s.withTime { s.time with
    masters := s.time.masters.filter (fun m => decide (s.now < m.lastAnnounce + m.timeout)) })

/-! ## Offset measurement (R361, R364) -/

/-- The 48-bit seconds of a timestamp extended to 64 bits: the value nearest to the local SECONDS (R361). -/
def extendSeconds (local_ wire : Nat) : Nat :=
  let base := local_ / 2 ^ 48 * 2 ^ 48 + wire % 2 ^ 48
  if local_ > base ∧ local_ - base > 2 ^ 47 then base + 2 ^ 48
  else if base > local_ ∧ base - local_ > 2 ^ 47 ∧ base ≥ 2 ^ 48 then base - 2 ^ 48
  else base

/-- A wire timestamp in nanoseconds. -/
def State.ptpTime (s : State) (seconds ns : Nat) : Nat := extendSeconds s.seconds seconds * 1000000000 + ns

/-- The message comes from the chosen master on its port. -/
def State.fromMaster (s : State) (h : PtpHeader) : Bool :=
  s.ptpTaken h && s.time.chosen == some (senderOf h)

/-- PTP_SYNC_RECEIVE: stamped with Q9 time on arrival; a one-step Sync carries its origin time (R362, R364). -/
def ptpSync (h : PtpHeader) (twoStep : Bool) (seconds ns : Nat) (correction : Int) (s : State) : State :=
  if ¬ s.fromMaster h ∨ ¬ s.permits 1 h.logInterval then s
  else
    let s := s.set F.TIME_STATUS_TWO_STEP (bit twoStep)
    s.withTime { s.time with measure := { s.time.measure with
      syncSeq := h.seq, t2 := some s.q9, t1 := if twoStep then none else some (s.ptpTime seconds ns), correction := correction } }

/-- PTP_FOLLOW_UP_RECEIVE: the origin time of a two-step Sync (R364). -/
def ptpFollowUp (h : PtpHeader) (seconds ns : Nat) (correction : Int) (s : State) : State :=
  let m := s.time.measure
  if ¬ s.fromMaster h ∨ m.t2.isNone ∨ m.t1.isSome ∨ m.syncSeq ≠ h.seq then s
  else s.withTime { s.time with measure := { m with
    t1 := some (s.ptpTime seconds ns), correction := m.correction + correction } }

/-- The Q9's own port identity on Ethernet port n: the EUI-64 clockIdentity made from the port's MAC address, and portNumber
1. -/
def State.ptpIdentity (s : State) (n : Nat) : List Byte :=
  let mac := s.mac n
  beBytes (mac / 2 ^ 24) 3 ++ [0xFF, 0xFE] ++ beBytes (mac % 2 ^ 24) 3 ++ beBytes 1 2

/-- A Delay_Req message: its 34-byte header and the origin timestamp, the low 48 bits of SECONDS and NS (R361). -/
def State.delayReq (s : State) (n seq : Nat) : List Byte :=
  [0x01, 0x12] ++ beBytes 44 2 ++ beBytes (s.get F.TIME_CFG_DOMAIN) 1 ++ [0, if s.flag F.TIME_CFG_DREQ_UNICAST then 4 else 0, 0] ++
  List.replicate 12 0 ++ s.ptpIdentity n ++ beBytes seq 2 ++ [1, 0x7F] ++ beBytes (s.seconds % 2 ^ 48) 6 ++ beBytes s.nanos 4

/-- The IPv6 address that port n sends from: the one of ETH_IP6_0 to ETH_IP6_3, else the link-local one
(spec/04_ethernet_ingest.md R138). -/
def State.sourceIp6 (s : State) (n : Nat) : Nat := if (s.port n).ip6 = 0 then linkLocal (s.mac n) else (s.port n).ip6

/-- The addresses that a PTP event message to master m carries: both MAC addresses, both IP addresses, and event port 319 on
both sides (R362). -/
def State.ptpAddresses (s : State) (m : MasterRec) : List Byte :=
  let uni := s.flag F.TIME_CFG_DREQ_UNICAST
  let mac := if uni then m.mac else if m.ip6 then 0x333300000181 else 0x01005E000181
  let ip := if uni then m.ip else if m.ip6 then 0xFF0E0000000000000000000000000181 else 0xE0000181
  let ips := if m.ip6 then beBytes (s.sourceIp6 m.port) 16 ++ beBytes ip 16 else beBytes (s.get (F.ETH_IP4_ADDR m.port)) 4 ++ beBytes ip 4
  beBytes mac 6 ++ beBytes (s.mac m.port) 6 ++ ips ++ beBytes 319 2 ++ beBytes 319 2

/-- A Delay_Req to master m may leave: its time has come, and its port has a link and is not paused
(spec/04_ethernet_ingest.md R137). -/
def State.dreqReady (s : State) (m : MasterRec) : Bool :=
  s.flag F.TIME_CFG_SOURCE && (match s.time.dreqDue with | some t => decide (t ≤ s.now) | none => true) &&
  s.get (F.ETH_STATUS_LINK m.port) != 0 && !s.portPaused m.port (s.get (F.ETH_CFG_PCP m.port))

/-- DELAY_REQ_SEND (R361, R362, R364): in the interval that the master's last Delay_Resp gave. -/
def delayReqSend (s : State) : State :=
  match s.time.masters.find? (fun m => s.time.chosen == some m.id) with
  | none => s
  | some m =>
    if ¬ s.dreqReady m then s
    else
      let n := (s.time.dreqSeq + 1) % 65536
      let s := s.withTime { s.time with
        dreqSeq := n, dreqDue := some (s.now + intervalNs s.time.dreqLog)
        measure := { s.time.measure with dreqSeq := n, t3 := some s.q9 } }
      s.emit (.frame m.port "delay_req" (s.tagged m.port (s.ptpAddresses m ++ s.delayReq m.port n)))

/-! ## Step and servo (R365 to R368) -/

/-- A signed value in a saturating 32-bit field. -/
def saturate32 (i : Int) : Nat :=
  patternOf 32 (if i > 0x7FFFFFFF then 0x7FFFFFFF else if i < -0x80000000 then -0x80000000 else i)

/-- Insertion into an ascending list. -/
def insertSorted (x : Int) : List Int → List Int
  | [] => [x]
  | y :: t => if x ≤ y then x :: y :: t else y :: insertSorted x t

/-- The mean of the fourth and fifth smallest of eight offsets, rounded towards zero (R366). -/
def stepOf (offsets : List Int) : Int :=
  let o := offsets.foldr insertSorted []
  (o.getD 3 0 + o.getD 4 0).tdiv 2

/-- The greatest difference between offsets. -/
def spreadOf (offsets : List Int) : Int :=
  let o := offsets.foldr insertSorted []
  o.getLastD 0 - o.headD 0

/-- First lock: Q9 time steps by the offset found, once (R366). The offset is Q9 time minus master time, so the step that
removes it has the opposite sign (assumption log entry 10). -/
def timeStep (s : State) : State :=
  let step := -stepOf s.time.offsets
  let s := s.withTime { s.time with q := ((s.time.q : Int) + step * 2 ^ 48).toNat, offsets := [], good := 0, bad := 0 }
  let s := s.setPair R.TIME_STEPAMT_LO R.TIME_STEPAMT_HI step
  raise 129 ((s.set F.TIME_STATUS_STEPPED 1).set F.TIME_STATUS_STEP_ARMED 0)

/-- The servo's RATE: its estimate and its correction term are free values within the clamps of R367. -/
def servo (s : State) : State :=
  let (n, s) := s.draw
  s.setPair R.TIME_RATE_LO R.TIME_RATE_HI ((n % 112589990685 : Nat) - 56294995342)

/-- States that follow an offset after the step (R365, R368). -/
def settleTime (o : Int) (s : State) : State :=
  let good := if o.natAbs ≤ 1000 then s.time.good + 1 else 0
  let bad := if o.natAbs > 1000000 then s.time.bad + 1 else 0
  let s := servo (s.withTime { s.time with good := good, bad := bad })
  let st := s.get F.TIME_STATUS_STATE
  if st = 5 then (if good ≥ 8 then raise 128 (setTimeState 3 s) else s)
  else if bad ≥ 4 then raise 130 (setTimeState 5 s)
  else if good ≥ 8 then (if st = 3 then s else raise 128 (setTimeState 3 s))
  else if st = 3 ∧ o.natAbs > 1000 then setTimeState 2 s
  else s

/-- One offset measurement (R364 to R368). -/
def takeOffset (o : Int) (s : State) : State :=
  let s := s.setWord R.TIME_OFFSET (BitVec.ofNat 32 (saturate32 o))
  if s.flag F.TIME_STATUS_STEP_ARMED then
    let s := s.withTime { s.time with offsets := (o :: s.time.offsets).take 8 }
    if s.time.offsets.length = 8 ∧ spreadOf s.time.offsets ≤ 1000 then timeStep s else s
  else settleTime o s

/-- The offset of a complete measurement: ((t2 - t1 - c1 - ASYM) - (t4 - t3 - c2)) / 2 (R364). -/
def offsetOf (t1 t2 t3 t4 : Nat) (c1 c2 asym : Int) : Int :=
  (((t2 : Int) - t1 - c1 - asym) - ((t4 : Int) - t3 - c2)).tdiv 2

/-- PTP_DELAY_RESP_RECEIVE (R362, R364); requester: its requestingPortIdentity, which must be the Q9's own. -/
def ptpDelayResp (h : PtpHeader) (requester : List Byte) (seconds ns : Nat) (correction : Int) (s : State) : State :=
  let m := s.time.measure
  if ¬ s.fromMaster h ∨ requester ≠ s.ptpIdentity h.port.val ∨ m.dreqSeq ≠ h.seq then s
  else
    let s := if s.permits 2 h.logInterval then s.withTime { s.time with dreqLog := h.logInterval } else s
    match m.t1, m.t2, m.t3 with
    | some t1, some t2, some t3 =>
      let asym := signedOf 32 (s.word R.TIME_ASYM).toNat
      let s := s.withTime { s.time with measure := {} }
      takeOffset (offsetOf t1 t2 t3 (s.ptpTime seconds ns) m.correction correction asym) s
    | _, _, _ => s

/-- Entry to STANDBY arms the step again (R368). -/
def timeStandby (s : State) : State :=
  let s := (s.set F.TIME_STATUS_STEP_ARMED 1).set F.TIME_STATUS_STEPPED 0
  let s := s.withTime { s.time with offsets := [], good := 0, bad := 0 }
  if s.flag F.TIME_CFG_SOURCE then setTimeState (if s.time.chosen.isSome then 2 else 1) s else s

/-! ## Registers (R370, R387) -/

/-- A write of TIME_CFG (R370, R387). -/
def timeCfgWrite (v : Word) (s : State) : Res :=
  if s.armed 4 0 then refuse .window s
  else if wordField v F.TIME_CFG_DOMAIN > 127 ∨ wordField v F.TIME_CFG_IPVER = 0 then refuse .value s
  else
    let was := s.flag F.TIME_CFG_SOURCE
    let domain := s.get F.TIME_CFG_DOMAIN
    let s := [F.TIME_CFG_DOMAIN, F.TIME_CFG_PORTS, F.TIME_CFG_IPVER, F.TIME_CFG_DREQ_UNICAST, F.TIME_CFG_PROFILE,
      F.TIME_CFG_SOURCE].foldl (fun s f => s.set f (wordField v f)) s
    let now := s.flag F.TIME_CFG_SOURCE
    if ¬ now then
      let s := s.withTime { s.time with masters := [] }
      okay (setTimeState 0 (setMaster none (s.setPair R.TIME_RATE_LO R.TIME_RATE_HI 0)))
    else if ¬ was then okay (setTimeState 1 s)
    else okay (chooseMaster (s.withTime { s.time with
      masters := s.time.masters.filter (fun m => (s.get F.TIME_CFG_PORTS).testBit m.port &&
        (s.get F.TIME_CFG_IPVER).testBit (bit m.ip6) && s.get F.TIME_CFG_DOMAIN == domain) }))

/-- A write of TIME_ASYM (R364, R387). -/
def timeAsymWrite (v : Word) (s : State) : Res :=
  if s.armed 4 0 then refuse .window s
  else if (signedOf 32 v.toNat).natAbs > 1000000 then refuse .value s
  else okay (s.setWord R.TIME_ASYM v)

/-! ## The commands -/

/-- PTP_ANNOUNCE_RECEIVE (R363). -/
def execPtpAnnounceReceive (h : PtpHeader) (grandmaster : List Nat) (stepsRemoved : Nat) (s : State) : Host.Outcome State Fault Refusal :=
  whenLive s (heard h.port.val (ptpAnnounce h (grandmaster ++ [stepsRemoved])))

/-- PTP_SYNC_RECEIVE (R364). -/
def execPtpSyncReceive (h : PtpHeader) (twoStep : Bool) (seconds ns : Nat) (correction : Int) (s : State) :
    Host.Outcome State Fault Refusal := whenLive s (heard h.port.val (ptpSync h twoStep seconds ns correction))

/-- PTP_FOLLOW_UP_RECEIVE (R364). -/
def execPtpFollowUpReceive (h : PtpHeader) (seconds ns : Nat) (correction : Int) (s : State) :
    Host.Outcome State Fault Refusal := whenLive s (heard h.port.val (ptpFollowUp h seconds ns correction))

/-- PTP_DELAY_RESP_RECEIVE (R364). -/
def execPtpDelayRespReceive (h : PtpHeader) (clock portNumber seconds ns : Nat) (correction : Int) (s : State) :
    Host.Outcome State Fault Refusal := whenLive s (heard h.port.val (ptpDelayResp h (beBytes clock 8 ++ beBytes portNumber 2) seconds ns correction))

/-- DELAY_REQ_SEND (R362). -/
def execDelayReqSend (s : State) : Host.Outcome State Fault Refusal := whenLive s delayReqSend

/-- ANNOUNCE_TIMEOUT (R363). -/
def execAnnounceTimeout (s : State) : Host.Outcome State Fault Refusal := whenLive s announceTimeout

/-- PTP_MANAGEMENT_RECEIVE: management messages are discarded (R362). -/
def execPtpManagementReceive (_h : PtpHeader) (s : State) : Host.Outcome State Fault Refusal := whenLive s (fun s => s)

end Sys2Proof.Machine
end

