-- ==== Sys2Proof/Machine/Modes.lean ====
section
/-! DEFINITION. Modes and their transitions, SAFE, THROTTLED, sensors, rails and bands
(spec/18_modes_power_thermal.md R512 to R532). -/

namespace Sys2Proof.Machine

/-! ## Requests (R513, R515, R532; spec/13_afloth_tiling.md R415) -/

/-- A set of mode codes contains a mode. -/
def modeIn (l : List Nat) (m : Nat) : Bool := l.contains m

/-- The table of R513, THROTTLED and SAFE apart. -/
def requestTable (source target : Nat) : Bool :=
  if source = 0x2 then modeIn [0x5, 0x3] target
  else if source = 0x3 then modeIn [0x5, 0x2] target
  else if source = 0x5 then modeIn [0x2, 0x3, 0x4, 0x6, 0x7, 0x8, 0x9, 0xA, 0xD] target
  else if source = 0x4 ∨ source = 0xA ∨ source = 0x8 ∨ source = 0x9 then modeIn [0x5, 0x2, 0x3] target
  else if source = 0x6 ∨ source = 0x7 ∨ source = 0xD then modeIn [0x5, 0x2, 0x3, 0x6, 0x7, 0xD] target
  else false

/-- The refusals of R415: the leader never enters TILE_MEMBER; in a tiled set-up a member enters no LIVE, SCHEDULED or
RAW_RAY, and TILE_MEMBER only as a device of the set-up. -/
def State.tilingRefuses (s : State) (target : Nat) : Bool :=
  if target = 0x9 then s.leader || !s.tiled || decide (s.devices ≤ s.tileId)
  else (target == 0x6 || target == 0x7 || target == 0x8) && !s.leader && s.tiled

/-- A request is permitted in the mode in force. -/
def State.requestPermitted (s : State) (target : Nat) : Bool :=
  let m := s.modeNow
  !s.tilingRefuses target &&
  (if m = 0x2 then requestTable m target && s.get F.CHIP_EPOCH_EPOCH != 0
   else if m = 0xB then modeIn [0x5, 0x2, 0x3] target || (displayMode target && requestTable (s.get F.CHIP_MODE_BASE) target)
   else if m = 0xC then modeIn [0x2, 0x3] target && !s.mode.shutdown && s.get F.PWR_SUPPLY_FAULT == 0
   else requestTable m target)

/-- An HBM test or the golden-stream test runs (spec/20_test_identity.md R545). -/
def State.testRuns (s : State) : Bool :=
  (upto 0 32).any (fun c => s.get (F.HBM_TESTSTAT_RESULT c) == 1) || s.get F.DEC_SELFSTAT_RESULT == 1

/-- A load in validation that IMG_CTRL started is aborted with code 0xF (spec/02_structure_cukar.md R94). -/
def loadAbort (s : State) : State :=
  match s.struct.load with
  | none => s
  | some l =>
    if l.boot then s
    else
      let s := { s with struct := { s.struct with load := none } }
      raise 5 (((s.set F.IMG_STATUS_BUSY 0).set F.IMG_STATUS_ERR 0xF).set F.IMG_STATUS_SUB 0)

/-- The panel is held in a mode (R517). -/
def heldMode (m : Nat) : Bool := m == 0x2 || m == 0x3 || m == 0xA || m == 0xC

/-- A transition begins: the panel is held where the new mode holds it, and what the new mode does not permit is disarmed
(R515, R517). -/
def beginTransition (target : Nat) (s : State) : State :=
  let s := (s.set F.CHIP_MODE_PENDING 1).set F.CHIP_MODE_TARGET target
  let s := if heldMode target then panelHold s else s
  disarmForbidden target s

/-- A mode request of a requester (R513, R515, R127). -/
def modeRequest (who : Requester) (target : Nat) (s : State) : Res :=
  let m := s.modeNow
  if s.privilege who < (if target = 0x2 then 3 else 2) then refuse .privilege s
  else if target ≥ 0xE then refuse .value s
  else if target = 0 ∨ target = 0x1 ∨ target = 0xB ∨ target = 0xC then
    refuse (if s.flag F.CHIP_MODE_PENDING then .busy else .mode) s
  else if s.flag F.CHIP_MODE_PENDING ∨ s.testRuns then refuse .busy s
  else if target = m ∨ (m = 0xB ∧ target = s.get F.CHIP_MODE_BASE) then okay s
  else if ¬ s.requestPermitted target then refuse .mode s
  else if m = 0xB ∧ displayMode target then okay (s.set F.CHIP_MODE_BASE target)
  else okay (beginTransition target (loadAbort s))

/-! ## Entering and leaving (R89, R517, R520; spec/20_test_identity.md R545) -/

/-- The loopback of port n ends: its counters stay as they stand (R545, R548). -/
def ethLoopEnd (n : Nat) (s : State) : State :=
  let k := min 0xFFFFFFFF (s.loopFrames n)
  let s := if k = 0 then s else (s.set (F.ETH_LOOPCNT_COUNT n 0) k).set (F.ETH_LOOPCNT_COUNT n 1) k
  s.set (F.ETH_LOOP_MODE n) 0

/-- On leaving LOOPBACK_TEST every loopback ends, and attempt 1 begins on every link whose ENABLE is 1. -/
def leaveLoopback (s : State) : State :=
  let s := (upto 0 4).foldl (fun s n => ethLoopEnd n s) s
  (upto 0 5).foldl (fun s n =>
    let s := ((s.set (F.LNK_LOOP_MODE n) 0).set (F.LNK_LOOPERR_SYNC n) 0).setLink n { s.link n with stopped := false, checks := [] }
    if s.flag (F.LNK_CFG_ENABLE n) then retrain n s else s) s

/-- The panel link is stopped and its TX groups are off once the panel holds, or 1 ms after the hold began (R517). -/
def panelStop (s : State) : State :=
  if (s.modeNow = 0x3 ∨ s.modeNow = 0xC) ∧ ¬ s.mode.txOff ∧
      (s.flag F.PANEL_STATUS_HOLDING ∨ s.panel.holdAt.getD 0 + 1000000 ≤ s.now) then
    let s := linkStop 0 s
    { s with mode := { s.mode with txOff := true } }
  else s

/-- Running and parked work of the engines ends on entry to CONFIGURE, STANDBY or SAFE and at an image load
(spec/15_translation_preemption.md R469; spec/02_structure_cukar.md R89). -/
def endWork (s : State) : State :=
  let s := [0, 1].foldl (fun s n => (plankAbort n s).2) s
  let s := [0, 1].foldl (fun s n => fulAborted n s) s
  let s := (dropInstants (fun _ => false) s).withEnc { s.enc with pic := none }
  clearSaves (dropWork (fun _ => false) { s with dec := { s.dec with tasks := [] } })

/-- What leaving a mode does (spec/01_ray_space.md R43 among others). -/
def leaveMode (old new : Nat) (s : State) : State :=
  let s := if old = 0x2 ∧ new ≠ 0x2 then { s with struct := { s.struct with held := [] } }.set F.IMG_STATUS_OVERRIDES 0 else s
  let s := if old = 0xA then leaveLoopback s else s
  let s := if (old = 0x5 ∨ old = 0x4) ∧ new ≠ old ∧ s.flag F.GEOM_STATUS_PENDING then geomDrop s else s
  if (old = 0x3 ∨ old = 0xC) ∧ new ≠ 0x3 ∧ new ≠ 0xC then linkStart 0 { s with mode := { s.mode with txOff := false } } else s

/-- What entering a mode does (spec/07_conformer.md R246, R255 among others). -/
def enterEffects (new : Nat) (s : State) : State :=
  let s := if heldMode new then panelHold s else s
  let s := if new = 0x2 ∨ new = 0x3 ∨ new = 0xC then endWork s else s
  let s := if new = 0x2 then colourDrop (mapDrop { s with struct := { s.struct with loaded := 0 } }) else s
  let s := if new = 0x3 then timeStandby s else s
  let s := if new = 0x3 ∨ new = 0xC then { s with mode := { s.mode with up := [] } } else s
  panelStop (memCeilings s)

/-- MODE takes a new code: base is the requested mode, THROTTLED where throttle is set and it is a display mode
(R515, R529). A load that IMG_CTRL started after the transition began is aborted (spec/02_structure_cukar.md R94; DESIGN
CHOICE where the new mode is not SAFE). -/
def takeMode (base : Nat) (s : State) : State :=
  let s := loadAbort s
  let old := s.modeNow
  let new := if displayMode base && s.mode.throttle then 0xB else base
  let s := disarmForbidden base s
  let s := ((s.set F.CHIP_MODE_MODE new).set F.CHIP_MODE_BASE base).set F.CHIP_MODE_PENDING 0
  let s := s.set F.CHIP_MODE_TARGET 0
  let s := raiseWith 0 new 0 (takeEpochRecords (enterEffects new (leaveMode old new s)))
  if new = 0xB ∧ old ≠ 0xB then raise 2 s
  else if old = 0xB ∧ new ≠ 0xB then raise 3 s
  else s

/-- SAFE is decided with a cause: an image load in validation is aborted, the panel held, every object disarmed; the mode
changes later (R516, R530, R531). SAFE cannot be entered from BOOT (R514). -/
def enterSafe (cause : Nat) (s : State) : State :=
  if s.modeNow = 0x1 ∨ s.modeNow = 0xC ∨ s.mode.safeAt.isSome then s
  else
    let s := { s with mode := { s.mode with safeAt := some s.now, safeCause := cause } }
    let s := if cause = 1 then s else raiseWith 968 cause 0 s
    beginTransition 0xC (loadAbort s)

/-- The entry to SAFE completes once the panel holds, or after 1 ms (R530). -/
def safeDone (s : State) : State :=
  match s.mode.safeAt with
  | none => s
  | some t =>
    if s.flag F.PANEL_STATUS_HOLDING ∨ t + 1000000 ≤ s.now then
      let s := (s.set F.CHIP_SAFECAUSE_CAUSE s.mode.safeCause)
      let s := { s with mode := { s.mode with safeAt := none } }
      raise 1 (takeMode 0xC s)
    else s

/-- Throttle as it stands is acted on in a display mode or in THROTTLED, except while a transition is in progress
(R516, R529). -/
def settleThrottle (s : State) : State :=
  if s.flag F.CHIP_MODE_PENDING then s
  else if displayMode s.modeNow && s.mode.throttle then takeMode s.modeNow s
  else if s.modeNow = 0xB ∧ ¬ s.mode.throttle then takeMode (s.get F.CHIP_MODE_BASE) s
  else s

/-- MODE_TRANSITION_COMPLETE (R515, R516). -/
def transitionDone (s : State) : State :=
  if ¬ s.flag F.CHIP_MODE_PENDING then s
  else if s.mode.safeAt.isSome then safeDone s
  else takeMode (s.get F.CHIP_MODE_TARGET) s

/-! ## Rails (R523) -/

/-- The rails of a round: bit r of warn where rail r lies outside ±5 %, of fault where outside ±10 %. -/
def readRails (warn fault : Nat) (s : State) : State :=
  let s := (s.set F.PWR_SUPPLY_WARN warn).set F.PWR_SUPPLY_FAULT fault
  let s := setCond 23 (s.get F.PWR_SUPPLY_WARN != 0) s
  (upto 0 7).foldl (fun s r =>
    let n := if fault.testBit r then tabGet 0 s.mode.railBad r + 1 else 0
    let s := { s with mode := { s.mode with railBad := tabPut 0 s.mode.railBad r (min n 3) } }
    if n = 3 then enterSafe 5 (raise 24 s) else s) s

/-! ## Sensors (R524, R525) -/

/-- The neighbours of region n in the 4 × 4 grid. -/
def neighbours (n : Nat) : List Nat :=
  (if n / 4 = 0 then [] else [n - 4]) ++ (if n % 4 = 0 then [] else [n - 1]) ++
  (if n % 4 = 3 then [] else [n + 1]) ++ (if n / 4 = 3 then [] else [n + 4])

/-- The reading of a sensor as the diode trims of its region correct it, rounded to 0.25 °C
(spec/19_sizing_records.md R537). -/
def State.trimmed (s : State) (n : Nat) (v : Int) : Int :=
  match if n < 16 then tabFind s.siz.inForce (sizKey 1 0) else none with
  | none => v
  | some body => (v * leAt body (4 * n + 2) 2 * 16 + signedOf 16 (leAt body (4 * n) 2) * 16384 + 131072) / 262144

/-- The valid reading of a sensor in quarter degrees, from -40 to +150 °C for a region. -/
def State.sensor (s : State) (n : Nat) : Option Int :=
  match tabGet none s.mode.sensors n with
  | some v => if n < 16 ∧ (v < -160 ∨ v > 600) then none else some v
  | none => none

/-- Sensor n is broken. -/
def State.broken (s : State) (n : Nat) : Bool := s.flag (F.THERM_SENS_BROKEN n)

/-- A reading is taken: RAW, and the corrected reading. -/
def takeReading (n : Nat) (v : Option Int) (s : State) : State :=
  let s := { s with mode := { s.mode with sensors := tabPut none s.mode.sensors n (v.map (s.trimmed n)) } }
  match v with
  | some x => s.set (F.THERM_SENS_RAW n) (patternOf 12 x)
  | none => s

/-- The cross-check of one region against the states of the sensors before the round. -/
def crossCheck (before : State) (s : State) (n : Nat) : State :=
  let vals := (neighbours n).filterMap (fun m => if before.broken m then none else before.sensor m)
  match before.sensor n, vals with
  | none, _ => s
  | some _, [] => s
  | some v, vals =>
    let k : Int := vals.length
    let diff := (v * k - vals.sum).natAbs
    if before.broken n then
      let g := if diff ≤ 24 * vals.length then tabGet 0 s.mode.restoring n + 1 else 0
      if g = 10 then
        let s := { s with mode := { s.mode with restoring := tabErase s.mode.restoring n } }
        raise 22 (s.set (F.THERM_SENS_BROKEN n) 0)
      else { s with mode := { s.mode with restoring := tabPut 0 s.mode.restoring n g } }
    else
      let d := if diff > 48 * vals.length then tabGet 0 s.mode.discrepant n + 1 else 0
      if d = 3 then
        let s := { s with mode := { s.mode with discrepant := tabErase s.mode.discrepant n } }
        raise 21 (s.set (F.THERM_SENS_BROKEN n) 1)
      else { s with mode := { s.mode with discrepant := tabPut 0 s.mode.discrepant n d } }

/-- The greatest of some values. -/
def greatest : List Int → Option Int
  | [] => none
  | a :: t => some (match greatest t with | some b => max a b | none => a)

/-- The step-1 value of region n (R525). -/
def State.ownValue (s : State) (n : Nat) : Option Int := if s.broken n then none else s.sensor n

/-- D of R525. -/
def State.fallbackValue (s : State) : Int :=
  match greatest ((upto 0 16).filterMap s.ownValue) with
  | some d => d
  | none => match greatest ((upto 0 16).filterMap s.sensor) with
    | some d => d
    | none => s.mode.tdie.getD 380

/-- The effective value of a sensor (R525, steps 1 to 3). -/
def State.effective (s : State) (n : Nat) : Int :=
  if n < 16 then
    match s.ownValue n with
    | some v => v
    | none => match greatest ((neighbours n).filterMap s.ownValue) with
      | some m => m + 12
      | none => s.fallbackValue + 12
  else match s.sensor n with
    | some v => v
    | none => s.fallbackValue + 12

/-! ## Conditions and bands (R526 to R528) -/

/-- A condition after a reading: it sets at its threshold and clears below the threshold minus the hysteresis. -/
def hysteresis (on : Bool) (v threshold : Int) (degrees : Nat) : Bool :=
  if on then decide (threshold - 4 * degrees ≤ v) else decide (threshold ≤ v)

/-- The lower bound of a band in quarter degrees. -/
def bandBound (b : Nat) : Int := if b = 1 then 280 else if b = 2 then 340 else 380

/-- The band of a value with a band in force. -/
def bandOf (now : Nat) (v : Int) : Nat :=
  let up := if 380 ≤ v then 3 else if 340 ≤ v then 2 else if 280 ≤ v then 1 else 0
  if now < up then up
  else
    let down := fun b => if b ≠ 0 ∧ v < bandBound b - 8 then b - 1 else b
    down (down (down now))

/-- Throttle sets or clears: the ceiling moves, and the mode follows where it may. -/
def applyThrottle (on : Bool) (s : State) : State :=
  if on = s.mode.throttle then s
  else
    let t := setCond 17 on ((({ s with mode := { s.mode with throttle := on } } : State)).set F.THERM_STATUS_THROT (bit on))
    settleThrottle (beginDvfs s t)

/-- Warn sets or clears. -/
def applyWarn (on : Bool) (s : State) : State :=
  setCond 16 on ((({ s with mode := { s.mode with warn := on } } : State)).set F.THERM_STATUS_WARN (bit on))

/-- The die band changes: a rising band lowers the ceiling first, a falling band applies the panel preset first. -/
def applyDieBand (b : Nat) (s : State) : State :=
  if b = s.mode.dieBand then s
  else
    let ceiling := fun (s : State) => beginDvfs s { s with mode := { s.mode with dieBand := b } }
    let s := if b > s.mode.dieBand then presetChanged (ceiling s) else ceiling (presetChanged s)
    raise 19 (s.set F.THERM_STATUS_BAND b)

/-- A stack band changes (R444, R521). -/
def applyStackBand (k b : Nat) (s : State) : State :=
  if b = tabGet 0 s.mode.stackBand k then s
  else
    let s := { s with mode := { s.mode with stackBand := tabPut 0 s.mode.stackBand k b } }
    let s := s.set (if k = 0 then F.THERM_STATUS_HBM0_BAND else F.THERM_STATUS_HBM1_BAND) b
    raise 20 (memCeilings (stackRefi k b s))

/-- The value of a sensor lies within 5 °C of a threshold (R524). -/
def nearThreshold (v : Int) : Bool := [380, 400, 440].any (fun t => decide ((v - t).natAbs ≤ 20))

/-- Sensor n is read every 500 µs. -/
def State.readFast (s : State) (n : Nat) : Bool :=
  nearThreshold (signedOf 12 (s.get (F.THERM_SENS_EFFECTIVE n)))

/-- Steps 2 to 5 of R528. -/
def decideThermal (s : State) : State :=
  let e := (upto 0 18).map s.effective
  let tdie := (greatest (e.take 16)).getD 0
  let s := (upto 0 18).foldl (fun s n => s.set (F.THERM_SENS_EFFECTIVE n) (patternOf 12 (e.getD n 0))) s
  let s := { s with mode := { s.mode with tdie := some tdie } }
  let s := s.set F.THERM_STATUS_TDIE (patternOf 12 tdie)
  let s := s.set F.THERM_STATUS_FAST (bit ((upto 0 18).any s.readFast))
  let shut := hysteresis s.mode.shutdown tdie 440 (s.get F.THERM_CFG_SHUT_HYST)
  let sets := shut && !s.mode.shutdown
  let s := { s with mode := { s.mode with shutdown := shut } }
  if sets then enterSafe 1 (raise 18 s)
  else
    let s := applyThrottle (hysteresis s.mode.throttle tdie 400 (s.get F.THERM_CFG_THROT_HYST)) s
    let s := applyWarn (hysteresis s.mode.warn tdie 380 (s.get F.THERM_CFG_WARN_HYST)) s
    let s := applyDieBand (bandOf s.mode.dieBand tdie) s
    [0, 1].foldl (fun s k => applyStackBand k (bandOf (tabGet 0 s.mode.stackBand k) (e.getD (16 + k) 0)) s) s

/-- HOUSEKEEPING_ROUND: every sensor and rail is read (R523 to R528). -/
def housekeeping (readings : List (Option Int)) (warn fault : Nat) (s : State) : State :=
  let s := (upto 0 18).foldl (fun s n => takeReading n (readings.getD n none) s) s
  let s := (upto 0 16).foldl (crossCheck s) s
  readRails warn fault (decideThermal s)

/-- FAST_SENSOR_READ: the sensors near a threshold are read (R524). -/
def fastRead (readings : List (Option Int)) (s : State) : State :=
  let near := (upto 0 18).filter s.readFast
  if near.isEmpty then s
  else decideThermal (near.foldl (fun s n => takeReading n (readings.getD n none) s) s)

/-! ## Registers (R533) -/

/-- A write of THERM_CFG. -/
def thermCfgWrite (v : Word) (s : State) : Res :=
  if wordField v F.THERM_CFG_SHUT_HYST = 0 ∨ wordField v F.THERM_CFG_THROT_HYST = 0 ∨ wordField v F.THERM_CFG_WARN_HYST = 0 then
    refuse .value s
  else okay (((s.set F.THERM_CFG_SHUT_HYST (wordField v F.THERM_CFG_SHUT_HYST)).set F.THERM_CFG_THROT_HYST
    (wordField v F.THERM_CFG_THROT_HYST)).set F.THERM_CFG_WARN_HYST (wordField v F.THERM_CFG_WARN_HYST))

/-- A write of THERM_THROT: a new ceiling applies at once while throttle is set. -/
def thermThrotWrite (v : Word) (s : State) : Res :=
  let share := wordField v F.THERM_THROT_THROT_SHARE
  let mhz := wordField v F.THERM_THROT_THROT_MHZ
  if share = 0 ∨ share > 64 ∨ mhz < 400 ∨ mhz > 1250 then refuse .value s
  else okay (beginDvfs s ((s.set F.THERM_THROT_THROT_SHARE share).set F.THERM_THROT_THROT_MHZ mhz))

/-! ## The commands -/

/-- HOLD_WAIT_TIMEOUT (R517). -/
def execHoldWaitTimeout (s : State) : Host.Outcome State Fault Refusal := whenLive s panelStop

/-- MODE_TRANSITION_COMPLETE (R515). -/
def execModeTransitionComplete (s : State) : Host.Outcome State Fault Refusal := whenLive s transitionDone

/-- HOUSEKEEPING_ROUND (R524). -/
def execHousekeepingRound (readings : List (Option Int)) (railWarn railFault : Fin 128) (s : State) :
    Host.Outcome State Fault Refusal :=
  whenLive s (housekeeping readings railWarn.val railFault.val)

/-- FAST_SENSOR_READ (R524). -/
def execFastSensorRead (readings : List (Option Int)) (s : State) : Host.Outcome State Fault Refusal :=
  whenLive s (fastRead readings)

/-- DVFS_CHANGE_DONE (R519). -/
def execDvfsChangeDone (block : Fin 64) (s : State) : Host.Outcome State Fault Refusal := whenLive s (dvfsDone block.val)

/-- CC_RESTART (R534). -/
def execCcRestart (_core : Fin 4) (s : State) : Host.Outcome State Fault Refusal := whenLive s (raise 970)

/-- CONTROL_CORE_MEMORY_ERROR (R531). -/
def execControlCoreMemoryError (s : State) : Host.Outcome State Fault Refusal := whenLive s (enterSafe 6)

/-- RM_SILENT (spec/02_structure_cukar.md R57). -/
def execRmSilent (_region : Fin 16) (s : State) : Host.Outcome State Fault Refusal :=
  whenLive s (fun s => enterSafe 4 (raise 969 s))

end Sys2Proof.Machine
end

