-- ==== Sys2Proof/Machine/Structure.lean ====
section
/-! DEFINITION. Cells, ray blocks, regions and spares, and the loading of Cukar images
(spec/02_structure_cukar.md R49 to R64, R84 to R95). -/

namespace Sys2Proof.Machine

/-! ## Cells and work items (R49 to R53) -/

/-- DETAIL of a region's error-log entry: local block and cell (spec/17_events_errors.md R506). -/
def blockDetail (k c : Nat) : Nat := k % 4 + 16 * c

/-- A source of the region of block k. -/
def blockSource (k off : Nat) : Nat := regionSource (k / 4) off

/-- Cell c of block k. -/
def State.cell (s : State) (k c : Nat) : CellState := tabGet {} (s.block k).cells c

/-- Cell c of block k replaced. -/
def State.setCell (s : State) (k c : Nat) (x : CellState) : State :=
  s.setBlock k { s.block k with cells := tabPut {} (s.block k).cells c x }

/-- The cells of block k that are retired. -/
def State.retiredCells (s : State) (k : Nat) : Nat := ((upto 0 16).filter (fun c => (s.cell k c).retired)).length

/-- A block runs work: it is working, its router port open and its cells loaded (R62). -/
def State.blockRuns (s : State) (k : Nat) : Bool := s.blockState k == 1 && (s.block k).portOpen && (s.block k).loaded

/-- An armed path uses a role (R57). -/
def State.roleUsed (s : State) (role : Nat) : Bool :=
  if role = 1 then
    (s.armedIds 1).any (fun st => s.streamKind st == 1 || s.streamKind st == 2) || (s.armedIds 2).any (fun l => s.layerViews l != 0)
  else if role = 2 then s.armed 4 0 || !(s.armedIds 2).isEmpty
  else if role = 3 then s.armed 5 0
  else false

/-! ## The local store of a cell (R48) -/

/-- The accesses to one bank in the order in which it serves them: rotating order from the lane after the last lane
served. -/
def bankOrder (last : Nat) (as : List StoreAccess) : List StoreAccess :=
  (upto (last + 1) 16).flatMap (fun l => as.filter (fun a => a.lane.val == l % 16))

/-- Accesses in ascending lane order, which gives the result (R48). -/
def laneOrder (as : List StoreAccess) : List StoreAccess :=
  (upto 0 16).flatMap (fun l => as.filter (fun a => a.lane.val == l))

/-- One access: a write changes the byte, a read gives it to the lane. -/
def serveAccess (x : CellState) (a : StoreAccess) : CellState :=
  let i := a.bank.val * 8192 + a.offset.val
  match a.write with
  | some b => { x with store := cellPut ramBlank x.store i b }
  | none => { x with lanes := tabPut 0 x.lanes a.lane.val (cellGet ramBlank x.store i).toNat }

/-- The lane that a bank has served last after the accesses of one cycle; a bank that no lane has addressed yet begins with
lane 0. -/
def lastServed (x : CellState) (as : List StoreAccess) (b : Nat) : Nat :=
  let last := tabGet 15 x.served b
  (((bankOrder last (as.filter (fun a => a.bank.val == b))).getLast?).map (fun a => a.lane.val)).getD last

/-- The accesses that the lanes of a cell present in one cycle: the result is that of ascending lane order, and every bank
goes on from the lane it served last (R48). -/
def storeCycle (x : CellState) (as : List StoreAccess) : CellState :=
  let y := (laneOrder as).foldl serveAccess x
  { y with served := (upto 0 8).foldl (fun t b => tabPut 15 t b (lastServed x as b)) x.served }

/-- The work items of a block, its cells first. -/
def BlockState.items (b : BlockState) : List QueuedItem := b.cells.filterMap (fun e => e.2.item) ++ b.queue

/-- A block without work items. -/
def BlockState.emptied (b : BlockState) : BlockState :=
  { b with queue := [], cells := b.cells.map (fun e => (e.1, { e.2 with item := none, replaying := false })) }

/-- The spare that a failed block gets: the first of its region that is unpowered. -/
def State.spareOf (s : State) (k : Nat) : Option Nat := (upto (k / 4 * 4) 4).find? (fun j => s.blockState j == 2)

/-- A spare begins to power up for failed block k (R62, step 3). -/
def powerSpare (sp k : Nat) (s : State) : State :=
  (s.setBlock sp { s.block sp with replaces := some k, boundary := false }).setBlockState sp 3

/-- The context and restart point of a work item (spec/15_translation_preemption.md R467, R473). -/
def State.itemPoint (s : State) : WorkItem → Option (Nat × Nat)
  | .card l n t => some (5, cardPoint l n t)
  | .conf h t => some (6, confPoint h t)
  | .assist r => if r = 0 then none else s.enc.pic.map (fun p => (7, (r - 1) + 2 ^ 16 * (p.count % 2 ^ 32)))

/-- The running items of a block park at their restart points (spec/15_translation_preemption.md R467, R468). -/
def parkBlock (k : Nat) (s : State) : State :=
  (s.block k).cells.foldl (fun s e => match e.2.item.bind (fun q => s.itemPoint q.item) with
    | some (ctx, point) => parkEngine ctx point s
    | none => s) s

/-- A work item without its rays: poisoned again, or lost with its save area (R52; spec/15_translation_preemption.md R467). -/
def withholdItem (w : WorkItem) (s : State) : State :=
  match w with
  | .card l n t => cardTile l n t true s
  | .conf h t => confTile h t true s
  | .assist _ => s

/-- A work item is lost with its save area: rays are withheld, a picture in coding is not sent and the next is IDR
(spec/15_translation_preemption.md R467). -/
def loseItem (w : WorkItem) (s : State) : State :=
  match w with
  | .assist _ => s.withEnc { s.enc with pic := none, needIdr := true }
  | _ => withholdItem w s

/-- Block k is declared failed: ISOLATED at once, its router port closed, its work reissued, a spare called, SAFE when the
last block of a role that an armed path uses is gone (R53, R57, R62, R63). DESIGN CHOICE: an OFF block, which R53 does not
except, is not declared failed; and a SPARE that fails unpowered becomes ISOLATED with BLK_FAILED, raises no NO_SPARE and
calls no second spare, since it was to replace no block. -/
def declareFailed (k : Nat) (s : State) : State :=
  let st := s.blockState k
  if st = 0 ∨ st = 5 then s
  else
    let role := s.role k
    let b := s.block k
    let s := parkBlock k s
    let s := (s.setBlock k { b.emptied with lostRole := role, portOpen := false }).setRole k 5
    let s := raiseWith (blockSource k 6) 0 (blockDetail k 0) (s.setBlockState k 5)
    let s := b.items.foldl (fun s q => enqueueItem role q s) s
    let s :=
      if st = 1 then
        match s.spareOf k with
        | some sp => powerSpare sp k s
        | none => raiseWith (blockSource k 10) 0 (blockDetail k 0) s
      else match b.replaces with
        | some f => raiseWith (blockSource k 10) 0 (blockDetail f 0) s
        | none => s
    let s := updateCapped s
    if (role = 1 ∨ role = 2 ∨ role = 3) ∧ s.roleUsed role ∧ (s.workers role).isEmpty then enterSafe 2 s else s

/-- The work item of a cell returns to the head of its block's queue. -/
def requeue (k c : Nat) (q : QueuedItem) (s : State) : State :=
  let s := clearCell k c s
  s.setBlock k { s.block k with queue := q :: (s.block k).queue }

/-- A cell is retired and its work item reissued to another cell of the block; three retired cells fail the block
(R49, R53). -/
def retireCell (k c : Nat) (s : State) : State :=
  let s := match s.cellItem k c with
    | some q => requeue k c q s
    | none => s
  let s := s.setCell k c { s.cell k c with retired := true }
  let s := s.set (F.RG_CELLRET_RETIRED (k / 4) (k % 4)) (s.retiredCells k)
  let s := raiseWith (blockSource k 1) 0 (blockDetail k c) s
  if s.retiredCells k = 3 then declareFailed k s else s

/-- CELL_PARITY_ERROR: the first error in a kernel step replays the step, an error in the replay retires the cell; the first
error in a later step replays that step (R49). -/
def cellParity (k c : Nat) (inReplay : Bool) (s : State) : State :=
  let x := s.cell k c
  if ¬ s.blockRuns k ∨ x.retired ∨ x.item.isNone then s
  else if x.replaying && inReplay then retireCell k c s
  else raiseWith (blockSource k 0) 0 (blockDetail k c) (s.setCell k c { x with replaying := true })

/-- WORK_ITEM_WATCHDOG: a work item of 2 ms counts as a failed replay (R50). -/
def itemWatchdog (k c : Nat) (s : State) : State :=
  let x := s.cell k c
  if x.item.isNone ∨ x.retired ∨ s.now < x.since + 2000000 then s
  else retireCell k c (raiseWith (blockSource k 7) 0 (blockDetail k c) s)

/-- The first idle cell that is not retired, in rotating order from the one after the cell picked last (R51). -/
def State.idleCell (s : State) (k : Nat) : Option Nat :=
  ((upto ((s.block k).last + 1) 16).map (· % 16)).find? (fun c => (s.cell k c).item.isNone && !(s.cell k c).retired)

/-- The ray frame that a work item belongs to, as a key of StructState.issued and a started count: that of a conformer item
by its frame, that of a carding item by its layer's instants; encoder analysis belongs to none (R62). -/
def State.itemFrame (s : State) (n : Nat) : WorkItem → Option (Nat × Nat)
  | .conf h _ => some (128 * n, (tabGet {} s.conf.frames h).order + 1)
  | .card l m _ => some (128 * n + 1 + l, m + 1)
  | .assist _ => none

/-- Region n issues a work item: the first of the next ray frame is a frame boundary, which its spares that are ready await
(R62 step 4). -/
def noteIssued (n : Nat) (w : WorkItem) (s : State) : State :=
  match s.itemFrame n w with
  | none => s
  | some (key, m) =>
    if m ≤ tabGet 0 s.struct.issued key then s
    else
      let s := { s with struct := { s.struct with issued := tabPut 0 s.struct.issued key m } }
      (upto (4 * n) 4).foldl (fun s j =>
        if s.blockState j = 4 then s.setBlock j { s.block j with boundary := true } else s) s

/-- WORK_ITEM_DISPATCH: the item at the head of a block's queue goes to a cell (R51), whose lanes present their accesses to
its local store cycle by cycle (R48). An item that was parked resumes, or is lost with its save area
(spec/15_translation_preemption.md R467, R474). -/
def itemDispatch (k : Nat) (accesses : List (List StoreAccess)) (s : State) : State :=
  match s.blockRuns k, (s.block k).queue, s.idleCell k with
  | true, q :: rest, some c =>
    let (ok, s) := match s.itemPoint q.item with
      | some (ctx, point) => resumeAt ctx point s
      | none => (true, s)
    if ¬ ok then loseItem q.item (s.setBlock k { s.block k with queue := rest })
    else
    let x := accesses.foldl storeCycle { s.cell k c with item := some q, since := s.now, replaying := false }
    let s := s.setCell k c x
    noteIssued (k / 4) q.item (s.setBlock k { s.block k with queue := rest, last := c })
  | _, _, _ => s

/-- A work item is poisoned: it is reissued once; poisoned again, its rays are withheld, and the block fails when this
happens in two consecutive frames (R52, R53). -/
def poisonItem (k c : Nat) (s : State) : State :=
  match s.cellItem k c with
  | none => s
  | some q =>
    if ¬ q.reissued then requeue k c { q with reissued := true } s
    else
      let frame := s.conf.started
      let again := match (s.block k).poisonFrame with
        | some f => f + 1 == frame
        | none => false
      let s := clearCell k c s
      let s := s.setBlock k { s.block k with poisonFrame := some frame }
      let s := raiseWith (blockSource k 3) 0 (blockDetail k c) s
      let s := withholdItem q.item s
      if again then declareFailed k s else s

/-- Results of ray block k go to the stack that holds a pool, through its region router (R54, R73). -/
def carryToPool (k pool : Nat) (s : State) : State :=
  match s.pool pool with
  | some p => carryFrom k (stackEndpoint p) s
  | none => s

/-- CARD_TILE_COMPLETE: the carding item of a cell completes; one whose instant's records lie in a poisoned word ends
poisoned (spec/06_carding.md R228; spec/14_hbm_controller.md R449). -/
def cardTileComplete (k c : Nat) (s : State) : State :=
  match s.cellItem k c with
  | some ⟨.card l n t, _⟩ =>
    match s.instantOf l n with
    | some i =>
      if i.phase = 1 ∧ i.todo.contains t ∧ (s.instantFault i).isNone ∧ s.workPoisoned i then
        poisonItem k c (xlatFault 5 4 (i.holds.head?.map (fun h => h.1)) (i.area.getD 0) (cardPoint l n t) s)
      else cardTile l n t false (carryToPool k (i.area.getD 0 / 2 ^ 35) (clearCell k c s))
    | none => clearCell k c s
  | _ => s

/-- CONF_ITEM_COMPLETE: the conformer item of a cell completes (spec/07_conformer.md R261); one that read a poisoned word ends
poisoned (spec/14_hbm_controller.md R449). -/
def confItemComplete (k c : Nat) (s : State) : State :=
  match s.cellItem k c with
  | some ⟨.conf h t, _⟩ =>
    match s.stale (s.frame h).holds with
    | some e =>
      let s := clearCell k c s
      if (s.frame h).state = 1 then frameEndsUnit h (xlatFault 6 3 (some e) (s.leaseAddress e) (confPoint h t) s) else s
    | none =>
      match if (s.frame h).state = 1 ∧ (s.frame h).todo.contains t then s.itemPoison (s.frame h) t else none with
      | some a => poisonItem k c (xlatFault 6 4 none a (confPoint h t) s)
      | none => confTile h t false (carryToPool k (s.get F.CONF_STAGE_POOL_ID) (clearCell k c s))
  | _ => s

/-- BLOCK_ECC_ERROR (R52). -/
def blockEcc (k c : Nat) (double : Bool) (s : State) : State :=
  if ¬ s.blockRuns k then s
  else if double then poisonItem k c s
  else raiseWith (blockSource k 2) 0 (blockDetail k c) s

/-! ## Regions (R54, R55) -/

/-- A region holds a kernel area: it holds a block that is not OFF (R75). -/
def State.holdsKernels (s : State) (n : Nat) : Bool :=
  s.struct.image.isSome && (upto (4 * n) 4).any (fun k => s.role k != 0)

/-- n bytes of region SRAM copied from src to dst. -/
def sramCopy (src dst n : Nat) (s : State) : State :=
  let m := s.sram
  { s with sram := m.filter (fun e => decide (e.1 < dst)) ++
      (m.filter (fun e => decide (src ≤ e.1) && decide (e.1 < src + n))).map (fun e => (e.1 - src + dst, e.2)) ++
      m.filter (fun e => decide (dst + n ≤ e.1)) }

/-- The SRAM byte of a region's kernel area: the top 1 MiB (R75). -/
def kernelArea (n : Nat) : Nat := n * 8388608 + 0x700000

/-- The nearest other region that holds a kernel area: the lowest index above, wrapping to RG0 (R55). -/
def State.kernelSource (s : State) (n : Nat) : Option Nat :=
  ((upto (n + 1) 15).map (· % 16)).find? s.holdsKernels

/-- The running work items of a region are reissued. -/
def reissueRegion (n : Nat) (s : State) : State :=
  (upto (4 * n) 4).foldl (fun s k =>
    (upto 0 16).foldl (fun s c => match s.cellItem k c with
      | some q => requeue k c q s
      | none => s) s) s

/-- SRAM_ECC_ERROR (R54, R55). -/
def sramEcc (n : Nat) (kernels double : Bool) (k c : Nat) (s : State) : State :=
  if ¬ double then raise (regionSource n 4) s
  else if kernels then
    if ¬ s.holdsKernels n then s
    else match s.kernelSource n with
      | some m => reissueRegion n (raise (regionSource n 11) (sramCopy (kernelArea m) (kernelArea n) 1048576 s))
      | none => enterSafe 3 s
  else
    let s := raise (regionSource n 5) s
    if k / 4 = n ∧ s.blockRuns k then poisonItem k c s else s

/-! ## Spares (R62, R63) -/

/-- The spare takes the failed block's role (R62, step 4). -/
def takeRole (k : Nat) (s : State) : State :=
  match s.blockState k, (s.block k).replaces with
  | 4, some f =>
    let s := (s.setRole k (s.block f).lostRole).setBlockState k 1
    let s := s.bump (F.RG_BLKSTATE_SWAPS (k / 4))
    updateCapped (raiseWith (blockSource k 9) 0 (blockDetail k 0) s)
  | _, _ => s

/-- A mode in which ray frames are produced (spec/18_modes_power_thermal.md R512). -/
def framesMode (m : Nat) : Bool := displayMode m || m == 0x4 || m == 0xB

/-- SPARE_SWAPPED: the swap comes at the first frame boundary of the region after SPARE_READY, or in a mode without ray
frames (R62, R63). -/
def swapSpare (k : Nat) (s : State) : State :=
  if (s.block k).boundary ∨ ¬ framesMode s.modeNow then takeRole k s else s

/-- SPARE_READY: the block's cells hold the kernels of the region's kernel area; in a mode without ray frames the swap
follows at once (R62, R63). -/
def spareReady (k : Nat) (s : State) : State :=
  if s.blockState k ≠ 3 then s
  else
    let s := (s.setBlock k { s.block k with loaded := true, boundary := false }).setBlockState k 4
    swapSpare k (raiseWith (blockSource k 8) 0 (blockDetail k 0) s)

/-- A write of RG_BLKCTRL (R53). -/
def blkCtrlWrite (n : Nat) (mask : Nat) (s : State) : State :=
  (upto 0 4).foldl (fun s j => if mask.testBit j then declareFailed (4 * n + j) s else s) (carryControl n s)

/-! ## Overrides (R90) -/

/-- The structure epoch is open for loading (R88). -/
def State.epochOpen (s : State) : Bool := s.modeNow == 0x2 || s.get F.CHIP_EPOCH_EPOCH == 0

/-- A write of RB_ROLEn (R90). -/
def roleWrite (n : Nat) (v : Word) (s : State) : Res :=
  let nib := fun m => slice v.toNat (4 * m + 3) (4 * m)
  if ¬ s.epochOpen then refuse .locked s
  else if s.flag F.IMG_STATUS_BUSY then refuse .busy s
  else if (upto 0 8).any (fun m => nib m != 0 && nib m != s.role (8 * n + m)) then refuse .value s
  else
    let held := (upto 0 8).foldl (fun l m => if nib m = 0 then setInsert (8 * n + m) l else l) s.struct.held
    okay (({ s with struct := { s.struct with held := held } }).set F.IMG_STATUS_OVERRIDES held.length)

/-- The word that a masked write of RB_ROLEn takes as old: the roles in force with the held overrides applied (R115). -/
def roleStaged (n : Nat) (s : State) : Word :=
  BitVec.ofNat 32 ((upto 0 8).foldl (fun acc m => acc + (if s.struct.held.contains (8 * n + m) then 0 else s.role (8 * n + m)) * 16 ^ m) 0)

/-! ## Loads (R84 to R95) -/

/-- The first flash byte of a slot (R86). -/
def slotBase_ (source : Nat) : Nat := if source = 2 then 0x03000000 else 0x01000000

/-- The SRAM byte of load-buffer byte b (R92). -/
def loadByte (b : Nat) : Nat := b / 7340032 * 8388608 + b % 7340032

/-- n bytes of the load buffer from b, in runs that stay within a region. -/
def State.loadRead (s : State) (n : Nat) : List Byte :=
  (upto 0 (ceilDiv n 7340032)).flatMap (fun k => s.sramRead (k * 8388608) (min 7340032 (n - 7340032 * k)))

/-- Bytes written into the load buffer from b. -/
def loadWrite (b : Nat) (bs : List Byte) (s : State) : State :=
  (upto 0 6).foldl (fun s k =>
    let lo := max b (7340032 * k)
    let hi := min (b + bs.length) (7340032 * (k + 1))
    if lo < hi then s.sramWrite (loadByte lo) ((bs.drop (lo - b)).take (hi - lo)) else s) s

/-- The bytes of an image: HEADER, and all of IMAGE_LENGTH where it is legal. -/
def imageBytesOf (read : Nat → List Byte) : List Byte :=
  let n := leAt (read 256) 8 4
  if imageLengthBad n then read 256 else read n

/-- The image bytes of a flash slot (R86). -/
def State.slotImage (s : State) (source : Nat) : List Byte := imageBytesOf (s.flashRead (slotBase_ source))

/-- The image bytes in the load buffer, from which every load is validated (R92). -/
def State.imageBytes (s : State) : List Byte := imageBytesOf s.loadRead

/-- A load from a flash slot reads the slot into the load buffer before it validates (R92). DESIGN CHOICE: of the slot, the
image in it is read, and the buffer then counts 33,554,432 bytes as delivered. -/
def readSlot (source : Nat) (s : State) : State :=
  if source = 3 then s
  else loadWrite 0 (s.slotImage source) { s with struct := { s.struct with loaded := 33554432 } }

/-- A load begins: LAST and BUSY; the overrides held are taken and cleared (R85, R90); a slot is read (R92). -/
def loadStart (source : Nat) (boot : Bool) (other : Option Nat) (s : State) : State :=
  let s := { s with struct := { s.struct with load := some ⟨source, boot, other, s.struct.held⟩, held := [] } }
  readSlot source (((s.set F.IMG_STATUS_LAST source).set F.IMG_STATUS_BUSY 1).set F.IMG_STATUS_OVERRIDES 0)

/-- IMG_CTRL.LOAD (R91, R94). -/
def imageLoad (source : Nat) (s : State) : Res :=
  if s.modeNow ≠ 0x2 then refuse .mode s
  else if s.flag F.IMG_STATUS_BUSY then refuse .busy s
  else if source = 0 then refuse .value s
  else okay (loadStart source false none s)

/-- A write of IMG_CTRL. -/
def imgCtrlWrite (v : Word) (s : State) : Res :=
  if wordField v F.IMG_CTRL_LOAD = 1 then imageLoad (wordField v F.IMG_CTRL_SOURCE) s else okay s

/-- The boot load begins with the slot that R87 tries first. -/
def bootLoad (s : State) : State :=
  let a := s.flashRead (slotBase_ 1) 256
  let b := s.flashRead (slotBase_ 2) 256
  let first :=
    if headerBad a && !headerBad b then 2
    else if headerBad b && !headerBad a then 1
    else if leAt a 0x10 4 < leAt b 0x10 4 then 2
    else 1
  loadStart first true (some (3 - first)) s



/-- CHIP_BOOTTIME.MS at the end of the boot (spec/21_pins_startup.md R574, step 7). -/
def bootDone (s : State) : State :=
  s.set F.CHIP_BOOTTIME_MS (min F.CHIP_BOOTTIME_MS.max (s.now / 1000000))

/-- A load fails with a code: the boot load goes on with the other slot, or ends in CONFIGURE (R85, R87). -/
def loadFailed (l : LoadRec) (code sub : Nat) (s : State) : State :=
  let s := { s with struct := { s.struct with load := none } }
  let s := raise 5 (((s.set F.IMG_STATUS_BUSY 0).set F.IMG_STATUS_ERR code).set F.IMG_STATUS_SUB sub)
  if ¬ l.boot then s
  else match l.other with
    | some o => loadStart o true none (raise 6 s)
    | none => bootDone (takeMode 0x2 s)

/-- The roles after a load: those of the image with overrides applied; an isolated block that fails its self-test stays
ISOLATED (R64, R90). -/
def newRole (before : State) (i : ImageRec) (overrides fails : List Nat) (k : Nat) : Nat :=
  if before.role k = 5 ∧ fails.contains k then 5
  else if overrides.contains k then 0
  else i.roles.getD k 0

/-- The blocks of the new epoch: roles, states, cells, no work; then a spare for each block that stays isolated (R64). -/
def loadBlocks (i : ImageRec) (overrides fails : List Nat) (s : State) : State :=
  let roles := (upto 0 64).map (newRole s i overrides fails)
  let s := { s with struct := { s.struct with issued := [], net := {} } }
  let s := (upto 0 16).foldl (fun s n => (s.setWord (R.RG_BLKSTATE n) 0).setWord (R.RG_CELLRET n) 0) s
  let s := (upto 0 64).foldl (fun s k =>
    let r := roles.getD k 0
    let b : BlockState := { lostRole := if r = 5 then (if overrides.contains k then 0 else i.roles.getD k 0) else 0,
                            portOpen := r != 5, loaded := r != 4 }
    ((s.setBlock k b).setRole k r).setBlockState k (if r = 0 then 0 else if r = 4 then 2 else if r = 5 then 5 else 1)) s
  (upto 0 64).foldl (fun s k =>
    let lost := (s.block k).lostRole
    if lost = 1 ∨ lost = 2 ∨ lost = 3 then
      match s.spareOf k with
      | some sp => powerSpare sp k s
      | none => s
    else s) s

/-- The kernel set is copied into every region that holds a block not OFF (R75). -/
def loadKernels (i : ImageRec) (s : State) : State :=
  (upto 0 16).foldl (fun s n => if s.holdsKernels n then s.sramWrite (kernelArea n) i.kernelSet else s) s

/-- The pool registers of the new image (spec/14_hbm_controller.md R437). -/
def loadPools (i : ImageRec) (s : State) : State :=
  (upto 0 64).foldl (fun s n => match i.pools.find? (fun p => p.id == n) with
    | some p => ((s.setWord (R.HBM_POOL_A n) (BitVec.ofNat 32 (p.size * 65536 + p.base)))).setWord (R.HBM_POOL_B n)
        (BitVec.ofNat 32 (256 + p.kind))
    | none => (s.setWord (R.HBM_POOL_A n) 0).setWord (R.HBM_POOL_B n) 0) s

/-- The staging pool after a load: the lowest POOL_ID of KIND 0x3 that holds the need at FRAMES 2
(spec/07_conformer.md R257). -/
def loadStaging (i : ImageRec) : Nat :=
  let need := stagingNeed (geomOfBytes i.geometry) 2
  ((i.pools.filter (fun p => p.kind == 3 && decide (need ≤ p.size))).map (fun p => p.id)).foldl min 63

/-- The descriptor and map of the new image (R43, R93; spec/07_conformer.md R244, R246, R253, R268). -/
def loadGeometry (i : ImageRec) (s : State) : State :=
  let s := s.set F.CONF_STAGE_POOL_ID (loadStaging i)
  let s := s.withConf { s.conf with map := [], mapCopy := 0, started := 0, frames := [], owed := [], waited := false,
                                    lastLaunch := none, cut := none }
  let s := installGeom i.geometry (geomDrop (mapDrop s))
  let s := ((s.set F.GEOM_STATUS_SOURCE 0).set F.GEOM_STATUS_ERR 0).set F.CONF_MAPSTATUS_SOURCE 0
  newMapping (storeMap s)

/-- Decode engines and the header parser return to service (spec/05_decode.md R177, R182). -/
def loadDecode (s : State) : State :=
  ({ s with dec := { s.dec with struck := [], hpOut := false } }).set F.DEC_STATUS_ENGINES 0xFF

/-- An image that passed is applied in one step (R93, R95). DESIGN CHOICE: the log restarts before the new geometry takes
force, so that what the new epoch reports at the load stands in the new log. -/
def applyImage (l : LoadRec) (fails : List Nat) (i : ImageRec) (s : State) : State :=
  let s := clearParks (pathsReset (endWork s))
  let s := { s with struct := { s.struct with image := some i, load := none, overrides := l.overrides } }
  let s := loadKernels i (loadBlocks i l.overrides fails s)
  let e := s.get F.CHIP_EPOCH_EPOCH
  let s := s.set F.CHIP_EPOCH_EPOCH (if e = 0xFFFFFFFF then 1 else e + 1)
  let s := ((s.set F.IMG_STATUS_BUSY 0).set F.IMG_STATUS_ERR 0).set F.IMG_STATUS_SUB 0
  let s := s.set F.IMG_STATUS_IN_FORCE l.source
  let s := (s.setWord R.IMG_SEQ (BitVec.ofNat 32 i.sequence)).setWord R.IMG_VERSION (BitVec.ofNat 32 i.imageVersion)
  let s := s.setWord R.CARD_KSET (BitVec.ofNat 32 i.ksetId)
  let s := emptyLog (loadEvents i.groups s)
  let s := loadDecode (loadGeometry i (loadPools i s))
  let s := { s with kcp := { s.kcp with bulks := s.kcp.bulks.filter (fun b => b.target != 2) } }
  let s := { s with mem := { s.mem with noMaskLogged := [] } }
  let s := [0, 1].foldl (fun s k => setMasks k (s.stack k).masks s) s
  raise 4 (updateCapped (offerMap (takeEpochRecords (capsRecheck s))))

/-- A flash read error leaves the bytes that the slot brought to the load buffer open: free values. -/
def spoilSlot (s : State) : State :=
  let (bs, s) := s.drawBytes s.imageBytes.length
  loadWrite 0 bs s

/-- IMAGE_VALIDATION_DONE: the load in progress passes or fails; the kernels of an image that reached that check stand
beside the load buffer by then (R84, R92). -/
def validationDone (flashError : Bool) (fails : List Nat) (s : State) : State :=
  match s.struct.load with
  | none => s
  | some l =>
    if flashError ∧ l.source ≠ 3 then loadFailed l 0xF 0 (spoilSlot s)
    else
    let bs := s.imageBytes
    let (code, sub) := imageCheck (s.word 0x4).toNat s.struct.loaded (fun k => tabGet none s.fuses.imageKeys k) l.overrides bs
    let s := if code = 0 ∨ code > 0xA then s.sramWrite (4 * 8388608 + 0x400000) ((kernelSetOf bs).getD []) else s
    if code ≠ 0 then loadFailed l code sub s
    else
      let s := applyImage l fails (imageRec bs) s
      if l.boot then bootDone (takeMode 0x5 s) else s

/-! ## The commands -/

/-- CELL_PARITY_ERROR (R49). -/
def execCellParityError (block : Fin 64) (hit : ParityHit) (s : State) : Host.Outcome State Fault Refusal :=
  whenLive s (cellParity block.val hit.cell.val hit.inReplay)

/-- WORK_ITEM_WATCHDOG (R50). -/
def execWorkItemWatchdog (block : Fin 64) (cell : Fin 16) (s : State) : Host.Outcome State Fault Refusal :=
  whenLive s (itemWatchdog block.val cell.val)

/-- WORK_ITEM_DISPATCH (R51). -/
def execWorkItemDispatch (run : ItemRun) (s : State) : Host.Outcome State Fault Refusal :=
  whenLive s (itemDispatch run.block.val run.accesses)

/-- BLOCK_ECC_ERROR (R52). -/
def execBlockEccError (block : Fin 64) (cell : Fin 16) (double : Bool) (s : State) : Host.Outcome State Fault Refusal :=
  whenLive s (blockEcc block.val cell.val double)

/-- CARD_TILE_COMPLETE (spec/06_carding.md R228). -/
def execCardTileComplete (block : Fin 64) (cell : Fin 16) (s : State) : Host.Outcome State Fault Refusal :=
  whenLive s (cardTileComplete block.val cell.val)

/-- CONF_ITEM_COMPLETE (spec/07_conformer.md R261). -/
def execConfItemComplete (block : Fin 64) (cell : Fin 16) (s : State) : Host.Outcome State Fault Refusal :=
  whenLive s (confItemComplete block.val cell.val)

/-- RG_BLKCTRL_ISOLATE (R53). -/
def execRgBlkctrlIsolate (who : Requester) (region : Fin 16) (mask : Fin 16) (s : State) : Host.Outcome State Fault Refusal :=
  whenLive s (request who (R.RG_BLKCTRL region.val) (fun s => okay (blkCtrlWrite region.val mask.val s)))

/-- SRAM_ECC_ERROR (R55). -/
def execSramEccError (region : Fin 16) (kernelArea double : Bool) (block : Fin 64) (cell : Fin 16) (s : State) :
    Host.Outcome State Fault Refusal :=
  whenLive s (sramEcc region.val kernelArea double block.val cell.val)

/-- SPARE_READY (R62). -/
def execSpareReady (block : Fin 64) (s : State) : Host.Outcome State Fault Refusal := whenLive s (spareReady block.val)

/-- SPARE_SWAPPED (R62). -/
def execSpareSwapped (block : Fin 64) (s : State) : Host.Outcome State Fault Refusal := whenLive s (swapSpare block.val)

/-- RB_ROLE_WRITE (R90). -/
def execRbRoleWrite (who : Requester) (index : Fin 8) (value : Word) (s : State) : Host.Outcome State Fault Refusal :=
  whenLive s (request who (R.RB_ROLE index.val) (roleWrite index.val value))

/-- IMAGE_LOAD (R91). -/
def execImageLoad (who : Requester) (source : Fin 4) (s : State) : Host.Outcome State Fault Refusal :=
  whenLive s (request who R.IMG_CTRL (imageLoad source.val))

/-- IMAGE_VALIDATION_DONE (R84). -/
def execImageValidationDone (flashError : Bool) (selfTestFails : List Nat) (s : State) : Host.Outcome State Fault Refusal :=
  whenLive s (validationDone flashError selfTestFails)

end Sys2Proof.Machine
end

