-- ==== Sys2Proof/Machine/Boot.lean ====
section
/-! DEFINITION. Reset, the boot sequence, the system reference clock and on-demand power domains
(spec/21_pins_startup.md R568 to R575, R582). -/

namespace Sys2Proof.Machine

/-! ## Reset (R573) -/

/-- A flash write in progress leaves a copy that fails its CRC: it stays erased (R573). -/
def interruptWrite (s : State) : State :=
  if s.siz.op = 2 then s.flashErase (s.sizOther * 0x800000) 0x800000 else s

/-- The Q9 in reset with the cause of the next start: nothing survives but CHIP_BOOTTIME.CAUSE; flash, fuses and the TAP lie
outside the reset, and every lane transmitter is in electrical idle (R573; spec/20_test_identity.md R556). -/
def resetTakes (cause : Nat) (held : Bool) (s : State) : State :=
  let s := interruptWrite s
  let t : State := { State.reset with
    pins := { State.reset.pins with inReset := held, refSys := s.pins.refSys, refLane := s.pins.refLane }
    free := s.free, flash := s.flash, fuses := s.fuses, tap := s.tap, out := s.out, pending := s.pending }
  let t := t.set F.CHIP_BOOTTIME_CAUSE cause
  (upto 0 5).foldl (fun t n => t.emit (.laneSet n "ELECTRICAL_IDLE" 0)) t

/-- SAFE_N is pulled low: while CHIP_MODE is SAFE, and never in reset; at all other times it is high-impedance (R563). -/
def State.safeNLow (s : State) : Bool := s.modeNow == 0xC && !s.pins.inReset

/-- XSPI_RST_N is low: while RESET_N is (R572). -/
def State.flashResetLow (s : State) : Bool := s.pins.inReset

/-- RESET_N has been low for a time in ns: shorter than 0.5 µs it is ignored, from 2 µs it resets the Q9, between the two
either may happen (R573). -/
def resetAssert (ns : Nat) (s : State) : State :=
  if ns < 500 then s
  else if 2000 ≤ ns then resetTakes 1 true s
  else
    let (n, s) := s.draw
    if n % 2 = 1 then resetTakes 1 true s else s

/-! ## The boot sequence (R574) -/

/-- What the board and the two stacks bring to a start: the straps, whether SFDP can be read, and the rates at which
training of each stack would succeed (R451, R569, R571). -/
structure BootInput where
  tileId : Nat
  flashSdr : Bool
  testEn : Bool
  sfdp : Bool
  trains : Nat → Nat

/-- Step 1: straps (R569; spec/13_afloth_tiling.md R412). -/
def sampleStraps (i : BootInput) (s : State) : State :=
  let s := { s with now := 0, pins := { s.pins with
    inReset := false, flashSdr := i.flashSdr, testEn := i.testEn, flashAbsent := !i.sfdp, bootStep := 1 } }
  let s := (s.set F.CHIP_STRAPS_TILE_ID i.tileId).set F.CHIP_STRAPS_FLASH_SDR (bit i.flashSdr)
  s.set F.AFL_TILE_STATUS_TILE_ID i.tileId

/-- Step 2: attempt 1 of every link that is enabled, which at the reset values is the panel link. -/
def bootLinks (s : State) : State :=
  (upto 0 5).foldl (fun s n => if s.flag (F.LNK_CFG_ENABLE n) then firstAttempt n s else s) s

/-- Step 5 on stack k: every rate without a record is trained, and the stack runs at the rate that R450 and R451 give
(R446, R451). -/
def trainStack (trains : Nat) (k : Nat) (s : State) : State :=
  let st := s.stack k
  let s := s.setStack k { st with trained := (st.trained ||| trains) % 16 }
  let s := s.set (F.HBM_FREQSTAT_AVAIL k) (s.stack k).trained
  match s.wantedRate k with
  | none => s
  | some r =>
    let s := (stackCtrls k).foldl (fun s c => s.set (F.HBM_STATUS_RATE c) r) (s.set (F.HBM_FREQSTAT_IN_FORCE k) r)
    setMasks k st.masks (startRefresh k (rateCheck k s))

/-- Every stack has a rate (R451). -/
def State.memoryRuns (s : State) : Bool := [0, 1].all (fun k => s.get (F.HBM_FREQSTAT_AVAIL k) != 0)

/-- The boot sequence has reached a step of R574. -/
def atStep (n : Nat) (s : State) : State := { s with pins := { s.pins with bootStep := n } }

/-- Steps 1 to 6 of R574, up to the load that IMAGE_VALIDATION_DONE ends. With TEST_EN 1 the Q9 stays in BOOT and only the
TAP works (R569); without a rate of a stack it stays in BOOT at step 5 (R451). -/
def bootSequence (i : BootInput) (s : State) : State :=
  let s := sampleStraps i s
  if i.testEn then s
  else
    let s := sizBoot (bootLinks s)
    let s := trainStack (i.trains 1) 1 (trainStack (i.trains 0) 0 s)
    let s := atStep 5 s
    if s.memoryRuns then bootLoad (atStep 6 s) else s

/-- RESET_N rises, or the machine stands right after its rise: the boot sequence runs while REFCLK_SYS does. -/
def resetRelease (i : BootInput) (s : State) : State :=
  if ¬ s.pins.inReset ∧ s.pins.bootStep ≠ 1 then s
  else if ¬ s.pins.refSys then { s with pins := { s.pins with inReset := false } }
  else bootSequence i s

/-! ## REFCLK_SYS (R568) -/

/-- REFCLK_SYS has stopped for more than 10 µs after release: reset as by RESET_N. -/
def refclkLoss (s : State) : State :=
  let s := if s.pins.inReset then s else resetTakes 2 false s
  { s with pins := { s.pins with refSys := false } }

/-- REFCLK_SYS returns: the boot timeline starts again, unless RESET_N is low. -/
def refclkReturn (i : BootInput) (s : State) : State :=
  if s.pins.refSys then s
  else
    let s := { s with pins := { s.pins with refSys := true } }
    if s.pins.inReset then s else bootSequence i s

/-! ## On-demand domains (R582) -/

/-- An on-demand engine domain has powered up: work that waited for it begins. -/
def domainUp (d : Nat) (s : State) : State :=
  if s.domainValue d ≠ 2 ∨ d < 80 ∨ 93 ≤ d ∨ ¬ s.demand d ∨ quietMode s.modeNow then s
  else
    let s := { s with mode := { s.mode with up := setInsert d s.mode.up } }
    if d = 89 ∨ d = 90 then plankPowered (d - 89) s
    else if d = 91 ∨ d = 92 then fullerPowered (d - 91) s
    else s

/-! ## Commands -/

/-- RESET_ASSERT (R573). -/
def execResetAssert (lowNs : Nat) (s : State) : Host.Outcome State Fault Refusal := .next (resetAssert lowNs s)

/-- RESET_RELEASE (R574). -/
def execResetRelease (tileId : Fin 4) (flashSdr testEn sfdp : Bool) (trains0 trains1 : Fin 16) (s : State) :
    Host.Outcome State Fault Refusal :=
  .next (resetRelease ⟨tileId.val, flashSdr, testEn, sfdp, fun k => if k = 0 then trains0.val else trains1.val⟩ s)

/-- REFCLK_SYS_LOSS (R568). -/
def execRefclkSysLoss (s : State) : Host.Outcome State Fault Refusal := .next (refclkLoss s)

/-- REFCLK_SYS_RETURN (R568). -/
def execRefclkSysReturn (tileId : Fin 4) (flashSdr testEn sfdp : Bool) (trains0 trains1 : Fin 16) (s : State) :
    Host.Outcome State Fault Refusal :=
  .next (refclkReturn ⟨tileId.val, flashSdr, testEn, sfdp, fun k => if k = 0 then trains0.val else trains1.val⟩ s)

/-- POWER_DOMAIN_UP (R582). -/
def execPowerDomainUp (domain : Fin 120) (s : State) : Host.Outcome State Fault Refusal := whenLive s (domainUp domain.val)

end Sys2Proof.Machine
end

