-- ==== Sys2Proof/Machine/Xlat.lean ====
section
/-! DEFINITION. Requests of the engines to the translation unit and what a fault does to their work, forced and deferred
releases, probes, and parked engines that resume (spec/15_translation_preemption.md R456, R462 to R474). -/

namespace Sys2Proof.Machine

/-! ## Requests (R465 to R467) -/

/-- The restart point that the engine of a context has passed (R473); block and cell name the ray-block cell of a carding
or conformer request, block mod 8 the decode engine of a row. -/
def State.enginePoint (s : State) (ctx block cell : Nat) : Nat :=
  if 1 ≤ ctx ∧ ctx ≤ 4 then (match s.engineTask (block % 8) with | some t => s.rowPoint t | none => 0)
  else if ctx = 5 ∨ ctx = 6 then
    match s.cellItem block cell with
    | some ⟨.card l n t, _⟩ => cardPoint l n t
    | some ⟨.conf h t, _⟩ => confPoint h t
    | _ => 0
  else if ctx = 7 then (match s.enc.pic with | some p => p.row + 2 ^ 16 * (p.count % 2 ^ 32) | none => 0)
  else if ctx = 8 ∨ ctx = 9 then (match tabGet none s.plank (ctx - 8) with | some o => o.lines | none => 0)
  else if ctx = 10 ∨ ctx = 11 then (match s.fulJob (ctx - 10) with | some ⟨_, _, _, some r⟩ => r.blocks | _ => 0)
  else 0

/-- A row task ends by a fault: stale leases discard it, any other fault loses its CTUs (R466, R467). -/
def rowFault (e code : Nat) (s : State) : State :=
  match s.engineTask e with
  | none => s
  | some t =>
    let s := dropTasks t.ctx t.slot (fun u => u == t) s
    if code = 3 ∨ t.orphan.isSome then s
    else settle t.ctx t.slot (segmentLost t.ctx t.layer t.slot (upto t.first t.count) s)

/-- A carding item ends by a fault: a stale overlay is transparent, a stale layer or stream ends the instant, any other
fault poisons the tile (R466, R467; spec/02_structure_cukar.md R52). -/
def cardFault (block cell code : Nat) (lease : Option Nat) (s : State) : State :=
  match s.cellItem block cell with
  | some ⟨.card l n _, _⟩ =>
    match s.instantOf l n, lease with
    | some i, some e =>
      if code ≠ 3 then poisonItem block cell s
      else if i.fronts.any (fun f => f.hold.1 == e) then
        setInstant { i with fronts := i.fronts.filter (fun f => f.hold.1 != e) } s
      else instantEnds i s
    | _, _ => poisonItem block cell s
  | _ => s

/-- A conformer item ends by a fault: a stale RAWRAY unit is dropped, poison goes under R52, any other fault leaves the
item's subpixels at their reference codes (R466, R467). -/
def confFault (block cell code : Nat) (s : State) : State :=
  match s.cellItem block cell with
  | some ⟨.conf h t, _⟩ =>
    if code = 3 then frameEndsUnit h (clearCell block cell s)
    else if code = 4 then poisonItem block cell s
    else confTile h t true (clearCell block cell s)
  | _ => s

/-- What a fault does to the work of its engine (R466, R467). -/
def faultWork (ctx code : Nat) (lease : Option Nat) (block cell : Nat) (s : State) : State :=
  if 1 ≤ ctx ∧ ctx ≤ 4 then rowFault (block % 8) code s
  else if ctx = 5 then cardFault block cell code lease s
  else if ctx = 6 then confFault block cell code s
  else if ctx = 7 then (if s.enc.pic.isSome then s.withEnc { s.enc with pic := none, needIdr := true } else s)
  else if ctx = 8 ∨ ctx = 9 then plankFault (ctx - 8) s
  else if ctx = 10 ∨ ctx = 11 then
    match s.fulJob (ctx - 10) with
    | some j => fulFail (ctx - 10) (fulParams j.words) 8 s
    | none => s
  else if ctx = 12 then pushUnderrun s
  else s

/-- The first check of R465 that a request fails, as its fault code. -/
def State.requestFault (s : State) (ctx ca : Nat) (write : Bool) (lease : Option (Nat × Nat)) : Option Nat :=
  if (match lease with | some (e, g) => (s.lease e).gen != g | none => false) then some 3
  else
    match s.mapFind ctx ca with
    | none => some 1
    | some r =>
      if (s.pool r.pool).isNone then some 1
      else if (if write then !r.write else !r.read) then some 2
      else if !write && (match s.translate ctx ca with | some m => s.poison.contains (m / 32) | none => false) then some 4
      else none

/-- XLAT_REQUEST: a request of the engine of a context (R465). -/
def xlatRequest (ctx ca : Nat) (write : Bool) (lease : Option (Nat × Nat)) (block cell : Nat) (s : State) : State :=
  match s.requestFault ctx ca write lease with
  | none => s.emit (.translated ctx ca (s.translate ctx ca))
  | some code =>
    let e := lease.map (fun x => x.1)
    let point := s.enginePoint ctx block cell
    faultWork ctx code e block cell (xlatFault ctx code e ca point (s.emit (.translated ctx ca none)))

/-! ## Releases (R462 to R464) -/

/-- The leases of an object are forced: generations rise at once, the entries drain (R463, R464). -/
def forceLeases (kind id : Nat) (s : State) : State :=
  (s.leasesOf kind id).foldl (fun s e =>
    let l := s.lease e
    s.setLease e { l with state := 2, gen := (l.gen + 1) % 65536, draining := true }) s

/-- A forced release completes: entries free, RELEASE_DONE for each, EARLY_RELEASE where a holder remained (R464). -/
def drainForced (kind id : Nat) (remained : Bool) (s : State) : State :=
  let s := if remained then raiseWith 929 0 (kind * 256 + id) s else s
  (s.leasesOf kind id).foldl (fun s e =>
    let l := s.lease e
    if l.draining then raiseWith 932 0 (kind * 256 + id) (s.setLease e { gen := l.gen }) else s) s

/-- Steps 1 to 3 of R463 up to the drain: the answer of a refusal, or whether a holder remained. -/
def forceRelease (kind id : Nat) (s : State) : Except Status (Bool × State) :=
  if kind = 0 ∨ 3 < kind ∨ ¬ (pathIds kind).contains id then .error .value
  else
    let st := (s.path kind id).state
    if st = 0 ∨ (st = 1 ∧ ¬ s.releasePending kind id) then .error .state
    else
      let remained := (s.leasesOf kind id).any (fun e => s.holders e != 0)
      let s := if st = 3 then cascade 2 kind id s else s
      let s := if 2 ≤ st then s.setPath kind id { state := 1, touched := true } else s
      .ok (remained, forceLeases kind id s)

/-- A write of XLAT_RELEASE whose release drains within the same write: the form that a KCP request takes. -/
def xlatReleaseNow (v : Word) (s : State) : Res :=
  let kind := wordField v F.XLAT_RELEASE_KIND
  let id := wordField v F.XLAT_RELEASE_ID
  match forceRelease kind id s with
  | .error st => refuse st s
  | .ok (remained, s) => okay (drainForced kind id remained s)

/-- A direct write of XLAT_RELEASE: a refusal is answered at once, OK once the release has drained (R463, R464). -/
def xlatRelease (who : Requester) (v : Word) (s : State) : State :=
  let kind := wordField v F.XLAT_RELEASE_KIND
  let id := wordField v F.XLAT_RELEASE_ID
  if s.bootRefuses who then s.emit (.status who R.XLAT_RELEASE .mode)
  else if s.privilege who < writePrivilege R.XLAT_RELEASE then s.emit (.status who R.XLAT_RELEASE .privilege)
  else
    match forceRelease kind id s with
    | .error st => s.emit (.status who R.XLAT_RELEASE st)
    | .ok (remained, s) => { s with xlat := { s.xlat with forced := s.xlat.forced ++ [(who, kind, id, remained)] } }

/-- FORCED_RELEASE_DRAINED: the oldest forced release completes and its write is answered (R464). -/
def forcedDrained (s : State) : State :=
  match s.xlat.forced with
  | [] => s
  | (who, kind, id, remained) :: rest =>
    let s := drainForced kind id remained { s with xlat := { s.xlat with forced := rest } }
    s.emit (.status who R.XLAT_RELEASE .ok)

/-- LEASE_RELEASE_COMPLETE: a pending release completes when R462 allows it. -/
def leaseComplete (e : Nat) (s : State) : State := if s.releaseDue e then completeRelease e s else s

/-! ## Probes (R456) -/

/-- A write of XLAT_PROBE_HI walks the table of a context; lo is the word of XLAT_PROBE_LO that it is applied with (R10). -/
def xlatProbe (lo v : Word) (s : State) : Res :=
  let ctx := slice v.toNat 29 24
  let ca := slice v.toNat 8 0 * 2 ^ 32 + lo.toNat
  let e := s.leafEntry ctx ca
  let s := (s.setWord R.XLAT_PROBE_LO lo).setWord R.XLAT_PROBE_HI (v &&& 0x3F0001FF)
  let s := { s with heldLo := tabErase s.heldLo R.XLAT_PROBE_LO }
  okay ((s.setWord R.XLAT_PTE_LO (BitVec.ofNat 32 e)).setWord R.XLAT_PTE_HI (BitVec.ofNat 32 (e / 2 ^ 32)))

/-- The low word that a write of XLAT_PROBE_HI takes: the one held, else the one in force (R10, R11). -/
def State.probeLo (s : State) : Word := (tabGet none s.heldLo R.XLAT_PROBE_LO).getD (s.word R.XLAT_PROBE_LO)

/-! ## Resuming (R470, R472, R474) -/

/-- ENGINE_RESUME: the parked job of a fuller engine resumes, or fails with its save area. Parked rows, tiles and items resume
when they are dispatched again (R467). -/
def engineResume (ctx : Nat) (s : State) : State :=
  match tabGet none s.xlat.parked ctx with
  | none => s
  | some point =>
    if ctx = 10 ∨ ctx = 11 then
      let (ok, s) := resumeSave ctx point s
      if ok then fullerResume (ctx - 10) s else fullerLost (ctx - 10) s
    else s

/-- The work that a context parked still waits: it never resumes after its object has been disarmed (R470). -/
def State.parkWaits (s : State) (ctx point : Nat) : Bool :=
  if ctx ≤ 4 then s.dec.tasks.any (fun t => t.state == 0 && t.orphan.isNone && 1 + t.ctx % 4 == ctx && s.rowPoint t == point)
  else if ctx ≤ 7 then s.struct.blocks.any (fun b => b.2.queue.any (fun q => s.itemPoint q.item == some (ctx, point)))
  else true

/-- What an engine does now: parked by pre-emption, running, or idle (XLAT_CTXn.STATE). -/
def State.ctxState (s : State) (ctx : Nat) : Nat :=
  if (match tabGet none s.xlat.parked ctx with | some point => s.parkWaits ctx point | none => false) then 2
  else
    let running :=
      if ctx = 0 then !s.kcp.bulks.isEmpty
      else if ctx ≤ 4 then s.dec.tasks.any (fun t => t.state == 1 && t.ctx % 4 == ctx - 1)
      else if ctx = 5 then s.card.instants.any (fun i => i.phase == 1)
      else if ctx = 6 then s.building
      else if ctx = 7 then s.enc.pic.isSome
      else if ctx = 8 ∨ ctx = 9 then (match tabGet none s.plank (ctx - 8) with | some o => !o.waiting | none => false)
      else if ctx = 10 ∨ ctx = 11 then (match s.fulJob (ctx - 10) with | some j => j.state == 2 | none => false)
      else if ctx = 12 then (match s.panel.opened with | some o => o.busy.isSome | none => false)
      else false
    bit running

/-! ## Commands -/

/-- XLAT_REQUEST (R465). -/
def execXlatRequest (ctx : Fin 64) (ca : Nat) (write : Bool) (lease : Option (Nat × Nat)) (block : Fin 64) (cell : Fin 16)
    (s : State) : Host.Outcome State Fault Refusal :=
  whenLive s (xlatRequest ctx.val ca write lease block.val cell.val)

/-- XLAT_RELEASE (R463). -/
def execXlatRelease (who : Requester) (value : Word) (s : State) : Host.Outcome State Fault Refusal :=
  whenLive s (xlatRelease who value)

/-- FORCED_RELEASE_DRAINED (R464). -/
def execForcedReleaseDrained (s : State) : Host.Outcome State Fault Refusal := whenLive s forcedDrained

/-- LEASE_RELEASE_COMPLETE (R462). -/
def execLeaseReleaseComplete (entry : Fin 256) (s : State) : Host.Outcome State Fault Refusal :=
  whenLive s (leaseComplete entry.val)

/-- XLAT_PROBE (R456). -/
def execXlatProbe (who : Requester) (value : Word) (s : State) : Host.Outcome State Fault Refusal :=
  whenLive s (request who R.XLAT_PROBE_HI (fun s => xlatProbe s.probeLo value s))

/-- ENGINE_RESUME (R474). -/
def execEngineResume (context : Fin 64) (s : State) : Host.Outcome State Fault Refusal := whenLive s (engineResume context.val)

end Sys2Proof.Machine
end

