-- ==== Sys2Proof/Machine/Bulk.lean ====
section
/-! DEFINITION. Bulk transfers: BULK_PUT chunks, END, BULK_GET, timeouts (spec/03_control_kcp.md R128 to R132). -/

namespace Sys2Proof.Machine

/-- What a KCP request answers: status and payload, with the state it leaves. -/
abbrev KcpAnswer := Status × List Byte × State

/-- An answer without payload. -/
def plainAnswer (st : Status) (s : State) : KcpAnswer := (st, [], s)

/-! ## Targets (R128) -/

/-- The bytes of the flash: at least 128 MiB (spec/21_pins_startup.md R572). -/
def flashBytes : Nat := 134217728 + Config.flashExtra

/-- The first byte of a target, and the byte after its last. -/
def State.targetRange (s : State) (target pool : Nat) : Nat × Nat :=
  if target = 1 then (0, 33554432)
  else if target = 2 then (0, match s.pool pool with | some p => poolBytes p | none => 0)
  else if target = 3 then (0x01000000, flashBytes)
  else (0, 131072)

/-- n bytes from a lie in a target. -/
def State.inTarget (s : State) (target pool a n : Nat) : Bool :=
  let r := s.targetRange target pool
  decide (r.1 ≤ a) && decide (a + n ≤ r.2)

/-- n bytes of flash from a meet the slot that IMG_STATUS.IN_FORCE names (R129). -/
def State.meetsSlot (s : State) (a n : Nat) : Bool :=
  let f := s.get F.IMG_STATUS_IN_FORCE
  (f == 1 || f == 2) && decide (a < slotBase_ f + 33554432) && decide (slotBase_ f < a + n)

/-- Bytes written to a target from a; the load buffer remembers how far it has been filled. -/
def targetWrite (target pool a : Nat) (bs : List Byte) (s : State) : State :=
  if target = 1 then
    loadWrite a bs { s with struct := { s.struct with loaded := if bs.isEmpty then s.struct.loaded else max s.struct.loaded (a + bs.length) } }
  else if target = 2 then
    match s.pool pool with
    | some p => s.poolWrite p a bs
    | none => s
  else s.flashWrite a bs

/-! ## Collection areas (R131) -/

/-- The bytes of a collection area. -/
def Bulk.areaBytes (b : Bulk) : Nat := ceilDiv b.total 65536 * 65536

/-- The open collection areas. -/
def State.areas (s : State) : List Bulk := s.kcp.bulks.filter (fun b => b.fuller)

/-- n bytes of a pool from a meet an open collection area, which lies in the pool of KIND 0x9 with the lowest ID. -/
def State.meetsArea (s : State) (pool a n : Nat) : Bool :=
  match s.lowestPool 9 with
  | none => false
  | some p => p.id == pool && s.areas.any (fun b => decide (a < b.area + b.areaBytes) && decide (b.area < a + n))

/-- The lowest 64 KiB-aligned offset of a pool at which n bytes overlap no lease and no other area. -/
def State.placeArea (s : State) (p : PoolRec) (n : Nat) : Option Nat :=
  let leaseEnds := ((upto 0 256).map s.lease).filter (fun l => l.state != 0 && l.pool == p.id)
    |>.map (fun l => ceilDiv (l.base + l.len) 16 * 65536)
  let areaEnds := s.areas.map (fun b => b.area + b.areaBytes)
  let ok := fun a => decide (a + n ≤ poolBytes p) && (s.meeting p.id (a / 4096) (n / 4096)).isEmpty && !s.meetsArea p.id a n
  ((0 :: leaseEnds ++ areaEnds).filter ok).foldl (fun best a => match best with
    | none => some a
    | some x => some (min x a)) none

/-- A transfer ends or is discarded: the bytes of its collection area are undefined. -/
def closeBulk (b : Bulk) (s : State) : State :=
  let s := { s with kcp := { s.kcp with bulks := s.kcp.bulks.filter (fun x => x.slot != b.slot || x.id != b.id) } }
  if b.fuller then
    match s.lowestPool 9 with
    | some p =>
      let (bs, s) := s.drawBytes b.areaBytes
      s.poolWrite p b.area bs
    | none => s
  else s

/-- The open transfers of a session end with it (R108). -/
def dropBulks (slot : Nat) (s : State) : State :=
  (s.kcp.bulks.filter (fun b => b.slot == slot)).foldl (fun s b => closeBulk b s) s

/-! ## BULK_PUT (R129) -/

/-- The head of a BULK_PUT payload, with its data. -/
structure PutHead where
  target : Nat
  xflags : Nat
  pool : Nat
  byte3 : Nat
  id : Nat
  base : Nat
  total : Nat
  offset : Nat
  data : List Byte

/-- The head of a payload of at least 32 bytes. -/
def putHead (bs : List Byte) : PutHead :=
  { target := leAt bs 0 1, xflags := leAt bs 1 1, pool := leAt bs 2 1, byte3 := leAt bs 3 1, id := leAt bs 4 4
    base := leAt bs 8 8, total := leAt bs 0x10 8, offset := leAt bs 0x18 8, data := bs.drop 32 }

/-- XFLAGS bit 0. -/
def PutHead.isEnd (h : PutHead) : Bool := h.xflags % 2 == 1

/-- XFLAGS bit 1. -/
def PutHead.fuller (h : PutHead) : Bool := h.xflags / 2 % 2 == 1

/-- The checks of a head that need no transfer (R128, R129). DESIGN CHOICE: their order among each other and after LENGTH; a
head that is wrong in itself answers VALUE before the privilege that its target needs. -/
def State.headCheck (s : State) (priv : Nat) (h : PutHead) : Option Status :=
  firstFailure
    [ failIf (h.target == 0 || decide (3 < h.target) || decide (3 < h.xflags) || h.byte3 != 0 || (h.target != 2 && h.pool != 0)) .value
    , failIf (h.target != 2 && decide (priv < 3)) .privilege
    , failIf (h.target == 1 && s.modeNow != 0x2) .mode
    , failIf (h.target == 2 && (match s.pool h.pool with
        | some p => !(p.kind == 0 || p.kind == 7 || p.kind == 9)
        | none => true)) .pool ]

/-- The checks of a chunk that would open a transfer, those of its data apart. -/
def State.openCheck (s : State) (slot : Nat) (h : PutHead) : Option Status :=
  firstFailure
    [ failIf (h.total == 0 || decide (33554432 < h.total) || (h.target == 3 && h.base % 65536 != 0)) .value
    , failIf (!s.inTarget h.target h.pool h.base (if h.fuller then 1 else h.total)) .bulkRange
    , failIf (h.target == 3 && s.meetsSlot h.base h.total) .inUse
    , failIf (decide (4 ≤ (s.kcp.bulks.filter (fun b => b.slot == slot)).length) || decide (16 ≤ s.kcp.bulks.length)) .busy
    , failIf (h.fuller && (match s.lowestPool 9 with
        | none => true
        | some p => (s.placeArea p (ceilDiv h.total 65536 * 65536)).isNone)) .pool ]

/-- The checks of a chunk's data (R129, R131; spec/15_translation_preemption.md R462). -/
def State.dataCheck (s : State) (maxPayload : Nat) (h : PutHead) : Option Status :=
  let n := h.data.length
  firstFailure
    [ failIf (h.offset % 64 != 0) .value
    , failIf ((n % 64 != 0 && h.offset + n != h.total) || decide ((maxPayload - 32) / 64 * 64 < n)) .length
    , failIf (decide (h.total < h.offset + n)) .bulkRange
    , failIf (h.target == 2 && !h.fuller && n != 0 &&
        (s.pendingMeets h.pool (h.base + h.offset) n || s.meetsArea h.pool (h.base + h.offset) n)) .inUse
    , failIf (h.target == 3 && !h.fuller && n != 0 && s.meetsSlot (h.base + h.offset) n) .inUse ]

/-- The transfer that a head opens; flash sectors are erased (R129). -/
def openBulk (slot : Nat) (h : PutHead) (s : State) : Bulk × State :=
  let area := match s.lowestPool 9 with
    | some p => if h.fuller then (s.placeArea p (ceilDiv h.total 65536 * 65536)).getD 0 else 0
    | none => 0
  let b : Bulk := ⟨slot, h.target, h.pool, h.base, h.total, h.id, h.fuller, [], area, s.now⟩
  (b, if h.target = 3 then s.flashErase h.base (ceilDiv h.total 65536 * 65536) else s)

/-- The cells of received bytes from an offset. -/
def receivedRun (a : Nat) : List Byte → Tab (Option Byte)
  | [] => []
  | b :: t => (a, some b) :: receivedRun (a + 1) t

/-- The bytes of a chunk are recorded and written (R129, R131). -/
def takeChunk (b : Bulk) (h : PutHead) (s : State) : State :=
  let n := h.data.length
  let data := b.data.filter (fun e => decide (e.1 < h.offset)) ++ receivedRun h.offset h.data ++
    b.data.filter (fun e => decide (h.offset + n ≤ e.1))
  let others := s.kcp.bulks.filter (fun x => x.slot != b.slot || x.id != b.id)
  let s := { s with kcp := { s.kcp with bulks := { b with data := data, lastChunk := s.now } :: others } }
  if b.fuller then
    match s.lowestPool 9 with
    | some p => s.poolWrite p (b.area + h.offset) h.data
    | none => s
  else targetWrite b.target b.pool (b.base + h.offset) h.data s

/-- A chunk repeats the values of its transfer. -/
def Bulk.agrees (b : Bulk) (h : PutHead) : Bool :=
  b.target == h.target && b.pool == h.pool && b.base == h.base && b.total == h.total && b.fuller == h.fuller

/-! ## END (R130, R131) -/

/-- The first offset from a that is not received. -/
def firstMissing (a : Nat) : Tab (Option Byte) → Nat
  | [] => a
  | (k, _) :: t => if k = a then firstMissing (a + 1) t else a

/-- The stream of a fuller transfer is decompressed into the target at BASE (R131). -/
def expandBulk (b : Bulk) (s : State) : Bool × State :=
  match s.lowestPool 9 with
  | none => (false, s)
  | some p =>
    let s := yieldFuller s
    let room := (s.targetRange b.target b.pool).2 - b.base
    if s.hbmPoisoned (poolBase p + b.area) b.total then
      (false, xlatFault (fullerCtx s.internalEngine) 4 none (contextAddress p.id b.area) 0 s)
    else match fullerDecompress (s.poolRead p b.area b.total) room with
      | .error _ => (false, s)
      | .ok out =>
        if b.target = 3 ∧ s.meetsSlot b.base out.length then (false, s)
        else
          let s := if b.target = 3 then s.flashErase b.base (ceilDiv out.length 65536 * 65536) else s
          (true, targetWrite b.target b.pool b.base out s)

/-- A chunk of a transfer has come: its 10 s begin anew (R130). -/
def noteChunk (b : Bulk) (s : State) : State :=
  { s with kcp := { s.kcp with
      bulks := s.kcp.bulks.map (fun x => if x.slot = b.slot ∧ x.id = b.id then { x with lastChunk := s.now } else x) } }

/-- An END of an open transfer. -/
def endBulk (b : Bulk) (h : PutHead) (s : State) : KcpAnswer :=
  let miss := firstMissing 0 b.data
  if ¬ h.data.isEmpty then plainAnswer .length s
  else if h.offset / 2 ^ 32 ≠ 0 then plainAnswer .value s
  else if miss < b.total then (.bulkIncomplete, leBytes miss 8, noteChunk b s)
  else if crc32c (b.data.map (fun e => e.2.getD 0)) ≠ h.offset % 2 ^ 32 then plainAnswer .bulkCrc (closeBulk b s)
  else if b.fuller then
    let (good, s) := expandBulk b s
    plainAnswer (if good then .ok else .bulkCrc) (closeBulk b s)
  else plainAnswer .ok (closeBulk b s)

/-- A transfer without a chunk for 10 s is discarded (R130). -/
def bulkTimeout (slot id : Nat) (s : State) : State :=
  match s.kcp.bulks.find? (fun b => b.slot == slot && b.id == id) with
  | some b => if b.lastChunk + 10000000000 ≤ s.now then closeBulk b s else s
  | none => s

/-- A BULK_PUT request of a session with privilege priv and MAX_PAYLOAD maxPayload (R103, R128 to R131). An END whose
transfer is not open finds no byte received and opens none. -/
def bulkPut (slot priv maxPayload : Nat) (payload : List Byte) (s : State) : KcpAnswer :=
  if priv < 2 then plainAnswer .privilege s
  else if payload.length < 32 then plainAnswer .length s
  else
    let h := putHead payload
    match s.headCheck priv h with
    | some st => plainAnswer st s
    | none =>
      let s := bulkTimeout slot h.id s
      match s.kcp.bulks.find? (fun b => b.slot == slot && b.id == h.id) with
      | some b =>
        if ¬ b.agrees h then plainAnswer .value s
        else if h.isEnd then endBulk b h s
        else match s.dataCheck maxPayload h with
          | some st => plainAnswer st s
          | none => plainAnswer .ok (takeChunk b h s)
      | none =>
        match s.openCheck slot h with
        | some st => plainAnswer st s
        | none =>
          if h.isEnd then
            if ¬ h.data.isEmpty then plainAnswer .length s
            else if h.offset / 2 ^ 32 ≠ 0 then plainAnswer .value s
            else (.bulkIncomplete, leBytes 0 8, s)
          else match s.dataCheck maxPayload h with
            | some st => plainAnswer st s
            | none =>
              let (b, t) := openBulk slot h s
              plainAnswer .ok (takeChunk b h t)

/-! ## BULK_GET (R132) -/

/-- The pool whose bytes a target reads, and the offset of a byte of the target in it. -/
def State.targetPool (s : State) (target pool : Nat) : Option PoolRec :=
  if target = 2 then s.pool pool else if target = 4 then s.lowestPool 4 else none

/-- n bytes of a target. -/
def State.targetRead (s : State) (target pool a n : Nat) : List Byte :=
  if target = 1 then ((s.loadRead (a + n)).drop a).take n
  else if target = 3 then s.flashRead a n
  else match s.targetPool target pool with
    | some p => s.memRead (poolBase p + a) n
    | none => []

/-- The status of a read that ends with a fault, which the manual leaves open: one of R112 other than OK. -/
def anyRefusal (n : Nat) : Status :=
  ([Status.unmapped, .align, .window, .locked, .value, .busy, .mode, .state, .noRoute, .noRole, .pool, .inUse, .length,
    .opcode, .version, .sessionLimit, .privilege, .staleSeq, .seqGap, .bulkRange, .bulkIncomplete, .bulkCrc, .batchIllegal,
    .timeout]).getD (n % 24) .timeout

/-- A BULK_GET request. Poisoned bytes end it with a fault (spec/14_hbm_controller.md R449). -/
def bulkGet (maxPayload : Nat) (payload : List Byte) (s : State) : KcpAnswer :=
  if payload.length ≠ 24 then plainAnswer .length s
  else
    let target := leAt payload 0 1
    let pool := leAt payload 1 1
    let a := leAt payload 4 8 + leAt payload 12 8
    let n := leAt payload 20 4
    if target = 0 ∨ 4 < target ∨ leAt payload 2 2 ≠ 0 then plainAnswer .value s
    else if target = 1 ∧ s.modeNow ≠ 0x2 then plainAnswer .mode s
    else if (target = 2 ∨ target = 4) ∧ (s.targetPool target pool).isNone then plainAnswer .pool s
    else if maxPayload - 8 < n then plainAnswer .length s
    else if n = 0 then (.ok, leBytes 0 8, s)
    else if ¬ s.inTarget target pool a n then plainAnswer .bulkRange s
    else
      match s.targetPool target pool with
      | some p =>
        if s.hbmPoisoned (poolBase p + a) n then
          let (x, s) := s.draw
          plainAnswer (anyRefusal x) (xlatFault 0 4 none (contextAddress p.id a) 0 s)
        else (.ok, leBytes n 8 ++ s.targetRead target pool a n, s)
      | none => (.ok, leBytes n 8 ++ s.targetRead target pool a n, s)

end Sys2Proof.Machine
end

