-- ==== Sys2Proof/Machine/Hbm.lean ====
section
/-! DEFINITION. Requests to the memory controllers: bank queues and command order, ECC and poison, refresh and changes
of the data rate (spec/14_hbm_controller.md R438 to R452). -/

namespace Sys2Proof.Machine

/-! ## Command order (R439 to R442) -/

/-- A queued request to a row other than r. -/
def BankState.otherRow (y : BankState) (r : Nat) : Bool := y.queue.any (fun q => q.kind != 1 && q.row != r)

/-- The requests of a bank that may be served in a direction: the head alone in in-order mode (R441, R442). -/
def BankState.servable (y : BankState) (write : Bool) : List MemReq :=
  let q := y.queue.filter (fun r => r.kind != 1)
  if inOrder q then (q.take 1).filter (fun r => r.write == write) else q.filter (fun r => r.write == write)

/-- The bank's next request in a direction: the oldest hit of the open row, unless 16 hits in a row have passed while
another row waited (R439). True: the row is open and the column command can go. -/
def BankState.nextRequest (y : BankState) (write : Bool) : Option (Bool × MemReq) :=
  let c := y.servable write
  let oldest := (c.head?).map (fun r => (false, r))
  match y.openRow with
  | none => oldest
  | some r =>
    match c.find? (fun q => q.row == r) with
    | some q => if 16 ≤ y.hits ∧ y.otherRow r then oldest else some (true, q)
    | none => oldest

/-- A neighbour refresh stands at the head of the bank's queue. -/
def BankState.refreshHead (y : BankState) : Option MemReq := (y.queue.head?).filter (fun r => r.kind == 1)

/-- The bank needs an activation in a direction (R439, R445). -/
def BankState.needsAct (y : BankState) (write : Bool) : Bool :=
  y.refreshHead.isSome || (match y.nextRequest write with | some (ready, _) => !ready | none => false)

/-- The first of some banks at or after the pointer, ascending with wrap (R440). -/
def afterPointer (pointer : Nat) (banks : List Nat) : Option Nat :=
  banks.foldl (fun best b => match best with
    | none => some b
    | some x => if (b + 48 - pointer) % 48 < (x + 48 - pointer) % 48 then some b else some x) none

/-- The neighbour rows that the draw at an ACT to row r of pseudo-channel p schedules (R445). -/
def neighbourDraw (p r : Nat) (s : State) : List Nat × State :=
  match (s.stack (p / 32)).masks with
  | none => ([], s)
  | some (ma, mb) =>
    if ¬ s.flag (F.HBM_CFG_NR_EN (ctrlOf p)) then ([], s)
    else
      let hit := Config.random s.free % 2 ^ s.get (F.HBM_CFG_NR_K (ctrlOf p)) == 0
      (if hit then [r ^^^ ma, r ^^^ mb].filter (fun n => n != r && decide (n ≤ 16383)) else [], { s with free := s.free + 1 })

/-- A bank of pseudo-channel p is precharged. -/
def precharge (p b : Nat) (s : State) : State :=
  let x := s.pc p
  let y := x.bank b
  countNeighbours p [y] (s.setPc p (x.setBank b (prechargeBank s.now y)))

/-- A bank of pseudo-channel p is activated: for a neighbour refresh at its head, which the PRE ends, else for the row of
the request that is next in the direction (R439, R440, R445). -/
def activate (p b : Nat) (write : Bool) (s : State) : State :=
  let x := s.pc p
  let y := x.bank b
  let x := { x with pointer := (b + 1) % 48 }
  match y.refreshHead with
  | some r =>
    let (due, s) := neighbourDraw p r.row s
    precharge p b (s.setPc p (x.setBank b { y with queue := y.queue.drop 1, openRow := some r.row, due := due }))
  | none =>
    match y.nextRequest write with
    | none => s
    | some (_, r) =>
      let (due, s) := neighbourDraw p r.row s
      s.setPc p (x.setBank b { y with openRow := some r.row, hits := 0, due := due })

/-- A column command: the request leaves its queue (R439). -/
def column (p b : Nat) (r : MemReq) (s : State) : State :=
  let x := s.pc p
  let y := x.bank b
  let hits := if y.otherRow r.row then y.hits + 1 else 0
  takeInput p (s.setPc p (x.setBank b { y with queue := y.queue.erase r, hits := hits }))

/-- Commands of pseudo-channel p in one direction up to a column command, at most n of them; among the banks whose column
command can go the choice is free (R439, R440). -/
def serveOne (write : Bool) (p : Nat) : Nat → State → Option MemReq × State
  | 0, s => (none, s)
  | n + 1, s =>
    let x := s.pc p
    let ready := x.banks.filterMap (fun e => match e.2.nextRequest write with
      | some (true, r) => if e.2.refreshHead.isSome ∧ e.2.openRow.isNone then none else some (e.1, r)
      | _ => none)
    let (k, s) := if ready.length ≤ 1 then (0, s) else s.draw
    match ready[k % ready.length]? with
    | some (b, r) => (some r, column p b r s)
    | none =>
      match afterPointer x.pointer ((x.banks.filter (fun e => e.2.needsAct write)).map (fun e => e.1)) with
      | none => (none, s)
      | some b =>
        serveOne write p n (if (x.bank b).openRow.isSome then precharge p b s else activate p b write s)

/-- Commands that one serving may take. -/
def serveLimit : Nat := 65536

/-! ## Writes (R441) -/

/-- A served write reaches memory; the write-back of a corrected word leaves it as it is (R448). -/
def writeServed (r : MemReq) (s : State) : State := if r.kind = 0 then s.hbmWrite r.word r.data else s

/-- Writes are served while more than keep are held and one can be served. -/
def drainWrites (keep p : Nat) : Nat → State → State
  | 0, s => s
  | n + 1, s =>
    if (s.pc p).writes.length ≤ keep then s
    else
      match serveOne true p serveLimit s with
      | (none, s) => s
      | (some r, s) => drainWrites keep p n (writeServed r s)

/-- The pseudo-channel turns to writes and back when it holds fewer than 8 (R441). -/
def writeTurn (p : Nat) (s : State) : State :=
  if 32 ≤ (s.pc p).writes.length then orderLevel (ctrlOf p) (drainWrites 7 p 1024 s) else s

/-- The oldest write that the bank queues of a pseudo-channel hold. -/
def PcState.oldestWrite (x : PcState) : Option Nat :=
  x.writes.foldl (fun best r => match best with
    | none => some r.at_
    | some t => some (min t r.at_)) none

/-- The oldest write has waited 2 µs: the pseudo-channel turns to writes until it holds none that can be served. -/
def writeWait (p : Nat) (s : State) : State :=
  match (s.pc p).oldestWrite with
  | none => s
  | some t =>
    if t + 2000 ≤ s.now ∧ ¬ s.pcHeld p ∧ (s.pc p).busyUntil ≤ s.now then
      orderLevel (ctrlOf p) (drainWrites 0 p 1024 s)
    else s

/-! ## Requests -/

/-- A write to a word drops a write-back of it that waits (R448). -/
def dropWriteBack (word : Nat) (y : BankState) : BankState :=
  { y with queue := y.queue.filter (fun r => !(r.kind == 2 && r.word == word)) }

/-- A request for the 32-byte word that holds memory byte m (R436, R438). -/
def memRequest (id : Nat) (write : Bool) (m : Nat) (data : List Byte) (s : State) : State :=
  if 2 * stackBytes ≤ m then s
  else
    let a := memPlace m
    let word := m / 32 * 32
    let x := s.pc a.pc
    let x := if write then x.setBank a.bank (dropWriteBack word (x.bank a.bank)) else x
    let r : MemReq := { id := id, write := write, row := a.row, word := word, data := data.take 32, at_ := s.now }
    let s := takeInput a.pc (s.setPc a.pc { x with input := x.input ++ [(a.bank, r)] })
    if s.pcHeld a.pc ∨ s.now < (s.pc a.pc).busyUntil then s else writeTurn a.pc s

/-! ## Reads, ECC and poison (R447 to R449) -/

/-- The pool that holds a memory byte, with the byte's offset in it. -/
def State.poolAt (s : State) (m : Nat) : Option (Nat × Nat) :=
  (s.pools.find? (fun p => decide (poolBase p ≤ m) && decide (m < poolBase p + poolBytes p))).map (fun p => (p.id, m - poolBase p))

/-- Whether a memory byte lies in the translation tables (spec/15_translation_preemption.md R457). -/
def State.inTables (s : State) (m : Nat) : Bool :=
  match s.lowestPool 5 with
  | some p => decide (poolBase p ≤ m) && decide (m < poolBase p + 16777216)
  | none => false

/-- A corrected word: counted, its write-back queued unless a write to the word is queued or has arrived (R448). -/
def correctedWord (p : Nat) (r : MemReq) (s : State) : State :=
  let c := ctrlOf p
  let s := s.bump (if p % 2 = 0 then F.HBM_ECC_CORR_PC0 c else F.HBM_ECC_CORR_PC1 c)
  let s := raiseQuiet (864 + 2 * c) 0 (match s.poolAt r.word with | some (k, o) => k * 2 ^ 35 + o | none => 0) s
  let x := s.pc p
  let b := (memPlace r.word).bank
  let y := x.bank b
  if y.queue.any (fun q => q.write && q.word == r.word) ∨ x.input.any (fun q => q.2.write && q.2.word == r.word) then s
  else s.setPc p (x.setBank b { y with queue := y.queue ++ [{ r with write := true, kind := 2, at_ := s.now, data := [] }] })

/-- An uncorrectable word: counted, recorded, reported, poisoned until it is written; in the translation tables it brings
SAFE (R449; spec/18_modes_power_thermal.md R531). -/
def uncorrectableWord (p : Nat) (r : MemReq) (s : State) : State :=
  let c := ctrlOf p
  let s := s.bump (if p % 2 = 0 then F.HBM_ECC_UNCORR_PC0 c else F.HBM_ECC_UNCORR_PC1 c)
  let s := (s.set (F.HBM_ECC_LAST_WORD c) (r.word % stackBytes / 32)).set (F.HBM_ECC_LAST_VALID c) 1
  let s := raiseWith (865 + 2 * c) 0 (match s.poolAt r.word with | some (k, o) => k * 2 ^ 35 + o | none => 0) s
  let s := s.poisonWord (r.word / 32)
  if s.inTables r.word then enterSafe 6 s else s

/-- A read word returns; ecc is 0 for a good word, 1 for a single-bit error, 2 for one that cannot be corrected. A word
that is already poisoned cannot be corrected. -/
def readServed (p ecc : Nat) (r : MemReq) (s : State) : State :=
  if ecc = 2 ∨ s.poison.contains (r.word / 32) then
    let (bs, s) := s.drawBytes 32
    uncorrectableWord p r (s.emit (.memory r.id bs true))
  else
    let s := s.emit (.memory r.id (s.memRead r.word 32) false)
    if ecc = 1 then correctedWord p r s else s

/-- The next read of pseudo-channel p returns (R439 to R442, R447). -/
def readReturn (p ecc : Nat) (s : State) : State :=
  if s.pcHeld p ∨ s.now < (s.pc p).busyUntil then s
  else
    match serveOne false p serveLimit s with
    | (none, s) => s
    | (some r, s) => orderLevel (ctrlOf p) (readServed p ecc r s)

/-- tREFI has passed since the last refresh of pseudo-channel p (R443). -/
def refreshDue (p : Nat) (s : State) : State :=
  if s.pcHeld p ∨ s.now < (s.pc p).lastRefresh + (s.pc p).refi then s else refreshPc p s

/-! ## Changing the data rate (R450 to R452) -/

/-- A write of HBM_FREQCTL of stack k. -/
def freqctlWrite (k : Nat) (v : Word) (s : State) : Res :=
  let t := wordField v (F.HBM_FREQCTL_TARGET k)
  if s.flag (F.HBM_FREQSTAT_ACTIVE k) then refuse .busy s
  else if ¬ (s.get (F.HBM_FREQSTAT_AVAIL k)).testBit t then refuse .value s
  else okay (rateCheck k (s.set (F.HBM_FREQCTL_TARGET k) t))

/-- The requests that a pseudo-channel has queued complete, reads and writes in their order (R452 step 2). -/
def completeQueued (p : Nat) : Nat → State → State
  | 0, s => s
  | n + 1, s =>
    match serveOne false p serveLimit s with
    | (some r, s) => completeQueued p n (readServed p 0 r s)
    | (none, s) =>
      match serveOne true p serveLimit s with
      | (some r, s) => completeQueued p n (writeServed r s)
      | (none, s) => s

/-- No push is in progress: after a FRAME_COMMIT and before the next FRAME_BEGIN, or the queue is not ARMED (R452). -/
def State.changeWindow (s : State) : Bool :=
  !s.armed 4 0 || (match s.panel.opened with | none => true | some o => o.committed)

/-- Steps 1 to 4 of R452 on stack k, where a change is pending and its window is open. -/
def freqStart (k : Nat) (s : State) : State :=
  match s.wantedRate k with
  | none => s
  | some r =>
    if ¬ s.flag (F.HBM_FREQSTAT_PENDING k) ∨ s.flag (F.HBM_FREQSTAT_ACTIVE k) ∨ ¬ s.changeWindow then s
    else
      let s := (s.set (F.HBM_FREQSTAT_ACTIVE k) 1).set (F.HBM_FREQSTAT_PENDING k) 0
      let s := s.setStack k { s.stack k with next := r, startedAt := s.now }
      let s := (stackPcs k).foldl (fun s p => orderLevel (ctrlOf p) (prechargeAll p (completeQueued p 2048 s))) s
      (stackCtrls k).foldl (fun s c => s.set (F.HBM_STATUS_SELFREF c) 1) s

/-- Steps 5 and 6 of R452 on stack k; a change that became pending follows at once. -/
def freqDone (k : Nat) (s : State) : State :=
  if ¬ s.flag (F.HBM_FREQSTAT_ACTIVE k) then s
  else
    let st := s.stack k
    let s := (stackCtrls k).foldl (fun s c =>
      (s.set (F.HBM_STATUS_SELFREF c) 0).set (F.HBM_STATUS_RATE c) st.next) s
    let s := ((s.set (F.HBM_FREQSTAT_ACTIVE k) 0).set (F.HBM_FREQSTAT_IN_FORCE k) st.next).set
      (F.HBM_FREQSTAT_CHANGES k) ((s.get (F.HBM_FREQSTAT_CHANGES k) + 1) % 65536)
    let s := startRefresh k (s.set (F.HBM_FREQTIME_DURATION_NS k) (min 65535 (s.now - st.startedAt)))
    freqStart k (rateCheck k ((stackPcs k).foldl (fun s p => takeInput p s) s))

/-! ## Commands -/

/-- HBM_REQUEST (R438). -/
def execHbmRequest (id : Nat) (write : Bool) (m : Nat) (data : List Byte) (s : State) : Host.Outcome State Fault Refusal :=
  whenLive s (memRequest id write m data)

/-- HBM_READ_RETURN (R447). -/
def execHbmReadReturn (pc : Fin 64) (ecc : Fin 3) (s : State) : Host.Outcome State Fault Refusal :=
  whenLive s (readReturn pc.val ecc.val)

/-- HBM_REFRESH_DUE (R443). -/
def execHbmRefreshDue (pc : Fin 64) (s : State) : Host.Outcome State Fault Refusal := whenLive s (refreshDue pc.val)

/-- HBM_WRITE_WAIT_EXPIRY (R441). -/
def execHbmWriteWaitExpiry (pc : Fin 64) (s : State) : Host.Outcome State Fault Refusal := whenLive s (writeWait pc.val)

/-- HBM_FREQCTL_WRITE (R450). -/
def execHbmFreqctlWrite (who : Requester) (stack : Fin 2) (value : Word) (s : State) : Host.Outcome State Fault Refusal :=
  whenLive s (request who (R.HBM_FREQCTL stack.val) (freqctlWrite stack.val value))

/-- HBM_FREQ_CHANGE_START (R452). -/
def execHbmFreqChangeStart (stack : Fin 2) (s : State) : Host.Outcome State Fault Refusal := whenLive s (freqStart stack.val)

/-- HBM_FREQ_CHANGE_DONE (R452). -/
def execHbmFreqChangeDone (stack : Fin 2) (s : State) : Host.Outcome State Fault Refusal := whenLive s (freqDone stack.val)

end Sys2Proof.Machine
end

