-- ==== Sys2Proof/Machine/SelfTest.lean ====
section
/-! DEFINITION. Loopbacks, memory tests, the golden-stream test and boundary scan (spec/20_test_identity.md R544 to R556). -/

namespace Sys2Proof.Machine

/-- CHIP_MODE.MODE is LOOPBACK_TEST (R544). -/
def State.testMode (s : State) : Bool := s.modeNow == 0xA

/-! ## Ethernet (R546 to R548) -/

/-- The port over which a requester writes (R548). -/
def State.writerPort (s : State) (who : Requester) : Option Nat :=
  match who with
  | .firmware => none
  | .session n => some (s.get (F.KCP_SESS_PORT n.val))

/-- A write of ETH_LOOP of port n (R544, R547, R548). -/
def ethLoopWrite (who : Requester) (n : Nat) (v : Word) (s : State) : Res :=
  let mode := wordField v (F.ETH_LOOP_MODE n)
  let len := wordField v (F.ETH_LOOP_FRAME_LEN n)
  let life := wordField v (F.ETH_LOOP_TIMEOUT_S n)
  if mode ≠ 0 ∧ ¬ s.testMode then refuse .mode s
  else if 5 ≤ mode ∨ life = 0 ∨ len < 64 ∨ 9600 < len then refuse .value s
  else if 1 ≤ mode ∧ mode ≤ 3 ∧ s.writerPort who = some n then refuse .inUse s
  else
    let s := ((s.set (F.ETH_LOOP_TIMEOUT_S n) life).set (F.ETH_LOOP_MODE n) mode).set (F.ETH_LOOP_FRAME_LEN n) len
    let s := s.set (F.ETH_LOOP_GEN_EN n) (wordField v (F.ETH_LOOP_GEN_EN n))
    let s := (upto 0 3).foldl (fun s k => s.set (F.ETH_LOOPCNT_COUNT n k) 0) s
    okay { s with ingest := { s.ingest with
      ports := tabPut {} s.ingest.ports n { tabGet {} s.ingest.ports n with loopAt := s.now } } }

/-- TIMEOUT_S has passed since MODE was written (R548). -/
def ethLoopTimeout (n : Nat) (s : State) : State :=
  if s.get (F.ETH_LOOP_MODE n) ≠ 0 ∧
      (tabGet {} s.ingest.ports n).loopAt + 1000000000 * s.get (F.ETH_LOOP_TIMEOUT_S n) ≤ s.now then ethLoopEnd n s
  else s

/-- A word of ETH_LOOPCNT0 to ETH_LOOPCNT2 of port n: the generator's frames return intact. -/
def loopCountWord (n k : Nat) (s : State) : Word :=
  if k < 2 ∧ s.loopFrames n ≠ 0 then BitVec.ofNat 32 (min 0xFFFFFFFF (s.loopFrames n)) else s.word (R.ETH_LOOPCNT n k)

/-! ## Lanes (R549 to R551) -/

/-- The lanes that a loopback mode of link n checks (R551). -/
def checkedLanes (n mode : Nat) : Nat :=
  if mode = 0 ∨ 5 ≤ mode then 0 else if n ≠ 0 then 8 else if mode = 4 then 4 else 96

/-- The transmitted lanes of link n carry the test pattern from now on in far-end mode, and nothing of their own in the others
(R550, R551). -/
def sendPattern (n mode : Nat) (s : State) : State :=
  let s := freshTx n false s
  if mode ≠ 4 then s
  else
    let s := s.setLink n { s.link n with tx := { pattern := some 127 } }
    beginPeriod n (s.link n).aseq (s.alignFlags n) none s

/-- A write of LNK_LOOP of link n (R544, R549). -/
def lnkLoopWrite (n : Nat) (v : Word) (s : State) : Res :=
  let mode := wordField v (F.LNK_LOOP_MODE n)
  let was := s.get (F.LNK_LOOP_MODE n)
  if mode ≠ 0 ∧ ¬ s.testMode then refuse .mode s
  else if 6 ≤ mode ∨ (mode = 5 ∧ n = 0) then refuse .value s
  else if mode ≠ 0 ∧ ¬ s.flag (F.LNK_CFG_ENABLE n) then refuse .state s
  else
    let s := (s.set (F.LNK_LOOP_BASE_LANE n) (wordField v (F.LNK_LOOP_BASE_LANE n))).set (F.LNK_LOOP_MODE n) mode
    let s := (s.setLink n { s.link n with checks := [] }).set (F.LNK_LOOPERR_SYNC n) 0
    if mode ≠ 0 then okay (sendPattern n mode (linkStop n s))
    else if was ≠ 0 then okay (linkStart n s)
    else okay s

/-- Every checked lane of link n holds SYNC (R550). -/
def State.laneSync (s : State) (n : Nat) : Bool :=
  let k := checkedLanes n (s.get (F.LNK_LOOP_MODE n))
  k != 0 && (upto 0 k).all (fun i => (tabGet {} (s.link n).checks i).sync)

/-- A data symbol of the test pattern on a lane: a checker takes it (R550), and a link in reflect mode sends it again on
transmit lane i (R551). -/
def patternSymbol (n i : Nat) (correct : Bool) (s : State) : State :=
  if s.get (F.LNK_LOOP_MODE n) = 5 ∧ i < 8 then s.emit (.laneSet n "REFLECT" i)
  else if checkedLanes n (s.get (F.LNK_LOOP_MODE n)) ≤ i then s
  else
    let u := s.link n
    let x := tabGet {} u.checks i
    let s := if ¬ correct ∧ s.laneSync n then s.bump (F.LNK_LOOPERR_ERRORS n) else s
    let y := if correct then { x with good := min 64 (x.good + 1), sync := x.sync || decide (64 ≤ x.good + 1) }
      else
        let bad := min 4 (x.bad + 1)
        { x with good := 0, bad := bad, sync := x.sync && decide (bad < 4) }
    let s := s.setLink n { u with checks := tabPut {} u.checks i y }
    s.set (F.LNK_LOOPERR_SYNC n) (bit (s.laneSync n))

/-! ## Memory (R552, R553) -/

/-- The stack of controller c is in self-refresh while a PHY loopback of one of its controllers runs (R546). -/
def loopSelfRefresh (k : Nat) (s : State) : State :=
  let on := (stackCtrls k).any (fun c => tabGet 0 s.mem.tests c == 1)
  (stackCtrls k).foldl (fun s c => s.set (F.HBM_STATUS_SELFREF c) (bit on)) s

/-- A write of HBM_TEST of controller c (R544, R552). -/
def hbmTestWrite (c : Nat) (v : Word) (s : State) : Res :=
  let op := wordField v (F.HBM_TEST_OP c)
  if op = 0 then okay s
  else if ¬ s.testMode then refuse .mode s
  else if ¬ s.kcp.paths.all (fun e => e.2.state == 0) then refuse .state s
  else if s.dec.selfTest ∨ s.get (F.HBM_TESTSTAT_RESULT c) = 1 then refuse .busy s
  else
    let s := s.setWord (R.HBM_TESTSTAT c) 1
    let s := { s with mem := { s.mem with tests := tabPut 0 s.mem.tests c op } }
    okay (if op = 1 then loopSelfRefresh (c / 16) s else s)

/-- The test of a controller ends with a result. -/
def testEnds (c : Nat) (passed : Bool) (s : State) : State :=
  let s := { s with mem := { s.mem with tests := tabErase s.mem.tests c } }
  s.set (F.HBM_TESTSTAT_RESULT c) (if passed then 2 else 3)

/-- HBM_LOOPBACK_TEST_DONE (R552). -/
def loopTestDone (c : Nat) (passed : Bool) (s : State) : State :=
  let op := tabGet 0 s.mem.tests c
  if op ≠ 1 ∧ op ≠ 2 then s
  else
    let s := testEnds c passed s
    if op = 2 then s
    else
      let k := c / 16
      let s := loopSelfRefresh k s
      if s.flag (F.HBM_STATUS_SELFREF c) then s
      else (stackPcs k).foldl (fun s p => takeInput p s) (startRefresh k s)

/-- The content of the memory behind controller c is lost (R553): it reads as unwritten memory. -/
def loseMemory (c : Nat) (s : State) : State :=
  { s with
    hbm := s.hbm.filter (fun e => ctrlOf (memPlace e.1).pc != c)
    poison := s.poison.filter (fun w => ctrlOf (memPlace (32 * w)).pc != c) }

/-- What the Q9 does when MBIST of a controller completes (R553). -/
def memoryLost (s : State) : State :=
  let s := clearSaves (emptyLog s)
  let s := (s.withConf { s.conf with map := [], whole := true, refUndefined := true, refPanel := [] }).set F.CONF_MAPSTATUS_SOURCE 0
  offerMap (if s.hasGeom then newMapping (storeMap s) else s)

/-- HBM_MBIST_DONE: MBIST ends, with the first failing pseudo-channel, bank and row (R553). -/
def mbistDone (c : Nat) (failure : Option (Nat × Nat × Nat)) (s : State) : State :=
  if tabGet 0 s.mem.tests c ≠ 3 then s
  else
    let s := testEnds c failure.isNone s
    let s := match failure with
      | some (pc, bank, row) =>
        ((s.set (F.HBM_TESTSTAT_FAIL_PC c) pc).set (F.HBM_TESTSTAT_FAIL_BANK c) bank).set (F.HBM_TESTSTAT_FAIL_ROW c) row
      | none => s
    memoryLost (loseMemory c s)

/-! ## The golden-stream test (R554, R555) -/

/-- A decode context serves a BOUND or ARMED stream. -/
def State.contextServes (s : State) : Bool :=
  (upto 0 64).any (fun st => 2 ≤ (s.path 1 st).state && (s.boundContext st).isSome)

/-- A write of DEC_SELFTEST (R544, R554). -/
def decSelftestWrite (v : Word) (s : State) : Res :=
  let id := wordField v F.DEC_SELFTEST_POOL_ID
  if wordField v F.DEC_SELFTEST_START = 0 then okay (s.set F.DEC_SELFTEST_POOL_ID id)
  else if ¬ s.testMode then refuse .mode s
  else if (match s.pool id with | some p => p.kind != 2 || decide (p.size < 4) | none => true) then refuse .pool s
  else if s.contextServes then refuse .state s
  else if s.testRuns then refuse .busy s
  else
    let s := (s.set F.DEC_SELFTEST_POOL_ID id).setWord R.DEC_SELFSTAT 1
    okay { s with dec := { s.dec with selfTest := true } }

/-- DEC_SELFTEST_DONE: the engines whose CRCs differ and the header parser's result (R555, R177, R182). -/
def decSelftestDone (fails : Nat) (hpFail : Bool) (s : State) : State :=
  if ¬ s.dec.selfTest then s
  else
    let inService := s.get F.DEC_STATUS_ENGINES
    let bad := fails &&& inService
    let s := { s with dec := { s.dec with selfTest := false } }
    let s := (s.set F.DEC_SELFSTAT_FAIL bad).set F.DEC_SELFSTAT_PASS (inService - bad)
    let s := (s.set F.DEC_SELFSTAT_HP_FAIL (bit hpFail)).set F.DEC_SELFSTAT_RESULT (if bad = 0 ∧ ¬ hpFail then 2 else 3)
    let s := (upto 0 8).foldl (fun s e =>
      if bad.testBit e then raise (208 + e) (s.set F.DEC_STATUS_ENGINES (s.get F.DEC_STATUS_ENGINES - 2 ^ e)) else s) s
    if hpFail then hpParity s else s

/-! ## Boundary scan (R556) -/

/-- IDCODE. -/
def idcode : Nat := 0x29140157

/-- The instruction as it acts: those that drive the balls act only while RESET_N is asserted. -/
def State.tapActs (s : State) : TapInstr :=
  match s.tap.instr with
  | .bypass => .bypass
  | .idcode => .idcode
  | .samplePreload => .samplePreload
  | i => if s.pins.inReset then i else .bypass

/-- The instruction scans the boundary cells. -/
def scansBoundary (i : TapInstr) : Bool :=
  i == .samplePreload || i == .extest || i == .extestPulse || i == .extestTrain

/-- What the boundary cells drive on the balls under an instruction. -/
def driveBalls (s : State) : State :=
  match s.tapActs with
  | .extest => s.emit (.balls (some s.tap.boundary))
  | .extestPulse => s.emit (.balls (some s.tap.boundary))
  | .extestTrain => s.emit (.balls (some s.tap.boundary))
  | .clamp => s.emit (.balls (some s.tap.boundary))
  | .highz => s.emit (.balls none)
  | _ => s

/-- The levels that the boundary cells capture: free bits, as the levels on the balls are no part of the model. -/
def captureCells (s : State) : List Bool × State :=
  let (bs, s) := s.drawBytes Config.boundaryCells
  (bs.map (fun b => b.getLsbD 0), s)

/-- A data scan: the selected register captures, shifts and, for the boundary cells, updates. -/
def tapScan (tdi : List Bool) (s : State) : State :=
  let i := s.tapActs
  let (held, s) :=
    if scansBoundary i then captureCells s
    else if i = .idcode then ((upto 0 32).map (fun k => idcode.testBit k), s)
    else ([false], s)
  let all := held ++ tdi
  let s := s.emit (.tap (all.take tdi.length))
  if scansBoundary i then driveBalls { s with tap := { s.tap with boundary := all.drop tdi.length } } else s

/-- TCK, TMS, TDI and TRST_N, in any mode and reset state (R556). -/
def tapOperation (op : TapOp) (s : State) : State :=
  match op with
  | .reset => { s with tap := { s.tap with instr := .idcode } }
  | .load i => driveBalls { s with tap := { s.tap with instr := i } }
  | .scan tdi => tapScan tdi s

/-! ## Commands -/

/-- ETH_LOOP_WRITE (R548). -/
def execEthLoopWrite (who : Requester) (port : Fin 4) (value : Word) (s : State) : Host.Outcome State Fault Refusal :=
  whenLive s (request who (R.ETH_LOOP port.val) (ethLoopWrite who port.val value))

/-- ETH_LOOP_TIMEOUT (R548). -/
def execEthLoopTimeout (port : Fin 4) (s : State) : Host.Outcome State Fault Refusal := whenLive s (ethLoopTimeout port.val)

/-- LNK_LOOP_WRITE (R549). -/
def execLnkLoopWrite (who : Requester) (link : Fin 5) (value : Word) (s : State) : Host.Outcome State Fault Refusal :=
  whenLive s (request who (R.LNK_LOOP link.val) (lnkLoopWrite link.val value))

/-- TEST_PATTERN_RECEIVE (R550). -/
def execTestPatternReceive (link : Fin 5) (lane : Fin 96) (correct : Bool) (s : State) : Host.Outcome State Fault Refusal :=
  whenLive s (patternSymbol link.val lane.val correct)

/-- HBM_PHY_LOOPBACK (R552). -/
def execHbmPhyLoopback (who : Requester) (controller : Fin 32) (s : State) : Host.Outcome State Fault Refusal :=
  whenLive s (request who (R.HBM_TEST controller.val) (hbmTestWrite controller.val 1))

/-- HBM_CTRL_LOOPBACK (R552). -/
def execHbmCtrlLoopback (who : Requester) (controller : Fin 32) (s : State) : Host.Outcome State Fault Refusal :=
  whenLive s (request who (R.HBM_TEST controller.val) (hbmTestWrite controller.val 2))

/-- HBM_LOOPBACK_TEST_DONE (R552). -/
def execHbmLoopbackTestDone (controller : Fin 32) (passed : Bool) (s : State) : Host.Outcome State Fault Refusal :=
  whenLive s (loopTestDone controller.val passed)

/-- HBM_MBIST (R553). -/
def execHbmMbist (who : Requester) (controller : Fin 32) (s : State) : Host.Outcome State Fault Refusal :=
  whenLive s (request who (R.HBM_TEST controller.val) (hbmTestWrite controller.val 3))

/-- HBM_MBIST_DONE (R553). -/
def execHbmMbistDone (controller : Fin 32) (failure : Option (Fin 2 × Fin 48 × Fin 16384)) (s : State) :
    Host.Outcome State Fault Refusal :=
  whenLive s (mbistDone controller.val (failure.map (fun f => (f.1.val, f.2.1.val, f.2.2.val))))

/-- DEC_SELFTEST_START (R554). -/
def execDecSelftestStart (who : Requester) (pool : Fin 64) (s : State) : Host.Outcome State Fault Refusal :=
  whenLive s (request who R.DEC_SELFTEST (decSelftestWrite (BitVec.ofNat 32 (256 * pool.val + 1))))

/-- DEC_SELFTEST_DONE (R555). -/
def execDecSelftestDone (fails : Fin 256) (headerParser : Bool) (s : State) : Host.Outcome State Fault Refusal :=
  whenLive s (decSelftestDone fails.val headerParser)

/-- TAP_OPERATION (R556). -/
def execTapOperation (op : TapOp) (s : State) : Host.Outcome State Fault Refusal := .next (tapOperation op s)

end Sys2Proof.Machine
end

