-- ==== Sys2Proof/Machine/RegBus.lean ====
section
/-! DEFINITION. The register bus: a read or a write of any register at any address, by access type and commit point
(spec/00_scope.md R6 to R17, R579; spec/03_control_kcp.md R124), and what each register's chapter adds. -/

namespace Sys2Proof.Machine

/-! ## Reading -/

/-- The _LO registers of 64-bit quantities that have no rule of their own (R10). -/
def pairLows : List Nat :=
  [R.TIME_RATE_LO, R.TIME_STEPAMT_LO, R.TIME_MASTER_LO, R.PQ_ENTLS_LO, R.XLAT_PROBE_LO, R.XLAT_PTE_LO, R.XLAT_FLT_ADDR_LO,
    R.ENC_DST_MAC_LO] ++ (upto 0 4).map R.ETH_MAC_LO ++ (upto 0 2).map R.PLK_COLOUR_LO ++ (upto 0 2).map R.PLK_BGCOLOUR_LO

/-- The registers that a read of a register captures (R10, R357, R371). -/
def captures (a : Nat) : List Nat :=
  if a = R.TIME_NOW_S_LO then [R.TIME_NOW_S_HI, R.TIME_NOW_NS, R.TIME_NOW_FRAC]
  else if a = R.PANEL_TES_LO then [R.PANEL_TES_HI, R.PANEL_TENS]
  else if pairLows.contains a then [a + 4]
  else []

/-- A register whose read returns the captured word (R579). -/
def isCaptured (a : Nat) : Bool :=
  a == R.TIME_NOW_S_HI || a == R.TIME_NOW_NS || a == R.TIME_NOW_FRAC || a == R.PANEL_TES_HI || a == R.PANEL_TENS ||
  (decide (4 ≤ a) && pairLows.contains (a - 4))

/-- A word of 32 bits given by a test of each. -/
def bitsWord (f : Nat → Bool) : Word := BitVec.ofNat 32 ((upto 0 32).foldl (fun acc i => if f i then acc + 2 ^ i else acc) 0)

/-- The lease entry that XLAT_LEASESEL selects. -/
def State.selectedLease (s : State) : Lease := s.lease (s.get F.XLAT_LEASESEL_LEASE)

/-- XLAT_LEASEINFO to XLAT_LEASELEN of the selected entry (spec/15_translation_preemption.md R460). -/
def leaseRead (a : Nat) (s : State) : Word :=
  let l := s.selectedLease
  BitVec.ofNat 32
    (if a = R.XLAT_LEASEINFO then l.gen % 65536 * 65536 + min 255 (s.holders (s.get F.XLAT_LEASESEL_LEASE)) * 256 + l.state
     else if a = R.XLAT_LEASEOWN then l.pool * 2 ^ 24 + l.owner * 256 + l.kind
     else if a = R.XLAT_LEASEBASE then l.base
     else l.len)

/-- The entry that PQ_ENTSEL selects: FREE where its handle is not in force (spec/11_time_presentation.md R388). -/
def State.selectedEntry (s : State) : FrameEntry :=
  let h := s.get F.PQ_ENTSEL_HANDLE
  if h < s.get F.CONF_FRAME_FRAMES_IN_FORCE then s.frame h else {}

/-- PQ_ENTINFO to PQ_ENTOV of the selected entry (spec/11_time_presentation.md R388). -/
def entryRead (a : Nat) (s : State) : Word :=
  let e := s.selectedEntry
  BitVec.ofNat 32
    (if e.state = 0 then 0
     else if a = R.PQ_ENTINFO then
       (if 3 ≤ e.state then e.frameNo else 0) * 65536 + bit e.launch.isNone * 32 + bit e.late * 16 + e.state
     else if a = R.PQ_ENTLS_LO then e.launch.getD 0 / 1000000000
     else if a = R.PQ_ENTLS_HI then e.launch.getD 0 / 1000000000 / 2 ^ 32
     else if a = R.PQ_ENTLNS then e.launch.getD 0 % 1000000000
     else e.buf1 % 65536 * 65536 + e.used % 65536)

/-- A word of the pool table (spec/14_hbm_controller.md R436). -/
def poolWord (n : Nat) (second : Bool) (s : State) : Word :=
  match s.pool n with
  | none => 0
  | some p => BitVec.ofNat 32 (if second then 256 + p.kind else p.size * 65536 + p.base)

/-- The word that a register reads as, captures apart: computed where state stands behind the register, else the word in
force (R12, R16). d is the register at address a, (i, j) its place in an array. -/
def peekReg (d : RegDesc) (i j a : Nat) (s : State) : Word :=
  let b := d.base
  if b = R.EVT_PEND 0 then bitsWord (fun k => s.isPending (32 * i + k))
  else if b = R.EVT_LEVEL 0 then levelWord i
  else if b = R.EVT_ASSERT then bitsWord (fun t => decide (t < 8) && s.asserted t)
  else if b = R.PATH_STATE 0 then pathStateWord i s
  else if b = R.ETH_MAC_LO 0 then BitVec.ofNat 32 (s.mac i)
  else if b = R.ETH_MAC_HI 0 then BitVec.ofNat 32 (s.mac i / 2 ^ 32 % 65536)
  else if b = R.DEC_SLOTINFO ∨ b = R.DEC_SLOTPOC ∨ b = R.DEC_SLOTCONC ∨ b = R.DEC_LAYERSTAT then decRead a s
  else if b = R.CONF_TFLUT 0 then tflutWord i s
  else if b = R.LNK_LANEINFO 0 then laneInfoWord 0 s
  else if b = R.LNK_LANEINFO 1 then laneInfoWord (i + 1) s
  else if b = R.LNK_LANEERR 0 then laneErrWord 0 s
  else if b = R.LNK_LANEERR 1 then laneErrWord (i + 1) s
  else if b = R.TIME_NOW_S_LO then BitVec.ofNat 32 s.seconds
  else if b = R.TIME_NOW_S_HI then BitVec.ofNat 32 (s.seconds / 2 ^ 32)
  else if b = R.TIME_NOW_NS then BitVec.ofNat 32 s.nanos
  else if b = R.TIME_NOW_FRAC then BitVec.ofNat 32 s.frac
  else if R.PQ_ENTINFO ≤ b ∧ b ≤ R.PQ_ENTOV then entryRead a s
  else if b = R.AFL_TILE_STATUS then
    BitVec.ofNat 32 (place (s.word a).toNat 7 4 (seenMask s))
  else if b = R.AFL_REMPEND then rempend s
  else if b = R.HBM_STATUS 0 then BitVec.ofNat 32 (place (s.word a).toNat 5 4 (tabGet 0 s.mode.stackBand (i / 16)))
  else if b = R.HBM_POOL_A 0 then poolWord i false s
  else if b = R.HBM_POOL_B 0 then poolWord i true s
  else if b = R.XLAT_CTX 0 then BitVec.ofNat 32 (place (s.word a).toNat 2 0 (s.ctxState i))
  else if R.XLAT_LEASEINFO ≤ b ∧ b ≤ R.XLAT_LEASELEN then leaseRead a s
  else if b = R.PWR_DOMAIN 0 then domainWord i s
  else if b = R.PWR_RBPT then rbptWord s
  else if b = R.ETH_LOOPCNT 0 0 then loopCountWord i j s
  else s.word a

/-- The word in force at an address; an unmapped one reads 0 (R8). -/
def peek (a : Nat) (s : State) : Word :=
  match regFind a with
  | none => 0
  | some (d, i, j) => peekReg d i j a s

/-- The RC fields of a register clear (R12, R14). -/
def clearRc (d : RegDesc) (i a : Nat) (s : State) : State :=
  if d.base = R.LNK_LANEERR 0 then laneErrClear 0 s
  else if d.base = R.LNK_LANEERR 1 then laneErrClear (i + 1) s
  else d.fields.foldl (fun s f => if f.access = .rc then s.set ⟨a, f.hi, f.lo⟩ 0 else s) s

/-- A read of a register: its status, its word, and the state after (R7, R8, R10, R12, R579). -/
def regRead (a : Nat) (s : State) : Status × Word × State :=
  if a % 4 ≠ 0 then (.align, 0, s)
  else match regFind a with
    | none => (.unmapped, 0, s)
    | some (d, i, j) =>
      if isCaptured a then (.ok, tabGet 0 s.captured a, s)
      else
        let w := peekReg d i j a s
        let held := (captures a).foldl (fun t c => tabPut 0 t c (peek c s)) s.captured
        (.ok, w, clearRc d i a { s with captured := held })

/-- A direct read request: a session must be open to read. -/
def readRequest (who : Requester) (a : Nat) (s : State) : State :=
  if s.privilege who = 0 then s.emit (.value who a 0 .privilege)
  else
    let r := regRead a s
    r.2.2.emit (.value who a r.2.1 r.1)

/-! ## Writing -/

/-- The bits of a register that a write can reach. -/
def writableMask (d : RegDesc) : Nat :=
  d.fields.foldl (fun m f =>
    if f.access = .ro ∨ f.access = .rc then m else m + (2 ^ (f.hi + 1 - f.lo) - 1) * 2 ^ f.lo) 0

/-- A value that the field's table entry refuses with VALUE, for the registers that no other rule checks. -/
def valueBad (d : RegDesc) (v : Nat) : Bool :=
  let b := d.base
  if b = R.KCP_IDLE then slice v 11 0 == 0 || decide (3600 < slice v 11 0)
  else if b = R.DEC_LAYERSEL then slice v 5 0 == 63
  else if b = R.HBM_CFG 0 then decide (slice v 3 0 < 6) || decide (12 < slice v 3 0)
  else if b = R.CARD_LYR_PARAM 0 then
    slice v 30 24 == 0 || decide (64 < slice v 30 24) || decide (16 < slice v 20 16) || slice v 7 6 == 3 || slice v 5 4 == 0 ||
    slice v 2 0 == 0 || decide (4 < slice v 2 0)
  else if b = R.CARD_LYR_SEAM 0 then decide (16 < slice v 4 0)
  else false

/-- A write of an immediate register sets its fields at once (R12, R15). -/
def immediateWrite (d : RegDesc) (a : Nat) (v : Word) (s : State) : Res :=
  let m := BitVec.ofNat 32 (writableMask d)
  if valueBad d v.toNat then refuse .value s else okay (s.setWord a ((s.word a &&& ~~~ m) ||| (v &&& m)))

/-- The window of R124 for a staged register of an object. -/
def State.stageWindow (s : State) (d : RegDesc) (a : Nat) : Bool :=
  match s.ownerOf a with
  | none => false
  | some (k, i) =>
    let st := (s.path k i).state
    if d.commit = .streamStart ∨ (bindAddrs k i).contains a then st == 1 || st == 2 else st != 0

/-- A write of a staged register of an object (R15 to R17, R124). -/
def stagedWrite (d : RegDesc) (a : Nat) (v : Word) (s : State) : Res :=
  if ¬ s.stageWindow d a then refuse .window s
  else if valueBad d v.toNat then refuse .value s
  else okay (s.stageWrite a v)

/-- A write of the _LO register of a pair holds its word (R10). -/
def holdLow (a : Nat) (v : Word) (s : State) : State := { s with heldLo := tabPut none s.heldLo a (some v) }

/-- The low word that a write of a _HI register applies: the one held, else the one in force (R10, R11). -/
def State.lowWord (s : State) (lo : Nat) : Word := (tabGet none s.heldLo lo).getD (s.word lo)

/-- A write of a _HI register applies both words, each through f; the held word is spent (R10, R11). -/
def applyPair (f : Nat → Word → State → Res) (hi : Nat) (v : Word) (s : State) : Res :=
  let lo := hi - 4
  let r := f hi v s
  if r.1 ≠ .ok then (r.1, s)
  else
    let q := f lo (s.lowWord lo) r.2
    if q.1 ≠ .ok then (q.1, s) else (.ok, { q.2 with heldLo := tabErase q.2.heldLo lo })

/-- A write of a _LO register that f would accept holds its word. -/
def holdPair (f : Nat → Word → State → Res) (lo : Nat) (v : Word) (s : State) : Res :=
  if (f lo v s).1 ≠ .ok then ((f lo v s).1, s) else okay (holdLow lo v s)

/-- The link whose register block holds address a: 0 the panel, k + 1 Afloth link k. -/
def linkAt (a : Nat) : Nat := if a < 0x700000 then 0 else (a - 0x700000) / 0x40 + 1

/-- A write of a register of a link (spec/09_serial_lanes.md, spec/20_test_identity.md). -/
def linkWrite (a : Nat) (v : Word) (s : State) : Res :=
  let n := linkAt a
  if a = R.LNK_CFG n then linkCfgWrite n v s
  else if a = R.LNK_CTRL n then linkCtrlWrite n v s
  else if a = R.LNK_LANESEL n then laneSelWrite n v s
  else if a = R.LNK_LOOP n then lnkLoopWrite n v s
  else okay s

/-- A write of a register of the event controller or the error log (spec/17_events_errors.md). -/
def eventWrite (who : Requester) (b i : Nat) (v : Word) (s : State) : Res :=
  if b = R.EVT_PEND 0 then evtPendClear i v s
  else if b = R.EVT_EN 0 then evtEnable i v s
  else if b = R.EVT_GRP 0 then evtGroup i v s
  else if b = R.EVT_CLAIM then evtClaim v s
  else if b = R.EVT_DONE then evtDone v s
  else if b = R.EVT_HOST 4 then evtHost who (4 + i) v s
  else if b = R.EVT_SWSET then evtSwset v s
  else if b = R.EVT_SWLEVEL then evtSwlevel v s
  else if b = R.ERRLOG_RD then errlogRd v s
  else errlogCfg v s

/-- A write of a register with a rule of its own: none where its access type and commit point say everything. d is the
register at address a, (i, j) its place in an array, v the value with reserved bits cleared, w the value as written. -/
def ownWrite (who : Requester) (d : RegDesc) (i j a : Nat) (v w : Word) (s : State) : Option Res :=
  let b := d.base
  if R.PLK_OP 0 ≤ b ∧ b ≤ R.PLK_WMARK 0 ∧ s.flag (F.PLK_STATUS_BUSY i) then some (refuse .busy s)
  else if b = R.GEOM_W 0 then some (geomWordWrite i v s)
  else if b = R.GEOM_CTRL then some (geomCtrlWrite v s)
  else if b = R.IMG_CTRL then some (imgCtrlWrite v s)
  else if b = R.RB_ROLE 0 then some (roleWrite i v s)
  else if b = R.RG_BLKCTRL 0 then some (okay (blkCtrlWrite i v.toNat s))
  else if b = R.PATH_CMD then some (pathCmdWrite v s)
  else if b = R.CHIP_MODEREQ then some (modeRequest who (wordField v F.CHIP_MODEREQ_MODE) s)
  else if b = R.ETH_CFG 0 then some (ethCfgWrite i v s)
  else if b = R.ETH_ROLE 0 then some (ethRoleWrite i v s)
  else if b = R.ETH_IP6_ 0 0 then some (ethIp6Write i j v s)
  else if b = R.ETH_LOOP 0 then some (ethLoopWrite who i v s)
  else if b = R.DEC_CFG then some (decCfgWrite v s)
  else if 0x200100 ≤ b ∧ b ≤ 0x20010C then some (decCtxWrite i a v s)
  else if b = R.DEC_SELFTEST then some (decSelftestWrite v s)
  else if b = R.CONF_STAGE then some (stagePoolWrite v s)
  else if isColourAddr a then some (colourWrite a w s)
  else if b = R.CONF_COLCTRL then some (colCtrlWrite v s)
  else if b = R.CONF_MAPSRC ∨ b = R.CONF_MAPOFF then some (mapSrcWrite a v s)
  else if b = R.CONF_MAPCTRL then some (mapCtrlWrite v s)
  else if b = R.PLK_COLOUR_LO 0 ∨ b = R.PLK_BGCOLOUR_LO 0 then some (holdPair (immediateWrite d) a v s)
  else if b = R.PLK_COLOUR_HI 0 ∨ b = R.PLK_BGCOLOUR_HI 0 then some (applyPair (immediateWrite d) a v s)
  else if b = R.PLK_CTRL 0 then some (plankCtrl i v s)
  else if b = R.OV_FRONT 0 then some (ovFrontWrite i v s)
  else if R.LNK_PRESET 0 ≤ b ∧ b ≤ R.LNK_PRESET 3 then some (presetWrite ((a - R.LNK_PRESET 0) / 4) v s)
  else if (R.LNK_CFG 0 ≤ b ∧ b < R.PANEL_CFG) ∨ (R.LNK_CFG 1 ≤ b ∧ b < R.AFL_TILE_CFG) then some (linkWrite a v s)
  else if b = R.PANEL_CFG then some (panelCfgWrite v s)
  else if b = R.PANEL_CTRL then some (panelCtrlWrite v s)
  else if b = R.TIME_CFG then some (timeCfgWrite v s)
  else if b = R.TIME_ASYM then some (timeAsymWrite v s)
  else if b = R.ENC_DST_MAC_LO then some (holdPair encWrite a v s)
  else if b = R.ENC_DST_MAC_HI then some (applyPair encWrite a v s)
  else if R.ENC_CFG ≤ b ∧ b ≤ R.ENC_DST_UDP then some (encWrite a v s)
  else if b = R.AFL_TILE_CFG then some (tileCfgWrite (s.linkWindow 1) v s)
  else if b = R.HBM_FREQCTL 0 then some (freqctlWrite i v s)
  else if b = R.HBM_TEST 0 then some (hbmTestWrite i v s)
  else if b = R.XLAT_RELEASE then some (xlatReleaseNow v s)
  else if b = R.XLAT_PROBE_LO then some (okay (holdLow a v s))
  else if b = R.XLAT_PROBE_HI then some (xlatProbe s.probeLo v s)
  else if b = R.FUL_CTRL 0 then some (fullerCtrl i v s)
  else if R.FUL_JOB 0 ≤ b ∧ b < R.FUL_CTRL 0 then some (fulJobWrite i a v s)
  else if R.EVT_PEND 0 ≤ b ∧ b ≤ R.ERRLOG_CFG then some (eventWrite who b i v s)
  else if b = R.THERM_CFG then some (thermCfgWrite v s)
  else if b = R.THERM_THROT then some (thermThrotWrite v s)
  else if b = R.SIZ_LEN then some (sizLenWrite v s)
  else if b = R.SIZ_CTRL then some (sizCtrlWrite who v s)
  else none

/-- A binding register that a write has staged outside a batch is noted for ARM (R121). -/
def noteStaged (a : Nat) (r : Res) : Res :=
  if r.1 = .ok ∧ r.2.kcp.shadow = none then (r.1, noteWritten a r.2) else r

/-- A write of a register that exists. -/
def mappedWrite (who : Requester) (d : RegDesc) (i j a : Nat) (w : Word) (s : State) : Res :=
  let m := writableMask d
  let v := w &&& BitVec.ofNat 32 m
  if m = 0 then okay s
  else noteStaged a (match ownWrite who d i j a v w s with
    | some r => r
    | none => if d.commit = .immediate then immediateWrite d a v s else stagedWrite d a v s)

/-- A write of a word at an address, privilege apart: alignment, then the map, then the register (R7, R8, R12, R15). -/
def regWrite (who : Requester) (a : Nat) (w : Word) (s : State) : Res :=
  if a % 4 ≠ 0 then refuse .align s
  else match regFind a with
    | none => refuse .unmapped s
    | some (d, i, j) => mappedWrite who d i j a w s

/-! ## The commands -/

/-- REGISTER_WRITE: a direct write; an access that is not 32 bits wide is refused (R7, R15). -/
def execRegisterWrite (who : Requester) (width addr : Nat) (value : Word) (s : State) : Host.Outcome State Fault Refusal :=
  whenLive s (request who addr (fun s => if width ≠ 32 then refuse .align s else regWrite who addr value s))

/-- READ_LO_CAPTURE (R10). -/
def execReadLoCapture (who : Requester) (addr : Nat) (s : State) : Host.Outcome State Fault Refusal :=
  whenLive s (readRequest who addr)

/-- WRITE_LO_HOLD (R10). -/
def execWriteLoHold (who : Requester) (addr : Nat) (value : Word) (s : State) : Host.Outcome State Fault Refusal :=
  whenLive s (request who addr (regWrite who addr value))

/-- WRITE_HI_APPLY (R10, R11). -/
def execWriteHiApply (who : Requester) (addr : Nat) (value : Word) (s : State) : Host.Outcome State Fault Refusal :=
  whenLive s (request who addr (regWrite who addr value))

/-- RC_COUNTER_READ (R14). -/
def execRcCounterRead (who : Requester) (addr : Nat) (s : State) : Host.Outcome State Fault Refusal :=
  whenLive s (readRequest who addr)

/-- TIME_NOW_CAPTURE (R371). -/
def execTimeNowCapture (who : Requester) (s : State) : Host.Outcome State Fault Refusal :=
  whenLive s (readRequest who R.TIME_NOW_S_LO)

/-- TE_STAMP_CAPTURE (R357). -/
def execTeStampCapture (who : Requester) (s : State) : Host.Outcome State Fault Refusal :=
  whenLive s (readRequest who R.PANEL_TES_LO)

end Sys2Proof.Machine
end

