-- ==== Sys2Proof/Machine/Kcp.lean ====
section
/-! DEFINITION. KCP: datagrams, sessions, sequence and retry, register access, batches, COMMIT and MODE requests
(spec/03_control_kcp.md R98 to R127, R584, R586, R587; spec/21_pins_startup.md R575). -/

namespace Sys2Proof.Machine

/-! ## Sessions -/

/-- A session behind its KCP_SESS register. -/
def State.session (s : State) (n : Nat) : Session := tabGet {} s.kcp.sessions n

/-- The state with a session replaced. -/
def State.setSession (s : State) (n : Nat) (x : Session) : State :=
  { s with kcp := { s.kcp with sessions := tabPut {} s.kcp.sessions n x } }

/-- KCP_SESSn.STATE: 0 closed, 1 opening, 2 open. -/
def State.sessionState (s : State) (n : Nat) : Nat := s.get (F.KCP_SESS_STATE n)

/-- The session slot that an identifier names (R102). -/
def State.slotNamed (s : State) (id : Nat) : Option Nat :=
  (upto 0 8).find? (fun n => s.sessionState n != 0 && (s.session n).id == id)

/-- The host event channels bound to a session. -/
def State.channelsOf (s : State) (n : Nat) : List Nat :=
  (upto 4 4).filter (fun t => s.flag (F.EVT_HOST_BIND t) && s.get (F.EVT_HOST_SESSION t) == n)

/-- A session closes (R108). DESIGN CHOICE: its held requests and its SYNCs that wait go without an answer, since the key
that would sign one is gone. -/
def closeSession (n : Nat) (s : State) : State :=
  let s := (s.channelsOf n).foldl (fun s t => unbindChannel t s) s
  let s := dropBulks n s
  ({ s with kcp := { s.kcp with sessions := tabErase s.kcp.sessions n } }).setWord (R.KCP_SESS n) 0

/-! ## Datagrams (R99, R102, R105) -/

/-- The 24 bytes of a header (R99). -/
def kcpHeader (magic version opcode id seq flags status length reserved : Nat) : List Byte :=
  leBytes magic 2 ++ leBytes version 1 ++ leBytes opcode 1 ++ leBytes id 4 ++ leBytes seq 4 ++ leBytes flags 2 ++
  leBytes status 2 ++ leBytes length 4 ++ leBytes reserved 4

/-- The AUTH_TAG under a session key (R105). -/
def kcpTag (key message : List Byte) : List Byte := (hmacSha256 key message).take 16

/-- The AUTH_TAG that a received datagram must carry. -/
def datagramTag (key : List Byte) (opcode : Nat) (d : KcpDatagram) : List Byte :=
  kcpTag key (kcpHeader d.magic d.version opcode d.sessionId d.seq d.flags d.status d.payloadLength d.reserved ++ d.payload)

/-- A datagram that the Q9 sends on a session. -/
def kcpSend (n port origin opcode seq flags : Nat) (st : Status) (payload : List Byte) (s : State) : State :=
  let x := s.session n
  let head := kcpHeader 0x434B 1 opcode x.id seq flags (statusCode st) payload.length 0
  sendOn port (.kcp port (s.vlanTag port) origin opcode x.id seq flags st payload (kcpTag x.key (head ++ payload))) s

/-- A response without a session: SESSION_ID 0, AUTH_TAG 0 (R102, R104, R107). -/
def bareAnswer (opcode : Nat) (st : Status) (d : KcpDatagram) (s : State) : State :=
  sendOn d.port.val (.kcp d.port.val (s.vlanTag d.port.val) d.origin opcode 0 d.seq 1 st [] (List.replicate 16 0)) s

/-- FLAGS bit 0: a response. -/
def isResponse (d : KcpDatagram) : Bool := d.flags % 2 == 1

/-- FLAGS bit 2: the session closes after the request. -/
def closesSession (d : KcpDatagram) : Bool := d.flags / 4 % 2 == 1 || d.seq == 0xFFFFFFFF

/-- The first check of R102: the datagram is malformed. -/
def malformed (limit : Nat) (d : KcpDatagram) : Bool :=
  decide (d.udpLength < 40) || d.magic != 0x434B || d.udpLength != 40 + d.payloadLength || d.payload.length != d.payloadLength ||
  decide (limit < d.payloadLength) || decide (8 ≤ d.flags) || d.reserved != 0 || (!(isResponse d) && d.status != 0)

/-! ## HELLO (R104 to R107) -/

/-- A non-zero identifier that no session uses, chosen by the Q9: free among those. -/
def State.newId (s : State) (draw : Nat) : Nat :=
  let used := (upto 0 8).map (fun n => (s.session n).id)
  (((upto 0 9).map (fun k => 1 + (draw + k) % (2 ^ 32 - 1))).find? (fun i => !used.contains i)).getD 1

/-- A HELLO that passes every check opens a session in the opening state. -/
def openSession (n slot maxPayload : Nat) (key : List Byte) (priv : Nat) (d : KcpDatagram) (s : State) : State :=
  let (nonce, s) := s.drawRandom 16
  let (x, s) := s.draw
  let id := s.newId x
  let sk := hmacSha256 key ([0x4B, 0x43, 0x50, 0x31] ++ (d.payload.drop 8).take 16 ++ nonce ++ leBytes id 4)
  let agreed := min maxPayload 8192
  let s := s.setSession n { id := id, maxPayload := agreed, key := sk, origin := d.origin, openedAt := s.now, lastValid := s.now }
  let s := ((s.set (F.KCP_SESS_PORT n) d.port.val).set (F.KCP_SESS_PRIV n) priv).set (F.KCP_SESS_KEY_SLOT n) slot
  let s := s.set (F.KCP_SESS_STATE n) 1
  kcpSend n d.port.val d.origin 1 d.seq 1 .ok
    (nonce ++ leBytes agreed 4 ++ leBytes (s.word R.CHIP_ID).toNat 4 ++ leBytes (s.word R.CHIP_REV).toNat 4 ++ leBytes priv 4) s

/-- A HELLO request. -/
def hello (d : KcpDatagram) (s : State) : State :=
  let slot := leAt d.payload 0 1
  let limit := leAt d.payload 4 4
  if d.version ≠ 1 then bareAnswer 1 .version d s
  else if d.payload.length ≠ 24 then bareAnswer 1 .length d s
  else match if slot < 4 then tabGet none s.fuses.hostKeys slot else none with
    | none => bareAnswer 1 .value d s
    | some (key, priv) =>
      if limit < 512 ∨ 8192 < limit ∨ d.seq ≠ 0 ∨ d.sessionId ≠ 0 ∨ ¬ allZero d.tag ∨ leAt d.payload 1 3 ≠ 0 then bareAnswer 1 .value d s
      else match (upto 0 8).find? (fun n => s.sessionState n == 0) with
        | none => bareAnswer 1 .sessionLimit d s
        | some n => openSession n slot limit key priv d s

/-! ## READ and WRITE (R113, R114, R586) -/

/-- The 8-byte head of a READ, WRITE or BATCH response. -/
def progress (done : Nat) (fail : Option Nat) : List Byte := leBytes done 2 ++ leBytes (fail.getD 0xFFFF) 2 ++ leBytes 0 4

/-- A refusal before any word or item. -/
def noProgress (st : Status) (s : State) : KcpAnswer := (st, progress 0 none, s)

/-- Words read from a, in ascending order; the read stops at the first failure, and an unmapped word counts. -/
def readWords (a done : Nat) : Nat → List Byte → State → KcpAnswer
  | 0, out, s => (.ok, progress done none ++ out, s)
  | k + 1, out, s =>
    let r := regRead a s
    if r.1 = .ok then readWords (a + 4) (done + 1) k (out ++ leBytes r.2.1.toNat 4) r.2.2
    else if r.1 = .unmapped then (.unmapped, progress (done + 1) (some done) ++ out ++ leBytes 0 4, r.2.2)
    else (r.1, progress done (some done) ++ out, r.2.2)

/-- Words written from a, in ascending order; the write stops at the first failure (R103, R114). -/
def writeWords (who : Requester) (a done : Nat) : List Word → State → KcpAnswer
  | [], s => (.ok, progress done none, s)
  | w :: t, s =>
    let r := permit who a (regWrite who a w) s
    if r.1 = .ok then writeWords who (a + 4) (done + 1) t r.2 else (r.1, progress done (some done), r.2)

/-- The checks that READ and WRITE share after the length (R586 steps 2 to 4). -/
def rangeCheck (payload : List Byte) (s : State) : Option KcpAnswer :=
  let n := leAt payload 4 2
  if leAt payload 6 2 ≠ 0 ∨ 1024 < n then some (noProgress .value s)
  else if n = 0 then some (noProgress .ok s)
  else if 2 ^ 32 < leAt payload 0 4 + 4 * n then some (noProgress .value s)
  else none

/-- A READ request. -/
def kcpRead (maxPayload : Nat) (payload : List Byte) (s : State) : KcpAnswer :=
  let n := leAt payload 4 2
  if payload.length ≠ 8 then noProgress .length s
  else match rangeCheck payload s with
    | some r => r
    | none => if maxPayload < 8 + 4 * n then noProgress .length s else readWords (leAt payload 0 4) 0 n [] s

/-- The k words of bytes. -/
def wordsOf (bs : List Byte) : Nat → List Word
  | 0 => []
  | k + 1 => BitVec.ofNat 32 (leAt bs 0 4) :: wordsOf (bs.drop 4) k

/-- A WRITE request. -/
def kcpWrite (who : Requester) (payload : List Byte) (s : State) : KcpAnswer :=
  let n := leAt payload 4 2
  if payload.length < 8 ∨ payload.length ≠ 8 + 4 * n then noProgress .length s
  else match rangeCheck payload s with
    | some r => r
    | none => writeWords who (leAt payload 0 4) 0 (wordsOf (payload.drop 8) n) s

/-! ## BATCH (R115 to R117, R587) -/

/-- One batch item. -/
structure BatchItem where
  op : Nat
  reserved : Nat
  addr : Nat
  value : Word
  mask : Word

/-- The k items of bytes. -/
def batchItems (bs : List Byte) : Nat → List BatchItem
  | 0 => []
  | k + 1 => ⟨leAt bs 0 1, leAt bs 1 3, leAt bs 4 4, BitVec.ofNat 32 (leAt bs 8 4), BitVec.ofNat 32 (leAt bs 12 4)⟩ ::
      batchItems (bs.drop 16) k

/-- The word that a masked write takes as old: of RB_ROLEn the roles with the held overrides, else as R115 says. -/
def State.maskedOld (s : State) (a : Nat) : Word :=
  if R.RB_ROLE 0 ≤ a ∧ a ≤ R.RB_ROLE 7 ∧ a % 4 = 0 then roleStaged ((a - R.RB_ROLE 0) / 4) s
  else if (s.kcp.shadow.getD []).any (fun e => e.1 == a) ∨ (s.stagedWord a).isSome then s.oldWord a
  else peek a s

/-- One item performed: status, the word of a read, and the state after. -/
def batchItem (who : Requester) (i : BatchItem) (s : State) : Status × List Byte × State :=
  if i.op = 1 then
    let r := regRead i.addr s
    (r.1, leBytes r.2.1.toNat 4, r.2.2)
  else if i.op = 2 then
    let r := permit who i.addr (regWrite who i.addr i.value) s
    (r.1, [], r.2)
  else if i.op = 3 then
    let v := (s.maskedOld i.addr &&& ~~~ i.mask) ||| (i.value &&& i.mask)
    let r := permit who i.addr (regWrite who i.addr v) s
    (r.1, [], r.2)
  else (.value, [], s)

/-- Items performed in order (R114, R116). -/
def runItems (who : Requester) (done : Nat) (out : List Byte) : List BatchItem → State → KcpAnswer
  | [], s => (.ok, progress done none ++ out, s)
  | i :: t, s =>
    let r := batchItem who i s
    if r.1 = .ok then runItems who (done + 1) (out ++ r.2.1) t r.2.2
    else if r.1 = .unmapped ∧ i.op = 1 then (.unmapped, progress (done + 1) (some done) ++ out ++ r.2.1, r.2.2)
    else (r.1, progress done (some done) ++ out, r.2.2)

/-- The first item that would fail in a state, with its status (R117). -/
def firstBad (who : Requester) (k : Nat) (s : State) : List BatchItem → Option (Status × Nat)
  | [] => none
  | i :: t =>
    let st := (batchItem who i s).1
    if st = .ok then firstBad who (k + 1) s t else some (st, k)

/-- The first item that an all-or-nothing batch must not hold (R117). -/
def firstIllegal (k : Nat) : List BatchItem → Option Nat
  | [] => none
  | i :: t =>
    if (i.op = 2 ∨ i.op = 3) ∧ (i.addr = R.CHIP_MODEREQ ∨ i.addr = R.IMG_CTRL ∨ i.addr = R.PATH_CMD) then some k
    else firstIllegal (k + 1) t

/-- A batch begins: its staged writes collect in a shadow (R116). -/
def openShadow (s : State) : State := { s with kcp := { s.kcp with shadow := some [] } }

/-- A batch ends: the shadow passes to the staged copies in one step (R116, R121). -/
def closeShadow (s : State) : State :=
  let ws := s.kcp.shadow.getD []
  let s := { s with kcp := { s.kcp with shadow := none } }
  let s := ws.foldl (fun s e => s.stage e.1 e.2) s
  ws.foldl (fun s e => noteWritten e.1 s) s

/-- A BATCH request. -/
def kcpBatch (who : Requester) (maxPayload : Nat) (payload : List Byte) (s : State) : KcpAnswer :=
  let n := leAt payload 0 2
  let flags := leAt payload 2 2
  if payload.length < 8 ∨ payload.length ≠ 8 + 16 * n then noProgress .length s
  else
    let items := batchItems (payload.drop 8) n
    if s.bootRefuses who ∧ items.any (fun i => i.op != 1) then noProgress .mode s
    else if 511 < n ∨ 1 < flags ∨ leAt payload 4 4 ≠ 0 then noProgress .value s
    else match items.findIdx? (fun i => i.reserved != 0) with
      | some k => (.value, progress 0 (some k), s)
      | none =>
        if n = 0 then noProgress .ok s
        else if maxPayload < 8 + 4 * (items.filter (fun i => i.op == 1)).length then noProgress .length s
        else if flags = 1 then
          match firstIllegal 0 items with
          | some k => (.batchIllegal, progress 0 (some k), s)
          | none =>
            match firstBad who 0 (openShadow s) items with
            | some (st, k) => (st, progress 0 (some k), s)
            | none =>
              let r := runItems who 0 [] items (openShadow s)
              (r.1, r.2.1, closeShadow r.2.2)
        else
          let r := runItems who 0 [] items (openShadow s)
          (r.1, r.2.1, closeShadow r.2.2)

/-! ## COMMIT and MODE (R126, R127) -/

/-- A COMMIT response: the object's state, and zeros in place of a fence time. -/
def commitAnswer (st : Status) (objectState : Nat) (s : State) : KcpAnswer := (st, leBytes objectState 20, s)

/-- STATE of a COMMIT response: that of the object that a payload of 4 bytes names, 0 for SYNC and where it names none. -/
def State.objectState (s : State) (payload : List Byte) : Nat :=
  if payload.length = 4 ∧ leAt payload 0 1 ≠ 7 ∧ (pathIds (leAt payload 1 1)).contains (leAt payload 2 1) then
    (s.path (leAt payload 1 1) (leAt payload 2 1)).state
  else 0

/-- A COMMIT request that is no SYNC. DESIGN CHOICE: PRIVILEGE goes before LENGTH. -/
def kcpCommit (priv : Nat) (payload : List Byte) (s : State) : KcpAnswer :=
  let kind := leAt payload 1 1
  let id := leAt payload 2 1
  let flags := leAt payload 3 1
  if priv < 2 then commitAnswer .privilege (s.objectState payload) s
  else if payload.length ≠ 4 then commitAnswer .length 0 s
  else if 1 < flags then commitAnswer .value (s.objectState payload) s
  else
    let r := pathAction (leAt payload 0 1) kind id (flags == 1) s
    commitAnswer r.1 (r.2.objectState payload) r.2

/-- A COMMIT SYNC that waits for its fence. -/
def isSync (priv opcode : Nat) (payload : List Byte) : Bool :=
  opcode == 6 && decide (2 ≤ priv) && payload.length == 4 && leAt payload 0 1 == 7 && decide (leAt payload 3 1 ≤ 1)

/-- A MODE request. DESIGN CHOICE: PRIVILEGE goes before LENGTH; the reserved bytes are not looked at. -/
def kcpMode (who : Requester) (payload : List Byte) (s : State) : KcpAnswer :=
  let answer := fun (r : Res) => (r.1, leBytes r.2.modeNow 4, r.2)
  if s.privilege who < 2 then answer (.privilege, s)
  else if payload.length ≠ 4 then answer (.length, s)
  else answer (modeRequest who (leAt payload 0 1) s)

/-! ## Execution (R100, R103, R106, R575) -/

/-- An AUTH request: it completes the opening. In a session that is open already it is answered with STATE. -/
def kcpAuth (n : Nat) (payload : List Byte) (s : State) : KcpAnswer :=
  if ¬ payload.isEmpty then plainAnswer .length s
  else if s.sessionState n = 1 then plainAnswer .ok (s.set (F.KCP_SESS_STATE n) 2)
  else plainAnswer .state s

/-- One request of session n is executed: what it answers. DESIGN CHOICE: EVENT, which only the Q9 requests, is no opcode of
a host's request and is answered with OPCODE. -/
def kcpExecute (n opcode : Nat) (d : KcpDatagram) (s : State) : KcpAnswer :=
  let who : Requester := .session (Fin.ofNat 8 n)
  let x := s.session n
  let priv := s.get (F.KCP_SESS_PRIV n)
  if opcode = 2 then kcpAuth n d.payload s
  else if opcode = 3 then kcpRead x.maxPayload d.payload s
  else if opcode = 5 then kcpBatch who x.maxPayload d.payload s
  else if opcode = 9 then bulkGet x.maxPayload d.payload s
  else if s.modeNow = 0x1 then
    (if opcode = 4 then noProgress .mode s
     else if opcode = 6 then commitAnswer .mode 0 s
     else if opcode = 10 then (.mode, leBytes s.modeNow 4, s)
     else plainAnswer .mode s)
  else if opcode = 4 then kcpWrite who d.payload s
  else if opcode = 6 then kcpCommit priv d.payload s
  else if opcode = 8 then bulkPut n priv x.maxPayload d.payload s
  else if opcode = 10 then kcpMode who d.payload s
  else plainAnswer .opcode s

/-! ## Sequence and retry (R109, R110, R584) -/

/-- A response is sent and kept among those of the last 16 executed requests. -/
def answerExecuted (n port origin opcode seq : Nat) (st : Status) (payload : List Byte) (s : State) : State :=
  let s := kcpSend n port origin opcode seq 1 st payload s
  let x := s.session n
  s.setSession n { x with cache := (⟨opcode, seq, st, payload⟩ :: x.cache).filter (fun r => decide (x.last < r.seq + 16)) }

/-- The next request in order is executed and answered; a COMMIT SYNC only begins to wait. A request that leaves its SEQ
unused (an AUTH with a payload, R106) is answered and not counted. -/
def executeRequest (n opcode : Nat) (d : KcpDatagram) (s : State) : State :=
  let x := s.session n
  if s.modeNow ≠ 0x1 ∧ isSync (s.get (F.KCP_SESS_PRIV n)) opcode d.payload then
    s.setSession n { x with last := d.seq, syncs := x.syncs ++ [⟨d.seq, s.now, d.port.val, d.origin, closesSession d⟩] }
  else
    let r := kcpExecute n opcode d s
    if opcode = 2 ∧ r.1 = .length ∧ s.sessionState n = 1 then kcpSend n d.port.val d.origin opcode d.seq 1 r.1 r.2.1 r.2.2
    else
      let s := r.2.2
      let s := s.setSession n { s.session n with last := d.seq }
      let s := answerExecuted n d.port.val d.origin opcode d.seq r.1 r.2.1 s
      if closesSession d then closeSession n s else s

/-- Held requests that now follow in order are executed. -/
def releaseHeld (n : Nat) : Nat → State → State
  | 0, s => s
  | k + 1, s =>
    let x := s.session n
    match if s.sessionState n = 0 then none else x.held.find? (fun h => h.datagram.seq == x.last + 1) with
    | none => s
    | some h =>
      let s := s.setSession n { x with held := x.held.filter (fun g => g.datagram.seq != h.datagram.seq) }
      releaseHeld n k (executeRequest n h.opcode h.datagram s)

/-- A request with SEQ d.seq of session n (R109, R584). -/
def sequence (n opcode : Nat) (d : KcpDatagram) (s : State) : State :=
  let x := s.session n
  if x.held.any (fun h => h.datagram.seq == d.seq) ∨ x.syncs.any (fun w => w.seq == d.seq) then s
  else if d.seq = x.last + 1 then releaseHeld n 16 (executeRequest n opcode d s)
  else if x.last + 2 ≤ d.seq ∧ d.seq ≤ x.last + 16 then
    s.setSession n { x with held := x.held ++ [⟨opcode, d, s.now + 20000000⟩] }
  else match if x.last < d.seq + 16 ∧ d.seq ≤ x.last then x.cache.find? (fun r => r.seq == d.seq) else none with
    | some r => kcpSend n d.port.val d.origin r.opcode d.seq 3 r.status r.payload s
    | none => kcpSend n d.port.val d.origin opcode d.seq 1 .staleSeq [] s

/-- A held request whose gap stayed open for 20 ms is answered with SEQ_GAP (R109). -/
def gapTimeout (n seq : Nat) (s : State) : State :=
  let x := s.session n
  match x.held.find? (fun h => h.datagram.seq == seq && decide (h.deadline ≤ s.now)) with
  | none => s
  | some h =>
    let s := s.setSession n { x with held := x.held.filter (fun g => g.datagram.seq != seq) }
    kcpSend n h.datagram.port.val h.datagram.origin h.opcode seq 1 .seqGap [] s

/-- A session whose opening or idle time has run out closes (R106, R107). -/
def openTimeout (n : Nat) (s : State) : State :=
  if s.sessionState n = 1 ∧ (s.session n).openedAt + 1000000000 ≤ s.now then closeSession n s else s

/-- A session that has received no valid request for KCP_IDLE.SECONDS closes (R107). -/
def idleTimeout (n : Nat) (s : State) : State :=
  if s.sessionState n = 2 ∧ (s.session n).lastValid + 1000000000 * s.get F.KCP_IDLE_SECONDS ≤ s.now then closeSession n s else s

/-! ## EVENT acknowledgements (R102, R111) -/

/-- The channel of session n with an EVENT of a SEQ in flight. -/
def State.flightChannel (s : State) (n seq : Nat) : Option Nat :=
  (s.channelsOf n).find? (fun t => match (tabGet {} s.kcp.channels t : HostChannel).flight with
    | some f => f.seq == seq
    | none => false)

/-- A response datagram: an acknowledgement, or discarded. -/
def eventAck (n opcode : Nat) (d : KcpDatagram) (s : State) : State :=
  match if opcode = 7 ∧ d.payloadLength = 0 ∧ d.status = 0 then s.flightChannel n d.seq else none with
  | none => s.bump F.KCP_DISCARD_COUNT
  | some t =>
    let c : HostChannel := tabGet {} s.kcp.channels t
    let seen := match c.flight with | some f => f.visible | none => []
    { s with kcp := { s.kcp with channels := tabPut {} s.kcp.channels t ⟨none, seen, some s.now⟩ } }

/-! ## Reception (R98, R102) -/

/-- A request of a session whose tag verifies. -/
def sessionRequest (n opcode : Nat) (d : KcpDatagram) (s : State) : State :=
  let x := s.session n
  let s := (s.setSession n { x with origin := d.origin, lastValid := s.now }).set (F.KCP_SESS_PORT n) d.port.val
  let s := x.held.foldl (fun s h => gapTimeout n h.datagram.seq s) s
  if d.version ≠ 1 then kcpSend n d.port.val d.origin opcode d.seq 1 .version [] s
  else sequence n opcode d s

/-- A datagram whose header is well formed. -/
def wellFormedDatagram (opcode : Nat) (d : KcpDatagram) (s : State) : State :=
  if opcode = 1 ∧ ¬ isResponse d then hello d s
  else match s.slotNamed d.sessionId with
    | none => s.bump F.KCP_AUTHFAIL_COUNT
    | some n =>
      if d.tag ≠ datagramTag (s.session n).key opcode d ∨ (s.sessionState n = 1 ∧ ¬ isResponse d ∧ opcode ≠ 2) then
        s.bump F.KCP_AUTHFAIL_COUNT
      else if isResponse d then eventAck n opcode d s
      else sessionRequest n opcode d s

/-- A datagram to UDP port 52161 of one of the port's addresses (R98, R102; spec/04_ethernet_ingest.md R138); the ports take
frames from step 5 of the boot (R575). Times that have run out count first. DESIGN CHOICE: where SESSION_ID names no session,
8,192 bounds PAYLOAD_LENGTH. -/
def kcpReceive (opcode : Nat) (d : KcpDatagram) (s : State) : State :=
  if s.pins.bootStep < 5 ∨ ¬ s.hasIp d.port.val d.dst then s
  else
    let s := (upto 0 8).foldl (fun s n => idleTimeout n (openTimeout n s)) s
    let limit := match s.slotNamed d.sessionId with
      | some n => (s.session n).maxPayload
      | none => 8192
    if malformed limit d then s.bump F.KCP_DISCARD_COUNT else wellFormedDatagram opcode d s

/-- A datagram on its port, where the port takes frames from the wire. -/
def kcpHeard (opcode : Nat) (d : KcpDatagram) (s : State) : State := heard d.port.val (kcpReceive opcode d) s

/-! ## SYNC answers (R126) -/

/-- The waiting SYNCs of session n that a test picks are answered. -/
def answerSyncs (n : Nat) (test : SyncWait → Bool) (st : Status) (payload : List Byte) (s : State) : State :=
  let picked := (s.session n).syncs.filter test
  let s := s.setSession n { s.session n with syncs := (s.session n).syncs.filter (fun w => !test w) }
  picked.foldl (fun s w =>
    if s.sessionState n = 0 then s
    else
      let s := answerExecuted n w.port w.origin 6 w.seq st payload s
      if w.close then closeSession n s else s) s

/-- A SYNC that has seen no fence within 1 s is answered with TIMEOUT (R126). -/
def syncTimeout (n seq : Nat) (s : State) : State :=
  answerSyncs n (fun w => w.seq == seq && decide (w.since + 1000000000 ≤ s.now)) .timeout (leBytes 0 20) s

/-- A presentation fence answers every waiting SYNC with its time (R126). -/
def syncFence (s : State) : State :=
  let payload := leBytes 0 4 ++ leBytes s.seconds 8 ++ leBytes s.nanos 4 ++ leBytes s.frac 4
  (upto 0 8).foldl (fun s n =>
    if (s.session n).syncs.isEmpty then s
    else answerSyncs n (fun _ => true) .ok payload ((s.session n).syncs.foldl (fun s w => syncTimeout n w.seq s) s)) s

/-! ## The commands -/

/-- HELLO (R104). -/
def execHello (d : KcpDatagram) (s : State) : Host.Outcome State Fault Refusal := whenLive s (kcpHeard 1 d)

/-- AUTH (R106). -/
def execAuth (d : KcpDatagram) (s : State) : Host.Outcome State Fault Refusal := whenLive s (kcpHeard 2 d)

/-- KCP_READ (R113). -/
def execKcpRead (d : KcpDatagram) (s : State) : Host.Outcome State Fault Refusal := whenLive s (kcpHeard 3 d)

/-- KCP_WRITE (R113). -/
def execKcpWrite (d : KcpDatagram) (s : State) : Host.Outcome State Fault Refusal := whenLive s (kcpHeard 4 d)

/-- KCP_BATCH (R115). -/
def execKcpBatch (d : KcpDatagram) (s : State) : Host.Outcome State Fault Refusal := whenLive s (kcpHeard 5 d)

/-- A lifecycle action: a COMMIT request executes what its payload says; a register source writes PATH_CMD. -/
def commitSource (src : Source) (action kind id : Nat) (withCascade : Bool) (s : State) : State :=
  match src with
  | .kcp d => kcpHeard 6 d s
  | .register who => request who R.PATH_CMD (pathAction action kind id withCascade) s

/-- DECLARE (R119). -/
def execDeclare (src : Source) (kind id : Nat) (s : State) : Host.Outcome State Fault Refusal :=
  whenLive s (commitSource src 1 kind id false)

/-- BIND (R120). -/
def execBind (src : Source) (kind id : Nat) (s : State) : Host.Outcome State Fault Refusal :=
  whenLive s (commitSource src 2 kind id false)

/-- ARM (R121). -/
def execArm (src : Source) (kind id : Nat) (s : State) : Host.Outcome State Fault Refusal :=
  whenLive s (commitSource src 3 kind id false)

/-- DISARM (R122). -/
def execDisarm (src : Source) (kind id : Nat) (cascade : Bool) (s : State) : Host.Outcome State Fault Refusal :=
  whenLive s (commitSource src 4 kind id cascade)

/-- UNBIND (R119). -/
def execUnbind (src : Source) (kind id : Nat) (s : State) : Host.Outcome State Fault Refusal :=
  whenLive s (commitSource src 5 kind id false)

/-- UNDECLARE (R119). -/
def execUndeclare (src : Source) (kind id : Nat) (s : State) : Host.Outcome State Fault Refusal :=
  whenLive s (commitSource src 6 kind id false)

/-- SYNC (R126). -/
def execSync (d : KcpDatagram) (s : State) : Host.Outcome State Fault Refusal := whenLive s (kcpHeard 6 d)

/-- SYNC_TIMEOUT (R126). -/
def execSyncTimeout (slot : Fin 8) (seq : Nat) (s : State) : Host.Outcome State Fault Refusal :=
  whenLive s (syncTimeout slot.val seq)

/-- UNKNOWN_OPCODE (R100). -/
def execUnknownOpcode (d : KcpDatagram) (opcode : Nat) (s : State) : Host.Outcome State Fault Refusal :=
  whenLive s (kcpHeard opcode d)

/-- MODE_REQUEST (R513, R127). -/
def execModeRequest (src : Source) (mode : Fin 16) (s : State) : Host.Outcome State Fault Refusal :=
  whenLive s (fun s => match src with
    | .kcp d => kcpHeard 10 d s
    | .register who => request who R.CHIP_MODEREQ (modeRequest who mode.val) s)

/-- BULK_PUT (R129). -/
def execBulkPut (d : KcpDatagram) (s : State) : Host.Outcome State Fault Refusal := whenLive s (kcpHeard 8 d)

/-- BULK_END (R130). -/
def execBulkEnd (d : KcpDatagram) (s : State) : Host.Outcome State Fault Refusal := whenLive s (kcpHeard 8 d)

/-- BULK_GET (R132). -/
def execBulkGet (d : KcpDatagram) (s : State) : Host.Outcome State Fault Refusal := whenLive s (kcpHeard 9 d)

/-- BULK_TIMEOUT (R130). -/
def execBulkTimeout (slot : Fin 8) (transfer : Nat) (s : State) : Host.Outcome State Fault Refusal :=
  whenLive s (bulkTimeout slot.val transfer)

/-- SESSION_OPEN_TIMEOUT (R106). -/
def execSessionOpenTimeout (slot : Fin 8) (s : State) : Host.Outcome State Fault Refusal := whenLive s (openTimeout slot.val)

/-- SESSION_IDLE_TIMEOUT (R107). -/
def execSessionIdleTimeout (slot : Fin 8) (s : State) : Host.Outcome State Fault Refusal := whenLive s (idleTimeout slot.val)

/-- SEQ_GAP_TIMEOUT (R109). -/
def execSeqGapTimeout (slot : Fin 8) (seq : Nat) (s : State) : Host.Outcome State Fault Refusal :=
  whenLive s (gapTimeout slot.val seq)

end Sys2Proof.Machine
end

