-- ==== Sys2Proof/Machine/HostEvents.lean ====
section
/-! DEFINITION. EVENT requests to the host event channels (spec/03_control_kcp.md R111; spec/17_events_errors.md R500,
R502). -/

namespace Sys2Proof.Machine

/-- A host event channel, target t = 4 to 7. -/
def State.channel (s : State) (t : Nat) : HostChannel := tabGet {} s.kcp.channels t

/-- The state with a channel replaced. -/
def State.setChannel (s : State) (t : Nat) (c : HostChannel) : State :=
  { s with kcp := { s.kcp with channels := tabPut {} s.kcp.channels t c } }

/-- The words of a snapshot for target t: those that hold any source whose ENABLE is 1 and whose group routes to t. -/
def State.maskWords (s : State) (t : Nat) : List Nat :=
  (upto 0 32).filter (fun w => (upto (32 * w) 32).any (fun src => s.isEnabled src && (s.targetsOf src).testBit t))

/-- The payload of an EVENT to target t (R111, R502). -/
def eventPayload (t : Nat) (s : State) : List Byte :=
  let ws := s.maskWords t
  leBytes t 4 ++ leBytes s.seconds 8 ++ leBytes s.nanos 4 ++ leBytes (ws.foldl (fun acc w => acc + 2 ^ w) 0) 4 ++
  ws.flatMap (fun w => leBytes (bitsWord (fun i => s.visibleTo (32 * w + i) t)).toNat 4)

/-- An EVENT to target t is sent on the session that the channel is bound to, with the next SEQ and the snapshot of now;
sends counts the sends in a row. -/
def sendEvent (t sends : Nat) (s : State) : State :=
  let n := s.get (F.EVT_HOST_SESSION t)
  let x := s.session n
  let seq := (x.eventSeq + 1) % 2 ^ 32
  let s := kcpSend n (s.get (F.KCP_SESS_PORT n)) x.origin 7 seq 0 .ok (eventPayload t s) s
  let s := s.setSession n { x with eventSeq := seq }
  s.setChannel t { s.channel t with flight := some ⟨seq, sends, s.now, s.visibleSet t⟩ }

/-- Channel t is bound to an open session and has no EVENT in flight. -/
def State.channelIdle (s : State) (t : Nat) : Bool :=
  s.flag (F.EVT_HOST_BIND t) && s.sessionState (s.get (F.EVT_HOST_SESSION t)) == 2 && (s.channel t).flight.isNone

/-- A source is visible to t that was not visible in the last snapshot that t acknowledged: an EVENT is sent (R502). -/
def eventNew (t : Nat) (s : State) : State :=
  if s.channelIdle t ∧ (s.visibleSet t).any (fun src => !(s.channel t).acked.contains src) then sendEvent t 1 s else s

/-- REPEAT_MS has passed since the last acknowledgement while t is asserted: an EVENT is sent (R502). -/
def eventRepeat (t : Nat) (s : State) : State :=
  let every := s.get (F.EVT_HOST_REPEAT_MS t)
  match (s.channel t).ackedAt with
  | none => s
  | some at_ =>
    if s.channelIdle t ∧ every ≠ 0 ∧ s.asserted t ∧ at_ + 1000000 * every ≤ s.now then sendEvent t 1 s else s

/-- An EVENT unacknowledged for 2 ms is sent anew; after the 8th send the session closes (R111). -/
def eventAgain (t : Nat) (s : State) : State :=
  match (s.channel t).flight with
  | none => s
  | some f =>
    if s.now < f.sentAt + 2000000 then s
    else if 8 ≤ f.sends then closeSession (s.get (F.EVT_HOST_SESSION t)) s
    else sendEvent t (f.sends + 1) s

/-! ## The commands -/

/-- EVENT_SEND (R502): channel 0 to 3 is target 4 to 7. -/
def execEventSend (channel : Fin 4) (s : State) : Host.Outcome State Fault Refusal := whenLive s (eventNew (4 + channel.val))

/-- EVENT_RETRANSMIT (R111). -/
def execEventRetransmit (channel : Fin 4) (s : State) : Host.Outcome State Fault Refusal :=
  whenLive s (eventAgain (4 + channel.val))

/-- EVENT_REPEAT (R502). -/
def execEventRepeat (channel : Fin 4) (s : State) : Host.Outcome State Fault Refusal :=
  whenLive s (eventRepeat (4 + channel.val))

/-- EVENT_ACK (R111). -/
def execEventAck (d : KcpDatagram) (s : State) : Host.Outcome State Fault Refusal := whenLive s (kcpHeard 7 d)

end Sys2Proof.Machine
end

