-- ==== Sys2Proof/Machine/Fence.lean ====
section
/-! DEFINITION. Presentation fences: the sampling instant, the rising TE edge, and what a STATUS brings
(spec/11_time_presentation.md R372 to R375; spec/10_panel_protocol.md R340, R351; spec/07_conformer.md R247, R256). -/

namespace Sys2Proof.Machine

/-- A fence can occur: the panel link is UP and TE_OK is 1 (R372). -/
def State.fencing (s : State) : Bool := s.linkUp 0 && s.teOk

/-- What a fence takes, in the order of spec/07_conformer.md R247 and R256: the descriptor, the map record, the host map, the
matrix record, the colour set, the front buffers, the staged words of the ARMED objects; then the sample map is built anew
where spec/12_confidence_encoder.md R395 asks. A map that a descriptor returns to all zero has its record offered at the
fence after (spec/19_sizing_records.md R542). -/
def takeFence (s : State) : State :=
  let before := s.geom
  let source := s.get F.CONF_MAPSTATUS_SOURCE
  let copy := s.conf.mapCopy
  let enc := s.encStaged
  let (took, s) := geomTake s
  let s := if took then capsRecheck s else s
  let zeroed := took && (before.hogelsX != s.geom.hogelsX || before.hogelsY != s.geom.hogelsY)
  let s := mapTake (takeMapRecord s)
  let s := if zeroed then offerMap s else s
  let s := colourTake (takeMatrixRecord s)
  let s := takeStaged (takeFronts s)
  let mapped := s.conf.mapCopy != copy || s.get F.CONF_MAPSTATUS_SOURCE != source
  if took || mapped || enc then encTrigger s.regs s else s

/-- F(E): the values of the coming edge are sampled once (R373, R375). -/
def fenceSample (s : State) : State :=
  match s.nextEdge with
  | some e =>
    if s.fencing ∧ ¬ s.panel.sampled ∧ s.sampleAt e ≤ s.q9 then takeFence (s.withPanel { s.panel with sampled := true }) else s
  | none => s

/-- A presentation fence passes at an edge (R372, R375): FENCE is raised, SYNCs are answered, leases and pictures follow. -/
def fencePasses (s : State) : State :=
  let s := fenceLeases (syncFence (raise 147 s))
  encFence s.q9 s

/-- TE_RISING_EDGE: an edge that comes before its sampling instant is sampled at the edge. -/
def teEdge (s : State) : State :=
  if s.fencing then fencePasses (teRise (if s.panel.sampled then s else takeFence s)) else teRise s

/-! ## The commands -/

/-- FENCE_SAMPLE (R373): at the same instant frames that have not been committed for the edge are found late (R383). -/
def execFenceSample (s : State) : Host.Outcome State Fault Refusal := whenLive s (fun s => lateAtSample (fenceSample s))

/-- TE_RISING_EDGE (R340). -/
def execTeRisingEdge (s : State) : Host.Outcome State Fault Refusal := whenLive s teEdge

/-- STATUS_FRAME_RECEIVE (R351): the return lanes carry frames while the link is UP; a panel that reports HOLDING lets a
stop that waits for it proceed (spec/18_modes_power_thermal.md R517). -/
def execStatusFrameReceive (frame : List Byte) (s : State) : Host.Outcome State Fault Refusal :=
  whenLive s (fun s => if s.linkUp 0 then panelStop (statusFrame frame (linkHeard 0 s)) else s)

end Sys2Proof.Machine
end

