-- ==== Sys2Proof/Machine/Dispatch.lean ====
section
/-! DEFINITION. One arm per command: a direct call of its meaning. -/

namespace Sys2Proof.Machine

/-- The effect of a command on everything but the queue. -/
def exec (i : Instr) (s : State) : Host.Outcome State Fault Refusal :=
  match i with
  | .registerWrite who width addr value => Sys2Proof.Machine.execRegisterWrite who width addr value s
  | .readLoCapture who addr => Sys2Proof.Machine.execReadLoCapture who addr s
  | .writeLoHold who addr value => Sys2Proof.Machine.execWriteLoHold who addr value s
  | .writeHiApply who addr value => Sys2Proof.Machine.execWriteHiApply who addr value s
  | .rcCounterRead who addr => Sys2Proof.Machine.execRcCounterRead who addr s
  | .timeNowCapture who => Sys2Proof.Machine.execTimeNowCapture who s
  | .teStampCapture who => Sys2Proof.Machine.execTeStampCapture who s
  | .geomWordWrite who word value => Sys2Proof.Machine.execGeomWordWrite who word value s
  | .geomArm who => Sys2Proof.Machine.execGeomArm who s
  | .geomDiscard who => Sys2Proof.Machine.execGeomDiscard who s
  | .cellParityError block hit => Sys2Proof.Machine.execCellParityError block hit s
  | .workItemWatchdog block cell => Sys2Proof.Machine.execWorkItemWatchdog block cell s
  | .workItemDispatch run => Sys2Proof.Machine.execWorkItemDispatch run s
  | .blockEccError block cell double => Sys2Proof.Machine.execBlockEccError block cell double s
  | .rgBlkctrlIsolate who region mask => Sys2Proof.Machine.execRgBlkctrlIsolate who region mask s
  | .sramEccError region kernelArea double block cell => Sys2Proof.Machine.execSramEccError region kernelArea double block cell s
  | .spareReady block => Sys2Proof.Machine.execSpareReady block s
  | .spareSwapped block => Sys2Proof.Machine.execSpareSwapped block s
  | .rmSilent region => Sys2Proof.Machine.execRmSilent region s
  | .rbRoleWrite who index value => Sys2Proof.Machine.execRbRoleWrite who index value s
  | .imageLoad who source => Sys2Proof.Machine.execImageLoad who source s
  | .imageValidationDone flashError selfTestFails => Sys2Proof.Machine.execImageValidationDone flashError selfTestFails s
  | .hello d => Sys2Proof.Machine.execHello d s
  | .auth d => Sys2Proof.Machine.execAuth d s
  | .kcpRead d => Sys2Proof.Machine.execKcpRead d s
  | .kcpWrite d => Sys2Proof.Machine.execKcpWrite d s
  | .kcpBatch d => Sys2Proof.Machine.execKcpBatch d s
  | .declare src kind id => Sys2Proof.Machine.execDeclare src kind id s
  | .bind src kind id => Sys2Proof.Machine.execBind src kind id s
  | .arm src kind id => Sys2Proof.Machine.execArm src kind id s
  | .disarm src kind id cascade => Sys2Proof.Machine.execDisarm src kind id cascade s
  | .unbind src kind id => Sys2Proof.Machine.execUnbind src kind id s
  | .undeclare src kind id => Sys2Proof.Machine.execUndeclare src kind id s
  | .sync d => Sys2Proof.Machine.execSync d s
  | .syncTimeout slot seq => Sys2Proof.Machine.execSyncTimeout slot seq s
  | .unknownOpcode d opcode => Sys2Proof.Machine.execUnknownOpcode d opcode s
  | .bulkPut d => Sys2Proof.Machine.execBulkPut d s
  | .bulkEnd d => Sys2Proof.Machine.execBulkEnd d s
  | .bulkGet d => Sys2Proof.Machine.execBulkGet d s
  | .bulkTimeout slot transfer => Sys2Proof.Machine.execBulkTimeout slot transfer s
  | .sessionOpenTimeout slot => Sys2Proof.Machine.execSessionOpenTimeout slot s
  | .sessionIdleTimeout slot => Sys2Proof.Machine.execSessionIdleTimeout slot s
  | .seqGapTimeout slot seq => Sys2Proof.Machine.execSeqGapTimeout slot seq s
  | .eventSend channel => Sys2Proof.Machine.execEventSend channel s
  | .eventRetransmit channel => Sys2Proof.Machine.execEventRetransmit channel s
  | .eventRepeat channel => Sys2Proof.Machine.execEventRepeat channel s
  | .eventAck d => Sys2Proof.Machine.execEventAck d s
  | .ethFrameReceive port frame => Sys2Proof.Machine.execEthFrameReceive port frame s
  | .pfcFrameReceive port mask quanta => Sys2Proof.Machine.execPfcFrameReceive port mask quanta s
  | .pfcXon port priority fill => Sys2Proof.Machine.execPfcXon port priority fill s
  | .addressRequestReply port request => Sys2Proof.Machine.execAddressRequestReply port request s
  | .ethLinkUp port => Sys2Proof.Machine.execEthLinkUp port s
  | .ethLinkDown port => Sys2Proof.Machine.execEthLinkDown port s
  | .primaryTimeout port => Sys2Proof.Machine.execPrimaryTimeout port s
  | .ethCfgWrite who port value => Sys2Proof.Machine.execEthCfgWrite who port value s
  | .ethRoleWrite who port value => Sys2Proof.Machine.execEthRoleWrite who port value s
  | .ethIp6Write who port value => Sys2Proof.Machine.execEthIp6Write who port value s
  | .battReceive port datagram => Sys2Proof.Machine.execBattReceive port datagram s
  | .unitDeadline stream => Sys2Proof.Machine.execUnitDeadline stream s
  | .unitRequest stream => Sys2Proof.Machine.execUnitRequest stream s
  | .nalUnitParse context nal bad => Sys2Proof.Machine.execNalUnitParse context nal bad s
  | .rowTaskDispatch past2 => Sys2Proof.Machine.execRowTaskDispatch past2 s
  | .rowTaskComplete engine result => Sys2Proof.Machine.execRowTaskComplete engine result s
  | .ctuConceal context slot ctu => Sys2Proof.Machine.execCtuConceal context slot ctu s
  | .slotWaitTimeout context => Sys2Proof.Machine.execSlotWaitTimeout context s
  | .decodeParityError engine => Sys2Proof.Machine.execDecodeParityError engine s
  | .hpParityError => Sys2Proof.Machine.execHpParityError s
  | .instantStart layer => Sys2Proof.Machine.execInstantStart layer s
  | .cardTileComplete block cell => Sys2Proof.Machine.execCardTileComplete block cell s
  | .seamWaitTimeout layer => Sys2Proof.Machine.execSeamWaitTimeout layer s
  | .mapArm who => Sys2Proof.Machine.execMapArm who s
  | .mapCheckDone => Sys2Proof.Machine.execMapCheckDone s
  | .mapDiscard who => Sys2Proof.Machine.execMapDiscard who s
  | .colourArm who => Sys2Proof.Machine.execColourArm who s
  | .colourDiscard who => Sys2Proof.Machine.execColourDiscard who s
  | .confStageWrite who value => Sys2Proof.Machine.execConfStageWrite who value s
  | .rayFrameStart => Sys2Proof.Machine.execRayFrameStart s
  | .confItemComplete block cell => Sys2Proof.Machine.execConfItemComplete block cell s
  | .plankStart who engine => Sys2Proof.Machine.execPlankStart who engine s
  | .plankAbort who engine => Sys2Proof.Machine.execPlankAbort who engine s
  | .plankBandComplete engine => Sys2Proof.Machine.execPlankBandComplete engine s
  | .ovFrontWrite who overlay value => Sys2Proof.Machine.execOvFrontWrite who overlay value s
  | .linkCfgWrite who link value => Sys2Proof.Machine.execLinkCfgWrite who link value s
  | .linkRetrain who link => Sys2Proof.Machine.execLinkRetrain who link s
  | .idleReceive link lane ordered => Sys2Proof.Machine.execIdleReceive link lane ordered s
  | .alignReceive link lane ordered skew train => Sys2Proof.Machine.execAlignReceive link lane ordered skew train s
  | .skipReceive link inserted deleted => Sys2Proof.Machine.execSkipReceive link inserted deleted s
  | .codeGroupError link lane group => Sys2Proof.Machine.execCodeGroupError link lane group s
  | .signalDetectRise link lane => Sys2Proof.Machine.execSignalDetectRise link lane s
  | .signalDetectFall link lane => Sys2Proof.Machine.execSignalDetectFall link lane s
  | .attemptTimeout link => Sys2Proof.Machine.execAttemptTimeout link s
  | .backoffEnd link => Sys2Proof.Machine.execBackoffEnd link s
  | .stepEchoTimeout link => Sys2Proof.Machine.execStepEchoTimeout link s
  | .silentEnd link => Sys2Proof.Machine.execSilentEnd link s
  | .lanePeriodStart link => Sys2Proof.Machine.execLanePeriodStart link s
  | .idleTrainDue link => Sys2Proof.Machine.execIdleTrainDue link s
  | .adaptFreeze link lane => Sys2Proof.Machine.execAdaptFreeze link lane s
  | .lnkPresetWrite who n value => Sys2Proof.Machine.execLnkPresetWrite who n value s
  | .teRisingEdge => Sys2Proof.Machine.execTeRisingEdge s
  | .teFallingEdge => Sys2Proof.Machine.execTeFallingEdge s
  | .teTimeout => Sys2Proof.Machine.execTeTimeout s
  | .fenceSample => Sys2Proof.Machine.execFenceSample s
  | .buildDeadline => Sys2Proof.Machine.execBuildDeadline s
  | .frameBeginSend => Sys2Proof.Machine.execFrameBeginSend s
  | .regionPushStart feed => Sys2Proof.Machine.execRegionPushStart feed s
  | .pushUnderrun => Sys2Proof.Machine.execPushUnderrun s
  | .frameCommitSend => Sys2Proof.Machine.execFrameCommitSend s
  | .statusFrameReceive frame => Sys2Proof.Machine.execStatusFrameReceive frame s
  | .capsFrameReceive frame => Sys2Proof.Machine.execCapsFrameReceive frame s
  | .capQueryRetry => Sys2Proof.Machine.execCapQueryRetry s
  | .panelQuery who => Sys2Proof.Machine.execPanelQuery who s
  | .statusLost => Sys2Proof.Machine.execStatusLost s
  | .abortStatusTimeout => Sys2Proof.Machine.execAbortStatusTimeout s
  | .holdWaitTimeout => Sys2Proof.Machine.execHoldWaitTimeout s
  | .ptpAnnounceReceive h grandmaster stepsRemoved => Sys2Proof.Machine.execPtpAnnounceReceive h grandmaster stepsRemoved s
  | .ptpSyncReceive h twoStep seconds ns correction => Sys2Proof.Machine.execPtpSyncReceive h twoStep seconds ns correction s
  | .ptpFollowUpReceive h seconds ns correction => Sys2Proof.Machine.execPtpFollowUpReceive h seconds ns correction s
  | .ptpDelayRespReceive h clock portNumber seconds ns correction => Sys2Proof.Machine.execPtpDelayRespReceive h clock portNumber seconds ns correction s
  | .delayReqSend => Sys2Proof.Machine.execDelayReqSend s
  | .announceTimeout => Sys2Proof.Machine.execAnnounceTimeout s
  | .ptpManagementReceive h => Sys2Proof.Machine.execPtpManagementReceive h s
  | .sampleMapBuilt => Sys2Proof.Machine.execSampleMapBuilt s
  | .encRowComplete bits bytes => Sys2Proof.Machine.execEncRowComplete bits bytes s
  | .encBattSend => Sys2Proof.Machine.execEncBattSend s
  | .aflHelloReceive link codeError frame => Sys2Proof.Machine.execAflHelloReceive link codeError frame s
  | .aflPlanReceive link codeError frame => Sys2Proof.Machine.execAflPlanReceive link codeError frame s
  | .goCommit link codeError frame => Sys2Proof.Machine.execGoCommit link codeError frame s
  | .goDefer link codeError frame => Sys2Proof.Machine.execGoDefer link codeError frame s
  | .goForce link codeError frame => Sys2Proof.Machine.execGoForce link codeError frame s
  | .aflDoneReceive link codeError frame => Sys2Proof.Machine.execAflDoneReceive link codeError frame s
  | .aflEventReceive link codeError frame => Sys2Proof.Machine.execAflEventReceive link codeError frame s
  | .aflSeamReceive link codeError frame => Sys2Proof.Machine.execAflSeamReceive link codeError frame s
  | .aflHelloSend => Sys2Proof.Machine.execAflHelloSend s
  | .aflLossTimeout device => Sys2Proof.Machine.execAflLossTimeout device s
  | .aflGoSend => Sys2Proof.Machine.execAflGoSend s
  | .aflEventSend => Sys2Proof.Machine.execAflEventSend s
  | .hbmRequest id write m data => Sys2Proof.Machine.execHbmRequest id write m data s
  | .hbmReadReturn pc ecc => Sys2Proof.Machine.execHbmReadReturn pc ecc s
  | .hbmRefreshDue pc => Sys2Proof.Machine.execHbmRefreshDue pc s
  | .hbmFreqctlWrite who stack value => Sys2Proof.Machine.execHbmFreqctlWrite who stack value s
  | .hbmFreqChangeStart stack => Sys2Proof.Machine.execHbmFreqChangeStart stack s
  | .hbmFreqChangeDone stack => Sys2Proof.Machine.execHbmFreqChangeDone stack s
  | .xlatRequest ctx ca write lease block cell => Sys2Proof.Machine.execXlatRequest ctx ca write lease block cell s
  | .xlatRelease who value => Sys2Proof.Machine.execXlatRelease who value s
  | .forcedReleaseDrained => Sys2Proof.Machine.execForcedReleaseDrained s
  | .leaseReleaseComplete entry => Sys2Proof.Machine.execLeaseReleaseComplete entry s
  | .xlatProbe who value => Sys2Proof.Machine.execXlatProbe who value s
  | .engineResume context => Sys2Proof.Machine.execEngineResume context s
  | .fullerStart who engine => Sys2Proof.Machine.execFullerStart who engine s
  | .fullerAbort who engine => Sys2Proof.Machine.execFullerAbort who engine s
  | .fullerBlockDone engine => Sys2Proof.Machine.execFullerBlockDone engine s
  | .evtClaim who value => Sys2Proof.Machine.execEvtClaim who value s
  | .evtDone who value => Sys2Proof.Machine.execEvtDone who value s
  | .evtPendClear who word value => Sys2Proof.Machine.execEvtPendClear who word value s
  | .evtSwset who value => Sys2Proof.Machine.execEvtSwset who value s
  | .evtSwlevel who value => Sys2Proof.Machine.execEvtSwlevel who value s
  | .evtHostWrite who channel value => Sys2Proof.Machine.execEvtHostWrite who channel value s
  | .holdoffWindowEnd group => Sys2Proof.Machine.execHoldoffWindowEnd group s
  | .errlogEntryWrite => Sys2Proof.Machine.execErrlogEntryWrite s
  | .errlogRdWrite who value => Sys2Proof.Machine.execErrlogRdWrite who value s
  | .modeRequest src mode => Sys2Proof.Machine.execModeRequest src mode s
  | .modeTransitionComplete => Sys2Proof.Machine.execModeTransitionComplete s
  | .housekeepingRound readings railWarn railFault => Sys2Proof.Machine.execHousekeepingRound readings railWarn railFault s
  | .fastSensorRead readings => Sys2Proof.Machine.execFastSensorRead readings s
  | .dvfsChangeDone block => Sys2Proof.Machine.execDvfsChangeDone block s
  | .sizingStage who => Sys2Proof.Machine.execSizingStage who s
  | .sizingWrite who => Sys2Proof.Machine.execSizingWrite who s
  | .sizingDiscard who => Sys2Proof.Machine.execSizingDiscard who s
  | .sizingStageDone => Sys2Proof.Machine.execSizingStageDone s
  | .sizingWriteDone agrees => Sys2Proof.Machine.execSizingWriteDone agrees s
  | .ethLoopWrite who port value => Sys2Proof.Machine.execEthLoopWrite who port value s
  | .ethLoopTimeout port => Sys2Proof.Machine.execEthLoopTimeout port s
  | .lnkLoopWrite who link value => Sys2Proof.Machine.execLnkLoopWrite who link value s
  | .hbmPhyLoopback who controller => Sys2Proof.Machine.execHbmPhyLoopback who controller s
  | .hbmCtrlLoopback who controller => Sys2Proof.Machine.execHbmCtrlLoopback who controller s
  | .hbmMbist who controller => Sys2Proof.Machine.execHbmMbist who controller s
  | .hbmMbistDone controller failure => Sys2Proof.Machine.execHbmMbistDone controller failure s
  | .decSelftestStart who pool => Sys2Proof.Machine.execDecSelftestStart who pool s
  | .decSelftestDone fails headerParser => Sys2Proof.Machine.execDecSelftestDone fails headerParser s
  | .resetAssert lowNs => Sys2Proof.Machine.execResetAssert lowNs s
  | .resetRelease tileId flashSdr testEn sfdp trains0 trains1 => Sys2Proof.Machine.execResetRelease tileId flashSdr testEn sfdp trains0 trains1 s
  | .refclkSysLoss => Sys2Proof.Machine.execRefclkSysLoss s
  | .refclkSysReturn tileId flashSdr testEn sfdp trains0 trains1 => Sys2Proof.Machine.execRefclkSysReturn tileId flashSdr testEn sfdp trains0 trains1 s
  | .alignMissing link lane => Sys2Proof.Machine.execAlignMissing link lane s
  | .trainingPhaseEnd link => Sys2Proof.Machine.execTrainingPhaseEnd link s
  | .refclkLaneLoss => Sys2Proof.Machine.execRefclkLaneLoss s
  | .hbmWriteWaitExpiry pc => Sys2Proof.Machine.execHbmWriteWaitExpiry pc s
  | .testPatternReceive link lane correct => Sys2Proof.Machine.execTestPatternReceive link lane correct s
  | .hbmLoopbackTestDone controller passed => Sys2Proof.Machine.execHbmLoopbackTestDone controller passed s
  | .powerDomainUp domain => Sys2Proof.Machine.execPowerDomainUp domain s
  | .ccRestart core => Sys2Proof.Machine.execCcRestart core s
  | .controlCoreMemoryError => Sys2Proof.Machine.execControlCoreMemoryError s
  | .tapOperation op => Sys2Proof.Machine.execTapOperation op s

end Sys2Proof.Machine
end

