-- ==== Sys2Proof/Safety.lean ====
section
/-! DEFINITION. What counts as a well-kept state and a safe outcome, and the relations between the state before a command
and the state after it, in the terms that claims use. -/

namespace Sys2Proof.Machine

/-- The register file is in canonical form: addresses strictly rising, no word listed that equals its reset value. -/
def State.regsWf (s : State) : Bool := tabWf regReset s.regs

/-- The register file and every memory are in canonical form, so that equal contents are equal data. -/
def State.wf (s : State) : Bool := s.regsWf && s.memWf

/-- An outcome is a next state that p holds of: neither a fault nor a refusal. -/
def Completes (o : Host.Outcome State Fault Refusal) (p : State → Prop) : Prop := ∃ t, o = .next t ∧ p t

/-- A state reached by n steps from another, none of which stopped. -/
def Reaches (s : State) (n : Nat) (t : State) : Prop := Sys2Proof.core.run n s = .next t

/-- A requester may write the register at addr: the Q9 runs, BOOT does not refuse it, and its privilege is enough
(spec/03_control_kcp.md R103, spec/21_pins_startup.md R575). -/
abbrev Permitted (who : Requester) (addr : Nat) (s : State) : Prop :=
  live s = true ∧ s.bootRefuses who = false ∧ writePrivilege addr ≤ s.privilege who

/-- The addresses of the event controller and of the error log (spec/17_events_errors.md R511). -/
def evtAddr (a : Nat) : Bool := decide ((0x20000 ≤ a ∧ a < 0x20800) ∨ (0x30000 ≤ a ∧ a < 0x30024))

/-- Only words of the event controller and the error log, and what stands behind them, differ. -/
structure EvtOnly (s t : State) : Prop where
  rest : t = { s with regs := t.regs, evt := t.evt }
  word : ∀ a, evtAddr a = false → t.word a = s.word a

/-- Every byte of every memory reads as before: in-package memory with its poison, flash and region SRAM. -/
structure SameMemory (s t : State) : Prop where
  hbm : ∀ a, cellGet ramBlank t.hbm a = cellGet ramBlank s.hbm a
  poison : t.poison = s.poison
  flash : ∀ a, cellGet flashBlank t.flash a = cellGet flashBlank s.flash a
  sram : ∀ a, cellGet ramBlank t.sram a = cellGet ramBlank s.sram a

/-- No session's opening or idle time has run out (spec/03_control_kcp.md R106, R107). -/
def State.sessionsFresh (s : State) : Prop :=
  ∀ m, m < 8 →
    ¬ (s.sessionState m = 1 ∧ (s.session m).openedAt + 1000000000 ≤ s.now) ∧
    ¬ (s.sessionState m = 2 ∧ (s.session m).lastValid + 1000000000 * s.get F.KCP_IDLE_SECONDS ≤ s.now)

/-- A datagram arrives on a port that takes frames, and nothing has run out. -/
structure Heard (s : State) (d : KcpDatagram) : Prop where
  running : live s = true
  started : 5 ≤ s.pins.bootStep
  addressed : s.hasIp d.port.val d.dst = true
  hears : s.portDeaf d.port.val = false
  fresh : s.sessionsFresh

/-- A well-formed request with a verified tag reaches session n (R102). -/
structure ReachesSession (s : State) (n opcode : Nat) (d : KcpDatagram) : Prop extends Heard s d where
  slot : n < 8
  named : s.slotNamed d.sessionId = some n
  form : malformed (s.session n).maxPayload d = false
  request : isResponse d = false
  tag : d.tag = datagramTag (s.session n).key opcode d

/-- The next request of an open session with no request held and no SYNC waiting, outside BOOT (R109). -/
structure NextRequest (s : State) (n opcode : Nat) (d : KcpDatagram) : Prop extends ReachesSession s n opcode d where
  mode : s.modeNow ≠ 0x1
  opened : s.sessionState n = 2
  version : d.version = 1
  next : d.seq = (s.session n).last + 1
  idle : (s.session n).held = [] ∧ (s.session n).syncs = []
  stays : closesSession d = false

/-- The session has noted where the request came from (R98, R107). -/
def State.noted (s : State) (n : Nat) (d : KcpDatagram) : State :=
  (s.setSession n { s.session n with origin := d.origin, lastValid := s.now }).set (F.KCP_SESS_PORT n) d.port.val

/-- From s to t port n sends one frame with a datagram, tagged as its ETH_CFG says, at once or when its partner's pause ends
(spec/04_ethernet_ingest.md R136, R137). -/
def Sends (s t : State) (n : Nat) (datagram : Option Nat → Output) : Prop :=
  t.out = (sendOn n (datagram (s.vlanTag n)) s).out ∧ t.ingest = (sendOn n (datagram (s.vlanTag n)) s).ingest

/-- From s to t the one answer that leaves is the response of session n to a request. -/
def Responds (s t : State) (n opcode : Nat) (d : KcpDatagram) (st : Status) (payload : List Byte) : Prop :=
  ∃ tag, Sends s t d.port.val (fun v => .kcp d.port.val v d.origin opcode (s.session n).id d.seq 1 st payload tag)

/-- A good frame arrives on Afloth link k of a tiled panel: the link is UP and in no wiring fault, and the frame is newer than
the last of its ORIGIN and TYPE (spec/13_afloth_tiling.md R418, R419, R421). -/
structure AflHeard (s : State) (k : Fin 4) (frame : List Byte) (x : AflFrame) : Prop where
  running : live s = true
  tiled : s.tiled = true
  up : s.linkUp (k.val + 1) = true
  wired : (s.get F.AFL_TILE_STATUS_WIRING).testBit k.val = false
  good : aflParse frame = some x
  newer : ∀ n, tabGet none s.afl.seen (16 * x.origin + x.type) = some n → newerThan x.seq n = true

/-- A register that a read answers with its word and leaves as it is. -/
def plainRegister (a : Nat) : Bool :=
  match regFind a with
  | none => false
  | some (d, _, _) => a % 4 == 0 && !isCaptured a && (captures a).isEmpty && d.fields.all (fun f => f.access != .rc) &&
      d.base != R.LNK_LANEERR 0 && d.base != R.LNK_LANEERR 1

/-- The bits of the register at an address that a write can reach: none where no register lies. -/
def writeBits (addr : Nat) : Word :=
  match regFind addr with
  | some (d, _, _) => BitVec.ofNat 32 (writableMask d)
  | none => 0

/-- The commands that act while the Q9 is held: reset, the system reference clock and the TAP (spec/21_pins_startup.md R568 to
R574, spec/20_test_identity.md R556). -/
def actsHeld : Instr → Bool
  | .resetAssert _ | .resetRelease .. | .refclkSysLoss | .refclkSysReturn .. | .tapOperation _ => true
  | _ => false

/-- The opcode and the datagram of a command that is a KCP datagram. -/
def kcpCommand : Instr → Option (Nat × KcpDatagram)
  | .hello d => some (1, d)
  | .auth d => some (2, d)
  | .kcpRead d => some (3, d)
  | .kcpWrite d => some (4, d)
  | .kcpBatch d => some (5, d)
  | .declare (.kcp d) _ _ | .bind (.kcp d) _ _ | .arm (.kcp d) _ _ | .disarm (.kcp d) _ _ _ | .unbind (.kcp d) _ _
  | .undeclare (.kcp d) _ _ | .sync d => some (6, d)
  | .eventAck d => some (7, d)
  | .bulkPut d | .bulkEnd d => some (8, d)
  | .bulkGet d => some (9, d)
  | .modeRequest (.kcp d) _ => some (10, d)
  | .unknownOpcode d o => some (o, d)
  | _ => none

end Sys2Proof.Machine
end

