-- ==== Sys2Proof/Certificates/Slice0/Obligations.lean ====
section
/-! DEFINITION. The statements for the provers. A statement of several parts is the conjunction of its claims, each of which
stands above it with its own docstring. -/

open Sys2Proof Sys2Proof.Machine

/-! ## spec/00_scope.md -/

/-- Every command of the table completes in every state: exec answers a next state. While the Q9 is held in reset, has no
REFCLK_SYS or has sampled TEST_EN 1, only the commands of reset, of that clock and of the TAP change anything. -/
def Obligations.EveryCommandCompletes : Prop :=
  ∀ (c : Instr) (s : State), Completes (exec c s) (fun t => live s = false → actsHeld c = false → t = s)

/-- A step with a command at the front of the queue is exec of it on the state with the queue's rest. -/
def Obligations.StepRunsFront : Prop :=
  ∀ (c : Instr) (rest : List Instr) (s : State), s.pending = c :: rest → step s = exec c { s with pending := rest }

/-- The state after reset is in canonical form. -/
def Obligations.ResetCanonical : Prop :=
State.reset.wf = true

/-- Every step keeps the register file and the memories in canonical form. -/
def Obligations.StepKeepsCanonical : Prop :=
  ∀ s t : State, s.wf = true → step s = .next t → t.wf = true

/-- On an empty queue a step is one nanosecond of the reference clock (the model's choice, assumption log entry 5): beside the
time, only what crosses the network, the frames that waited for a pause to end and those of the frame generators change. -/
def Obligations.IdleStepsCountTime : Prop :=
  ∀ (n : Nat) (s : State), s.pending = [] → live s = true →
    ∃ t, Reaches s n t ∧ t.now = s.now + n ∧ t = { s with
        now := t.now, time := { s.time with q := t.time.q }, struct := { s.struct with net := t.struct.net },
        ingest := t.ingest, out := t.out } ∧
      ((∀ p, p < 4 → (s.port p).waiting = [] ∧ s.portDeaf p = false) → t.ingest = s.ingest ∧ t.out = s.out) ∧
      (s.word R.TIME_RATE_LO = 0 → s.word R.TIME_RATE_HI = 0 → t.q9 = s.q9 + n)

/-- R7: an access that is not 32 bits wide or not 4-byte aligned is refused with ALIGN, and no part of it is performed. -/
def Sys2Proof.Claims.MisalignedAccessRefused : Prop :=
  ∀ (who : Requester) (width addr : Nat) (v : Word) (s : State),
    (Permitted who addr s → width ≠ 32 ∨ addr % 4 ≠ 0 →
      exec (.registerWrite who width addr v) s = .next (s.emit (.status who addr .align))) ∧
    (Permitted who addr s → addr % 4 ≠ 0 →
      exec (.writeLoHold who addr v) s = .next (s.emit (.status who addr .align)) ∧
      exec (.writeHiApply who addr v) s = .next (s.emit (.status who addr .align))) ∧
    (live s = true → s.privilege who ≠ 0 → addr % 4 ≠ 0 →
      exec (.readLoCapture who addr) s = .next (s.emit (.value who addr 0 .align)) ∧
      exec (.rcCounterRead who addr) s = .next (s.emit (.value who addr 0 .align)))

/-- R8: an address at no listed register reads 0 and takes no write; both are reported as unmapped. -/
def Sys2Proof.Claims.UnmappedAccessReported : Prop :=
  ∀ (who : Requester) (addr : Nat) (v : Word) (s : State), addr % 4 = 0 → regFind addr = none →
    (Permitted who addr s →
      exec (.registerWrite who 32 addr v) s = .next (s.emit (.status who addr .unmapped)) ∧
      exec (.writeLoHold who addr v) s = .next (s.emit (.status who addr .unmapped)) ∧
      exec (.writeHiApply who addr v) s = .next (s.emit (.status who addr .unmapped))) ∧
    (live s = true → s.privilege who ≠ 0 →
      exec (.readLoCapture who addr) s = .next (s.emit (.value who addr 0 .unmapped)) ∧
      exec (.rcCounterRead who addr) s = .next (s.emit (.value who addr 0 .unmapped)))

/-- A register access that is misaligned or not 32 bits wide, or at no listed register, is refused and has no effect. -/
def Obligations.BadAccessesRefused : Prop :=
  Claims.MisalignedAccessRefused ∧ Claims.UnmappedAccessReported

/-- R7, R8, R15: a write of 32 bits at any address is performed in one step: the requester is answered with the status of the
access, and the state is the one that the access leaves. WRITE_LO_HOLD and WRITE_HI_APPLY are such writes. -/
def Sys2Proof.Claims.EveryWriteAnswers : Prop :=
  ∀ (who : Requester) (addr : Nat) (v : Word) (s : State), Permitted who addr s →
    exec (.registerWrite who 32 addr v) s =
      .next ((regWrite who addr v s).2.emit (.status who addr (regWrite who addr v s).1)) ∧
    exec (.writeLoHold who addr v) s = exec (.registerWrite who 32 addr v) s ∧
    exec (.writeHiApply who addr v) s = exec (.registerWrite who 32 addr v) s

/-- A write of a register that no other rule governs: an immediate register takes the writable bits at once, a staged one
holds them until its commit point while reads still return the value in force (R12, R15 to R17), outside its window it
answers WINDOW, and a register without writable bits keeps its word. Everything else stays. -/
def Sys2Proof.Claims.RegisterWriteByCommitPoint : Prop :=
  ∀ (who : Requester) (addr : Nat) (v : Word) (s : State) (d : RegDesc) (i j : Nat),
    Permitted who addr s → addr % 4 = 0 → regFind addr = some (d, i, j) → s.kcp.shadow = none →
    let m := BitVec.ofNat 32 (writableMask d)
    (writableMask d = 0 → exec (.registerWrite who 32 addr v) s = .next (s.emit (.status who addr .ok))) ∧
    (writableMask d ≠ 0 → ownWrite who d i j addr (v &&& m) v s = none →
      (d.commit = .immediate → valueBad d (v &&& m).toNat = false →
        Completes (exec (.registerWrite who 32 addr v) s) (fun t =>
          t.word addr = (s.word addr &&& ~~~ m) ||| (v &&& m) ∧ (∀ b, b ≠ addr → t.word b = s.word b) ∧
          t = { s with regs := t.regs, kcp := t.kcp, out := .status who addr .ok :: s.out })) ∧
      (d.commit ≠ .immediate → s.stageWindow d addr = true → valueBad d (v &&& m).toNat = false →
        Completes (exec (.registerWrite who 32 addr v) s) (fun t =>
          t.stagedWord addr = some (v &&& m) ∧ (∀ b, b ≠ addr → t.stagedWord b = s.stagedWord b) ∧
          t = { s with staged := t.staged, kcp := t.kcp, out := .status who addr .ok :: s.out })) ∧
      (d.commit ≠ .immediate → s.stageWindow d addr = false →
        exec (.registerWrite who 32 addr v) s = .next (s.emit (.status who addr .window))))

/-- R10, R11: a write of the low word of a pair (a plank colour or background of an idle engine, the destination address of a
declared output that is not ARMED, the address of a probe) holds it. A write of the high word of a plank colour or background
applies it with the held low word, or with the low word in force where none is held; one of the destination address stages
both words together. While the plank engine is busy both are refused with BUSY. -/
def Sys2Proof.Claims.PairAppliesTogether : Prop :=
  ∀ (who : Requester) (n : Fin 2) (v : Word) (s : State), s.kcp.shadow = none →
    let holds := fun (lo : Nat) => Permitted who lo s →
      Completes (exec (.writeLoHold who lo v) s) (fun t =>
        t = { s with heldLo := t.heldLo, kcp := t.kcp, out := .status who lo .ok :: s.out } ∧
        tabGet none t.heldLo lo = some (v &&& writeBits lo) ∧ ∀ b, b ≠ lo → tabGet none t.heldLo b = tabGet none s.heldLo b)
    (s.flag (F.PLK_STATUS_BUSY n.val) = false → ∀ lo ∈ [R.PLK_COLOUR_LO n.val, R.PLK_BGCOLOUR_LO n.val], holds lo ∧
      (Permitted who (lo + 4) s →
        Completes (exec (.writeHiApply who (lo + 4) v) s) (fun t =>
          t = { s with regs := t.regs, heldLo := t.heldLo, kcp := t.kcp, out := .status who (lo + 4) .ok :: s.out } ∧
          t.word (lo + 4) = v ∧ t.word lo = (tabGet none s.heldLo lo).getD (s.word lo) ∧ tabGet none t.heldLo lo = none ∧
          ∀ b, b ≠ lo → b ≠ lo + 4 → t.word b = s.word b))) ∧
    (s.flag (F.PLK_STATUS_BUSY n.val) = true → ∀ lo ∈ [R.PLK_COLOUR_LO n.val, R.PLK_BGCOLOUR_LO n.val],
      (Permitted who lo s → exec (.writeLoHold who lo v) s = .next (s.emit (.status who lo .busy))) ∧
      (Permitted who (lo + 4) s → exec (.writeHiApply who (lo + 4) v) s = .next (s.emit (.status who (lo + 4) .busy)))) ∧
    holds R.XLAT_PROBE_LO ∧
    ((s.path 5 0).state ≠ 0 → s.armed 5 0 = false → holds R.ENC_DST_MAC_LO ∧
      (Permitted who R.ENC_DST_MAC_HI s →
        Completes (exec (.writeHiApply who R.ENC_DST_MAC_HI v) s) (fun t =>
          t = { s with staged := t.staged, heldLo := t.heldLo, kcp := t.kcp, out := .status who R.ENC_DST_MAC_HI .ok :: s.out } ∧
          t.stagedWord R.ENC_DST_MAC_HI = some (v &&& writeBits R.ENC_DST_MAC_HI) ∧
          t.stagedWord R.ENC_DST_MAC_LO = some (s.lowWord R.ENC_DST_MAC_LO) ∧
          tabGet none t.heldLo R.ENC_DST_MAC_LO = none)))

/-- Every register write is answered; it sets its register at once or stages it, and the two words of a pair take effect
together. -/
def Obligations.RegisterWritesAnswer : Prop :=
  Claims.EveryWriteAnswers ∧ Claims.RegisterWriteByCommitPoint ∧ Claims.PairAppliesTogether

/-- R371, R357, R10: a read of a capturing register answers its word and captures the others of its group in the same
instant; it changes nothing else. -/
def Sys2Proof.Claims.ReadsCapture : Prop :=
  ∀ (who : Requester) (s : State), live s = true → s.privilege who ≠ 0 →
    Completes (exec (.timeNowCapture who) s) (fun t =>
      t = { s with captured := t.captured, out := .value who R.TIME_NOW_S_LO (BitVec.ofNat 32 s.seconds) .ok :: s.out } ∧
      tabGet 0 t.captured R.TIME_NOW_S_HI = BitVec.ofNat 32 (s.seconds / 2 ^ 32) ∧
      tabGet 0 t.captured R.TIME_NOW_NS = BitVec.ofNat 32 s.nanos ∧
      tabGet 0 t.captured R.TIME_NOW_FRAC = BitVec.ofNat 32 s.frac) ∧
    Completes (exec (.teStampCapture who) s) (fun t =>
      t = { s with captured := t.captured, out := .value who R.PANEL_TES_LO (s.word R.PANEL_TES_LO) .ok :: s.out } ∧
      tabGet 0 t.captured R.PANEL_TES_HI = s.word R.PANEL_TES_HI ∧
      tabGet 0 t.captured R.PANEL_TENS = s.word R.PANEL_TENS) ∧
    (∀ lo ∈ pairLows, Completes (exec (.readLoCapture who lo) s) (fun t =>
      t = { s with captured := t.captured, out := .value who lo (peek lo s) .ok :: s.out } ∧
      tabGet 0 t.captured (lo + 4) = peek (lo + 4) s ∧
      (∀ b, b ≠ lo + 4 → tabGet 0 t.captured b = tabGet 0 s.captured b)))

/-- R12, R14: a read of a register returns its word, then clears its RC fields and no other bit of any register. -/
def Sys2Proof.Claims.ReadClearsCounters : Prop :=
  ∀ (who : Requester) (addr : Nat) (s : State) (d : RegDesc) (i j : Nat), live s = true → s.privilege who ≠ 0 →
    addr % 4 = 0 → regFind addr = some (d, i, j) → isCaptured addr = false → captures addr = [] →
    (d.base ≠ R.LNK_LANEERR 0 → d.base ≠ R.LNK_LANEERR 1 →
      Completes (exec (.rcCounterRead who addr) s) (fun t =>
        t = { s with regs := t.regs, out := .value who addr (peek addr s) .ok :: s.out } ∧
        (∀ b, b ≠ addr → t.word b = s.word b) ∧
        (∀ f ∈ d.fields, t.get ⟨addr, f.hi, f.lo⟩ = if f.access = .rc then 0 else s.get ⟨addr, f.hi, f.lo⟩))) ∧
    (∀ n : Fin 5, addr = R.LNK_LANEERR n.val →
      Completes (exec (.rcCounterRead who addr) s) (fun t =>
        t = { s with links := t.links, out := .value who addr (laneErrWord n.val s) .ok :: s.out } ∧
        laneErrWord n.val t = 0))

/-- A register read answers its word, captures its group and clears its counters, and nothing else. -/
def Obligations.RegisterReadsCaptureAndClear : Prop :=
  Claims.ReadsCapture ∧ Claims.ReadClearsCounters

/-- R579: a register that a read of another captures returns the captured value, which is 0 until the first such read. -/
def Obligations.CapturedRegistersReturnCapture : Prop :=
  (∀ (who : Requester) (addr : Nat) (s : State), live s = true → s.privilege who ≠ 0 → addr % 4 = 0 →
    isCaptured addr = true → regFind addr ≠ none →
    exec (.readLoCapture who addr) s = .next (s.emit (.value who addr (tabGet 0 s.captured addr) .ok))) ∧
  (∀ addr, tabGet 0 State.reset.captured addr = 0) ∧
  (∀ addr ∈ [R.PANEL_TES_HI, R.PANEL_TENS, R.TIME_NOW_S_HI, R.TIME_NOW_NS, R.TIME_NOW_FRAC] ++ pairLows.map (· + 4),
    isCaptured addr = true ∧ regFind addr ≠ none)

/-! ## spec/01_ray_space.md -/

/-- R24: the ray index counts the views of every hogel once, from 0 to N - 1, and decomposes into what it was made of. -/
def Sys2Proof.Claims.RayIndexIsBijective : Prop :=
  ∀ g : Geom,
    (∀ hx hy u v, hx < g.hogelsX → hy < g.hogelsY → u < g.viewsU → v < g.viewsV →
      rayIndex g hx hy u v < rayCount g ∧ rayDecompose g (rayIndex g hx hy u v) = (hx, hy, u, v)) ∧
    (∀ ray, ray < rayCount g →
      let c := rayDecompose g ray
      c.1 < g.hogelsX ∧ c.2.1 < g.hogelsY ∧ c.2.2.1 < g.viewsU ∧ c.2.2.2 < g.viewsV ∧
      rayIndex g c.1 c.2.1 c.2.2.1 c.2.2.2 = ray)

/-- R31, R32: the ray at position k of the packed run of a list of rays is the k-th ray, for RAY30, RAY36 and RAYH, and
the fill bits are zero. -/
def Sys2Proof.Claims.PackedRunsRoundTrip : Prop :=
  ∀ (format : Nat) (rays : List Nat), format ≤ 2 →
    (runBytes (rayBits format) rays).length = ceilDiv (rayBits format * rays.length) 8 ∧
    (∀ k, k < rays.length →
      runRay (rayBits format) (runBytes (rayBits format) rays) k = rays[k]! % 2 ^ rayBits format) ∧
    leNat (runBytes (rayBits format) rays) < 2 ^ (rayBits format * rays.length)

/-- Rays and their indices correspond one to one, and a packed run of rays reads back. -/
def Obligations.RaysAreNumberedAndPacked : Prop :=
  Claims.RayIndexIsBijective ∧ Claims.PackedRunsRoundTrip

/-- R39, R40: inside its window a write of a descriptor word changes the staged copy alone, and ARM sets PENDING alone;
outside it both answer WINDOW and change nothing. -/
def Sys2Proof.Claims.GeometryStagesInWindow : Prop :=
  ∀ (who : Requester) (n : Fin 16) (v : Word) (s : State), s.kcp.shadow = none →
    (Permitted who (R.GEOM_W n.val) s → geomWindow s = true → s.flag F.GEOM_STATUS_PENDING = false →
      Completes (exec (.geomWordWrite who n v) s) (fun t =>
        t = { s with staged := t.staged, out := .status who (R.GEOM_W n.val) .ok :: s.out } ∧
        t.stagedWord (R.GEOM_W n.val) = some v ∧ ∀ b, b ≠ R.GEOM_W n.val → t.stagedWord b = s.stagedWord b)) ∧
    (Permitted who R.GEOM_CTRL s → geomWindow s = true → s.flag F.GEOM_STATUS_PENDING = false →
      Completes (exec (.geomArm who) s) (fun t =>
        t = { s with regs := t.regs, out := .status who R.GEOM_CTRL .ok :: s.out } ∧
        t.get F.GEOM_STATUS_PENDING = 1 ∧ t.get F.GEOM_STATUS_ERR = s.get F.GEOM_STATUS_ERR ∧
        t.get F.GEOM_STATUS_SOURCE = s.get F.GEOM_STATUS_SOURCE ∧
        t.get F.GEOM_STATUS_NAP_LIMITED = s.get F.GEOM_STATUS_NAP_LIMITED ∧
        ∀ b, b ≠ R.GEOM_STATUS → t.word b = s.word b)) ∧
    (Permitted who (R.GEOM_W n.val) s → geomWindow s = false →
      exec (.geomWordWrite who n v) s = .next (s.emit (.status who (R.GEOM_W n.val) .window))) ∧
    (Permitted who R.GEOM_CTRL s → geomWindow s = false →
      exec (.geomArm who) s = .next (s.emit (.status who R.GEOM_CTRL .window)))

/-- R43: DISCARD returns the staged copy to the descriptor in force and clears PENDING; it changes nothing else. -/
def Sys2Proof.Claims.GeometryDiscardReturns : Prop :=
  ∀ (who : Requester) (s : State), Permitted who R.GEOM_CTRL s →
    Completes (exec (.geomDiscard who) s) (fun t =>
      t = { s with regs := t.regs, staged := t.staged, out := .status who R.GEOM_CTRL .ok :: s.out } ∧
      (∀ n, n < 16 → t.nextWord (R.GEOM_W n) = s.word (R.GEOM_W n)) ∧
      (∀ b, (∀ n, n < 16 → b ≠ R.GEOM_W n) → t.stagedWord b = s.stagedWord b) ∧
      t.get F.GEOM_STATUS_PENDING = 0 ∧ ∀ b, b ≠ R.GEOM_STATUS → t.word b = s.word b)

/-- The staged descriptor changes by GEOM_W, GEOM_CTRL.ARM and GEOM_CTRL.DISCARD alone. -/
def Obligations.GeometryStagesAndDiscards : Prop :=
  Claims.GeometryStagesInWindow ∧ Claims.GeometryDiscardReturns

/-- R42: while PENDING is 1 a descriptor word is refused with WINDOW and changes nothing, and ARM, inside its window, is
answered OK and has no further effect. -/
def Sys2Proof.Claims.GeometryPendingBlocks : Prop :=
  ∀ (who : Requester) (n : Fin 16) (v : Word) (s : State), s.flag F.GEOM_STATUS_PENDING = true →
    (Permitted who (R.GEOM_W n.val) s →
      exec (.geomWordWrite who n v) s = .next (s.emit (.status who (R.GEOM_W n.val) .window))) ∧
    (Permitted who R.GEOM_CTRL s → geomWindow s = true →
      exec (.geomArm who) s = .next (s.emit (.status who R.GEOM_CTRL .ok)))

/-- R581: a write of GEOM_CTRL, CONF_COLCTRL or CONF_MAPCTRL that sets both ARM and DISCARD is refused with VALUE and
changes nothing. -/
def Sys2Proof.Claims.ArmAndDiscardRefused : Prop :=
  ∀ (who : Requester) (v : Word) (s : State),
    (Permitted who R.GEOM_CTRL s → wordField v F.GEOM_CTRL_ARM = 1 → wordField v F.GEOM_CTRL_DISCARD = 1 →
      exec (.registerWrite who 32 R.GEOM_CTRL v) s = .next (s.emit (.status who R.GEOM_CTRL .value))) ∧
    (Permitted who R.CONF_COLCTRL s → wordField v F.CONF_COLCTRL_ARM = 1 → wordField v F.CONF_COLCTRL_DISCARD = 1 →
      exec (.registerWrite who 32 R.CONF_COLCTRL v) s = .next (s.emit (.status who R.CONF_COLCTRL .value))) ∧
    (Permitted who R.CONF_MAPCTRL s → wordField v F.CONF_MAPCTRL_ARM = 1 → wordField v F.CONF_MAPCTRL_DISCARD = 1 →
      exec (.registerWrite who 32 R.CONF_MAPCTRL v) s = .next (s.emit (.status who R.CONF_MAPCTRL .value)))

/-- While a descriptor is pending its words are refused, and ARM together with DISCARD is refused. -/
def Obligations.GeometryConflictsRefused : Prop :=
  Claims.GeometryPendingBlocks ∧ Claims.ArmAndDiscardRefused

/-! ## spec/02_structure_cukar.md -/

/-- R51: the item at the head of a running block's queue goes to the first idle cell in rotating order, and the rest of
the queue waits. R48: after the accesses of its lanes, cycle by cycle, every byte of the cell's local store reads as the
last write in ascending lane order of the last cycle that writes it left it. Of other blocks, only spares that are ready
change, which see a frame boundary (R62); nothing else changes. -/
def Sys2Proof.Claims.DispatchPicksIdleCell : Prop :=
  ∀ (k : Fin 64) (accesses : List (List StoreAccess)) (s : State) (q : QueuedItem) (rest : List QueuedItem) (c : Nat),
    live s = true → s.blockRuns k.val = true → (s.block k.val).queue = q :: rest → s.idleCell k.val = some c →
    Completes (exec (.workItemDispatch ⟨k, accesses⟩) s) (fun t =>
      t = { s with struct := { s.struct with blocks := t.struct.blocks, issued := t.struct.issued } } ∧
      t.cellItem k.val c = some q ∧ (t.block k.val).queue = rest ∧ (t.block k.val).last = c ∧
      (∀ j, j ≠ c → t.cell k.val j = s.cell k.val j) ∧
      (∀ j, j ≠ k.val → t.block j = { s.block j with boundary := (t.block j).boundary } ∧
        (s.blockState j ≠ 4 → t.block j = s.block j)) ∧
      ∀ i, cellGet ramBlank (t.cell k.val c).store i =
        (((accesses.flatMap laneOrder).filter (fun a => a.write.isSome && a.bank.val * 8192 + a.offset.val == i)).getLast?.bind
          (fun a => a.write)).getD (cellGet ramBlank (s.cell k.val c).store i))

/-- R49, R50: a parity error replays the kernel step it strikes, also where an earlier step of the item was replayed; an
error in the replay, or 2 ms without completion, retires the cell and returns the item to the head of its block's queue.
The sources of the region become pending, and no memory changes. (The cases in which the block fails with its third
retired cell apart.) -/
def Sys2Proof.Claims.CellErrorsReplayThenRetire : Prop :=
  ∀ (k : Fin 64) (c : Fin 16) (s : State) (q : QueuedItem), live s = true → s.cellItem k.val c.val = some q →
    (s.cell k.val c.val).retired = false →
    (∀ inReplay, s.blockRuns k.val = true → ((s.cell k.val c.val).replaying = false ∨ inReplay = false) →
      Completes (exec (.cellParityError k ⟨c, inReplay⟩) s) (fun t =>
        (t.cell k.val c.val).replaying = true ∧ t.cellItem k.val c.val = some q ∧
        t.isPending (blockSource k.val 0) = true ∧ SameMemory s t ∧
        (∀ a, evtAddr a = false → t.word a = s.word a) ∧ (∀ j, j ≠ k.val → t.block j = s.block j))) ∧
    (s.retiredCells k.val < 2 →
      (s.blockRuns k.val = true → (s.cell k.val c.val).replaying = true →
        Completes (exec (.cellParityError k ⟨c, true⟩) s) (fun t =>
          (t.cell k.val c.val).retired = true ∧ t.cellItem k.val c.val = none ∧
          (t.block k.val).queue = q :: (s.block k.val).queue ∧
          t.get (F.RG_CELLRET_RETIRED (k.val / 4) (k.val % 4)) = s.retiredCells k.val + 1 ∧
          t.isPending (blockSource k.val 1) = true ∧ SameMemory s t ∧
          (∀ a, evtAddr a = false → a ≠ R.RG_CELLRET (k.val / 4) → t.word a = s.word a))) ∧
      ((s.cell k.val c.val).since + 2000000 ≤ s.now →
        Completes (exec (.workItemWatchdog k c) s) (fun t =>
          (t.cell k.val c.val).retired = true ∧ t.cellItem k.val c.val = none ∧
          (t.block k.val).queue = q :: (s.block k.val).queue ∧
          t.isPending (blockSource k.val 7) = true ∧ t.isPending (blockSource k.val 1) = true ∧ SameMemory s t ∧
          (∀ a, evtAddr a = false → a ≠ R.RG_CELLRET (k.val / 4) → t.word a = s.word a))))

/-- An item goes to the first idle cell in rotation; a parity error replays a kernel step, and an error in the replay retires
the cell. -/
def Obligations.WorkItemsRunOrReplay : Prop :=
  Claims.DispatchPicksIdleCell ∧ Claims.CellErrorsReplayThenRetire

/-- R52, R54: a corrected bit of a block buffer or of region SRAM is reported and changes nothing else. A double-bit error in a
block buffer, or in region data that an item of a block of the region touched, returns the item, once, to the head of its
block's queue; the second time the item is poisoned and reported. One in region data is reported. A block that does not
run has no such errors. -/
def Sys2Proof.Claims.EccErrorsCountOrPoison : Prop :=
  ∀ (k : Fin 64) (c : Fin 16) (s : State), live s = true →
    (s.blockRuns k.val = false → ∀ double, exec (.blockEccError k c double) s = .next s) ∧
    (s.blockRuns k.val = true →
      Completes (exec (.blockEccError k c false) s) (fun t => EvtOnly s t ∧ t.isPending (blockSource k.val 2) = true)) ∧
    (∀ q, s.blockRuns k.val = true → s.cellItem k.val c.val = some q → q.reissued = false →
      Completes (exec (.blockEccError k c true) s) (fun t =>
        t = { s with struct := { s.struct with blocks := t.struct.blocks } } ∧ t.cellItem k.val c.val = none ∧
        (t.block k.val).queue = { q with reissued := true } :: (s.block k.val).queue ∧
        (∀ j, j ≠ k.val → t.block j = s.block j)) ∧
      ∀ n : Fin 16, k.val / 4 = n.val →
        Completes (exec (.sramEccError n false true k c) s) (fun t =>
          t = { s with regs := t.regs, evt := t.evt, struct := { s.struct with blocks := t.struct.blocks } } ∧
          t.cellItem k.val c.val = none ∧ (t.block k.val).queue = { q with reissued := true } :: (s.block k.val).queue ∧
          (∀ j, j ≠ k.val → t.block j = s.block j) ∧ t.isPending (regionSource n.val 5) = true ∧
          ∀ a, evtAddr a = false → t.word a = s.word a)) ∧
    (∀ q, s.blockRuns k.val = true → s.cellItem k.val c.val = some q → q.reissued = true →
      (s.block k.val).poisonFrame = none →
      Completes (exec (.blockEccError k c true) s) (fun t =>
        t.cellItem k.val c.val = none ∧
        t.isPending (blockSource k.val 3) = true ∧ t.role k.val = s.role k.val)) ∧
    (∀ (n : Fin 16) (kernels : Bool),
      Completes (exec (.sramEccError n kernels false k c) s) (fun t =>
        EvtOnly s t ∧ t.isPending (regionSource n.val 4) = true)) ∧
    (∀ n : Fin 16, k.val / 4 ≠ n.val ∨ s.blockRuns k.val = false ∨ s.cellItem k.val c.val = none →
      Completes (exec (.sramEccError n false true k c) s) (fun t =>
        EvtOnly s t ∧ t.isPending (regionSource n.val 5) = true))

/-- R55: after a double-bit error in its kernel area, a region's kernel area reads as that of the nearest other region
that holds one; every other byte of every memory reads as before. -/
def Sys2Proof.Claims.KernelAreaIsRefilled : Prop :=
  ∀ (n : Fin 16) (m : Nat) (k : Fin 64) (c : Fin 16) (s : State), live s = true → s.holdsKernels n.val = true →
    s.kernelSource n.val = some m →
    Completes (exec (.sramEccError n true true k c) s) (fun t =>
      (∀ b, b < 1048576 →
        cellGet ramBlank t.sram (kernelArea n.val + b) = cellGet ramBlank s.sram (kernelArea m + b)) ∧
      (∀ a, a < kernelArea n.val ∨ kernelArea n.val + 1048576 ≤ a → cellGet ramBlank t.sram a = cellGet ramBlank s.sram a) ∧
      t.hbm = s.hbm ∧ t.flash = s.flash ∧ t.poison = s.poison ∧ t.isPending (regionSource n.val 11) = true ∧
      (∀ a, evtAddr a = false → t.word a = s.word a) ∧
      ∀ j c', j / 4 = n.val → j < 64 → c' < 16 → t.cellItem j c' = none)

/-- Single-bit errors are reported; a double-bit error returns or poisons the item it touches; a kernel area is filled again.
-/
def Obligations.RegionErrorsAreRepaired : Prop :=
  Claims.EccErrorsCountOrPoison ∧ Claims.KernelAreaIsRefilled

/-- R53, R62: host software isolates blocks of a region: while no object is ARMED, each named block that is not off or
isolated becomes ISOLATED at once and BLK_FAILED becomes pending; no other block's role changes, and no memory does. -/
def Sys2Proof.Claims.IsolationTakesBlocksOut : Prop :=
  ∀ (who : Requester) (n mask : Fin 16) (s : State), Permitted who (R.RG_BLKCTRL n.val) s → s.armedObjects = [] →
    Completes (exec (.rgBlkctrlIsolate who n mask) s) (fun t =>
      t.out = .status who (R.RG_BLKCTRL n.val) .ok :: s.out ∧
      (∀ j, j < 4 → mask.val.testBit j = true → s.blockState (4 * n.val + j) ≠ 0 → s.blockState (4 * n.val + j) ≠ 5 →
        t.role (4 * n.val + j) = 5 ∧ t.blockState (4 * n.val + j) = 5 ∧ t.isPending (regionSource n.val 6) = true) ∧
      (∀ k, k < 64 → (k / 4 = n.val → mask.val.testBit (k % 4) = false) → t.role k = s.role k) ∧ SameMemory s t)

/-- R62, R63: a spare that is ready swaps at the frame boundary, or at once in a mode without ray frames: it takes the
failed block's role and works, SWAPS counts it, and SPARE_SWAPPED becomes pending; before the boundary it waits. -/
def Sys2Proof.Claims.SpareTakesRole : Prop :=
  ∀ (k : Fin 64) (f : Nat) (s : State), live s = true → (s.block k.val).replaces = some f →
    (s.block f).lostRole < 16 →
    (s.blockState k.val = 3 → framesMode s.modeNow = true →
      Completes (exec (.spareReady k) s) (fun t =>
        t.blockState k.val = 4 ∧ t.isPending (blockSource k.val 8) = true ∧ (∀ j, j < 64 → t.role j = s.role j) ∧
        t = { s with regs := t.regs, evt := t.evt, struct := { s.struct with blocks := t.struct.blocks } } ∧
        (∀ a, evtAddr a = false → a ≠ R.RG_BLKSTATE (k.val / 4) → t.word a = s.word a))) ∧
    (s.blockState k.val = 4 → framesMode s.modeNow = true → (s.block k.val).boundary = false →
      exec (.spareSwapped k) s = .next s) ∧
    (s.blockState k.val = 3 → framesMode s.modeNow = false →
      Completes (exec (.spareReady k) s) (fun t =>
        t.blockState k.val = 1 ∧ t.role k.val = (s.block f).lostRole ∧
        t.isPending (blockSource k.val 8) = true ∧ t.isPending (blockSource k.val 9) = true)) ∧
    (s.blockState k.val = 4 → ((s.block k.val).boundary = true ∨ framesMode s.modeNow = false) →
      Completes (exec (.spareSwapped k) s) (fun t =>
        t.blockState k.val = 1 ∧ t.role k.val = (s.block f).lostRole ∧ t.isPending (blockSource k.val 9) = true ∧
        t.get (F.RG_BLKSTATE_SWAPS (k.val / 4)) = min 255 (s.get (F.RG_BLKSTATE_SWAPS (k.val / 4)) + 1) ∧
        t = { s with regs := t.regs, evt := t.evt } ∧
        (∀ a, evtAddr a = false → a ≠ R.RG_BLKSTATE (k.val / 4) → a ≠ R.RB_ROLE (k.val / 8) → t.word a = s.word a)))

/-- R90: while the epoch is open and no load runs, a role write takes each nibble of 0 as an override and counts them; a
nibble that differs from the role in force refuses the whole write with VALUE; BUSY 1 answers BUSY, and a closed epoch
LOCKED. The roles in force stay. -/
def Sys2Proof.Claims.RoleWriteHoldsOverrides : Prop :=
  ∀ (who : Requester) (n : Fin 8) (v : Word) (s : State), Permitted who (R.RB_ROLE n.val) s →
    (s.epochOpen = false → exec (.rbRoleWrite who n v) s = .next (s.emit (.status who (R.RB_ROLE n.val) .locked))) ∧
    (s.epochOpen = true → s.flag F.IMG_STATUS_BUSY = true →
      exec (.rbRoleWrite who n v) s = .next (s.emit (.status who (R.RB_ROLE n.val) .busy))) ∧
    (s.epochOpen = true → s.flag F.IMG_STATUS_BUSY = false →
      ((∃ m, m < 8 ∧ slice v.toNat (4 * m + 3) (4 * m) ≠ 0 ∧ slice v.toNat (4 * m + 3) (4 * m) ≠ s.role (8 * n.val + m)) →
        exec (.rbRoleWrite who n v) s = .next (s.emit (.status who (R.RB_ROLE n.val) .value))) ∧
      ((∀ m, m < 8 → slice v.toNat (4 * m + 3) (4 * m) ≠ 0 → slice v.toNat (4 * m + 3) (4 * m) = s.role (8 * n.val + m)) →
        Completes (exec (.rbRoleWrite who n v) s) (fun t =>
          t = { s with regs := t.regs, struct := { s.struct with held := t.struct.held },
                       out := .status who (R.RB_ROLE n.val) .ok :: s.out } ∧
          (∀ k, k ∈ t.struct.held ↔ k ∈ s.struct.held ∨
            (k / 8 = n.val ∧ slice v.toNat (4 * (k % 8) + 3) (4 * (k % 8)) = 0)) ∧
          t.get F.IMG_STATUS_OVERRIDES = t.struct.held.length % 256 ∧ ∀ a, a ≠ R.IMG_STATUS → t.word a = s.word a)))

/-- An isolated block leaves service, its spare takes its role, and roles can be overridden. -/
def Obligations.BlocksAreIsolatedAndReplaced : Prop :=
  Claims.IsolationTakesBlocksOut ∧ Claims.SpareTakesRole ∧ Claims.RoleWriteHoldsOverrides

/-- R91, R92, R94: in CONFIGURE, while no load runs, LOAD starts a load from the source with the overrides held and clears
them, and a flash slot is read into the load buffer before it is validated; elsewhere it answers MODE, and while a load
runs BUSY. -/
def Sys2Proof.Claims.ImageLoadStarts : Prop :=
  ∀ (who : Requester) (source : Fin 4) (s : State), Permitted who R.IMG_CTRL s →
    (s.modeNow ≠ 0x2 → exec (.imageLoad who source) s = .next (s.emit (.status who R.IMG_CTRL .mode))) ∧
    (s.modeNow = 0x2 → s.flag F.IMG_STATUS_BUSY = true →
      exec (.imageLoad who source) s = .next (s.emit (.status who R.IMG_CTRL .busy))) ∧
    (s.modeNow = 0x2 → s.flag F.IMG_STATUS_BUSY = false → source.val ≠ 0 →
      Completes (exec (.imageLoad who source) s) (fun t =>
        t = { s with regs := t.regs, sram := t.sram, out := .status who R.IMG_CTRL .ok :: s.out,
                     struct := { s.struct with load := some ⟨source.val, false, none, s.struct.held⟩, held := [],
                                               loaded := t.struct.loaded } } ∧
        (source.val = 3 → t.sram = s.sram ∧ t.struct.loaded = s.struct.loaded) ∧
        (source.val ≠ 3 → t.struct.loaded = 33554432 ∧
          ∀ b, b < (s.slotImage source.val).length →
            cellGet ramBlank t.sram (loadByte b) = (s.slotImage source.val).getD b 0) ∧
        t.get F.IMG_STATUS_BUSY = 1 ∧ t.get F.IMG_STATUS_LAST = source.val ∧ t.get F.IMG_STATUS_OVERRIDES = 0 ∧
        t.get F.IMG_STATUS_ERR = s.get F.IMG_STATUS_ERR ∧ t.get F.IMG_STATUS_IN_FORCE = s.get F.IMG_STATUS_IN_FORCE ∧
        ∀ a, a ≠ R.IMG_STATUS → t.word a = s.word a))

/-- R84, R85, R95: a load that a flash error ends fails with code 0xF and leaves image, roles and epoch as they were, and
IMG_REJECTED becomes pending; a load whose image passes ends with its SOURCE and SEQUENCE in force and the epoch counted
on, 1 following 0xFFFF_FFFF. -/
def Sys2Proof.Claims.ValidationEndsLoad : Prop :=
  ∀ (l : LoadRec) (fails : List Nat) (s : State), live s = true → s.struct.load = some l → l.boot = false →
    (l.source ≠ 3 →
      Completes (exec (.imageValidationDone true fails) s) (fun t =>
        t.get F.IMG_STATUS_BUSY = 0 ∧ t.get F.IMG_STATUS_ERR = 0xF ∧ t.struct.load = none ∧
        t.struct.image = s.struct.image ∧ t.isPending 5 = true ∧
        ∀ a, evtAddr a = false → a ≠ R.IMG_STATUS → t.word a = s.word a)) ∧
    (l.source = 3 → (imageCheck (s.word 0x4).toNat s.struct.loaded (fun k => tabGet none s.fuses.imageKeys k) l.overrides
        s.imageBytes).1 = 0 →
      Completes (exec (.imageValidationDone false fails) s) (fun t =>
        t.struct.image = some (imageRec s.imageBytes) ∧ t.struct.load = none ∧
        t.get F.IMG_STATUS_BUSY = 0 ∧ t.get F.IMG_STATUS_ERR = 0 ∧ t.get F.IMG_STATUS_IN_FORCE = 3 ∧
        t.get F.CHIP_EPOCH_EPOCH = (if s.get F.CHIP_EPOCH_EPOCH = 0xFFFFFFFF then 1 else s.get F.CHIP_EPOCH_EPOCH + 1) ∧
        t.isPending 4 = true))

/-- A load of an image starts when it may, and its validation ends it. -/
def Obligations.ImagesLoadOrFail : Prop :=
  Claims.ImageLoadStarts ∧ Claims.ValidationEndsLoad

/-! ## spec/03_control_kcp.md -/

/-- R102, R109: the next request of an open session is executed as soon as it arrives, then the held requests that follow;
a request that no session may make is counted and changes nothing else. -/
def Sys2Proof.Claims.RequestsReachExecution : Prop :=
  ∀ (c : Instr) (opcode : Nat) (d : KcpDatagram) (s : State), kcpCommand c = some (opcode, d) →
    (∀ n, NextRequest s n opcode d → opcode ≠ 1 →
      exec c s = .next (releaseHeld n 16 (executeRequest n opcode d (s.noted n d)))) ∧
    (Heard s d → (∀ n, s.slotNamed d.sessionId = some n → malformed (s.session n).maxPayload d = true) →
      (s.slotNamed d.sessionId = none → malformed 8192 d = true) →
      Completes (exec c s) (fun t => t = s.bump F.KCP_DISCARD_COUNT ∧
        t.get F.KCP_DISCARD_COUNT = min F.KCP_DISCARD_COUNT.max (s.get F.KCP_DISCARD_COUNT + 1))) ∧
    (Heard s d → (opcode = 1 → isResponse d = true) → s.slotNamed d.sessionId = none → malformed 8192 d = false →
      Completes (exec c s) (fun t => t = s.bump F.KCP_AUTHFAIL_COUNT ∧
        t.get F.KCP_AUTHFAIL_COUNT = min F.KCP_AUTHFAIL_COUNT.max (s.get F.KCP_AUTHFAIL_COUNT + 1)))

/-- R100: a request with an opcode that the Q9 does not serve answers OPCODE and does nothing. -/
def Sys2Proof.Claims.UnknownOpcodeAnswered : Prop :=
  ∀ (n opcode : Nat) (d : KcpDatagram) (s : State), NextRequest s n opcode d → opcode = 7 ∨ opcode = 0 ∨ 10 < opcode →
    Completes (exec (.unknownOpcode d opcode) s) (fun t =>
      Responds s t n opcode d .opcode [] ∧ (t.session n).last = d.seq ∧
      t = { s with regs := t.regs, kcp := { s.kcp with sessions := t.kcp.sessions }, ingest := t.ingest, out := t.out } ∧
      ∀ b, b ≠ R.KCP_SESS n → t.word b = s.word b)

/-- A request is executed once, in its turn, and one with an unknown opcode is answered. -/
def Obligations.RequestsReachExecution : Prop :=
  Claims.RequestsReachExecution ∧ Claims.UnknownOpcodeAnswered

/-- R104 to R107: a HELLO that names a provisioned key while a slot is free opens a session in the opening state, with a
fresh non-zero identifier, the agreed MAX_PAYLOAD and the key derived from both nonces; its AUTH opens it; a HELLO while
eight sessions stand answers SESSION_LIMIT. -/
def Sys2Proof.Claims.HelloAndAuthOpenSession : Prop :=
  (∀ (d : KcpDatagram) (s : State) (key : List Byte) (priv : Nat), Heard s d → s.slotNamed d.sessionId = none →
    malformed 8192 d = false → isResponse d = false → d.version = 1 → d.payload.length = 24 → leAt d.payload 0 1 < 4 →
    tabGet none s.fuses.hostKeys (leAt d.payload 0 1) = some (key, priv) → leAt d.payload 1 3 = 0 →
    512 ≤ leAt d.payload 4 4 → leAt d.payload 4 4 ≤ 8192 → d.seq = 0 → d.sessionId = 0 → allZero d.tag = true →
    ((∀ m, m < 8 → s.sessionState m ≠ 0) →
      Completes (exec (.hello d) s) (fun t =>
        t = sendOn d.port.val (.kcp d.port.val (s.vlanTag d.port.val) d.origin 1 0 d.seq 1 .sessionLimit []
          (List.replicate 16 0)) s)) ∧
    (∀ n, (upto 0 8).find? (fun m => s.sessionState m == 0) = some n →
      Completes (exec (.hello d) s) (fun t =>
        t.sessionState n = 1 ∧ t.get (F.KCP_SESS_PRIV n) = priv % 4 ∧ t.get (F.KCP_SESS_PORT n) = d.port.val ∧
        (t.session n).maxPayload = leAt d.payload 4 4 ∧ (t.session n).last = 0 ∧ (t.session n).openedAt = s.now ∧
        (t.session n).id ≠ 0 ∧ (∀ m, m < 8 → m ≠ n → (t.session n).id ≠ (s.session m).id) ∧
        (∃ nonce payload tag, nonce.length = 16 ∧
          (t.session n).key = hmacSha256 key ([0x4B, 0x43, 0x50, 0x31] ++ (d.payload.drop 8).take 16 ++ nonce ++
            leBytes (t.session n).id 4) ∧
          payload.take 16 = nonce ∧
          Sends s t d.port.val (fun v => .kcp d.port.val v d.origin 1 (t.session n).id d.seq 1 .ok payload tag)) ∧
        t = { s with regs := t.regs, kcp := { s.kcp with sessions := t.kcp.sessions }, free := t.free, ingest := t.ingest,
                     out := t.out } ∧
        ∀ a, a ≠ R.KCP_SESS n → t.word a = s.word a))) ∧
  (∀ (n : Nat) (d : KcpDatagram) (s : State), ReachesSession s n 2 d → s.sessionState n = 1 → (s.session n).last = 0 →
    (s.session n).held = [] → (s.session n).syncs = [] → d.seq = 1 → d.version = 1 → d.payload = [] →
    closesSession d = false →
    Completes (exec (.auth d) s) (fun t =>
      t.sessionState n = 2 ∧ Responds s t n 2 d .ok [] ∧ (t.session n).last = 1 ∧
      t = { s with regs := t.regs, kcp := { s.kcp with sessions := t.kcp.sessions }, ingest := t.ingest, out := t.out } ∧
      ∀ a, a ≠ R.KCP_SESS n → t.word a = s.word a))

/-- R106 to R109: an opening session closes 1 s after its HELLO, an open one after KCP_IDLE.SECONDS without a request: its
register reads 0 and its cached answers are gone; a held request whose gap stays open for 20 ms answers SEQ_GAP. -/
def Sys2Proof.Claims.SessionTimeoutsAct : Prop :=
  ∀ (n : Fin 8) (s : State), live s = true → s.channelsOf n.val = [] →
    (∀ b ∈ s.kcp.bulks, b.slot ≠ n.val) →
    (s.sessionState n.val = 1 → (s.session n.val).openedAt + 1000000000 ≤ s.now →
      Completes (exec (.sessionOpenTimeout n) s) (fun t =>
        t.word (R.KCP_SESS n.val) = 0 ∧ t.session n.val = {} ∧ (∀ m, m ≠ n.val → t.session m = s.session m) ∧
        t = { s with regs := t.regs, kcp := { s.kcp with sessions := t.kcp.sessions } } ∧
        ∀ b, b ≠ R.KCP_SESS n.val → t.word b = s.word b)) ∧
    (s.sessionState n.val = 2 → (s.session n.val).lastValid + 1000000000 * s.get F.KCP_IDLE_SECONDS ≤ s.now →
      Completes (exec (.sessionIdleTimeout n) s) (fun t =>
        t.word (R.KCP_SESS n.val) = 0 ∧ t.session n.val = {} ∧ (∀ m, m ≠ n.val → t.session m = s.session m) ∧
        t = { s with regs := t.regs, kcp := { s.kcp with sessions := t.kcp.sessions } } ∧
        ∀ b, b ≠ R.KCP_SESS n.val → t.word b = s.word b)) ∧
    (∀ h, (s.session n.val).held = [h] → h.deadline ≤ s.now →
      Completes (exec (.seqGapTimeout n h.datagram.seq) s) (fun t =>
        (t.session n.val).held = [] ∧ (t.session n.val).last = (s.session n.val).last ∧
        (∃ tag, Sends s t h.datagram.port.val (fun v => .kcp h.datagram.port.val v h.datagram.origin h.opcode
          (s.session n.val).id h.datagram.seq 1 .seqGap [] tag)) ∧ t.regs = s.regs))

/-- HELLO and AUTH open a session; its timeouts close it. -/
def Obligations.SessionsOpenAndClose : Prop :=
  Claims.HelloAndAuthOpenSession ∧ Claims.SessionTimeoutsAct

/-- R113, R114: a READ of registers that answer with their word returns the words in ascending order with DONE the count; it
changes no register but the session's. -/
def Sys2Proof.Claims.ReadReturnsWords : Prop :=
  ∀ (n a count : Nat) (d : KcpDatagram) (s : State), NextRequest s n 3 d → a < 2 ^ 32 → count ≤ 1024 →
    a + 4 * count ≤ 2 ^ 32 → 8 + 4 * count ≤ (s.session n).maxPayload →
    d.payload = leBytes a 4 ++ leBytes count 2 ++ [0, 0] → (∀ i, i < count → plainRegister (a + 4 * i) = true) →
    Completes (exec (.kcpRead d) s) (fun t =>
      Responds s t n 3 d .ok (progress count none ++
        (upto 0 count).flatMap (fun i => leBytes (peek (a + 4 * i) (s.noted n d)).toNat 4)) ∧
      (t.session n).last = d.seq ∧
      t = { s with regs := t.regs, kcp := { s.kcp with sessions := t.kcp.sessions }, ingest := t.ingest, out := t.out } ∧
      ∀ b, b ≠ R.KCP_SESS n → t.word b = s.word b)

/-- R113, R114: a WRITE of one word performs the register write and answers with its status: DONE 1, or DONE 0 with the
index of the word that failed. -/
def Sys2Proof.Claims.WriteActsAsRegisterWrite : Prop :=
  ∀ (n a : Nat) (w : Word) (d : KcpDatagram) (s s' : State) (st : Status), NextRequest s n 4 d → a < 2 ^ 32 - 3 →
    d.payload = leBytes a 4 ++ leBytes 1 2 ++ [0, 0] ++ leBytes w.toNat 4 →
    permit (.session (Fin.ofNat 8 n)) a (regWrite (.session (Fin.ofNat 8 n)) a w) (s.noted n d) = (st, s') →
    s'.kcp.sessions = (s.noted n d).kcp.sessions →
    Completes (exec (.kcpWrite d) s) (fun t =>
      (∃ tag, Sends s' t d.port.val (fun v => .kcp d.port.val v d.origin 4 (s.session n).id d.seq 1 st
        (if st = .ok then progress 1 none else progress 0 (some 0)) tag)) ∧
      (t.session n).last = d.seq ∧
      t = { s' with kcp := { s'.kcp with sessions := t.kcp.sessions }, ingest := t.ingest, out := t.out })

/-- R115 to R117: a BATCH of one read item returns its word; one of one accepted write of a descriptor word stages it when
the batch ends; an all-or-nothing batch that writes CHIP_MODEREQ, IMG_CTRL or PATH_CMD answers BATCH_ILLEGAL. -/
def Sys2Proof.Claims.BatchPerformsItems : Prop :=
  ∀ (n a k : Nat) (v mask : Word) (flags op : Byte) (d : KcpDatagram) (s : State), NextRequest s n 5 d → a < 2 ^ 32 →
    flags.toNat ≤ 1 →
    d.payload = leBytes 1 2 ++ [flags, 0] ++ leBytes 0 4 ++ [op, 0, 0, 0] ++ leBytes a 4 ++ leBytes v.toNat 4 ++
      leBytes mask.toNat 4 → 12 ≤ (s.session n).maxPayload →
    (op = 1 → plainRegister a = true →
      Completes (exec (.kcpBatch d) s) (fun t =>
        Responds s t n 5 d .ok (progress 1 none ++ leBytes (peek a (s.noted n d)).toNat 4) ∧
        ∀ b, b ≠ R.KCP_SESS n → t.word b = s.word b)) ∧
    (op = 2 → k < 16 → a = R.GEOM_W k → 2 ≤ s.get (F.KCP_SESS_PRIV n) → geomWindow s = true →
      s.flag F.GEOM_STATUS_PENDING = false →
      Completes (exec (.kcpBatch d) s) (fun t =>
        Responds s t n 5 d .ok (progress 1 none) ∧ t.stagedWord (R.GEOM_W k) = some v ∧
        (∀ b, b ≠ R.GEOM_W k → t.stagedWord b = s.stagedWord b) ∧ ∀ b, b ≠ R.KCP_SESS n → t.word b = s.word b)) ∧
    (flags = 1 → op = 2 ∨ op = 3 → a = R.CHIP_MODEREQ ∨ a = R.IMG_CTRL ∨ a = R.PATH_CMD →
      Completes (exec (.kcpBatch d) s) (fun t =>
        Responds s t n 5 d .batchIllegal (progress 0 (some 0)) ∧ t.staged = s.staged ∧
        ∀ b, b ≠ R.KCP_SESS n → t.word b = s.word b))

/-- READ, WRITE and BATCH access the register file as register commands do. -/
def Obligations.RequestsAccessRegisters : Prop :=
  Claims.ReadReturnsWords ∧ Claims.WriteActsAsRegisterWrite ∧ Claims.BatchPerformsItems

/-- R126: a SYNC only begins to wait: its SEQ is executed and no answer leaves; after 1 s without a fence it answers
TIMEOUT. -/
def Sys2Proof.Claims.SyncWaitsForFence : Prop :=
  (∀ (n kind id : Nat) (d : KcpDatagram) (s : State), NextRequest s n 6 d → 2 ≤ s.get (F.KCP_SESS_PRIV n) →
    d.payload = [7, BitVec.ofNat 8 kind, BitVec.ofNat 8 id, 0] →
    Completes (exec (.sync d) s) (fun t =>
      (t.session n).syncs = [⟨d.seq, s.now, d.port.val, d.origin, false⟩] ∧ (t.session n).last = d.seq ∧ t.out = s.out ∧
      t = { s with regs := t.regs, kcp := { s.kcp with sessions := t.kcp.sessions } } ∧
      ∀ b, b ≠ R.KCP_SESS n → t.word b = s.word b)) ∧
  (∀ (slot : Fin 8) (w : SyncWait) (s : State), live s = true → s.sessionState slot.val ≠ 0 →
    (s.session slot.val).syncs = [w] → w.since + 1000000000 ≤ s.now → w.close = false →
    Completes (exec (.syncTimeout slot w.seq) s) (fun t =>
      (t.session slot.val).syncs = [] ∧
      (∃ tag, Sends s t w.port (fun v => .kcp w.port v w.origin 6 (s.session slot.val).id w.seq 1 .timeout (leBytes 0 20) tag)) ∧
      t.regs = s.regs))

/-- R111, R502: a bound host channel with a newly visible source sends an EVENT with the snapshot of now and the next SEQ;
unacknowledged for 2 ms it is sent anew; asserted beyond REPEAT_MS after its acknowledgement it repeats; the
acknowledgement ends the flight and keeps what it showed. No register changes. -/
def Sys2Proof.Claims.EventsReachHost : Prop :=
  ∀ (c : Fin 4) (s : State), live s = true →
    let t4 := 4 + c.val
    let n := s.get (F.EVT_HOST_SESSION t4)
    let sent := fun (t : State) (sends : Nat) =>
      (∃ tag, Sends s t (s.get (F.KCP_SESS_PORT n)) (fun v => .kcp (s.get (F.KCP_SESS_PORT n)) v (s.session n).origin 7
        (s.session n).id (((s.session n).eventSeq + 1) % 2 ^ 32) 0 .ok (eventPayload t4 s) tag)) ∧
      (t.channel t4).flight = some ⟨((s.session n).eventSeq + 1) % 2 ^ 32, sends, s.now, s.visibleSet t4⟩ ∧
      (t.session n).eventSeq = ((s.session n).eventSeq + 1) % 2 ^ 32 ∧ t.regs = s.regs ∧ t.evt = s.evt
    (s.channelIdle t4 = true → (∃ src ∈ s.visibleSet t4, src ∉ (s.channel t4).acked) →
      Completes (exec (.eventSend c) s) (fun t => sent t 1)) ∧
    (∀ f, (s.channel t4).flight = some f → f.sentAt + 2000000 ≤ s.now → f.sends < 8 →
      Completes (exec (.eventRetransmit c) s) (fun t => sent t (f.sends + 1))) ∧
    (∀ at_, s.channelIdle t4 = true → (s.channel t4).ackedAt = some at_ → s.get (F.EVT_HOST_REPEAT_MS t4) ≠ 0 →
      s.asserted t4 = true → at_ + 1000000 * s.get (F.EVT_HOST_REPEAT_MS t4) ≤ s.now →
      Completes (exec (.eventRepeat c) s) (fun t => sent t 1)) ∧
    (∀ m d f, Heard s d → s.slotNamed d.sessionId = some m → malformed (s.session m).maxPayload d = false →
      isResponse d = true → d.tag = datagramTag (s.session m).key 7 d → d.payloadLength = 0 → d.status = 0 →
      s.flightChannel m d.seq = some t4 → (s.channel t4).flight = some f →
      Completes (exec (.eventAck d) s) (fun t =>
        t.channel t4 = ⟨none, f.visible, some s.now⟩ ∧ t.regs = s.regs ∧ t.out = s.out))

/-- SYNC answers after a fence or times out; EVENT is sent, repeated and acknowledged. -/
def Obligations.SyncAndEventsReachHost : Prop :=
  Claims.SyncWaitsForFence ∧ Claims.EventsReachHost

/-- R119, R123: DECLARE, UNBIND and UNDECLARE of an object from the state they start from move it on; the binding registers
take their reset values at DECLARE, a stream's those of its decode contexts too. -/
def Sys2Proof.Claims.LifecycleMovesObjects : Prop :=
  ∀ (who : Requester) (kind id : Nat) (s : State), Permitted who R.PATH_CMD s → (pathIds kind).contains id = true →
    let ok := fun (t : State) => t.out = .status who R.PATH_CMD .ok :: s.out ∧
      (∀ k i, pathKey k i ≠ pathKey kind id → t.path k i = s.path k i)
    (quietMode s.modeNow = false → (s.path kind id).state = 0 →
      Completes (exec (.declare (.register who) kind id) s) (fun t =>
        t.path kind id = { state := 1 } ∧ ok t ∧
        (∀ a ∈ s.declareAddrs kind id, t.word a = regReset a ∧ t.stagedWord a = none) ∧
        (∀ a, a ∉ s.declareAddrs kind id → t.word a = s.word a ∧ t.stagedWord a = s.stagedWord a) ∧
        t = { s with regs := t.regs, staged := t.staged, kcp := { s.kcp with paths := t.kcp.paths }, out := t.out })) ∧
    ((s.path kind id).state = 2 → s.namers kind id = [] →
      Completes (exec (.unbind (.register who) kind id) s) (fun t =>
        t.path kind id = { state := 1, touched := true } ∧ ok t ∧
        (∀ e, e < 256 → s.lease e = { s.lease e with state := 1, kind := kind, owner := id } → (t.lease e).state = 2) ∧
        ∀ a, evtAddr a = false → t.word a = s.word a)) ∧
    ((s.path kind id).state = 1 → s.namers kind id = [] →
      Completes (exec (.undeclare (.register who) kind id) s) (fun t =>
        t.path kind id = {} ∧ ok t ∧
        t = { s with kcp := { s.kcp with paths := t.kcp.paths }, out := t.out }))

/-- R120, R121: a BIND whose checks pass takes the staged words as the binding, and one whose checks fail is answered with the
first failure and changes nothing. An ARM of a BOUND object that its mode, its chapter and the objects it names admit makes
it ARMED, the last in order; a stream's staged words take force in that step. Where a binding register has been written
since the last BIND, ARM performs a BIND first, and fails as it does. ARM while a named object is not ARMED answers STATE. -/
def Sys2Proof.Claims.BindAndArm : Prop :=
  ∀ (who : Requester) (kind id : Nat) (s : State), Permitted who R.PATH_CMD s → (pathIds kind).contains id = true →
    let answers := fun (c : Instr) (st : Status) => exec c s = .next (s.emit (.status who R.PATH_CMD st))
    let armed := fun (t : State) => t.armed kind id = true ∧ (t.path kind id).order = s.kcp.armCount + 1 ∧
      (t.path kind id).written = false ∧ t.kcp.armCount = s.kcp.armCount + 1 ∧
      (∀ k i, pathKey k i ≠ pathKey kind id → t.path k i = s.path k i)
    (quietMode s.modeNow = false → (s.path kind id).state = 1 ∨ (s.path kind id).state = 2 →
      ((bindObject kind id s).1 ≠ .ok → answers (.bind (.register who) kind id) (bindObject kind id s).1) ∧
      ((bindObject kind id s).1 = .ok →
        Completes (exec (.bind (.register who) kind id) s) (fun t =>
          (t.path kind id).state = 2 ∧ (t.path kind id).binding = s.nextBinding kind id ∧ (t.path kind id).written = false ∧
          (∀ k i, pathKey k i ≠ pathKey kind id → t.path k i = s.path k i) ∧
          t = { s with xlat := { s.xlat with leases := t.xlat.leases }, kcp := { s.kcp with paths := t.kcp.paths },
                       out := .status who R.PATH_CMD .ok :: s.out }))) ∧
    ((s.path kind id).state = 2 → armPermitted s.ruleMode kind (s.armSub kind id) = true →
      ((s.path kind id).written = false →
        ((∃ o ∈ s.names kind id, s.armed o.1 o.2 = false) → answers (.arm (.register who) kind id) .state) ∧
        ((∀ o ∈ s.names kind id, s.armed o.1 o.2 = true) → s.armCheck kind id = none →
          Completes (exec (.arm (.register who) kind id) s) (fun t =>
            armed t ∧
            (kind = 1 → ∀ a ∈ streamAddrs id, t.word a = s.nextWord a ∧ t.stagedWord a = none) ∧
            (kind = 2 ∨ kind = 3 ∨ kind = 4 →
              t = { s with kcp := { s.kcp with paths := t.kcp.paths, armCount := s.kcp.armCount + 1 },
                           out := .status who R.PATH_CMD .ok :: s.out })))) ∧
      ((s.path kind id).written = true →
        ((bindObject kind id s).1 ≠ .ok → answers (.arm (.register who) kind id) (bindObject kind id s).1) ∧
        ((bindObject kind id s).1 = .ok → (∀ o ∈ (bindObject kind id s).2.names kind id, s.armed o.1 o.2 = true) →
          (bindObject kind id s).2.armCheck kind id = none →
          Completes (exec (.arm (.register who) kind id) s) (fun t =>
            armed t ∧ (t.path kind id).binding = s.nextBinding kind id))))

/-- R119, R122: DISARM of an ARMED object that no other names returns it to BOUND, and DISARM with CASCADE first disarms every
ARMED object that names it. -/
def Sys2Proof.Claims.DisarmReturnsToBound : Prop :=
  ∀ (who : Requester) (kind id : Nat) (s : State), Permitted who R.PATH_CMD s → (pathIds kind).contains id = true →
    (s.path kind id).state = 3 →
    (s.namers kind id = [] → ∀ withCascade,
      Completes (exec (.disarm (.register who) kind id withCascade) s) (fun t =>
        (t.path kind id).state = 2 ∧ (∀ k i, pathKey k i ≠ pathKey kind id → t.path k i = s.path k i) ∧
        (kind = 2 ∨ kind = 3 → t.regs = s.regs ∧ t.staged = s.staged ∧ SameMemory s t))) ∧
    Completes (exec (.disarm (.register who) kind id true) s) (fun t =>
      (t.path kind id).state = 2 ∧ ∀ o ∈ s.namers kind id, t.armed o.1 o.2 = false)

/-- R119, R122, R123: an action from a state that is not listed for it answers STATE, DECLARE, BIND and ARM in a mode that
forbids them MODE, and DISARM without CASCADE, UNBIND and UNDECLARE of an object that another names IN_USE; none of them
changes anything. -/
def Sys2Proof.Claims.LifecycleRefuses : Prop :=
  ∀ (who : Requester) (kind id : Nat) (s : State), Permitted who R.PATH_CMD s → (pathIds kind).contains id = true →
    let answers := fun (c : Instr) (st : Status) => exec c s = .next (s.emit (.status who R.PATH_CMD st))
    let o := s.path kind id
    let src := Source.register who
    (quietMode s.modeNow = true → answers (.declare src kind id) .mode ∧ answers (.bind src kind id) .mode ∧
      answers (.arm src kind id) .mode) ∧
    (quietMode s.modeNow = false → (o.state ≠ 0 → answers (.declare src kind id) .state) ∧
      (o.state ≠ 1 → o.state ≠ 2 → answers (.bind src kind id) .state)) ∧
    (armPermitted s.ruleMode kind (s.armSub kind id) = true → o.state ≠ 2 → answers (.arm src kind id) .state) ∧
    (∀ b, o.state ≠ 3 → answers (.disarm src kind id b) .state) ∧
    (o.state ≠ 2 → answers (.unbind src kind id) .state) ∧ (o.state ≠ 1 → answers (.undeclare src kind id) .state) ∧
    (s.namers kind id ≠ [] → (o.state = 3 → answers (.disarm src kind id false) .inUse) ∧
      (o.state = 2 → answers (.unbind src kind id) .inUse) ∧ (o.state = 1 → answers (.undeclare src kind id) .inUse))

/-- Path objects are declared, bound, armed, disarmed, unbound and undeclared; an action from another state, in a forbidding
mode or of a named object is refused. -/
def Obligations.ObjectsMoveThroughLifecycle : Prop :=
  Claims.LifecycleMovesObjects ∧ Claims.BindAndArm ∧ Claims.DisarmReturnsToBound ∧ Claims.LifecycleRefuses

/-- R129, R130, R132: an accepted chunk of an open transfer into a pool writes its bytes at BASE + OFFSET and no other byte;
an END of a transfer whose bytes have all arrived and whose CRC-32C matches answers OK and closes it; a GET returns the
bytes of its range. -/
def Obligations.BulkMovesBytes : Prop :=
  ∀ (n : Nat) (d : KcpDatagram) (s : State) (b : Bulk) (p : PoolRec),
    let h := putHead d.payload
    let priv := s.get (F.KCP_SESS_PRIV n)
    (NextRequest s n 8 d → 2 ≤ priv → 32 ≤ d.payload.length → s.headCheck priv h = none →
      s.kcp.bulks.find? (fun x => x.slot == n && x.id == h.id) = some b → s.now < b.lastChunk + 10000000000 →
      b.agrees h = true → b.fuller = false → b.target = 2 → s.pool b.pool = some p →
      (h.isEnd = false → s.dataCheck (s.session n).maxPayload h = none →
        Completes (exec (.bulkPut d) s) (fun t =>
          Responds s t n 8 d .ok [] ∧ t.hbmRead (poolBase p + (b.base + h.offset)) h.data.length = h.data ∧
          (∀ a, a < poolBase p + (b.base + h.offset) ∨ poolBase p + (b.base + h.offset) + h.data.length ≤ a →
            cellGet ramBlank t.hbm a = cellGet ramBlank s.hbm a) ∧
          t.flash = s.flash ∧ t.sram = s.sram ∧ ∀ a, a ≠ R.KCP_SESS n → t.word a = s.word a)) ∧
      (h.isEnd = true → h.data = [] → h.offset / 2 ^ 32 = 0 → b.total ≤ firstMissing 0 b.data →
        crc32c (b.data.map (fun e => e.2.getD 0)) = h.offset →
        Completes (exec (.bulkEnd d) s) (fun t =>
          Responds s t n 8 d .ok [] ∧ (∀ x ∈ t.kcp.bulks, x.slot ≠ b.slot ∨ x.id ≠ b.id) ∧
          (∀ x ∈ s.kcp.bulks, x.slot ≠ b.slot ∨ x.id ≠ b.id → x ∈ t.kcp.bulks) ∧ SameMemory s t ∧
          ∀ a, a ≠ R.KCP_SESS n → t.word a = s.word a))) ∧
    (∀ (pool : Byte) (base offset len : Nat), NextRequest s n 9 d → base < 2 ^ 64 → offset < 2 ^ 64 → len < 2 ^ 32 →
      d.payload = [2, pool, 0, 0] ++ leBytes base 8 ++ leBytes offset 8 ++ leBytes len 4 → s.pool pool.toNat = some p →
      len ≠ 0 → len + 8 ≤ (s.session n).maxPayload → base + offset + len ≤ poolBytes p →
      s.hbmPoisoned (poolBase p + (base + offset)) len = false →
      Completes (exec (.bulkGet d) s) (fun t =>
        Responds s t n 9 d .ok (leBytes len 8 ++ s.hbmRead (poolBase p + (base + offset)) len) ∧ SameMemory s t ∧
        ∀ a, a ≠ R.KCP_SESS n → t.word a = s.word a)) ∧
    (∀ slot : Fin 8, live s = true → s.kcp.bulks.find? (fun x => x.slot == slot.val && x.id == b.id) = some b →
      b.lastChunk + 10000000000 ≤ s.now → b.fuller = false →
      Completes (exec (.bulkTimeout slot b.id) s) (fun t =>
        t = { s with kcp := { s.kcp with bulks := s.kcp.bulks.filter (fun x => x.slot != b.slot || x.id != b.id) } }))

/-! ## spec/17_events_errors.md -/

/-- R496: a claim of a pending source that is not active makes it active, records the target and clears PENDING of an edge
source; a claim of a source that is not pending answers STATE, of one that is active IN_USE. No other source's PENDING or
ACTIVE changes, and nothing outside the event controller does. -/
def Sys2Proof.Claims.ClaimTakesSource : Prop :=
  ∀ (who : Requester) (v : Word) (s : State), Permitted who R.EVT_CLAIM s →
    let src := wordField v F.EVT_CLAIM_SOURCE
    (s.isPending src = false → exec (.evtClaim who v) s = .next (s.emit (.status who R.EVT_CLAIM .state))) ∧
    (s.isPending src = true → s.isActive src = true →
      exec (.evtClaim who v) s = .next (s.emit (.status who R.EVT_CLAIM .inUse))) ∧
    (s.isPending src = true → s.isActive src = false →
      Completes (exec (.evtClaim who v) s) (fun t =>
        t.isActive src = true ∧ t.isPending src = isLevel src ∧
        tabFind t.evt.claimer src = some (wordField v F.EVT_CLAIM_TARGET) ∧
        (∀ x, x < 1024 → x ≠ src → t.isPending x = s.isPending x ∧ t.isActive x = s.isActive x) ∧
        t.out = .status who R.EVT_CLAIM .ok :: s.out ∧ EvtOnly { s with out := t.out } t))

/-- R497: the completion of an active source ends ACTIVE; that of another source is answered OK and counted as stray. No
other source's PENDING or ACTIVE changes, and nothing outside the event controller does. -/
def Sys2Proof.Claims.DoneCompletesSource : Prop :=
  ∀ (who : Requester) (v : Word) (s : State), Permitted who R.EVT_DONE s →
    let src := wordField v F.EVT_DONE_SOURCE
    Completes (exec (.evtDone who v) s) (fun t =>
      t.isActive src = false ∧
      (∀ x, x < 1024 → t.isPending x = s.isPending x ∧ (x ≠ src → t.isActive x = s.isActive x)) ∧
      (s.isActive src = true → t.word R.EVT_STRAY = s.word R.EVT_STRAY) ∧
      (s.isActive src = false → t.get F.EVT_STRAY_COUNT = min 0xFFFF (s.get F.EVT_STRAY_COUNT + 1) ∧
        t.get F.EVT_STRAY_LAST = src) ∧
      t.out = .status who R.EVT_DONE .ok :: s.out ∧ EvtOnly { s with out := t.out } t)

/-- R494: a write of EVT_PENDn clears PENDING of the edge sources whose bits are 1, and of no other source. -/
def Sys2Proof.Claims.PendClearsEdges : Prop :=
  ∀ (who : Requester) (n : Fin 32) (v : Word) (s : State), Permitted who (R.EVT_PEND n.val) s →
    Completes (exec (.evtPendClear who n v) s) (fun t =>
      (∀ x, x < 1024 → t.isPending x =
        (s.isPending x && !(decide (x / 32 = n.val) && v.toNat.testBit (x % 32) && !isLevel x))) ∧
      t.out = .status who (R.EVT_PEND n.val) .ok :: s.out ∧ t = { s with regs := t.regs, out := t.out } ∧
      ∀ a, a ≠ R.EVT_PEND n.val → t.word a = s.word a)

/-- A source is claimed and completed, and an edge source can be cleared. -/
def Obligations.SourcesAreClaimedAndCompleted : Prop :=
  Claims.ClaimTakesSource ∧ Claims.DoneCompletesSource ∧ Claims.PendClearsEdges

/-- R504: software raises each of the sources 992 to 1,007 whose bit is 1 in EVT_SWSET, and EVT_SWLEVEL sets and clears the
conditions of sources 1,008 to 1,023; no other source but LOG_DROP changes its PENDING. -/
def Obligations.SoftwareRaisesSources : Prop :=
  ∀ (who : Requester) (v : Word) (s : State),
    (Permitted who R.EVT_SWSET s →
      Completes (exec (.evtSwset who v) s) (fun t =>
        (∀ x, x < 1024 → x ≠ 960 → t.isPending x =
          (s.isPending x || (decide (992 ≤ x ∧ x ≤ 1007) && v.toNat.testBit (x - 992)))) ∧
        t.out = .status who R.EVT_SWSET .ok :: s.out ∧ EvtOnly { s with out := t.out } t)) ∧
    (Permitted who R.EVT_SWLEVEL s →
      Completes (exec (.evtSwlevel who v) s) (fun t =>
        (∀ x, x < 1024 → x ≠ 960 → t.isPending x =
          (if 1008 ≤ x ∧ x ≤ 1023 then v.toNat.testBit (x - 1008) else s.isPending x)) ∧
        t.get F.EVT_SWLEVEL_CONDITION = wordField v F.EVT_SWLEVEL_CONDITION ∧
        t.out = .status who R.EVT_SWLEVEL .ok :: s.out ∧ EvtOnly { s with out := t.out } t))

/-- R493, R507: an arrival at a source whose group logs, with no queued entry of its source and code, sets PENDING, counts,
and queues one entry with the reference time and REPEAT 0. -/
def Sys2Proof.Claims.RaiseQueuesEntry : Prop :=
  ∀ (src code detail : Nat) (s : State), src < 960 → s.flag (F.EVT_GRP_LOG (src / 16)) = true →
    s.evt.queue.length < 64 → (∀ e ∈ s.evt.queue, e.source ≠ src ∨ e.code ≠ code) →
    let t := raiseWith src code detail s
    t.isPending src = true ∧
    t.get (F.EVT_CNT_COUNT (src / 4) (src % 4)) = min 255 (s.get (F.EVT_CNT_COUNT (src / 4) (src % 4)) + 1) ∧
    t.evt.queue.length = s.evt.queue.length + 1 ∧ t.get F.ERRLOG_STATUS_QUEUED = s.evt.queue.length + 1 ∧
    (∃ e ∈ t.evt.queue, e.source = src ∧ e.code = code ∧ e.detail = detail ∧ e.at_ = s.now ∧ e.repeat_ = 0) ∧
    (∀ e ∈ s.evt.queue, e ∈ t.evt.queue)

/-- R507, R508: an entry that has waited 1 µs passes to the ring at 32 × (ERRLOG_WR mod 4,096) of the error-log pool, and
ERRLOG_WR counts on; no other byte of any memory changes. -/
def Sys2Proof.Claims.EntryReachesRing : Prop :=
  ∀ (e : LogEntry) (rest : List LogEntry) (p : PoolRec) (s : State), live s = true → s.evt.queue = e :: rest →
    s.lowestPool 4 = some p → e.at_ + 1000 ≤ s.now → s.flag F.ERRLOG_STATUS_FULL = false →
    let n := (s.word R.ERRLOG_WR).toNat
    let base := poolBase p + 32 * (n % 4096)
    Completes (exec .errlogEntryWrite s) (fun t =>
      t.word R.ERRLOG_WR = BitVec.ofNat 32 (n + 1) ∧ t.evt.queue = rest ∧
      t.hbmRead base 32 = entryBytes n e ∧
      (∀ a, a < base ∨ base + 32 ≤ a → cellGet ramBlank t.hbm a = cellGet ramBlank s.hbm a) ∧
      t.flash = s.flash ∧ t.sram = s.sram ∧ ∀ a, evtAddr a = false → t.word a = s.word a)

/-- R508: a value from ERRLOG_RD to ERRLOG_WR frees the entries before it; any other is refused with VALUE. -/
def Sys2Proof.Claims.ErrlogReadPointer : Prop :=
  ∀ (who : Requester) (v : Word) (s : State), Permitted who R.ERRLOG_RD s →
    ((v - s.word R.ERRLOG_RD).toNat ≤ (s.word R.ERRLOG_WR - s.word R.ERRLOG_RD).toNat →
      Completes (exec (.errlogRdWrite who v) s) (fun t =>
        t.word R.ERRLOG_RD = v ∧ t.word R.ERRLOG_WR = s.word R.ERRLOG_WR ∧
        t.get F.ERRLOG_STATUS_FILL = (s.word R.ERRLOG_WR - v).toNat % 2 ^ 13 ∧
        t.out = .status who R.ERRLOG_RD .ok :: s.out ∧ EvtOnly { s with out := t.out } t)) ∧
    ((s.word R.ERRLOG_WR - s.word R.ERRLOG_RD).toNat < (v - s.word R.ERRLOG_RD).toNat →
      exec (.errlogRdWrite who v) s = .next (s.emit (.status who R.ERRLOG_RD .value)))

/-- A report queues an entry, the entry reaches the ring, and the read pointer frees it. -/
def Obligations.ErrorLogFillsRing : Prop :=
  Claims.RaiseQueuesEntry ∧ Claims.EntryReachesRing ∧ Claims.ErrlogReadPointer

/-- R500: a host channel binds to the writing session and takes REPEAT_MS; while it is bound, another requester's write
answers IN_USE; a write of BIND 0 by its session unbinds it. -/
def Sys2Proof.Claims.HostChannelBinds : Prop :=
  ∀ (slot : Fin 8) (who : Requester) (c : Fin 4) (v : Word) (s : State),
    let t4 := 4 + c.val
    (Permitted (.session slot) (R.EVT_HOST t4) s → s.flag (F.EVT_HOST_BIND t4) = false →
      wordField v (F.EVT_HOST_BIND t4) = 1 →
      Completes (exec (.evtHostWrite (.session slot) c v) s) (fun t =>
        t.flag (F.EVT_HOST_BIND t4) = true ∧ t.get (F.EVT_HOST_SESSION t4) = slot.val ∧
        t.get (F.EVT_HOST_REPEAT_MS t4) = wordField v (F.EVT_HOST_REPEAT_MS t4) ∧
        t = { s with regs := t.regs, kcp := { s.kcp with channels := tabErase s.kcp.channels t4 },
                     out := .status (.session slot) (R.EVT_HOST t4) .ok :: s.out } ∧
        ∀ a, a ≠ R.EVT_HOST t4 → t.word a = s.word a)) ∧
    (Permitted (.session slot) (R.EVT_HOST t4) s → s.flag (F.EVT_HOST_BIND t4) = true →
      s.get (F.EVT_HOST_SESSION t4) = slot.val → wordField v (F.EVT_HOST_BIND t4) = 0 →
      Completes (exec (.evtHostWrite (.session slot) c v) s) (fun t =>
        t.flag (F.EVT_HOST_BIND t4) = false ∧
        t.get (F.EVT_HOST_REPEAT_MS t4) = wordField v (F.EVT_HOST_REPEAT_MS t4) ∧
        ∀ a, a ≠ R.EVT_HOST t4 → t.word a = s.word a)) ∧
    (Permitted who (R.EVT_HOST t4) s → s.flag (F.EVT_HOST_BIND t4) = true →
      (∀ n, who = .session n → s.get (F.EVT_HOST_SESSION t4) ≠ n.val) →
      exec (.evtHostWrite who c v) s = .next (s.emit (.status who (R.EVT_HOST t4) .inUse)))

/-- R501: at its end a window of a group with HOLDOFF 0 releases the sources it held; the windows and held sources of other
groups stay, and no source's PENDING changes. -/
def Sys2Proof.Claims.WindowReleasesHeld : Prop :=
  ∀ (g : Fin 64) (end_ : Nat) (s : State), live s = true → tabGet none s.evt.window g.val = some end_ → end_ ≤ s.now →
    s.get (F.EVT_GRP_HOLDOFF g.val) = 0 →
    Completes (exec (.holdoffWindowEnd g) s) (fun t =>
      tabGet none t.evt.window g.val = none ∧ t.get (F.EVT_GRP_HELD g.val) = 0 ∧
      (∀ x, x ∈ t.evt.held ↔ x ∈ s.evt.held ∧ x / 16 ≠ g.val) ∧
      (∀ h, h ≠ g.val → tabGet none t.evt.window h = tabGet none s.evt.window h) ∧
      (∀ x, x < 1024 → t.isPending x = s.isPending x) ∧ EvtOnly s t ∧
      ∀ a, a ≠ R.EVT_GRP g.val → t.word a = s.word a)

/-- A host channel belongs to one session, and the end of a window releases what it held. -/
def Obligations.HostChannelsAndWindows : Prop :=
  Claims.HostChannelBinds ∧ Claims.WindowReleasesHeld

/-! ## spec/18_modes_power_thermal.md -/

/-- R513, R515: a permitted request, with no object ARMED, is answered OK as it starts: PENDING is 1, TARGET holds the mode
requested, MODE stays, and the panel is held where the new mode holds it. A request for the mode in force does nothing;
0x0, 0x1, 0xB and 0xC answer MODE, 0xE and 0xF VALUE, a request while PENDING is 1 BUSY, any other MODE. -/
def Sys2Proof.Claims.ModeRequestAnswers : Prop :=
  ∀ (who : Requester) (m : Fin 16) (s : State), Permitted who R.CHIP_MODEREQ s →
    (if m.val = 2 then 3 else 2) ≤ s.privilege who →
    (14 ≤ m.val → exec (.modeRequest (.register who) m) s = .next (s.emit (.status who R.CHIP_MODEREQ .value))) ∧
    (m.val ∈ [0x0, 0x1, 0xB, 0xC] → s.flag F.CHIP_MODE_PENDING = false →
      exec (.modeRequest (.register who) m) s = .next (s.emit (.status who R.CHIP_MODEREQ .mode))) ∧
    (m.val < 14 → s.flag F.CHIP_MODE_PENDING = true →
      exec (.modeRequest (.register who) m) s = .next (s.emit (.status who R.CHIP_MODEREQ .busy))) ∧
    (m.val ∉ [0x0, 0x1, 0xB, 0xC, 0xE, 0xF] → s.flag F.CHIP_MODE_PENDING = false → s.testRuns = false →
      (m.val = s.modeNow → exec (.modeRequest (.register who) m) s = .next (s.emit (.status who R.CHIP_MODEREQ .ok))) ∧
      (s.modeNow ≠ 0xB → m.val ≠ s.modeNow → s.requestPermitted m.val = false →
        exec (.modeRequest (.register who) m) s = .next (s.emit (.status who R.CHIP_MODEREQ .mode))) ∧
      (s.modeNow ≠ 0xB → m.val ≠ s.modeNow → s.requestPermitted m.val = true → s.armedObjects = [] →
        Completes (exec (.modeRequest (.register who) m) s) (fun t =>
          t.out.head? = some (.status who R.CHIP_MODEREQ .ok) ∧ t.get F.CHIP_MODE_PENDING = 1 ∧
          t.get F.CHIP_MODE_TARGET = m.val ∧ t.modeNow = s.modeNow ∧
          (heldMode m.val = true → t.panel.holding = true) ∧ SameMemory s t)))

/-- R515, R529: between display modes, IDLE_HOLD and CALIBRATE, with no object ARMED, no descriptor pending and no record
waiting, a transition completes: MODE takes the target, or THROTTLED where the target is a display mode and throttle is set;
BASE takes the target, PENDING returns to 0, and MODE_CHANGED becomes pending. -/
def Sys2Proof.Claims.TransitionCompletes : Prop :=
  ∀ s : State, live s = true → s.flag F.CHIP_MODE_PENDING = true → s.mode.safeAt = none → s.armedObjects = [] →
    s.modeNow ∈ [4, 5, 6, 7, 8, 9, 13] → s.get F.CHIP_MODE_TARGET ∈ [4, 5, 6, 7, 8, 9, 13] →
    s.flag F.GEOM_STATUS_PENDING = false → s.siz.epoch = [] →
    Completes (exec .modeTransitionComplete s) (fun t =>
      t.modeNow = (if displayMode (s.get F.CHIP_MODE_TARGET) && s.mode.throttle then 0xB else s.get F.CHIP_MODE_TARGET) ∧
      t.get F.CHIP_MODE_BASE = s.get F.CHIP_MODE_TARGET ∧ t.get F.CHIP_MODE_PENDING = 0 ∧ t.isPending 0 = true ∧
      SameMemory s t)

/-- R517: in STANDBY and SAFE, once the panel shows that it holds, or 1 ms after the hold began, the panel link is stopped in
electrical idle and its TX groups are off; sooner, in another mode, or when that has been done, nothing happens. -/
def Sys2Proof.Claims.HeldPanelStops : Prop :=
  ∀ s : State, live s = true →
    let off := s.modeNow = 0x3 ∨ s.modeNow = 0xC
    let held := s.flag F.PANEL_STATUS_HOLDING = true ∨ s.panel.holdAt.getD 0 + 1000000 ≤ s.now
    (off → s.mode.txOff = false → held → s.panel.opened = none → (s.link 0).stopped = false →
      Completes (exec .holdWaitTimeout s) (fun t =>
        t.mode = { s.mode with txOff := true } ∧ t.linkState 0 = 0 ∧ (t.link 0).stopped = true ∧
        t.out.head? = some (.laneSet 0 "ELECTRICAL_IDLE" 0) ∧ (∀ n, n ≠ 0 → t.link n = s.link n) ∧ SameMemory s t)) ∧
    (¬ off ∨ s.mode.txOff = true ∨ ¬ held → exec .holdWaitTimeout s = .next s)

/-- A mode request is answered, its transition completes, and in STANDBY and SAFE the held panel stops. -/
def Obligations.ModesChangeOnRequest : Prop :=
  Claims.ModeRequestAnswers ∧ Claims.TransitionCompletes ∧ Claims.HeldPanelStops

/-- R531, R516: a silent region error manager and an uncorrectable error in control-core memory decide on SAFE: with no
object ARMED, PENDING is 1 with TARGET 0xC while MODE stays, the panel is held, the cause waits, and FATAL becomes pending.
A restart of a control core only raises its source. -/
def Sys2Proof.Claims.ChipErrorsDecideSafe : Prop :=
  ∀ (region : Fin 16) (core : Fin 4) (s : State), live s = true →
    Completes (exec (.ccRestart core) s) (fun t => EvtOnly s t ∧ t.isPending 970 = true) ∧
    (s.modeNow ≠ 0x1 → s.modeNow ≠ 0xC → s.mode.safeAt = none → s.armedObjects = [] →
      Completes (exec (.rmSilent region) s) (fun t =>
        t.get F.CHIP_MODE_PENDING = 1 ∧ t.get F.CHIP_MODE_TARGET = 0xC ∧ t.modeNow = s.modeNow ∧ t.panel.holding = true ∧
        t.mode.safeAt = some s.now ∧ t.mode.safeCause = 4 ∧ t.isPending 969 = true ∧ t.isPending 968 = true ∧
        SameMemory s t) ∧
      Completes (exec .controlCoreMemoryError s) (fun t =>
        t.get F.CHIP_MODE_PENDING = 1 ∧ t.get F.CHIP_MODE_TARGET = 0xC ∧ t.modeNow = s.modeNow ∧ t.panel.holding = true ∧
        t.mode.safeAt = some s.now ∧ t.mode.safeCause = 6 ∧ t.isPending 968 = true ∧ SameMemory s t))

/-- R526, R530: a fast reading of 110 °C or more from an unbroken region sensor that is read fast sets shutdown: with no
object ARMED, TEMP_SHUTDOWN becomes pending and SAFE is decided with cause 1. -/
def Sys2Proof.Claims.HotReadingShutsDown : Prop :=
  ∀ (readings : List (Option Int)) (n : Nat) (v : Int) (s : State), live s = true → n < 16 →
    s.readFast n = true → s.broken n = false → readings.getD n none = some v → 440 ≤ v → v ≤ 600 →
    tabFind s.siz.inForce (sizKey 1 0) = none → s.mode.shutdown = false →
    s.modeNow ≠ 0x1 → s.modeNow ≠ 0xC → s.mode.safeAt = none → s.armedObjects = [] →
    Completes (exec (.fastSensorRead readings) s) (fun t =>
      t.mode.shutdown = true ∧ t.isPending 18 = true ∧ t.mode.safeAt = some s.now ∧ t.mode.safeCause = 1 ∧
      t.get (F.THERM_SENS_RAW n) = patternOf 12 v ∧ t.get F.CHIP_MODE_TARGET = 0xC)

/-- The errors that bring SAFE, and a shutdown temperature, decide on it. -/
def Obligations.SafeIsDecided : Prop :=
  Claims.ChipErrorsDecideSafe ∧ Claims.HotReadingShutsDown

/-- R523: a housekeeping round in which no rail lies outside ±10 % shows the rails outside ±5 % in PWR_SUPPLY, and
SUPPLY_WARN is pending exactly while there is one. -/
def Sys2Proof.Claims.HousekeepingReadsRails : Prop :=
  ∀ (readings : List (Option Int)) (warn : Fin 128) (s : State), live s = true →
    Completes (exec (.housekeepingRound readings warn 0) s) (fun t =>
      t.get F.PWR_SUPPLY_WARN = warn.val ∧ t.get F.PWR_SUPPLY_FAULT = 0 ∧ (t.isPending 23 = true ↔ warn.val ≠ 0))

/-- R526, R527: a condition that holds clears only below its threshold minus the hysteresis, and one that does not sets at
its threshold; a band never lies below that of its value, falls only 2 °C below its lower bound, and depends on nothing
else. -/
def Sys2Proof.Claims.ThresholdsHaveHysteresis : Prop :=
  (∀ (on : Bool) (v threshold : Int) (d : Nat),
    (threshold ≤ v → hysteresis on v threshold d = true) ∧
    (v < threshold - 4 * d → hysteresis on v threshold d = false) ∧
    (threshold - 4 * d ≤ v → v < threshold → hysteresis on v threshold d = on)) ∧
  (∀ (now : Nat) (v : Int), now ≤ 3 →
    bandOf now v ≤ 3 ∧
    (∀ b, 1 ≤ b → b ≤ 3 → bandBound b ≤ v → b ≤ bandOf now v) ∧
    (∀ b, 1 ≤ b → b ≤ now → bandBound b - 8 ≤ v → (∀ c, b < c → c ≤ 3 → v < bandBound c - 8) → bandOf now v = b) ∧
    (v < bandBound 1 - 8 → bandOf now v = 0))

/-- Housekeeping shows the rails, and thresholds and bands have hysteresis. -/
def Obligations.TemperatureAndRailsAreRead : Prop :=
  Claims.HousekeepingReadsRails ∧ Claims.ThresholdsHaveHysteresis

/-- R519, R582: the completion of an operating-point change lets the block's set point show; an on-demand engine domain that
its condition asks for is up, and a plank operation or fuller job that waited for it begins; any other domain's report
changes nothing. -/
def Obligations.PowerChangesComplete : Prop :=
  (∀ (k : Fin 64) (s : State), live s = true →
    Completes (exec (.dvfsChangeDone k) s) (fun t =>
      t = { s with mode := { s.mode with changing := t.mode.changing } } ∧ tabGet none t.mode.changing k.val = none ∧
      (∀ j, j ≠ k.val → tabGet none t.mode.changing j = tabGet none s.mode.changing j))) ∧
  (∀ (d : Fin 120) (s : State), live s = true →
    (s.domainValue d.val ≠ 2 ∨ d.val < 80 ∨ 93 ≤ d.val ∨ s.demand d.val = false ∨ quietMode s.modeNow = true →
      exec (.powerDomainUp d) s = .next s) ∧
    (s.domainValue d.val = 2 → 80 ≤ d.val → d.val < 93 → s.demand d.val = true → quietMode s.modeNow = false →
      Completes (exec (.powerDomainUp d) s) (fun t =>
        (∀ e, e ∈ t.mode.up ↔ e = d.val ∨ e ∈ s.mode.up) ∧
        t = { s with mode := { s.mode with up := t.mode.up }, plank := t.plank, fuller := t.fuller, regs := t.regs } ∧
        (d.val < 89 → t.plank = s.plank ∧ t.fuller = s.fuller ∧ t.regs = s.regs) ∧
        (∀ n o, d.val = 89 + n → n < 2 → tabGet none s.plank n = some o →
          tabGet none t.plank n = some { o with waiting := false } ∧ t.regs = s.regs) ∧
        (∀ n j, d.val = 91 + n → n < 2 → s.fulJob n = some j → j.state = 1 →
          t.fulJob n = some { j with state := 2 } ∧ t.get (F.FUL_STATUS_STATE n) = 2))))

/-- R573: a pulse on RESET_N of 2 µs or more leaves every register at its reset value but CHIP_BOOTTIME.CAUSE, with nothing
staged, no session and no object; flash that is not being written, the fuses and the TAP stay. A pulse below 0.5 µs is
ignored, and one between does the one or the other. -/
def Sys2Proof.Claims.ResetPulseClears : Prop :=
  ∀ (ns : Nat) (s : State),
    (ns < 500 → exec (.resetAssert ns) s = .next s) ∧
    (2000 ≤ ns → Completes (exec (.resetAssert ns) s) (fun t =>
      t.pins.inReset = true ∧ t.get F.CHIP_BOOTTIME_CAUSE = 1 ∧ (∀ a, a ≠ R.CHIP_BOOTTIME → t.word a = regReset a) ∧
      t.staged = [] ∧ t.kcp = {} ∧ t.hbm = [] ∧ t.sram = [] ∧ t.struct = {} ∧ t.evt = {} ∧
      (s.siz.op ≠ 2 → t.flash = s.flash) ∧ t.fuses = s.fuses ∧ t.tap = s.tap)) ∧
    (500 ≤ ns → ns < 2000 → Completes (exec (.resetAssert ns) s) (fun t =>
      t = { s with free := s.free + 1 } ∨ (t.pins.inReset = true ∧ ∀ a, a ≠ R.CHIP_BOOTTIME → t.word a = regReset a)))

/-- R568: without REFCLK_SYS the Q9 stands reset with cause 2, and commands from outside do nothing until it returns. -/
def Sys2Proof.Claims.ClockLossResets : Prop :=
  ∀ s : State, s.pins.inReset = false →
    Completes (exec .refclkSysLoss s) (fun t =>
      t.pins.refSys = false ∧ t.get F.CHIP_BOOTTIME_CAUSE = 2 ∧ (∀ a, a ≠ R.CHIP_BOOTTIME → t.word a = regReset a) ∧
      (s.siz.op ≠ 2 → t.flash = s.flash) ∧ t.fuses = s.fuses ∧ live t = false ∧
      ∀ (who : Requester) (addr : Nat) (v : Word), exec (.registerWrite who 32 addr v) t = .next t)

/-- R569, R574: after release, and after REFCLK_SYS returns, TEST_EN keeps the Q9 in BOOT with its straps sampled and only
the TAP at work; without it the boot goes on to the load of an image, or stays at step 5 while a stack has no rate. -/
def Sys2Proof.Claims.BootRunsAfterRelease : Prop :=
  ∀ (tile : Fin 4) (sdr sfdp : Bool) (r0 r1 : Fin 16) (s : State),
    (s.pins.inReset = true → s.pins.refSys = true →
      Completes (exec (.resetRelease tile sdr true sfdp r0 r1) s) (fun t =>
        live t = false ∧ t.pins.inReset = false ∧ t.get F.CHIP_STRAPS_TILE_ID = tile.val ∧
        t.get F.CHIP_STRAPS_FLASH_SDR = bit sdr ∧ t.get F.AFL_TILE_STATUS_TILE_ID = tile.val ∧ t.modeNow = s.modeNow) ∧
      Completes (exec (.resetRelease tile sdr false sfdp r0 r1) s) (fun t =>
        (t.pins.bootStep = 6 ∧ t.flag F.IMG_STATUS_BUSY = true ∧ ∃ l, t.struct.load = some l ∧ l.boot = true) ∨
        (t.pins.bootStep = 5 ∧ t.memoryRuns = false))) ∧
    (s.pins.inReset = false → s.pins.refSys = false →
      Completes (exec (.refclkSysReturn tile sdr false sfdp r0 r1) s) (fun t =>
        (t.pins.bootStep = 6 ∧ t.flag F.IMG_STATUS_BUSY = true ∧ ∃ l, t.struct.load = some l ∧ l.boot = true) ∨
        (t.pins.bootStep = 5 ∧ t.memoryRuns = false)))

/-- RESET_N and the loss of REFCLK_SYS reset the Q9; after the release it boots. -/
def Obligations.ResetClearsAndBoots : Prop :=
  Claims.ResetPulseClears ∧ Claims.ClockLossResets ∧ Claims.BootRunsAfterRelease

/-! ## spec/04_ethernet_ingest.md -/

/-- R142, R158: a port's link that comes up or goes down shows it in ETH_STATUS and raises LINK_UP or LINK_DOWN; a PRIMARY
port that goes down, or that has had no batt for TIMEOUT while an armed stream names it, is declared LOST; sooner, nothing
happens. Nothing else changes. -/
def Sys2Proof.Claims.PortsFollowTheirLinks : Prop :=
  ∀ (n : Fin 4) (s : State), live s = true →
    (s.get (F.ETH_CFG_SPEED n.val) ≠ 0 → 5 ≤ s.pins.bootStep → s.get (F.ETH_STATUS_LINK n.val) = 0 →
      Completes (exec (.ethLinkUp n) s) (fun t =>
        t.get (F.ETH_STATUS_LINK n.val) = 1 ∧ t.get (F.ETH_STATUS_FEC_LOCK n.val) = 1 ∧
        t.get (F.ETH_STATUS_LOST n.val) = s.get (F.ETH_STATUS_LOST n.val) ∧ t.isPending (portSource n.val 0) = true ∧
        t = { s with regs := t.regs, evt := t.evt } ∧
        ∀ a, evtAddr a = false → a ≠ R.ETH_STATUS n.val → t.word a = s.word a)) ∧
    (s.get (F.ETH_STATUS_LINK n.val) = 1 →
      Completes (exec (.ethLinkDown n) s) (fun t =>
        t.get (F.ETH_STATUS_LINK n.val) = 0 ∧ t.get (F.ETH_STATUS_FEC_LOCK n.val) = 0 ∧
        t.get (F.ETH_STATUS_LOST n.val) =
          (if s.get (F.ETH_ROLE_ROLE n.val) = 1 then 1 else s.get (F.ETH_STATUS_LOST n.val)) ∧
        t.isPending (portSource n.val 1) = true ∧ t = { s with regs := t.regs, evt := t.evt } ∧
        ∀ a, evtAddr a = false → a ≠ R.ETH_STATUS n.val → t.word a = s.word a)) ∧
    (s.portNamed n.val = true → s.get (F.ETH_ROLE_ROLE n.val) = 1 → s.get (F.ETH_STATUS_LOST n.val) = 0 →
      let due := (s.port n.val).lastBatt + 1000000 * s.get (F.ETH_ROLE_TIMEOUT n.val)
      (due ≤ s.now → Completes (exec (.primaryTimeout n) s) (fun t =>
        t.get (F.ETH_STATUS_LOST n.val) = 1 ∧ t.get (F.ETH_STATUS_LINK n.val) = s.get (F.ETH_STATUS_LINK n.val) ∧
        t.isPending (portSource n.val 8) = true ∧ t = { s with regs := t.regs, evt := t.evt } ∧
        ∀ a, evtAddr a = false → a ≠ R.ETH_STATUS n.val → t.word a = s.word a)) ∧
      (s.now < due → exec (.primaryTimeout n) s = .next s))

/-- R138, R142, R143: an unnamed port takes ETH_CFG and ETH_ROLE, a change of SPEED taking the link down; while an armed
stream names it, ETH_ROLE and a change of SPEED answer IN_USE; VLAN 1 with VID 0 or 4,095, a
reserved ROLE and a TIMEOUT outside 1 to 1,000 answer VALUE.
A write of ETH_IP6_3 puts the IPv6 address of the four words into effect. -/
def Sys2Proof.Claims.PortRegistersTakeForce : Prop :=
  ∀ (who : Requester) (n : Fin 4) (v : Word) (s : State),
    (Permitted who (R.ETH_CFG n.val) s → s.portNamed n.val = false →
      ¬ (wordField v (F.ETH_CFG_VLAN n.val) = 1 ∧
        (wordField v (F.ETH_CFG_VID n.val) = 0 ∨ wordField v (F.ETH_CFG_VID n.val) = 4095)) →
      Completes (exec (.ethCfgWrite who n v) s) (fun t =>
        (∀ f ∈ [F.ETH_CFG_SPEED n.val, F.ETH_CFG_VLAN n.val, F.ETH_CFG_VID n.val, F.ETH_CFG_PCP n.val, F.ETH_CFG_PFC_EN n.val],
          t.get f = wordField v f) ∧
        t.get (F.ETH_STATUS_LINK n.val) =
          (if wordField v (F.ETH_CFG_SPEED n.val) = s.get (F.ETH_CFG_SPEED n.val) then s.get (F.ETH_STATUS_LINK n.val) else 0) ∧
        t = { s with regs := t.regs, evt := t.evt, out := .status who (R.ETH_CFG n.val) .ok :: s.out } ∧
        ∀ a, evtAddr a = false → a ≠ R.ETH_STATUS n.val → a ≠ R.ETH_CFG n.val → t.word a = s.word a)) ∧
    (Permitted who (R.ETH_CFG n.val) s → s.portNamed n.val = true →
      wordField v (F.ETH_CFG_SPEED n.val) ≠ s.get (F.ETH_CFG_SPEED n.val) →
      exec (.ethCfgWrite who n v) s = .next (s.emit (.status who (R.ETH_CFG n.val) .inUse))) ∧
    (Permitted who (R.ETH_CFG n.val) s → s.portNamed n.val = false → wordField v (F.ETH_CFG_VLAN n.val) = 1 →
      wordField v (F.ETH_CFG_VID n.val) = 0 ∨ wordField v (F.ETH_CFG_VID n.val) = 4095 →
      exec (.ethCfgWrite who n v) s = .next (s.emit (.status who (R.ETH_CFG n.val) .value))) ∧
    (Permitted who (R.ETH_ROLE n.val) s → s.portNamed n.val = false → s.armed 5 0 = false →
      (wordField v (F.ETH_ROLE_ROLE n.val) < 5 → 1 ≤ wordField v (F.ETH_ROLE_TIMEOUT n.val) →
        wordField v (F.ETH_ROLE_TIMEOUT n.val) ≤ 1000 →
        Completes (exec (.ethRoleWrite who n v) s) (fun t =>
          (∀ f ∈ [F.ETH_ROLE_ROLE n.val, F.ETH_ROLE_MIRROR n.val, F.ETH_ROLE_TIMEOUT n.val], t.get f = wordField v f) ∧
          (wordField v (F.ETH_ROLE_ROLE n.val) ≠ 1 → t.get (F.ETH_STATUS_LOST n.val) = 0) ∧
          t = { s with regs := t.regs, out := .status who (R.ETH_ROLE n.val) .ok :: s.out } ∧
          ∀ a, a ≠ R.ETH_STATUS n.val → a ≠ R.ETH_ROLE n.val → t.word a = s.word a)) ∧
      (5 ≤ wordField v (F.ETH_ROLE_ROLE n.val) ∨ wordField v (F.ETH_ROLE_TIMEOUT n.val) = 0 ∨
          1000 < wordField v (F.ETH_ROLE_TIMEOUT n.val) →
        exec (.ethRoleWrite who n v) s = .next (s.emit (.status who (R.ETH_ROLE n.val) .value)))) ∧
    (Permitted who (R.ETH_ROLE n.val) s → s.portNamed n.val = true →
      exec (.ethRoleWrite who n v) s = .next (s.emit (.status who (R.ETH_ROLE n.val) .inUse))) ∧
    (Permitted who (R.ETH_IP6_ n.val 3) s →
      Completes (exec (.ethIp6Write who n v) s) (fun t =>
        t.word (R.ETH_IP6_ n.val 3) = v ∧ (∀ a, a ≠ R.ETH_IP6_ n.val 3 → t.word a = s.word a) ∧
        (t.port n.val).ip6 = (((s.word (R.ETH_IP6_ n.val 0)).toNat * 2 ^ 32 + (s.word (R.ETH_IP6_ n.val 1)).toNat) * 2 ^ 32 +
          (s.word (R.ETH_IP6_ n.val 2)).toNat) * 2 ^ 32 + v.toNat ∧
        t = { s with regs := t.regs, ingest := (s.setPort n.val { s.port n.val with ip6 := (t.port n.val).ip6 }).ingest,
                     out := .status who (R.ETH_IP6_ n.val 3) .ok :: s.out }))

/-- A port shows its link, is declared LOST when silent, and takes its registers. -/
def Obligations.PortsFollowLinksAndRegisters : Prop :=
  Claims.PortsFollowTheirLinks ∧ Claims.PortRegistersTakeForce

/-- R134 to R139: a frame that is too long or damaged is counted in ETH_RXERR; a good one passes, and takes its queue to XOFF
when it passes 75 % of an enabled priority's 2 MiB; XON follows below 25 %; a PFC frame pauses the enabled priorities it
names for their quanta of 512 bit times, or resumes them; a request for the port's own IPv4 address is answered, one for
another's is not. A frame carries the tag that VLAN, VID and PCP ask for, and waits while its priority is paused. -/
def Obligations.FramesAreCheckedAndPaused : Prop :=
  ∀ (n : Fin 4) (f : EthFrame) (p : Fin 8) (fill mask ip src : Nat) (quanta : List Nat) (s : State), live s = true →
    s.get (F.ETH_LOOP_MODE n.val) = 0 →
    (s.get (F.ETH_STATUS_LINK n.val) = 1 → f.fecUncorr = false → 9600 < f.length ∨ f.fcsGood = false →
      Completes (exec (.ethFrameReceive n f) s) (fun t =>
        t.get (F.ETH_RXERR_COUNT n.val) = min 0xFFFFFFFF (s.get (F.ETH_RXERR_COUNT n.val) + 1) ∧
        t.isPending (portSource n.val 3) = true ∧ t = { s with regs := t.regs, evt := t.evt } ∧
        ∀ a, evtAddr a = false → a ≠ R.ETH_RXERR n.val → t.word a = s.word a)) ∧
    (s.get (F.ETH_STATUS_LINK n.val) = 1 → f.fecUncorr = false → f.length ≤ 9600 → f.fcsGood = true → f.pause = false →
      s.vlanOk n.val f = true → s.ipOk n.val f.ip = true →
      exec (.ethFrameReceive n f) s = .next
        (if (s.get (F.ETH_CFG_PFC_EN n.val)).testBit f.priority.val = true ∧ 1572864 < f.fill ∧
            f.priority.val ∉ (s.port n.val).xoff then
          (s.setPort n.val { s.port n.val with xoff := setInsert f.priority.val (s.port n.val).xoff }).emit
            (.frame n.val "pfc xoff" [BitVec.ofNat 8 f.priority.val])
        else s)) ∧
    (p.val ∈ (s.port n.val).xoff → fill < 524288 →
      Completes (exec (.pfcXon n p fill) s) (fun t =>
        p.val ∉ (t.port n.val).xoff ∧ (∀ q, q ≠ p.val → (q ∈ (t.port n.val).xoff ↔ q ∈ (s.port n.val).xoff)) ∧
        t = (s.setPort n.val { s.port n.val with xoff := (t.port n.val).xoff }).emit
          (.frame n.val "pfc xon" [BitVec.ofNat 8 p.val]))) ∧
    Completes (exec (.pfcFrameReceive n mask quanta) s) (fun t =>
      (∀ k, tabGet 0 (t.port n.val).paused k =
        if k < 8 ∧ mask.testBit k = true ∧ (s.get (F.ETH_CFG_PFC_EN n.val)).testBit k = true then
          (if quanta.getD k 0 = 0 then 0
           else s.now + ceilDiv (512 * quanta.getD k 0) (50 * 2 ^ s.get (F.ETH_CFG_SPEED n.val)))
        else tabGet 0 (s.port n.val).paused k) ∧
      t = s.setPort n.val { s.port n.val with paused := (t.port n.val).paused }) ∧
    (s.get (F.ETH_STATUS_LINK n.val) = 1 → s.hasIp4 n.val ip = true →
      exec (.addressRequestReply n (.arp ip src)) s =
        .next (sendOn n.val (.frame n.val "arp reply"
          (s.tagged n.val (beBytes src 6 ++ beBytes (s.mac n.val) 6 ++ beBytes ip 4))) s)) ∧
    (s.hasIp4 n.val ip = false → exec (.addressRequestReply n (.arp ip src)) s = .next s)

/-- R144 to R151: the first batt of an ARMED stream that has received nothing, in time and neither refused nor malformed,
opens its unit with its launch time and places its bytes or rays at their offset; the NaN channels of its RAYH rays are
counted. No other stream, port or register changes. -/
def Sys2Proof.Claims.FirstBattOpensUnit : Prop :=
  ∀ (n : Fin 4) (d : BattDatagram) (s : State), live s = true → s.get (F.ETH_LOOP_MODE n.val) = 0 →
    d.udpPort = 52160 → s.hasIp n.val d.dst = true →
    let b := parseBatt d.bytes
    s.get (F.ETH_STATUS_LINK n.val) = 1 → s.get (F.ETH_STATUS_LOST n.val) = 0 →
    battMalformed b = false → s.battRefused n.val b = false → s.battOutside b = false →
    s.stream b.streamId = {} → b.bflags.testBit 1 = false → b.bflags.testBit 2 = false →
    s.heldRaw b.streamId = [] → s.bindField 1 b.streamId (F.STRM_POOL_MAX_UNITS b.streamId) ≠ 0 →
    s.unitSpace b.streamId (s.withItems b []) ≤ s.jitterSize b.streamId →
    (match battLaunch b with
      | some l => s.q9 ≤ l - 1000 * s.bindField 1 b.streamId (F.STRM_TIMING_LEAD_US b.streamId)
      | none => s.bindField 1 b.streamId (F.STRM_TIMING_DEPTH_US b.streamId) ≠ 0) →
    Completes (exec (.battReceive n d) s) (fun t =>
      (∃ u, (t.stream b.streamId).units = [u] ∧ u.unit = b.unit ∧ u.launch = battLaunch b ∧
        u.data = (s.battItems b).foldl (fun d e => tabInsert d e.1 (some e.2)) [] ∧
        u.bytes = s.unitSpace b.streamId u.data) ∧
      (laneOf (t.stream b.streamId) (s.lanePort n.val)).highest = some b.seq ∧
      (t.stream b.streamId).released = none ∧ (t.port n.val).lastBatt = s.now ∧
      t.get F.RAYH_NANCNT_COUNT = min F.RAYH_NANCNT_COUNT.max (s.get F.RAYH_NANCNT_COUNT + s.battNans b) ∧
      (∀ k, k ≠ b.streamId → t.stream k = s.stream k) ∧ (∀ k, k ≠ n.val → t.port k = s.port k) ∧
      t = { s with regs := t.regs, ingest := t.ingest } ∧ ∀ a, a ≠ R.RAYH_NANCNT → t.word a = s.word a)

/-- R151, R156: a request marks the units whose launch time is PIPE_US or less away as asked for and, while none is complete
or past its deadline, releases none. An incomplete overlay or SEAM unit whose deadline passes, asked for where it has a
launch time, is dropped: its missing SEQ numbers count in STRM_LOST, the unit in STRM_UNITS.DROPPED, and UNIT_DROPPED
becomes pending. -/
def Sys2Proof.Claims.UnitsWaitAndExpire : Prop :=
  ∀ (st : Fin 64) (u : JbUnit) (s : State), live s = true → s.armed 1 st.val = true →
    ((∀ v ∈ (s.stream st.val).units, s.unitWhole st.val v = false ∧ s.unitExpired v = false) →
      exec (.unitRequest st) s = .next (s.setStream st.val { s.stream st.val with
        units := (s.stream st.val).units.map (fun v => { v with
          asked := v.asked || (match v.launch with
            | some l => decide (l ≤ s.q9 + 1000 * s.get F.PQ_PIPE_PIPE_US)
            | none => false) }) })) ∧
    ((s.stream st.val).units = [u] → s.unitWhole st.val u = false → s.unitExpired u = true →
      u.launch = none ∨ u.asked = true → s.streamKind st.val ∈ [4, 5] →
      Completes (exec (.unitDeadline st) s) (fun t =>
        (t.stream st.val).units = [] ∧ (t.stream st.val).released = some u.unit ∧
        t.get (F.STRM_UNITS_DROPPED st.val) = min (F.STRM_UNITS_DROPPED st.val).max (s.get (F.STRM_UNITS_DROPPED st.val) + 1) ∧
        t.get (F.STRM_LOST_COUNT st.val) = min (F.STRM_LOST_COUNT st.val).max (s.get (F.STRM_LOST_COUNT st.val) +
          ((s.lanesOf st.val).map (fun l => laneMissing (s.stream st.val) l u.unit (unitLane u l))).sum) ∧
        t.isPending (s.streamSource st.val 6) = true ∧ (∀ k, k ≠ st.val → t.stream k = s.stream k) ∧
        t = { s with regs := t.regs, evt := t.evt, ingest := t.ingest } ∧
        ∀ a, evtAddr a = false → a ≠ R.STRM_UNITS st.val → a ≠ R.STRM_LOST st.val → t.word a = s.word a))

/-- Batts build the units of a stream, which are released when complete and dropped at their deadline. -/
def Obligations.BattsBuildUnits : Prop :=
  Claims.FirstBattOpensUnit ∧ Claims.UnitsWaitAndExpire

/-! ## spec/05_decode.md -/

/-- R147, R164, R180, R183, R187: the next NAL unit of an access unit being parsed, another one after it, is taken off it. A
parameter set that is not active is stored under its kind and identifier and no other is touched; a bad NAL unit header is a
syntax error of its layer; a slice that comes before the first base layer IRAP picture has its access unit discarded; an
access unit delimiter, a NAL unit of a reserved type and one of layer 63 change nothing else. -/
def Sys2Proof.Claims.NalUnitsAreParsed : Prop :=
  ∀ (c : Fin 4) (a : AuState) (bs next : List Byte) (rest : List (List Byte)) (id : Nat) (content : ParamContent) (x : SliceNal)
      (body : NalBody) (bad : Bool) (s : State),
    live s = true → s.parseAu c.val = some a → a.begun = true → a.nals = bs :: next :: rest →
    let h := nalHeader bs
    let taken := { a with nals := next :: rest }
    (2 ≤ bs.length → h.forbidden = false → h.temporal ≠ 0 → h.layer < 63 →
      (h.type = 32 + paramKind content → (s.dctx c.val).activeSet (paramKind content) id = false →
        Completes (exec (.nalUnitParse c (.param id content) false) s) (fun t =>
          (t.dctx c.val).stored (paramKind content) id = some content ∧
          (∀ k i, ¬ (k = paramKind content ∧ i = id) → (t.dctx c.val).stored k i = (s.dctx c.val).stored k i) ∧
          t = (s.setDctx c.val { s.dctx c.val with sets := (t.dctx c.val).sets }).setAu c.val taken)) ∧
      (h.vcl = true → a.dropped = false → (s.dctx c.val).baseSeen = false → ¬ (h.layer = 0 ∧ 16 ≤ h.type) →
        exec (.nalUnitParse c (.slice x) bad) s = .next (s.setAu c.val { taken with vcl := true, dropped := true })) ∧
      (h.type = 35 ∨ 41 ≤ h.type → exec (.nalUnitParse c .none bad) s = .next (s.setAu c.val taken))) ∧
    (bs.length < 2 ∨ h.forbidden = true ∨ h.temporal = 0 → (s.dlayer c.val h.layer).current = none →
      Completes (exec (.nalUnitParse c body bad) s) (fun t =>
        (t.dlayer c.val h.layer).syntaxErrors = (s.dlayer c.val h.layer).syntaxErrors + 1 ∧
        (t.dlayer c.val h.layer).erred = true ∧ t.isPending 192 = true ∧ (t.dctx c.val).sets = (s.dctx c.val).sets ∧
        (t.dctx c.val).slots = (s.dctx c.val).slots ∧ t.parseAu c.val = some taken ∧ EvtOnly { s with dec := t.dec } t)) ∧
    (2 ≤ bs.length → h.forbidden = false → h.temporal ≠ 0 → h.layer = 63 →
      exec (.nalUnitParse c body bad) s = .next (s.setAu c.val taken))

/-- R174: an idle engine takes, of the row tasks that are ready and find an engine, the first in decoding order, with the
leases of its stream; with none, nothing happens. -/
def Sys2Proof.Claims.RowTasksDispatchInOrder : Prop :=
  ∀ (past2 : List (Fin 8)) (s : State), live s = true →
    ((∀ t ∈ s.dec.tasks, s.taskReady past2 t = true → s.engineFor t = none) → exec (.rowTaskDispatch past2) s = .next s) ∧
    ((∃ t ∈ s.dec.tasks, s.taskReady past2 t = true ∧ s.engineFor t ≠ none) →
      ∃ t e, t ∈ s.dec.tasks ∧ s.taskReady past2 t = true ∧ s.engineFor t = some e ∧
        (∀ u ∈ s.dec.tasks, s.taskReady past2 u = true → s.engineFor u ≠ none → taskBefore u t = false) ∧
        e ∈ s.engines ∧ s.engineTask e = none ∧
        exec (.rowTaskDispatch past2) s =
          .next (setTask { t with state := 1, engine := e, holds := s.holdsOn 1 (s.contextStream t.ctx) } s))

/-- R173, R168: a row that ends without error, its leases still held, writes its samples as 16-bit words at their places in the
planes of its slot and no other byte, marks its CTUs decoded, and is complete. -/
def Sys2Proof.Claims.RowTaskCompletes : Prop :=
  ∀ (e : Fin 8) (t : RowTask) (x : Sample) (off base size : Nat) (s : State), live s = true → s.engineTask e.val = some t →
    s.stale t.holds = none → t.orphan = none → s.poison = [] → s.slotRange t.ctx t.slot = some (base, size) →
    (s.slot t.ctx t.slot).sampleOffset x = some off → (s.slot t.ctx t.slot).ctu ((s.slot t.ctx t.slot).sampleCtu x) < 2 →
      (s.slot t.ctx t.slot).ended = false → (∀ a ∈ (s.dctx t.ctx).aus, a.parsed = false) →
    Completes (exec (.rowTaskComplete e ⟨none, [x]⟩) s) (fun u =>
      leNat (u.hbmRead (base + off) 2) = x.value % 1024 ∧
      (∀ a, a < base + off ∨ base + off + 2 ≤ a → cellGet ramBlank u.hbm a = cellGet ramBlank s.hbm a) ∧
      (∀ k, (u.slot t.ctx t.slot).ctu k =
        if t.first ≤ k ∧ k < t.first + t.count ∧ (s.slot t.ctx t.slot).ctu k = 0 then 1 else (s.slot t.ctx t.slot).ctu k) ∧
      { t with state := 2, holds := [] } ∈ u.dec.tasks ∧ u = { s with hbm := u.hbm, dec := u.dec })

/-- NAL units are parsed, row tasks go to engines in decoding order, and rows complete into slots. -/
def Obligations.DecodingRuns : Prop :=
  Claims.NalUnitsAreParsed ∧ Claims.RowTasksDispatchInOrder ∧ Claims.RowTaskCompletes

/-- R177, R182: a parity error in an engine reissues its row to another engine; the second in an epoch takes the engine out of
service and raises its source, and the context counts a park (R468, R469). One in the header parser takes that out of service
and raises HP_FAULT. -/
def Sys2Proof.Claims.DecoderParityErrors : Prop :=
  ∀ (e : Fin 8) (t : RowTask) (s : State), live s = true →
    (s.engineTask e.val = some t → t.orphan = none → e.val ∉ s.dec.struck →
      exec (.decodeParityError e) s = .next { setTask { t with state := 0, avoid := some e.val, holds := [] } s with
        dec := { (setTask { t with state := 0, avoid := some e.val, holds := [] } s).dec with
          struck := setInsert e.val s.dec.struck } }) ∧
    (s.engineTask e.val = some t → t.orphan = none → e.val ∈ s.dec.struck →
      (s.get F.DEC_STATUS_ENGINES).testBit e.val = true →
      Completes (exec (.decodeParityError e) s) (fun u =>
        (∀ k, k < 8 → (u.get F.DEC_STATUS_ENGINES).testBit k =
          ((s.get F.DEC_STATUS_ENGINES).testBit k && decide (k ≠ e.val))) ∧
        u.dec = (setTask { t with state := 0, avoid := some e.val, holds := [] } s).dec ∧ u.isPending (208 + e.val) = true ∧
        (t.ctx < 4 → u.get (F.XLAT_CTX_PARKS (1 + t.ctx)) =
          min (F.XLAT_CTX_PARKS (1 + t.ctx)).max (s.get (F.XLAT_CTX_PARKS (1 + t.ctx)) + 1)) ∧
        ∀ w, evtAddr w = false → w ≠ R.DEC_STATUS → w ≠ R.XLAT_CTX (1 + t.ctx % 4) → u.word w = s.word w)) ∧
    Completes (exec .hpParityError s) (fun u =>
      u.dec = { s.dec with hpOut := true } ∧ u.isPending 216 = true ∧ EvtOnly { s with dec := u.dec } u)

/-- R189 to R194: a CTU to be concealed with no layer to borrow from and no picture to copy is filled: each of its luma samples
inside the picture reads the fill value, its state is concealed, and nothing outside the slot's planes changes. -/
def Sys2Proof.Claims.ConcealmentFills : Prop :=
  ∀ (c : Fin 4) (n k : Nat) (s : State), live s = true →
    let p := s.slot c.val n
    let pitch := planePitch p.width
    let base := s.slotBase c.val n
    p.ctu k = 3 → s.sourcesParsed c.val n = true → s.borrowLayers c.val n = [] → s.temporalSource c.val n = none →
      s.earlierOpen c.val n = false →
    p.ended = false → (∀ a ∈ (s.dctx c.val).aus, a.parsed = false) → 3 ≤ p.ctbLog →
    Completes (exec (.ctuConceal c n k) s) (fun t =>
      (t.slot c.val n).ctu k = 2 ∧ (t.slot c.val n).filled = p.filled + 1 ∧ (t.slot c.val n).methods.testBit 2 = true ∧
      (∀ j, j ≠ k → (t.slot c.val n).ctu j = p.ctu j) ∧
      (∀ x y, (ctuPos p k).1 ≤ x → x < (ctuPos p k).1 + 2 ^ p.ctbLog → (ctuPos p k).2 ≤ y → y < (ctuPos p k).2 + 2 ^ p.ctbLog →
        x < p.width → y < p.height → t.lumaAt c.val n x y = s.fillValue c.val n % 1024) ∧
      (∀ a, a < base ∨ base + pitch * (p.height + p.height / 2) ≤ a →
        cellGet ramBlank t.hbm a = cellGet ramBlank s.hbm a) ∧
      t = { s with hbm := t.hbm, poison := t.poison, dec := t.dec })

/-- R172: when no slot is free in time, the picture that waits becomes absent and its source is pending. -/
def Sys2Proof.Claims.SlotWaitEnds : Prop :=
  ∀ (c : Fin 4) (due l : Nat) (s : State), live s = true → (s.dctx c.val).slotWait = some (due, l) →
    (due ≤ s.now → s.parseAu c.val = none →
      Completes (exec (.slotWaitTimeout c) s) (fun t =>
        (t.dctx c.val).slotWait = none ∧ (t.dlayer c.val l).absent = true ∧ t.isPending 198 = true ∧
        (∀ m, m ≠ l → t.dlayer c.val m = s.dlayer c.val m) ∧ EvtOnly { s with dec := t.dec } t)) ∧
    (s.now < due → exec (.slotWaitTimeout c) s = .next s)

/-- Decoder faults, lost CTUs and missing slots end in what the rules give. -/
def Obligations.DecodingSurvivesErrors : Prop :=
  Claims.DecoderParityErrors ∧ Claims.ConcealmentFills ∧ Claims.SlotWaitEnds

/-! ## spec/06_carding.md -/

/-- R213, R227, R228, R232: the next instant of a layer without seams, with a key view present and room in its work pool,
starts: it takes the register values of that moment, its key views are converted, their records stand in its half of the work
area, and one work item per tile waits in the queues of the ray blocks. No other byte of memory changes. While both halves of
the work pool are taken, nothing happens. Where in the half a record stands is the model's choice (the log entry on the work
area). -/
def Sys2Proof.Claims.InstantStartQueuesTiles : Prop :=
  ∀ (l : Fin 64) (i : Instant) (s : State), live s = true → s.waitingInstant l.val = some i →
    (s.halfFree l.val = true → s.seamReady i = true → seamEdges s.regs l.val = [] → s.poison = [] →
      (∃ k, k < lyrViews s.regs l.val ∧ (s.keySource { i with regs := s.regs } k).present = true) →
      Completes (exec (.instantStart l) s) (fun t =>
        (∃ j ∈ t.card.instants, j.layer = l.val ∧ j.count = i.count ∧ j.launch = i.launch ∧ j.phase = 1 ∧ j.regs = s.regs ∧
          j.views.length = lyrViews s.regs l.val ∧ j.todo = upto 0 (tileCount s.regs l.val) ∧
          (∀ w, s.workBase j = some w →
            (∀ k v key r, j.views[k]? = some v → tabGet none v.records key = some r →
              t.hbmRead (w + k * viewBytes s.regs l.val + 8 * key) 8 = leBytes r 8) ∧
            (∀ a, a < w ∨ w + halfBytes s.regs l.val ≤ a → t.hbmRead a 1 = s.hbmRead a 1)) ∧
          (s.workBase j = none → t.hbm = s.hbm)) ∧
        (s.workers 1 ≠ [] → ∀ n, n < tileCount s.regs l.val →
          ∃ k ∈ s.workers 1, ∃ q ∈ (t.block k).queue, q.item = .card l.val i.count n) ∧
        t.flash = s.flash ∧ t.sram = s.sram ∧ t.conf = s.conf ∧ t.dec = s.dec ∧ t.kcp = s.kcp)) ∧
    (s.halfFree l.val = false → exec (.instantStart l) s = .next s)

/-- R228, R229: the cell of a tile that completes becomes idle; its rays join those of its instant, its hole, fill and clamp
counts are added, and the instant completes with its last tile. -/
def Sys2Proof.Claims.TilesCompleteInstants : Prop :=
  ∀ (b : Fin 64) (c : Fin 16) (l n tile : Nat) (replayed : Bool) (i : Instant) (s : State), live s = true →
    s.cellItem b.val c.val = some ⟨.card l n tile, replayed⟩ → s.instantOf l n = some i → i.phase = 1 → tile ∈ i.todo →
    s.instantFault i = none → s.workPoisoned i = false → s.ckStd = true → i.withheld = false → i.late = false → l < 64 →
    let r := s.tileResult i tile
    Completes (exec (.cardTileComplete b c) s) (fun t =>
      t.cellItem b.val c.val = none ∧
      (∃ j, t.instantOf l n = some j ∧ j.todo = setErase tile i.todo ∧
        j.phase = (if setErase tile i.todo = [] then 2 else 1) ∧
        j.rays = r.rays.foldl (fun tab e => tabInsert tab e.1 (some e.2)) i.rays) ∧
      t.get (F.CARD_LYR_CNT_COUNT l 2) = min 0xFFFFFFFF (s.get (F.CARD_LYR_CNT_COUNT l 2) + r.holes) ∧
      t.get (F.CARD_LYR_CNT_COUNT l 3) = min 0xFFFFFFFF (s.get (F.CARD_LYR_CNT_COUNT l 3) + r.fills) ∧
      t.get (F.CARD_LYR_CNT_COUNT l 4) = min 0xFFFFFFFF (s.get (F.CARD_LYR_CNT_COUNT l 4) + r.clamps) ∧
      SameMemory s t ∧ t.conf = s.conf ∧ t.dec = s.dec ∧ t.kcp = s.kcp)

/-- R232: when the seam wait of a layer's next instant runs out before its strips have come, the instant goes on without them;
if a named edge has none whole, CARD_LYR_CNT 6 counts it and SEAM_MISS becomes pending. Sooner, nothing happens. -/
def Sys2Proof.Claims.SeamWaitRunsOut : Prop :=
  ∀ (l : Fin 64) (i : Instant) (s : State), live s = true → s.waitingInstant l.val = some i → i.seamUntil ≠ 0 →
    (i.seamUntil ≤ s.now → s.seamReady i = false →
      Completes (exec (.seamWaitTimeout l) s) (fun t =>
        { i with seamMissed := true } ∈ t.card.instants ∧
        ((seamEdges i.regs l.val).any (s.edgeMissing i) = true →
          t.get (F.CARD_LYR_CNT_COUNT l.val 6) = min 0xFFFFFFFF (s.get (F.CARD_LYR_CNT_COUNT l.val 6) + 1) ∧
          t.isPending 612 = true) ∧
        ((seamEdges i.regs l.val).any (s.edgeMissing i) = false → t.regs = s.regs) ∧
        t = { s with regs := t.regs, evt := t.evt, card := t.card })) ∧
    (s.now < i.seamUntil → exec (.seamWaitTimeout l) s = .next s)

/-- An instant starts, its tiles complete it, and a seam wait ends. -/
def Obligations.InstantsCardTiles : Prop :=
  Claims.InstantStartQueuesTiles ∧ Claims.TilesCompleteInstants ∧ Claims.SeamWaitRunsOut

/-! ## spec/07_conformer.md -/

/-- R245, R246: ARM of an uncompressed host map copies it into the copy of the staging pool that is not in force and sets
PENDING; a source that is not there rejects it with ERR 1. The end of the checks sets READY, or rejects it with the code and
entry found; DISCARD drops the copy without ERR. While PENDING is 1, ARM answers WINDOW. -/
def Sys2Proof.Claims.HostMapsAreChecked : Prop :=
  ∀ (who : Requester) (bs : List Byte) (p : PoolRec) (l : MapLoad) (s : State),
    (Permitted who R.CONF_MAPCTRL s → s.flag F.CONF_MAPSTATUS_PENDING = false →
      (s.get F.CONF_MAPSRC_FULLER = 0 → s.mapSource = some (.ok bs) → s.stagingPool = some p →
        bs.length ≤ mapUnits s.geom * 2097152 →
        let base := poolBase p + (1 - s.conf.mapCopy) * mapUnits s.geom * 2097152
        Completes (exec (.mapArm who) s) (fun t =>
          t.get F.CONF_MAPSTATUS_PENDING = 1 ∧ t.conf = { s.conf with load := some ⟨bs, 0, false⟩ } ∧
          t.hbmRead base bs.length = bs ∧
          (∀ a, a < base ∨ base + bs.length ≤ a → cellGet ramBlank t.hbm a = cellGet ramBlank s.hbm a) ∧
          (∀ a, a ≠ R.CONF_MAPSTATUS → t.word a = s.word a) ∧
          t = { s with regs := t.regs, conf := t.conf, hbm := t.hbm, poison := t.poison,
                       out := .status who R.CONF_MAPCTRL .ok :: s.out })) ∧
      (s.mapSource = none →
        Completes (exec (.mapArm who) s) (fun t =>
          t.get F.CONF_MAPSTATUS_ERR = 1 ∧ t.get F.CONF_MAPSTATUS_PENDING = 0 ∧ t.get F.CONF_MAPENTRY_ENTRY = 0 ∧
          t.isPending 577 = true ∧ t.conf = { s.conf with load := none } ∧
          t.out = .status who R.CONF_MAPCTRL .ok :: s.out ∧ SameMemory s t))) ∧
    (Permitted who R.CONF_MAPCTRL s → s.flag F.CONF_MAPSTATUS_PENDING = true →
      exec (.mapArm who) s = .next (s.emit (.status who R.CONF_MAPCTRL .window))) ∧
    (live s = true → s.conf.load = some l → s.flag F.CONF_MAPSTATUS_READY = false → l.early = 0 →
      let r := mapCheck s.geom (s.get F.SIZ_LIMIT_STEP_DXY) (s.get F.SIZ_LIMIT_STEP_RS) l.bytes
      (r.1 = 0 → Completes (exec .mapCheckDone s) (fun t =>
        t.get F.CONF_MAPSTATUS_READY = 1 ∧ t.get F.CONF_MAPSTATUS_ERR = 0 ∧ t.get F.CONF_MAPENTRY_ENTRY = 0 ∧
        t = { s with regs := t.regs } ∧
        ∀ a, a ≠ R.CONF_MAPSTATUS → a ≠ R.CONF_MAPENTRY → t.word a = s.word a)) ∧
      (r.1 ≠ 0 → Completes (exec .mapCheckDone s) (fun t =>
        t.get F.CONF_MAPSTATUS_PENDING = 0 ∧ t.get F.CONF_MAPSTATUS_READY = 0 ∧ t.get F.CONF_MAPSTATUS_ERR = r.1 ∧
        t.get F.CONF_MAPENTRY_ENTRY = (if r.1 = 6 ∨ r.1 = 7 then r.2 % 2 ^ 24 else 0) ∧ t.isPending 577 = true ∧
        t.conf = { s.conf with load := none } ∧ SameMemory s t))) ∧
    (Permitted who R.CONF_MAPCTRL s →
      Completes (exec (.mapDiscard who) s) (fun t =>
        t.get F.CONF_MAPSTATUS_PENDING = 0 ∧ t.get F.CONF_MAPSTATUS_READY = 0 ∧
        t.get F.CONF_MAPSTATUS_ERR = s.get F.CONF_MAPSTATUS_ERR ∧
        t = { s with regs := t.regs, conf := { s.conf with load := none }, out := .status who R.CONF_MAPCTRL .ok :: s.out } ∧
        ∀ a, a ≠ R.CONF_MAPSTATUS → t.word a = s.word a))

/-- R255, R256, R257, R259: ARM offers the staged colour set, whose matrix words no record changes any more, and answers
WINDOW while one is pending; DISCARD drops its staged words and no other. CONF_STAGE takes a staging pool that holds its
frames, holds the map in force in its copy there, and leaves the reference undefined and the next frame whole. -/
def Sys2Proof.Claims.ColourSetAndStagingPool : Prop :=
  ∀ (who : Requester) (v : Word) (p : PoolRec) (s : State),
    (Permitted who R.CONF_COLCTRL s →
      (s.flag F.CONF_COLSTATUS_PENDING = false →
        Completes (exec (.colourArm who) s) (fun t =>
          t.get F.CONF_COLSTATUS_PENDING = 1 ∧ t.get F.CONF_COLSTATUS_TF_IN_FORCE = s.get F.CONF_COLSTATUS_TF_IN_FORCE ∧
          (∀ a, t.stagedWord a = if R.CONF_MATRIX 0 ≤ a ∧ a ≤ R.CONF_MATRIX 4 ∧ a % 4 = 0 then some (s.nextWord a)
            else s.stagedWord a) ∧
          t = { s with regs := t.regs, staged := t.staged, out := .status who R.CONF_COLCTRL .ok :: s.out } ∧
          ∀ a, a ≠ R.CONF_COLSTATUS → t.word a = s.word a)) ∧
      (s.flag F.CONF_COLSTATUS_PENDING = true →
        exec (.colourArm who) s = .next (s.emit (.status who R.CONF_COLCTRL .window))) ∧
      Completes (exec (.colourDiscard who) s) (fun t =>
        t.get F.CONF_COLSTATUS_PENDING = 0 ∧
        (∀ a, t.stagedWord a = if isColourAddr a = true then none else s.stagedWord a) ∧
        t = { s with regs := t.regs, staged := t.staged, out := .status who R.CONF_COLCTRL .ok :: s.out } ∧
        ∀ a, a ≠ R.CONF_COLSTATUS → t.word a = s.word a)) ∧
    (Permitted who R.CONF_STAGE s → s.armedIds 2 = [] → s.armed 4 0 = false → 2 ≤ wordField v F.CONF_STAGE_FRAMES →
      wordField v F.CONF_STAGE_FRAMES ≤ 32 → s.pool (wordField v F.CONF_STAGE_POOL_ID) = some p →
      (p.kind = 3 → stagingNeed s.geom (wordField v F.CONF_STAGE_FRAMES) ≤ p.size →
        Completes (exec (.confStageWrite who v) s) (fun t =>
          t.get F.CONF_STAGE_POOL_ID = wordField v F.CONF_STAGE_POOL_ID ∧
          t.get F.CONF_STAGE_FRAMES = wordField v F.CONF_STAGE_FRAMES ∧
          t.get F.CONF_FRAME_FRAMES_IN_FORCE = wordField v F.CONF_STAGE_FRAMES ∧
          t.hbmRead (poolBase p + s.conf.mapCopy * mapUnits s.geom * 2097152) (mapBytes s.geom) = mapImage s.geom s.conf.map ∧
          (∀ a, a < poolBase p + s.conf.mapCopy * mapUnits s.geom * 2097152 ∨
              poolBase p + s.conf.mapCopy * mapUnits s.geom * 2097152 + mapBytes s.geom ≤ a →
            t.hbmRead a 1 = s.hbmRead a 1) ∧
          t = { s with regs := t.regs, conf := { s.conf with refUndefined := true, refPanel := [], whole := true },
                       hbm := t.hbm, poison := t.poison,
                       out := .status who R.CONF_STAGE .ok :: s.out } ∧
          ∀ a, a ≠ R.CONF_STAGE → a ≠ R.CONF_FRAME → t.word a = s.word a)) ∧
      (p.kind ≠ 3 ∨ p.size < stagingNeed s.geom (wordField v F.CONF_STAGE_FRAMES) →
        exec (.confStageWrite who v) s = .next (s.emit (.status who R.CONF_STAGE .pool))))

/-- Host maps are checked; colour sets and the staging pool are written in their windows. -/
def Obligations.HostMapsAndColourSets : Prop :=
  Claims.HostMapsAreChecked ∧ Claims.ColourSetAndStagingPool

/-- R260, R261, R380, R381: the frame of the least launch time starts in the lowest free slot once its instants are complete,
with the register values, map and hogel tiles of that moment. A conformer item that completes frees its cell and adds its
codes to its frame; it changes no register but the clip counter. -/
def Obligations.RayFramesAreBuilt : Prop :=
  ∀ (b : Fin 64) (c : Fin 16) (launch h tile : Nat) (replayed : Bool) (s : State), live s = true →
    (s.queued = true → s.building = false → s.nextLaunch = some launch → s.launchReady launch = true →
      (∀ i ∈ s.card.instants, i.late = false) → s.frameSet (some launch) ≠ [] → s.freeSlot = some h →
      Completes (exec .rayFrameStart s) (fun t =>
        (t.frame h).state = 1 ∧ (t.frame h).launch = some launch ∧ (t.frame h).target = some launch ∧
        (t.frame h).instants = (s.frameSet (some launch)).map (fun i => (i.layer, i.count)) ∧
        (t.frame h).todo = hogelTiles s.geom ∧ (t.frame h).map = s.conf.map ∧ (t.frame h).regs = s.regs ∧
        (t.frame h).order = s.conf.started ∧ t.conf.started = s.conf.started + 1 ∧ t.conf.lastLaunch = some launch ∧
        (∀ k, k ≠ h → t.frame k = s.frame k) ∧ t.regs = s.regs ∧ t.card = s.card ∧ SameMemory s t)) ∧
    (s.cellItem b.val c.val = some ⟨.conf h tile, replayed⟩ → s.stale (s.frame h).holds = none → (s.frame h).state = 1 →
      tile ∈ (s.frame h).todo → setErase tile (s.frame h).todo ≠ [] → s.ckStd = true →
      let r := itemCodes s (s.frame h) (s.frameInstants (s.frame h)) tile
      Completes (exec (.confItemComplete b c) s) (fun t =>
        t.cellItem b.val c.val = none ∧
        t.frame h = { s.frame h with
          codes := r.1.foldl (fun tab e => tabInsert tab e.1 (some e.2)) (s.frame h).codes
          todo := setErase tile (s.frame h).todo, clipped := (s.frame h).clipped || decide (r.2 > 0) } ∧
        t.get (F.CONF_CNT_COUNT 0) = min 0xFFFFFFFF (s.get (F.CONF_CNT_COUNT 0) + r.2) ∧
        (∀ k, k ≠ h → t.frame k = s.frame k) ∧ (∀ a, a ≠ R.CONF_CNT 0 → t.word a = s.word a) ∧
        t = { s with regs := t.regs, conf := t.conf, struct := t.struct }))

/-! ## spec/08_plank_overlay.md -/

/-- R277, R281: START of an idle engine whose parameters pass the checks begins the operation with the parameters of that
moment and shows BUSY; an empty rectangle completes at once; a busy engine answers BUSY; a failed check shows RESULT 5 with
its code. ABORT of an operation that has not begun to write ends it with RESULT 3. No memory is written but the copy of the
first band in the engine's save area, which only a BLEND and an overlapping COPY have (R279). -/
def Obligations.PlankStartsAndAborts : Prop :=
  ∀ (who : Requester) (n : Fin 2) (st : Status) (o : PlankOp) (s : State), Permitted who (R.PLK_CTRL n.val) s →
    let ws := (plankAddrs n.val).map (fun a => (s.word a).toNat)
    let p := plankParams ws
    (s.flag (F.PLK_STATUS_BUSY n.val) = false → s.plankCheck n.val p = none → p.w ≠ 0 → p.h ≠ 0 →
      Completes (exec (.plankStart who n) s) (fun t =>
        (∃ waiting, tabGet none t.plank n.val = some ⟨ws, 0, false, waiting⟩) ∧
        t.get (F.PLK_STATUS_BUSY n.val) = 1 ∧ t.get (F.PLK_STATUS_REFUSE n.val) = 0 ∧ t.get (F.PLK_PROGRESS_LINES n.val) = 0 ∧
        t = { s with regs := t.regs, plank := t.plank, hbm := t.hbm, poison := t.poison,
                     out := .status who (R.PLK_CTRL n.val) .ok :: s.out } ∧
        (bandSurface p = none ∨ s.bandCopy n.val = none → SameMemory s t) ∧
        (∀ b, s.bandCopy n.val = some b → ∀ a, a < b ∨ b + 16 * bandPitch ≤ a → t.hbmRead a 1 = s.hbmRead a 1) ∧
        ∀ a, a ≠ R.PLK_STATUS n.val → a ≠ R.PLK_PROGRESS n.val → t.word a = s.word a)) ∧
    (s.flag (F.PLK_STATUS_BUSY n.val) = false → s.plankCheck n.val p = none → p.w = 0 ∨ p.h = 0 →
      Completes (exec (.plankStart who n) s) (fun t =>
        t.plank = s.plank ∧ t.get (F.PLK_STATUS_RESULT n.val) = 2 ∧ t.get (F.PLK_STATUS_BUSY n.val) = 0 ∧
        t.isPending (plankSource n.val 0) = true ∧ SameMemory s t)) ∧
    (s.flag (F.PLK_STATUS_BUSY n.val) = false → s.plankCheck n.val p = some st →
      Completes (exec (.plankStart who n) s) (fun t =>
        t.plank = s.plank ∧ t.get (F.PLK_STATUS_RESULT n.val) = 5 ∧ t.get (F.PLK_STATUS_BUSY n.val) = 0 ∧
        t.isPending (plankSource n.val 3) = true ∧ t.out = .status who (R.PLK_CTRL n.val) st :: s.out ∧ SameMemory s t)) ∧
    (s.flag (F.PLK_STATUS_BUSY n.val) = true →
      exec (.plankStart who n) s = .next (s.emit (.status who (R.PLK_CTRL n.val) .busy))) ∧
    (tabGet none s.plank n.val = some o → o.waiting = true →
      Completes (exec (.plankAbort who n) s) (fun t =>
        tabGet none t.plank n.val = none ∧ t.get (F.PLK_STATUS_RESULT n.val) = 3 ∧ t.get (F.PLK_STATUS_BUSY n.val) = 0 ∧
        t.isPending (plankSource n.val 0) = true ∧ SameMemory s t))

/-- R272, R279: a band of a FILL that does not reach the last row writes the colour into every pixel of its 16 rows and into no
other byte of memory, and LINES counts them. -/
def Sys2Proof.Claims.PlankFillWritesBand : Prop :=
  ∀ (n : Fin 2) (o : PlankOp) (q : PoolRec) (s : State), live s = true → tabGet none s.plank n.val = some o →
    o.waiting = false →
    let p := plankParams o.words
    p.op = 2 → p.dst.format ∈ [0, 1, 2, 4] → pitchLegal p.dst p.x p.w = true → p.wmark = false → o.lines + 16 < p.h →
    s.pool p.dst.pool = some q →
    Completes (exec (.plankBandComplete n) s) (fun t =>
      (∀ r c, o.lines ≤ r → r < o.lines + 16 → c < p.w →
        t.pixelRead p.dst (p.x + c) (p.y + r) = p.colour % 2 ^ (8 * pixelBytes p.dst.format)) ∧
      (∀ a, (∀ r, o.lines ≤ r → r < o.lines + 16 →
          a < poolBase q + (rowRange p.dst p.x (p.y + r) p.w).1 ∨ poolBase q + (rowRange p.dst p.x (p.y + r) p.w).2 ≤ a) →
        cellGet ramBlank t.hbm a = cellGet ramBlank s.hbm a) ∧
      t.flash = s.flash ∧ t.sram = s.sram ∧
      tabGet none t.plank n.val = some { o with lines := o.lines + 16 } ∧
      t.get (F.PLK_PROGRESS_LINES n.val) = (o.lines + 16) % (F.PLK_PROGRESS_LINES n.val).max.succ ∧
      ∀ a, a ≠ R.PLK_PROGRESS n.val → t.word a = s.word a)

/-- R287, R288: a write of OV_FRONT stages the buffer for the next fence; it answers WINDOW while the overlay is UNDECLARED,
VALUE while an OVERLAY stream is its source, and BUSY while a plank writes the buffer. -/
def Sys2Proof.Claims.OverlayFrontIsStaged : Prop :=
  ∀ (who : Requester) (o : Fin 16) (v : Word) (s : State), Permitted who (R.OV_FRONT o.val) s → s.kcp.shadow = none →
    ((s.path 3 o.val).state = 0 → exec (.ovFrontWrite who o v) s = .next (s.emit (.status who (R.OV_FRONT o.val) .window))) ∧
    ((s.path 3 o.val).state ≠ 0 → s.bindField 3 o.val (F.OV_FMT_SOURCE o.val) ≠ 1 →
      (s.plankWrites o.val (wordField v (F.OV_FRONT_FRONT o.val)) = false →
        Completes (exec (.ovFrontWrite who o v) s) (fun t =>
          t.stagedWord (R.OV_FRONT o.val) = some (v &&& 1) ∧
          (∀ a, a ≠ R.OV_FRONT o.val → t.stagedWord a = s.stagedWord a) ∧
          t = { s with staged := t.staged, out := .status who (R.OV_FRONT o.val) .ok :: s.out })) ∧
      (s.plankWrites o.val (wordField v (F.OV_FRONT_FRONT o.val)) = true →
        exec (.ovFrontWrite who o v) s = .next (s.emit (.status who (R.OV_FRONT o.val) .busy)))) ∧
    ((s.path 3 o.val).state ≠ 0 → s.bindField 3 o.val (F.OV_FMT_SOURCE o.val) = 1 →
      exec (.ovFrontWrite who o v) s = .next (s.emit (.status who (R.OV_FRONT o.val) .value)))

/-- A FILL writes its band and nothing else; the front buffer of an overlay is staged for the fence. -/
def Obligations.PlankWritesAndOverlayFronts : Prop :=
  Claims.PlankFillWritesBand ∧ Claims.OverlayFrontIsStaged

/-! ## spec/09_serial_lanes.md -/

/-- R302 to R305: on a lane of a link whose receivers run, each IDLE set on one 10-bit alignment counts towards symbol lock,
which the third gives; ALIGN shows LANE, ASEQ, FLAGS and skew, and deskews the lane once every lane holds symbol lock; SKIP
deskews every lane, one decision for the link; 1,024 idle symbols freeze adaptation; a code group that is not good is counted,
and raises LANE_ERR once per lane period. Nothing but the link's lanes, its PARTNER_RATES, the events and the sign of the lane
clock changes, and no other link does. -/
def Obligations.LanesLockAndCount : Prop :=
  ∀ (n : Fin 5) (i : Fin 8) (idle : IdleSet) (align : AlignSet) (group : CodeGroup) (train : Bool)
    (skew inserted deleted : Nat) (s : State),
    live s = true → s.receiving n.val = true → i.val < laneCount n.val →
    let x := s.lane n.val i.val
    let locked := (s.lanes n.val).all (fun y => y.symlock) = true
    (x.sigdet = true → x.symlock = false →
      let k := if x.idles = 0 ∨ x.alignment ≠ idle.alignment.val then 1 else x.idles + 1
      exec (.idleReceive n i idle) s =
        .next ({ s with pins := { s.pins with refLane := true } }.setLane n.val i.val
          { x with idles := min 3 k, alignment := idle.alignment.val, symlock := decide (3 ≤ k), polarity := idle.inverted })) ∧
    (x.symlock = true → s.linkState n.val = 1 → (s.link n.val).bursts = true →
      Completes (exec (.alignReceive n i align skew train) s) (fun t =>
        let y := t.lane n.val i.val
        y.laneSeen = align.lane % 256 ∧ y.aseq = align.aseq % 256 ∧ y.flags = align.flags % 256 ∧ y.skew = min 63 skew ∧ y.missing = 0 ∧
          y.symlock = true ∧
        (y.deskewed = true ↔ x.deskewed = true ∨ (locked ∧ align.lane % 256 = i.val ∧ skew ≤ 32)) ∧
        t.get (F.LNK_STATUS_PARTNER_RATES n.val) = align.flags % 256 / 16 ∧ t.linkState n.val = 1 ∧
        (∀ m, m ≠ n.val → t.link m = s.link m) ∧ t = { s with regs := t.regs, links := t.links } ∧
        ∀ a, a ≠ R.LNK_STATUS n.val → t.word a = s.word a)) ∧
    (locked → inserted ≤ deleted + 2 → deleted ≤ inserted + 2 →
      Completes (exec (.skipReceive n inserted deleted) s) (fun t =>
        (t.link n.val).elastic = (s.link n.val).elastic + inserted - deleted ∧
        (∀ j, j < laneCount n.val → t.lane n.val j = (if (s.lane n.val j).laneSeen = j ∧ (s.lane n.val j).skew ≤ 32 then
          { s.lane n.val j with deskewed := true } else s.lane n.val j)) ∧
        (∀ m, m ≠ n.val → t.link m = s.link m) ∧ t = { s with links := t.links })) ∧
    ((s.link n.val).lastHeard + s.symbolsNs n.val 1024 ≤ s.now →
      exec (.adaptFreeze n i) s = .next (s.setLane n.val i.val { x with frozen := true })) ∧
    (x.errors < 3 ∨ x.symlock = false → groupKind group.positive group.bits.val ≠ .good →
      Completes (exec (.codeGroupError n i group) s) (fun t =>
        let y := t.lane n.val i.val
        let disparity := groupKind group.positive group.bits.val == .disparity
        y.codeviol = (if disparity then x.codeviol else min 0xFFFF (x.codeviol + 1)) ∧
        y.disperr = (if disparity then min 0xFFFF (x.disperr + 1) else x.disperr) ∧ y.errors = x.errors + 1 ∧
        y.symlock = x.symlock ∧ (t.link n.val).errRaised = true ∧
        ((s.link n.val).errRaised = false → t.isPending (linkSource n.val 3) = true) ∧
        (∀ m, m ≠ n.val → t.link m = s.link m) ∧ EvtOnly { s with links := t.links } t))

/-- R307 to R312, R316: while no frame is open on the panel, RETRAIN and a write of LNK_CFG with ENABLE 1 begin attempt 1, and
one with ENABLE 0 turns the link off; 2 ms into an attempt the TRAIN bursts end; an attempt fails after 10 ms, the link then
waits, and is DOWN with its source pending after the eighth; the next attempt follows its gap. No other link changes. -/
def Sys2Proof.Claims.LinksTrainInAttempts : Prop :=
  ∀ (who : Requester) (n : Fin 5) (v : Word) (s : State), s.panel.opened = none →
    let u := s.link n.val
    let begins (t : State) (attempt rate : Nat) : Prop :=
      t.linkState n.val = 1 ∧ t.get (F.LNK_STATUS_ATTEMPT n.val) = attempt ∧
      t.get (F.LNK_STATUS_RATE_IN_FORCE n.val) = rate ∧ (t.link n.val).bursts = true ∧ (t.link n.val).since = s.now ∧
      (∀ i, (t.lane n.val i).symlock = false ∧ (t.lane n.val i).deskewed = false) ∧
      ∀ m, m ≠ n.val → t.link m = s.link m
    (Permitted who (R.LNK_CTRL n.val) s → s.linkState n.val ≠ 0 →
      Completes (exec (.linkRetrain who n) s) (fun t => begins t 1 (s.firstRate n.val) ∧ t.get (F.LNK_STATUS_EXCLUDED n.val) = 0)) ∧
    (Permitted who (R.LNK_CFG n.val) s → s.linkWindow n.val = true → u.stopped = false →
      n.val = 0 ∨ (wordField v (F.LNK_CFG_START n.val) = 0 ∧ wordField v (F.LNK_CFG_RATE n.val) = 3) →
      Completes (exec (.linkCfgWrite who n v) s) (fun t =>
        (∀ f ∈ [F.LNK_CFG_START n.val, F.LNK_CFG_RATE n.val, F.LNK_CFG_ENABLE n.val], t.get f = wordField v f) ∧
        (wordField v (F.LNK_CFG_ENABLE n.val) = 1 → begins t 1 (t.firstRate n.val)) ∧
        (wordField v (F.LNK_CFG_ENABLE n.val) = 0 → t.linkState n.val = 0))) ∧
    (live s = true → s.linkState n.val = 1 →
      (u.bursts = true → u.since + 2000000 ≤ s.now → Completes (exec (.trainingPhaseEnd n) s) (fun t =>
        (t.link n.val).bursts = false ∧ (t.link n.val).since = u.since ∧ (∀ m, m ≠ n.val → t.link m = s.link m) ∧
        t = { s with links := t.links, out := t.out })) ∧
      (u.stepping = false → u.since + 10000000 ≤ s.now → Completes (exec (.attemptTimeout n) s) (fun t =>
        (s.get (F.LNK_STATUS_ATTEMPT n.val) < 8 → t.linkState n.val = 2) ∧
        (8 ≤ s.get (F.LNK_STATUS_ATTEMPT n.val) → t.linkState n.val = 5 ∧ t.isPending (linkSource n.val 2) = true) ∧
        (t.link n.val).since = s.now ∧ (∀ m, m ≠ n.val → t.link m = s.link m) ∧
        ∀ a, evtAddr a = false → a ≠ R.LNK_STATUS n.val → t.word a = s.word a)) ∧
      (s.now < u.since + 10000000 → exec (.attemptTimeout n) s = .next s)) ∧
    (live s = true → s.linkState n.val = 2 → s.get (F.LNK_STATUS_ATTEMPT n.val) < 8 →
      u.since + 10000000 * 2 ^ (s.get (F.LNK_STATUS_ATTEMPT n.val) - 1) ≤ s.now →
      Completes (exec (.backoffEnd n) s) (fun t => begins t (s.get (F.LNK_STATUS_ATTEMPT n.val) + 1) (s.firstRate n.val)))

/-- R301 to R303, R311, R313, R314: a lane of a link not UP that loses signal loses its lock, and signal that returns shows,
ending a DOWN; ALIGN missing twice in a row loses the link's deskew. A lane of an UP Afloth link that loses signal starts
attempt 1 with LINK_LOST pending, and a stopped lane clock does so for every UP link. On the panel link a step that is not
echoed within 1 ms is given up at the lower rate, and one that is silent for 100 µs tries the new rate. -/
def Sys2Proof.Claims.LinksLoseAndStep : Prop :=
  ∀ (n : Fin 5) (i : Fin 8) (at_ r : Nat) (s : State), live s = true → s.panel.opened = none →
    let x := s.lane n.val i.val
    let lost (y : LinkLane) : Prop := y.symlock = false ∧ y.deskewed = false
    (i.val < laneCount n.val → x.sigdet = true → n.val ≠ 0 →
      Completes (exec (.signalDetectFall n i) s) (fun t =>
        (t.lane n.val i.val).sigdet = false ∧ lost (t.lane n.val i.val) ∧ (∀ m, m ≠ n.val → t.link m = s.link m) ∧
        (s.linkUp n.val = true → t.linkState n.val = 1 ∧ t.get (F.LNK_STATUS_ATTEMPT n.val) = 1 ∧
          t.isPending (linkSource n.val 1) = true) ∧
        (s.linkUp n.val = false → t = { s with links := t.links }))) ∧
    (i.val < laneCount n.val → x.sigdet = false →
      Completes (exec (.signalDetectRise n i) s) (fun t =>
        (t.lane n.val i.val).sigdet = true ∧ (s.linkState n.val = 5 → t.linkState n.val = 1) ∧
        (s.linkState n.val ≠ 5 → t = s.setLane n.val i.val { x with sigdet := true }))) ∧
    (i.val < laneCount n.val → s.receiving n.val = true → s.linkUp n.val = false →
      Completes (exec (.alignMissing n i) s) (fun t =>
        (t.lane n.val i.val).missing = min 2 (x.missing + 1) ∧ (t.lane n.val i.val).readyOnes = 0 ∧
        (1 ≤ x.missing → ∀ j, (t.lane n.val j).deskewed = false) ∧
        (∀ m, m ≠ n.val → t.link m = s.link m) ∧ t = { s with links := t.links })) ∧
    Completes (exec .refclkLaneLoss s) (fun t =>
      t.pins.refLane = false ∧ (∀ m, m < 5 → ∀ j, lost (t.lane m j)) ∧
      (∀ m, m < 5 → s.linkUp m = true → t.linkState m = 1 ∧ t.isPending (linkSource m 1) = true) ∧
      (∀ m, m < 5 → s.linkUp m = false → t.linkState m = s.linkState m)) ∧
    (s.linkState 0 = 3 → (s.link 0).stepAt = some at_ → (s.link 0).lastStep = false → at_ + 1000000 ≤ s.now →
      Completes (exec (.stepEchoTimeout 0) s) (fun t =>
        t.linkUp 0 = true ∧ t.isPending 693 = true ∧ t.isPending 688 = true ∧ (t.link 0).step = none)) ∧
    (s.linkState 0 = 6 → (s.link 0).step = some r → r < 4 → (s.link 0).since + 100000 ≤ s.now →
      Completes (exec (.silentEnd 0) s) (fun t =>
        t.linkState 0 = 1 ∧ t.get (F.LNK_STATUS_RATE_IN_FORCE 0) = r ∧ (t.link 0).stepping = true ∧ (t.link 0).bursts = true))

/-- A link trains in attempts with gaps, retrains when it loses a lane, and steps its rate. -/
def Obligations.LinksTrainAndRecover : Prop :=
  Claims.LinksTrainInAttempts ∧ Claims.LinksLoseAndStep

/-- R297 to R299, R306, R317: a lane period of a link past its bursts, with nothing else due, sends ALIGN with the next ASEQ
and FLAGS; after 65,536 idle symbols a TRAIN burst is due; a preset within its ranges takes force and is due at the next ALIGN
when it is that of the die's band; outside them the write answers VALUE. The lanes carry what the period before still held,
then ALIGN at the first set of four positions. -/
def Sys2Proof.Claims.LanePeriodsAndPresets : Prop :=
  ∀ (who : Requester) (n : Fin 5) (k : Fin 4) (v : Word) (s : State),
    let u := s.link n.val
    let busy := if n.val = 0 then max u.lastBusy s.panel.busyUntil else u.lastBusy
    let amp := wordField v (F.LNK_PRESET_AMP k.val)
    let ranges := 16 ≤ amp ∧ amp ≤ 48 ∧ wordField v (F.LNK_PRESET_POST k.val) ≤ 24 ∧ wordField v (F.LNK_PRESET_PRE k.val) ≤ 12
    (live s = true → s.get (F.LNK_LOOP_MODE n.val) = 0 → s.linkState n.val ∉ [0, 3, 6, 7] →
      u.period * s.linkRate n.val + 327680 ≤ s.now * s.linkRate n.val → u.bursts = false → u.tx.bursts = false →
      u.trainDue = false → n.val ≠ 0 ∨ (s.panel.holding = false ∧ u.presetDue = false) →
      Completes (exec (.lanePeriodStart n) s) (fun t =>
        (∃ disparity before, t.out = .lanes n.val 0 disparity [.align u.aseq (s.alignFlags n.val)] :: (before ++ s.out)) ∧
        (t.link n.val).aseq = (u.aseq + 1) % 256 ∧ (t.link n.val).period = s.now ∧ (t.link n.val).errRaised = false ∧
        (∀ i, (t.lane n.val i).errors = 0) ∧ (∀ m, m ≠ n.val → t.link m = s.link m) ∧
        t = { s with links := t.links, out := t.out })) ∧
    (live s = true → s.linkState n.val ∉ [0, 6] → u.bursts = false → busy + s.symbolsNs n.val 65536 ≤ s.now →
      exec (.idleTrainDue n) s = .next (s.setLink n.val { u with trainDue := true })) ∧
    (Permitted who (R.LNK_PRESET k.val) s →
      (ranges → Completes (exec (.lnkPresetWrite who k v) s) (fun t =>
        (∀ f ∈ [F.LNK_PRESET_AMP k.val, F.LNK_PRESET_POST k.val, F.LNK_PRESET_PRE k.val], t.get f = wordField v f) ∧
        (∀ a, a ≠ R.LNK_PRESET k.val → t.word a = s.word a) ∧
        t = { s with regs := t.regs, out := .status who (R.LNK_PRESET k.val) .ok :: s.out, links :=
          if k.val = s.mode.dieBand then (s.setLink 0 { s.link 0 with presetDue := true }).links else s.links })) ∧
      (¬ ranges → exec (.lnkPresetWrite who k v) s = .next (s.emit (.status who (R.LNK_PRESET k.val) .value))))

/-- R294: whatever symbols a lane sends from a running disparity, its ones exceed its zeros by no more than the running
disparity has moved, so the two never drift apart. -/
def Sys2Proof.Claims.LineCodeIsBalanced : Prop :=
  ∀ (rd : Bool) (l : List Symbol), (∀ x ∈ l, x ∈ allSymbols) →
    (lineBits rd l).length = 10 * l.length ∧
    (2 * ((lineBits rd l).filter (fun b => b)).length : Int) = 10 * l.length + 2 * bit (rd != flipsAll l) - 2 * bit rd

/-- R325, R327, R328: at position 0 of a packet every lane carries K27.7; byte i of copy c of the header lies on lane
32c + i mod 32 at position 1 + floor(i ÷ 32); data byte i on lane i mod 96 at position 4 + floor(i ÷ 96), zeros after the last;
K29.7 on every lane at position 4 + D, then byte j of GCRC_g on lane 8g + j, and zeros. -/
def Sys2Proof.Claims.PacketsLieOnLanes : Prop :=
  ∀ (header data : List Byte) (d : Nat) (gcrc : List Nat), header.length = 96 → gcrc.length = 12 → data.length ≤ 96 * d →
    let rows := packetRows header data d gcrc
    let at_ := fun (p lane : Nat) => (rows.getD p []).getD lane d102
    rows.length = d + 8 ∧ (∀ r ∈ rows, r.length = 96) ∧
    (∀ lane, lane < 96 → at_ 0 lane = k277 ∧ at_ (4 + d) lane = k297 ∧ at_ (6 + d) lane = .d 0 ∧ at_ (7 + d) lane = .d 0) ∧
    (∀ c i, c < 3 → i < 96 → at_ (1 + i / 32) (32 * c + i % 32) = .d (header.getD i 0).toNat) ∧
    (∀ i, i < 96 * d → at_ (4 + i / 96) (i % 96) = .d (data.getD i 0).toNat) ∧
    (∀ g j, g < 12 → j < 8 → at_ (5 + d) (8 * g + j) = .d (if j < 4 then gcrc.getD g 0 / 256 ^ j % 256 else 0))

/-- Lane periods begin and presets are applied; the line code is balanced; a panel packet lies on the 96 lanes as its chapter
says. -/
def Obligations.LanesCarryPeriodsAndPackets : Prop :=
  Claims.LanePeriodsAndPresets ∧ Claims.LineCodeIsBalanced ∧ Claims.PacketsLieOnLanes

/-! ## spec/10_panel_protocol.md -/

/-- R335, R382: in a panel of one device that is not throttled and shows the frame before, FRAME_BEGIN of the only READY entry,
due at the next edge and able to meet it, leaves with the next FRAME number; the entry is PUSHING and its dirty tiles are
split into pushes. -/
def Sys2Proof.Claims.FrameBeginOpensFrame : Prop :=
  ∀ (h e : Nat) (s : State), live s = true → s.presenting = true → s.panel.opened = none → s.pins.te = false →
    s.afl.leaderHold = false → s.memChanging = false → s.linkUp 0 = true → s.flag F.PANEL_STATUS_CAPS_OK = true →
    s.tiled = false → s.nextEdge = some e → s.readyEntries = [h] → (s.frame h).target ≠ none → s.dueBy e h = true →
    (s.frame h).noEdge = false → e + s.teWidth ≤ s.q9 + s.tePeriod →
    s.canMeet e (s.frameTime (s.frame h).dirty) = true → s.wholeNext = false → s.panel.held = false → s.modeNow ≠ 0xB →
    let n := (s.get F.PANEL_FRAME_FRAME + 1) % 65536
    Completes (exec .frameBeginSend s) (fun t =>
      t.panel.opened = some { handle := h, frameNo := n, pushes := pushList s.geom 0 (s.frame h).dirty, target := some e } ∧
      (t.frame h).state = 3 ∧ (t.frame h).frameNo = n ∧ (t.frame h).dirty = (s.frame h).dirty ∧
      (∀ k, k ≠ h → t.frame k = s.frame k) ∧ t.get F.PANEL_FRAME_FRAME = n ∧ t.get F.PANEL_FRAME_RESTARTS = 0 ∧
      (∃ gcrc, t.out = .panelPacket (panelHeader 2 0 n 0 0 0 0 (packetFormat s.geom) 0 0) [] gcrc :: s.out) ∧
      (∀ a, a ≠ R.PANEL_FRAME → t.word a = s.word a) ∧ SameMemory s t)

/-- R332, R330, R337, R344: once PREFETCH × 64 KiB of its data, or all of it, is on chip, the next push of an open frame, none
of its pixels poisoned, leaves as one packet with its raw data, and is in progress; before that only its data is counted. Once
all have been sent, FRAME_COMMIT leaves in its window and the entry is COMMITTED; a push whose data is not wholly on chip can
end in ABORT with REASON 0x01, and is counted. -/
def Sys2Proof.Claims.OpenFrameIsPushed : Prop :=
  ∀ (o q : OpenFrame) (p : Push) (k arrived : Nat) (stream : Bool) (s : State), live s = true → s.panel.opened = some o →
    let raw := s.pushData o.handle p
    let got := s.onChip k raw.length arrived
    let d := dataPositions raw.length
    let header := panelHeader 1 0 o.frameNo k p.tx0 p.ty p.tw (packetFormat s.geom) d raw.length
    (s.canSend o = true → s.compActive = false → o.takePush = some (k, q) → o.pushes[k]? = some p →
      s.pushPoison o.handle p = none →
      (s.prefetch raw.length ≤ got → Completes (exec (.regionPushStart ⟨arrived, stream⟩) s) (fun t =>
        t.panel.opened = some { q with busy := some (k, false) } ∧ t.panel.whole = decide (got = raw.length) ∧
        t.panel.fetched = (0, 0) ∧ s.now ≤ t.panel.busyUntil ∧
        (∃ gcrc at_, t.out = .panelPacket header raw gcrc :: s.out ∧
          (t.link 0).tx.queue = (s.link 0).tx.queue ++ [⟨at_, true, false, packetRows header raw d gcrc⟩]) ∧
        (∀ m, m ≠ 0 → t.link m = s.link m) ∧ t = { s with panel := t.panel, links := t.links, out := t.out })) ∧
      (got < s.prefetch raw.length →
        exec (.regionPushStart ⟨arrived, stream⟩) s = .next { s with panel := { s.panel with fetched := (k, got) } })) ∧
    (s.canSend o = true → o.sent = true → s.teOk = true → s.commitWindow = true → s.tiled = false →
      Completes (exec .frameCommitSend s) (fun t =>
        t.panel.opened = some { o with committed := true, busy := none } ∧ (t.frame o.handle).state = 4 ∧
        (∀ h, h ≠ o.handle → t.frame h = s.frame h) ∧
          t.get F.PANEL_PUSHES_COUNT = o.pushes.length % (F.PANEL_PUSHES_COUNT.max + 1) ∧
        (∃ gcrc, t.out = .panelPacket (panelHeader 3 0 o.frameNo o.pushes.length 0 0 0 (packetFormat s.geom) 0 0) [] gcrc :: s.out) ∧
        (∀ a, a ≠ R.PANEL_PUSHES → t.word a = s.word a) ∧
        t = { s with regs := t.regs, conf := t.conf, panel := t.panel, links := t.links, out := t.out })) ∧
    (o.busy = some (k, false) → s.now < s.panel.busyUntil → o.abortedAt = none → s.panel.whole = false →
      Completes (exec .pushUnderrun s) (fun t =>
        t.panel.opened = some { o with busy := none, abortedAt := some s.now } ∧
        (∃ before, t.out = .panelAbort o.frameNo 1 :: (before ++ s.out)) ∧
        t.get (F.PANEL_CNT_COUNT 0) = min 0xFFFFFFFF (s.get (F.PANEL_CNT_COUNT 0) + 1) ∧ t.isPending 695 = true ∧
        t.conf = s.conf ∧ SameMemory s t ∧
        ∀ a, evtAddr a = false → a ≠ R.PANEL_CNT 0 → t.word a = s.word a))

/-- The presentation queue begins a frame, pushes its regions and commits it. -/
def Obligations.FramesArePushed : Prop :=
  Claims.FrameBeginOpensFrame ∧ Claims.OpenFrameIsPushed

/-- R350, R351, R339: on an UP link a STATUS with a good CRC shows the panel's FRONT_FRAME, BSTATE and HOLDING; when it shows
the committed open frame on the panel, the entry's slot is free and no frame is open. A return frame whose CRC fails is
counted and shows nothing. -/
def Sys2Proof.Claims.StatusCompletesFrame : Prop :=
  ∀ (b bad : List Byte) (o : OpenFrame) (s : State), live s = true → s.linkUp 0 = true → s.modeNow ≠ 0x3 → s.modeNow ≠ 0xC →
    (returnBody bad = none →
      Completes (exec (.statusFrameReceive bad) s) (fun t =>
        t.get (F.PANEL_CNT_COUNT 5) = min 0xFFFFFFFF (s.get (F.PANEL_CNT_COUNT 5) + 1) ∧ t.panel = s.panel ∧
        ∀ a, a ≠ R.PANEL_CNT 5 → t.word a = s.word a)) ∧
    (b.length = 40 → leAt b 0 1 = 1 → s.panel.opened = some o → o.committed = true → o.frameNo = leAt b 2 2 →
      leAt b 7 1 = 0 → leAt b 0x10 4 = 0xFFFFFFFF → s.enc.mapRegs = none →
      Completes (exec (.statusFrameReceive (b ++ leBytes (crc32c b) 4)) s) (fun t =>
        t.get F.PANEL_STATUS_FRONT_FRAME = leAt b 2 2 ∧ t.get F.PANEL_STATUS_BSTATE = leAt b 6 1 % 4 ∧
        t.get F.PANEL_STATUS_HOLDING = 0 ∧ t.panel.opened = none ∧ t.panel.lastFlip = leAt b 2 2 ∧
        t.panel.lastReturn = s.now ∧ (t.frame o.handle).state = 0 ∧ (∀ h, h ≠ o.handle → t.frame h = s.frame h) ∧
        t.out = s.out ∧ SameMemory s t))

/-- R352, R353, R354, R346: a query sends CAP_QUERY on an UP link; a CAPS body that agrees with the descriptor shows in
PANEL_CAPn with CAPS_OK, one that does not sets MISMATCH; an unanswered query is repeated after 1 ms, and fails after the
third; 5 ms without a return frame raise STATUS_LOST and take BSTATE as 0x3. -/
def Sys2Proof.Claims.PanelDiscovery : Prop :=
  ∀ (who : Requester) (b : List Byte) (s : State), s.linkUp 0 = true →
    let query := Output.panelPacket (panelHeader 4 0 0 0 0 0 0 (packetFormat s.geom) 0 0) [] ((upto 0 12).map (groupCrc 0 []))
    (Permitted who R.PANEL_CTRL s →
      Completes (exec (.panelQuery who) s) (fun t =>
        t.panel.querying = true ∧ t.panel.queries = 1 ∧ t.panel.queryAt = s.now ∧ t.regs = s.regs ∧
        t.out = .status who R.PANEL_CTRL .ok :: query :: s.out)) ∧
    (live s = true → b.length = 40 → leAt b 0 1 = 2 →
      Completes (exec (.capsFrameReceive (b ++ leBytes (crc32c b) 4)) s) (fun t =>
        t.panel.caps = some b ∧ t.panel.querying = false ∧ t.panel.lastReturn = s.now ∧
        (s.capsPass b = true → t.get F.PANEL_STATUS_CAPS_OK = 1 ∧ t.get F.PANEL_STATUS_MISMATCH = 0 ∧
          (∀ n, n < 10 → t.word (R.PANEL_CAP n) = BitVec.ofNat 32 (leAt b (4 * n) 4)) ∧ t.isPending 702 = true) ∧
        (s.capsPass b = false → t.get F.PANEL_STATUS_CAPS_OK = 0 ∧ t.get F.PANEL_STATUS_MISMATCH = 1 ∧ t.isPending 703 = true))) ∧
    (live s = true → s.panel.querying = true → s.panel.queryAt + 1000000 ≤ s.now →
      (s.panel.queries < 3 → Completes (exec .capQueryRetry s) (fun t =>
        t.panel.queries = s.panel.queries + 1 ∧ t.panel.queryAt = s.now ∧ t.out = query :: s.out ∧ t.regs = s.regs)) ∧
      (3 ≤ s.panel.queries → Completes (exec .capQueryRetry s) (fun t =>
        t.panel.querying = false ∧ t.get F.PANEL_STATUS_MISMATCH = 1 ∧ t.get F.PANEL_STATUS_CAPS_OK = 0 ∧
          t.isPending 703 = true))) ∧
    (live s = true → s.panel.lost = false → s.panel.lastReturn + 5000000 ≤ s.now →
      Completes (exec .statusLost s) (fun t =>
        t.panel.lost = true ∧ t.get F.PANEL_STATUS_BSTATE = 3 ∧ t.isPending 707 = true ∧ t.isPending 706 = true))

/-- R346: a frame whose ABORT the panel has not answered within 100 µs restarts with BSTATE 0x3 and every tile dirty: its
pushes cover the whole panel and FRAME_BEGIN leaves with the restart flag. Sooner, nothing happens. -/
def Sys2Proof.Claims.AbortTimeoutRestarts : Prop :=
  ∀ (o : OpenFrame) (at_ : Nat) (s : State), live s = true → s.panel.opened = some o → o.abortedAt = some at_ →
    (at_ + 100000 ≤ s.now → o.restarts < s.get F.PANEL_CFG_MAX_RESTART →
      Completes (exec .abortStatusTimeout s) (fun t =>
        t.get F.PANEL_STATUS_BSTATE = 3 ∧ (t.frame o.handle).state = 3 ∧ (∀ n ∈ allTiles s.geom, n ∈ (t.frame o.handle).dirty) ∧
        (∃ q, t.panel.opened = some q ∧ q.handle = o.handle ∧ q.frameNo = o.frameNo ∧ q.next = 0 ∧ q.abortedAt = none ∧
          q.restarts = o.restarts + 1 ∧ q.pushes = pushList s.geom s.firstRow (t.frame o.handle).dirty) ∧
        t.isPending 696 = true ∧
        (∃ gcrc, t.out = .panelPacket (panelHeader 2 2 o.frameNo 0 0 0 0 (packetFormat s.geom) 0 0) [] gcrc :: s.out))) ∧
    (s.now < at_ + 100000 → exec .abortStatusTimeout s = .next s)

/-- STATUS completes a frame, CAPS is checked, and a silent panel is noticed. -/
def Obligations.PanelAnswersAreTaken : Prop :=
  Claims.StatusCompletesFrame ∧ Claims.PanelDiscovery ∧ Claims.AbortTimeoutRestarts

/-! ## spec/11_time_presentation.md -/

/-- R340, R357: a rising edge of PANEL_TE is stamped with the Q9 time; from the second on, PANEL_TEPER takes the time between
the two, and TE_OK is set, raising its source when it was clear. A falling edge measures the pulse; without an edge for four
periods TE_OK is cleared and TE_LOST raised. -/
def Sys2Proof.Claims.TeIsMeasured : Prop :=
  ∀ (e : Nat) (s : State), live s = true → s.panel.edge = some e →
    (s.fencing = false → 1 ≤ s.panel.edges →
      Completes (exec .teRisingEdge s) (fun t =>
        t.pins.te = true ∧ t.panel.edge = some s.q9 ∧ t.panel.sampled = false ∧
        t.word R.PANEL_TES_LO = BitVec.ofNat 32 s.seconds ∧ t.word R.PANEL_TES_HI = BitVec.ofNat 32 (s.seconds / 2 ^ 32) ∧
        t.word R.PANEL_TENS = BitVec.ofNat 32 s.nanos ∧ t.word R.PANEL_TEPER = BitVec.ofNat 32 (s.q9 - e) ∧
        t.get F.PANEL_STATUS_TE_OK = 1 ∧ (s.teOk = false → t.isPending 701 = true) ∧ t.out = s.out ∧ SameMemory s t)) ∧
    Completes (exec .teFallingEdge s) (fun t =>
      t.get F.PANEL_TEWIDTH_WIDTH_NS = min 0xFFFF (s.q9 - e) ∧
      t = { s with regs := t.regs, pins := { s.pins with te := false } } ∧
      ∀ a, a ≠ R.PANEL_TEWIDTH → t.word a = s.word a) ∧
    (s.panel.teLost = false → s.tePeriod ≠ 0 → s.panel.edgeAt + 4 * s.tePeriod ≤ s.now →
      Completes (exec .teTimeout s) (fun t =>
        t.get F.PANEL_STATUS_TE_OK = 0 ∧ t.panel = { s.panel with teLost := true, edges := 0 } ∧ t.isPending 700 = true ∧
        EvtOnly { s with panel := t.panel, regs := (s.set F.PANEL_STATUS_TE_OK 0).regs } t)) ∧
    (s.now < s.panel.edgeAt + 4 * s.tePeriod → s.tePeriod ≠ 0 → exec .teTimeout s = .next s)

/-- R373, R375, spec/07_conformer.md R255: at F(E), with nothing else to take, the armed colour set takes force whole: every
staged colour word is in force and staged no longer, PENDING is 0, and its source is pending. The values of an edge are
sampled once. -/
def Sys2Proof.Claims.FenceTakesColourSet : Prop :=
  ∀ (e : Nat) (s : State), live s = true → s.fencing = true → s.nextEdge = some e →
    s.conf.frames = [] → s.panel.opened = none →
    (s.panel.sampled = false → s.sampleAt e ≤ s.q9 → s.flag F.CONF_COLSTATUS_PENDING = true →
      s.flag F.GEOM_STATUS_PENDING = false → s.conf.load = none → s.siz.fence = [] → s.siz.offer = false →
      (∀ k ∈ [2, 3, 4, 5], s.armedIds k = []) →
      Completes (exec .fenceSample s) (fun t =>
        (∀ a, isColourAddr a = true → t.word a = s.nextWord a ∧ t.stagedWord a = none) ∧
        (∀ a, isColourAddr a = false → t.stagedWord a = s.stagedWord a) ∧
        t.get F.CONF_COLSTATUS_PENDING = 0 ∧ t.get F.CONF_COLSTATUS_TF_IN_FORCE = s.getNext F.CONF_COLOUR_TF_SEL ∧
        t.isPending 579 = true ∧ t.panel = { s.panel with sampled := true } ∧ SameMemory s t ∧
        ∀ a, evtAddr a = false → isColourAddr a = false → a ≠ R.CONF_COLSTATUS → t.word a = s.word a)) ∧
    (s.panel.sampled = true ∨ s.q9 < s.sampleAt e → exec .fenceSample s = .next s)

/-- R381: at the build deadline of a launch time, while another frame is being built, each contributing layer without a
complete instant counts as late and raises its source, its instants are late, and the launch time is cut off; before the
deadline nothing happens. -/
def Sys2Proof.Claims.BuildDeadlineMarksLate : Prop :=
  ∀ (launch : Nat) (s : State), live s = true → s.queued = true → s.nextLaunch = some launch → s.afl.token = none →
    (s.deadlineDue (s.edgeNear launch) = true → s.conf.cut ≠ some launch → s.building = true →
      let missing := (s.contributors launch).filter (fun l => !s.instantDone launch l)
      Completes (exec .buildDeadline s) (fun t =>
        t.get (F.PQ_CNT_COUNT 2) = min (F.PQ_CNT_COUNT 2).max (s.get (F.PQ_CNT_COUNT 2) + missing.length) ∧
        (missing ≠ [] → t.isPending 146 = true) ∧ t.conf = { s.conf with cut := some launch } ∧
        t.card = { s.card with instants := s.card.instants.map (fun i =>
          if i.launch = some launch ∧ i.phase ≠ 2 then { i with late := true } else i) } ∧
        EvtOnly { s with card := t.card, conf := t.conf, regs := (s.bumpBy (F.PQ_CNT_COUNT 2) missing.length).regs } t)) ∧
    (s.deadlineDue (s.edgeNear launch) = false → exec .buildDeadline s = .next s)

/-- TE edges are measured, the fence takes what is due, and a late build is marked. -/
def Obligations.FencesTakeWork : Prop :=
  Claims.TeIsMeasured ∧ Claims.FenceTakesColourSet ∧ Claims.BuildDeadlineMarksLate

/-- R362, R363: the Announce of the first master heard makes it the master in use, with its identity, port and state LEARNING
shown; once it has been silent for its announceReceiptTimeout, no master is in use, HOLDOVER is shown and its source is
pending. A management message is discarded. -/
def Sys2Proof.Claims.MasterIsChosenAndLost : Prop :=
  ∀ (h : PtpHeader) (grandmaster : List Nat) (steps : Nat) (m : MasterRec) (s : State), live s = true →
    (s.get (F.ETH_LOOP_MODE h.port.val) = 0 → s.ptpTaken h = true → s.permits 0 h.logInterval = true → s.time.masters = [] →
      s.time.chosen = none →
      s.get F.TIME_STATUS_STATE ≠ 5 →
      Completes (exec (.ptpAnnounceReceive h grandmaster steps) s) (fun t =>
        t.time.chosen = some ⟨h.clockId, h.portNumber, h.port.val⟩ ∧
        t.time.masters = [⟨h.clockId, h.portNumber, h.port.val, h.ip6, h.mac, h.ip, grandmaster ++ [steps], s.now,
          3 * intervalNs h.logInterval⟩] ∧
        t.word R.TIME_MASTER_LO = BitVec.ofNat 32 h.clockId ∧ t.word R.TIME_MASTER_HI = BitVec.ofNat 32 (h.clockId / 2 ^ 32) ∧
        t.get F.TIME_STATUS_PORT = h.port.val ∧ t.get F.TIME_STATUS_STATE = 2 ∧ t.time.q = s.time.q ∧
        t = { s with regs := t.regs, time := t.time } ∧
        ∀ a, a ≠ R.TIME_MASTER_LO → a ≠ R.TIME_MASTER_HI → a ≠ R.TIME_STATUS → t.word a = s.word a)) ∧
    (s.time.masters = [m] → s.time.chosen = some m.id →
      (m.lastAnnounce + m.timeout ≤ s.now →
        Completes (exec .announceTimeout s) (fun t =>
          t.time.masters = [] ∧ t.time.chosen = none ∧ t.get F.TIME_STATUS_STATE = 4 ∧ t.word R.TIME_MASTER_LO = 0 ∧
          t.word R.TIME_MASTER_HI = 0 ∧ t.isPending 133 = true ∧ t.time.q = s.time.q ∧
          t = { s with regs := t.regs, time := t.time, evt := t.evt })) ∧
      (s.now < m.lastAnnounce + m.timeout → exec .announceTimeout s = .next s)) ∧
    exec (.ptpManagementReceive h) s = .next s

/-- R361, R362, R364: a Sync of the master is stamped with the Q9 time of its arrival, a one-step Sync giving its origin time
at once, a two-step one by its Follow_Up; a Delay_Req takes the next number and its departure time. These change the
measurement and TIME_STATUS.TWO_STEP alone. -/
def Sys2Proof.Claims.OffsetMeasurementIsTimed : Prop :=
  ∀ (h : PtpHeader) (twoStep : Bool) (seconds ns : Nat) (correction : Int) (m : MasterRec) (s : State), live s = true →
    s.get (F.ETH_LOOP_MODE h.port.val) = 0 →
    (s.fromMaster h = true → s.permits 1 h.logInterval = true →
      Completes (exec (.ptpSyncReceive h twoStep seconds ns correction) s) (fun t =>
        t.time = { s.time with measure := { s.time.measure with
          syncSeq := h.seq, t2 := some s.q9, t1 := if twoStep then none else some (s.ptpTime seconds ns)
          correction := correction } } ∧
        t.get F.TIME_STATUS_TWO_STEP = bit twoStep ∧ t = { s with regs := t.regs, time := t.time } ∧
        ∀ a, a ≠ R.TIME_STATUS → t.word a = s.word a)) ∧
    (s.fromMaster h = true → s.time.measure.t2 ≠ none → s.time.measure.t1 = none → s.time.measure.syncSeq = h.seq →
      exec (.ptpFollowUpReceive h seconds ns correction) s = .next { s with time := { s.time with measure := { s.time.measure with
        t1 := some (s.ptpTime seconds ns), correction := s.time.measure.correction + correction } } }) ∧
    (s.time.masters.find? (fun x => s.time.chosen == some x.id) = some m → s.dreqReady m = true →
      let n := (s.time.dreqSeq + 1) % 65536
      exec .delayReqSend s = .next { s with
        time := { s.time with dreqSeq := n, dreqDue := some (s.now + intervalNs s.time.dreqLog)
                              measure := { s.time.measure with dreqSeq := n, t3 := some s.q9 } }
        out := .frame m.port "delay_req" (s.tagged m.port (s.ptpAddresses m ++ s.delayReq m.port n)) :: s.out })

/-- R364, R366, R367: a Delay_Resp that answers completes one offset measurement, shown in TIME_OFFSET. While the step is armed,
the eighth offset that lies with the others within 1 µs makes Q9 time step once by their median, whatever the time was; after
it, RATE is a value of the servo within its clamp of 200 ppm, and Q9 time does not step. -/
def Sys2Proof.Claims.StepAndServo : Prop :=
  ∀ (h : PtpHeader) (clock portNumber seconds ns : Nat) (correction : Int) (t1 t2 t3 : Nat) (s : State), live s = true →
    s.get (F.ETH_LOOP_MODE h.port.val) = 0 → s.fromMaster h = true → beBytes clock 8 ++ beBytes portNumber 2 = s.ptpIdentity h.port.val →
      s.time.measure.dreqSeq = h.seq →
    s.time.measure.t1 = some t1 → s.time.measure.t2 = some t2 → s.time.measure.t3 = some t3 →
    let o := offsetOf t1 t2 t3 (s.ptpTime seconds ns) s.time.measure.correction correction
      (signedOf 32 (s.word R.TIME_ASYM).toNat)
    (s.flag F.TIME_STATUS_STEP_ARMED = true →
      let os := (o :: s.time.offsets).take 8
      (os.length = 8 → spreadOf os ≤ 1000 →
        Completes (exec (.ptpDelayRespReceive h clock portNumber seconds ns correction) s) (fun t =>
          t.word R.TIME_OFFSET = BitVec.ofNat 32 (saturate32 o) ∧
          t.time.q = ((s.time.q : Int) - stepOf os * 2 ^ 48).toNat ∧ t.get F.TIME_STATUS_STEPPED = 1 ∧
          t.get F.TIME_STATUS_STEP_ARMED = 0 ∧ t.isPending 129 = true)) ∧
      (os.length < 8 ∨ 1000 < spreadOf os →
        Completes (exec (.ptpDelayRespReceive h clock portNumber seconds ns correction) s) (fun t =>
          t.word R.TIME_OFFSET = BitVec.ofNat 32 (saturate32 o) ∧ t.time.q = s.time.q ∧ t.time.offsets = os ∧
          t = { s with regs := t.regs, time := t.time } ∧ ∀ a, a ≠ R.TIME_OFFSET → t.word a = s.word a))) ∧
    (s.flag F.TIME_STATUS_STEP_ARMED = false →
      Completes (exec (.ptpDelayRespReceive h clock portNumber seconds ns correction) s) (fun t =>
        t.word R.TIME_OFFSET = BitVec.ofNat 32 (saturate32 o) ∧ t.time.q = s.time.q ∧
        -56294995342 ≤ t.signedPair R.TIME_RATE_LO R.TIME_RATE_HI ∧ t.signedPair R.TIME_RATE_LO R.TIME_RATE_HI ≤ 56294995342 ∧
        ∀ a, evtAddr a = false → a ∉ [R.TIME_OFFSET, R.TIME_RATE_LO, R.TIME_RATE_HI, R.TIME_STATUS] → t.word a = s.word a))

/-- A master is chosen, the offset to it is measured, and Q9 time steps once and then follows. -/
def Obligations.TimeFollowsItsMaster : Prop :=
  Claims.MasterIsChosenAndLost ∧ Claims.OffsetMeasurementIsTimed ∧ Claims.StepAndServo

/-! ## spec/12_confidence_encoder.md -/

/-- R395: a sample map that is built takes force with the words it was built from, SEL_PENDING and RUNNING return to 0, its
channels without a source are counted, its source is pending, and the next frame has every tile dirty. No ray block has the
work any more. -/
def Sys2Proof.Claims.SampleMapTakesForce : Prop :=
  ∀ (regs : Tab Word) (map : Tab Nat) (s : State), live s = true → s.enc.building = some (regs, map) →
    Completes (exec .sampleMapBuilt s) (fun t =>
      t.enc = { s.enc with building := none, map := (buildSampleMap regs map).1, mapRegs := some regs, stage := 1
                           stageFrame := s.conf.started, shadow := [], needIdr := true } ∧
      t.get F.ENC_STATUS_SEL_PENDING = 0 ∧ t.get F.ENC_STATUS_RUNNING = 0 ∧ t.conf = { s.conf with whole := true } ∧
      t.get (F.ENC_CNT_COUNT 4) = min (F.ENC_CNT_COUNT 4).max (s.get (F.ENC_CNT_COUNT 4) + (buildSampleMap regs map).2) ∧
      t.isPending 835 = true ∧ t.struct = (dropAssist (· == 0) s).struct ∧
      t = { s with regs := t.regs, evt := t.evt, enc := t.enc, conf := t.conf, struct := t.struct })

/-- R404, R405, R407: a row that completes before the last adds its bits and bytes to its picture, and its overrun, and the
next row is in coding; the last row of a picture within budget under variable rate ends it: PICTURES counts on, and its batts,
58 bytes of addresses and header each, carry its bytes in order. -/
def Sys2Proof.Claims.EncoderRowsMakeBatts : Prop :=
  ∀ (bits : Nat) (bytes : List Byte) (p : EncPicture) (s : State), live s = true → s.enc.pic = some p →
    s.stale p.holds = none →
    (2 ≤ p.rows.length →
      exec (.encRowComplete bits bytes) s = .next { dropAssist (· != 0) s with enc := { s.enc with pic := some { p with
        rows := p.rows.drop 1, row := p.row + 1, spent := p.spent + bits, bytes := p.bytes ++ bytes
        overBudget := p.overBudget || decide (p.budget ≤ p.spent + bits)
        rowBudget := rowShare (p.budget - (p.spent + bits)) (p.rows.drop 1) } } }) ∧
    (p.rows.length = 1 → s.armed 5 0 = true → p.overBudget = false → p.spent + bits ≤ p.budget →
      snapField p.regs F.ENC_RC_RC_MODE ≠ 0 →
      Completes (exec (.encRowComplete bits bytes) s) (fun t =>
        t.enc.pic = none ∧ t.enc.count = s.enc.count + 1 ∧ t.enc.needIdr = false ∧
        t.get F.ENC_STATUS_PICTURES = (s.get F.ENC_STATUS_PICTURES + 1) % 65536 ∧
        (∃ batts, t.enc.batts = s.enc.batts ++ batts ∧ (batts.flatMap (fun b => b.bytes.drop 58)) = p.bytes ++ bytes ∧
          (∀ b ∈ batts, b.bytes.length ≤ 58 + 9510 ∧ b.port = snapField p.regs F.ENC_TX_PORT)) ∧
        ∀ a, a ≠ R.ENC_STATUS → t.word a = s.word a))

/-- R408, R409: a batt whose earliest time has come, not paused, leaves on its port, and counts as late when it is the first of
its picture and its time has passed; while the port's link is down it is dropped and counted. Sooner, nothing happens. -/
def Sys2Proof.Claims.EncoderBattsLeave : Prop :=
  ∀ (b : EncBatt) (rest : List EncBatt) (s : State), live s = true → s.enc.batts = b :: rest →
    let port := b.port
    (s.q9 < b.earliest → exec .encBattSend s = .next s) ∧
    (b.earliest ≤ s.q9 → s.portPaused port (s.get (F.ETH_CFG_PCP port)) = false →
      (s.get (F.ETH_STATUS_LINK port) = 1 → Completes (exec .encBattSend s) (fun t =>
        t.enc = { s.enc with batts := rest } ∧ t.out = .frame port "batt" (s.tagged port b.bytes) :: s.out ∧
        (b.first = true → b.earliest < s.q9 → t.isPending 834 = true ∧
          t.get (F.ENC_CNT_COUNT 2) = min (F.ENC_CNT_COUNT 2).max (s.get (F.ENC_CNT_COUNT 2) + 1)) ∧
        (b.first = false ∨ s.q9 ≤ b.earliest → t.regs = s.regs))) ∧
      (s.get (F.ETH_STATUS_LINK port) = 0 → Completes (exec .encBattSend s) (fun t =>
        t.enc = { s.enc with batts := rest } ∧ t.out = s.out ∧
        t.get (F.ENC_CNT_COUNT 3) = min (F.ENC_CNT_COUNT 3).max (s.get (F.ENC_CNT_COUNT 3) + 1))))

/-- A sample map takes force, rows become batts, and batts leave in time. -/
def Obligations.EncoderSendsPictures : Prop :=
  Claims.SampleMapTakesForce ∧ Claims.EncoderRowsMakeBatts ∧ Claims.EncoderBattsLeave

/-! ## spec/13_afloth_tiling.md -/

/-- R423 to R425: at a member, a PLAN puts its token in force; a GO with ACTION 0x0 commits the open frame that has been sent;
ACTION 0x1 moves it to the token's next edge and counts a deferral; ACTION 0x2 discards one that is not done, by ABORT, and
counts a forced drop. Each time the token's edge is the local one nearest, within 2 µs. -/
def Sys2Proof.Claims.MembersFollowTokens : Prop :=
  ∀ (k : Fin 4) (frame : List Byte) (x : AflFrame) (o : OpenFrame) (t0 : TokenRec) (e : Nat) (s : State),
    AflHeard s k frame x → s.leader = false → x.origin = 0 → s.edgeNear (tokenEdge x) = some e →
    ((e : Int) - tokenEdge x).natAbs ≤ 2000 →
    (x.type = 1 →
      Completes (exec (.aflPlanReceive k false frame) s) (fun t =>
        t.afl.token = some ⟨e, tokenEdge x, tokenLaunch x, leAt x.data 0x18 2, leAt x.data 0x1C 1, tokenEdge x⟩ ∧
        t.afl.done = [] ∧ t.afl.noFrame = false ∧ t.afl.leaderHold = false ∧ t.panel = s.panel ∧ t.conf = s.conf)) ∧
    (x.type = 3 → s.panel.opened = some o → o.committed = false → s.afl.token = some t0 →
      (leAt x.data 0x1B 1 = 0 → s.afl.noFrame = false → s.canCommit o = true →
        Completes (exec (.goCommit k false frame) s) (fun t =>
          t.panel.opened = some { o with committed := true, busy := none, go := true } ∧ (t.frame o.handle).state = 4 ∧
          t.afl.token = none ∧ ∀ h, h ≠ o.handle → t.frame h = s.frame h)) ∧
      (leAt x.data 0x1B 1 = 1 →
        Completes (exec (.goDefer k false frame) s) (fun t =>
          t.afl.token = some { t0 with edge := e, named := tokenEdge x, defers := leAt x.data 0x1C 1 } ∧
          t.panel.opened = some { o with target := some e } ∧ (t.frame o.handle).late = true ∧
          t.get (F.PQ_CNT_COUNT 0) = min 0xFFFFFFFF (s.get (F.PQ_CNT_COUNT 0) + 1) ∧
          t.get (F.AFL_CNT_COUNT 1) = min 0xFFFFFFFF (s.get (F.AFL_CNT_COUNT 1) + 1) ∧ t.isPending 144 = true)) ∧
      (leAt x.data 0x1B 1 = 2 → o.doneSent = false →
        Completes (exec (.goForce k false frame) s) (fun t =>
          t.panel.opened = none ∧ (t.frame o.handle).state = 0 ∧ t.afl.token = none ∧ .panelAbort o.frameNo 3 ∈ t.out ∧
          t.get (F.AFL_CNT_COUNT 2) = min 0xFFFFFFFF (s.get (F.AFL_CNT_COUNT 2) + 1) ∧ t.isPending 790 = true)))

/-- R422, R425, R431: the leader records a DONE for its token's edge, keeps a member's snapshot of pending words and raises
REMOTE_EVENT for bits that are new, declares a member lost that has been silent for LOST_MS, and at F(E) − GO_US, when every
awaited DONE has come, sends GO and commits its own frame. -/
def Sys2Proof.Claims.LeaderCollectsMembers : Prop :=
  ∀ (k d : Fin 4) (frame : List Byte) (x : AflFrame) (o : OpenFrame) (t0 : TokenRec) (s : State), s.leader = true →
    (AflHeard s k frame x → x.type = 2 → s.afl.token = some t0 → t0.planned ≤ tokenEdge x → tokenEdge x ≤ t0.named →
      Completes (exec (.aflDoneReceive k false frame) s) (fun t =>
        x.origin ∈ t.afl.done ∧ (∀ n, n ≠ x.origin → (n ∈ t.afl.done ↔ n ∈ s.afl.done)) ∧ t.afl.token = some t0 ∧
        t.panel = s.panel)) ∧
    (AflHeard s k frame x → x.type = 5 → 1 ≤ x.origin → x.origin < 4 →
      Completes (exec (.aflEventReceive k false frame) s) (fun t =>
        (∀ n, n < 32 → tabGet 0 t.afl.remote (32 * x.origin + n) = BitVec.ofNat 32 (leAt x.data (4 * n) 4)) ∧
        (∀ m, m < 32 * x.origin ∨ 32 * x.origin + 32 ≤ m → tabGet 0 t.afl.remote m = tabGet 0 s.afl.remote m) ∧
        ((∃ n, n < 32 ∧ BitVec.ofNat 32 (leAt x.data (4 * n) 4) &&&
            ~~~ (tabGet 0 s.afl.remote (32 * x.origin + n) : Word) ≠ 0) → t.isPending 794 = true))) ∧
    (live s = true → s.watches d.val = true → d.val ∉ s.afl.lost →
      (s.helloLate d.val = true → Completes (exec (.aflLossTimeout d) s) (fun t =>
        d.val ∈ t.afl.lost ∧ d.val ∉ t.afl.awaited ∧ t.isPending 784 = true ∧ t.panel = s.panel ∧
        EvtOnly { s with afl := t.afl, regs := (s.setWord R.AFL_TILE_STATUS (t.word R.AFL_TILE_STATUS)).regs } t)) ∧
      (s.helloLate d.val = false → exec (.aflLossTimeout d) s = .next s)) ∧
    (live s = true → s.tiled = true → s.afl.token = some t0 → s.allDone = true → s.panel.opened = some o →
      o.committed = false → s.canCommit o = true → s.afl.noFrame = false →
      s.sampleAt t0.edge ≤ s.q9 + 1000 * s.get F.AFL_TILE_CFG_GO_US →
      Completes (exec .aflGoSend s) (fun t =>
        t.afl.token = none ∧ t.panel.opened = some { o with committed := true, busy := none, go := true } ∧
        (t.frame o.handle).state = 4 ∧
        ∃ seq, ∀ l ∈ s.outward, s.aflLinkOk l = true →
          .afloth l (aflFrame 3 s.tileId 0 seq 0 (tokenBytes t0.edge t0.launch t0.lframe 0 t0.defers)) ∈ t.out))

/-- Members follow the leader's tokens, and the leader collects its members. -/
def Obligations.TilesFollowTheLeader : Prop :=
  Claims.MembersFollowTokens ∧ Claims.LeaderCollectsMembers

/-- R420, R421, R431: every ms a device sends HELLO on each UP link; a member sends its pending words towards the leader when
they have changed; a HELLO on the wrong link is a wiring fault, and one of a right neighbour that is a member, at the leader,
refreshes its membership. -/
def Sys2Proof.Claims.MembershipIsKept : Prop :=
  ∀ (k : Fin 4) (frame : List Byte) (x : AflFrame) (s : State),
    (live s = true → s.tiled = true →
      (s.afl.helloAt + 1000000 ≤ s.now → Completes (exec .aflHelloSend s) (fun t =>
        t.afl.helloAt = s.now ∧ t.regs = s.regs ∧
        ∃ seq, ∀ l, l < 4 → s.linkUp (l + 1) = true → .afloth l (aflFrame 6 s.tileId 0 seq 0 (helloBytes s)) ∈ t.out)) ∧
      (s.now < s.afl.helloAt + 1000000 → exec .aflHelloSend s = .next s) ∧
      (s.leader = false → s.pendingWords ≠ s.afl.sentWords → s.aflLinkOk s.inwardLink = true →
        Completes (exec .aflEventSend s) (fun t =>
          t.afl.sentWords = s.pendingWords ∧ t.afl.sentAt = some s.now ∧ t.regs = s.regs ∧
          ∃ seq, t.out = .afloth s.inwardLink (aflFrame 5 s.tileId 0 seq 0
            (s.pendingWords.flatMap (fun w => leBytes w.toNat 4))) :: s.out))) ∧
    (AflHeard s k frame x → x.type = 6 → x.hops = 0 →
      let right := neighbour s.topo s.devices s.tileId k.val = some (leAt x.data 0 1) ∧ leAt x.data 1 1 = s.topo ∧
        leAt x.data 2 1 = s.get F.AFL_TILE_CFG_COUNT
      (¬ right → Completes (exec (.aflHelloReceive k false frame) s) (fun t =>
        (t.get F.AFL_TILE_STATUS_WIRING).testBit k.val = true ∧ t.isPending 793 = true ∧ t.afl.hello = s.afl.hello)) ∧
      (right → s.leader = true → Completes (exec (.aflHelloReceive k false frame) s) (fun t =>
        tabGet none t.afl.hello x.origin = some s.now ∧ x.origin ∉ t.afl.lost ∧
        (x.origin ∈ s.afl.lost → t.isPending 785 = true) ∧
        (∀ d, d ≠ x.origin → tabGet none t.afl.hello d = tabGet none s.afl.hello d) ∧ t.panel = s.panel)))

/-- R429, R418: a SEAM frame for a layer whose depth, extent and source agree, with the right layout and in time, joins its
samples to the strip of its key view, each at its index; one that does not agree is counted as bad. A frame that fails its
checks, or holds a code error, is discarded and counted. -/
def Sys2Proof.Claims.SeamFramesBuildStrips : Prop :=
  ∀ (k : Fin 4) (code : Bool) (frame : List Byte) (x : AflFrame) (s : State), live s = true → s.linkUp (k.val + 1) = true →
    (s.get F.AFL_TILE_STATUS_WIRING).testBit k.val = false →
    (aflParse frame = some x → x.type = 4 →
      let l := x.param % 256 % 64
      let launch := if leAt x.data 0 12 = 0 then none else some (leAt x.data 0 8 * 1000000000 + leAt x.data 8 4)
      let agrees := slice x.param 23 16 = lyrS s.regs l ∧ slice x.param 63 48 = edgeExtent s.regs l k.val ∧
        slice x.param 39 32 = lyrSrc s l
      (agrees → leAt x.data 12 4 = kvdCrc s.regs l → s.stripLate l launch = false →
        Completes (exec (.aflSeamReceive k false frame) s) (fun t =>
          (∃ r ∈ t.afl.strips, r.layer = l ∧ r.edge = k.val ∧ r.launch = launch ∧ r.kv = slice x.param 31 24 ∧
            ∀ i, i < (x.data.length - 24) / 8 → leAt x.data 16 4 + i < lyrS s.regs l * edgeExtent s.regs l k.val →
              tabGet none r.samples (leAt x.data 16 4 + i) = some (leAt x.data (24 + 8 * i) 8)) ∧
          t.regs = s.regs ∧ t.card = s.card)) ∧
      (¬ agrees → Completes (exec (.aflSeamReceive k false frame) s) (fun t =>
        t.get (F.AFL_CNT_COUNT 4) = min 0xFFFFFFFF (s.get (F.AFL_CNT_COUNT 4) + 1) ∧ t.isPending 792 = true ∧
        t.afl.strips = s.afl.strips))) ∧
    (code = true ∨ aflParse frame = none →
      Completes (exec (.aflSeamReceive k code frame) s) (fun t =>
        t.get (F.AFL_CNT_COUNT 0) = min 0xFFFFFFFF (s.get (F.AFL_CNT_COUNT 0) + 1) ∧ t.afl = s.afl))

/-- HELLO and EVENT keep the membership, SEAM frames build strips. -/
def Obligations.MembershipAndSeams : Prop :=
  Claims.MembershipIsKept ∧ Claims.SeamFramesBuildStrips

/-! ## spec/14_hbm_controller.md -/

/-- R438, R441, R448: a request enters the bank queue that R436 names while the bank holds fewer than 16, and waits at the
pseudo-channel's input otherwise or while its stack takes none, as long as the pseudo-channel then holds fewer than the 32
writes at which it turns to them; a write drops the word's waiting write-back. No other pseudo-channel changes, no byte of
memory, and no register but HBM_STATUS; a request beyond the two stacks does nothing. -/
def Sys2Proof.Claims.MemoryRequestsQueue : Prop :=
  ∀ (id m : Nat) (write : Bool) (data : List Byte) (s : State), live s = true →
    let a := memPlace m
    let x := s.pc a.pc
    let y := if write then dropWriteBack (m / 32 * 32) (x.bank a.bank) else x.bank a.bank
    let r : MemReq := { id := id, write := write, row := a.row, word := m / 32 * 32, data := data.take 32, at_ := s.now }
    let x' := if write then x.setBank a.bank y else x
    let y' : BankState := { y with queue := y.queue ++ [r] }
    let keeps (t : State) : Prop :=
      (∀ p, p ≠ a.pc → t.pc p = s.pc p) ∧ (∀ b, b ≠ a.bank → (t.pc a.pc).bank b = x.bank b) ∧
      (∀ w, w ≠ R.HBM_STATUS (ctrlOf a.pc) → t.word w = s.word w) ∧ t = { s with regs := t.regs, mem := t.mem }
    (m < 2 * stackBytes → x.input = [] →
      (s.pcHeld a.pc = false → y.load < 16 → (x'.setBank a.bank y').writes.length < 32 →
        Completes (exec (.hbmRequest id write m data) s) (fun t =>
          (t.pc a.pc).bank a.bank = y' ∧ (t.pc a.pc).input = [] ∧ keeps t)) ∧
      (s.pcHeld a.pc = true ∨ (16 ≤ y.load ∧ x'.writes.length < 32) →
        Completes (exec (.hbmRequest id write m data) s) (fun t =>
          (t.pc a.pc).bank a.bank = y ∧ (t.pc a.pc).input = [(a.bank, r)] ∧ keeps t))) ∧
    (2 * stackBytes ≤ m → exec (.hbmRequest id write m data) s = .next s)

/-- R439, R447, R448, R449: where the only waiting request of a pseudo-channel is a read of its bank's open row, the read
returns the 32 bytes of its word; a single-bit error is counted and its write-back queued; an error that cannot be corrected
is counted and recorded, poisons the word and returns poisoned. No byte of memory changes. While the stack takes no requests,
or a refresh runs, nothing returns. -/
def Sys2Proof.Claims.MemoryReadsReturn : Prop :=
  ∀ (pc : Fin 64) (b : Nat) (y : BankState) (r : MemReq) (s : State), live s = true →
    let p := pc.val
    let c := ctrlOf p
    let corr := if p % 2 = 0 then F.HBM_ECC_CORR_PC0 c else F.HBM_ECC_CORR_PC1 c
    let uncorr := if p % 2 = 0 then F.HBM_ECC_UNCORR_PC0 c else F.HBM_ECC_UNCORR_PC1 c
    (s.pcHeld p = true ∨ s.now < (s.pc p).busyUntil → ∀ ecc, exec (.hbmReadReturn pc ecc) s = .next s) ∧
    (s.pcHeld p = false → (s.pc p).busyUntil ≤ s.now → (s.pc p).banks = [(b, y)] → (s.pc p).input = [] →
      y.queue = [r] → r.write = false → r.kind = 0 → y.openRow = some r.row →
      (r.word / 32 ∉ s.poison →
        Completes (exec (.hbmReadReturn pc 0) s) (fun t =>
          t.out = .memory r.id (s.hbmRead r.word 32) false :: s.out ∧ ((t.pc p).bank b).queue = [] ∧
          (∀ q, q ≠ p → t.pc q = s.pc q) ∧ (∀ a, a ≠ R.HBM_STATUS c → t.word a = s.word a) ∧
          t = { s with regs := t.regs, mem := t.mem, out := t.out }) ∧
        ((memPlace r.word).bank = b → Completes (exec (.hbmReadReturn pc 1) s) (fun t =>
          t.out = .memory r.id (s.hbmRead r.word 32) false :: s.out ∧ t.get corr = min corr.max (s.get corr + 1) ∧
          ((t.pc p).bank b).queue = [{ r with write := true, kind := 2, at_ := s.now, data := [] }] ∧
          (∀ q, q ≠ p → t.pc q = s.pc q) ∧ SameMemory s t ∧
          ∀ a, evtAddr a = false → a ≠ R.HBM_STATUS c → a ≠ corr.addr → t.word a = s.word a))) ∧
      (s.inTables r.word = false → ∀ ecc : Fin 3, ecc = 2 ∨ r.word / 32 ∈ s.poison →
        Completes (exec (.hbmReadReturn pc ecc) s) (fun t =>
          (∃ bs, bs.length = 32 ∧ t.out = .memory r.id bs true :: s.out) ∧ ((t.pc p).bank b).queue = [] ∧
          t.get uncorr = min uncorr.max (s.get uncorr + 1) ∧
          t.get (F.HBM_ECC_LAST_WORD c) = r.word % stackBytes / 32 % ((F.HBM_ECC_LAST_WORD c).max + 1) ∧
          t.get (F.HBM_ECC_LAST_VALID c) = 1 ∧ t.isPending (865 + 2 * c) = true ∧
          (∀ w, w ∈ t.poison ↔ w = r.word / 32 ∨ w ∈ s.poison) ∧
          (∀ a, cellGet ramBlank t.hbm a = cellGet ramBlank s.hbm a))))

/-- R439, R441, R443: where the only waiting request of a pseudo-channel is a write of its bank's open row that has waited
2 µs, its bytes and no others reach memory, and the word is poisoned no longer; sooner nothing happens. A refresh that is due
closes every row, takes the new interval and holds the pseudo-channel 350 ns; sooner nothing happens. -/
def Sys2Proof.Claims.MemoryWritesAndRefresh : Prop :=
  ∀ (pc : Fin 64) (b : Nat) (y : BankState) (r : MemReq) (s : State), live s = true →
    let p := pc.val
    (s.pcHeld p = false → (s.pc p).busyUntil ≤ s.now → (s.pc p).banks = [(b, y)] → (s.pc p).input = [] →
      y.queue = [r] → r.write = true → r.kind = 0 → y.openRow = some r.row → r.data.length = 32 → r.word % 32 = 0 →
      (r.at_ + 2000 ≤ s.now → Completes (exec (.hbmWriteWaitExpiry pc) s) (fun t =>
        t.hbmRead r.word 32 = r.data ∧
        (∀ a, a < r.word ∨ r.word + 32 ≤ a → cellGet ramBlank t.hbm a = cellGet ramBlank s.hbm a) ∧
        (∀ w, w ∈ t.poison ↔ w ∈ s.poison ∧ w ≠ r.word / 32) ∧ ((t.pc p).bank b).queue = [] ∧
        (∀ q, q ≠ p → t.pc q = s.pc q) ∧ (∀ a, a ≠ R.HBM_STATUS (ctrlOf p) → t.word a = s.word a) ∧
        t = { s with regs := t.regs, mem := t.mem, hbm := t.hbm, poison := t.poison })) ∧
      (s.now < r.at_ + 2000 → exec (.hbmWriteWaitExpiry pc) s = .next s)) ∧
    (s.pcHeld p = false → (s.pc p).lastRefresh + (s.pc p).refi ≤ s.now →
      Completes (exec (.hbmRefreshDue pc) s) (fun t =>
        (∀ k, ((t.pc p).bank k).openRow = none) ∧ (t.pc p).lastRefresh = s.now ∧ (t.pc p).busyUntil = s.now + 350 ∧
        (t.pc p).refi = (s.pc p).nextRefi ∧ (∀ q, q ≠ p → t.pc q = s.pc q) ∧
        (∀ a, a ≠ R.HBM_STATUS (ctrlOf p) → a ≠ R.HBM_NRCNT (ctrlOf p) → t.word a = s.word a) ∧
        t = { s with regs := t.regs, mem := t.mem })) ∧
    (s.pcHeld p = true ∨ s.now < (s.pc p).lastRefresh + (s.pc p).refi → exec (.hbmRefreshDue pc) s = .next s)

/-- Requests queue by bank, reads return with their ECC outcome, writes reach memory, refresh is timely. -/
def Obligations.MemoryServesRequests : Prop :=
  Claims.MemoryRequestsQueue ∧ Claims.MemoryReadsReturn ∧ Claims.MemoryWritesAndRefresh

/-- R450, R452: a write of HBM_FREQCTL during a change answers BUSY, one of a rate that is not available VALUE, any other takes
force with PENDING as R450 gives it. A pending change of a stack without requests starts in its window: ACTIVE is 1, PENDING
0, the stack in self-refresh with its rows closed. When it ends the new rate is in force, counted, with its duration. -/
def Obligations.DataRateChanges : Prop :=
  ∀ (who : Requester) (stack : Fin 2) (v : Word) (r : Nat) (s : State),
    let k := stack.val
    let target := wordField v (F.HBM_FREQCTL_TARGET k)
    (Permitted who (R.HBM_FREQCTL k) s →
      (s.flag (F.HBM_FREQSTAT_ACTIVE k) = true →
        exec (.hbmFreqctlWrite who stack v) s = .next (s.emit (.status who (R.HBM_FREQCTL k) .busy))) ∧
      (s.flag (F.HBM_FREQSTAT_ACTIVE k) = false → (s.get (F.HBM_FREQSTAT_AVAIL k)).testBit target = false →
        exec (.hbmFreqctlWrite who stack v) s = .next (s.emit (.status who (R.HBM_FREQCTL k) .value))) ∧
      (s.flag (F.HBM_FREQSTAT_ACTIVE k) = false → (s.get (F.HBM_FREQSTAT_AVAIL k)).testBit target = true →
        Completes (exec (.hbmFreqctlWrite who stack v) s) (fun t =>
          t.get (F.HBM_FREQCTL_TARGET k) = target ∧
          (t.flag (F.HBM_FREQSTAT_PENDING k) = true ↔ t.wantedRate k ≠ some (s.get (F.HBM_FREQSTAT_IN_FORCE k))) ∧
          (∀ a, a ≠ R.HBM_FREQCTL k → a ≠ R.HBM_FREQSTAT k → t.word a = s.word a) ∧
          t = { s with regs := t.regs, out := .status who (R.HBM_FREQCTL k) .ok :: s.out }))) ∧
    (live s = true → s.wantedRate k = some r → s.flag (F.HBM_FREQSTAT_ACTIVE k) = false →
      (s.flag (F.HBM_FREQSTAT_PENDING k) = true → s.changeWindow = true →
        (∀ p ∈ stackPcs k, ∀ e ∈ (s.pc p).banks, e.2.queue = []) →
        Completes (exec (.hbmFreqChangeStart stack) s) (fun t =>
          t.flag (F.HBM_FREQSTAT_ACTIVE k) = true ∧ t.flag (F.HBM_FREQSTAT_PENDING k) = false ∧
          (t.stack k).next = r ∧ (t.stack k).startedAt = s.now ∧ (∀ c ∈ stackCtrls k, t.flag (F.HBM_STATUS_SELFREF c) = true) ∧
          (∀ p ∈ stackPcs k, ∀ b, ((t.pc p).bank b).openRow = none) ∧ (∀ p, p ∉ stackPcs k → t.pc p = s.pc p) ∧
          t = { s with regs := t.regs, mem := t.mem })) ∧
      (s.flag (F.HBM_FREQSTAT_PENDING k) = false ∨ s.changeWindow = false →
        exec (.hbmFreqChangeStart stack) s = .next s)) ∧
    (live s = true → s.flag (F.HBM_FREQSTAT_ACTIVE k) = true → s.wantedRate k = some (s.stack k).next →
      Completes (exec (.hbmFreqChangeDone stack) s) (fun t =>
        t.flag (F.HBM_FREQSTAT_ACTIVE k) = false ∧ t.flag (F.HBM_FREQSTAT_PENDING k) = false ∧
        t.get (F.HBM_FREQSTAT_IN_FORCE k) = (s.stack k).next ∧
        t.get (F.HBM_FREQSTAT_CHANGES k) = (s.get (F.HBM_FREQSTAT_CHANGES k) + 1) % 65536 ∧
        t.get (F.HBM_FREQTIME_DURATION_NS k) = min 65535 (s.now - (s.stack k).startedAt) ∧
        (∀ c ∈ stackCtrls k, t.flag (F.HBM_STATUS_SELFREF c) = false ∧ t.get (F.HBM_STATUS_RATE c) = (s.stack k).next) ∧
        (∀ p, p ∉ stackPcs k → t.pc p = s.pc p) ∧ t = { s with regs := t.regs, mem := t.mem }))

/-! ## spec/15_translation_preemption.md -/

/-- R455, R456, R465, R475: a request whose lease is current, whose address lies in a mapped range of its context with the
permission it needs, and whose word is not poisoned, is granted the memory byte of its pool offset, and nothing else changes.
One of the host, link, port or event contexts that fails a check is answered as a fault: 0x3 for a stale lease, 0x1 for an
unmapped address, 0x2 for a permission, 0x4 for poison, in that order; XLAT_FLT shows it, it is counted, and reported. -/
def Obligations.TranslationGrantsOrFaults : Prop :=
  ∀ (ctx block : Fin 64) (cell : Fin 16) (ca code : Nat) (write : Bool) (lease : Option (Fin 256 × Nat)) (r : MapRange)
    (q : PoolRec) (s : State), live s = true →
    let lease' := lease.map (fun l => (l.1.val, l.2))
    let current := ∀ l, lease = some l → (s.lease l.1.val).gen = l.2
    let mapped := s.mapFind ctx.val ca = some r ∧ s.pool r.pool = some q
    let allowed := if write then r.write = true else r.read = true
    let poisoned := write = false ∧ (poolBase q + ca % 2 ^ 35) / 32 ∈ s.poison
    (current → mapped → allowed → ¬ poisoned →
      exec (.xlatRequest ctx ca write lease' block cell) s =
        .next (s.emit (.translated ctx.val ca (some (poolBase q + ca % 2 ^ 35))))) ∧
    (ctx.val = 0 ∨ 13 ≤ ctx.val →
      (¬ current ∧ code = 3) ∨ (current ∧ s.mapFind ctx.val ca = none ∧ code = 1) ∨
      (current ∧ mapped ∧ ¬ allowed ∧ code = 2) ∨ (current ∧ mapped ∧ allowed ∧ poisoned ∧ code = 4) →
      Completes (exec (.xlatRequest ctx ca write lease' block cell) s) (fun t =>
        t.out = .translated ctx.val ca none :: s.out ∧ t.get F.XLAT_FLT_INFO_VALID = 1 ∧
        t.get F.XLAT_FLT_INFO_CTX = ctx.val ∧ t.get F.XLAT_FLT_INFO_CODE = code ∧
        t.get F.XLAT_FLT_INFO_LEASE_VALID = bit lease.isSome ∧ (∀ l, lease = some l → t.get F.XLAT_FLT_INFO_LEASE = l.1.val) ∧
        t.get F.XLAT_FLT_ADDR_LO_CA = ca % 2 ^ 32 ∧ t.get F.XLAT_FLT_ADDR_HI_CA = ca / 2 ^ 32 % 2 ^ 9 ∧
        t.get (F.XLAT_CNT_COUNT (code - 1)) = min 0xFFFFFFFF (s.get (F.XLAT_CNT_COUNT (code - 1)) + 1) ∧
        (s.msQuiet 928 = true → t.isPending 928 = true) ∧ t = { s with regs := t.regs, evt := t.evt, out := t.out } ∧
        ∀ a, evtAddr a = false → a ∉ [R.XLAT_FLT_INFO, R.XLAT_FLT_ADDR_LO, R.XLAT_FLT_ADDR_HI, R.XLAT_CNT (code - 1)] →
          t.word a = s.word a))

/-- R460, R462 to R464: a pending release that no holder keeps, and that a fence has passed where the queue is ARMED, completes:
its entry is free with the next generation and RELEASE_DONE pending; any other does not. XLAT_RELEASE of a BOUND object makes
it DECLARED and its entries drain with the next generation; of no such object it answers VALUE, of an UNDECLARED one STATE.
The drain frees the entries, raises EARLY_RELEASE where a holder remained, and answers the write. -/
def Sys2Proof.Claims.ReleasesComplete : Prop :=
  ∀ (who : Requester) (entry : Fin 256) (v : Word) (w : Requester) (kind id : Nat) (remained : Bool)
    (rest : List (Requester × Nat × Nat × Bool)) (s : State),
    let k := wordField v F.XLAT_RELEASE_KIND
    let n := wordField v F.XLAT_RELEASE_ID
    let next (l : Lease) : Nat := (l.gen + 1) % 65536
    (live s = true → s.releaseDue entry.val = true → Completes (exec (.leaseReleaseComplete entry) s) (fun t =>
      t.lease entry.val = { gen := next (s.lease entry.val) } ∧ t.isPending 932 = true ∧
      (∀ e, e ≠ entry.val → t.lease e = s.lease e) ∧ EvtOnly { s with xlat := t.xlat } t)) ∧
    (live s = true → s.releaseDue entry.val = false → exec (.leaseReleaseComplete entry) s = .next s) ∧
    (Permitted who R.XLAT_RELEASE s →
      (k ∉ [1, 2, 3] ∨ n ∉ pathIds k → exec (.xlatRelease who v) s = .next (s.emit (.status who R.XLAT_RELEASE .value))) ∧
      (k ∈ [1, 2, 3] → n ∈ pathIds k → (s.path k n).state = 0 →
        exec (.xlatRelease who v) s = .next (s.emit (.status who R.XLAT_RELEASE .state))) ∧
      (k ∈ [1, 2, 3] → n ∈ pathIds k → (s.path k n).state = 2 → Completes (exec (.xlatRelease who v) s) (fun t =>
        t.path k n = { state := 1, touched := true } ∧ (∀ j i, pathKey j i ≠ pathKey k n → t.path j i = s.path j i) ∧
        (∀ e ∈ s.leasesOf k n, t.lease e = { s.lease e with state := 2, gen := next (s.lease e), draining := true }) ∧
        (∀ e, e ∉ s.leasesOf k n → t.lease e = s.lease e) ∧
        (∃ b, t.xlat.forced = s.xlat.forced ++ [(who, k, n, b)]) ∧
        t = { s with kcp := { s.kcp with paths := t.kcp.paths }
                     xlat := { s.xlat with leases := t.xlat.leases, forced := t.xlat.forced } }))) ∧
    (live s = true → s.xlat.forced = (w, kind, id, remained) :: rest →
      Completes (exec .forcedReleaseDrained s) (fun t =>
        t.xlat.forced = rest ∧ t.out = .status w R.XLAT_RELEASE .ok :: s.out ∧
        (∀ e, t.lease e =
          if e ∈ s.leasesOf kind id ∧ (s.lease e).draining = true then { gen := (s.lease e).gen } else s.lease e) ∧
        (remained = true → t.isPending 929 = true) ∧
        ((∃ e ∈ s.leasesOf kind id, (s.lease e).draining = true) → t.isPending 932 = true) ∧
        EvtOnly { s with xlat := t.xlat, out := t.out } t))

/-- R456: a write of XLAT_PROBE_HI reads the leaf entry of the context and address named into XLAT_PTE. R472, R474: an engine that
is not parked does not resume; a parked fuller engine whose save area passes its checks is parked no longer, STATE of its save
area and of XLAT_CTXn is 0x0, the header's CRC right, and its job runs again; no other byte of memory changes. The other engines'
parked work resumes when it is dispatched again, not here (the model's choice, log entry 231). -/
def Sys2Proof.Claims.ProbeAndResume : Prop :=
  ∀ (who : Requester) (v : Word) (ctx : Fin 64) (off point : Nat) (q : PoolRec) (j : FulJob) (s : State),
    (Permitted who R.XLAT_PROBE_HI s → Completes (exec (.xlatProbe who v) s) (fun t =>
      let e := s.leafEntry (wordField v F.XLAT_PROBE_HI_CTX) (wordField v F.XLAT_PROBE_HI_CA * 2 ^ 32 + s.probeLo.toNat)
      t.word R.XLAT_PTE_LO = BitVec.ofNat 32 e ∧ t.word R.XLAT_PTE_HI = BitVec.ofNat 32 (e / 2 ^ 32) ∧
      (∀ a, a ∉ [R.XLAT_PROBE_LO, R.XLAT_PROBE_HI, R.XLAT_PTE_LO, R.XLAT_PTE_HI] → t.word a = s.word a) ∧
      t = { s with regs := t.regs, heldLo := t.heldLo, out := .status who R.XLAT_PROBE_HI .ok :: s.out })) ∧
    (live s = true →
      (tabGet none s.xlat.parked ctx.val = none → exec (.engineResume ctx) s = .next s) ∧
      (tabGet none s.xlat.parked ctx.val = some point → s.saveOk ctx.val = true → saveOffset ctx.val = some off →
        s.lowestPool 5 = some q → ctx.val = 10 ∨ ctx.val = 11 → Completes (exec (.engineResume ctx) s) (fun t =>
          let base := poolBase q + off
          tabGet none t.xlat.parked ctx.val = none ∧ t.get (F.XLAT_CTX_STATE ctx.val) = 0 ∧
          t.hbmRead (base + 5) 1 = [0] ∧ leAt (t.hbmRead base 64) 0x3C 4 = crc32c (t.hbmRead base 60) ∧
          (∀ a, a < base ∨ (base ≤ a ∧ a < base + 60 ∧ a ≠ base + 5) ∨ base + 64 ≤ a →
            cellGet ramBlank t.hbm a = cellGet ramBlank s.hbm a) ∧
          t.flash = s.flash ∧ t.sram = s.sram ∧ t.out = s.out ∧
          (∀ n, n < 2 → ctx.val = 10 + n → s.fulJob n = some j → j.state = 3 →
            t.fulJob n = some { j with state := 2 } ∧ t.get (F.FUL_STATUS_STATE n) = 2 ∧ t.get (F.FUL_STATUS_BUSY n) = 1) ∧
          t = { s with regs := t.regs, xlat := t.xlat, hbm := t.hbm, poison := t.poison, fuller := t.fuller })) ∧
      (ctx.val ≠ 10 → ctx.val ≠ 11 → exec (.engineResume ctx) s = .next s))

/-- Releases complete or drain, a probe reads the tables, and a parked engine resumes from its save area. -/
def Obligations.ReleasesProbesAndResumes : Prop :=
  Claims.ReleasesComplete ∧ Claims.ProbeAndResume

/-! ## spec/16_fuller.md -/

/-- R476 to R483: decompressing what the compressor makes of any data gives the data back, for every code width. -/
def Obligations.FullerRoundTrip : Prop :=
  ∀ (w capacity : Nat) (raw : List Byte), 9 ≤ w → w ≤ 16 → raw.length < 2 ^ 32 → raw.length ≤ capacity →
    fullerDecompress (fullerCompress w raw) capacity = .ok raw

/-- R484, R488: START of an idle engine whose job passes the checks takes the job's words, and waits or runs with no block
done; a failed check shows RESULT 4 with its code; a busy engine answers BUSY. ABORT of a job ends it with RESULT 3 and
OUTLEN 0, and changes no memory outside the destination's capacity; without a job it does nothing. -/
def Sys2Proof.Claims.FullerJobsStartAndAbort : Prop :=
  ∀ (who : Requester) (n : Fin 2) (st : Status) (j : FulJob) (q : PoolRec) (s : State), Permitted who (R.FUL_CTRL n.val) s →
    let ws := (fulAddrs n.val).map (fun a => (s.word a).toNat)
    let idle := s.flag (F.FUL_STATUS_BUSY n.val) = false
    let p := fulParams j.words
    (idle → s.fulCheck n.val (fulParams ws) = none → Completes (exec (.fullerStart who n) s) (fun t =>
      (∃ x, (x = 1 ∨ x = 2) ∧ t.fulJob n.val = some ⟨ws, false, x, none⟩ ∧ t.get (F.FUL_STATUS_STATE n.val) = x) ∧
      t.get (F.FUL_STATUS_BUSY n.val) = 1 ∧ t.get (F.FUL_PROGRESS_BLOCKS n.val) = 0 ∧ t.get (F.FUL_STORED_BLOCKS n.val) = 0 ∧
      (∀ a, a ∉ [R.FUL_STATUS n.val, R.FUL_PROGRESS n.val, R.FUL_STORED n.val] → t.word a = s.word a) ∧
      t = { s with regs := t.regs, fuller := t.fuller, out := .status who (R.FUL_CTRL n.val) .ok :: s.out })) ∧
    (idle → s.fulCheck n.val (fulParams ws) = some st → Completes (exec (.fullerStart who n) s) (fun t =>
      t.get (F.FUL_STATUS_RESULT n.val) = 4 ∧ t.get (F.FUL_STATUS_REFUSE n.val) = statusCode st ∧
      t.isPending (fulSource n.val 2) = true ∧ (∀ a, evtAddr a = false → a ≠ R.FUL_STATUS n.val → t.word a = s.word a) ∧
      t = { s with regs := t.regs, evt := t.evt, out := .status who (R.FUL_CTRL n.val) st :: s.out })) ∧
    (¬ idle → exec (.fullerStart who n) s = .next (s.emit (.status who (R.FUL_CTRL n.val) .busy))) ∧
    (s.fulJob n.val = some j → s.pool p.dstPool = some q → Completes (exec (.fullerAbort who n) s) (fun t =>
      t.fulJob n.val = none ∧ t.get (F.FUL_STATUS_RESULT n.val) = 3 ∧ t.get (F.FUL_STATUS_BUSY n.val) = 0 ∧
      t.get (F.FUL_OUTLEN_BYTES n.val) = 0 ∧ t.fulJob (1 - n.val) = s.fulJob (1 - n.val) ∧
      (∀ a, a < poolBase q + p.dstOff ∨ poolBase q + p.dstOff + p.dstCap ≤ a →
        cellGet ramBlank t.hbm a = cellGet ramBlank s.hbm a) ∧
      t.out = .status who (R.FUL_CTRL n.val) .ok :: s.out)) ∧
    (s.fulJob n.val = none → exec (.fullerAbort who n) s = .next (s.emit (.status who (R.FUL_CTRL n.val) .ok)))

/-- R485, R487, R489: the first block of a job on up to 65,536 bytes of raw data completes it. A compression writes the stream
of its source, a decompression the data that the stream holds, each from the destination's start, with RESULT 1 and OUTLEN the
bytes written, and no other byte of memory changes; a stream with a fault ends the job with RESULT 2 and its code, OUTLEN 0,
and only the destination's capacity changes. An engine whose job waits or is parked completes nothing. -/
def Sys2Proof.Claims.FullerBlockRunsCodec : Prop :=
  ∀ (n : Fin 2) (j : FulJob) (src dst : PoolRec) (out : List Byte) (code : Nat) (s : State), live s = true →
    s.fulJob n.val = some j →
    let p := fulParams j.words
    let base := poolBase dst + p.dstOff
    let wrote (bs : List Byte) (t : State) : Prop :=
      t.hbmRead base bs.length = bs ∧
      (∀ a, a < base ∨ base + bs.length ≤ a → cellGet ramBlank t.hbm a = cellGet ramBlank s.hbm a) ∧
      t.fulJob n.val = none ∧ t.get (F.FUL_STATUS_RESULT n.val) = 1 ∧ t.get (F.FUL_STATUS_BUSY n.val) = 0 ∧
      t.get (F.FUL_OUTLEN_BYTES n.val) = bs.length ∧ t.isPending (fulSource n.val 0) = true ∧ t.out = s.out
    (j.state = 2 → j.run = none → s.pool p.srcPool = some src → s.pool p.dstPool = some dst → p.srcLen < 2 ^ 32 →
      s.fulPoison p 0 (p.srcLen + 8) = false →
      (p.op = 0 → p.srcLen ≤ 65536 → (fullerCompress p.width (s.fulRead p 0 p.srcLen)).length ≤ p.dstCap → p.dstCap < 2 ^ 32 →
        Completes (exec (.fullerBlockDone n) s) (wrote (fullerCompress p.width (s.fulRead p 0 p.srcLen)))) ∧
      (p.op = 1 → fullerDecompress (s.fulRead p 0 p.srcLen) p.dstCap = .ok out → out.length ≤ 65536 →
        Completes (exec (.fullerBlockDone n) s) (wrote out)) ∧
      (p.op = 1 → fullerDecompress (s.fulRead p 0 p.srcLen) p.dstCap = .error code →
        (∀ r, fullerOpen (s.fulRead p 0 p.srcLen) p.dstCap = .ok r → r.rawLength ≤ 65536) →
        Completes (exec (.fullerBlockDone n) s) (fun t =>
          t.fulJob n.val = none ∧ t.get (F.FUL_STATUS_RESULT n.val) = 2 ∧ t.get (F.FUL_STATUS_ERR n.val) = code ∧
          t.get (F.FUL_STATUS_BUSY n.val) = 0 ∧ t.get (F.FUL_OUTLEN_BYTES n.val) = 0 ∧ t.isPending (fulSource n.val 1) = true ∧
          t.get (F.FUL_CNT0_COUNT n.val) = min 0xFFFFFFFF (s.get (F.FUL_CNT0_COUNT n.val) + 1) ∧
          (∀ a, a < base ∨ base + p.dstCap ≤ a → cellGet ramBlank t.hbm a = cellGet ramBlank s.hbm a) ∧ t.out = s.out))) ∧
    (j.state ≠ 2 → exec (.fullerBlockDone n) s = .next s)

/-- A fuller job starts when its checks pass, and its block runs the codec on memory. -/
def Obligations.FullerJobsRun : Prop :=
  Claims.FullerJobsStartAndAbort ∧ Claims.FullerBlockRunsCodec

/-! ## spec/19_sizing_records.md -/

/-- R541, R543: in IDLE_HOLD, with no operation busy, nothing pending and a length, STAGE takes the bytes that SIZ_SRC,
SIZ_OFF and SIZ_LEN name and is busy; elsewhere it answers MODE, BUSY or VALUE. Its checks end with the failing code and
nothing staged, or with ERR 0 and every record staged, a map or matrix for the next fence, any other for the next epoch or
mode change, as SIZ_STATUS shows. DISCARD drops what is staged. No memory changes. -/
def Sys2Proof.Claims.SizingSetIsStaged : Prop :=
  ∀ (who : Requester) (bs set : List Byte) (code : Nat) (s : State),
    let busy := s.flag F.SIZ_STATUS_BUSY = true
    let waits := s.flag F.SIZ_STATUS_PEND_FENCE = true ∨ s.flag F.SIZ_STATUS_PEND_EPOCH = true
    (Permitted who R.SIZ_CTRL s →
      (s.modeNow = 0x4 → ¬ busy → ¬ waits → s.word R.SIZ_LEN ≠ 0 → Completes (exec (.sizingStage who) s) (fun t =>
        t.siz = { s.siz with op := 1, bytes := s.sizSource } ∧ t.get F.SIZ_STATUS_BUSY = 1 ∧
        (∀ a, a ≠ R.SIZ_STATUS → t.word a = s.word a) ∧
        t = { s with regs := t.regs, siz := t.siz, out := .status who R.SIZ_CTRL .ok :: s.out })) ∧
      (s.modeNow ≠ 0x4 → exec (.sizingStage who) s = .next (s.emit (.status who R.SIZ_CTRL .mode))) ∧
      (s.modeNow = 0x4 → busy ∨ waits → exec (.sizingStage who) s = .next (s.emit (.status who R.SIZ_CTRL .busy))) ∧
      (s.modeNow = 0x4 → ¬ busy → ¬ waits → s.word R.SIZ_LEN = 0 →
        exec (.sizingStage who) s = .next (s.emit (.status who R.SIZ_CTRL .value))) ∧
      (¬ busy → Completes (exec (.sizingDiscard who) s) (fun t =>
        t.siz = { s.siz with fence := [], epoch := [], ready := false } ∧ t.get F.SIZ_STATUS_PEND_FENCE = 0 ∧
        t.get F.SIZ_STATUS_PEND_EPOCH = 0 ∧ (∀ a, a ≠ R.SIZ_STATUS → t.word a = s.word a) ∧
        t = { s with regs := t.regs, siz := t.siz, out := .status who R.SIZ_CTRL .ok :: s.out })) ∧
      (busy → exec (.sizingDiscard who) s = .next (s.emit (.status who R.SIZ_CTRL .busy)))) ∧
    (live s = true → s.siz.op = 1 →
      (s.siz.bytes = none ∨ (s.siz.bytes = some bs ∧ (sizSetCheck bs).1 = code ∧ code ≠ 0) →
        Completes (exec .sizingStageDone s) (fun t =>
          t.siz = { s.siz with op := 0, bytes := none } ∧ t.get F.SIZ_STATUS_BUSY = 0 ∧
          t.get F.SIZ_STATUS_ERR = (if s.siz.bytes = none then 8 else code % 16) ∧ t.out = s.out ∧ SameMemory s t)) ∧
      (s.siz.bytes = some bs → sizSetCheck bs = (0, set) →
        sizCheckRecords s.sizLimits presetWordOk (leAt set 6 2) (sizSetRecords set) = (0, 0, 0) →
        s.siz.fence = [] → s.siz.epoch = [] → Completes (exec .sizingStageDone s) (fun t =>
          t.siz.op = 0 ∧ t.siz.inForce = s.siz.inForce ∧ t.get F.SIZ_STATUS_ERR = 0 ∧ t.get F.SIZ_STATUS_BUSY = 0 ∧
          (∀ k, (tabFind t.siz.fence k).isSome = true ↔ ∃ r ∈ sizSetRecords set, sizKey r.type r.instance_ = k ∧ 5 ≤ r.type) ∧
          (∀ k, (tabFind t.siz.epoch k).isSome = true ↔ ∃ r ∈ sizSetRecords set, sizKey r.type r.instance_ = k ∧ r.type < 5) ∧
          (t.flag F.SIZ_STATUS_PEND_FENCE = true ↔ t.siz.fence ≠ []) ∧
          (t.flag F.SIZ_STATUS_PEND_EPOCH = true ↔ t.siz.epoch ≠ []) ∧ t.out = s.out ∧ SameMemory s t))) ∧
    (live s = true → s.siz.op ≠ 1 → exec .sizingStageDone s = .next s)

/-- R543: WRITE needs ADMIN, IDLE_HOLD or CALIBRATE, and no operation busy; it builds the set in force with the next SIZ_SEQ and
erases the copy that is not in use, and no other byte of flash. When the programmed copy reads back right it is the copy in
use, with its sequence number; when it does not, the copy in use stays and ERR is 0x9. -/
def Sys2Proof.Claims.SizingSetIsWritten : Prop :=
  ∀ (who : Requester) (bs : List Byte) (agrees : Bool) (s : State),
    let base := s.sizOther * 0x800000
    let mode := s.modeNow = 0x4 ∨ s.modeNow = 0x5
    (Permitted who R.SIZ_CTRL s →
      (3 ≤ s.privilege who → mode → s.flag F.SIZ_STATUS_BUSY = false → s.pins.flashAbsent = false →
        Completes (exec (.sizingWrite who) s) (fun t =>
          t.siz = { s.siz with op := 2, bytes := some (sizBuild (((s.word R.SIZ_SEQ).toNat + 1) % 2 ^ 32)
            (s.siz.inForce.map (fun e => (e.1 / 16, e.1 % 16, e.2)))) } ∧
          t.get F.SIZ_STATUS_BUSY = 1 ∧ (∀ a, a ≠ R.SIZ_STATUS → t.word a = s.word a) ∧
          (∀ a, cellGet flashBlank t.flash a =
            if base ≤ a ∧ a < base + 0x800000 then 0xFF else cellGet flashBlank s.flash a) ∧
          t = { s with regs := t.regs, siz := t.siz, flash := t.flash, out := .status who R.SIZ_CTRL .ok :: s.out })) ∧
      (s.privilege who < 3 → exec (.sizingWrite who) s = .next (s.emit (.status who R.SIZ_CTRL .privilege))) ∧
      (3 ≤ s.privilege who → ¬ mode → exec (.sizingWrite who) s = .next (s.emit (.status who R.SIZ_CTRL .mode))) ∧
      (3 ≤ s.privilege who → mode → s.flag F.SIZ_STATUS_BUSY = true →
        exec (.sizingWrite who) s = .next (s.emit (.status who R.SIZ_CTRL .busy)))) ∧
    (live s = true → s.siz.op = 2 → s.siz.bytes = some bs → s.pins.flashAbsent = false →
      Completes (exec (.sizingWriteDone agrees) s) (fun t =>
        t.siz = { s.siz with op := 0, bytes := none } ∧ t.get F.SIZ_STATUS_BUSY = 0 ∧
        (∀ a, a < base ∨ base + bs.length ≤ a → cellGet flashBlank t.flash a = cellGet flashBlank s.flash a) ∧
        t.hbm = s.hbm ∧ t.sram = s.sram ∧ t.out = s.out ∧
        (agrees = true → t.flashRead base bs.length = bs ∧ t.get F.SIZ_STATUS_COPY = s.sizOther + 1 ∧
          t.word R.SIZ_SEQ = BitVec.ofNat 32 (leAt bs 8 4) ∧ t.get F.SIZ_STATUS_ERR = 0) ∧
        (agrees = false → t.get F.SIZ_STATUS_COPY = s.get F.SIZ_STATUS_COPY ∧ t.word R.SIZ_SEQ = s.word R.SIZ_SEQ ∧
          t.get F.SIZ_STATUS_ERR = 9))) ∧
    (live s = true → s.siz.op ≠ 2 → exec (.sizingWriteDone agrees) s = .next s)

/-- A sizing set is staged after its checks, discarded, and the set in force written back to flash. -/
def Obligations.SizingSetsStageAndWrite : Prop :=
  Claims.SizingSetIsStaged ∧ Claims.SizingSetIsWritten

/-! ## spec/20_test_identity.md -/

/-- R544, R547, R548: a legal write of ETH_LOOP takes force, clears the port's three counters and starts its lifetime, after which
MODE returns to 0; outside LOOPBACK_TEST a mode other than 0 answers MODE, an illegal field VALUE, and a mode that closes the
port of the writing session IN_USE. -/
def Sys2Proof.Claims.PortLoopbacksRunAndEnd : Prop :=
  ∀ (who : Requester) (n : Fin 4) (v : Word) (s : State),
    let mode := wordField v (F.ETH_LOOP_MODE n.val)
    let len := wordField v (F.ETH_LOOP_FRAME_LEN n.val)
    let life := wordField v (F.ETH_LOOP_TIMEOUT_S n.val)
    let answers (st : Status) : Prop :=
      exec (.ethLoopWrite who n v) s = .next (s.emit (.status who (R.ETH_LOOP n.val) st))
    let legal := mode < 5 ∧ life ≠ 0 ∧ 64 ≤ len ∧ len ≤ 9600
    let own := mode ∈ [1, 2, 3] ∧ s.writerPort who = some n.val
    let due := (tabGet {} s.ingest.ports n.val).loopAt + 1000000000 * s.get (F.ETH_LOOP_TIMEOUT_S n.val) ≤ s.now
    (Permitted who (R.ETH_LOOP n.val) s →
      (mode ≠ 0 → s.testMode = false → answers .mode) ∧
      (mode = 0 ∨ s.testMode = true →
        (¬ legal → answers .value) ∧
        (legal → own → answers .inUse) ∧
        (legal → ¬ own → Completes (exec (.ethLoopWrite who n v) s) (fun t =>
          (∀ f ∈ [F.ETH_LOOP_TIMEOUT_S n.val, F.ETH_LOOP_MODE n.val, F.ETH_LOOP_FRAME_LEN n.val, F.ETH_LOOP_GEN_EN n.val],
            t.get f = wordField v f) ∧
          (∀ k, k < 3 → t.get (F.ETH_LOOPCNT_COUNT n.val k) = 0) ∧ (tabGet {} t.ingest.ports n.val).loopAt = s.now ∧
          (∀ m, m ≠ n.val → tabGet {} t.ingest.ports m = tabGet {} s.ingest.ports m) ∧
          (∀ a, a ∉ [R.ETH_LOOP n.val, R.ETH_LOOPCNT n.val 0, R.ETH_LOOPCNT n.val 1, R.ETH_LOOPCNT n.val 2] →
            t.word a = s.word a) ∧
          t = { s with regs := t.regs, ingest := { s.ingest with ports := t.ingest.ports }
                       out := .status who (R.ETH_LOOP n.val) .ok :: s.out })))) ∧
    (live s = true →
      (s.get (F.ETH_LOOP_MODE n.val) ≠ 0 → due → Completes (exec (.ethLoopTimeout n) s) (fun t =>
        t.get (F.ETH_LOOP_MODE n.val) = 0 ∧ t = { s with regs := t.regs } ∧
        ∀ a, a ∉ [R.ETH_LOOP n.val, R.ETH_LOOPCNT n.val 0, R.ETH_LOOPCNT n.val 1] → t.word a = s.word a)) ∧
      (s.get (F.ETH_LOOP_MODE n.val) = 0 ∨ ¬ due → exec (.ethLoopTimeout n) s = .next s))

/-- R544, R549, R550: while no frame is open, a legal write of LNK_LOOP with a mode stops the link and starts its checkers; it
answers MODE outside LOOPBACK_TEST, VALUE for a mode the link lacks, and STATE where the link is disabled. A checked lane
synchronises at its 64th correct symbol in a row and loses it at the 4th error of a lane period; errors are counted while
every checked lane is synchronised, which SYNC shows. A lane that is not checked does nothing. -/
def Sys2Proof.Claims.LaneLoopbacksCheckPatterns : Prop :=
  ∀ (who : Requester) (n : Fin 5) (i : Fin 96) (v : Word) (correct : Bool) (s : State),
    let mode := wordField v (F.LNK_LOOP_MODE n.val)
    let answers (st : Status) : Prop :=
      exec (.lnkLoopWrite who n v) s = .next (s.emit (.status who (R.LNK_LOOP n.val) st))
    let legal := mode < 6 ∧ ¬ (mode = 5 ∧ n.val = 0)
    let x := tabGet {} (s.link n.val).checks i.val
    let checked := i.val < checkedLanes n.val (s.get (F.LNK_LOOP_MODE n.val))
    (Permitted who (R.LNK_LOOP n.val) s → mode ≠ 0 →
      (s.testMode = false → answers .mode) ∧
      (s.testMode = true → ¬ legal → answers .value) ∧
      (s.testMode = true → legal → s.flag (F.LNK_CFG_ENABLE n.val) = false → answers .state) ∧
      (s.testMode = true → legal → s.flag (F.LNK_CFG_ENABLE n.val) = true → s.panel.opened = none →
        Completes (exec (.lnkLoopWrite who n v) s) (fun t =>
          t.get (F.LNK_LOOP_MODE n.val) = mode ∧ t.get (F.LNK_LOOP_BASE_LANE n.val) = wordField v (F.LNK_LOOP_BASE_LANE n.val) ∧
          t.get (F.LNK_LOOPERR_SYNC n.val) = 0 ∧ (t.link n.val).checks = [] ∧ (t.link n.val).stopped = true ∧
          ((s.link n.val).stopped = false → t.linkState n.val = 0) ∧ (∀ m, m ≠ n.val → t.link m = s.link m) ∧ SameMemory s t))) ∧
    (live s = true →
      (checked → Completes (exec (.testPatternReceive n i correct) s) (fun t =>
        let y := tabGet {} (t.link n.val).checks i.val
        (correct = true → y = { x with good := min 64 (x.good + 1), sync := x.sync || decide (63 ≤ x.good) }) ∧
        (correct = false → y = { x with good := 0, bad := min 4 (x.bad + 1), sync := x.sync && decide (x.bad < 3) }) ∧
        t.get (F.LNK_LOOPERR_ERRORS n.val) = (if correct = false ∧ s.laneSync n.val = true then
          min 0x7FFFFFFF (s.get (F.LNK_LOOPERR_ERRORS n.val) + 1) else s.get (F.LNK_LOOPERR_ERRORS n.val)) ∧
        t.flag (F.LNK_LOOPERR_SYNC n.val) = t.laneSync n.val ∧ (∀ m, m ≠ n.val → t.link m = s.link m) ∧
        (∀ k, k ≠ i.val → tabGet {} (t.link n.val).checks k = tabGet {} (s.link n.val).checks k) ∧
        (∀ a, a ≠ R.LNK_LOOPERR n.val → t.word a = s.word a) ∧ t = { s with regs := t.regs, links := t.links })) ∧
      (¬ checked → exec (.testPatternReceive n i correct) s = .next s))

/-- Loopbacks start in LOOPBACK_TEST only, check their patterns, and end. -/
def Obligations.LoopbacksRunAndEnd : Prop :=
  Claims.PortLoopbacksRunAndEnd ∧ Claims.LaneLoopbacksCheckPatterns

/-- R544, R552, R553: with every object UNDECLARED and no test running, each OP of HBM_TEST starts its test, and a PHY loopback
puts its stack into self-refresh; outside LOOPBACK_TEST it answers MODE, with an object declared STATE, with a test running
BUSY. A loopback ends with its result, the last of a stack ending its self-refresh. MBIST ends with its result and the
first failure, and the memory behind its controller reads as unwritten; no other byte changes but save areas. -/
def Sys2Proof.Claims.MemoryTestsRunAndEnd : Prop :=
  ∀ (who : Requester) (c : Fin 32) (passed : Bool) (failure : Option (Fin 2 × Fin 48 × Fin 16384)) (s : State),
    let stack := stackCtrls (c.val / 16)
    let test := tabGet 0 s.mem.tests c.val
    let running := s.dec.selfTest = true ∨ s.get (F.HBM_TESTSTAT_RESULT c.val) = 1
    let clear := s.kcp.paths.all (fun e => e.2.state == 0) = true
    let result (good : Bool) (t : State) : Prop :=
      t.get (F.HBM_TESTSTAT_RESULT c.val) = (if good then 2 else 3) ∧ tabGet 0 t.mem.tests c.val = 0 ∧
      ∀ k, k ≠ c.val → tabGet 0 t.mem.tests k = tabGet 0 s.mem.tests k
    (Permitted who (R.HBM_TEST c.val) s →
      ∀ e ∈ [(1, Instr.hbmPhyLoopback who c), (2, Instr.hbmCtrlLoopback who c), (3, Instr.hbmMbist who c)],
        (s.testMode = false → exec e.2 s = .next (s.emit (.status who (R.HBM_TEST c.val) .mode))) ∧
        (s.testMode = true → ¬ clear → exec e.2 s = .next (s.emit (.status who (R.HBM_TEST c.val) .state))) ∧
        (s.testMode = true → clear → running → exec e.2 s = .next (s.emit (.status who (R.HBM_TEST c.val) .busy))) ∧
        (s.testMode = true → clear → ¬ running → Completes (exec e.2 s) (fun t =>
          t.get (F.HBM_TESTSTAT_RESULT c.val) = 1 ∧ tabGet 0 t.mem.tests c.val = e.1 ∧
          (∀ k, k ≠ c.val → tabGet 0 t.mem.tests k = tabGet 0 s.mem.tests k) ∧
          (e.1 = 1 → ∀ k ∈ stack, t.flag (F.HBM_STATUS_SELFREF k) = true) ∧
          (∀ a, a ≠ R.HBM_TESTSTAT c.val → (∀ k ∈ stack, e.1 = 1 → a ≠ R.HBM_STATUS k) → t.word a = s.word a) ∧
          t = { s with regs := t.regs, mem := { s.mem with tests := t.mem.tests }
                       out := .status who (R.HBM_TEST c.val) .ok :: s.out }))) ∧
    (live s = true →
      (test = 1 ∨ test = 2 → Completes (exec (.hbmLoopbackTestDone c passed) s) (fun t =>
        result passed t ∧ t = { s with regs := t.regs, mem := t.mem } ∧
        (test = 1 → ∀ k ∈ stack, t.flag (F.HBM_STATUS_SELFREF k) = stack.any (fun j => j != c.val && tabGet 0 s.mem.tests j == 1)) ∧
        (test = 2 → ∀ a, a ≠ R.HBM_TESTSTAT c.val → t.word a = s.word a))) ∧
      (test ≠ 1 → test ≠ 2 → exec (.hbmLoopbackTestDone c passed) s = .next s) ∧
      (test = 3 → Completes (exec (.hbmMbistDone c failure) s) (fun t =>
        result failure.isNone t ∧
        (∀ f, failure = some f → t.get (F.HBM_TESTSTAT_FAIL_PC c.val) = f.1.val ∧
          t.get (F.HBM_TESTSTAT_FAIL_BANK c.val) = f.2.1.val ∧ t.get (F.HBM_TESTSTAT_FAIL_ROW c.val) = f.2.2.val) ∧
        (∀ a, ctrlOf (memPlace a).pc = c.val → cellGet ramBlank t.hbm a = ramBlank) ∧
        (∀ a, ctrlOf (memPlace a).pc ≠ c.val →
          (∀ q, s.lowestPool 5 = some q → a < poolBase q ∨ poolBase q + 0x2410040 ≤ a) →
          cellGet ramBlank t.hbm a = cellGet ramBlank s.hbm a) ∧
        t.flash = s.flash ∧ t.sram = s.sram ∧ t.out = s.out)) ∧
      (test ≠ 3 → exec (.hbmMbistDone c failure) s = .next s))

/-- R544, R554, R555: in LOOPBACK_TEST a pool of decoder slots of at least 8 MiB starts the golden-stream test while no decode
context serves and no test runs; else it answers MODE, POOL, STATE or BUSY. The engines in service whose CRCs differ leave
service with their sources pending, and the result shows them. -/
def Sys2Proof.Claims.GoldenStreamTestsEngines : Prop :=
  ∀ (who : Requester) (id : Fin 64) (fails : Fin 256) (hp : Bool) (q : PoolRec) (s : State),
    let answers (st : Status) : Prop :=
      exec (.decSelftestStart who id) s = .next (s.emit (.status who R.DEC_SELFTEST st))
    let served := s.get F.DEC_STATUS_ENGINES
    let bad := fails.val &&& served
    (Permitted who R.DEC_SELFTEST s →
      (s.testMode = false → answers .mode) ∧
      (s.testMode = true →
        (s.pool id.val = none → answers .pool) ∧
        (s.pool id.val = some q →
          (q.kind ≠ 2 ∨ q.size < 4 → answers .pool) ∧
          (q.kind = 2 → 4 ≤ q.size →
            (s.contextServes = true → answers .state) ∧
            (s.contextServes = false → s.testRuns = true → answers .busy) ∧
            (s.contextServes = false → s.testRuns = false → Completes (exec (.decSelftestStart who id) s) (fun t =>
              t.get F.DEC_SELFTEST_POOL_ID = id.val ∧ t.get F.DEC_SELFSTAT_RESULT = 1 ∧ t.dec.selfTest = true ∧
              (∀ a, a ∉ [R.DEC_SELFTEST, R.DEC_SELFSTAT] → t.word a = s.word a) ∧
              t = { s with regs := t.regs, dec := { s.dec with selfTest := true }
                           out := .status who R.DEC_SELFTEST .ok :: s.out })))))) ∧
    (live s = true → s.dec.selfTest = true → Completes (exec (.decSelftestDone fails hp) s) (fun t =>
      t.get F.DEC_SELFSTAT_FAIL = bad ∧ t.get F.DEC_SELFSTAT_PASS = served - bad ∧ t.get F.DEC_SELFSTAT_HP_FAIL = bit hp ∧
      t.get F.DEC_SELFSTAT_RESULT = (if bad = 0 ∧ hp = false then 2 else 3) ∧ t.get F.DEC_STATUS_ENGINES = served - bad ∧
      (∀ e, e < 8 → bad.testBit e = true → t.isPending (208 + e) = true) ∧ (hp = true → t.isPending 216 = true) ∧
      t.dec = { s.dec with selfTest := false, hpOut := s.dec.hpOut || hp } ∧
      (∀ a, evtAddr a = false → a ∉ [R.DEC_SELFSTAT, R.DEC_STATUS] → t.word a = s.word a) ∧
      t = { s with regs := t.regs, evt := t.evt, dec := t.dec })) ∧
    (live s = true → s.dec.selfTest = false → exec (.decSelftestDone fails hp) s = .next s)

/-- R556: the TAP works in any mode and reset state. Test-Logic-Reset selects IDCODE; an instruction scan loads its
instruction; 32 bits scanned under IDCODE return 0x29140157, BYPASS delays the bits by one, and a scan of the whole boundary
chain under SAMPLE/PRELOAD leaves the bits scanned in its cells. The rest of the machine stays as it is. -/
def Sys2Proof.Claims.TapScansInAnyState : Prop :=
  ∀ (i : TapInstr) (tdi : List Bool) (s : State),
    exec (.tapOperation .reset) s = .next { s with tap := { s.tap with instr := .idcode } } ∧
    Completes (exec (.tapOperation (.load i)) s) (fun t =>
      t.tap = { s.tap with instr := i } ∧ t = { s with tap := t.tap, out := t.out } ∧
      (i ∈ [.bypass, .idcode, .samplePreload] ∨ s.pins.inReset = false → t.out = s.out) ∧
      (i = .highz → s.pins.inReset = true → t.out = .balls none :: s.out) ∧
      (i ∈ [.extest, .extestPulse, .extestTrain, .clamp] → s.pins.inReset = true → t.out = .balls (some s.tap.boundary) :: s.out)) ∧
    (s.tap.instr = .idcode → tdi.length = 32 → Completes (exec (.tapOperation (.scan tdi)) s) (fun t =>
      t.out = .tap ((upto 0 32).map (fun k => (0x29140157 : Nat).testBit k)) :: s.out ∧ t = { s with out := t.out })) ∧
    (s.tapActs = .bypass → exec (.tapOperation (.scan tdi)) s = .next (s.emit (.tap ((false :: tdi).take tdi.length)))) ∧
    (s.tap.instr = .samplePreload → tdi.length = Config.boundaryCells →
      Completes (exec (.tapOperation (.scan tdi)) s) (fun t =>
        t.tap = { s.tap with boundary := tdi } ∧ (∃ l, l.length = tdi.length ∧ t.out = .tap l :: s.out) ∧
        t = { s with tap := t.tap, out := t.out, free := t.free }))

/-- Memory tests and the golden-stream test run and end; the TAP works in any state. -/
def Obligations.DeviceTestsRunAndEnd : Prop :=
  Claims.MemoryTestsRunAndEnd ∧ Claims.GoldenStreamTestsEngines ∧ Claims.TapScansInAnyState
end

