-- ==== Sys2Proof/Laws/Tab.lean ====
section
/-! SUPPORT. Laws of sparse tables: reading after an insertion or an erasure, and the canonical form. -/

namespace Sys2Proof.Machine

variable {α : Type}

/-! ## Reading -/

theorem tabFind_tabInsert (t : Tab α) (k j : Nat) (v : α) :
    tabFind (tabInsert t k v) j = if k = j then some v else tabFind t j := by
  induction t with
  | nil => simp [tabInsert, tabFind]
  | cons e t ih =>
    obtain ⟨a, w⟩ := e
    simp only [tabInsert]
    split
    · simp [tabFind]
    · split
      · rename_i h
        subst h
        by_cases hj : k = j <;> simp [tabFind, hj]
      · rename_i h
        simp only [tabFind, ih]
        by_cases ha : a = j <;> by_cases hk : k = j <;> simp_all

theorem tabFind_tabErase (t : Tab α) (k j : Nat) :
    tabFind (tabErase t k) j = if k = j then none else tabFind t j := by
  induction t with
  | nil => simp [tabErase, tabFind]
  | cons e t ih =>
    obtain ⟨a, w⟩ := e
    rw [tabErase] at ih ⊢
    rw [List.filter_cons]
    by_cases ha : a = k <;> by_cases hj : a = j <;> by_cases hk : k = j <;> simp_all [tabFind]

theorem tabGet_tabInsert (d : α) (t : Tab α) (k j : Nat) (v : α) :
    tabGet d (tabInsert t k v) j = if k = j then v else tabGet d t j := by
  unfold tabGet
  rw [tabFind_tabInsert]
  split <;> rfl

theorem tabGet_tabErase (d : α) (t : Tab α) (k j : Nat) :
    tabGet d (tabErase t k) j = if k = j then d else tabGet d t j := by
  unfold tabGet
  rw [tabFind_tabErase]
  split <;> rfl

theorem tabGet_tabPut [DecidableEq α] (d : α) (t : Tab α) (k j : Nat) (v : α) :
    tabGet d (tabPut d t k v) j = if k = j then v else tabGet d t j := by
  unfold tabPut
  split
  · rename_i h
    rw [tabGet_tabErase, h]
  · rw [tabGet_tabInsert]

theorem tabGet_tabModify [DecidableEq α] (d : α) (t : Tab α) (k j : Nat) (f : α → α) :
    tabGet d (tabModify d t k f) j = if k = j then f (tabGet d t k) else tabGet d t j := by
  rw [tabModify, tabGet_tabPut]

/-! ## The canonical form -/

theorem tabAbove_filter (k : Nat) (t : Tab α) (p : Nat × α → Bool) (h : tabAbove k t = true) : tabAbove k (t.filter p) = true := by
  simp only [tabAbove, List.all_eq_true] at *
  exact fun x hx => h x (List.mem_filter.mp hx).1

theorem tabAbove_lt {j k : Nat} {t : Tab α} (h : tabAbove k t = true) (hj : j < k) : tabAbove j t = true := by
  simp only [tabAbove, List.all_eq_true, decide_eq_true_eq] at *
  exact fun x hx => Nat.lt_trans hj (h x hx)

theorem tabAbove_tabInsert {j : Nat} {t : Tab α} (k : Nat) (v : α) (h : tabAbove j t = true) (hj : j < k) :
    tabAbove j (tabInsert t k v) = true := by
  induction t with
  | nil => simp [tabInsert, tabAbove, hj]
  | cons e t ih =>
    obtain ⟨a, w⟩ := e
    simp only [tabAbove, List.all_cons, Bool.and_eq_true, decide_eq_true_eq] at h ih ⊢
    unfold tabInsert
    split
    · simp only [List.all_cons, Bool.and_eq_true, decide_eq_true_eq]
      exact ⟨hj, h.1, h.2⟩
    · split
      · simp only [List.all_cons, Bool.and_eq_true, decide_eq_true_eq]
        exact ⟨hj, h.2⟩
      · simp only [List.all_cons, Bool.and_eq_true, decide_eq_true_eq]
        exact ⟨h.1, ih h.2⟩

theorem tabWf_filter [DecidableEq α] (d : Nat → α) (t : Tab α) (p : Nat × α → Bool) (h : tabWf d t = true) :
    tabWf d (t.filter p) = true := by
  induction t with
  | nil => rfl
  | cons e t ih =>
    obtain ⟨a, w⟩ := e
    simp only [tabWf, Bool.and_eq_true] at h
    rw [List.filter_cons]
    split
    · simp only [tabWf, Bool.and_eq_true]
      exact ⟨⟨h.1.1, tabAbove_filter a t p h.1.2⟩, ih h.2⟩
    · exact ih h.2

theorem tabWf_tabErase [DecidableEq α] (d : Nat → α) (t : Tab α) (k : Nat) (h : tabWf d t = true) :
    tabWf d (tabErase t k) = true := tabWf_filter d t _ h

theorem tabWf_tabInsert [DecidableEq α] (d : Nat → α) (t : Tab α) (k : Nat) (v : α) (hv : v ≠ d k) (h : tabWf d t = true) :
    tabWf d (tabInsert t k v) = true := by
  induction t with
  | nil => simp [tabInsert, tabWf, tabAbove, hv]
  | cons e t ih =>
    obtain ⟨a, w⟩ := e
    have h0 := h
    simp only [tabWf, Bool.and_eq_true, decide_eq_true_eq] at h
    unfold tabInsert
    split
    · rename_i hk
      simp only [tabWf, Bool.and_eq_true, decide_eq_true_eq]
      refine ⟨⟨hv, ?_⟩, h⟩
      have := tabAbove_lt h.1.2 hk
      simp only [tabAbove, List.all_cons, Bool.and_eq_true, decide_eq_true_eq] at this ⊢
      exact ⟨hk, this⟩
    · split
      · rename_i h1 h2
        subst h2
        simp only [tabWf, Bool.and_eq_true, decide_eq_true_eq]
        exact ⟨⟨hv, h.1.2⟩, h.2⟩
      · rename_i h1 h2
        simp only [tabWf, Bool.and_eq_true, decide_eq_true_eq]
        exact ⟨⟨h.1.1, tabAbove_tabInsert k v h.1.2 (by omega)⟩, ih h.2⟩

theorem tabWf_tabPut [DecidableEq α] (d : α) (t : Tab α) (k : Nat) (v : α) (h : tabWf (fun _ => d) t = true) :
    tabWf (fun _ => d) (tabPut d t k v) = true := by
  unfold tabPut
  split
  · exact tabWf_tabErase _ t k h
  · rename_i hv
    exact tabWf_tabInsert _ t k v hv h

/-- A key below every key of a table is not listed. -/
theorem tabFind_none_of_above {t : Tab α} {k j : Nat} (h : tabAbove k t = true) (hj : j ≤ k) : tabFind t j = none := by
  induction t with
  | nil => rfl
  | cons e t ih =>
    obtain ⟨a, w⟩ := e
    simp only [tabAbove, List.all_cons, Bool.and_eq_true, decide_eq_true_eq] at h ih
    unfold tabFind
    rw [if_neg (by omega)]
    exact ih h.2

end Sys2Proof.Machine
end

