-- ==== Sys2Proof/Laws/Registers.lean ====
section
/-! SUPPORT. Laws of the register file: a word reads as written, a field reads as set, and every other word and field as
before. -/

namespace Sys2Proof.Machine

/-! ## Words -/

theorem State.word_setWord (s : State) (a b : Nat) (w : Word) : (s.setWord a w).word b = if a = b then w else s.word b := by
  unfold State.word State.setWord
  by_cases hw : w = regReset a
  · simp only [hw, if_true, tabFind_tabErase]
    by_cases h : a = b
    · simp [h]
    · simp [h]
  · simp only [hw, if_false, tabFind_tabInsert]
    by_cases h : a = b
    · simp [h]
    · simp [h]

@[simp] theorem State.word_setWord_same (s : State) (a : Nat) (w : Word) : (s.setWord a w).word a = w := by
  rw [State.word_setWord, if_pos rfl]

theorem State.word_setWord_ne (s : State) {a b : Nat} (w : Word) (h : a ≠ b) : (s.setWord a w).word b = s.word b := by
  rw [State.word_setWord, if_neg h]

/-- A word of the register file right after reset is its reset value. -/
@[simp] theorem State.word_reset (a : Nat) : State.reset.word a = regReset a := rfl

/-! ## Fields -/

/-- A field that lies in a 32-bit word. -/
def Field.legal (f : Field) : Prop := f.lo ≤ f.hi ∧ f.hi < 32

theorem slice_lt (n hi lo : Nat) : slice n hi lo < 2 ^ (hi + 1 - lo) := Nat.mod_lt _ (Nat.two_pow_pos _)

theorem slice_mul_le (n hi lo : Nat) : slice n hi lo * 2 ^ lo ≤ n := by
  unfold slice
  rw [Nat.shiftRight_eq_div_pow]
  calc n / 2 ^ lo % 2 ^ (hi + 1 - lo) * 2 ^ lo ≤ n / 2 ^ lo * 2 ^ lo := Nat.mul_le_mul_right _ (Nat.mod_le _ _)
    _ ≤ n := Nat.div_mul_le_self n _

/-- A word as the field, what lies below it and what lies above it. -/
theorem word_parts (n hi lo : Nat) (h : lo ≤ hi) :
    n = n / 2 ^ (hi + 1) * 2 ^ (hi + 1) + slice n hi lo * 2 ^ lo + n % 2 ^ lo := by
  have hp : 2 ^ (hi + 1) = 2 ^ lo * 2 ^ (hi + 1 - lo) := by rw [← Nat.pow_add]; congr 1; omega
  unfold slice
  rw [Nat.shiftRight_eq_div_pow, hp]
  have h1 := Nat.div_add_mod n (2 ^ lo)
  have h2 := Nat.div_add_mod (n / 2 ^ lo) (2 ^ (hi + 1 - lo))
  rw [Nat.div_div_eq_div_mul] at h2
  generalize n / 2 ^ lo % 2 ^ (hi + 1 - lo) = r at *
  generalize n / (2 ^ lo * 2 ^ (hi + 1 - lo)) = q at *
  generalize n / 2 ^ lo = d at *
  generalize n % 2 ^ lo = m at *
  rw [← h1, ← h2, Nat.mul_add, ← Nat.mul_assoc, Nat.mul_comm (2 ^ lo * 2 ^ (hi + 1 - lo)) q, Nat.mul_comm (2 ^ lo) r]

theorem place_eq (n hi lo v : Nat) (h : lo ≤ hi) :
    place n hi lo v = n / 2 ^ (hi + 1) * 2 ^ (hi + 1) + (v % 2 ^ (hi + 1 - lo)) * 2 ^ lo + n % 2 ^ lo := by
  have := word_parts n hi lo h
  have hle := slice_mul_le n hi lo
  unfold place
  generalize slice n hi lo * 2 ^ lo = x at *
  omega

theorem field_fits (hi lo v : Nat) (h : lo ≤ hi) : (v % 2 ^ (hi + 1 - lo)) * 2 ^ lo + 2 ^ lo ≤ 2 ^ (hi + 1) := by
  have hp : 2 ^ (hi + 1) = 2 ^ (hi + 1 - lo) * 2 ^ lo := by rw [← Nat.pow_add]; congr 1; omega
  have hv := Nat.mod_lt v (Nat.two_pow_pos (hi + 1 - lo))
  rw [hp, ← Nat.succ_mul]
  exact Nat.mul_le_mul_right _ hv

theorem place_lt (n hi lo v : Nat) (h : lo ≤ hi) (hh : hi < 32) (hn : n < 2 ^ 32) : place n hi lo v < 2 ^ 32 := by
  rw [place_eq n hi lo v h]
  have hp : 2 ^ 32 = 2 ^ (32 - (hi + 1)) * 2 ^ (hi + 1) := by rw [← Nat.pow_add]; congr 1; omega
  have hq : n / 2 ^ (hi + 1) < 2 ^ (32 - (hi + 1)) := by
    rw [Nat.div_lt_iff_lt_mul (Nat.two_pow_pos _), ← hp]
    exact hn
  have h1 := field_fits hi lo v h
  have h2 := Nat.mod_lt n (Nat.two_pow_pos lo)
  have h3 : n / 2 ^ (hi + 1) * 2 ^ (hi + 1) + 2 ^ (hi + 1) ≤ 2 ^ 32 := by
    rw [hp, ← Nat.succ_mul]
    exact Nat.mul_le_mul_right _ hq
  omega

/-- The bits of a word with a field placed. -/
theorem testBit_place (n hi lo v i : Nat) (h : lo ≤ hi) :
    (place n hi lo v).testBit i = if lo ≤ i ∧ i ≤ hi then v.testBit (i - lo) else n.testBit i := by
  have hlow : (v % 2 ^ (hi + 1 - lo)) * 2 ^ lo + n % 2 ^ lo < 2 ^ (hi + 1) := by
    have := field_fits hi lo v h
    have := Nat.mod_lt n (Nat.two_pow_pos lo)
    omega
  rw [place_eq n hi lo v h, Nat.add_assoc, Nat.mul_comm (n / _), Nat.testBit_two_pow_mul_add _ hlow,
    Nat.mul_comm (v % _), Nat.testBit_two_pow_mul_add _ (Nat.mod_lt n (Nat.two_pow_pos lo))]
  by_cases h1 : i < hi + 1
  · rw [if_pos h1]
    by_cases h2 : i < lo
    · rw [if_pos h2, if_neg (by omega), Nat.testBit_mod_two_pow]
      simp [h2]
    · rw [if_neg h2, if_pos (by omega), Nat.testBit_mod_two_pow]
      simp [show i - lo < hi + 1 - lo by omega]
  · rw [if_neg h1, if_neg (by omega), ← Nat.shiftRight_eq_div_pow, Nat.testBit_shiftRight]
    congr 1
    omega

/-- The bits of a field. -/
theorem testBit_slice (n hi lo i : Nat) : (slice n hi lo).testBit i = (decide (i < hi + 1 - lo) && n.testBit (lo + i)) := by
  unfold slice
  rw [Nat.testBit_mod_two_pow, Nat.testBit_shiftRight]

theorem slice_place_same (n hi lo v : Nat) (h : lo ≤ hi) : slice (place n hi lo v) hi lo = v % 2 ^ (hi + 1 - lo) := by
  apply Nat.eq_of_testBit_eq
  intro i
  rw [testBit_slice, testBit_place _ _ _ _ _ h, Nat.testBit_mod_two_pow]
  by_cases hi' : i < hi + 1 - lo
  · rw [if_pos (by omega), Nat.add_sub_cancel_left]
  · simp [hi']

theorem slice_place_other (n hi lo v hi' lo' : Nat) (h : lo ≤ hi) (hd : hi < lo' ∨ hi' < lo) :
    slice (place n hi lo v) hi' lo' = slice n hi' lo' := by
  apply Nat.eq_of_testBit_eq
  intro i
  rw [testBit_slice, testBit_slice, testBit_place _ _ _ _ _ h]
  by_cases hi'' : i < hi' + 1 - lo'
  · rw [if_neg (by omega)]
  · simp [hi'']

theorem State.word_set (s : State) (f : Field) (v b : Nat) :
    (s.set f v).word b = if f.addr = b then BitVec.ofNat 32 (place (s.word b).toNat f.hi f.lo v) else s.word b := by
  unfold State.set
  rw [State.word_setWord]
  split
  · rename_i h
    rw [h]
  · rfl

theorem State.word_set_ne (s : State) (f : Field) (v : Nat) {b : Nat} (h : f.addr ≠ b) : (s.set f v).word b = s.word b := by
  rw [State.word_set, if_neg h]

theorem State.word_set_toNat (s : State) (f : Field) (v : Nat) (hf : f.legal) :
    ((s.set f v).word f.addr).toNat = place (s.word f.addr).toNat f.hi f.lo v := by
  rw [State.word_set, if_pos rfl, BitVec.toNat_ofNat, Nat.mod_eq_of_lt]
  exact place_lt _ _ _ _ hf.1 hf.2 (s.word f.addr).isLt

/-- A field reads as set, cut to its width. -/
theorem State.get_set_same (s : State) (f : Field) (v : Nat) (hf : f.legal) : (s.set f v).get f = v % 2 ^ (f.hi + 1 - f.lo) := by
  unfold State.get
  rw [State.word_set_toNat s f v hf, slice_place_same _ _ _ _ hf.1]

/-- A field of another register reads as before. -/
theorem State.get_set_addr (s : State) (f g : Field) (v : Nat) (h : f.addr ≠ g.addr) : (s.set f v).get g = s.get g := by
  unfold State.get
  rw [State.word_set_ne s f v h]

/-- A field of other bits reads as before. -/
theorem State.get_set_other (s : State) (f g : Field) (v : Nat) (hf : f.legal) (hd : f.hi < g.lo ∨ g.hi < f.lo) :
    (s.set f v).get g = s.get g := by
  by_cases h : f.addr = g.addr
  · unfold State.get
    rw [← h, State.word_set_toNat s f v hf, slice_place_other _ _ _ _ _ _ hf.1 hd]
  · exact State.get_set_addr s f g v h

theorem State.get_lt (s : State) (f : Field) : s.get f < 2 ^ (f.hi + 1 - f.lo) := slice_lt _ _ _

/-! ## Staged words -/

theorem State.stagedWord_stage (s : State) (a b : Nat) (w : Word) :
    (s.stage a w).stagedWord b = if a = b then some w else s.stagedWord b := tabGet_tabInsert none s.staged a b (some w)

theorem State.stagedWord_unstage (s : State) (a b : Nat) :
    (s.unstage a).stagedWord b = if a = b then none else s.stagedWord b := tabGet_tabErase none s.staged a b

/-- A word that is staged takes force at its commit point, and is staged no longer. -/
theorem State.commit_spec (s : State) (a : Nat) :
    (s.commit a).word a = s.nextWord a ∧ (s.commit a).stagedWord a = none ∧
    (∀ b, a ≠ b → (s.commit a).word b = s.word b ∧ (s.commit a).stagedWord b = s.stagedWord b) := by
  unfold State.commit State.nextWord
  cases h : s.stagedWord a with
  | none => exact ⟨rfl, h, fun _ _ => ⟨rfl, rfl⟩⟩
  | some w =>
    refine ⟨State.word_setWord_same s a w, ?_, fun b hb => ⟨State.word_setWord_ne s w hb, ?_⟩⟩
    · exact (State.stagedWord_unstage (s.setWord a w) a a).trans (if_pos rfl)
    · exact (State.stagedWord_unstage (s.setWord a w) a b).trans (if_neg hb)

/-! ## The canonical form -/

theorem State.regs_setWord_wf (s : State) (a : Nat) (w : Word) (h : tabWf regReset s.regs = true) :
    tabWf regReset (s.setWord a w).regs = true := by
  unfold State.setWord
  by_cases hw : w = regReset a
  · simp only [if_pos hw]
    exact tabWf_tabErase _ _ _ h
  · simp only [if_neg hw]
    exact tabWf_tabInsert _ _ _ _ hw h

end Sys2Proof.Machine
end

