-- ==== Sys2Proof/Laws/Events.lean ====
section
/-! SUPPORT. What raising a source can change (spec/17_events_errors.md): words of the event controller and of the error
log, and what stands behind them; and what a register request answers. -/

namespace Sys2Proof.Machine

/-! ## Requests -/

/-- A request that may not be made, or that its register refuses, answers its status and changes nothing else. -/
theorem request_refused (who : Requester) (addr : Nat) (f : State → Res) (s : State) (st : Status)
    (h : permit who addr f s = (st, s)) : request who addr f s = s.emit (.status who addr st) := by
  unfold request
  rw [h]

/-- A permitted request answers the status of its effect. -/
theorem request_permitted (who : Requester) (addr : Nat) (f : State → Res) (s : State) (h : Permitted who addr s) :
    request who addr f s = (f s).2.emit (.status who addr (f s).1) := by
  unfold request permit
  rw [if_neg (by simp [h.2.1]), if_neg (by have := h.2.2; omega)]

/-- A command that acts. -/
theorem whenLive_next (s : State) (f : State → State) (h : live s = true) : whenLive s f = .next (f s) := by
  unfold whenLive
  rw [if_pos h]

/-! ## Event state -/

theorem EvtOnly.rfl {s : State} : EvtOnly s s := ⟨Eq.refl _, fun _ _ => Eq.refl _⟩

theorem EvtOnly.trans {s t u : State} (h : EvtOnly s t) (k : EvtOnly t u) : EvtOnly s u :=
  ⟨by rw [k.rest, h.rest], fun a ha => (k.word a ha).trans (h.word a ha)⟩

theorem EvtOnly.get {s t : State} (h : EvtOnly s t) (f : Field) (hf : evtAddr f.addr = false) : t.get f = s.get f := by
  unfold State.get
  rw [h.word _ hf]

theorem EvtOnly.set (s : State) (f : Field) (v : Nat) (hf : evtAddr f.addr = true) : EvtOnly s (s.set f v) :=
  ⟨Eq.refl _, fun a ha => State.word_set_ne s f v (by intro e; subst e; simp [hf] at ha)⟩

theorem EvtOnly.setWord (s : State) (a : Nat) (w : Word) (hf : evtAddr a = true) : EvtOnly s (s.setWord a w) :=
  ⟨Eq.refl _, fun b hb => State.word_setWord_ne s w (by intro e; subst e; simp [hf] at hb)⟩

theorem EvtOnly.evt (s : State) (e : EvtState) : EvtOnly s { s with evt := e } := ⟨Eq.refl _, fun _ _ => Eq.refl _⟩

theorem EvtOnly.ite {s t u : State} {p : Prop} [Decidable p] (h : EvtOnly s t) (k : EvtOnly s u) :
    EvtOnly s (if p then t else u) := by split <;> assumption

theorem EvtOnly.foldl {α : Type} {s : State} (f : State → α → State) (l : List α) {t : State} (h : EvtOnly s t)
    (hf : ∀ u x, x ∈ l → EvtOnly s u → EvtOnly s (f u x)) : EvtOnly s (l.foldl f t) := by
  induction l generalizing t with
  | nil => exact h
  | cons x l ih =>
    exact ih (hf t x (.head _) h) (fun u y hy hu => hf u y (.tail _ hy) hu)

theorem evtAddr_grp {src : Nat} (h : src < 1024) : evtAddr (R.EVT_GRP (src / 16)) = true := by
  simp only [evtAddr, R.EVT_GRP]; exact decide_eq_true (by omega)

theorem evtAddr_cnt {src : Nat} (h : src < 1024) : evtAddr (R.EVT_CNT (src / 4)) = true := by
  simp only [evtAddr, R.EVT_CNT]; exact decide_eq_true (by omega)

theorem evtAddr_pend {src : Nat} (h : src < 1024) : evtAddr (R.EVT_PEND (src / 32)) = true := by
  simp only [evtAddr, R.EVT_PEND]; exact decide_eq_true (by omega)

theorem evtOnly_startWindow (src : Nat) (s : State) (h : src < 1024) : EvtOnly s (startWindow src s) := by
  unfold startWindow
  exact .ite ((EvtOnly.evt s _).trans (.set _ _ _ (evtAddr_grp h))) .rfl

theorem evtOnly_startNewWindows (b : State) (l : List Nat) (s : State) (h : ∀ x ∈ l, x < 1024) :
    EvtOnly s (startNewWindows b l s) :=
  .foldl _ l .rfl (fun u x hx hu => .ite (hu.trans (evtOnly_startWindow x u (h x hx))) hu)

theorem evtOnly_holdSource (src : Nat) (s : State) : EvtOnly s (holdSource src s) := by
  unfold holdSource
  exact .ite (.evt s _) .rfl

theorem evtOnly_countSource (src : Nat) (s : State) (h : src < 1024) : EvtOnly s (countSource src s) :=
  .set _ _ _ (evtAddr_cnt h)

theorem evtOnly_arrive (src : Nat) (s : State) (h : src < 1024) : EvtOnly s (arrive src s) := by
  unfold arrive
  refine EvtOnly.trans ?_ (evtOnly_startNewWindows _ _ _ (by simpa using h))
  refine EvtOnly.trans ?_ (evtOnly_holdSource _ _)
  refine EvtOnly.trans ?_ (evtOnly_countSource _ _ h)
  exact .ite (.evt s _) (.set _ _ _ (evtAddr_pend h))

theorem lossClass_le (src : Nat) : lossClass src ≤ 7 := by
  unfold lossClass
  repeat' split
  all_goals omega

theorem evtOnly_logDrop (src n : Nat) (s : State) : EvtOnly s (logDrop src n s) := by
  have hc : evtAddr (R.ERRLOG_DROP (lossClass src / 2)) = true := by
    have := lossClass_le src
    simp only [evtAddr, R.ERRLOG_DROP]
    exact decide_eq_true (by omega)
  have h0 : EvtOnly s (s.bumpBy (if lossClass src % 2 = 0 then F.ERRLOG_DROP_DROP_LO (lossClass src / 2)
      else F.ERRLOG_DROP_DROP_HI (lossClass src / 2)) n) := by
    refine .set _ _ _ ?_
    split <;> exact hc
  unfold logDrop
  exact .ite ((h0.trans (evtOnly_arrive 960 _ (by decide))).trans (.evt _ _)) h0

theorem evtOnly_report (src code detail : Nat) (s : State) : EvtOnly s (report src code detail s) := by
  unfold report
  refine .ite .rfl (.ite ?_ (.ite (evtOnly_logDrop _ _ _) ?_))
  · exact (EvtOnly.evt s _).trans (.set _ _ _ (by decide))
  · exact (EvtOnly.evt s _).trans (.set _ _ _ (by decide))

theorem evtOnly_raiseWith (src code detail : Nat) (s : State) (h : src < 1024) : EvtOnly s (raiseWith src code detail s) :=
  (evtOnly_arrive src s h).trans (evtOnly_report _ _ _ _)

/-- Raising a source changes words of the event controller and the error log, and what stands behind them. -/
theorem evtOnly_raise (src : Nat) (s : State) (h : src < 1024) : EvtOnly s (raise src s) := evtOnly_raiseWith src 0 0 s h

theorem evtOnly_raiseQuiet (src code detail : Nat) (s : State) (h : src < 1024) : EvtOnly s (raiseQuiet src code detail s) := by
  unfold raiseQuiet
  exact .ite ((evtOnly_raiseWith _ _ _ s h).trans (.evt _ _)) .rfl

theorem evtOnly_raisePerMs (src code detail : Nat) (s : State) (h : src < 1024) : EvtOnly s (raisePerMs src code detail s) := by
  unfold raisePerMs
  exact .ite ((evtOnly_raiseWith _ _ _ s h).trans (.evt _ _)) (evtOnly_report _ _ _ _)

theorem evtOnly_setCond (src : Nat) (on : Bool) (s : State) (h : src < 1024) : EvtOnly s (setCond src on s) := by
  unfold setCond
  exact .ite (.ite .rfl (evtOnly_raise _ _ h)) (.evt _ _)

theorem evtOnly_logLevels (s : State) : EvtOnly s (logLevels s) := by
  unfold logLevels
  refine EvtOnly.trans ?_ (evtOnly_setCond _ _ _ (by decide))
  refine EvtOnly.trans ?_ (evtOnly_setCond _ _ _ (by decide))
  exact (EvtOnly.set _ _ _ (by decide)).trans (.set _ _ _ (by decide))

/-! ## Pending sources -/

theorem mem_setInsert (k : Nat) (l : List Nat) (x : Nat) : x ∈ setInsert k l ↔ x = k ∨ x ∈ l := by
  induction l with
  | nil => simp [setInsert]
  | cons a t ih =>
    unfold setInsert
    split
    · simp
    · split
      · rename_i h; subst h; simp
      · simp only [List.mem_cons, ih]; exact or_left_comm

theorem mem_setErase (k : Nat) (l : List Nat) (x : Nat) : x ∈ setErase k l ↔ x ∈ l ∧ x ≠ k := by
  simp [setErase]

/-- A source's field is a bit of its word. -/
theorem sourceField_legal (b : Nat → Nat) (src : Nat) : (sourceField b src).legal :=
  ⟨Nat.le_refl _, Nat.mod_lt _ (by decide)⟩

/-- Pending is told by the EVT_PEND words and the conditions. -/
theorem isPending_congr {s t : State} (x : Nat) (hc : t.evt.cond = s.evt.cond)
    (hw : t.word (R.EVT_PEND (x / 32)) = s.word (R.EVT_PEND (x / 32))) : t.isPending x = s.isPending x := by
  simp only [State.isPending, State.flag, State.get, sourceField, hc, hw]

theorem isPending_set (s : State) (f : Field) (v x : Nat) (h : f.addr ≠ R.EVT_PEND (x / 32)) :
    (s.set f v).isPending x = s.isPending x := isPending_congr x rfl (State.word_set_ne s f v h)

theorem isPending_startWindow (src : Nat) (s : State) (x : Nat) (h : x < 1024) :
    (startWindow src s).isPending x = s.isPending x := by
  unfold startWindow
  dsimp only
  split
  · rw [isPending_set _ _ _ _ (by simp only [F.EVT_GRP_HELD, R.EVT_GRP, R.EVT_PEND]; omega)]
    exact isPending_congr x rfl rfl
  · rfl

theorem isPending_startNewWindows (b : State) (l : List Nat) (s : State) (x : Nat) (h : x < 1024) :
    (startNewWindows b l s).isPending x = s.isPending x := by
  unfold startNewWindows
  induction l generalizing s with
  | nil => rfl
  | cons a l ih =>
    rw [List.foldl_cons, ih]
    split
    · exact isPending_startWindow a s x h
    · rfl

theorem isPending_holdSource (src : Nat) (s : State) (x : Nat) : (holdSource src s).isPending x = s.isPending x := by
  unfold holdSource
  split
  · exact isPending_congr x rfl rfl
  · rfl

theorem isPending_countSource (src : Nat) (s : State) (x : Nat) (h : x < 1024) :
    (countSource src s).isPending x = s.isPending x :=
  isPending_set _ _ _ _ (by simp only [F.EVT_CNT_COUNT, R.EVT_CNT, R.EVT_PEND]; omega)

/-- An arrival makes its source pending, and no other. -/
theorem isPending_arrive (src : Nat) (s : State) (x : Nat) (h : x < 1024) :
    (arrive src s).isPending x = (decide (x = src) || s.isPending x) := by
  unfold arrive
  rw [isPending_startNewWindows _ _ _ _ h, isPending_holdSource, isPending_countSource _ _ _ h]
  by_cases hl : isLevel src = true
  · simp only [hl, if_true]
    unfold State.isPending
    by_cases hx : isLevel x = true
    · simp only [hx, if_true]
      rw [Bool.eq_iff_iff]
      simp [mem_setInsert]
    · have : x ≠ src := by intro e; subst e; exact hx hl
      simp [hx, this, State.flag, State.get, State.word]
  · simp only [hl]
    by_cases he : x = src
    · subst he
      have hg := State.get_set_same s (sourceField R.EVT_PEND x) 1 (sourceField_legal _ _)
      have h1 : x % 32 + 1 - x % 32 = 1 := by omega
      simp only [sourceField] at hg
      rw [h1] at hg
      simp [State.isPending, hl, State.flag, sourceField, hg]
    · simp only [he, decide_false, Bool.false_or]
      unfold State.isPending
      split
      · rfl
      · unfold State.flag
        by_cases hw : src / 32 = x / 32
        · have : src % 32 ≠ x % 32 := by omega
          have hg := State.get_set_other s (sourceField R.EVT_PEND src) (sourceField R.EVT_PEND x) 1 (sourceField_legal _ _)
            (by simp only [sourceField]; omega)
          simp [hg]
        · have hg := State.get_set_addr s (sourceField R.EVT_PEND src) (sourceField R.EVT_PEND x) 1
            (by simp only [sourceField, R.EVT_PEND]; omega)
          simp [hg]

theorem isPending_noteRaise (n : Nat) (s : State) (x : Nat) : (noteRaise n s).isPending x = s.isPending x :=
  isPending_congr x (by unfold noteRaise; exact Eq.refl _) (by unfold noteRaise; exact Eq.refl _)

theorem isPending_logDrop (src n : Nat) (s : State) (x : Nat) (h : x < 1024) (h9 : x ≠ 960) :
    (logDrop src n s).isPending x = s.isPending x := by
  have hc : ∀ t : State, (t.bumpBy (if lossClass src % 2 = 0 then F.ERRLOG_DROP_DROP_LO (lossClass src / 2)
      else F.ERRLOG_DROP_DROP_HI (lossClass src / 2)) n).isPending x = t.isPending x := by
    intro t
    refine isPending_set _ _ _ _ ?_
    split <;> simp only [F.ERRLOG_DROP_DROP_LO, F.ERRLOG_DROP_DROP_HI, R.ERRLOG_DROP, R.EVT_PEND] <;> omega
  have key : ∀ t : State, t.isPending x = s.isPending x →
      (if t.msQuiet 960 then noteRaise 960 (arrive 960 t) else t).isPending x = s.isPending x := by
    intro t ht
    split
    · rw [isPending_noteRaise, isPending_arrive _ _ _ h, ht]
      simp [h9]
    · exact ht
  unfold logDrop
  exact key _ (hc s)

theorem isPending_report (src code detail : Nat) (s : State) (x : Nat) (h : x < 1024) (h9 : x ≠ 960) :
    (report src code detail s).isPending x = s.isPending x := by
  unfold report
  split
  · rfl
  · split
    · refine (isPending_set _ _ _ _ ?_).trans (isPending_congr x rfl rfl)
      simp only [F.ERRLOG_MERGED_COUNT, R.ERRLOG_MERGED, R.EVT_PEND]; omega
    · split
      · exact isPending_logDrop src 1 s x h h9
      · refine (isPending_set _ _ _ _ ?_).trans (isPending_congr x rfl rfl)
        simp only [F.ERRLOG_STATUS_QUEUED, R.ERRLOG_STATUS, R.EVT_PEND]; omega

/-- Raising a source makes it pending, and no other but LOG_DROP (source 960). -/
theorem isPending_raiseWith (src code detail : Nat) (s : State) (x : Nat) (h : x < 1024) (h9 : x ≠ 960) :
    (raiseWith src code detail s).isPending x = (decide (x = src) || s.isPending x) := by
  unfold raiseWith
  rw [isPending_report _ _ _ _ _ h h9, isPending_arrive _ _ _ h]

theorem isPending_raise (src : Nat) (s : State) (x : Nat) (h : x < 1024) (h9 : x ≠ 960) :
    (raise src s).isPending x = (decide (x = src) || s.isPending x) := isPending_raiseWith src 0 0 s x h h9

end Sys2Proof.Machine
end

