-- ==== Sys2Proof/Laws/Memory.lean ====
section
/-! SUPPORT. Laws of the memories: a byte reads as written, every other byte as before, and every operation keeps the
canonical form. -/

namespace Sys2Proof.Machine

/-! ## Reading after writing -/

/-- The byte that a run of bytes from a gives an address: the one it carries, else what was there. -/
def runByte (d : Byte) (m : List Host.Cell) (a : Nat) (bs : List Byte) (k : Nat) : Byte :=
  if a ≤ k ∧ k < a + bs.length then bs.getD (k - a) d else cellGet d m k

theorem tabFind_append {α : Type} (t u : Tab α) (k : Nat) : tabFind (t ++ u) k = (tabFind t k).or (tabFind u k) := by
  induction t with
  | nil => simp [tabFind]
  | cons e t ih =>
    obtain ⟨a, w⟩ := e
    rw [List.cons_append, tabFind, tabFind, ih]
    split <;> simp

theorem tabFind_filter_key {α : Type} (t : Tab α) (p : Nat → Bool) (k : Nat) :
    tabFind (t.filter (fun e => p e.1)) k = if p k then tabFind t k else none := by
  induction t with
  | nil => simp [tabFind]
  | cons e t ih =>
    obtain ⟨a, w⟩ := e
    rw [List.filter_cons]
    by_cases hp : p a = true <;> by_cases ha : a = k <;> by_cases hk : p k = true <;> simp_all [tabFind]

theorem tabFind_cellRun (d : Byte) (bs : List Byte) (a k : Nat) :
    (tabFind (cellRun d a bs) k).getD d = if a ≤ k ∧ k < a + bs.length then bs.getD (k - a) d else d := by
  induction bs generalizing a with
  | nil =>
    rw [cellRun, tabFind, if_neg (by simp only [List.length_nil]; omega)]
    rfl
  | cons b t ih =>
    rw [cellRun]
    by_cases hb : b = d
    · rw [if_pos hb, ih]
      by_cases hk : k = a
      · subst hk
        rw [if_neg (by omega), if_pos (by simp only [List.length_cons]; omega)]
        simp [hb]
      · by_cases h : a + 1 ≤ k ∧ k < a + 1 + t.length
        · obtain ⟨n, rfl⟩ : ∃ n, k = a + 1 + n := ⟨k - (a + 1), by omega⟩
          rw [if_pos h, if_pos (by simp only [List.length_cons]; omega), show a + 1 + n - (a + 1) = n by omega,
            show a + 1 + n - a = n + 1 by omega, List.getD_cons_succ]
        · rw [if_neg h, if_neg (by simp only [List.length_cons]; omega)]
    · rw [if_neg hb, tabFind]
      by_cases hk : a = k
      · subst hk
        simp
      · rw [if_neg hk, ih]
        by_cases h : a + 1 ≤ k ∧ k < a + 1 + t.length
        · obtain ⟨n, rfl⟩ : ∃ n, k = a + 1 + n := ⟨k - (a + 1), by omega⟩
          rw [if_pos h, if_pos (by simp only [List.length_cons]; omega), show a + 1 + n - (a + 1) = n by omega,
            show a + 1 + n - a = n + 1 by omega, List.getD_cons_succ]
        · rw [if_neg h, if_neg (by simp only [List.length_cons]; omega)]

theorem tabFind_cellRun_none (d : Byte) (bs : List Byte) (a k : Nat) (h : k < a ∨ a + bs.length ≤ k) :
    tabFind (cellRun d a bs) k = none := by
  induction bs generalizing a with
  | nil => rfl
  | cons b t ih =>
    simp only [List.length_cons] at h
    rw [cellRun]
    split
    · exact ih (a + 1) (by omega)
    · rw [tabFind, if_neg (by omega)]
      exact ih (a + 1) (by omega)

/-- A memory after a write reads as the bytes written, and as before everywhere else. -/
theorem cellGet_cellWrite (d : Byte) (m : List Host.Cell) (a : Nat) (bs : List Byte) (k : Nat) :
    cellGet d (cellWrite d m a bs) k = runByte d m a bs k := by
  have hl := tabFind_filter_key m (fun x => decide (x < a)) k
  have hr := tabFind_filter_key m (fun x => decide (a + bs.length ≤ x)) k
  have hm := tabFind_cellRun d bs a k
  unfold cellGet tabGet cellWrite runByte
  rw [tabFind_append, tabFind_append]
  by_cases h : a ≤ k ∧ k < a + bs.length
  · simp only [show ¬ k < a by omega, show ¬ a + bs.length ≤ k by omega, decide_false, Bool.false_eq_true, if_false] at hl hr
    rw [if_pos h] at hm
    rw [hl, hr, if_pos h, Option.none_or, Option.or_none]
    exact hm
  · have hn := tabFind_cellRun_none d bs a k (by omega)
    rw [if_neg h, hn, Option.or_none]
    by_cases hk : k < a
    · simp only [hk, show ¬ a + bs.length ≤ k by omega, decide_true, decide_false, Bool.false_eq_true, if_true, if_false] at hl hr
      rw [hl, hr, Option.or_none]
      rfl
    · simp only [hk, show a + bs.length ≤ k by omega, decide_true, decide_false, Bool.false_eq_true, if_true, if_false] at hl hr
      rw [hl, hr, Option.none_or]
      rfl

/-- A memory with a range cleared reads as unlisted there and as before elsewhere. -/
theorem cellGet_cellClear (d : Byte) (m : List Host.Cell) (a n k : Nat) :
    cellGet d (cellClear m a n) k = if a ≤ k ∧ k < a + n then d else cellGet d m k := by
  have h := tabFind_filter_key m (fun x => decide (x < a) || decide (a + n ≤ x)) k
  unfold cellGet tabGet cellClear
  rw [h]
  by_cases hk : a ≤ k ∧ k < a + n
  · rw [if_pos hk, if_neg (by simp; omega)]
    rfl
  · rw [if_neg hk, if_pos (by simp; omega)]

theorem cellGet_cellPut (d : Byte) (m : List Host.Cell) (a k : Nat) (v : Byte) :
    cellGet d (cellPut d m a v) k = if a = k then v else cellGet d m k := tabGet_tabPut d m a k v

theorem map_upto_getD (d : Byte) (f : Nat → Byte) (bs : List Byte) (a : Nat) (h : ∀ i, i < bs.length → f (a + i) = bs.getD i d) :
    (upto a bs.length).map f = bs := by
  induction bs generalizing a with
  | nil => rfl
  | cons b t ih =>
    rw [List.length_cons, upto, List.map_cons]
    have h0 := h 0 (by simp)
    simp only [Nat.add_zero, List.getD_cons_zero] at h0
    rw [h0, ih (a + 1) fun i hi => ?_]
    have := h (i + 1) (by simp only [List.length_cons]; omega)
    rw [List.getD_cons_succ] at this
    rw [← this]; congr 1; omega

/-- The bytes written are read. -/
theorem cellRead_cellWrite (d : Byte) (m : List Host.Cell) (a : Nat) (bs : List Byte) :
    cellRead d (cellWrite d m a bs) a bs.length = bs :=
  map_upto_getD d _ bs a fun i hi => by
    rw [cellGet_cellWrite, runByte, if_pos (by omega), Nat.add_sub_cancel_left]

/-- The first bytes of a run in an empty memory are read. -/
theorem cellRead_cellRun (d : Byte) (a n : Nat) (bs : List Byte) (h : n ≤ bs.length) :
    cellRead d (cellRun d a bs) a n = bs.take n := by
  have e : (bs.take n).length = n := by rw [List.length_take]; omega
  have := map_upto_getD d (cellGet d (cellRun d a bs)) (bs.take n) a fun i hi => ?_
  · rw [e] at this; exact this
  · rw [cellGet, tabGet, tabFind_cellRun, if_pos (by omega), Nat.add_sub_cancel_left]
    rw [e] at hi
    simp only [List.getD_eq_getElem?_getD, List.getElem?_take, if_pos hi]

/-! ## The canonical form -/

theorem tabWf_append {α : Type} [DecidableEq α] (d : Nat → α) (t u : Tab α) (k : Nat) (ht : tabWf d t = true)
    (hu : tabWf d u = true) (hl : ∀ e ∈ t, e.1 < k) (hr : ∀ e ∈ u, k ≤ e.1) : tabWf d (t ++ u) = true := by
  induction t with
  | nil => exact hu
  | cons e t ih =>
    obtain ⟨a, w⟩ := e
    simp only [tabWf, Bool.and_eq_true] at ht
    simp only [List.cons_append, tabWf, Bool.and_eq_true]
    refine ⟨⟨ht.1.1, ?_⟩, ih ht.2 (fun e he => hl e (List.mem_cons_of_mem _ he))⟩
    have h1 := ht.1.2
    simp only [tabAbove, List.all_eq_true, decide_eq_true_eq] at h1 ⊢
    intro x hx
    rcases List.mem_append.mp hx with h | h
    · exact h1 x h
    · have := hl (a, w) List.mem_cons_self
      have := hr x h
      omega

theorem cellRun_above (d : Byte) (a : Nat) (bs : List Byte) : ∀ e ∈ cellRun d a bs, a ≤ e.1 ∧ e.1 < a + bs.length := by
  induction bs generalizing a with
  | nil => intro e he; cases he
  | cons b t ih =>
    intro e he
    simp only [List.length_cons]
    rw [cellRun] at he
    split at he
    · have := ih (a + 1) e he
      omega
    · rcases List.mem_cons.mp he with h | h
      · subst h
        exact ⟨Nat.le_refl a, by show a < _; omega⟩
      · have := ih (a + 1) e h
        omega

theorem wf_cellRun (d : Byte) (a : Nat) (bs : List Byte) : Memory.wf d (cellRun d a bs) = true := by
  unfold Memory.wf
  induction bs generalizing a with
  | nil => rfl
  | cons b t ih =>
    rw [cellRun]
    split
    · exact ih (a + 1)
    · rename_i hb
      simp only [tabWf, Bool.and_eq_true, decide_eq_true_eq]
      refine ⟨⟨hb, ?_⟩, ih (a + 1)⟩
      simp only [tabAbove, List.all_eq_true, decide_eq_true_eq]
      intro x hx
      have := cellRun_above d (a + 1) t x hx
      omega

theorem wf_cellWrite (d : Byte) (m : List Host.Cell) (a : Nat) (bs : List Byte) (h : Memory.wf d m = true) :
    Memory.wf d (cellWrite d m a bs) = true := by
  unfold cellWrite Memory.wf
  have hr := wf_cellRun d a bs
  refine tabWf_append _ _ _ (a + bs.length) (tabWf_append _ _ _ a (tabWf_filter _ m _ h) hr ?_ ?_) (tabWf_filter _ m _ h) ?_ ?_
  · intro e he
    exact of_decide_eq_true (List.mem_filter.mp he).2
  · exact fun e he => (cellRun_above d a bs e he).1
  · intro e he
    rcases List.mem_append.mp he with h1 | h1
    · have := of_decide_eq_true (List.mem_filter.mp h1).2
      omega
    · exact (cellRun_above d a bs e h1).2
  · intro e he
    exact of_decide_eq_true (List.mem_filter.mp he).2

theorem wf_cellClear (d : Byte) (m : List Host.Cell) (a n : Nat) (h : Memory.wf d m = true) :
    Memory.wf d (cellClear m a n) = true := tabWf_filter _ m _ h

theorem wf_cellPut (d : Byte) (m : List Host.Cell) (a : Nat) (v : Byte) (h : Memory.wf d m = true) :
    Memory.wf d (cellPut d m a v) = true := tabWf_tabPut d m a v h

/-- A cycle of accesses keeps the local store of a cell canonical. -/
theorem wf_storeCycle (x : CellState) (as : List StoreAccess) (h : Memory.wf ramBlank x.store = true) :
    Memory.wf ramBlank (storeCycle x as).store = true := by
  show Memory.wf ramBlank ((laneOrder as).foldl serveAccess x).store = true
  induction laneOrder as generalizing x with
  | nil => exact h
  | cons a l ih =>
    refine ih _ ?_
    unfold serveAccess
    simp only
    split
    · exact wf_cellPut _ _ _ _ h
    · exact h

/-- Every memory operation of the state keeps the canonical form. -/
theorem State.memWf_ops (s : State) (h : s.memWf = true) (a n : Nat) (bs : List Byte) :
    (s.hbmWrite a bs).memWf = true ∧ (s.flashWrite a bs).memWf = true ∧ (s.flashErase a n).memWf = true ∧
    (s.sramWrite a bs).memWf = true ∧ (s.poisonWord a).memWf = true := by
  have h0 := h
  simp only [State.memWf, Bool.and_eq_true] at h
  refine ⟨?_, ?_, ?_, ?_, h0⟩
  · simp only [State.memWf, State.hbmWrite, Bool.and_eq_true]
    exact ⟨⟨wf_cellWrite _ _ _ _ h.1.1, h.1.2⟩, h.2⟩
  · unfold State.flashWrite
    split
    · exact h0
    · simp only [State.memWf, Bool.and_eq_true]
      exact ⟨⟨h.1.1, wf_cellWrite _ _ _ _ h.1.2⟩, h.2⟩
  · unfold State.flashErase
    split
    · exact h0
    · simp only [State.memWf, Bool.and_eq_true]
      exact ⟨⟨h.1.1, wf_cellClear _ _ _ _ h.1.2⟩, h.2⟩
  · simp only [State.memWf, State.sramWrite, Bool.and_eq_true]
    exact ⟨h.1, wf_cellWrite _ _ _ _ h.2⟩

theorem State.memWf_reset : State.reset.memWf = true := rfl

end Sys2Proof.Machine
end

