-- ==== Sys2Proof/Laws/State.lean ====
section
/-! SUPPORT. What each update of the state leaves: every field but the one it names. One law per update, each clause true
by rfl, so that no later proof unfolds a record update. -/

namespace Sys2Proof.Machine

variable (s : State)

/-- setWord changes regs only. -/
@[simp] theorem State.setWord_only (a : Nat) (w : Word) :
    (s.setWord a w).pins = s.pins ∧ (s.setWord a w).now = s.now ∧ (s.setWord a w).free = s.free ∧
    (s.setWord a w).staged = s.staged ∧ (s.setWord a w).heldLo = s.heldLo ∧ (s.setWord a w).captured = s.captured ∧
    (s.setWord a w).hbm = s.hbm ∧ (s.setWord a w).poison = s.poison ∧ (s.setWord a w).flash = s.flash ∧
    (s.setWord a w).sram = s.sram ∧ (s.setWord a w).fuses = s.fuses ∧ (s.setWord a w).evt = s.evt ∧
    (s.setWord a w).struct = s.struct ∧ (s.setWord a w).kcp = s.kcp ∧ (s.setWord a w).card = s.card ∧
    (s.setWord a w).conf = s.conf ∧ (s.setWord a w).plank = s.plank ∧ (s.setWord a w).panel = s.panel ∧
    (s.setWord a w).afl = s.afl ∧ (s.setWord a w).links = s.links ∧ (s.setWord a w).time = s.time ∧
    (s.setWord a w).mem = s.mem ∧ (s.setWord a w).xlat = s.xlat ∧ (s.setWord a w).ingest = s.ingest ∧
    (s.setWord a w).dec = s.dec ∧ (s.setWord a w).siz = s.siz ∧ (s.setWord a w).enc = s.enc ∧
    (s.setWord a w).fuller = s.fuller ∧ (s.setWord a w).mode = s.mode ∧ (s.setWord a w).tap = s.tap ∧
    (s.setWord a w).out = s.out ∧ (s.setWord a w).pending = s.pending :=
  ⟨rfl, rfl, rfl, rfl, rfl, rfl, rfl, rfl, rfl, rfl, rfl, rfl, rfl, rfl, rfl, rfl, rfl, rfl, rfl, rfl, rfl, rfl, rfl, rfl,
   rfl, rfl, rfl, rfl, rfl, rfl, rfl, rfl⟩

/-- set changes regs only. -/
@[simp] theorem State.set_only (f : Field) (v : Nat) :
    (s.set f v).pins = s.pins ∧ (s.set f v).now = s.now ∧ (s.set f v).free = s.free ∧ (s.set f v).staged = s.staged ∧
    (s.set f v).heldLo = s.heldLo ∧ (s.set f v).captured = s.captured ∧ (s.set f v).hbm = s.hbm ∧
    (s.set f v).poison = s.poison ∧ (s.set f v).flash = s.flash ∧ (s.set f v).sram = s.sram ∧ (s.set f v).fuses = s.fuses ∧
    (s.set f v).evt = s.evt ∧ (s.set f v).struct = s.struct ∧ (s.set f v).kcp = s.kcp ∧ (s.set f v).card = s.card ∧
    (s.set f v).conf = s.conf ∧ (s.set f v).plank = s.plank ∧ (s.set f v).panel = s.panel ∧ (s.set f v).afl = s.afl ∧
    (s.set f v).links = s.links ∧ (s.set f v).time = s.time ∧ (s.set f v).mem = s.mem ∧ (s.set f v).xlat = s.xlat ∧
    (s.set f v).ingest = s.ingest ∧ (s.set f v).dec = s.dec ∧ (s.set f v).siz = s.siz ∧ (s.set f v).enc = s.enc ∧
    (s.set f v).fuller = s.fuller ∧ (s.set f v).mode = s.mode ∧ (s.set f v).tap = s.tap ∧ (s.set f v).out = s.out ∧
    (s.set f v).pending = s.pending :=
  ⟨rfl, rfl, rfl, rfl, rfl, rfl, rfl, rfl, rfl, rfl, rfl, rfl, rfl, rfl, rfl, rfl, rfl, rfl, rfl, rfl, rfl, rfl, rfl, rfl,
   rfl, rfl, rfl, rfl, rfl, rfl, rfl, rfl⟩

/-- bumpBy changes regs only. -/
@[simp] theorem State.bumpBy_only (f : Field) (n : Nat) :
    (s.bumpBy f n).pins = s.pins ∧ (s.bumpBy f n).now = s.now ∧ (s.bumpBy f n).free = s.free ∧
    (s.bumpBy f n).staged = s.staged ∧ (s.bumpBy f n).heldLo = s.heldLo ∧ (s.bumpBy f n).captured = s.captured ∧
    (s.bumpBy f n).hbm = s.hbm ∧ (s.bumpBy f n).poison = s.poison ∧ (s.bumpBy f n).flash = s.flash ∧
    (s.bumpBy f n).sram = s.sram ∧ (s.bumpBy f n).fuses = s.fuses ∧ (s.bumpBy f n).evt = s.evt ∧
    (s.bumpBy f n).struct = s.struct ∧ (s.bumpBy f n).kcp = s.kcp ∧ (s.bumpBy f n).card = s.card ∧
    (s.bumpBy f n).conf = s.conf ∧ (s.bumpBy f n).plank = s.plank ∧ (s.bumpBy f n).panel = s.panel ∧
    (s.bumpBy f n).afl = s.afl ∧ (s.bumpBy f n).links = s.links ∧ (s.bumpBy f n).time = s.time ∧ (s.bumpBy f n).mem = s.mem ∧
    (s.bumpBy f n).xlat = s.xlat ∧ (s.bumpBy f n).ingest = s.ingest ∧ (s.bumpBy f n).dec = s.dec ∧
    (s.bumpBy f n).siz = s.siz ∧ (s.bumpBy f n).enc = s.enc ∧ (s.bumpBy f n).fuller = s.fuller ∧
    (s.bumpBy f n).mode = s.mode ∧ (s.bumpBy f n).tap = s.tap ∧ (s.bumpBy f n).out = s.out ∧
    (s.bumpBy f n).pending = s.pending :=
  ⟨rfl, rfl, rfl, rfl, rfl, rfl, rfl, rfl, rfl, rfl, rfl, rfl, rfl, rfl, rfl, rfl, rfl, rfl, rfl, rfl, rfl, rfl, rfl, rfl,
   rfl, rfl, rfl, rfl, rfl, rfl, rfl, rfl⟩

/-- bump changes regs only. -/
@[simp] theorem State.bump_only (f : Field) :
    (s.bump f).pins = s.pins ∧ (s.bump f).now = s.now ∧ (s.bump f).free = s.free ∧ (s.bump f).staged = s.staged ∧
    (s.bump f).heldLo = s.heldLo ∧ (s.bump f).captured = s.captured ∧ (s.bump f).hbm = s.hbm ∧ (s.bump f).poison = s.poison ∧
    (s.bump f).flash = s.flash ∧ (s.bump f).sram = s.sram ∧ (s.bump f).fuses = s.fuses ∧ (s.bump f).evt = s.evt ∧
    (s.bump f).struct = s.struct ∧ (s.bump f).kcp = s.kcp ∧ (s.bump f).card = s.card ∧ (s.bump f).conf = s.conf ∧
    (s.bump f).plank = s.plank ∧ (s.bump f).panel = s.panel ∧ (s.bump f).afl = s.afl ∧ (s.bump f).links = s.links ∧
    (s.bump f).time = s.time ∧ (s.bump f).mem = s.mem ∧ (s.bump f).xlat = s.xlat ∧ (s.bump f).ingest = s.ingest ∧
    (s.bump f).dec = s.dec ∧ (s.bump f).siz = s.siz ∧ (s.bump f).enc = s.enc ∧ (s.bump f).fuller = s.fuller ∧
    (s.bump f).mode = s.mode ∧ (s.bump f).tap = s.tap ∧ (s.bump f).out = s.out ∧ (s.bump f).pending = s.pending :=
  ⟨rfl, rfl, rfl, rfl, rfl, rfl, rfl, rfl, rfl, rfl, rfl, rfl, rfl, rfl, rfl, rfl, rfl, rfl, rfl, rfl, rfl, rfl, rfl, rfl,
   rfl, rfl, rfl, rfl, rfl, rfl, rfl, rfl⟩

/-- stage changes staged only. -/
@[simp] theorem State.stage_only (a : Nat) (w : Word) :
    (s.stage a w).pins = s.pins ∧ (s.stage a w).now = s.now ∧ (s.stage a w).free = s.free ∧ (s.stage a w).regs = s.regs ∧
    (s.stage a w).heldLo = s.heldLo ∧ (s.stage a w).captured = s.captured ∧ (s.stage a w).hbm = s.hbm ∧
    (s.stage a w).poison = s.poison ∧ (s.stage a w).flash = s.flash ∧ (s.stage a w).sram = s.sram ∧
    (s.stage a w).fuses = s.fuses ∧ (s.stage a w).evt = s.evt ∧ (s.stage a w).struct = s.struct ∧ (s.stage a w).kcp = s.kcp ∧
    (s.stage a w).card = s.card ∧ (s.stage a w).conf = s.conf ∧ (s.stage a w).plank = s.plank ∧
    (s.stage a w).panel = s.panel ∧ (s.stage a w).afl = s.afl ∧ (s.stage a w).links = s.links ∧ (s.stage a w).time = s.time ∧
    (s.stage a w).mem = s.mem ∧ (s.stage a w).xlat = s.xlat ∧ (s.stage a w).ingest = s.ingest ∧ (s.stage a w).dec = s.dec ∧
    (s.stage a w).siz = s.siz ∧ (s.stage a w).enc = s.enc ∧ (s.stage a w).fuller = s.fuller ∧ (s.stage a w).mode = s.mode ∧
    (s.stage a w).tap = s.tap ∧ (s.stage a w).out = s.out ∧ (s.stage a w).pending = s.pending :=
  ⟨rfl, rfl, rfl, rfl, rfl, rfl, rfl, rfl, rfl, rfl, rfl, rfl, rfl, rfl, rfl, rfl, rfl, rfl, rfl, rfl, rfl, rfl, rfl, rfl,
   rfl, rfl, rfl, rfl, rfl, rfl, rfl, rfl⟩

/-- unstage changes staged only. -/
@[simp] theorem State.unstage_only (a : Nat) :
    (s.unstage a).pins = s.pins ∧ (s.unstage a).now = s.now ∧ (s.unstage a).free = s.free ∧ (s.unstage a).regs = s.regs ∧
    (s.unstage a).heldLo = s.heldLo ∧ (s.unstage a).captured = s.captured ∧ (s.unstage a).hbm = s.hbm ∧
    (s.unstage a).poison = s.poison ∧ (s.unstage a).flash = s.flash ∧ (s.unstage a).sram = s.sram ∧
    (s.unstage a).fuses = s.fuses ∧ (s.unstage a).evt = s.evt ∧ (s.unstage a).struct = s.struct ∧ (s.unstage a).kcp = s.kcp ∧
    (s.unstage a).card = s.card ∧ (s.unstage a).conf = s.conf ∧ (s.unstage a).plank = s.plank ∧
    (s.unstage a).panel = s.panel ∧ (s.unstage a).afl = s.afl ∧ (s.unstage a).links = s.links ∧ (s.unstage a).time = s.time ∧
    (s.unstage a).mem = s.mem ∧ (s.unstage a).xlat = s.xlat ∧ (s.unstage a).ingest = s.ingest ∧ (s.unstage a).dec = s.dec ∧
    (s.unstage a).siz = s.siz ∧ (s.unstage a).enc = s.enc ∧ (s.unstage a).fuller = s.fuller ∧ (s.unstage a).mode = s.mode ∧
    (s.unstage a).tap = s.tap ∧ (s.unstage a).out = s.out ∧ (s.unstage a).pending = s.pending :=
  ⟨rfl, rfl, rfl, rfl, rfl, rfl, rfl, rfl, rfl, rfl, rfl, rfl, rfl, rfl, rfl, rfl, rfl, rfl, rfl, rfl, rfl, rfl, rfl, rfl,
   rfl, rfl, rfl, rfl, rfl, rfl, rfl, rfl⟩

/-- emit changes out only. -/
@[simp] theorem State.emit_only (o : Output) :
    (s.emit o).pins = s.pins ∧ (s.emit o).now = s.now ∧ (s.emit o).free = s.free ∧ (s.emit o).regs = s.regs ∧
    (s.emit o).staged = s.staged ∧ (s.emit o).heldLo = s.heldLo ∧ (s.emit o).captured = s.captured ∧ (s.emit o).hbm = s.hbm ∧
    (s.emit o).poison = s.poison ∧ (s.emit o).flash = s.flash ∧ (s.emit o).sram = s.sram ∧ (s.emit o).fuses = s.fuses ∧
    (s.emit o).evt = s.evt ∧ (s.emit o).struct = s.struct ∧ (s.emit o).kcp = s.kcp ∧ (s.emit o).card = s.card ∧
    (s.emit o).conf = s.conf ∧ (s.emit o).plank = s.plank ∧ (s.emit o).panel = s.panel ∧ (s.emit o).afl = s.afl ∧
    (s.emit o).links = s.links ∧ (s.emit o).time = s.time ∧ (s.emit o).mem = s.mem ∧ (s.emit o).xlat = s.xlat ∧
    (s.emit o).ingest = s.ingest ∧ (s.emit o).dec = s.dec ∧ (s.emit o).siz = s.siz ∧ (s.emit o).enc = s.enc ∧
    (s.emit o).fuller = s.fuller ∧ (s.emit o).mode = s.mode ∧ (s.emit o).tap = s.tap ∧ (s.emit o).pending = s.pending :=
  ⟨rfl, rfl, rfl, rfl, rfl, rfl, rfl, rfl, rfl, rfl, rfl, rfl, rfl, rfl, rfl, rfl, rfl, rfl, rfl, rfl, rfl, rfl, rfl, rfl,
   rfl, rfl, rfl, rfl, rfl, rfl, rfl, rfl⟩

/-- hbmWrite changes hbm and poison only. -/
@[simp] theorem State.hbmWrite_only (a : Nat) (bs : List Byte) :
    (s.hbmWrite a bs).pins = s.pins ∧ (s.hbmWrite a bs).now = s.now ∧ (s.hbmWrite a bs).free = s.free ∧
    (s.hbmWrite a bs).regs = s.regs ∧ (s.hbmWrite a bs).staged = s.staged ∧ (s.hbmWrite a bs).heldLo = s.heldLo ∧
    (s.hbmWrite a bs).captured = s.captured ∧ (s.hbmWrite a bs).flash = s.flash ∧ (s.hbmWrite a bs).sram = s.sram ∧
    (s.hbmWrite a bs).fuses = s.fuses ∧ (s.hbmWrite a bs).evt = s.evt ∧ (s.hbmWrite a bs).struct = s.struct ∧
    (s.hbmWrite a bs).kcp = s.kcp ∧ (s.hbmWrite a bs).card = s.card ∧ (s.hbmWrite a bs).conf = s.conf ∧
    (s.hbmWrite a bs).plank = s.plank ∧ (s.hbmWrite a bs).panel = s.panel ∧ (s.hbmWrite a bs).afl = s.afl ∧
    (s.hbmWrite a bs).links = s.links ∧ (s.hbmWrite a bs).time = s.time ∧ (s.hbmWrite a bs).mem = s.mem ∧
    (s.hbmWrite a bs).xlat = s.xlat ∧ (s.hbmWrite a bs).ingest = s.ingest ∧ (s.hbmWrite a bs).dec = s.dec ∧
    (s.hbmWrite a bs).siz = s.siz ∧ (s.hbmWrite a bs).enc = s.enc ∧ (s.hbmWrite a bs).fuller = s.fuller ∧
    (s.hbmWrite a bs).mode = s.mode ∧ (s.hbmWrite a bs).tap = s.tap ∧ (s.hbmWrite a bs).out = s.out ∧
    (s.hbmWrite a bs).pending = s.pending :=
  ⟨rfl, rfl, rfl, rfl, rfl, rfl, rfl, rfl, rfl, rfl, rfl, rfl, rfl, rfl, rfl, rfl, rfl, rfl, rfl, rfl, rfl, rfl, rfl, rfl,
   rfl, rfl, rfl, rfl, rfl, rfl, rfl⟩

/-- poisonWord changes poison only. -/
@[simp] theorem State.poisonWord_only (w : Nat) :
    (s.poisonWord w).pins = s.pins ∧ (s.poisonWord w).now = s.now ∧ (s.poisonWord w).free = s.free ∧
    (s.poisonWord w).regs = s.regs ∧ (s.poisonWord w).staged = s.staged ∧ (s.poisonWord w).heldLo = s.heldLo ∧
    (s.poisonWord w).captured = s.captured ∧ (s.poisonWord w).hbm = s.hbm ∧ (s.poisonWord w).flash = s.flash ∧
    (s.poisonWord w).sram = s.sram ∧ (s.poisonWord w).fuses = s.fuses ∧ (s.poisonWord w).evt = s.evt ∧
    (s.poisonWord w).struct = s.struct ∧ (s.poisonWord w).kcp = s.kcp ∧ (s.poisonWord w).card = s.card ∧
    (s.poisonWord w).conf = s.conf ∧ (s.poisonWord w).plank = s.plank ∧ (s.poisonWord w).panel = s.panel ∧
    (s.poisonWord w).afl = s.afl ∧ (s.poisonWord w).links = s.links ∧ (s.poisonWord w).time = s.time ∧
    (s.poisonWord w).mem = s.mem ∧ (s.poisonWord w).xlat = s.xlat ∧ (s.poisonWord w).ingest = s.ingest ∧
    (s.poisonWord w).dec = s.dec ∧ (s.poisonWord w).siz = s.siz ∧ (s.poisonWord w).enc = s.enc ∧
    (s.poisonWord w).fuller = s.fuller ∧ (s.poisonWord w).mode = s.mode ∧ (s.poisonWord w).tap = s.tap ∧
    (s.poisonWord w).out = s.out ∧ (s.poisonWord w).pending = s.pending :=
  ⟨rfl, rfl, rfl, rfl, rfl, rfl, rfl, rfl, rfl, rfl, rfl, rfl, rfl, rfl, rfl, rfl, rfl, rfl, rfl, rfl, rfl, rfl, rfl, rfl,
   rfl, rfl, rfl, rfl, rfl, rfl, rfl, rfl⟩

/-- sramWrite changes sram only. -/
@[simp] theorem State.sramWrite_only (a : Nat) (bs : List Byte) :
    (s.sramWrite a bs).pins = s.pins ∧ (s.sramWrite a bs).now = s.now ∧ (s.sramWrite a bs).free = s.free ∧
    (s.sramWrite a bs).regs = s.regs ∧ (s.sramWrite a bs).staged = s.staged ∧ (s.sramWrite a bs).heldLo = s.heldLo ∧
    (s.sramWrite a bs).captured = s.captured ∧ (s.sramWrite a bs).hbm = s.hbm ∧ (s.sramWrite a bs).poison = s.poison ∧
    (s.sramWrite a bs).flash = s.flash ∧ (s.sramWrite a bs).fuses = s.fuses ∧ (s.sramWrite a bs).evt = s.evt ∧
    (s.sramWrite a bs).struct = s.struct ∧ (s.sramWrite a bs).kcp = s.kcp ∧ (s.sramWrite a bs).card = s.card ∧
    (s.sramWrite a bs).conf = s.conf ∧ (s.sramWrite a bs).plank = s.plank ∧ (s.sramWrite a bs).panel = s.panel ∧
    (s.sramWrite a bs).afl = s.afl ∧ (s.sramWrite a bs).links = s.links ∧ (s.sramWrite a bs).time = s.time ∧
    (s.sramWrite a bs).mem = s.mem ∧ (s.sramWrite a bs).xlat = s.xlat ∧ (s.sramWrite a bs).ingest = s.ingest ∧
    (s.sramWrite a bs).dec = s.dec ∧ (s.sramWrite a bs).siz = s.siz ∧ (s.sramWrite a bs).enc = s.enc ∧
    (s.sramWrite a bs).fuller = s.fuller ∧ (s.sramWrite a bs).mode = s.mode ∧ (s.sramWrite a bs).tap = s.tap ∧
    (s.sramWrite a bs).out = s.out ∧ (s.sramWrite a bs).pending = s.pending :=
  ⟨rfl, rfl, rfl, rfl, rfl, rfl, rfl, rfl, rfl, rfl, rfl, rfl, rfl, rfl, rfl, rfl, rfl, rfl, rfl, rfl, rfl, rfl, rfl, rfl,
   rfl, rfl, rfl, rfl, rfl, rfl, rfl, rfl⟩

/-- poolWrite changes hbm and poison only. -/
@[simp] theorem State.poolWrite_only (p : PoolRec) (off : Nat) (bs : List Byte) :
    (s.poolWrite p off bs).pins = s.pins ∧ (s.poolWrite p off bs).now = s.now ∧ (s.poolWrite p off bs).free = s.free ∧
    (s.poolWrite p off bs).regs = s.regs ∧ (s.poolWrite p off bs).staged = s.staged ∧
    (s.poolWrite p off bs).heldLo = s.heldLo ∧ (s.poolWrite p off bs).captured = s.captured ∧
    (s.poolWrite p off bs).flash = s.flash ∧ (s.poolWrite p off bs).sram = s.sram ∧ (s.poolWrite p off bs).fuses = s.fuses ∧
    (s.poolWrite p off bs).evt = s.evt ∧ (s.poolWrite p off bs).struct = s.struct ∧ (s.poolWrite p off bs).kcp = s.kcp ∧
    (s.poolWrite p off bs).card = s.card ∧ (s.poolWrite p off bs).conf = s.conf ∧ (s.poolWrite p off bs).plank = s.plank ∧
    (s.poolWrite p off bs).panel = s.panel ∧ (s.poolWrite p off bs).afl = s.afl ∧ (s.poolWrite p off bs).links = s.links ∧
    (s.poolWrite p off bs).time = s.time ∧ (s.poolWrite p off bs).mem = s.mem ∧ (s.poolWrite p off bs).xlat = s.xlat ∧
    (s.poolWrite p off bs).ingest = s.ingest ∧ (s.poolWrite p off bs).dec = s.dec ∧ (s.poolWrite p off bs).siz = s.siz ∧
    (s.poolWrite p off bs).enc = s.enc ∧ (s.poolWrite p off bs).fuller = s.fuller ∧ (s.poolWrite p off bs).mode = s.mode ∧
    (s.poolWrite p off bs).tap = s.tap ∧ (s.poolWrite p off bs).out = s.out ∧ (s.poolWrite p off bs).pending = s.pending :=
  ⟨rfl, rfl, rfl, rfl, rfl, rfl, rfl, rfl, rfl, rfl, rfl, rfl, rfl, rfl, rfl, rfl, rfl, rfl, rfl, rfl, rfl, rfl, rfl, rfl,
   rfl, rfl, rfl, rfl, rfl, rfl, rfl⟩

/-- setPath changes kcp only. -/
@[simp] theorem State.setPath_only (kind id : Nat) (p : PathObj) :
    (s.setPath kind id p).pins = s.pins ∧ (s.setPath kind id p).now = s.now ∧ (s.setPath kind id p).free = s.free ∧
    (s.setPath kind id p).regs = s.regs ∧ (s.setPath kind id p).staged = s.staged ∧ (s.setPath kind id p).heldLo = s.heldLo ∧
    (s.setPath kind id p).captured = s.captured ∧ (s.setPath kind id p).hbm = s.hbm ∧
    (s.setPath kind id p).poison = s.poison ∧ (s.setPath kind id p).flash = s.flash ∧ (s.setPath kind id p).sram = s.sram ∧
    (s.setPath kind id p).fuses = s.fuses ∧ (s.setPath kind id p).evt = s.evt ∧ (s.setPath kind id p).struct = s.struct ∧
    (s.setPath kind id p).card = s.card ∧ (s.setPath kind id p).conf = s.conf ∧ (s.setPath kind id p).plank = s.plank ∧
    (s.setPath kind id p).panel = s.panel ∧ (s.setPath kind id p).afl = s.afl ∧ (s.setPath kind id p).links = s.links ∧
    (s.setPath kind id p).time = s.time ∧ (s.setPath kind id p).mem = s.mem ∧ (s.setPath kind id p).xlat = s.xlat ∧
    (s.setPath kind id p).ingest = s.ingest ∧ (s.setPath kind id p).dec = s.dec ∧ (s.setPath kind id p).siz = s.siz ∧
    (s.setPath kind id p).enc = s.enc ∧ (s.setPath kind id p).fuller = s.fuller ∧ (s.setPath kind id p).mode = s.mode ∧
    (s.setPath kind id p).tap = s.tap ∧ (s.setPath kind id p).out = s.out ∧ (s.setPath kind id p).pending = s.pending :=
  ⟨rfl, rfl, rfl, rfl, rfl, rfl, rfl, rfl, rfl, rfl, rfl, rfl, rfl, rfl, rfl, rfl, rfl, rfl, rfl, rfl, rfl, rfl, rfl, rfl,
   rfl, rfl, rfl, rfl, rfl, rfl, rfl, rfl⟩

/-- setSession changes kcp only. -/
@[simp] theorem State.setSession_only (n : Nat) (x : Session) :
    (s.setSession n x).pins = s.pins ∧ (s.setSession n x).now = s.now ∧ (s.setSession n x).free = s.free ∧
    (s.setSession n x).regs = s.regs ∧ (s.setSession n x).staged = s.staged ∧ (s.setSession n x).heldLo = s.heldLo ∧
    (s.setSession n x).captured = s.captured ∧ (s.setSession n x).hbm = s.hbm ∧ (s.setSession n x).poison = s.poison ∧
    (s.setSession n x).flash = s.flash ∧ (s.setSession n x).sram = s.sram ∧ (s.setSession n x).fuses = s.fuses ∧
    (s.setSession n x).evt = s.evt ∧ (s.setSession n x).struct = s.struct ∧ (s.setSession n x).card = s.card ∧
    (s.setSession n x).conf = s.conf ∧ (s.setSession n x).plank = s.plank ∧ (s.setSession n x).panel = s.panel ∧
    (s.setSession n x).afl = s.afl ∧ (s.setSession n x).links = s.links ∧ (s.setSession n x).time = s.time ∧
    (s.setSession n x).mem = s.mem ∧ (s.setSession n x).xlat = s.xlat ∧ (s.setSession n x).ingest = s.ingest ∧
    (s.setSession n x).dec = s.dec ∧ (s.setSession n x).siz = s.siz ∧ (s.setSession n x).enc = s.enc ∧
    (s.setSession n x).fuller = s.fuller ∧ (s.setSession n x).mode = s.mode ∧ (s.setSession n x).tap = s.tap ∧
    (s.setSession n x).out = s.out ∧ (s.setSession n x).pending = s.pending :=
  ⟨rfl, rfl, rfl, rfl, rfl, rfl, rfl, rfl, rfl, rfl, rfl, rfl, rfl, rfl, rfl, rfl, rfl, rfl, rfl, rfl, rfl, rfl, rfl, rfl,
   rfl, rfl, rfl, rfl, rfl, rfl, rfl, rfl⟩

/-- withCard changes card only. -/
@[simp] theorem State.withCard_only (c : CardState) :
    (s.withCard c).pins = s.pins ∧ (s.withCard c).now = s.now ∧ (s.withCard c).free = s.free ∧ (s.withCard c).regs = s.regs ∧
    (s.withCard c).staged = s.staged ∧ (s.withCard c).heldLo = s.heldLo ∧ (s.withCard c).captured = s.captured ∧
    (s.withCard c).hbm = s.hbm ∧ (s.withCard c).poison = s.poison ∧ (s.withCard c).flash = s.flash ∧
    (s.withCard c).sram = s.sram ∧ (s.withCard c).fuses = s.fuses ∧ (s.withCard c).evt = s.evt ∧
    (s.withCard c).struct = s.struct ∧ (s.withCard c).kcp = s.kcp ∧ (s.withCard c).conf = s.conf ∧
    (s.withCard c).plank = s.plank ∧ (s.withCard c).panel = s.panel ∧ (s.withCard c).afl = s.afl ∧
    (s.withCard c).links = s.links ∧ (s.withCard c).time = s.time ∧ (s.withCard c).mem = s.mem ∧
    (s.withCard c).xlat = s.xlat ∧ (s.withCard c).ingest = s.ingest ∧ (s.withCard c).dec = s.dec ∧
    (s.withCard c).siz = s.siz ∧ (s.withCard c).enc = s.enc ∧ (s.withCard c).fuller = s.fuller ∧
    (s.withCard c).mode = s.mode ∧ (s.withCard c).tap = s.tap ∧ (s.withCard c).out = s.out ∧
    (s.withCard c).pending = s.pending :=
  ⟨rfl, rfl, rfl, rfl, rfl, rfl, rfl, rfl, rfl, rfl, rfl, rfl, rfl, rfl, rfl, rfl, rfl, rfl, rfl, rfl, rfl, rfl, rfl, rfl,
   rfl, rfl, rfl, rfl, rfl, rfl, rfl, rfl⟩

/-- withConf changes conf only. -/
@[simp] theorem State.withConf_only (c : ConfState) :
    (s.withConf c).pins = s.pins ∧ (s.withConf c).now = s.now ∧ (s.withConf c).free = s.free ∧ (s.withConf c).regs = s.regs ∧
    (s.withConf c).staged = s.staged ∧ (s.withConf c).heldLo = s.heldLo ∧ (s.withConf c).captured = s.captured ∧
    (s.withConf c).hbm = s.hbm ∧ (s.withConf c).poison = s.poison ∧ (s.withConf c).flash = s.flash ∧
    (s.withConf c).sram = s.sram ∧ (s.withConf c).fuses = s.fuses ∧ (s.withConf c).evt = s.evt ∧
    (s.withConf c).struct = s.struct ∧ (s.withConf c).kcp = s.kcp ∧ (s.withConf c).card = s.card ∧
    (s.withConf c).plank = s.plank ∧ (s.withConf c).panel = s.panel ∧ (s.withConf c).afl = s.afl ∧
    (s.withConf c).links = s.links ∧ (s.withConf c).time = s.time ∧ (s.withConf c).mem = s.mem ∧
    (s.withConf c).xlat = s.xlat ∧ (s.withConf c).ingest = s.ingest ∧ (s.withConf c).dec = s.dec ∧
    (s.withConf c).siz = s.siz ∧ (s.withConf c).enc = s.enc ∧ (s.withConf c).fuller = s.fuller ∧
    (s.withConf c).mode = s.mode ∧ (s.withConf c).tap = s.tap ∧ (s.withConf c).out = s.out ∧
    (s.withConf c).pending = s.pending :=
  ⟨rfl, rfl, rfl, rfl, rfl, rfl, rfl, rfl, rfl, rfl, rfl, rfl, rfl, rfl, rfl, rfl, rfl, rfl, rfl, rfl, rfl, rfl, rfl, rfl,
   rfl, rfl, rfl, rfl, rfl, rfl, rfl, rfl⟩

/-- setFrame changes conf only. -/
@[simp] theorem State.setFrame_only (h : Nat) (f : FrameEntry) :
    (s.setFrame h f).pins = s.pins ∧ (s.setFrame h f).now = s.now ∧ (s.setFrame h f).free = s.free ∧
    (s.setFrame h f).regs = s.regs ∧ (s.setFrame h f).staged = s.staged ∧ (s.setFrame h f).heldLo = s.heldLo ∧
    (s.setFrame h f).captured = s.captured ∧ (s.setFrame h f).hbm = s.hbm ∧ (s.setFrame h f).poison = s.poison ∧
    (s.setFrame h f).flash = s.flash ∧ (s.setFrame h f).sram = s.sram ∧ (s.setFrame h f).fuses = s.fuses ∧
    (s.setFrame h f).evt = s.evt ∧ (s.setFrame h f).struct = s.struct ∧ (s.setFrame h f).kcp = s.kcp ∧
    (s.setFrame h f).card = s.card ∧ (s.setFrame h f).plank = s.plank ∧ (s.setFrame h f).panel = s.panel ∧
    (s.setFrame h f).afl = s.afl ∧ (s.setFrame h f).links = s.links ∧ (s.setFrame h f).time = s.time ∧
    (s.setFrame h f).mem = s.mem ∧ (s.setFrame h f).xlat = s.xlat ∧ (s.setFrame h f).ingest = s.ingest ∧
    (s.setFrame h f).dec = s.dec ∧ (s.setFrame h f).siz = s.siz ∧ (s.setFrame h f).enc = s.enc ∧
    (s.setFrame h f).fuller = s.fuller ∧ (s.setFrame h f).mode = s.mode ∧ (s.setFrame h f).tap = s.tap ∧
    (s.setFrame h f).out = s.out ∧ (s.setFrame h f).pending = s.pending :=
  ⟨rfl, rfl, rfl, rfl, rfl, rfl, rfl, rfl, rfl, rfl, rfl, rfl, rfl, rfl, rfl, rfl, rfl, rfl, rfl, rfl, rfl, rfl, rfl, rfl,
   rfl, rfl, rfl, rfl, rfl, rfl, rfl, rfl⟩

/-- withPanel changes panel only. -/
@[simp] theorem State.withPanel_only (p : PanelState) :
    (s.withPanel p).pins = s.pins ∧ (s.withPanel p).now = s.now ∧ (s.withPanel p).free = s.free ∧
    (s.withPanel p).regs = s.regs ∧ (s.withPanel p).staged = s.staged ∧ (s.withPanel p).heldLo = s.heldLo ∧
    (s.withPanel p).captured = s.captured ∧ (s.withPanel p).hbm = s.hbm ∧ (s.withPanel p).poison = s.poison ∧
    (s.withPanel p).flash = s.flash ∧ (s.withPanel p).sram = s.sram ∧ (s.withPanel p).fuses = s.fuses ∧
    (s.withPanel p).evt = s.evt ∧ (s.withPanel p).struct = s.struct ∧ (s.withPanel p).kcp = s.kcp ∧
    (s.withPanel p).card = s.card ∧ (s.withPanel p).conf = s.conf ∧ (s.withPanel p).plank = s.plank ∧
    (s.withPanel p).afl = s.afl ∧ (s.withPanel p).links = s.links ∧ (s.withPanel p).time = s.time ∧
    (s.withPanel p).mem = s.mem ∧ (s.withPanel p).xlat = s.xlat ∧ (s.withPanel p).ingest = s.ingest ∧
    (s.withPanel p).dec = s.dec ∧ (s.withPanel p).siz = s.siz ∧ (s.withPanel p).enc = s.enc ∧
    (s.withPanel p).fuller = s.fuller ∧ (s.withPanel p).mode = s.mode ∧ (s.withPanel p).tap = s.tap ∧
    (s.withPanel p).out = s.out ∧ (s.withPanel p).pending = s.pending :=
  ⟨rfl, rfl, rfl, rfl, rfl, rfl, rfl, rfl, rfl, rfl, rfl, rfl, rfl, rfl, rfl, rfl, rfl, rfl, rfl, rfl, rfl, rfl, rfl, rfl,
   rfl, rfl, rfl, rfl, rfl, rfl, rfl, rfl⟩

/-- withOpen changes panel only. -/
@[simp] theorem State.withOpen_only (o : Option OpenFrame) :
    (s.withOpen o).pins = s.pins ∧ (s.withOpen o).now = s.now ∧ (s.withOpen o).free = s.free ∧ (s.withOpen o).regs = s.regs ∧
    (s.withOpen o).staged = s.staged ∧ (s.withOpen o).heldLo = s.heldLo ∧ (s.withOpen o).captured = s.captured ∧
    (s.withOpen o).hbm = s.hbm ∧ (s.withOpen o).poison = s.poison ∧ (s.withOpen o).flash = s.flash ∧
    (s.withOpen o).sram = s.sram ∧ (s.withOpen o).fuses = s.fuses ∧ (s.withOpen o).evt = s.evt ∧
    (s.withOpen o).struct = s.struct ∧ (s.withOpen o).kcp = s.kcp ∧ (s.withOpen o).card = s.card ∧
    (s.withOpen o).conf = s.conf ∧ (s.withOpen o).plank = s.plank ∧ (s.withOpen o).afl = s.afl ∧
    (s.withOpen o).links = s.links ∧ (s.withOpen o).time = s.time ∧ (s.withOpen o).mem = s.mem ∧
    (s.withOpen o).xlat = s.xlat ∧ (s.withOpen o).ingest = s.ingest ∧ (s.withOpen o).dec = s.dec ∧
    (s.withOpen o).siz = s.siz ∧ (s.withOpen o).enc = s.enc ∧ (s.withOpen o).fuller = s.fuller ∧
    (s.withOpen o).mode = s.mode ∧ (s.withOpen o).tap = s.tap ∧ (s.withOpen o).out = s.out ∧
    (s.withOpen o).pending = s.pending :=
  ⟨rfl, rfl, rfl, rfl, rfl, rfl, rfl, rfl, rfl, rfl, rfl, rfl, rfl, rfl, rfl, rfl, rfl, rfl, rfl, rfl, rfl, rfl, rfl, rfl,
   rfl, rfl, rfl, rfl, rfl, rfl, rfl, rfl⟩

/-- setLink changes links only. -/
@[simp] theorem State.setLink_only (n : Nat) (u : LinkUnit) :
    (s.setLink n u).pins = s.pins ∧ (s.setLink n u).now = s.now ∧ (s.setLink n u).free = s.free ∧
    (s.setLink n u).regs = s.regs ∧ (s.setLink n u).staged = s.staged ∧ (s.setLink n u).heldLo = s.heldLo ∧
    (s.setLink n u).captured = s.captured ∧ (s.setLink n u).hbm = s.hbm ∧ (s.setLink n u).poison = s.poison ∧
    (s.setLink n u).flash = s.flash ∧ (s.setLink n u).sram = s.sram ∧ (s.setLink n u).fuses = s.fuses ∧
    (s.setLink n u).evt = s.evt ∧ (s.setLink n u).struct = s.struct ∧ (s.setLink n u).kcp = s.kcp ∧
    (s.setLink n u).card = s.card ∧ (s.setLink n u).conf = s.conf ∧ (s.setLink n u).plank = s.plank ∧
    (s.setLink n u).panel = s.panel ∧ (s.setLink n u).afl = s.afl ∧ (s.setLink n u).time = s.time ∧
    (s.setLink n u).mem = s.mem ∧ (s.setLink n u).xlat = s.xlat ∧ (s.setLink n u).ingest = s.ingest ∧
    (s.setLink n u).dec = s.dec ∧ (s.setLink n u).siz = s.siz ∧ (s.setLink n u).enc = s.enc ∧
    (s.setLink n u).fuller = s.fuller ∧ (s.setLink n u).mode = s.mode ∧ (s.setLink n u).tap = s.tap ∧
    (s.setLink n u).out = s.out ∧ (s.setLink n u).pending = s.pending :=
  ⟨rfl, rfl, rfl, rfl, rfl, rfl, rfl, rfl, rfl, rfl, rfl, rfl, rfl, rfl, rfl, rfl, rfl, rfl, rfl, rfl, rfl, rfl, rfl, rfl,
   rfl, rfl, rfl, rfl, rfl, rfl, rfl, rfl⟩

/-- setTx changes links only. -/
@[simp] theorem State.setTx_only (n : Nat) (t : TxState) :
    (s.setTx n t).pins = s.pins ∧ (s.setTx n t).now = s.now ∧ (s.setTx n t).free = s.free ∧ (s.setTx n t).regs = s.regs ∧
    (s.setTx n t).staged = s.staged ∧ (s.setTx n t).heldLo = s.heldLo ∧ (s.setTx n t).captured = s.captured ∧
    (s.setTx n t).hbm = s.hbm ∧ (s.setTx n t).poison = s.poison ∧ (s.setTx n t).flash = s.flash ∧
    (s.setTx n t).sram = s.sram ∧ (s.setTx n t).fuses = s.fuses ∧ (s.setTx n t).evt = s.evt ∧
    (s.setTx n t).struct = s.struct ∧ (s.setTx n t).kcp = s.kcp ∧ (s.setTx n t).card = s.card ∧ (s.setTx n t).conf = s.conf ∧
    (s.setTx n t).plank = s.plank ∧ (s.setTx n t).panel = s.panel ∧ (s.setTx n t).afl = s.afl ∧ (s.setTx n t).time = s.time ∧
    (s.setTx n t).mem = s.mem ∧ (s.setTx n t).xlat = s.xlat ∧ (s.setTx n t).ingest = s.ingest ∧ (s.setTx n t).dec = s.dec ∧
    (s.setTx n t).siz = s.siz ∧ (s.setTx n t).enc = s.enc ∧ (s.setTx n t).fuller = s.fuller ∧ (s.setTx n t).mode = s.mode ∧
    (s.setTx n t).tap = s.tap ∧ (s.setTx n t).out = s.out ∧ (s.setTx n t).pending = s.pending :=
  ⟨rfl, rfl, rfl, rfl, rfl, rfl, rfl, rfl, rfl, rfl, rfl, rfl, rfl, rfl, rfl, rfl, rfl, rfl, rfl, rfl, rfl, rfl, rfl, rfl,
   rfl, rfl, rfl, rfl, rfl, rfl, rfl, rfl⟩

/-- withNet changes struct only. -/
@[simp] theorem State.withNet_only (n : NetState) :
    (s.withNet n).pins = s.pins ∧ (s.withNet n).now = s.now ∧ (s.withNet n).free = s.free ∧ (s.withNet n).regs = s.regs ∧
    (s.withNet n).staged = s.staged ∧ (s.withNet n).heldLo = s.heldLo ∧ (s.withNet n).captured = s.captured ∧
    (s.withNet n).hbm = s.hbm ∧ (s.withNet n).poison = s.poison ∧ (s.withNet n).flash = s.flash ∧
    (s.withNet n).sram = s.sram ∧ (s.withNet n).fuses = s.fuses ∧ (s.withNet n).evt = s.evt ∧ (s.withNet n).kcp = s.kcp ∧
    (s.withNet n).card = s.card ∧ (s.withNet n).conf = s.conf ∧ (s.withNet n).plank = s.plank ∧
    (s.withNet n).panel = s.panel ∧ (s.withNet n).afl = s.afl ∧ (s.withNet n).links = s.links ∧ (s.withNet n).time = s.time ∧
    (s.withNet n).mem = s.mem ∧ (s.withNet n).xlat = s.xlat ∧ (s.withNet n).ingest = s.ingest ∧ (s.withNet n).dec = s.dec ∧
    (s.withNet n).siz = s.siz ∧ (s.withNet n).enc = s.enc ∧ (s.withNet n).fuller = s.fuller ∧ (s.withNet n).mode = s.mode ∧
    (s.withNet n).tap = s.tap ∧ (s.withNet n).out = s.out ∧ (s.withNet n).pending = s.pending :=
  ⟨rfl, rfl, rfl, rfl, rfl, rfl, rfl, rfl, rfl, rfl, rfl, rfl, rfl, rfl, rfl, rfl, rfl, rfl, rfl, rfl, rfl, rfl, rfl, rfl,
   rfl, rfl, rfl, rfl, rfl, rfl, rfl, rfl⟩

/-- setStream changes ingest only. -/
@[simp] theorem State.setStream_only (st : Nat) (x : StreamState) :
    (s.setStream st x).pins = s.pins ∧ (s.setStream st x).now = s.now ∧ (s.setStream st x).free = s.free ∧
    (s.setStream st x).regs = s.regs ∧ (s.setStream st x).staged = s.staged ∧ (s.setStream st x).heldLo = s.heldLo ∧
    (s.setStream st x).captured = s.captured ∧ (s.setStream st x).hbm = s.hbm ∧ (s.setStream st x).poison = s.poison ∧
    (s.setStream st x).flash = s.flash ∧ (s.setStream st x).sram = s.sram ∧ (s.setStream st x).fuses = s.fuses ∧
    (s.setStream st x).evt = s.evt ∧ (s.setStream st x).struct = s.struct ∧ (s.setStream st x).kcp = s.kcp ∧
    (s.setStream st x).card = s.card ∧ (s.setStream st x).conf = s.conf ∧ (s.setStream st x).plank = s.plank ∧
    (s.setStream st x).panel = s.panel ∧ (s.setStream st x).afl = s.afl ∧ (s.setStream st x).links = s.links ∧
    (s.setStream st x).time = s.time ∧ (s.setStream st x).mem = s.mem ∧ (s.setStream st x).xlat = s.xlat ∧
    (s.setStream st x).dec = s.dec ∧ (s.setStream st x).siz = s.siz ∧ (s.setStream st x).enc = s.enc ∧
    (s.setStream st x).fuller = s.fuller ∧ (s.setStream st x).mode = s.mode ∧ (s.setStream st x).tap = s.tap ∧
    (s.setStream st x).out = s.out ∧ (s.setStream st x).pending = s.pending :=
  ⟨rfl, rfl, rfl, rfl, rfl, rfl, rfl, rfl, rfl, rfl, rfl, rfl, rfl, rfl, rfl, rfl, rfl, rfl, rfl, rfl, rfl, rfl, rfl, rfl,
   rfl, rfl, rfl, rfl, rfl, rfl, rfl, rfl⟩

/-- setPort changes ingest only. -/
@[simp] theorem State.setPort_only (n : Nat) (p : PortState) :
    (s.setPort n p).pins = s.pins ∧ (s.setPort n p).now = s.now ∧ (s.setPort n p).free = s.free ∧
    (s.setPort n p).regs = s.regs ∧ (s.setPort n p).staged = s.staged ∧ (s.setPort n p).heldLo = s.heldLo ∧
    (s.setPort n p).captured = s.captured ∧ (s.setPort n p).hbm = s.hbm ∧ (s.setPort n p).poison = s.poison ∧
    (s.setPort n p).flash = s.flash ∧ (s.setPort n p).sram = s.sram ∧ (s.setPort n p).fuses = s.fuses ∧
    (s.setPort n p).evt = s.evt ∧ (s.setPort n p).struct = s.struct ∧ (s.setPort n p).kcp = s.kcp ∧
    (s.setPort n p).card = s.card ∧ (s.setPort n p).conf = s.conf ∧ (s.setPort n p).plank = s.plank ∧
    (s.setPort n p).panel = s.panel ∧ (s.setPort n p).afl = s.afl ∧ (s.setPort n p).links = s.links ∧
    (s.setPort n p).time = s.time ∧ (s.setPort n p).mem = s.mem ∧ (s.setPort n p).xlat = s.xlat ∧
    (s.setPort n p).dec = s.dec ∧ (s.setPort n p).siz = s.siz ∧ (s.setPort n p).enc = s.enc ∧
    (s.setPort n p).fuller = s.fuller ∧ (s.setPort n p).mode = s.mode ∧ (s.setPort n p).tap = s.tap ∧
    (s.setPort n p).out = s.out ∧ (s.setPort n p).pending = s.pending :=
  ⟨rfl, rfl, rfl, rfl, rfl, rfl, rfl, rfl, rfl, rfl, rfl, rfl, rfl, rfl, rfl, rfl, rfl, rfl, rfl, rfl, rfl, rfl, rfl, rfl,
   rfl, rfl, rfl, rfl, rfl, rfl, rfl, rfl⟩

/-- setBlock changes struct only. -/
@[simp] theorem State.setBlock_only (k : Nat) (b : BlockState) :
    (s.setBlock k b).pins = s.pins ∧ (s.setBlock k b).now = s.now ∧ (s.setBlock k b).free = s.free ∧
    (s.setBlock k b).regs = s.regs ∧ (s.setBlock k b).staged = s.staged ∧ (s.setBlock k b).heldLo = s.heldLo ∧
    (s.setBlock k b).captured = s.captured ∧ (s.setBlock k b).hbm = s.hbm ∧ (s.setBlock k b).poison = s.poison ∧
    (s.setBlock k b).flash = s.flash ∧ (s.setBlock k b).sram = s.sram ∧ (s.setBlock k b).fuses = s.fuses ∧
    (s.setBlock k b).evt = s.evt ∧ (s.setBlock k b).kcp = s.kcp ∧ (s.setBlock k b).card = s.card ∧
    (s.setBlock k b).conf = s.conf ∧ (s.setBlock k b).plank = s.plank ∧ (s.setBlock k b).panel = s.panel ∧
    (s.setBlock k b).afl = s.afl ∧ (s.setBlock k b).links = s.links ∧ (s.setBlock k b).time = s.time ∧
    (s.setBlock k b).mem = s.mem ∧ (s.setBlock k b).xlat = s.xlat ∧ (s.setBlock k b).ingest = s.ingest ∧
    (s.setBlock k b).dec = s.dec ∧ (s.setBlock k b).siz = s.siz ∧ (s.setBlock k b).enc = s.enc ∧
    (s.setBlock k b).fuller = s.fuller ∧ (s.setBlock k b).mode = s.mode ∧ (s.setBlock k b).tap = s.tap ∧
    (s.setBlock k b).out = s.out ∧ (s.setBlock k b).pending = s.pending :=
  ⟨rfl, rfl, rfl, rfl, rfl, rfl, rfl, rfl, rfl, rfl, rfl, rfl, rfl, rfl, rfl, rfl, rfl, rfl, rfl, rfl, rfl, rfl, rfl, rfl,
   rfl, rfl, rfl, rfl, rfl, rfl, rfl, rfl⟩

/-- setDctx changes dec only. -/
@[simp] theorem State.setDctx_only (c : Nat) (x : DecCtx) :
    (s.setDctx c x).pins = s.pins ∧ (s.setDctx c x).now = s.now ∧ (s.setDctx c x).free = s.free ∧
    (s.setDctx c x).regs = s.regs ∧ (s.setDctx c x).staged = s.staged ∧ (s.setDctx c x).heldLo = s.heldLo ∧
    (s.setDctx c x).captured = s.captured ∧ (s.setDctx c x).hbm = s.hbm ∧ (s.setDctx c x).poison = s.poison ∧
    (s.setDctx c x).flash = s.flash ∧ (s.setDctx c x).sram = s.sram ∧ (s.setDctx c x).fuses = s.fuses ∧
    (s.setDctx c x).evt = s.evt ∧ (s.setDctx c x).struct = s.struct ∧ (s.setDctx c x).kcp = s.kcp ∧
    (s.setDctx c x).card = s.card ∧ (s.setDctx c x).conf = s.conf ∧ (s.setDctx c x).plank = s.plank ∧
    (s.setDctx c x).panel = s.panel ∧ (s.setDctx c x).afl = s.afl ∧ (s.setDctx c x).links = s.links ∧
    (s.setDctx c x).time = s.time ∧ (s.setDctx c x).mem = s.mem ∧ (s.setDctx c x).xlat = s.xlat ∧
    (s.setDctx c x).ingest = s.ingest ∧ (s.setDctx c x).siz = s.siz ∧ (s.setDctx c x).enc = s.enc ∧
    (s.setDctx c x).fuller = s.fuller ∧ (s.setDctx c x).mode = s.mode ∧ (s.setDctx c x).tap = s.tap ∧
    (s.setDctx c x).out = s.out ∧ (s.setDctx c x).pending = s.pending :=
  ⟨rfl, rfl, rfl, rfl, rfl, rfl, rfl, rfl, rfl, rfl, rfl, rfl, rfl, rfl, rfl, rfl, rfl, rfl, rfl, rfl, rfl, rfl, rfl, rfl,
   rfl, rfl, rfl, rfl, rfl, rfl, rfl, rfl⟩

/-- setLease changes xlat only. -/
@[simp] theorem State.setLease_only (e : Nat) (l : Lease) :
    (s.setLease e l).pins = s.pins ∧ (s.setLease e l).now = s.now ∧ (s.setLease e l).free = s.free ∧
    (s.setLease e l).regs = s.regs ∧ (s.setLease e l).staged = s.staged ∧ (s.setLease e l).heldLo = s.heldLo ∧
    (s.setLease e l).captured = s.captured ∧ (s.setLease e l).hbm = s.hbm ∧ (s.setLease e l).poison = s.poison ∧
    (s.setLease e l).flash = s.flash ∧ (s.setLease e l).sram = s.sram ∧ (s.setLease e l).fuses = s.fuses ∧
    (s.setLease e l).evt = s.evt ∧ (s.setLease e l).struct = s.struct ∧ (s.setLease e l).kcp = s.kcp ∧
    (s.setLease e l).card = s.card ∧ (s.setLease e l).conf = s.conf ∧ (s.setLease e l).plank = s.plank ∧
    (s.setLease e l).panel = s.panel ∧ (s.setLease e l).afl = s.afl ∧ (s.setLease e l).links = s.links ∧
    (s.setLease e l).time = s.time ∧ (s.setLease e l).mem = s.mem ∧ (s.setLease e l).ingest = s.ingest ∧
    (s.setLease e l).dec = s.dec ∧ (s.setLease e l).siz = s.siz ∧ (s.setLease e l).enc = s.enc ∧
    (s.setLease e l).fuller = s.fuller ∧ (s.setLease e l).mode = s.mode ∧ (s.setLease e l).tap = s.tap ∧
    (s.setLease e l).out = s.out ∧ (s.setLease e l).pending = s.pending :=
  ⟨rfl, rfl, rfl, rfl, rfl, rfl, rfl, rfl, rfl, rfl, rfl, rfl, rfl, rfl, rfl, rfl, rfl, rfl, rfl, rfl, rfl, rfl, rfl, rfl,
   rfl, rfl, rfl, rfl, rfl, rfl, rfl, rfl⟩

/-- setPc changes mem only. -/
@[simp] theorem State.setPc_only (p : Nat) (x : PcState) :
    (s.setPc p x).pins = s.pins ∧ (s.setPc p x).now = s.now ∧ (s.setPc p x).free = s.free ∧ (s.setPc p x).regs = s.regs ∧
    (s.setPc p x).staged = s.staged ∧ (s.setPc p x).heldLo = s.heldLo ∧ (s.setPc p x).captured = s.captured ∧
    (s.setPc p x).hbm = s.hbm ∧ (s.setPc p x).poison = s.poison ∧ (s.setPc p x).flash = s.flash ∧
    (s.setPc p x).sram = s.sram ∧ (s.setPc p x).fuses = s.fuses ∧ (s.setPc p x).evt = s.evt ∧
    (s.setPc p x).struct = s.struct ∧ (s.setPc p x).kcp = s.kcp ∧ (s.setPc p x).card = s.card ∧ (s.setPc p x).conf = s.conf ∧
    (s.setPc p x).plank = s.plank ∧ (s.setPc p x).panel = s.panel ∧ (s.setPc p x).afl = s.afl ∧
    (s.setPc p x).links = s.links ∧ (s.setPc p x).time = s.time ∧ (s.setPc p x).xlat = s.xlat ∧
    (s.setPc p x).ingest = s.ingest ∧ (s.setPc p x).dec = s.dec ∧ (s.setPc p x).siz = s.siz ∧ (s.setPc p x).enc = s.enc ∧
    (s.setPc p x).fuller = s.fuller ∧ (s.setPc p x).mode = s.mode ∧ (s.setPc p x).tap = s.tap ∧ (s.setPc p x).out = s.out ∧
    (s.setPc p x).pending = s.pending :=
  ⟨rfl, rfl, rfl, rfl, rfl, rfl, rfl, rfl, rfl, rfl, rfl, rfl, rfl, rfl, rfl, rfl, rfl, rfl, rfl, rfl, rfl, rfl, rfl, rfl,
   rfl, rfl, rfl, rfl, rfl, rfl, rfl, rfl⟩

/-- setStack changes mem only. -/
@[simp] theorem State.setStack_only (k : Nat) (x : StackState) :
    (s.setStack k x).pins = s.pins ∧ (s.setStack k x).now = s.now ∧ (s.setStack k x).free = s.free ∧
    (s.setStack k x).regs = s.regs ∧ (s.setStack k x).staged = s.staged ∧ (s.setStack k x).heldLo = s.heldLo ∧
    (s.setStack k x).captured = s.captured ∧ (s.setStack k x).hbm = s.hbm ∧ (s.setStack k x).poison = s.poison ∧
    (s.setStack k x).flash = s.flash ∧ (s.setStack k x).sram = s.sram ∧ (s.setStack k x).fuses = s.fuses ∧
    (s.setStack k x).evt = s.evt ∧ (s.setStack k x).struct = s.struct ∧ (s.setStack k x).kcp = s.kcp ∧
    (s.setStack k x).card = s.card ∧ (s.setStack k x).conf = s.conf ∧ (s.setStack k x).plank = s.plank ∧
    (s.setStack k x).panel = s.panel ∧ (s.setStack k x).afl = s.afl ∧ (s.setStack k x).links = s.links ∧
    (s.setStack k x).time = s.time ∧ (s.setStack k x).xlat = s.xlat ∧ (s.setStack k x).ingest = s.ingest ∧
    (s.setStack k x).dec = s.dec ∧ (s.setStack k x).siz = s.siz ∧ (s.setStack k x).enc = s.enc ∧
    (s.setStack k x).fuller = s.fuller ∧ (s.setStack k x).mode = s.mode ∧ (s.setStack k x).tap = s.tap ∧
    (s.setStack k x).out = s.out ∧ (s.setStack k x).pending = s.pending :=
  ⟨rfl, rfl, rfl, rfl, rfl, rfl, rfl, rfl, rfl, rfl, rfl, rfl, rfl, rfl, rfl, rfl, rfl, rfl, rfl, rfl, rfl, rfl, rfl, rfl,
   rfl, rfl, rfl, rfl, rfl, rfl, rfl, rfl⟩

/-- setFulJob changes fuller only. -/
@[simp] theorem State.setFulJob_only (n : Nat) (j : Option FulJob) :
    (s.setFulJob n j).pins = s.pins ∧ (s.setFulJob n j).now = s.now ∧ (s.setFulJob n j).free = s.free ∧
    (s.setFulJob n j).regs = s.regs ∧ (s.setFulJob n j).staged = s.staged ∧ (s.setFulJob n j).heldLo = s.heldLo ∧
    (s.setFulJob n j).captured = s.captured ∧ (s.setFulJob n j).hbm = s.hbm ∧ (s.setFulJob n j).poison = s.poison ∧
    (s.setFulJob n j).flash = s.flash ∧ (s.setFulJob n j).sram = s.sram ∧ (s.setFulJob n j).fuses = s.fuses ∧
    (s.setFulJob n j).evt = s.evt ∧ (s.setFulJob n j).struct = s.struct ∧ (s.setFulJob n j).kcp = s.kcp ∧
    (s.setFulJob n j).card = s.card ∧ (s.setFulJob n j).conf = s.conf ∧ (s.setFulJob n j).plank = s.plank ∧
    (s.setFulJob n j).panel = s.panel ∧ (s.setFulJob n j).afl = s.afl ∧ (s.setFulJob n j).links = s.links ∧
    (s.setFulJob n j).time = s.time ∧ (s.setFulJob n j).mem = s.mem ∧ (s.setFulJob n j).xlat = s.xlat ∧
    (s.setFulJob n j).ingest = s.ingest ∧ (s.setFulJob n j).dec = s.dec ∧ (s.setFulJob n j).siz = s.siz ∧
    (s.setFulJob n j).enc = s.enc ∧ (s.setFulJob n j).mode = s.mode ∧ (s.setFulJob n j).tap = s.tap ∧
    (s.setFulJob n j).out = s.out ∧ (s.setFulJob n j).pending = s.pending :=
  ⟨rfl, rfl, rfl, rfl, rfl, rfl, rfl, rfl, rfl, rfl, rfl, rfl, rfl, rfl, rfl, rfl, rfl, rfl, rfl, rfl, rfl, rfl, rfl, rfl,
   rfl, rfl, rfl, rfl, rfl, rfl, rfl, rfl⟩

/-- withTime changes time only. -/
@[simp] theorem State.withTime_only (t : TimeState) :
    (s.withTime t).pins = s.pins ∧ (s.withTime t).now = s.now ∧ (s.withTime t).free = s.free ∧ (s.withTime t).regs = s.regs ∧
    (s.withTime t).staged = s.staged ∧ (s.withTime t).heldLo = s.heldLo ∧ (s.withTime t).captured = s.captured ∧
    (s.withTime t).hbm = s.hbm ∧ (s.withTime t).poison = s.poison ∧ (s.withTime t).flash = s.flash ∧
    (s.withTime t).sram = s.sram ∧ (s.withTime t).fuses = s.fuses ∧ (s.withTime t).evt = s.evt ∧
    (s.withTime t).struct = s.struct ∧ (s.withTime t).kcp = s.kcp ∧ (s.withTime t).card = s.card ∧
    (s.withTime t).conf = s.conf ∧ (s.withTime t).plank = s.plank ∧ (s.withTime t).panel = s.panel ∧
    (s.withTime t).afl = s.afl ∧ (s.withTime t).links = s.links ∧ (s.withTime t).mem = s.mem ∧ (s.withTime t).xlat = s.xlat ∧
    (s.withTime t).ingest = s.ingest ∧ (s.withTime t).dec = s.dec ∧ (s.withTime t).siz = s.siz ∧ (s.withTime t).enc = s.enc ∧
    (s.withTime t).fuller = s.fuller ∧ (s.withTime t).mode = s.mode ∧ (s.withTime t).tap = s.tap ∧
    (s.withTime t).out = s.out ∧ (s.withTime t).pending = s.pending :=
  ⟨rfl, rfl, rfl, rfl, rfl, rfl, rfl, rfl, rfl, rfl, rfl, rfl, rfl, rfl, rfl, rfl, rfl, rfl, rfl, rfl, rfl, rfl, rfl, rfl,
   rfl, rfl, rfl, rfl, rfl, rfl, rfl, rfl⟩

/-- withEnc changes enc only. -/
@[simp] theorem State.withEnc_only (e : EncState) :
    (s.withEnc e).pins = s.pins ∧ (s.withEnc e).now = s.now ∧ (s.withEnc e).free = s.free ∧ (s.withEnc e).regs = s.regs ∧
    (s.withEnc e).staged = s.staged ∧ (s.withEnc e).heldLo = s.heldLo ∧ (s.withEnc e).captured = s.captured ∧
    (s.withEnc e).hbm = s.hbm ∧ (s.withEnc e).poison = s.poison ∧ (s.withEnc e).flash = s.flash ∧
    (s.withEnc e).sram = s.sram ∧ (s.withEnc e).fuses = s.fuses ∧ (s.withEnc e).evt = s.evt ∧
    (s.withEnc e).struct = s.struct ∧ (s.withEnc e).kcp = s.kcp ∧ (s.withEnc e).card = s.card ∧ (s.withEnc e).conf = s.conf ∧
    (s.withEnc e).plank = s.plank ∧ (s.withEnc e).panel = s.panel ∧ (s.withEnc e).afl = s.afl ∧
    (s.withEnc e).links = s.links ∧ (s.withEnc e).time = s.time ∧ (s.withEnc e).mem = s.mem ∧ (s.withEnc e).xlat = s.xlat ∧
    (s.withEnc e).ingest = s.ingest ∧ (s.withEnc e).dec = s.dec ∧ (s.withEnc e).siz = s.siz ∧
    (s.withEnc e).fuller = s.fuller ∧ (s.withEnc e).mode = s.mode ∧ (s.withEnc e).tap = s.tap ∧ (s.withEnc e).out = s.out ∧
    (s.withEnc e).pending = s.pending :=
  ⟨rfl, rfl, rfl, rfl, rfl, rfl, rfl, rfl, rfl, rfl, rfl, rfl, rfl, rfl, rfl, rfl, rfl, rfl, rfl, rfl, rfl, rfl, rfl, rfl,
   rfl, rfl, rfl, rfl, rfl, rfl, rfl, rfl⟩

/-- withSiz changes siz only. -/
@[simp] theorem State.withSiz_only (x : SizState) :
    (s.withSiz x).pins = s.pins ∧ (s.withSiz x).now = s.now ∧ (s.withSiz x).free = s.free ∧ (s.withSiz x).regs = s.regs ∧
    (s.withSiz x).staged = s.staged ∧ (s.withSiz x).heldLo = s.heldLo ∧ (s.withSiz x).captured = s.captured ∧
    (s.withSiz x).hbm = s.hbm ∧ (s.withSiz x).poison = s.poison ∧ (s.withSiz x).flash = s.flash ∧
    (s.withSiz x).sram = s.sram ∧ (s.withSiz x).fuses = s.fuses ∧ (s.withSiz x).evt = s.evt ∧
    (s.withSiz x).struct = s.struct ∧ (s.withSiz x).kcp = s.kcp ∧ (s.withSiz x).card = s.card ∧ (s.withSiz x).conf = s.conf ∧
    (s.withSiz x).plank = s.plank ∧ (s.withSiz x).panel = s.panel ∧ (s.withSiz x).afl = s.afl ∧
    (s.withSiz x).links = s.links ∧ (s.withSiz x).time = s.time ∧ (s.withSiz x).mem = s.mem ∧ (s.withSiz x).xlat = s.xlat ∧
    (s.withSiz x).ingest = s.ingest ∧ (s.withSiz x).dec = s.dec ∧ (s.withSiz x).enc = s.enc ∧
    (s.withSiz x).fuller = s.fuller ∧ (s.withSiz x).mode = s.mode ∧ (s.withSiz x).tap = s.tap ∧ (s.withSiz x).out = s.out ∧
    (s.withSiz x).pending = s.pending :=
  ⟨rfl, rfl, rfl, rfl, rfl, rfl, rfl, rfl, rfl, rfl, rfl, rfl, rfl, rfl, rfl, rfl, rfl, rfl, rfl, rfl, rfl, rfl, rfl, rfl,
   rfl, rfl, rfl, rfl, rfl, rfl, rfl, rfl⟩

end Sys2Proof.Machine
end

