-- ==== Sys2Proof/Laws/Traffic.lean ====
section
/-! SUPPORT. Everything that what runs beside the commands can do: frames that leave a port, the network of the chip, the lanes
of a link, and the passing of a nanosecond. -/

namespace Sys2Proof.Machine

/-- A property of states that each step of a fold keeps holds after it. -/
theorem foldl_keeps {α β : Type} (p : β → Prop) (f : β → α → β) (l : List α) {b : β} (hb : p b)
    (h : ∀ b a, p b → p (f b a)) : p (l.foldl f b) := by
  induction l generalizing b with
  | nil => exact hb
  | cons a l ih => exact ih (h b a hb)

/-- What a frame that leaves a port, now or once its priority is paused no longer, can change. -/
def OnPorts (s t : State) : Prop := t = { s with ingest := t.ingest, out := t.out }

theorem OnPorts.rfl {s : State} : OnPorts s s := Eq.refl _

theorem OnPorts.trans {s t u : State} (h : OnPorts s t) (k : OnPorts t u) : OnPorts s u := by
  unfold OnPorts at *
  rw [h] at k
  exact k

/-- A frame leaves at once where nothing waits on its port and its priority is not paused, and waits at the port otherwise. -/
theorem sendOn_cases (n : Nat) (o : Output) (s : State) :
    sendOn n o s = s.emit o ∨ sendOn n o s = s.setPort n { s.port n with waiting := (s.port n).waiting ++ [o] } := by
  unfold sendOn
  split
  · exact .inl rfl
  · exact .inr rfl

theorem sendOn_onPorts (n : Nat) (o : Output) (s : State) : OnPorts s (sendOn n o s) := by
  obtain h | h := sendOn_cases n o s <;> rw [h] <;> exact Eq.refl _

theorem flushPort_onPorts (n : Nat) (s : State) : OnPorts s (flushPort n s) := by
  unfold flushPort
  split <;> exact Eq.refl _

/-- The frame generator of a port only sends. -/
theorem loopSend_onPorts (n before : Nat) (s : State) : OnPorts s (loopSend n before s) := by
  unfold loopSend
  split
  · exact .rfl
  · exact foldl_keeps (fun (t : State) => OnPorts s t) _ _ .rfl fun t k h => h.trans (Eq.refl _)

/-- What the network can change: what it carries. -/
def OnNet (s t : State) : Prop := t = s.withNet t.struct.net

theorem OnNet.rfl {s : State} : OnNet s s := Eq.refl _

theorem OnNet.trans {s t u : State} (h : OnNet s t) (k : OnNet t u) : OnNet s u := by
  unfold OnNet at *
  rw [h] at k
  exact k

theorem channelServe_onNet (dst vc : Nat) (s : State) : OnNet s (channelServe dst vc s) := by
  unfold channelServe
  simp only
  split
  · exact .rfl
  · split <;> exact Eq.refl _

theorem endpointServe_onNet (s : State) (dst : Nat) : OnNet s (endpointServe s dst) := by
  unfold endpointServe
  split
  · exact Eq.refl _
  · exact foldl_keeps (OnNet s) _ _ .rfl fun t vc h => h.trans (channelServe_onNet dst vc t)

theorem routerServe_onNet (n : Nat) (s : State) : OnNet s (routerServe n s) := by
  unfold routerServe
  simp only
  split
  · exact .rfl
  · split <;> exact Eq.refl _

/-- The network only moves what it carries. -/
theorem netTick_onNet (s : State) : OnNet s (netTick s) := by
  unfold netTick
  split
  · exact .rfl
  · exact foldl_keeps (OnNet s) _ _ (foldl_keeps (OnNet s) _ _ .rfl fun t n h => h.trans (routerServe_onNet n t))
      fun t dst h => h.trans (endpointServe_onNet t dst)

/-- A nanosecond changes time, the network, and what the ports send. -/
theorem tick_only (s : State) :
    tick s = { s with now := (tick s).now, time := (tick s).time, struct := (tick s).struct, ingest := (tick s).ingest
                      out := (tick s).out } := by
  unfold tick
  simp only
  split
  · rfl
  · refine foldl_keeps (fun (t : State) =>
      t = { s with now := t.now, time := t.time, struct := t.struct, ingest := t.ingest, out := t.out }) _ _ ?_ fun t n h => ?_
    · rw [netTick_onNet { s with now := _, time := _ }]; rfl
    · rw [(flushPort_onPorts n t).trans (loopSend_onPorts n _ _), h]

/-- Lanes that are laid change the transmitter of their link, and no other link. -/
theorem layTo_cases (n limit : Nat) (s : State) :
    layTo n limit s = s ∨ ∃ t runs, layTo n limit s = (s.setTx n t).emit (.lanes n (s.link n).tx.slot (s.link n).tx.rd runs) := by
  unfold layTo
  simp only
  split
  · exact .inl rfl
  · exact .inr ⟨_, _, rfl⟩

theorem layTo_link (n limit m : Nat) (s : State) (h : m ≠ n) : (layTo n limit s).link m = s.link m := by
  obtain e | ⟨t, runs, e⟩ := layTo_cases n limit s <;> rw [e]
  show tabGet {} (tabPut {} s.links n { s.link n with tx := t }) m = tabGet {} s.links m
  rw [tabGet_tabPut, if_neg h.symm]

end Sys2Proof.Machine
end

