-- ==== Sys2Proof/WellFormed.lean ====
section
/-! DEFINITION. Well-formed commands: operands within the widths that their carriers give them. A command that is not
well formed spells nothing that can reach the Q9; exec is total on it all the same. -/

namespace Sys2Proof

/-- An IP address fits its width. -/
def IpAddr.wf : IpAddr → Bool
  | .v4 a => decide (a < 2 ^ 32)
  | .v6 a => decide (a < 2 ^ 128)

/-- The fields of a KCP header fit their widths (spec/03_control_kcp.md R99). -/
def KcpDatagram.wf (d : KcpDatagram) : Bool :=
  d.dst.wf && decide (d.magic < 2 ^ 16) && decide (d.version < 256) && decide (d.sessionId < 2 ^ 32) &&
  decide (d.seq < 2 ^ 32) && decide (d.flags < 2 ^ 16) && decide (d.status < 2 ^ 16) &&
  decide (d.payloadLength < 2 ^ 32) && decide (d.reserved < 2 ^ 32) && decide (d.udpLength < 2 ^ 16)

/-- A request that comes over KCP carries a well-formed datagram. -/
def Source.wf : Source → Bool
  | .kcp d => d.wf
  | .register _ => true

/-- The fields of a PTP header fit their widths (spec/11_time_presentation.md R362). -/
def PtpHeader.wf (h : PtpHeader) : Bool :=
  decide (h.domain < 256) && decide (h.clockId < 2 ^ 64) && decide (h.portNumber < 2 ^ 16) && decide (h.seq < 2 ^ 16) &&
  decide (-128 ≤ h.logInterval ∧ h.logInterval < 128) && decide (h.mac < 2 ^ 48) && decide (h.ip < 2 ^ (if h.ip6 then 128 else 32))

/-- A PTP timestamp: 48-bit seconds and a nanosecond below 10^9. -/
def stampWf (seconds ns : Nat) : Bool := decide (seconds < 2 ^ 48) && decide (ns < 1000000000)

/-- The IP part names one of the four checksum cases. -/
def IpPart.wf : IpPart → Bool
  | .none => true
  | .v4 dst _ _ c => decide (dst < 2 ^ 32) && decide (c ≤ 3)
  | .v6 dst _ _ c => decide (dst < 2 ^ 128) && decide (c ≤ 3)

/-- A VID is 12 bits (spec/04_ethernet_ingest.md R136). -/
def EthFrame.wf (f : EthFrame) : Bool :=
  f.ip.wf && (match f.vid with
    | some v => decide (v < 4096)
    | none => true)

/-- Addresses fit their widths: IPv4 32, IPv6 128, MAC 48 bits (R138). -/
def AddressRequest.wf : AddressRequest → Bool
  | .arp ip4 m => decide (ip4 < 2 ^ 32) && decide (m < 2 ^ 48)
  | .solicitation ip6 m => decide (ip6 < 2 ^ 128) && decide (m < 2 ^ 48)
  | .echo4 ip4 m _ => decide (ip4 < 2 ^ 32) && decide (m < 2 ^ 48)
  | .echo6 ip6 m _ => decide (ip6 < 2 ^ 128) && decide (m < 2 ^ 48)

/-- A datagram's address and UDP port fit their widths, and its bytes a UDP length (R144). -/
def BattDatagram.wf (d : BattDatagram) : Bool := d.dst.wf && decide (d.udpPort < 2 ^ 16) && decide (d.bytes.length < 2 ^ 16)

/-- A layer's nuh_layer_id is 6 bits (spec/05_decode.md R162). -/
def VpsLayer.wf (l : VpsLayer) : Bool := decide (l.id < 64) && l.deps.all (fun d => decide (d < 64))

/-- The content of a parameter set names layers and sets within H.265's widths. -/
def ParamContent.wf : ParamContent → Bool
  | .vps layers _ => layers.all VpsLayer.wf
  | .sps vpsId _ _ _ _ _ _ _ _ chroma _ ctbLog _ _ => decide (vpsId < 16) && decide (chroma ≤ 3) && decide (3 ≤ ctbLog ∧ ctbLog ≤ 6)
  | .pps spsId _ _ _ _ _ => decide (spsId < 16)

/-- A slice's PPS is one of 64 (R173, R187). -/
def SliceNal.wf (n : SliceNal) : Bool := decide (n.ppsId < 64)

/-- A parsed NAL unit is within H.265's widths. -/
def NalBody.wf : NalBody → Bool
  | .none => true
  | .param id content => decide (id < 64) && content.wf
  | .slice n => n.wf
  | .hash method _ => decide (method < 256)

/-- Decoded samples are at most 10 bits (R160). -/
def RowResult.wf (r : RowResult) : Bool := r.samples.all (fun e => decide (e.value < 1024))

/-- A command is well formed. -/
def Instr.wf : Instr → Bool
  | .registerWrite _ width addr _ => [8, 16, 32, 64].contains width && decide (addr < 2 ^ 32)
  | .readLoCapture _ addr => decide (addr < 2 ^ 32)
  | .writeLoHold _ addr _ => decide (addr < 2 ^ 32)
  | .writeHiApply _ addr _ => decide (addr < 2 ^ 32)
  | .rcCounterRead _ addr => decide (addr < 2 ^ 32)
  | .timeNowCapture _ => true
  | .teStampCapture _ => true
  | .geomWordWrite _ _ _ => true
  | .geomArm _ => true
  | .geomDiscard _ => true
  | .cellParityError _ _ => true
  | .workItemWatchdog _ _ => true
  | .workItemDispatch _ => true
  | .blockEccError _ _ _ => true
  | .rgBlkctrlIsolate _ _ _ => true
  | .sramEccError _ _ _ _ _ => true
  | .spareReady _ => true
  | .spareSwapped _ => true
  | .rmSilent _ => true
  | .rbRoleWrite _ _ _ => true
  | .imageLoad _ _ => true
  | .imageValidationDone _ selfTestFails => selfTestFails.all (fun b => decide (b < 64))
  | .hello d => d.wf
  | .auth d => d.wf
  | .kcpRead d => d.wf
  | .kcpWrite d => d.wf
  | .kcpBatch d => d.wf
  | .declare src kind id => src.wf && decide (kind < 16) && decide (id < 256)
  | .bind src kind id => src.wf && decide (kind < 16) && decide (id < 256)
  | .arm src kind id => src.wf && decide (kind < 16) && decide (id < 256)
  | .disarm src kind id _ => src.wf && decide (kind < 16) && decide (id < 256)
  | .unbind src kind id => src.wf && decide (kind < 16) && decide (id < 256)
  | .undeclare src kind id => src.wf && decide (kind < 16) && decide (id < 256)
  | .sync d => d.wf
  | .syncTimeout _ seq => decide (seq < 2 ^ 32)
  | .unknownOpcode d opcode => d.wf && decide (opcode < 256) && !(decide (1 ≤ opcode ∧ opcode ≤ 10))
  | .bulkPut d => d.wf
  | .bulkEnd d => d.wf
  | .bulkGet d => d.wf
  | .bulkTimeout _ transfer => decide (transfer < 2 ^ 32)
  | .sessionOpenTimeout _ => true
  | .sessionIdleTimeout _ => true
  | .seqGapTimeout _ seq => decide (seq < 2 ^ 32)
  | .eventSend _ => true
  | .eventRetransmit _ => true
  | .eventRepeat _ => true
  | .eventAck d => d.wf
  | .ethFrameReceive _ frame => frame.wf
  | .pfcFrameReceive _ mask quanta => decide (mask < 256) && decide (quanta.length = 8) && quanta.all (fun q => decide (q < 65536))
  | .pfcXon _ _ _ => true
  | .addressRequestReply _ request => request.wf
  | .ethLinkUp _ => true
  | .ethLinkDown _ => true
  | .primaryTimeout _ => true
  | .ethCfgWrite _ _ _ => true
  | .ethRoleWrite _ _ _ => true
  | .ethIp6Write _ _ _ => true
  | .battReceive _ datagram => datagram.wf
  | .unitDeadline _ => true
  | .unitRequest _ => true
  | .nalUnitParse _ nal _ => nal.wf
  | .rowTaskDispatch _ => true
  | .rowTaskComplete _ result => result.wf
  | .ctuConceal _ _ _ => true
  | .slotWaitTimeout _ => true
  | .decodeParityError _ => true
  | .hpParityError => true
  | .instantStart _ => true
  | .cardTileComplete _ _ => true
  | .seamWaitTimeout _ => true
  | .mapArm _ => true
  | .mapCheckDone => true
  | .mapDiscard _ => true
  | .colourArm _ => true
  | .colourDiscard _ => true
  | .confStageWrite _ _ => true
  | .rayFrameStart => true
  | .confItemComplete _ _ => true
  | .plankStart _ _ => true
  | .plankAbort _ _ => true
  | .plankBandComplete _ => true
  | .ovFrontWrite _ _ _ => true
  | .linkCfgWrite _ _ _ => true
  | .linkRetrain _ _ => true
  | .idleReceive _ _ _ => true
  | .alignReceive _ _ ordered _ _ => decide (ordered.lane < 256) && decide (ordered.aseq < 256) && decide (ordered.flags < 256)
  | .skipReceive _ inserted deleted => decide (inserted ≤ deleted + 2 ∧ deleted ≤ inserted + 2)
  | .codeGroupError _ _ _ => true
  | .signalDetectRise _ _ => true
  | .signalDetectFall _ _ => true
  | .attemptTimeout _ => true
  | .backoffEnd _ => true
  | .stepEchoTimeout _ => true
  | .silentEnd _ => true
  | .lanePeriodStart _ => true
  | .idleTrainDue _ => true
  | .adaptFreeze _ _ => true
  | .lnkPresetWrite _ _ _ => true
  | .teRisingEdge => true
  | .teFallingEdge => true
  | .teTimeout => true
  | .fenceSample => true
  | .buildDeadline => true
  | .frameBeginSend => true
  | .regionPushStart _ => true
  | .pushUnderrun => true
  | .frameCommitSend => true
  | .statusFrameReceive _ => true
  | .capsFrameReceive _ => true
  | .capQueryRetry => true
  | .panelQuery _ => true
  | .statusLost => true
  | .abortStatusTimeout => true
  | .holdWaitTimeout => true
  | .ptpAnnounceReceive h _ stepsRemoved => h.wf && decide (stepsRemoved < 2 ^ 16)
  | .ptpSyncReceive h _ seconds ns _ => h.wf && stampWf seconds ns
  | .ptpFollowUpReceive h seconds ns _ => h.wf && stampWf seconds ns
  | .ptpDelayRespReceive h clock portNumber seconds ns _ => h.wf && stampWf seconds ns && decide (clock < 2 ^ 64) && decide (portNumber < 2 ^ 16)
  | .delayReqSend => true
  | .announceTimeout => true
  | .ptpManagementReceive h => h.wf
  | .sampleMapBuilt => true
  | .encRowComplete bits bytes => decide (bytes.length = (bits + 7) / 8)
  | .encBattSend => true
  | .aflHelloReceive _ _ _ => true
  | .aflPlanReceive _ _ _ => true
  | .goCommit _ _ _ => true
  | .goDefer _ _ _ => true
  | .goForce _ _ _ => true
  | .aflDoneReceive _ _ _ => true
  | .aflEventReceive _ _ _ => true
  | .aflSeamReceive _ _ _ => true
  | .aflHelloSend => true
  | .aflLossTimeout _ => true
  | .aflGoSend => true
  | .aflEventSend => true
  | .hbmRequest _ write m data => decide (m < 2 * 25769803776) && decide (m % 32 = 0) && decide (data.length = if write then 32 else 0)
  | .hbmReadReturn _ _ => true
  | .hbmRefreshDue _ => true
  | .hbmFreqctlWrite _ _ _ => true
  | .hbmFreqChangeStart _ => true
  | .hbmFreqChangeDone _ => true
  | .xlatRequest _ ca _ _ _ _ => decide (ca < 2 ^ 41)
  | .xlatRelease _ _ => true
  | .forcedReleaseDrained => true
  | .leaseReleaseComplete _ => true
  | .xlatProbe _ _ => true
  | .engineResume _ => true
  | .fullerStart _ _ => true
  | .fullerAbort _ _ => true
  | .fullerBlockDone _ => true
  | .evtClaim _ _ => true
  | .evtDone _ _ => true
  | .evtPendClear _ _ _ => true
  | .evtSwset _ _ => true
  | .evtSwlevel _ _ => true
  | .evtHostWrite _ _ _ => true
  | .holdoffWindowEnd _ => true
  | .errlogEntryWrite => true
  | .errlogRdWrite _ _ => true
  | .modeRequest src _ => src.wf
  | .modeTransitionComplete => true
  | .housekeepingRound readings _ _ => decide (readings.length = 18)
  | .fastSensorRead readings => decide (readings.length = 18)
  | .dvfsChangeDone _ => true
  | .sizingStage _ => true
  | .sizingWrite _ => true
  | .sizingDiscard _ => true
  | .sizingStageDone => true
  | .sizingWriteDone _ => true
  | .ethLoopWrite _ _ _ => true
  | .ethLoopTimeout _ => true
  | .lnkLoopWrite _ _ _ => true
  | .hbmPhyLoopback _ _ => true
  | .hbmCtrlLoopback _ _ => true
  | .hbmMbist _ _ => true
  | .hbmMbistDone _ _ => true
  | .decSelftestStart _ _ => true
  | .decSelftestDone _ _ => true
  | .resetAssert _ => true
  | .resetRelease _ _ _ _ _ _ => true
  | .refclkSysLoss => true
  | .refclkSysReturn _ _ _ _ _ _ => true
  | .alignMissing _ _ => true
  | .trainingPhaseEnd _ => true
  | .refclkLaneLoss => true
  | .hbmWriteWaitExpiry _ => true
  | .testPatternReceive _ _ _ => true
  | .hbmLoopbackTestDone _ _ => true
  | .powerDomainUp _ => true
  | .ccRestart _ => true
  | .controlCoreMemoryError => true
  | .tapOperation _ => true

end Sys2Proof
end

