-- ==== Sys2Proof/Tests/Slice0.lean ====
section
/-! SUPPORT. Tests: ill-formed commands that the checks refuse, commands run once, and for every statement inputs that meet the
hypotheses of each of its clauses. -/

namespace Sys2Proof.Tests

open Sys2Proof.Machine

set_option Elab.async false

/-! ## Ill-formed commands are refused -/

/-- A datagram whose fields fit. -/
def okDatagram : KcpDatagram := ⟨0, .v4 0, 0, 0, 0, 0, 0, 0, 0, 0, 0, 0, [], []⟩

/-- A PTP header whose fields fit. -/
def okPtp : PtpHeader := ⟨0, false, 0, 0, 0, 0, 127, 0, 0⟩

/-- A frame whose parts fit. -/
def okFrame : EthFrame := ⟨64, true, false, some 4095, 0, false, .v4 0 false false 3, 0⟩

/-- A datagram whose address, port and length fit. -/
def okBatt : BattDatagram := ⟨.v6 0, 65535, []⟩

/-- A slice whose PPS fits. -/
def okSlice : SliceNal := ⟨63, false, 0, 0, [], [], []⟩

/-- A sequence parameter set with a VPS, a chroma format and a CTB size. -/
def anSps (vps chroma ctbLog : Nat) : ParamContent := .sps vps 2 153 64 64 0 0 64 64 chroma 8 ctbLog false 0

/-- A picture parameter set of a sequence parameter set. -/
def aPps (sps : Nat) : ParamContent := .pps sps false false [] [] 0

theorem test_wf_datagram_fields :
    [{ okDatagram with dst := .v4 (2 ^ 32) }, { okDatagram with dst := .v6 (2 ^ 128) }, { okDatagram with magic := 2 ^ 16 }, { okDatagram with version := 256 }, { okDatagram with sessionId := 2 ^ 32 },
      { okDatagram with seq := 2 ^ 32 }, { okDatagram with flags := 2 ^ 16 }, { okDatagram with status := 2 ^ 16 },
      { okDatagram with payloadLength := 2 ^ 32 }, { okDatagram with reserved := 2 ^ 32 },
      { okDatagram with udpLength := 2 ^ 16 }].all (fun d => !(Instr.kcpRead d).wf && !(Instr.modeRequest (.kcp d) 5).wf) = true ∧
    (Instr.kcpRead okDatagram).wf = true := by decide

theorem test_wf_register_operands :
    [Instr.registerWrite .firmware 24 0 0, .registerWrite .firmware 32 (2 ^ 32) 0, .readLoCapture .firmware (2 ^ 32),
      .writeLoHold .firmware (2 ^ 32) 0, .writeHiApply .firmware (2 ^ 32) 0, .rcCounterRead .firmware (2 ^ 32)].all (fun i => !i.wf) = true ∧
    (Instr.registerWrite .firmware 8 (2 ^ 32 - 1) 0).wf = true := by decide

theorem test_wf_request_operands :
    [Instr.declare (.register .firmware) 16 0, .bind (.register .firmware) 1 256, .unknownOpcode okDatagram 1,
      .unknownOpcode okDatagram 10, .unknownOpcode okDatagram 256, .syncTimeout 0 (2 ^ 32), .bulkTimeout 0 (2 ^ 32),
      .seqGapTimeout 0 (2 ^ 32)].all (fun i => !i.wf) = true ∧
    [Instr.declare (.register .firmware) 15 255, .unknownOpcode okDatagram 11, .unknownOpcode okDatagram 0].all (fun i => i.wf) = true := by
  decide

theorem test_wf_time_messages :
    [{ okPtp with domain := 256 }, { okPtp with clockId := 2 ^ 64 }, { okPtp with portNumber := 2 ^ 16 },
      { okPtp with seq := 2 ^ 16 }, { okPtp with logInterval := 128 }, { okPtp with logInterval := -129 },
      { okPtp with mac := 2 ^ 48 }, { okPtp with ip := 2 ^ 32 }].all
        (fun h => !(Instr.ptpManagementReceive h).wf && !(Instr.ptpAnnounceReceive h [] 0).wf) = true ∧
    [Instr.ptpSyncReceive okPtp false (2 ^ 48) 0 0, .ptpFollowUpReceive okPtp 0 1000000000 0,
      .ptpDelayRespReceive okPtp 0 0 0 1000000000 0, .ptpDelayRespReceive okPtp (2 ^ 64) 0 0 0 0,
      .ptpDelayRespReceive okPtp 0 (2 ^ 16) 0 0 0, .ptpAnnounceReceive okPtp [] (2 ^ 16)].all (fun i => !i.wf) = true ∧
    (Instr.ptpSyncReceive { okPtp with ip6 := true, ip := 2 ^ 32 } false 0 999999999 0).wf = true := by decide

theorem test_wf_frames :
    [Instr.ethFrameReceive 0 { okFrame with vid := some 4096 }, .ethFrameReceive 0 { okFrame with ip := .v4 0 false false 4 },
      .ethFrameReceive 0 { okFrame with ip := .v6 0 false false 4 }, .ethFrameReceive 0 { okFrame with ip := .v4 (2 ^ 32) false false 0 },
      .ethFrameReceive 0 { okFrame with ip := .v6 (2 ^ 128) false false 0 }, .pfcFrameReceive 0 256 (List.replicate 8 0),
      .pfcFrameReceive 0 1 (List.replicate 7 0), .pfcFrameReceive 0 1 (List.replicate 8 65536),
      .addressRequestReply 0 (.arp (2 ^ 32) 0), .addressRequestReply 0 (.arp 0 (2 ^ 48)),
      .addressRequestReply 0 (.solicitation (2 ^ 128) 0), .addressRequestReply 0 (.solicitation 0 (2 ^ 48)),
      .addressRequestReply 0 (.echo4 (2 ^ 32) 0 []), .addressRequestReply 0 (.echo4 0 (2 ^ 48) []),
      .addressRequestReply 0 (.echo6 (2 ^ 128) 0 []), .addressRequestReply 0 (.echo6 0 (2 ^ 48) []),
      .battReceive 0 { okBatt with dst := .v4 (2 ^ 32) }, .battReceive 0 { okBatt with udpPort := 65536 }].all (fun i => !i.wf) = true ∧
    [Instr.ethFrameReceive 0 okFrame, .battReceive 0 okBatt].all (fun i => i.wf) = true := by decide

theorem test_wf_batt_length : (Instr.battReceive 0 { okBatt with bytes := List.replicate 65536 0 }).wf = false := by
  simp only [Instr.wf, BattDatagram.wf, List.length_replicate]; decide

theorem test_wf_decoding :
    [NalBody.param 64 (aPps 0), .param 0 (aPps 16), .param 0 (anSps 16 1 6), .param 0 (anSps 0 4 6), .param 0 (anSps 0 1 7),
      .param 0 (anSps 0 1 2), .param 0 (.vps [⟨64, false, [], []⟩] 0), .param 0 (.vps [⟨0, false, [64], []⟩] 0),
      .slice { okSlice with ppsId := 64 }, .hash 256 []].all (fun b => !(Instr.nalUnitParse 0 b false).wf) = true ∧
    [Instr.rowTaskComplete 0 ⟨none, [⟨0, 0, 0, 1024⟩]⟩].all (fun i => !i.wf) = true ∧
    [Instr.nalUnitParse 0 (.slice okSlice) true, .nalUnitParse 0 (.param 63 (anSps 15 1 6)) false,
      .rowTaskComplete 0 ⟨none, [⟨0, 0, 0, 1023⟩]⟩].all (fun i => i.wf) = true := by decide

theorem test_wf_links_and_memory :
    [Instr.alignReceive 0 0 ⟨256, 0, 0⟩ 0 false, .alignReceive 0 0 ⟨0, 256, 0⟩ 0 false, .alignReceive 0 0 ⟨0, 0, 256⟩ 0 false,
      .skipReceive 0 3 0, .skipReceive 0 0 3, .encRowComplete 9 [0],
      .hbmRequest 0 false (2 * 25769803776) [], .hbmRequest 0 false 31 [], .hbmRequest 0 true 0 [], .hbmRequest 0 false 0 [0],
      .xlatRequest 0 (2 ^ 41) true none 0 0, .imageValidationDone false [64], .housekeepingRound [] 0 0,
      .fastSensorRead (List.replicate 17 none)].all (fun i => !i.wf) = true ∧
    [Instr.skipReceive 0 2 0, .skipReceive 0 0 2, .encRowComplete 9 [0, 0], .hbmRequest 0 true 32 (List.replicate 32 0),
      .imageValidationDone false [63]].all (fun i => i.wf) = true := by decide

/-! ## Worked examples of the spec -/

/-- The RC-144 descriptor of the example in spec/01_ray_space.md, without its CRC. -/
def rc144Words : List Nat :=
  [0x00400001, 0x05A00A00, 0x01000C0C, 0x7800, 0x4380, 0x300, 0x2400, 0xC00, 0x3C, 1, 0, 0, 0, 0, 0]

/-- Its bytes, with the CRC. -/
def rc144Bytes : List Byte :=
  rc144Words.flatMap (fun w => leBytes w 4) ++ leBytes (crc32c (rc144Words.flatMap (fun w => leBytes w 4))) 4

/-- Its fields. -/
def rc144 : Geom := geomOfBytes rc144Bytes

/-- The ray index of hogel (1000, 700), view (5, 9) (spec/01_ray_space.md). -/
theorem test_ray_index_of_rc144 :
    rayCount rc144 = 530841600 ∧ rayIndex rc144 1000 700 5 9 = 258192113 ∧ rayDecompose rc144 258192113 = (1000, 700, 5, 9) := by
  decide +kernel

/-- The descriptor passes with a pool of 3,575 units and fails with one less; four slots need 5,601 (spec/07_conformer.md). -/
theorem test_rc144_descriptor :
    geomCheck rc144Bytes 3575 = 0 ∧ geomCheck rc144Bytes 3574 = 0xD ∧ stagingNeed rc144 4 = 5601 := by decide +kernel

/-- Pixel (12,006, 8,408) shows hogel (1000, 700), view (5, 3), under map entry 0x00F9C0C8FFD80060 (spec/07_conformer.md). -/
theorem test_pixel_of_rc144 :
    subpixelRay rc144 (fun k => if k = 1793000 then 0x00F9C0C8FFD80060 else 0) 12006 8408 0 = .ray 1000 700 5 3 := by decide +kernel

/-- Gain, matrix and rounding of the example's colour, and its link codes (spec/07_conformer.md). -/
theorem test_colour_of_example :
    linearChannels ⟨1, true, true, [0x1080, 0xFF80, 0, 0, 0x1000, 0, 0, 0xFF00, 0x1100], [], []⟩ 0x4400 0x3755 0x3400 0x3000 =
      ([0x37E7, 0x3440, 0x2FF8], 0) ∧
    [linkCode 0 true false 1 0 12006 8408 3052, linkCode 0 true false 1 1 12006 8408 2357, linkCode 0 true false 1 2 12006 8408 1719] =
      [763, 590, 429] := by decide +kernel

/-- The blend of key views 5 and 6 (spec/06_carding.md). -/
theorem test_blend_of_example :
    blendFront [⟨2, ⟨0x3800, 0x3400, 0x3000⟩, 220⟩, ⟨5, ⟨0x3600, 0x3400, 0x3000⟩, 220⟩] = ⟨0x3755, 0x3400, 0x3000⟩ := by decide +kernel

/-- The place of byte 12,871,646,104 (spec/14_hbm_controller.md): channel 11, pseudo-channel 0, SID 1, bank 12. -/
theorem test_memory_place : memPlace 12871646104 = ⟨22, 28, 8183, 12⟩ := by decide +kernel

/-- The block of "FELTFELTFELT", the sizes of its stream and of that of "FELT" (spec/16_fuller.md). -/
theorem test_fuller_felt :
    let felt : List Byte := [0x46, 0x45, 0x4C, 0x54]
    let s := fullerCompress 9 (felt ++ felt ++ felt)
    s.length = 43 ∧ (s.drop 24).take 11 = [0x46, 0x8A, 0x30, 0xA1, 0x22, 0x90, 0xA0, 0x41, 0x2A, 0x01, 0x01] ∧
      (fullerCompress 9 felt).length = 36 := by decide +kernel

/-- K28.5 under both running disparities, D10.2, and the two forms of K27.7 (IEEE 802.3 clause 36). -/
theorem test_line_code :
    [codeGroup false k285, codeGroup true k285, codeGroup false d102, codeGroup true d102, codeGroup false k277, codeGroup true k277] =
      [0b0011111010, 0b1100000101, 0b0101010101, 0b0101010101, 0b1101101000, 0b0010010111] := by decide +kernel

/-- The check value of CRC-32C over "123456789". -/
theorem test_crc32c : crc32c [0x31, 0x32, 0x33, 0x34, 0x35, 0x36, 0x37, 0x38, 0x39] = 0xE3069283 := by decide +kernel

/-- SHA-384 of "abc" (FIPS 180-4). -/
theorem test_sha384 : beNat (sha384 [0x61, 0x62, 0x63]) =
    0xCB00753F45A35E8BB5A03D699AC65007272C32AB0EDED1631A8B605A43FF5BED8086072BA1E7CC2358BAECA134C825A7 := by decide +kernel

/-- HMAC-SHA-256 of "what do ya want for nothing?" under "Jefe" (RFC 4231). -/
theorem test_hmac : beNat (hmacSha256 [0x4A, 0x65, 0x66, 0x65]
    [0x77, 0x68, 0x61, 0x74, 0x20, 0x64, 0x6F, 0x20, 0x79, 0x61, 0x20, 0x77, 0x61, 0x6E, 0x74, 0x20, 0x66, 0x6F, 0x72, 0x20,
      0x6E, 0x6F, 0x74, 0x68, 0x69, 0x6E, 0x67, 0x3F]) = 0x5BDCC146BF60754E6A042426089575C75A003F089D2739839DEC58B964EC3843 := by
  decide +kernel

/-- MD5 of no bytes (RFC 1321). -/
theorem test_md5 : beNat (md5 []) = 0xD41D8CD98F00B204E9800998ECF8427E := by decide +kernel

/-! ## Inputs that the statements below run on -/

/-- The reset state with fields set. -/
def stateWith (l : List (Field × Nat)) : State := l.foldl (fun s e => s.set e.1 e.2) State.reset

/-- The register at an address that is mapped. -/
def regAt (a : Nat) : RegDesc := ((regFind a).map (fun e => e.1)).getD ⟨"", 0, 0, 0, 0, 0, .none, []⟩

/-- An image that holds pools and routes alone. -/
def imageWith (pools : List PoolRec) (routes : List RouteRec) : ImageRec :=
  ⟨1, 1, [], routes, 1, [], [], pools, [], [], [], []⟩

/-- s with an image in force that holds pools alone. -/
def withPools (s : State) (pools : List PoolRec) : State :=
  { s with struct := { s.struct with image := some (imageWith pools []) } }

/-- A datagram of session 7 with SEQ and payload, without its tag. -/
def dgram (seq flags : Nat) (payload : List Byte) : KcpDatagram :=
  ⟨0, .v6 (linkLocal 0), 1, 0x434B, 1, 7, seq, flags, 0, payload.length, 0, 40 + payload.length, payload, []⟩

/-- A datagram with the tag that a session key gives it. -/
def signed (key : List Byte) (opcode : Nat) (d : KcpDatagram) : KcpDatagram := { d with tag := datagramTag key opcode d }

/-- What a datagram that is heard must hold. -/
def heardParts (s : State) (d : KcpDatagram) : Bool :=
  live s && decide (5 ≤ s.pins.bootStep) && s.hasIp d.port.val d.dst && !s.portDeaf d.port.val &&
  decide (∀ m : Nat, m < 8 →
    ¬ (s.sessionState m = 1 ∧ (s.session m).openedAt + 1000000000 ≤ s.now) ∧
    ¬ (s.sessionState m = 2 ∧ (s.session m).lastValid + 1000000000 * s.get F.KCP_IDLE_SECONDS ≤ s.now))

/-- What a datagram of session n must hold apart from its tag. -/
def reachesParts (s : State) (n : Nat) (d : KcpDatagram) : Bool :=
  heardParts s d && decide (n < 8) && s.slotNamed d.sessionId == some n && !malformed (s.session n).maxPayload d && !isResponse d

/-- What the next request of an open session must hold apart from its tag. -/
def nextParts (s : State) (n : Nat) (d : KcpDatagram) : Bool :=
  s.modeNow != 0x1 && s.sessionState n == 2 && d.version == 1 && d.seq == (s.session n).last + 1 &&
  (s.session n).held == [] && (s.session n).syncs == [] && !closesSession d

/-- Registers with fields set and an object in a state; its binding reads as the registers do. -/
def withPath (l : List (Field × Nat)) (kind id k : Nat) : State := (stateWith l).setPath kind id { state := k }

/-- A descriptor of one hogel with two views, on a panel of 2 × 1 pixels at 60 Hz. -/
def geomFields : List (Field × Nat) :=
  [(0, 0x400001), (1, 0x10001), (2, 0x2000102), (3, 2), (4, 1), (6, 4096), (7, 4096), (8, 60), (9, 1)].map
    (fun e => (⟨R.GEOM_W e.1, 31, 0⟩, e.2))


/-- What a frame of Afloth link k must hold to be heard and newer. -/
def aflParts (s : State) (k : Fin 4) (f : List Byte) (x : AflFrame) : Bool :=
  live s && s.tiled && s.linkUp (k.val + 1) && !(s.get F.AFL_TILE_STATUS_WIRING).testBit k.val && decide (aflParse f = some x) &&
  decide (tabGet none s.afl.seen (16 * x.origin + x.type) = none)

/-- The next request of an open session, from its parts. -/
theorem next_of (s : State) (n op : Nat) (d : KcpDatagram) (k : List Byte) (hk : (s.session n).key = k)
    (h : (reachesParts s n (signed k op d) && nextParts s n (signed k op d)) = true) : NextRequest s n op (signed k op d) := by
  subst hk
  simp only [reachesParts, heardParts, nextParts, Bool.and_eq_true, Bool.not_eq_true', decide_eq_true_eq, beq_iff_eq, bne_iff_ne] at h
  obtain ⟨⟨⟨⟨⟨⟨⟨⟨⟨h1, h2⟩, ha⟩, h3⟩, h4⟩, h5⟩, h6⟩, h7⟩, h8⟩, ⟨⟨⟨⟨⟨⟨g1, g2⟩, g3⟩, g4⟩, g5⟩, g6⟩, g7⟩⟩ := h
  exact ⟨⟨⟨h1, h2, ha, h3, h4⟩, h5, h6, h7, h8, rfl⟩, g1, g2, g3, g4, ⟨g5, g6⟩, g7⟩

/-- A request of a session, from its parts. -/
theorem reaches_of (s : State) (n op : Nat) (d : KcpDatagram) (k : List Byte) (hk : (s.session n).key = k)
    (h : reachesParts s n (signed k op d) = true) : ReachesSession s n op (signed k op d) := by
  subst hk
  simp only [reachesParts, heardParts, Bool.and_eq_true, Bool.not_eq_true', decide_eq_true_eq, beq_iff_eq] at h
  obtain ⟨⟨⟨⟨⟨⟨⟨⟨h1, h2⟩, ha⟩, h3⟩, h4⟩, h5⟩, h6⟩, h7⟩, h8⟩ := h
  exact ⟨⟨h1, h2, ha, h3, h4⟩, h5, h6, h7, h8, rfl⟩

/-- A datagram that is heard, from its parts. -/
theorem heard_of (s : State) (d : KcpDatagram) (h : heardParts s d = true) : Heard s d := by
  simp only [heardParts, Bool.and_eq_true, Bool.not_eq_true', decide_eq_true_eq] at h
  exact ⟨h.1.1.1.1, h.1.1.1.2, h.1.1.2, h.1.2, h.2⟩

/-- A frame of an ORIGIN and TYPE not yet seen is heard, from its parts. -/
theorem aflHeard_of (s : State) (k : Fin 4) (f : List Byte) (x : AflFrame) (h : aflParts s k f x = true) : AflHeard s k f x := by
  simp only [aflParts, Bool.and_eq_true, Bool.not_eq_true', decide_eq_true_eq] at h
  obtain ⟨⟨⟨⟨⟨h1, h2⟩, h3⟩, h4⟩, h5⟩, h6⟩ := h
  exact ⟨h1, h2, h3, h4, h5, fun n g => by rw [h6] at g; cases g⟩

/-- A result that is an error satisfies every claim about its value. -/
theorem of_error {α β : Type} (x : Except α β) (p : β → Prop) (h : (match x with | .ok _ => false | .error _ => true) = true) :
    ∀ r, x = .ok r → p r := by
  intro r e; subst e; cases h

/-- A result with a value. -/
theorem eq_ok {α β : Type} [DecidableEq β] (x : Except α β) (b : β)
    (h : (match x with | .ok c => decide (c = b) | .error _ => false) = true) : x = .ok b := by
  cases x <;> simp_all

/-- A result with an error. -/
theorem eq_error {α β : Type} [DecidableEq α] (x : Except α β) (b : α)
    (h : (match x with | .ok _ => false | .error c => decide (c = b)) = true) : x = .error b := by
  cases x <;> simp_all

/-- An optional result with a value. -/
theorem eq_some_ok {α β : Type} [DecidableEq β] (x : Option (Except α β)) (b : β)
    (h : (match x with | some (.ok c) => decide (c = b) | _ => false) = true) : x = some (.ok b) := by
  split at h <;> simp_all

/-- The tag of a datagram that a session has signed. -/
theorem signed_tag (s : State) (n op : Nat) (d : KcpDatagram) (k : List Byte) (hk : (s.session n).key = k) :
    (signed k op d).tag = datagramTag (s.session n).key op (signed k op d) := by
  subst hk; rfl

/-- Time 2 s and 5 ns. -/
def sTime : State := { State.reset with time := { q := 2000000005 * 2 ^ 48 } }
/-- An overlay declared. -/
def sOverlay : State := State.reset.setPath 3 0 { state := 1 }
/-- A command at the front of the queue. -/
def sQueue : State := { State.reset with pending := [.timeNowCapture .firmware] }
/-- A plank engine at work. -/
def sBusyPair : State := stateWith [(F.PLK_STATUS_BUSY 1, 1)]
/-- The confidence output declared. -/
def sOutput : State := State.reset.setPath 5 0 { state := 1 }

/-- The reset state is canonical and steps to a state one nanosecond later. -/
theorem test_witness_StepKeepsCanonical : State.reset.wf = true ∧ ∃ t, step State.reset = .next t ∧ t.now = 1 := by
  refine ⟨by decide +kernel, ?_⟩
  have h : (match step State.reset with | .next t => decide (t.now = 1) | _ => false) = true := by decide +kernel
  split at h
  · next t e => exact ⟨t, e, by simpa using h⟩
  · cases h

/-- A Q9 that is held in reset, and a command that is not one of reset. -/
theorem test_witness_EveryCommandCompletes :
    live { State.reset with pins := { State.reset.pins with inReset := true } } = false ∧ actsHeld .holdWaitTimeout = false := by
  decide +kernel

/-- Inputs for each clause of StepRunsFront meet its hypotheses. -/
theorem test_witness_StepRunsFront :
    (sQueue.pending = [Instr.timeNowCapture Requester.firmware]) :=
  by decide +kernel

/-- Inputs for each clause of IdleStepsCountTime meet its hypotheses. -/
theorem test_witness_IdleStepsCountTime :
    (State.reset.pending = [] ∧ live State.reset = true) :=
  by decide +kernel

/-- Inputs for each clause of BadAccessesRefused meet its hypotheses. -/
theorem test_witness_BadAccessesRefused :
    (Permitted Requester.firmware 32 State.reset ∧ (16 ≠ 32 ∨ 32 % 4 ≠ 0)) ∧
    (Permitted Requester.firmware 34 State.reset ∧ 34 % 4 ≠ 0) ∧
    (live State.reset = true ∧ State.reset.privilege Requester.firmware ≠ 0 ∧ 34 % 4 ≠ 0) ∧
    (4294967292 % 4 = 0 ∧ regFind 4294967292 = none ∧ Permitted Requester.firmware 4294967292 State.reset) ∧
    (4294967292 % 4 = 0 ∧ regFind 4294967292 = none ∧ live State.reset = true ∧ State.reset.privilege Requester.firmware ≠ 0) :=
  by decide +kernel

/-- Inputs for each clause of RegisterWritesAnswer meet its hypotheses. -/
theorem test_witness_RegisterWritesAnswer :
    ((Permitted Requester.firmware 0 State.reset ∧ 0 % 4 = 0 ∧ regFind 0 = some (regAt 0, 0, 0) ∧ State.reset.kcp.shadow = none
      ∧ writableMask (regAt 0) = 0) ∧
    (Permitted Requester.firmware R.KCP_IDLE State.reset ∧ R.KCP_IDLE % 4 = 0 ∧ regFind R.KCP_IDLE = some (regAt R.KCP_IDLE, 0,
      0) ∧ State.reset.kcp.shadow = none ∧ writableMask (regAt R.KCP_IDLE) ≠ 0 ∧ ownWrite Requester.firmware (regAt R.KCP_IDLE)
      0 0 R.KCP_IDLE (60 &&& BitVec.ofNat 32 (writableMask (regAt R.KCP_IDLE))) 60 State.reset = none ∧ (regAt
      R.KCP_IDLE).commit = CommitPoint.immediate ∧ valueBad (regAt R.KCP_IDLE) (BitVec.toNat (60 &&& BitVec.ofNat 32
      (writableMask (regAt R.KCP_IDLE)))) = false) ∧
    (Permitted Requester.firmware (R.OV_PITCH 0) sOverlay ∧ R.OV_PITCH 0 % 4 = 0 ∧ regFind (R.OV_PITCH 0) = some (regAt
      (R.OV_PITCH 0), 0, 0) ∧ sOverlay.kcp.shadow = none ∧ writableMask (regAt (R.OV_PITCH 0)) ≠ 0 ∧ ownWrite Requester.firmware
      (regAt (R.OV_PITCH 0)) 0 0 (R.OV_PITCH 0) (64 &&& BitVec.ofNat 32 (writableMask (regAt (R.OV_PITCH 0)))) 64 sOverlay =
      none ∧ (regAt (R.OV_PITCH 0)).commit ≠ CommitPoint.immediate ∧ sOverlay.stageWindow (regAt (R.OV_PITCH 0)) (R.OV_PITCH 0)
      = true ∧ valueBad (regAt (R.OV_PITCH 0)) (BitVec.toNat (64 &&& BitVec.ofNat 32 (writableMask (regAt (R.OV_PITCH 0))))) =
      false)) ∧
    ((Permitted Requester.firmware (R.OV_PITCH 7) sOverlay ∧ R.OV_PITCH 7 % 4 = 0 ∧ regFind (R.OV_PITCH 7) = some (regAt
      (R.OV_PITCH 7), 7, 0) ∧ sOverlay.kcp.shadow = none ∧ writableMask (regAt (R.OV_PITCH 7)) ≠ 0 ∧ ownWrite Requester.firmware
      (regAt (R.OV_PITCH 7)) 7 0 (R.OV_PITCH 7) (64 &&& BitVec.ofNat 32 (writableMask (regAt (R.OV_PITCH 7)))) 64 sOverlay =
      none ∧ (regAt (R.OV_PITCH 7)).commit ≠ CommitPoint.immediate ∧ sOverlay.stageWindow (regAt (R.OV_PITCH 7)) (R.OV_PITCH 7)
      = false) ∧
    (Permitted Requester.firmware 32 State.reset) ∧
    (State.reset.kcp.shadow = none ∧ State.reset.flag (F.PLK_STATUS_BUSY 1) = false ∧ R.PLK_COLOUR_LO 1 ∈
      [R.PLK_COLOUR_LO 1, R.PLK_BGCOLOUR_LO 1] ∧ Permitted Requester.firmware (R.PLK_COLOUR_LO 1) State.reset) ∧
    (State.reset.kcp.shadow = none ∧ State.reset.flag (F.PLK_STATUS_BUSY 1) = false ∧ R.PLK_BGCOLOUR_LO 1 ∈
      [R.PLK_COLOUR_LO 1, R.PLK_BGCOLOUR_LO 1] ∧ Permitted Requester.firmware (R.PLK_BGCOLOUR_LO 1 + 4) State.reset) ∧
    (sBusyPair.kcp.shadow = none ∧ sBusyPair.flag (F.PLK_STATUS_BUSY 1) = true ∧ R.PLK_COLOUR_LO 1 ∈
      [R.PLK_COLOUR_LO 1, R.PLK_BGCOLOUR_LO 1] ∧ Permitted Requester.firmware (R.PLK_COLOUR_LO 1) sBusyPair)) ∧
    (sBusyPair.kcp.shadow = none ∧ sBusyPair.flag (F.PLK_STATUS_BUSY 1) = true ∧ R.PLK_BGCOLOUR_LO 1 ∈
      [R.PLK_COLOUR_LO 1, R.PLK_BGCOLOUR_LO 1] ∧ Permitted Requester.firmware (R.PLK_BGCOLOUR_LO 1 + 4) sBusyPair) ∧
    (State.reset.kcp.shadow = none ∧ Permitted Requester.firmware R.XLAT_PROBE_LO State.reset) ∧
    (sOutput.kcp.shadow = none ∧ (sOutput.path 5 0).state ≠ 0 ∧ sOutput.armed 5 0 = false ∧ Permitted Requester.firmware
      R.ENC_DST_MAC_LO sOutput) ∧
    (sOutput.kcp.shadow = none ∧ (sOutput.path 5 0).state ≠ 0 ∧ sOutput.armed 5 0 = false ∧ Permitted Requester.firmware
      R.ENC_DST_MAC_HI sOutput) :=
  ⟨by decide +kernel, by decide +kernel, by decide +kernel⟩

/-- Inputs for each clause of RegisterReadsCaptureAndClear meet its hypotheses. -/
theorem test_witness_RegisterReadsCaptureAndClear :
    (live sTime = true ∧ sTime.privilege Requester.firmware ≠ 0) ∧
    (live sTime = true ∧ sTime.privilege Requester.firmware ≠ 0 ∧ R.PLK_COLOUR_LO 0 ∈ pairLows) ∧
    (let x := stateWith [(F.KCP_DISCARD_COUNT, 9)]; live x = true ∧ x.privilege Requester.firmware ≠ 0 ∧ R.KCP_DISCARD % 4 = 0 ∧
      regFind R.KCP_DISCARD = some (regAt R.KCP_DISCARD, 0, 0) ∧ isCaptured R.KCP_DISCARD = false ∧ captures R.KCP_DISCARD = []
      ∧ (regAt R.KCP_DISCARD).base ≠ R.LNK_LANEERR 0 ∧ (regAt R.KCP_DISCARD).base ≠ R.LNK_LANEERR 1) ∧
    (live State.reset = true ∧ State.reset.privilege Requester.firmware ≠ 0 ∧ R.LNK_LANEERR 4 % 4 = 0 ∧ regFind (R.LNK_LANEERR
      4) = some (regAt (R.LNK_LANEERR 4), 3, 0) ∧ isCaptured (R.LNK_LANEERR 4) = false ∧ captures (R.LNK_LANEERR 4) = [] ∧
      R.LNK_LANEERR 4 = R.LNK_LANEERR 4) :=
  by decide +kernel

/-- Inputs for each clause of CapturedRegistersReturnCapture meet its hypotheses. -/
theorem test_witness_CapturedRegistersReturnCapture :
    (live sTime = true ∧ sTime.privilege Requester.firmware ≠ 0 ∧ R.TIME_NOW_NS % 4 = 0 ∧ isCaptured R.TIME_NOW_NS = true ∧
      regFind R.TIME_NOW_NS ≠ none) ∧
    ((R.PANEL_TENS ∈ [R.PANEL_TES_HI, R.PANEL_TENS, R.TIME_NOW_S_HI, R.TIME_NOW_NS, R.TIME_NOW_FRAC] ++ List.map (fun x => x +
      4) pairLows)) :=
  by decide +kernel

/-- A small geometry. -/
def gSmall : Geom := { geomOfBytes [] with hogelsX := 3, hogelsY := 2, viewsU := 2, viewsV := 2 }
/-- IDLE. -/
def sIdle : State := stateWith [(F.CHIP_MODE_MODE, 0x5)]
/-- IDLE with a descriptor pending. -/
def sGeomPending : State := stateWith [(F.CHIP_MODE_MODE, 0x5), (F.GEOM_STATUS_PENDING, 1)]

/-- Inputs for each clause of RaysAreNumberedAndPacked meet its hypotheses. -/
theorem test_witness_RaysAreNumberedAndPacked :
    (2 < gSmall.hogelsX ∧ 1 < gSmall.hogelsY ∧ 1 < gSmall.viewsU ∧ 1 < gSmall.viewsV) ∧
    (23 < rayCount gSmall) ∧
    (2 ≤ 2) ∧
    (0 ≤ 2 ∧ 2 < [1, 2 ^ 30 - 1, 5].length) ∧
    (1 ≤ 2 ∧ 2 < [1, 2 ^ 36 - 1, 5].length) :=
  by decide +kernel

/-- Inputs for each clause of GeometryStagesAndDiscards meet its hypotheses. -/
theorem test_witness_GeometryStagesAndDiscards :
    (sIdle.kcp.shadow = none ∧ Permitted Requester.firmware (R.GEOM_W 15) sIdle ∧ geomWindow sIdle = true ∧ sIdle.flag
      F.GEOM_STATUS_PENDING = false) ∧
    (sIdle.kcp.shadow = none ∧ Permitted Requester.firmware R.GEOM_CTRL sIdle ∧ geomWindow sIdle = true ∧ sIdle.flag
      F.GEOM_STATUS_PENDING = false) ∧
    (State.reset.kcp.shadow = none ∧ Permitted Requester.firmware (R.GEOM_W 15) State.reset ∧ geomWindow State.reset = false) ∧
    (State.reset.kcp.shadow = none ∧ Permitted Requester.firmware R.GEOM_CTRL State.reset ∧ geomWindow State.reset = false) ∧
    (Permitted Requester.firmware R.GEOM_CTRL sGeomPending) :=
  by decide +kernel

/-- Inputs for each clause of GeometryConflictsRefused meet its hypotheses. -/
theorem test_witness_GeometryConflictsRefused :
    (sGeomPending.flag F.GEOM_STATUS_PENDING = true ∧ Permitted Requester.firmware (R.GEOM_W 15) sGeomPending) ∧
    (sGeomPending.flag F.GEOM_STATUS_PENDING = true ∧ Permitted Requester.firmware R.GEOM_CTRL sGeomPending ∧ geomWindow
      sGeomPending = true) ∧
    (Permitted Requester.firmware R.GEOM_CTRL State.reset ∧ wordField 3 F.GEOM_CTRL_ARM = 1 ∧ wordField 3 F.GEOM_CTRL_DISCARD =
      1) ∧
    (Permitted Requester.firmware R.CONF_COLCTRL State.reset ∧ wordField 3 F.CONF_COLCTRL_ARM = 1 ∧ wordField 3
      F.CONF_COLCTRL_DISCARD = 1) ∧
    (Permitted Requester.firmware R.CONF_MAPCTRL State.reset ∧ wordField 3 F.CONF_MAPCTRL_ARM = 1 ∧ wordField 3
      F.CONF_MAPCTRL_DISCARD = 1) :=
  by decide +kernel

/-- A work item. -/
def wItem : QueuedItem := ⟨.card 0 1 7, false⟩
/-- Block 5 works, its item in cell c as given, more items waiting. -/
def sCell (x : CellState) : State :=
  (stateWith [(F.RG_BLKSTATE_STATE 1 1, 1)]).setBlock 5 { queue := [wItem], cells := [(3, x)] }
/-- As sCell, after 3 ms. -/
def sCellLate (x : CellState) : State := { sCell x with now := 3000000 }
/-- Regions 2 and 3 hold kernels. -/
def sKernels : State :=
  { withPools (stateWith [(F.RB_ROLE_ROLE 1 0, 2), (F.RB_ROLE_ROLE 1 4, 2)]) [] with
    sram := [(kernelArea 2 + 1, 0x5A), (kernelArea 3 + 1, 0xA5)] }
/-- Block 7 replaces block 5 and is in STATE k; the mode is m; a frame boundary has come as given. -/
def sSpare (k m : Nat) (b : Bool) : State :=
  ((stateWith [(F.CHIP_MODE_MODE, m), (F.RG_BLKSTATE_STATE 1 3, k), (F.RG_BLKSTATE_STATE 1 1, 5)]).setBlock 7
    { replaces := some 5, boundary := b }).setBlock 5 { lostRole := 2 }
/-- The epoch is open; BUSY as given. -/
def sOpen (busy : Nat) : State := stateWith [(F.CHIP_MODE_MODE, 0x2), (F.IMG_STATUS_BUSY, busy), (F.RB_ROLE_ROLE 0 1, 2)]
/-- The epoch is closed. -/
def sClosed : State := stateWith [(F.CHIP_MODE_MODE, 0x6), (F.CHIP_EPOCH_EPOCH, 1)]
/-- A load runs. -/
def sLoading (l : LoadRec) : State :=
  { stateWith [(F.CHIP_MODE_MODE, 0x2), (F.IMG_STATUS_BUSY, 1)] with struct := { load := some l } }
/-- Bytes of an image section, filled up to a multiple of 64. -/
def iPad (bs : List Byte) : List Byte := bs ++ List.replicate (ceilDiv bs.length 64 * 64 - bs.length) (0 : Byte)
/-- An entry of an image directory: section i at an offset. -/
def iEntry (e : Nat × Nat × Nat) : List Byte := leBytes (e.1 + 1) 4 ++ leBytes e.2.1 4 ++ leBytes e.2.2 8
/-- A HEADER of 1,920 bytes for any revision, with its directory. -/
def iHeader : List Byte :=
  leBytes 0x524B5543 4 ++ leBytes 1 2 ++ leBytes 256 2 ++ leBytes 1920 4 ++ leBytes 0x9140 4 ++ leBytes 7 4 ++ leBytes 1 44 ++
  [(0, 0, 256), (1, 256, 128), (2, 384, 72), (3, 512, 16), (4, 576, 65), (5, 704, 104), (6, 832, 520), (7, 1408, 384), (8, 1792, 64),
    (9, 1856, 64)].flatMap iEntry ++ leBytes 0 32
/-- R, and S too, of its signature under the key below. -/
def iSign : Nat := 0x9aff04641d099932ff06d047da2c16da47858356430ffd64919109a0bccd6c320c9486cfeb8294f39ac9c1d062a6ebc1
/-- The public key that the signature verifies under. -/
def iKey : Nat × Nat :=
  (0x2a9099d74013a00efae131b5a5173375c4d62860fc1ae5b3d075369f85293f785aa843d3a80a54b92e55331ac788461f,
   0x85f37c77020f45bfbaaa2fcc8f4424ae22fa775b18d8ff2b9346b5928b5572b344e83aa10e2191138efd1723e6625e8a)
/-- SIGNATURE: key slot 1. -/
def iSignature : List Byte := leBytes 0x201 16 ++ beBytes iSign 48 ++ beBytes iSign 48 ++ leBytes 0 16
/-- A pool. -/
def iPool (id kind base size : Nat) : List Byte := leBytes (id + 256 * kind) 4 ++ leBytes base 4 ++ leBytes size 24
/-- GEOMETRY: the descriptor of geomFields. -/
def iGeometry : List Byte :=
  let bs := [0x400001, 0x10001, 0x2000102, 2, 1, 0, 4096, 4096, 60, 1].flatMap (fun w => leBytes w 4) ++ leBytes 0 20
  bs ++ leBytes (crc32c bs) 4
/-- TOPOLOGY to GEOMETRY: block 0 has role 2, a route, a kernel of one byte, three pools, no group, domains and a point. -/
def iBody : List Byte :=
  iPad (leBytes 0x400001 8 ++ leBytes 2 64) ++ iPad (leBytes 0x10001 8 ++ leBytes 0x01010201 8) ++
  iPad (leBytes 0x10001 4 ++ leBytes 5 4 ++ leBytes 1 8 ++ leBytes 0x20000 8 ++ leBytes 1 8 ++ fullerCompress 9 [0]) ++
  iPad (leBytes 0x30001 8 ++ iPool 1 4 0 8 ++ iPool 2 3 16 64 ++ iPool 3 5 128 64) ++ iPad (leBytes 0x400001 520) ++
  (leBytes 0x780001 8 ++ leBytes 1 16 ++ leBytes 1 97 ++ List.replicate 7 1 ++ leBytes (400 * 65536 + 850) 256) ++ iGeometry
/-- The whole image. -/
def iImage : List Byte :=
  let bs := iHeader ++ iSignature ++ iBody
  bs ++ leBytes (crc32c bs) 64
/-- The image has been delivered and is being validated. -/
def sImage : State :=
  { stateWith [(F.CHIP_MODE_MODE, 0x2), (F.IMG_STATUS_BUSY, 1)] with
    sram := cellRun ramBlank 0 iImage, fuses := { imageKeys := [(1, some iKey)] }
    struct := { loaded := 1920, load := some ⟨3, false, none, []⟩ } }

/-- The image before CHECK. -/
def iChecked : List Byte := iHeader ++ iSignature ++ iBody

/-- The state of its CRC-32C before and after each 64 bytes. -/
def iCrcs : List Nat :=
  [0xFFFFFFFF, 0x42195f40, 0x59274d3f, 0xc2d43a64, 0x664e2d2f, 0xe61116c3, 0x7301a623, 0xd527b7a2, 0x249936e4, 0x67dfc749, 0x78dccdbf] ++
  [0xa57991f0, 0x21e5236e, 0x498b127e, 0x69066adc, 0xf4881c29, 0xb31d50fa, 0x44c4b55b, 0xa495640b, 0x79e6e35, 0xba42d406] ++
  [0x4409fa51, 0xcdeab202, 0x1db308b1, 0x66ae035a, 0x77498d8b, 0x74c2ec67, 0x90034bb9, 0xd088ea32, 0xe16019c5]

/-- A CRC-32C from its values after each 64 bytes. -/
theorem crc_chunks (n : Nat) (bs : List Byte) (c : Nat → Nat) (hb : bs.length = 64 * n)
    (h : ∀ i, i < n → crcRun (c i) ((bs.drop (64 * i)).take 64) = c (i + 1)) : crcRun (c 0) bs = c n := by
  induction n generalizing bs c with
  | zero => rw [List.eq_nil_of_length_eq_zero hb]; rfl
  | succ n ih =>
    have h0 := h 0 (by omega)
    rw [Nat.mul_zero, List.drop_zero] at h0
    have hs : crcRun (c 0) bs = crcRun (crcRun (c 0) (bs.take 64)) (bs.drop 64) := by
      rw [crcRun, crcRun, crcRun, ← List.foldl_append, List.take_append_drop]
    rw [hs, h0]
    refine ih (bs.drop 64) (fun i => c (i + 1)) (by rw [List.length_drop]; omega) fun i hi => ?_
    rw [List.drop_drop, show 64 + 64 * i = 64 * (i + 1) by omega]
    exact h (i + 1) (by omega)

theorem image_length : iChecked.length = 64 * 29 := by decide +kernel

theorem image_crc : crc32c iChecked = 0x1e9fe63a := by
  have h := crc_chunks 29 iChecked (fun i => iCrcs.getD i 0) image_length (by decide +kernel)
  rw [crc32c, show (0xFFFFFFFF : Nat) = iCrcs.getD 0 0 from rfl, h]
  decide

/-- The keys of the fuses of sImage. -/
def iKeys (k : Nat) : Option (Nat × Nat) := tabGet none sImage.fuses.imageKeys k

theorem image_size : imageLength iImage = 1920 ∧ iImage.length = 1920 := by decide +kernel

theorem image_check_good : checkBad iImage = false := by
  have ht : iImage.take (1920 - 64) = iChecked := List.take_left' image_length
  have he : iImage = iChecked ++ leBytes 0x1e9fe63a 64 := by rw [← image_crc]; rfl
  simp only [checkBad, image_size.1, ht, image_crc]
  rw [he]
  decide +kernel

theorem image_parts : headerBad (iImage.take 256) = false ∧ leAt iImage 0xC 2 = 0x9140 ∧ leAt iImage 0xE 2 = 0 ∧
    directoryBad iImage = false ∧ signatureBad iKeys iImage = false ∧ topologyBad iImage = false ∧
    (upto 0 64).any (fun k => (imageRoles iImage).getD k 0 == 2 && !([] : List Nat).contains k) = true := by decide +kernel

theorem image_verifies : signatureVerifies iKeys iImage = true := by decide +kernel

theorem image_sections : routesBad iImage = false ∧ kernelsBad iImage = false ∧ memoryBad iImage = false ∧
    eventsBad iImage = false ∧ powerBad iImage = false ∧ imageGeometry iImage = 0 := by decide +kernel

theorem image_read : sImage.imageBytes = iImage := by
  have hr : ∀ n, n ≤ 1920 → sImage.sramRead 0 n = iImage.take n := fun n hn =>
    cellRead_cellRun ramBlank 0 n iImage (by rw [image_size.2]; exact hn)
  have hl : ∀ n, 0 < n → n ≤ 1920 → sImage.loadRead n = iImage.take n := fun n h0 hn => by
    rw [State.loadRead, show ceilDiv n 7340032 = 1 by unfold ceilDiv; omega]
    simp only [upto, List.flatMap_cons, List.flatMap_nil, List.append_nil, Nat.zero_mul, Nat.mul_zero, Nat.sub_zero]
    rw [Nat.min_eq_right (by omega), hr n hn]
  have hn : leAt (iImage.take 256) 8 4 = 1920 := by decide +kernel
  simp only [State.imageBytes, imageBytesOf, hl 256 (by omega) (by omega), hn, hl 1920 (by omega) (by omega)]
  rw [if_neg (by decide), List.take_of_length_le (Nat.le_of_eq image_size.2)]

/-- The image passes every check. -/
theorem image_passes : imageCheck (sImage.word 4).toNat sImage.struct.loaded (fun k => tabGet none sImage.fuses.imageKeys k)
    [] (sImage.imageBytes) = (0, 0) := by
  obtain ⟨h1, h2, h3, h4, h5, h6, h7⟩ := image_parts
  obtain ⟨g1, g2, g3, g4, g5, g6⟩ := image_sections
  have hk : (fun k => tabGet none sImage.fuses.imageKeys k) = iKeys := rfl
  have hd : sImage.struct.loaded = 1920 := rfl
  rw [image_read, hk, hd, imageCheck]
  simp only [h1, image_size.1, image_size.2, image_check_good, h2, h3, h4, h5, image_verifies, h6, h7, g1, g2, g3, g4, g5, g6]
  simp (decide := true)

/-- Inputs for each clause of WorkItemsRunOrReplay meet its hypotheses. -/
theorem test_witness_WorkItemsRunOrReplay :
    ((let x := (sCell ({} : CellState)); live x = true ∧ x.blockRuns 5 = true ∧ (x.block 5).queue = [wItem] ∧ x.idleCell 5 =
      some 0) ∧
    (let x := (sCell { item := some wItem : CellState }); live x = true ∧ x.cellItem 5 3 = some wItem ∧ (x.cell 5 3).retired =
      false ∧ x.blockRuns 5 = true ∧ ((x.cell 5 3).replaying = false ∨ true = false)) ∧
    (let x := (sCell { item := some wItem, replaying := true : CellState }); live x = true ∧ x.cellItem 5 3 = some wItem ∧
      (x.cell 5 3).retired = false ∧ x.blockRuns 5 = true ∧ ((x.cell 5 3).replaying = false ∨ false = false)) ∧
    (let x := (sCell { item := some wItem, replaying := true : CellState }); live x = true ∧ x.cellItem 5 3 = some wItem ∧
      (x.cell 5 3).retired = false ∧ x.retiredCells 5 < 2 ∧ x.blockRuns 5 = true ∧ (x.cell 5 3).replaying = true)) ∧
    (let x := (sCellLate { item := some wItem : CellState }); live x = true ∧ x.cellItem 5 3 = some wItem ∧ (x.cell 5 3).retired
      = false ∧ x.retiredCells 5 < 2 ∧ (x.cell 5 3).since + 2000000 ≤ x.now) :=
  ⟨by decide +kernel, by decide +kernel⟩

/-- Inputs for each clause of RegionErrorsAreRepaired meet its hypotheses. -/
theorem test_witness_RegionErrorsAreRepaired :
    ((live sKernels = true ∧ sKernels.holdsKernels 2 = true ∧ sKernels.kernelSource 2 = some 3) ∧
    (live State.reset = true ∧ State.reset.blockRuns 5 = false) ∧
    (let x := (sCell { item := some wItem : CellState }); live x = true ∧ x.blockRuns 5 = true) ∧
    (let x := (sCell { item := some wItem : CellState }); live x = true ∧ x.blockRuns 5 = true ∧ x.cellItem 5 3 = some wItem ∧
      wItem.reissued = false) ∧
    (let x := (sCell { item := some wItem : CellState }); live x = true ∧ x.blockRuns 5 = true ∧ x.cellItem 5 3 = some wItem ∧
      wItem.reissued = false ∧ 5 / 4 = 1) ∧
    (let x := (sCell { item := some { item := wItem.item, reissued := true : QueuedItem } : CellState }); let y :=
      { item := wItem.item, reissued := true : QueuedItem }; live x = true ∧ x.blockRuns 5 = true ∧ x.cellItem 5 3 = some y ∧
      y.reissued = true ∧ (x.block 5).poisonFrame = none) ∧
    (live State.reset = true)) ∧
    (live State.reset = true ∧ (5 / 4 ≠ 2 ∨ State.reset.blockRuns 5 = false ∨ State.reset.cellItem 5 3 = none)) :=
  ⟨by decide +kernel, by decide +kernel⟩

/-- Inputs for each clause of BlocksAreIsolatedAndReplaced meet its hypotheses. -/
theorem test_witness_BlocksAreIsolatedAndReplaced :
    ((let x := (sCell { item := some wItem : CellState }); Permitted Requester.firmware (R.RG_BLKCTRL 1) x ∧ x.armedObjects =
      []) ∧
    (let x := sSpare 3 6 false; live x = true ∧ (x.block 7).replaces = some 5 ∧ (x.block 5).lostRole < 16 ∧ x.blockState 7 = 3 ∧
      framesMode x.modeNow = true) ∧
    (let x := sSpare 4 6 false; live x = true ∧ (x.block 7).replaces = some 5 ∧ (x.block 5).lostRole < 16 ∧ x.blockState 7 = 4 ∧
      framesMode x.modeNow = true ∧ (x.block 7).boundary = false) ∧
    (let x := sSpare 3 2 false; live x = true ∧ (x.block 7).replaces = some 5 ∧ (x.block 5).lostRole < 16 ∧ x.blockState 7 = 3 ∧
      framesMode x.modeNow = false)) ∧
    (let x := sSpare 4 6 true; live x = true ∧ (x.block 7).replaces = some 5 ∧ (x.block 5).lostRole < 16 ∧ x.blockState 7 = 4 ∧
      ((x.block 7).boundary = true ∨ framesMode x.modeNow = false)) ∧
    (Permitted Requester.firmware (R.RB_ROLE 0) sClosed ∧ sClosed.epochOpen = false) ∧
    (Permitted Requester.firmware (R.RB_ROLE 0) (sOpen 1) ∧ (sOpen 1).epochOpen = true ∧ (sOpen 1).flag F.IMG_STATUS_BUSY =
      true) ∧
    (let x := sOpen 0; Permitted Requester.firmware (R.RB_ROLE 0) x ∧ x.epochOpen = true ∧ x.flag F.IMG_STATUS_BUSY = false ∧ (∃
      m < 8, slice (BitVec.toNat (5 : Word)) (4 * m + 3) (4 * m) ≠ 0 ∧ slice (BitVec.toNat (5 : Word)) (4 * m + 3) (4 * m) ≠
      x.role (8 * 0 + m))) ∧
    (let x := sOpen 0; Permitted Requester.firmware (R.RB_ROLE 0) x ∧ x.epochOpen = true ∧ x.flag F.IMG_STATUS_BUSY = false ∧ (∀
      m < 8, slice (BitVec.toNat (32 : Word)) (4 * m + 3) (4 * m) ≠ 0 → slice (BitVec.toNat (32 : Word)) (4 * m + 3) (4 * m) =
      x.role (8 * 0 + m))) :=
  ⟨by decide +kernel, by decide +kernel⟩

/-- Inputs for each clause of ImagesLoadOrFail meet its hypotheses. -/
theorem test_witness_ImagesLoadOrFail :
    ((imageCheck (BitVec.toNat (sImage.word 4)) sImage.struct.loaded (fun k => tabGet none sImage.fuses.imageKeys k)
      { source := 3, boot := false, other := none, overrides := [] : LoadRec }.overrides sImage.imageBytes).1 = 0) ∧
    (Permitted Requester.firmware R.IMG_CTRL State.reset ∧ State.reset.modeNow ≠ 2) ∧
    (Permitted Requester.firmware R.IMG_CTRL (sOpen 1) ∧ (sOpen 1).modeNow = 2 ∧ (sOpen 1).flag F.IMG_STATUS_BUSY = true) ∧
    (Permitted Requester.firmware R.IMG_CTRL (sOpen 0) ∧ (sOpen 0).modeNow = 2 ∧ (sOpen 0).flag F.IMG_STATUS_BUSY = false ∧ 3 ≠
      0) ∧
    (Permitted Requester.firmware R.IMG_CTRL (sOpen 0) ∧ (sOpen 0).modeNow = 2 ∧ (sOpen 0).flag F.IMG_STATUS_BUSY = false ∧ 1 ≠
      0) ∧
    (let x := { source := 1, boot := false, other := none, overrides := [] : LoadRec }; live (sLoading x) = true ∧ (sLoading
      x).struct.load = some x ∧ x.boot = false ∧ x.source ≠ 3) ∧
    (let x := { source := 3, boot := false, other := none, overrides := [] : LoadRec }; live sImage = true ∧ sImage.struct.load
      = some x ∧ x.boot = false ∧ x.source = 3) :=
  ⟨(congrArg Prod.fst image_passes), by decide +kernel⟩

/-- Session 0 has identifier 7 and the STATE k, in mode m. -/
def sSession (k m : Nat) : State :=
  { (stateWith [(F.CHIP_MODE_MODE, m), (F.KCP_SESS_STATE 0, k), (F.KCP_SESS_PRIV 0, 3)]).setSession 0
      { id := 7, maxPayload := 1024, key := [1, 2, 3] } with pins := { bootStep := 7 } }
/-- Session 0 is open, in IDLE. -/
def sKcp : State := sSession 2 0x5
/-- A READ of two words. -/
def dRead : KcpDatagram := signed [1, 2, 3] 3 (dgram 1 0 (leBytes 0 4 ++ leBytes 2 2 ++ [0, 0]))
/-- A WRITE of one word. -/
def dWrite : KcpDatagram := signed [1, 2, 3] 4 (dgram 1 0 (leBytes R.KCP_IDLE 4 ++ leBytes 1 2 ++ [0, 0] ++ leBytes 60 4))
/-- A BATCH of one item. -/
def dBatch (flags op : Byte) (a v : Nat) : KcpDatagram := signed [1, 2, 3] 5 (dgram 1 0
  (leBytes 1 2 ++ [flags, 0] ++ leBytes 0 4 ++ [op, 0, 0, 0] ++ leBytes a 4 ++ leBytes v 4 ++ leBytes 0 4))
/-- A datagram of no session. -/
def dStray : KcpDatagram := { dgram 1 0 [] with sessionId := 9 }
/-- A HELLO with key slot 1. -/
def dHello : KcpDatagram :=
  { dgram 0 0 ([1, 0, 0, 0] ++ leBytes 1024 4 ++ List.replicate 16 0x5A) with sessionId := 0, tag := List.replicate 16 0 }
/-- A host key of privilege 2, boot at its end. -/
def sKeyed : State := { State.reset with fuses := { hostKeys := [(1, some ([9, 9], 2))] }, pins := { bootStep := 7 } }
/-- As sKeyed, every session slot in use. -/
def sFull : State :=
  { stateWith ((upto 0 8).map (fun n => (F.KCP_SESS_STATE n, 2))) with
    fuses := { hostKeys := [(1, some ([9, 9], 2))] }, pins := { bootStep := 7 }
    kcp := { sessions := (upto 0 8).map (fun n => (n, { id := n + 1 })) } }
/-- An AUTH. -/
def dAuth : KcpDatagram := signed [1, 2, 3] 2 (dgram 1 0 [])
/-- A COMMIT SYNC. -/
def dSync : KcpDatagram := signed [1, 2, 3] 6 (dgram 1 0 [7, 4, 0, 0])
/-- A SYNC has waited for a second. -/
def sSync : State := { sKcp.setSession 0 { id := 7, syncs := [⟨1, 0, 0, 1, false⟩] } with now := 1000000000 }
/-- A session whose time has run out. -/
def sOld (k : Nat) : State := { sSession k 0x5 with now := 10 ^ 15 }
/-- A request held behind a gap whose time has run out. -/
def sGap : State := { sKcp.setSession 0 { id := 7, held := [⟨3, dgram 5 0 [], 20000000⟩] } with now := 20000000 }
/-- Channel 0 is bound to session 0, source 992 is pending and routed to it; its channel record as given, at a time. -/
def sChannel (c : HostChannel) (now : Nat) : State :=
  { (stateWith [(F.CHIP_MODE_MODE, 0x5), (F.KCP_SESS_STATE 0, 2), (F.EVT_HOST_BIND 4, 1), (F.EVT_HOST_REPEAT_MS 4, 5),
      (F.EVT_PEND_PENDING 31, 1), (F.EVT_EN_ENABLE 31, 1), (F.EVT_GRP_TARGETS 62, 0x10)]).setSession 0 { id := 7 } with
    now := now, pins := { bootStep := 7 }, kcp := { sessions := [(0, { id := 7 })], channels := [(4, c)] } }
/-- An EVENT in flight. -/
def fFlight : EventFlight := ⟨3, 1, 0, [992]⟩
/-- The acknowledgement of an EVENT. -/
def dAck : KcpDatagram := signed [] 7 (dgram 3 1 [])
/-- IDLE with an object in a state. -/
def sPath (mode kind id k : Nat) : State := (stateWith [(F.CHIP_MODE_MODE, mode)]).setPath kind id { state := k }
/-- An overlay is bound to layer 0, which is in a state. -/
def sNamed (k : Nat) : State :=
  ((stateWith [(F.CHIP_MODE_MODE, 0x5)]).setPath 3 0 { state := 2 }).setPath 2 0 { state := k }
/-- Presentation in a state, in LIVE, with the pools, route and block that it needs. -/
def sPresent (k : Nat) : State :=
  let s := (stateWith [(F.CHIP_MODE_MODE, 0x6), (F.CHIP_EPOCH_EPOCH, 1), (F.CONF_STAGE_POOL_ID, 2), (F.RB_ROLE_ROLE 0 0, 2),
    (F.RG_BLKSTATE_STATE 0 0, 1), (F.PQ_PIPE_PIPE_US, 100), (F.PQ_PIPE_BUILD_US, 100), (F.TIME_STATUS_STEPPED, 1)]).setPath 4 0 { state := k }
  { s with struct := { image := some (imageWith [⟨1, 4, 0, 8⟩, ⟨2, 3, 16, 64⟩, ⟨3, 5, 128, 64⟩] [⟨0x24, 0x1E, 1, 1, false⟩, ⟨0, 0x24, 1, 1, false⟩]) } }
/-- A BULK_PUT of session 0 into pool 3: XFLAGS, OFFSET and data of transfer 77 of 4 bytes at BASE 64. -/
def dPut (xflags : Byte) (offset : Nat) (data : List Byte) : KcpDatagram := signed [1, 2, 3] 8 (dgram 1 0
  ([2, xflags, 3, 0] ++ leBytes 77 4 ++ leBytes 64 8 ++ leBytes 4 8 ++ leBytes offset 8 ++ data))
/-- The open transfer with the bytes received. -/
def bOpen (data : Tab (Option Byte)) : Bulk := ⟨0, 2, 3, 64, 4, 77, false, data, 0, 0⟩
/-- Session 0 with the transfer, and pool 3 with four bytes; time now. -/
def sBulk (data : Tab (Option Byte)) (now : Nat) : State :=
  { (withPools sKcp [⟨3, 0, 1, 1⟩]).hbmWrite (2097152 + 64) [9, 8, 7, 6] with
    now := now, kcp := { sKcp.kcp with bulks := [bOpen data] } }
/-- A BULK_GET of four bytes of pool 3. -/
def dGet : KcpDatagram := signed [1, 2, 3] 9 (dgram 1 0 ([2, 3, 0, 0] ++ leBytes 60 8 ++ leBytes 4 8 ++ leBytes 4 4))
/-- The bytes of a whole transfer. -/
def bBytes : Tab (Option Byte) := [(0, some 1), (1, some 2), (2, some 3), (3, some 4)]
/-- Presentation BOUND with a register of its binding written since. -/
def sWritten : State := (sPresent 2).setPath 4 0 { state := 2, written := true }
/-- In LIVE, an overlay that names layer 0, which is DECLARED; the overlay's register written since or not. -/
def sUnarmed (w : Bool) : State :=
  ((stateWith [(F.CHIP_MODE_MODE, 0x6)]).setPath 3 0 { state := 2, written := w }).setPath 2 0 { state := 1 }
/-- Layer 0 and the overlay that names it are ARMED. -/
def sChain : State := ((stateWith [(F.CHIP_MODE_MODE, 0x6)]).setPath 3 0 { state := 3, order := 2 }).setPath 2 0 { state := 3, order := 1 }

/-- Inputs for each clause of RequestsReachExecution meet its hypotheses. -/
theorem test_witness_RequestsReachExecution :
    (kcpCommand (Instr.kcpRead dRead) = some (3, dRead)) ∧
    NextRequest sKcp 0 3 dRead ∧
    (kcpCommand (Instr.kcpRead { dStray with magic := 0 : KcpDatagram }) = some (3, { dStray with magic := 0 : KcpDatagram })) ∧
    Heard sKcp { dStray with magic := 0 : KcpDatagram } ∧
    (kcpCommand (Instr.kcpRead dStray) = some (3, dStray)) ∧
    Heard sKcp dStray ∧
    NextRequest sKcp 0 11 (signed [1, 2, 3] 11 (dgram 1 0 [])) ∧
    (3 ≠ 1) ∧
    (let x := { dStray with magic := 0 : KcpDatagram }; (∀ (n : Nat), sKcp.slotNamed x.sessionId = some n → malformed
      (sKcp.session n).maxPayload x = true) ∧ (sKcp.slotNamed x.sessionId = none → malformed 8192 x = true)) ∧
    ((3 = 1 → isResponse dStray = true) ∧ sKcp.slotNamed dStray.sessionId = none ∧ malformed 8192 dStray = false) ∧
    ((11 = 7 ∨ 11 = 0 ∨ 10 < 11)) :=
  ⟨(rfl), (next_of _ _ _ _ _ (by decide +kernel) (by decide +kernel)), (rfl), (heard_of _ _ (by decide +kernel)), (rfl),
    (heard_of _ _ (by decide +kernel)), (next_of _ _ _ _ _ (by decide +kernel) (by decide +kernel)), by decide +kernel⟩

/-- Inputs for each clause of SessionsOpenAndClose meet its hypotheses. -/
theorem test_witness_SessionsOpenAndClose :
    Heard sFull dHello ∧
    Heard sKeyed dHello ∧
    ReachesSession (sSession 1 5) 0 2 dAuth ∧
    (sFull.slotNamed dHello.sessionId = none ∧ malformed 8192 dHello = false ∧ isResponse dHello = false ∧ dHello.version = 1 ∧
      dHello.payload.length = 24 ∧ leAt dHello.payload 0 1 < 4 ∧ tabGet none sFull.fuses.hostKeys (leAt dHello.payload 0 1) =
      some ([9, 9], 2) ∧ leAt dHello.payload 1 3 = 0 ∧ 512 ≤ leAt dHello.payload 4 4 ∧ leAt dHello.payload 4 4 ≤ 8192 ∧
      dHello.seq = 0 ∧ dHello.sessionId = 0 ∧ allZero dHello.tag = true ∧ (∀ m < 8, sFull.sessionState m ≠ 0)) ∧
    ((sKeyed.slotNamed dHello.sessionId = none ∧ malformed 8192 dHello = false ∧ isResponse dHello = false ∧ dHello.version = 1
      ∧ dHello.payload.length = 24 ∧ leAt dHello.payload 0 1 < 4 ∧ tabGet none sKeyed.fuses.hostKeys (leAt dHello.payload 0 1) =
      some ([9, 9], 2) ∧ leAt dHello.payload 1 3 = 0 ∧ 512 ≤ leAt dHello.payload 4 4 ∧ leAt dHello.payload 4 4 ≤ 8192 ∧
      dHello.seq = 0 ∧ dHello.sessionId = 0 ∧ allZero dHello.tag = true ∧ (List.find? (fun m => sKeyed.sessionState m == 0)
      (upto 0 8) = some 0)) ∧
    (let x := sSession 1 5; x.sessionState 0 = 1 ∧ (x.session 0).last = 0 ∧ (x.session 0).held = [] ∧ (x.session 0).syncs = [] ∧
      dAuth.seq = 1 ∧ dAuth.version = 1 ∧ dAuth.payload = [] ∧ closesSession dAuth = false)) ∧
    (let x := sOld 1; live x = true ∧ x.channelsOf 0 = [] ∧ (∀ b ∈ x.kcp.bulks, b.slot ≠ 0) ∧ x.sessionState 0 = 1 ∧ (x.session
      0).openedAt + 1000000000 ≤ x.now) ∧
    (let x := sOld 2; live x = true ∧ x.channelsOf 0 = [] ∧ (∀ b ∈ x.kcp.bulks, b.slot ≠ 0) ∧ x.sessionState 0 = 2 ∧ (x.session
      0).lastValid + 1000000000 * x.get F.KCP_IDLE_SECONDS ≤ x.now) ∧
    (let x := { opcode := 3, datagram := dgram 5 0 [], deadline := 20000000 : HeldRequest }; live sGap = true ∧ sGap.channelsOf
      0 = [] ∧ (∀ b ∈ sGap.kcp.bulks, b.slot ≠ 0) ∧ (sGap.session 0).held = [x] ∧ x.deadline ≤ sGap.now) :=
  ⟨(heard_of _ _ (by decide +kernel)), (heard_of _ _ (by decide +kernel)), (reaches_of _ _ _ _ _ (by decide +kernel)
    (by decide +kernel)), by decide +kernel, by decide +kernel, by decide +kernel⟩

/-- Inputs for each clause of RequestsAccessRegisters meet its hypotheses. -/
theorem test_witness_RequestsAccessRegisters :
    NextRequest sKcp 0 3 dRead ∧
    NextRequest sKcp 0 4 dWrite ∧
    NextRequest sKcp 0 5 (dBatch 0 1 R.CHIP_MODE 0) ∧
    NextRequest sKcp 0 5 (dBatch 0 2 (R.GEOM_W 3) 5) ∧
    NextRequest sKcp 0 5 (dBatch 1 2 R.CHIP_MODEREQ 5) ∧
    ((0 < 2 ^ 32 ∧ 2 ≤ 1024 ∧ 0 + 4 * 2 ≤ 2 ^ 32 ∧ 8 + 4 * 2 ≤ (sKcp.session 0).maxPayload ∧ dRead.payload = leBytes 0 4 ++
      leBytes 2 2 ++ [0, 0] ∧ (∀ i < 2, plainRegister (0 + 4 * i) = true)) ∧
    (R.KCP_IDLE < 2 ^ 32 - 3 ∧ dWrite.payload = leBytes R.KCP_IDLE 4 ++ leBytes 1 2 ++ [0, 0] ++ leBytes (BitVec.toNat (60 :
      Word)) 4 ∧ permit (Requester.session (Fin.ofNat 8 0)) R.KCP_IDLE (regWrite (Requester.session (Fin.ofNat 8 0)) R.KCP_IDLE
      60) (sKcp.noted 0 dWrite) = (Status.ok, (permit (Requester.session 0) R.KCP_IDLE (regWrite (Requester.session 0)
      R.KCP_IDLE 60) (sKcp.noted 0 dWrite)).2) ∧ (permit (Requester.session 0) R.KCP_IDLE (regWrite (Requester.session 0)
      R.KCP_IDLE 60) (sKcp.noted 0 dWrite)).2.kcp.sessions = (sKcp.noted 0 dWrite).kcp.sessions) ∧
    (R.CHIP_MODE < 2 ^ 32 ∧ BitVec.toNat (0 : Word) ≤ 1 ∧ (dBatch 0 1 R.CHIP_MODE 0).payload = leBytes 1 2 ++ [0, 0] ++ leBytes
      0 4 ++ [1, 0, 0, 0] ++ leBytes R.CHIP_MODE 4 ++ leBytes (BitVec.toNat (0 : Word)) 4 ++ leBytes (BitVec.toNat (0 : Word)) 4
      ∧ 12 ≤ (sKcp.session 0).maxPayload ∧ 1 = 1 ∧ plainRegister R.CHIP_MODE = true)) ∧
    (R.GEOM_W 3 < 2 ^ 32 ∧ BitVec.toNat (0 : Word) ≤ 1 ∧ (dBatch 0 2 (R.GEOM_W 3) 5).payload = leBytes 1 2 ++ [0, 0] ++ leBytes
      0 4 ++ [2, 0, 0, 0] ++ leBytes (R.GEOM_W 3) 4 ++ leBytes (BitVec.toNat (5 : Word)) 4 ++ leBytes (BitVec.toNat (0 : Word))
      4 ∧ 12 ≤ (sKcp.session 0).maxPayload ∧ 2 = 2 ∧ 3 < 16 ∧ R.GEOM_W 3 = R.GEOM_W 3 ∧ 2 ≤ sKcp.get (F.KCP_SESS_PRIV 0) ∧
      geomWindow sKcp = true ∧ sKcp.flag F.GEOM_STATUS_PENDING = false) ∧
    (R.CHIP_MODEREQ < 2 ^ 32 ∧ BitVec.toNat (1 : Word) ≤ 1 ∧ (dBatch 1 2 R.CHIP_MODEREQ 5).payload = leBytes 1 2 ++ [1, 0] ++
      leBytes 0 4 ++ [2, 0, 0, 0] ++ leBytes R.CHIP_MODEREQ 4 ++ leBytes (BitVec.toNat (5 : Word)) 4 ++ leBytes (BitVec.toNat (0
      : Word)) 4 ∧ 12 ≤ (sKcp.session 0).maxPayload ∧ 1 = 1 ∧ (2 = 2 ∨ 2 = 3) ∧ (R.CHIP_MODEREQ = R.CHIP_MODEREQ ∨
      R.CHIP_MODEREQ = R.IMG_CTRL ∨ R.CHIP_MODEREQ = R.PATH_CMD)) :=
  ⟨(next_of _ _ _ _ _ (by decide +kernel) (by decide +kernel)), (next_of _ _ _ _ _ (by decide +kernel) (by decide +kernel)),
    (next_of _ _ _ _ _ (by decide +kernel) (by decide +kernel)), (next_of _ _ _ _ _ (by decide +kernel) (by decide +kernel)),
    (next_of _ _ _ _ _ (by decide +kernel) (by decide +kernel)), by decide +kernel, by decide +kernel⟩

/-- Inputs for each clause of SyncAndEventsReachHost meet its hypotheses. -/
theorem test_witness_SyncAndEventsReachHost :
    NextRequest sKcp 0 6 dSync ∧
    (∃ src ∈ (sChannel ({} : HostChannel) 0).visibleSet (4 + 0), src ∉ ((sChannel ({} : HostChannel) 0).channel (4 + 0)).acked)
      ∧
    ((sChannel { acked := [992], ackedAt := some 0 : HostChannel } 5000000).asserted (4 + 0) = true) ∧
    Heard (sChannel { flight := some fFlight : HostChannel } 0) dAck ∧
    (dAck.tag = datagramTag ((sChannel { flight := some fFlight : HostChannel } 0).session 0).key 7 dAck) ∧
    ((2 ≤ sKcp.get (F.KCP_SESS_PRIV 0) ∧ dSync.payload = [7, 4#8, 0#8, 0]) ∧
    (let x := { seq := 1, since := 0, port := 0, origin := 1, close := false : SyncWait }; live sSync = true ∧
      sSync.sessionState 0 ≠ 0 ∧ (sSync.session 0).syncs = [x] ∧ x.since + 1000000000 ≤ sSync.now ∧ x.close = false) ∧
    (let x := (sChannel ({} : HostChannel) 0); live x = true ∧ x.channelIdle (4 + 0) = true) ∧
    (let x := (sChannel { flight := some fFlight : HostChannel } 2000000); live x = true ∧ (x.channel (4 + 0)).flight = some
      fFlight ∧ fFlight.sentAt + 2000000 ≤ x.now ∧ fFlight.sends < 8) ∧
    (let x := (sChannel { acked := [992], ackedAt := some 0 : HostChannel } 5000000); live x = true ∧ x.channelIdle (4 + 0) =
      true ∧ (x.channel (4 + 0)).ackedAt = some 0 ∧ x.get (F.EVT_HOST_REPEAT_MS (4 + 0)) ≠ 0 ∧ 0 + 1000000 * x.get
      (F.EVT_HOST_REPEAT_MS (4 + 0)) ≤ x.now)) ∧
    (let x := (sChannel { flight := some fFlight : HostChannel } 0); live x = true ∧ x.slotNamed dAck.sessionId = some 0 ∧
      malformed (x.session 0).maxPayload dAck = false ∧ isResponse dAck = true ∧ dAck.payloadLength = 0 ∧ dAck.status = 0 ∧
      x.flightChannel 0 dAck.seq = some (4 + 0) ∧ (x.channel (4 + 0)).flight = some fFlight) :=
  ⟨(next_of _ _ _ _ _ (by decide +kernel) (by decide +kernel)), (⟨992, List.mem_filter.mpr ⟨by decide +kernel,
    by decide +kernel⟩, by decide +kernel⟩), (List.any_eq_true.mpr ⟨992, by decide +kernel, by decide +kernel⟩), (heard_of _ _
    (by decide +kernel)), (signed_tag _ _ _ _ _ (by decide +kernel)), by decide +kernel, by decide +kernel⟩

/-- Inputs for each clause of ObjectsMoveThroughLifecycle meet its hypotheses. -/
theorem test_witness_ObjectsMoveThroughLifecycle :
    ((let x := sPath 5 3 0 1; Permitted Requester.firmware R.PATH_CMD x ∧ (pathIds 3).contains 7 = true ∧ quietMode x.modeNow =
      false ∧ (x.path 3 7).state = 0) ∧
    (let x := sPath 5 3 7 2; Permitted Requester.firmware R.PATH_CMD x ∧ (pathIds 3).contains 7 = true ∧ (x.path 3 7).state = 2
      ∧ x.namers 3 7 = []) ∧
    (let x := sPath 5 3 7 1; Permitted Requester.firmware R.PATH_CMD x ∧ (pathIds 3).contains 7 = true ∧ (x.path 3 7).state = 1
      ∧ x.namers 3 7 = []) ∧
    (Permitted Requester.firmware R.PATH_CMD (sPath 2 4 0 1) ∧ (pathIds 4).contains 0 = true ∧ quietMode (sPath 2 4 0 1).modeNow
      = true) ∧
    (let x := sPath 5 4 0 3; Permitted Requester.firmware R.PATH_CMD x ∧ (pathIds 4).contains 0 = true ∧ quietMode x.modeNow =
      false ∧ (x.path 4 0).state ≠ 0)) ∧
    ((let x := sPath 5 4 0 3; Permitted Requester.firmware R.PATH_CMD x ∧ (pathIds 4).contains 0 = true ∧ quietMode x.modeNow =
      false ∧ (x.path 4 0).state ≠ 1 ∧ (x.path 4 0).state ≠ 2) ∧
    (let x := sPath 6 4 0 1; Permitted Requester.firmware R.PATH_CMD x ∧ (pathIds 4).contains 0 = true ∧ armPermitted x.ruleMode
      4 (x.armSub 4 0) = true ∧ (x.path 4 0).state ≠ 2) ∧
    (Permitted Requester.firmware R.PATH_CMD (sPath 6 4 0 1) ∧ (pathIds 4).contains 0 = true ∧ ((sPath 6 4 0 1).path 4 0).state
      ≠ 3) ∧
    (Permitted Requester.firmware R.PATH_CMD (sPath 6 4 0 1) ∧ (pathIds 4).contains 0 = true ∧ ((sPath 6 4 0 1).path 4 0).state
      ≠ 2) ∧
    (Permitted Requester.firmware R.PATH_CMD (sPath 6 4 0 3) ∧ (pathIds 4).contains 0 = true ∧ ((sPath 6 4 0 3).path 4 0).state
      ≠ 1) ∧
    (let x := sNamed 3; Permitted Requester.firmware R.PATH_CMD x ∧ (pathIds 2).contains 0 = true ∧ x.namers 2 0 ≠ [] ∧ (x.path
      2 0).state = 3)) ∧
    ((let x := sNamed 2; Permitted Requester.firmware R.PATH_CMD x ∧ (pathIds 2).contains 0 = true ∧ x.namers 2 0 ≠ [] ∧ (x.path
      2 0).state = 2) ∧
    (let x := sNamed 1; Permitted Requester.firmware R.PATH_CMD x ∧ (pathIds 2).contains 0 = true ∧ x.namers 2 0 ≠ [] ∧ (x.path
      2 0).state = 1) ∧
    (let x := sUnarmed false; Permitted Requester.firmware R.PATH_CMD x ∧ (pathIds 3).contains 0 = true ∧ quietMode x.modeNow =
      false ∧ ((x.path 3 0).state = 1 ∨ (x.path 3 0).state = 2) ∧ (bindObject 3 0 x).1 ≠ Status.ok) ∧
    (let x := sPresent 1; Permitted Requester.firmware R.PATH_CMD x ∧ (pathIds 4).contains 0 = true ∧ quietMode x.modeNow =
      false ∧ ((x.path 4 0).state = 1 ∨ (x.path 4 0).state = 2) ∧ (bindObject 4 0 x).1 = Status.ok)) ∧
    ((let x := sUnarmed false; Permitted Requester.firmware R.PATH_CMD x ∧ (pathIds 3).contains 0 = true ∧ (x.path 3 0).state =
      2 ∧ armPermitted x.ruleMode 3 (x.armSub 3 0) = true ∧ (x.path 3 0).written = false ∧ (∃ o ∈ x.names 3 0, x.armed o.1 o.2 =
      false)) ∧
    (let x := sPresent 2; Permitted Requester.firmware R.PATH_CMD x ∧ (pathIds 4).contains 0 = true ∧ (x.path 4 0).state = 2 ∧
      armPermitted x.ruleMode 4 (x.armSub 4 0) = true ∧ (x.path 4 0).written = false ∧ (∀ o ∈ x.names 4 0, x.armed o.1 o.2 =
      true) ∧ x.armCheck 4 0 = none) ∧
    (let x := sUnarmed true; Permitted Requester.firmware R.PATH_CMD x ∧ (pathIds 3).contains 0 = true ∧ (x.path 3 0).state = 2
      ∧ armPermitted x.ruleMode 3 (x.armSub 3 0) = true ∧ (x.path 3 0).written = true ∧ (bindObject 3 0 x).1 ≠ Status.ok)) ∧
    (Permitted Requester.firmware R.PATH_CMD sWritten ∧ (pathIds 4).contains 0 = true ∧ (sWritten.path 4 0).state = 2 ∧
      armPermitted sWritten.ruleMode 4 (sWritten.armSub 4 0) = true ∧ (sWritten.path 4 0).written = true ∧ (bindObject 4 0
      sWritten).1 = Status.ok ∧ (∀ o ∈ (bindObject 4 0 sWritten).2.names 4 0, sWritten.armed o.1 o.2 = true) ∧ (bindObject 4 0
      sWritten).2.armCheck 4 0 = none) ∧
    (let x := sPresent 3; Permitted Requester.firmware R.PATH_CMD x ∧ (pathIds 4).contains 0 = true ∧ (x.path 4 0).state = 3 ∧
      x.namers 4 0 = []) ∧
    (Permitted Requester.firmware R.PATH_CMD sChain ∧ (pathIds 2).contains 0 = true ∧ (sChain.path 2 0).state = 3) :=
  ⟨by decide +kernel, by decide +kernel, by decide +kernel, by decide +kernel, by decide +kernel⟩

/-- Inputs for each clause of BulkMovesBytes meet its hypotheses. -/
theorem test_witness_BulkMovesBytes :
    NextRequest (sBulk [] 0) 0 8 (dPut 0 0 [1, 2, 3, 4]) ∧
    NextRequest (sBulk bBytes 0) 0 8 (dPut 1 (crc32c [1, 2, 3, 4]) []) ∧
    NextRequest (sBulk [] 0) 0 9 dGet ∧
    (let y := dPut 0 0 [1, 2, 3, 4]; let z := sBulk [] 0; let u := bOpen []; 2 ≤ z.get (F.KCP_SESS_PRIV 0) ∧ 32 ≤
      y.payload.length ∧ z.headCheck (z.get (F.KCP_SESS_PRIV 0)) (putHead y.payload) = none ∧ (List.find? (fun x => x.slot == 0
      && x.id == (putHead y.payload).id) z.kcp.bulks = some u) ∧ z.now < u.lastChunk + 10000000000 ∧ u.agrees (putHead
      y.payload) = true ∧ u.fuller = false ∧ u.target = 2 ∧ z.pool u.pool = some
      { id := 3, kind := 0, base := 1, size := 1 : PoolRec } ∧ (putHead y.payload).isEnd = false ∧ z.dataCheck (z.session
      0).maxPayload (putHead y.payload) = none) ∧
    (let y := dPut 1 (crc32c [1, 2, 3, 4]) []; let z := bOpen bBytes; let u := sBulk bBytes 0; 2 ≤ u.get (F.KCP_SESS_PRIV 0) ∧
      32 ≤ y.payload.length ∧ u.headCheck (u.get (F.KCP_SESS_PRIV 0)) (putHead y.payload) = none ∧ (List.find? (fun x => x.slot
      == 0 && x.id == (putHead y.payload).id) u.kcp.bulks = some z) ∧ u.now < z.lastChunk + 10000000000 ∧ z.agrees (putHead
      y.payload) = true ∧ z.fuller = false ∧ z.target = 2 ∧ u.pool z.pool = some
      { id := 3, kind := 0, base := 1, size := 1 : PoolRec } ∧ (putHead y.payload).isEnd = true ∧ (putHead y.payload).data = []
      ∧ (putHead y.payload).offset / 2 ^ 32 = 0 ∧ z.total ≤ firstMissing 0 z.data ∧ (crc32c (List.map (fun e => e.2.getD 0)
      z.data) = (putHead y.payload).offset)) ∧
    (let x := { id := 3, kind := 0, base := 1, size := 1 : PoolRec }; let y := sBulk [] 0; 60 < 2 ^ 64 ∧ 4 < 2 ^ 64 ∧ 4 < 2 ^ 32
      ∧ dGet.payload = [2, 3, 0, 0] ++ leBytes 60 8 ++ leBytes 4 8 ++ leBytes 4 4 ∧ y.pool (BitVec.toNat (3 : Word)) = some x ∧
      4 ≠ 0 ∧ 4 + 8 ≤ (y.session 0).maxPayload ∧ 60 + 4 + 4 ≤ poolBytes x ∧ y.hbmPoisoned (poolBase x + (60 + 4)) 4 = false) ∧
    (let y := sBulk [] 10000000000; let z := bOpen []; live y = true ∧ (List.find? (fun x => x.slot == 0 && x.id == z.id)
      y.kcp.bulks = some z) ∧ z.lastChunk + 10000000000 ≤ y.now ∧ z.fuller = false) :=
  ⟨(next_of _ _ _ _ _ (by decide +kernel) (by decide +kernel)), (next_of _ _ _ _ _ (by decide +kernel) (by decide +kernel)),
    (next_of _ _ _ _ _ (by decide +kernel) (by decide +kernel)), by decide +kernel, by decide +kernel, by decide +kernel⟩

/-- Source 992 with PENDING and ACTIVE as given. -/
def sSource (p a : Nat) : State := stateWith [(F.EVT_PEND_PENDING 31, p), (F.EVT_ACTIVE_ACTIVE 31, a)]
/-- The group of source 3 logs. -/
def sLogs : State := stateWith [(F.EVT_GRP_LOG 0, 1)]
/-- An entry that has waited. -/
def eEntry : LogEntry := ⟨3, 0, 7, 0, 1, 2, 0, 0⟩
/-- An entry waits for the ring of the error-log pool. -/
def sRing : State := { withPools State.reset [⟨1, 4, 0, 8⟩] with now := 1000, evt := { queue := [eEntry] } }
/-- Three entries stand in the ring. -/
def sFill : State := State.reset.setWord R.ERRLOG_WR 3
/-- Session 0 may write, host channel 0 is bound to session k or free. -/
def sHost (bound k : Nat) : State :=
  stateWith [(F.CHIP_MODE_MODE, 0x5), (F.KCP_SESS_PRIV 0, 3), (F.EVT_HOST_BIND 4, bound), (F.EVT_HOST_SESSION 4, k)]
/-- The window of group 2 ends and holds source 35. -/
def sWindow : State := { stateWith [(F.EVT_GRP_HELD 2, 1)] with now := 9, evt := { window := [(2, some 9)], held := [35] } }

/-- Inputs for each clause of SourcesAreClaimedAndCompleted meet its hypotheses. -/
theorem test_witness_SourcesAreClaimedAndCompleted :
    (Permitted Requester.firmware R.EVT_CLAIM State.reset ∧ State.reset.isPending (wordField 992 F.EVT_CLAIM_SOURCE) = false) ∧
    (let x := sSource 1 1; Permitted Requester.firmware R.EVT_CLAIM x ∧ x.isPending (wordField 992 F.EVT_CLAIM_SOURCE) = true ∧
      x.isActive (wordField 992 F.EVT_CLAIM_SOURCE) = true) ∧
    (let x := sSource 1 0; Permitted Requester.firmware R.EVT_CLAIM x ∧ x.isPending (wordField 992 F.EVT_CLAIM_SOURCE) = true ∧
      x.isActive (wordField 992 F.EVT_CLAIM_SOURCE) = false) ∧
    (Permitted Requester.firmware R.EVT_DONE (sSource 0 1)) ∧
    (Permitted Requester.firmware (R.EVT_PEND 31) (sSource 1 1)) :=
  by decide +kernel

/-- Inputs for each clause of SoftwareRaisesSources meet its hypotheses. -/
theorem test_witness_SoftwareRaisesSources :
    (Permitted Requester.firmware R.EVT_SWSET State.reset) ∧
    (Permitted Requester.firmware R.EVT_SWLEVEL State.reset) :=
  by decide +kernel

/-- Inputs for each clause of ErrorLogFillsRing meet its hypotheses. -/
theorem test_witness_ErrorLogFillsRing :
    (3 < 960 ∧ sLogs.flag (F.EVT_GRP_LOG (3 / 16)) = true ∧ sLogs.evt.queue.length < 64 ∧ (∀ e ∈ sLogs.evt.queue, e.source ≠ 3 ∨
      e.code ≠ 0)) ∧
    (live sRing = true ∧ sRing.evt.queue = [eEntry] ∧ sRing.lowestPool 4 = some
      { id := 1, kind := 4, base := 0, size := 8 : PoolRec } ∧ eEntry.at_ + 1000 ≤ sRing.now ∧ sRing.flag F.ERRLOG_STATUS_FULL =
      false) ∧
    (Permitted Requester.firmware R.ERRLOG_RD sFill ∧ BitVec.toNat (3 - sFill.word R.ERRLOG_RD) ≤ BitVec.toNat (sFill.word
      R.ERRLOG_WR - sFill.word R.ERRLOG_RD)) ∧
    (Permitted Requester.firmware R.ERRLOG_RD sFill ∧ BitVec.toNat (sFill.word R.ERRLOG_WR - sFill.word R.ERRLOG_RD) <
      BitVec.toNat (4 - sFill.word R.ERRLOG_RD)) :=
  by decide +kernel

/-- Inputs for each clause of HostChannelsAndWindows meet its hypotheses. -/
theorem test_witness_HostChannelsAndWindows :
    (Permitted (Requester.session 0) (R.EVT_HOST (4 + 0)) (sHost 0 0) ∧ (sHost 0 0).flag (F.EVT_HOST_BIND (4 + 0)) = false ∧
      wordField (BitVec.ofNat 32 (place (place 0 (F.EVT_HOST_BIND 4).hi (F.EVT_HOST_BIND 4).lo 1) (F.EVT_HOST_REPEAT_MS 4).hi
      (F.EVT_HOST_REPEAT_MS 4).lo 9)) (F.EVT_HOST_BIND (4 + 0)) = 1) ∧
    (let x := sHost 1 0; Permitted (Requester.session 0) (R.EVT_HOST (4 + 0)) x ∧ x.flag (F.EVT_HOST_BIND (4 + 0)) = true ∧
      x.get (F.EVT_HOST_SESSION (4 + 0)) = 0 ∧ wordField 0 (F.EVT_HOST_BIND (4 + 0)) = 0) ∧
    (let x := sHost 1 3; Permitted (Requester.session 0) (R.EVT_HOST (4 + 0)) x ∧ x.flag (F.EVT_HOST_BIND (4 + 0)) = true ∧ (∀
      (n : Fin 8), Requester.session 0 = Requester.session n → x.get (F.EVT_HOST_SESSION (4 + 0)) ≠ (↑n : Nat))) ∧
    (live sWindow = true ∧ tabGet none sWindow.evt.window 2 = some 9 ∧ 9 ≤ sWindow.now ∧ sWindow.get (F.EVT_GRP_HOLDOFF 2) = 0)
      :=
  by decide +kernel

/-- Mode m; PENDING and TARGET as given. -/
def sMode (m p t : Nat) : State := stateWith [(F.CHIP_MODE_MODE, m), (F.CHIP_MODE_PENDING, p), (F.CHIP_MODE_TARGET, t)]
/-- Region sensor 2 is near its thresholds, in LIVE. -/
def sWarm : State := stateWith [(F.CHIP_MODE_MODE, 0x6), (F.THERM_SENS_EFFECTIVE 2, 430)]
/-- An operation and a job wait for on-demand domains. -/
def sDemand : State :=
  { stateWith [(F.CHIP_MODE_MODE, 0x6)] with
    struct := { image := some { imageWith [] [] with domains := List.replicate 120 2 } }
    plank := [(0, some ⟨[], 0, false, true⟩)], fuller := [(3, some { words := [], state := 1, run := none })] }
/-- The pins hold the Q9 in reset, or REFCLK_SYS is gone. -/
def sPins (inReset refSys : Bool) : State := { State.reset with pins := { inReset := inReset, refSys := refSys } }
/-- SAFE, the panel held for 1 ms. -/
def sHeld (off : Bool) : State :=
  { stateWith [(F.CHIP_MODE_MODE, 0xC)] with
    now := 1000000, panel := { holding := true, holdAt := some 0 }, mode := { txOff := off } }

/-- Inputs for each clause of ModesChangeOnRequest meet its hypotheses. -/
theorem test_witness_ModesChangeOnRequest :
    ((Permitted Requester.firmware R.CHIP_MODEREQ (sMode 5 0 5) ∧ (if 14 = 2 then 3 else 2) ≤ (sMode 5 0 5).privilege
      Requester.firmware ∧ 14 ≤ 14) ∧
    (let x := sMode 5 0 5; Permitted Requester.firmware R.CHIP_MODEREQ x ∧ (if 12 = 2 then 3 else 2) ≤ x.privilege
      Requester.firmware ∧ 12 ∈ [0, 1, 11, 12] ∧ x.flag F.CHIP_MODE_PENDING = false) ∧
    (let x := sMode 5 1 6; Permitted Requester.firmware R.CHIP_MODEREQ x ∧ (if 6 = 2 then 3 else 2) ≤ x.privilege
      Requester.firmware ∧ 6 < 14 ∧ x.flag F.CHIP_MODE_PENDING = true) ∧
    (let x := sMode 5 0 5; Permitted Requester.firmware R.CHIP_MODEREQ x ∧ (if 5 = 2 then 3 else 2) ≤ x.privilege
      Requester.firmware ∧ 5 ∉ [0, 1, 11, 12, 14, 15] ∧ x.flag F.CHIP_MODE_PENDING = false ∧ x.testRuns = false ∧ 5 =
      x.modeNow)) ∧
    ((let x := sMode 3 0 3; Permitted Requester.firmware R.CHIP_MODEREQ x ∧ (if 6 = 2 then 3 else 2) ≤ x.privilege
      Requester.firmware ∧ 6 ∉ [0, 1, 11, 12, 14, 15] ∧ x.flag F.CHIP_MODE_PENDING = false ∧ x.testRuns = false ∧ x.modeNow ≠ 11
      ∧ 6 ≠ x.modeNow ∧ x.requestPermitted 6 = false) ∧
    (let x := sMode 5 0 5; Permitted Requester.firmware R.CHIP_MODEREQ x ∧ (if 3 = 2 then 3 else 2) ≤ x.privilege
      Requester.firmware ∧ 3 ∉ [0, 1, 11, 12, 14, 15] ∧ x.flag F.CHIP_MODE_PENDING = false ∧ x.testRuns = false ∧ x.modeNow ≠ 11
      ∧ 3 ≠ x.modeNow ∧ x.requestPermitted 3 = true ∧ x.armedObjects = [])) ∧
    (let x := sMode 5 1 6; live x = true ∧ x.flag F.CHIP_MODE_PENDING = true ∧ x.mode.safeAt = none ∧ x.armedObjects = [] ∧
      x.modeNow ∈ [4, 5, 6, 7, 8, 9, 13] ∧ x.get F.CHIP_MODE_TARGET ∈ [4, 5, 6, 7, 8, 9, 13] ∧ x.flag F.GEOM_STATUS_PENDING =
      false ∧ x.siz.epoch = []) ∧
    (let x := sHeld false; live x = true ∧ (x.modeNow = 3 ∨ x.modeNow = 12) ∧ x.mode.txOff = false ∧ (x.flag
      F.PANEL_STATUS_HOLDING = true ∨ x.panel.holdAt.getD 0 + 1000000 ≤ x.now) ∧ x.panel.opened = none ∧ (x.link 0).stopped =
      false) ∧
    (let x := sHeld true; live x = true ∧ (¬(x.modeNow = 3 ∨ x.modeNow = 12) ∨ x.mode.txOff = true ∨ ¬(x.flag
      F.PANEL_STATUS_HOLDING = true ∨ x.panel.holdAt.getD 0 + 1000000 ≤ x.now))) :=
  ⟨by decide +kernel, by decide +kernel, by decide +kernel⟩

/-- Inputs for each clause of SafeIsDecided meet its hypotheses. -/
theorem test_witness_SafeIsDecided :
    (live (sMode 6 0 6) = true) ∧
    (let x := sMode 6 0 6; live x = true ∧ x.modeNow ≠ 1 ∧ x.modeNow ≠ 12 ∧ x.mode.safeAt = none ∧ x.armedObjects = []) ∧
    (live sWarm = true ∧ 2 < 16 ∧ sWarm.readFast 2 = true ∧ sWarm.broken 2 = false ∧ [none, none, some 440].getD 2 none = some
      440 ∧ 440 ≤ 440 ∧ 440 ≤ 600 ∧ tabFind sWarm.siz.inForce (sizKey 1 0) = none ∧ sWarm.mode.shutdown = false ∧ sWarm.modeNow
      ≠ 1 ∧ sWarm.modeNow ≠ 12 ∧ sWarm.mode.safeAt = none ∧ sWarm.armedObjects = []) :=
  by decide +kernel

/-- Inputs for each clause of TemperatureAndRailsAreRead meet its hypotheses. -/
theorem test_witness_TemperatureAndRailsAreRead :
    (∀ (c : Nat), 3 < c → c ≤ 3 → bandBound 3 - 8 < bandBound c - 8) ∧
    (live (sMode 6 0 6) = true) ∧
    (440 ≤ 440) ∧
    (407 < 440 - 4 * (↑8 : Int)) ∧
    (440 - 4 * (↑8 : Int) ≤ 408 ∧ 408 < 440) ∧
    (2 ≤ 3 ∧ 1 ≤ 3 ∧ 3 ≤ 3 ∧ bandBound 3 ≤ 380) ∧
    (3 ≤ 3 ∧ 1 ≤ 3 ∧ 3 ≤ 3 ∧ bandBound 3 - 8 ≤ bandBound 3 - 8) ∧
    (2 ≤ 3 ∧ 0 < bandBound 1 - 8) :=
  ⟨(fun c h1 h2 => absurd h2 (by omega)), by decide +kernel⟩

/-- Inputs for each clause of PowerChangesComplete meet its hypotheses. -/
theorem test_witness_PowerChangesComplete :
    (live sDemand = true) ∧
    (live sDemand = true ∧ (sDemand.domainValue 20 ≠ 2 ∨ 20 < 80 ∨ 93 ≤ 20 ∨ sDemand.demand 20 = false ∨ quietMode
      sDemand.modeNow = true)) ∧
    (live sDemand = true ∧ sDemand.domainValue 89 = 2 ∧ 80 ≤ 89 ∧ 89 < 93 ∧ sDemand.demand 89 = true ∧ quietMode sDemand.modeNow
      = false) ∧
    (live sDemand = true ∧ sDemand.domainValue 91 = 2 ∧ 80 ≤ 91 ∧ 91 < 93 ∧ sDemand.demand 91 = true ∧ quietMode sDemand.modeNow
      = false) :=
  by decide +kernel

/-- Inputs for each clause of ResetClearsAndBoots meet its hypotheses. -/
theorem test_witness_ResetClearsAndBoots :
    (499 < 500) ∧
    (2000 ≤ 2000) ∧
    (500 ≤ 1999 ∧ 1999 < 2000) ∧
    ((sMode 6 0 6).pins.inReset = false) ∧
    ((sPins true true).pins.inReset = true ∧ (sPins true true).pins.refSys = true) ∧
    ((sPins false false).pins.inReset = false ∧ (sPins false false).pins.refSys = false) :=
  by decide +kernel

/-- Port 1 at the end of the boot with its link, its role, and stream 3, which names it, in a state. -/
def sPort (link role k : Nat) : State :=
  { withPath [(F.CHIP_MODE_MODE, 0x6), (F.ETH_STATUS_LINK 1, link), (F.ETH_CFG_SPEED 1, 2), (F.ETH_CFG_PFC_EN 1, 0xFF),
      (F.ETH_ROLE_ROLE 1, role), (F.ETH_ROLE_TIMEOUT 1, 5), (F.STRM_CFG_KIND 3, 4), (F.STRM_CFG_PORTS 3, 2),
      (F.STRM_CFG_FORMAT 3, 2), (F.STRM_POOL_UNITMAX 3, 1), (F.STRM_POOL_MAX_UNITS 3, 4), (F.STRM_TIMING_LEAD_US 3, 100),
      (F.STRM_TIMING_DEPTH_US 3, 100), (F.ETH_IP4_ADDR 1, 0x0A000001)] 1 3 k with pins := { bootStep := 7 } }
/-- As sPort after 5 ms. -/
def sPortLate : State := { sPort 1 1 3 with now := 5000000 }
/-- A good frame. -/
def fGood : EthFrame := ⟨100, true, false, none, 2, false, .none, 1600000⟩
/-- Priority 2 of port 1 is in XOFF. -/
def sXoff : State := (sPort 1 1 0).setPort 1 { xoff := [2] }
/-- A batt of stream 3. -/
def bFirst : BattDatagram := ⟨.v4 0x0A000001, 52160,
  leBytes 0x5442 2 ++ [1, 4, 3, 0] ++ leBytes 4 2 ++ leBytes 9 4 ++ leBytes 7 4 ++ List.replicate 24 0 ++ [1, 2, 3, 4]⟩
/-- A unit that waits, and one whose deadline has passed. -/
def uUnit (expired : Bool) : JbUnit := { unit := 7, launch := none, deadline := 1000, expired := expired }
/-- Stream 3 holds a unit. -/
def sUnit (expired : Bool) : State := (sPort 1 1 3).setStream 3 { units := [uUnit expired] }
/-- A value of ETH_ROLE for port 1: ROLE and TIMEOUT. -/
def wRole (role timeout : Nat) : Word := (stateWith [(F.ETH_ROLE_ROLE 1, role), (F.ETH_ROLE_TIMEOUT 1, timeout)]).word (R.ETH_ROLE 1)
/-- A value of ETH_CFG for port 1: SPEED, VLAN and VID. -/
def wCfg (speed vlan vid : Nat) : Word :=
  (stateWith [(F.ETH_CFG_SPEED 1, speed), (F.ETH_CFG_VLAN 1, vlan), (F.ETH_CFG_VID 1, vid)]).word (R.ETH_CFG 1)

/-- Inputs for each clause of PortsFollowLinksAndRegisters meet its hypotheses. -/
theorem test_witness_PortsFollowLinksAndRegisters :
    ((let x := sPort 0 1 0; live x = true ∧ x.get (F.ETH_CFG_SPEED 1) ≠ 0 ∧ 5 ≤ x.pins.bootStep ∧ x.get (F.ETH_STATUS_LINK 1) =
      0) ∧
    (live (sPort 1 1 0) = true ∧ (sPort 1 1 0).get (F.ETH_STATUS_LINK 1) = 1) ∧
    (live sPortLate = true ∧ sPortLate.portNamed 1 = true ∧ sPortLate.get (F.ETH_ROLE_ROLE 1) = 1 ∧ sPortLate.get
      (F.ETH_STATUS_LOST 1) = 0 ∧ (sPortLate.port 1).lastBatt + 1000000 * sPortLate.get (F.ETH_ROLE_TIMEOUT 1) ≤ sPortLate.now)
      ∧
    (let x := sPort 1 1 3; live x = true ∧ x.portNamed 1 = true ∧ x.get (F.ETH_ROLE_ROLE 1) = 1 ∧ x.get (F.ETH_STATUS_LOST 1) =
      0 ∧ x.now < (x.port 1).lastBatt + 1000000 * x.get (F.ETH_ROLE_TIMEOUT 1)) ∧
    (Permitted Requester.firmware (R.ETH_CFG 1) (sPort 1 1 0) ∧ (sPort 1 1 0).portNamed 1 = false ∧ (¬(wordField (wCfg 3 1 9)
      (F.ETH_CFG_VLAN 1) = 1 ∧ (wordField (wCfg 3 1 9) (F.ETH_CFG_VID 1) = 0 ∨ wordField (wCfg 3 1 9) (F.ETH_CFG_VID 1) =
      4095)))) ∧
    (let x := sPort 1 1 3; Permitted Requester.firmware (R.ETH_CFG 1) x ∧ x.portNamed 1 = true ∧ wordField (wCfg 3 1 9)
      (F.ETH_CFG_SPEED 1) ≠ x.get (F.ETH_CFG_SPEED 1))) ∧
    (Permitted Requester.firmware (R.ETH_CFG 1) (sPort 1 1 0) ∧ (sPort 1 1 0).portNamed 1 = false ∧ wordField (wCfg 3 1 4095)
      (F.ETH_CFG_VLAN 1) = 1 ∧ (wordField (wCfg 3 1 4095) (F.ETH_CFG_VID 1) = 0 ∨ wordField (wCfg 3 1 4095) (F.ETH_CFG_VID 1) =
      4095)) ∧
    (let x := sPort 1 1 0; Permitted Requester.firmware (R.ETH_ROLE 1) x ∧ x.portNamed 1 = false ∧ x.armed 5 0 = false ∧
      wordField (wRole 4 1000) (F.ETH_ROLE_ROLE 1) < 5 ∧ 1 ≤ wordField (wRole 4 1000) (F.ETH_ROLE_TIMEOUT 1) ∧ wordField (wRole
      4 1000) (F.ETH_ROLE_TIMEOUT 1) ≤ 1000) ∧
    (let x := sPort 1 1 0; Permitted Requester.firmware (R.ETH_ROLE 1) x ∧ x.portNamed 1 = false ∧ x.armed 5 0 = false ∧ (5 ≤
      wordField (wRole 4 1001) (F.ETH_ROLE_ROLE 1) ∨ wordField (wRole 4 1001) (F.ETH_ROLE_TIMEOUT 1) = 0 ∨ 1000 < wordField
      (wRole 4 1001) (F.ETH_ROLE_TIMEOUT 1))) ∧
    (Permitted Requester.firmware (R.ETH_ROLE 1) (sPort 1 1 3) ∧ (sPort 1 1 3).portNamed 1 = true) ∧
    (Permitted Requester.firmware (R.ETH_IP6_ 1 3) (sPort 1 1 3)) :=
  ⟨by decide +kernel, by decide +kernel⟩

/-- Inputs for each clause of FramesAreCheckedAndPaused meet its hypotheses. -/
theorem test_witness_FramesAreCheckedAndPaused :
    ((let x := { fGood with length := 9601 : EthFrame }; let y := sPort 1 1 0; live y = true ∧ y.get (F.ETH_LOOP_MODE 1) = 0 ∧
      y.get (F.ETH_STATUS_LINK 1) = 1 ∧ x.fecUncorr = false ∧ (9600 < x.length ∨ x.fcsGood = false)) ∧
    (let x := sPort 1 1 0; live x = true ∧ x.get (F.ETH_LOOP_MODE 1) = 0 ∧ x.get (F.ETH_STATUS_LINK 1) = 1 ∧ fGood.fecUncorr =
      false ∧ fGood.length ≤ 9600 ∧ fGood.fcsGood = true ∧ fGood.pause = false ∧ x.vlanOk 1 fGood = true ∧ x.ipOk 1 fGood.ip =
      true) ∧
    (live sXoff = true ∧ sXoff.get (F.ETH_LOOP_MODE 1) = 0 ∧ 2 ∈ (sXoff.port 1).xoff ∧ 524287 < 524288) ∧
    (live (sPort 1 1 0) = true ∧ (sPort 1 1 0).get (F.ETH_LOOP_MODE 1) = 0)) ∧
    (let x := sPort 1 1 0; live x = true ∧ x.get (F.ETH_LOOP_MODE 1) = 0 ∧ x.get (F.ETH_STATUS_LINK 1) = 1 ∧ x.hasIp4 1
      167772161 = true) ∧
    (let x := sPort 1 1 0; live x = true ∧ x.get (F.ETH_LOOP_MODE 1) = 0 ∧ x.hasIp4 1 167772162 = false) :=
  ⟨by decide +kernel, by decide +kernel⟩

/-- Inputs for each clause of BattsBuildUnits meet its hypotheses. -/
theorem test_witness_BattsBuildUnits :
    ((let x := sPort 1 1 3; live x = true ∧ x.get (F.ETH_LOOP_MODE 1) = 0 ∧ bFirst.udpPort = 52160 ∧ x.hasIp 1 bFirst.dst = true
      ∧ x.get (F.ETH_STATUS_LINK 1) = 1 ∧ x.get (F.ETH_STATUS_LOST 1) = 0 ∧ battMalformed (parseBatt bFirst.bytes) = false ∧
      x.battRefused 1 (parseBatt bFirst.bytes) = false ∧ x.battOutside (parseBatt bFirst.bytes) = false ∧ x.stream (parseBatt
      bFirst.bytes).streamId = ({} : StreamState) ∧ (parseBatt bFirst.bytes).bflags.testBit 1 = false ∧ (parseBatt
      bFirst.bytes).bflags.testBit 2 = false ∧ x.heldRaw (parseBatt bFirst.bytes).streamId = [] ∧ x.bindField 1 (parseBatt
      bFirst.bytes).streamId (F.STRM_POOL_MAX_UNITS (parseBatt bFirst.bytes).streamId) ≠ 0 ∧ x.unitSpace (parseBatt
      bFirst.bytes).streamId (x.withItems (parseBatt bFirst.bytes) []) ≤ x.jitterSize (parseBatt bFirst.bytes).streamId ∧
      x.bindField 1 (parseBatt bFirst.bytes).streamId (F.STRM_TIMING_DEPTH_US (parseBatt bFirst.bytes).streamId) ≠ 0) ∧
    (let x := sUnit false; live x = true ∧ x.armed 1 3 = true ∧ (∀ v ∈ (x.stream 3).units, x.unitWhole 3 v = false ∧
      x.unitExpired v = false))) ∧
    (let x := sUnit true; live x = true ∧ x.armed 1 3 = true ∧ (x.stream 3).units = [uUnit true] ∧ x.unitWhole 3 (uUnit true) =
      false ∧ x.unitExpired (uUnit true) = true ∧ ((uUnit true).launch = none ∨ (uUnit true).asked = true) ∧ x.streamKind 3 ∈
      [4, 5]) :=
  ⟨by decide +kernel, by decide +kernel⟩

/-- An access unit being parsed, with a NAL unit and another after it. -/
def auOpen (bs : List Byte) : AuState :=
  { order := 0, unit := 1, launch := none, data := [], nals := [bs, [0x46, 1]], layers := [0], arrived := 0, begun := true }
/-- A slice of a picture that is not IRAP. -/
def nSlice : SliceNal := ⟨0, false, 0, 1, [], [], [(0, 4)]⟩
/-- Context 2 with a record. -/
def sCtx (x : DecCtx) : State := { State.reset with dec := { ctxs := [(2, x)] } }
/-- A row task of context 2, slot 1. -/
def rTask (k e : Nat) : RowTask :=
  { ctx := 2, order := 0, layer := 0, slot := 1, segment := 0, row := 0, first := 0, count := 2, tile := 0, opens := true
    wavefront := false, dependent := false, refs := [], interLayer := [], state := k, engine := e }
/-- A 32 × 16 picture, its CTUs as given. -/
def pPic (ctus : Tab Nat) : SlotPic := { width := 32, height := 16, ctbLog := 4, ctus := ctus }
/-- Context 2 serves stream 3, whose slots are leased in pool 5; tasks, engines struck and the picture as given. -/
def sDec (ts : List RowTask) (struck : List Nat) (ctus : Tab Nat) : State :=
  { withPools (stateWith [(F.DEC_CTX_CFG_STREAM_ID 2, 3), (F.DEC_CTX_SLOTS_SLOT_UNITS 2, 1), (F.DEC_STATUS_ENGINES, 0xFF)])
      [⟨5, 2, 4, 8⟩] with
    dec := { ctxs := [(2, { slots := [(1, pPic ctus)] })], tasks := ts, struck := struck }
    xlat := { leases := [(0, { state := 1, kind := 1, owner := 3, part := 1, pool := 5, base := 0, len := 64 })] } }

/-- Inputs for each clause of DecodingRuns meet its hypotheses. -/
theorem test_witness_DecodingRuns :
    ((let x := (sCtx { aus := [auOpen [68, 1]] : DecCtx }); live x = true ∧ x.parseAu 2 = some (auOpen [68, 1]) ∧ (auOpen
      [68, 1]).begun = true ∧ (auOpen [68, 1]).nals = [[68, 1], [70, 1]] ∧ 2 ≤ [68, 1].length ∧ (nalHeader [68, 1]).forbidden =
      false ∧ (nalHeader [68, 1]).temporal ≠ 0 ∧ (nalHeader [68, 1]).layer < 63 ∧ (nalHeader [68, 1]).type = 32 + paramKind
      (ParamContent.pps 0 false false [] [] 0) ∧ (x.dctx 2).activeSet (paramKind (ParamContent.pps 0 false false [] [] 0)) 0 =
      false) ∧
    (let x := (sCtx { aus := [auOpen [2, 1]] : DecCtx }); live x = true ∧ x.parseAu 2 = some (auOpen [2, 1]) ∧ (auOpen
      [2, 1]).begun = true ∧ (auOpen [2, 1]).nals = [[2, 1], [70, 1]] ∧ 2 ≤ [2, 1].length ∧ (nalHeader [2, 1]).forbidden = false
      ∧ (nalHeader [2, 1]).temporal ≠ 0 ∧ (nalHeader [2, 1]).layer < 63 ∧ (nalHeader [2, 1]).vcl = true ∧ (auOpen
      [2, 1]).dropped = false ∧ (x.dctx 2).baseSeen = false ∧ (¬((nalHeader [2, 1]).layer = 0 ∧ 16 ≤ (nalHeader [2, 1]).type))))
      ∧
    ((let x := (sCtx { aus := [auOpen [70, 1]] : DecCtx }); live x = true ∧ x.parseAu 2 = some (auOpen [70, 1]) ∧ (auOpen
      [70, 1]).begun = true ∧ (auOpen [70, 1]).nals = [[70, 1], [70, 1]] ∧ 2 ≤ [70, 1].length ∧ (nalHeader [70, 1]).forbidden =
      false ∧ (nalHeader [70, 1]).temporal ≠ 0 ∧ (nalHeader [70, 1]).layer < 63 ∧ ((nalHeader [70, 1]).type = 35 ∨ 41 ≤
      (nalHeader [70, 1]).type)) ∧
    (let x := (sCtx { aus := [auOpen [68]] : DecCtx }); live x = true ∧ x.parseAu 2 = some (auOpen [68]) ∧ (auOpen [68]).begun =
      true ∧ (auOpen [68]).nals = [[68], [70, 1]] ∧ ([68].length < 2 ∨ (nalHeader [68]).forbidden = true ∨ (nalHeader
      [68]).temporal = 0) ∧ (x.dlayer 2 (nalHeader [68]).layer).current = none)) ∧
    (let x := (sCtx { aus := [auOpen [69, 249]] : DecCtx }); live x = true ∧ x.parseAu 2 = some (auOpen [69, 249]) ∧ (auOpen
      [69, 249]).begun = true ∧ (auOpen [69, 249]).nals = [[69, 249], [70, 1]] ∧ 2 ≤ [69, 249].length ∧ (nalHeader
      [69, 249]).forbidden = false ∧ (nalHeader [69, 249]).temporal ≠ 0 ∧ (nalHeader [69, 249]).layer = 63) ∧
    (let x := sDec [] [] []; live x = true ∧ (∀ t ∈ x.dec.tasks, x.taskReady [] t = true → x.engineFor t = none)) ∧
    (let x := sDec [rTask 0 0] [] []; live x = true ∧ (∃ t ∈ x.dec.tasks, x.taskReady [] t = true ∧ x.engineFor t ≠ none)) ∧
    (let z := sDec [rTask 1 6] [] []; let u := { plane := 0, x := 2, y := 0, value := 1023 : Sample }; live z = true ∧
      z.engineTask 6 = some (rTask 1 6) ∧ z.stale (rTask 1 6).holds = none ∧ (rTask 1 6).orphan = none ∧ z.poison = [] ∧
      z.slotRange (rTask 1 6).ctx (rTask 1 6).slot = some (4 * 2097152 + 65536, 65536) ∧ (z.slot (rTask 1 6).ctx (rTask 1
      6).slot).sampleOffset u = some 4 ∧ (z.slot (rTask 1 6).ctx (rTask 1 6).slot).ctu ((z.slot (rTask 1 6).ctx (rTask 1
      6).slot).sampleCtu u) < 2 ∧ (z.slot (rTask 1 6).ctx (rTask 1 6).slot).ended = false ∧ (∀ a ∈ (z.dctx (rTask 1 6).ctx).aus,
      a.parsed = false)) :=
  ⟨by decide +kernel, by decide +kernel, by decide +kernel⟩

/-- Inputs for each clause of DecodingSurvivesErrors meet its hypotheses. -/
theorem test_witness_DecodingSurvivesErrors :
    ((let x := sDec [rTask 1 6] [] []; live x = true ∧ x.engineTask 6 = some (rTask 1 6) ∧ (rTask 1 6).orphan = none ∧ 6 ∉
      x.dec.struck) ∧
    (let x := sDec [rTask 1 6] [6] []; live x = true ∧ x.engineTask 6 = some (rTask 1 6) ∧ (rTask 1 6).orphan = none ∧ 6 ∈
      x.dec.struck ∧ (x.get F.DEC_STATUS_ENGINES).testBit 6 = true) ∧
    (live (sDec [rTask 1 6] [6] []) = true) ∧
    (let x := sDec [] [] [(0, 3)]; live x = true ∧ (x.slot 2 1).ctu 0 = 3 ∧ x.sourcesParsed 2 1 = true ∧ x.borrowLayers 2 1 = []
      ∧ x.temporalSource 2 1 = none ∧ x.earlierOpen 2 1 = false ∧ (x.slot 2 1).ended = false ∧ (∀ a ∈ (x.dctx 2).aus, a.parsed =
      false) ∧ 3 ≤ (x.slot 2 1).ctbLog)) ∧
    (let x := (sCtx { slotWait := some (0, 1) : DecCtx }); live x = true ∧ (x.dctx 2).slotWait = some (0, 1) ∧ 0 ≤ x.now ∧
      x.parseAu 2 = none) ∧
    (let x := (sCtx { slotWait := some (9, 1) : DecCtx }); live x = true ∧ (x.dctx 2).slotWait = some (9, 1) ∧ x.now < 9) :=
  ⟨by decide +kernel, by decide +kernel⟩

/-- The registers of layer 3: one key view of 1 × 1, seam wait and edges as given; block 9 works as a plank block. -/
def layerFields (depth wait edges : Nat) : List (Field × Nat) :=
  geomFields ++ [(F.CARD_LYR_SIZE_W 3, 1), (F.CARD_LYR_SIZE_H 3, 1), (⟨R.CARD_KVD 3 0, 23, 16⟩, 1),
    (F.CARD_LYR_SEAM_DEPTH 3, depth), (F.CARD_LYR_SEAM_WAIT_US 3, wait), (F.CARD_LYR_SEAM_EDGES 3, edges),
    (F.RB_ROLE_ROLE 1 1, 1), (F.RG_BLKSTATE_STATE 2 1, 1), (F.CHIP_EPOCH_EPOCH, 1), (⟨R.CARD_KSET, 31, 16⟩, 0x4353)]
/-- An instant of layer 3. -/
def iInstant (phase seamUntil : Nat) (regs : Tab Word) (views : List KeyViewRec) : Instant :=
  { layer := 3, count := 5, launch := some 900, unit := 1, input := .raw [] [], phase := phase, readyAt := 0
    seamUntil := seamUntil, seamMissed := false, views := views, excluded := [], todo := if phase = 1 then [0] else []
    rays := [], format := 2, fronts := [], holds := [], half := 0, area := none, late := false, clamped := false, withheld := false, regs := regs }
/-- An instant waits. -/
def sInstant : State := { stateWith (layerFields 0 0 0) with card := { instants := [iInstant 0 0 [] []] } }
/-- Both halves of the work pool are taken. -/
def sHalves : State :=
  { stateWith (layerFields 0 0 0) with
    card := { instants := [iInstant 0 0 [] [], iInstant 1 0 [] [], { iInstant 1 0 [] [] with count := 4 }] } }
/-- A key view of one sample. -/
def kvOne : KeyViewRec := ⟨true, false, false, false, false, [(0, some 0x3C003C003C000000)]⟩
/-- A tile of an instant runs in cell 3 of block 9. -/
def sTile : State :=
  let s := stateWith (layerFields 0 0 0)
  { s.setBlock 9 { cells := [(3, { item := some ⟨.card 3 5 0, false⟩ })] } with
    card := { instants := [iInstant 1 0 s.regs [kvOne]] } }
/-- An instant waits for its seams until a time. -/
def sSeam (until_ : Nat) : State :=
  let s := stateWith (layerFields 1 10 1)
  { s with now := 10000, card := { instants := [iInstant 0 until_ s.regs []] } }

/-- Inputs for each clause of InstantsCardTiles meet its hypotheses. -/
theorem test_witness_InstantsCardTiles :
    ((live sInstant = true ∧ sInstant.waitingInstant 3 = some (iInstant 0 0 [] []) ∧ sInstant.halfFree 3 = true ∧
      sInstant.seamReady (iInstant 0 0 [] []) = true ∧ seamEdges sInstant.regs 3 = [] ∧ sInstant.poison = [] ∧ (∃ k < lyrViews
      sInstant.regs 3, (sInstant.keySource { (iInstant 0 0 [] []) with regs := sInstant.regs : Instant } k).present = true)) ∧
    (live sHalves = true ∧ sHalves.waitingInstant 3 = some (iInstant 0 0 [] []) ∧ sHalves.halfFree 3 = false) ∧
    (let x := stateWith (layerFields 0 0 0); live sTile = true ∧ sTile.cellItem 9 3 = some
      { item := WorkItem.card 3 5 0, reissued := false : QueuedItem } ∧ sTile.instantOf 3 5 = some (iInstant 1 0 x.regs [kvOne])
      ∧ (iInstant 1 0 x.regs [kvOne]).phase = 1 ∧ 0 ∈ (iInstant 1 0 x.regs [kvOne]).todo ∧ sTile.instantFault (iInstant 1 0
      x.regs [kvOne]) = none ∧ sTile.workPoisoned (iInstant 1 0 x.regs [kvOne]) = false ∧ sTile.ckStd = true ∧ (iInstant 1 0
      x.regs [kvOne]).withheld = false ∧ (iInstant 1 0 x.regs [kvOne]).late = false ∧ 3 < 64)) ∧
    (let x := stateWith (layerFields 1 10 1); let y := sSeam 10000; live y = true ∧ y.waitingInstant 3 = some (iInstant 0 10000
      x.regs []) ∧ (iInstant 0 10000 x.regs []).seamUntil ≠ 0 ∧ (iInstant 0 10000 x.regs []).seamUntil ≤ y.now ∧ y.seamReady
      (iInstant 0 10000 x.regs []) = false) ∧
    (let x := stateWith (layerFields 1 10 1); let y := sSeam 10001; live y = true ∧ y.waitingInstant 3 = some (iInstant 0 10001
      x.regs []) ∧ (iInstant 0 10001 x.regs []).seamUntil ≠ 0 ∧ y.now < (iInstant 0 10001 x.regs []).seamUntil) :=
  ⟨by decide +kernel, by decide +kernel⟩

/-- The bytes of a map of one hogel, entry as given. -/
def bMap (entry : Nat) : List Byte :=
  leBytes 0x50414D43 4 ++ leBytes 1 4 ++ leBytes 1 2 ++ leBytes 1 2 ++ leBytes 0 4 ++ leBytes (crc32c (leBytes entry 8)) 4 ++
  leBytes 0 12 ++ leBytes entry 8
/-- A geometry, a source pool and a staging pool; PENDING as given. -/
def sMap (pending : Nat) : State :=
  withPools (stateWith (geomFields ++ [(F.CHIP_MODE_MODE, 0x5), (F.CONF_MAPSTATUS_PENDING, pending), (F.CONF_MAPSRC_POOL_ID, 4),
    (F.CONF_STAGE_POOL_ID, 2), (F.CHIP_EPOCH_EPOCH, 1)])) [⟨2, 3, 16, 64⟩, ⟨4, 0, 96, 4⟩, ⟨5, 0, 200, 4⟩]
/-- The map source names no pool. -/
def sNoSource : State := stateWith (geomFields ++ [(F.CHIP_MODE_MODE, 0x5)])
/-- A map is in check. -/
def sMapLoad (bs : List Byte) : State := { sMap 1 with conf := { load := some ⟨bs, 0, false⟩ } }
/-- A colour set is staged; PENDING as given. -/
def sColour (pending : Nat) : State :=
  (stateWith [(F.CHIP_MODE_MODE, 0x5), (F.CONF_COLSTATUS_PENDING, pending)]).stageWrite (R.CONF_COLOUR) 1
/-- A value of CONF_STAGE. -/
def wStage (pool frames : Nat) : Word := (stateWith [(F.CONF_STAGE_POOL_ID, pool), (F.CONF_STAGE_FRAMES, frames)]).word R.CONF_STAGE
/-- Presentation is armed, an instant of launch time 900 is complete, slots are free. -/
def sFrame : State :=
  { stateWith (geomFields ++ [(F.CHIP_MODE_MODE, 0x6), (F.CONF_FRAME_FRAMES_IN_FORCE, 2), (F.CHIP_EPOCH_EPOCH, 1)]) with
    kcp := { paths := [(pathKey 4 0, { state := 3, joined := true })] }
    card := { instants :=
      [{ layer := 3, count := 5, launch := some 900, unit := 1, input := .rays, phase := 2, readyAt := 0, seamUntil := 0
         seamMissed := false, views := [], excluded := [], todo := [], rays := [], format := 2, fronts := [], holds := [], half := 0, area := none
         late := false, clamped := false, withheld := false, regs := [] }] } }
/-- Frame 1 is built; one of its items runs in cell 3 of block 9. -/
def sItem : State :=
  { (stateWith (geomFields ++ [(F.CHIP_EPOCH_EPOCH, 1), (⟨R.CARD_KSET, 31, 16⟩, 0x4353)])).setBlock 9
      { cells := [(3, { item := some ⟨.conf 1 0, false⟩ })] } with
    conf := { frames := [(1, { state := 1, todo := [0, 1] })] } }

/-- Inputs for each clause of HostMapsAndColourSets meet its hypotheses. -/
theorem test_witness_HostMapsAndColourSets :
    ((sMap 0).mapSource = some (Except.ok (List.replicate 40 0))) ∧
    ((let x := sMap 0; Permitted Requester.firmware R.CONF_MAPCTRL x ∧ x.flag F.CONF_MAPSTATUS_PENDING = false ∧ x.get
      F.CONF_MAPSRC_FULLER = 0 ∧ x.stagingPool = some { id := 2, kind := 3, base := 16, size := 64 : PoolRec } ∧ (List.replicate
      40 0).length ≤ mapUnits x.geom * 2097152) ∧
    (Permitted Requester.firmware R.CONF_MAPCTRL sNoSource ∧ sNoSource.flag F.CONF_MAPSTATUS_PENDING = false ∧
      sNoSource.mapSource = none) ∧
    (Permitted Requester.firmware R.CONF_MAPCTRL (sMap 1) ∧ (sMap 1).flag F.CONF_MAPSTATUS_PENDING = true) ∧
    (let x := { bytes := bMap 0, early := 0, sizing := false : MapLoad }; let y := sMapLoad (bMap 0); live y = true ∧
      y.conf.load = some x ∧ y.flag F.CONF_MAPSTATUS_READY = false ∧ x.early = 0 ∧ (mapCheck y.geom (y.get F.SIZ_LIMIT_STEP_DXY)
      (y.get F.SIZ_LIMIT_STEP_RS) x.bytes).1 = 0) ∧
    (let x := sMapLoad (bMap (2 ^ 60)); let y := { bytes := bMap (2 ^ 60), early := 0, sizing := false : MapLoad }; live x =
      true ∧ x.conf.load = some y ∧ x.flag F.CONF_MAPSTATUS_READY = false ∧ y.early = 0 ∧ (mapCheck x.geom (x.get
      F.SIZ_LIMIT_STEP_DXY) (x.get F.SIZ_LIMIT_STEP_RS) y.bytes).1 ≠ 0) ∧
    (Permitted Requester.firmware R.CONF_MAPCTRL (sMap 1))) ∧
    (Permitted Requester.firmware R.CONF_COLCTRL (sColour 0) ∧ (sColour 0).flag F.CONF_COLSTATUS_PENDING = false) ∧
    (Permitted Requester.firmware R.CONF_COLCTRL (sColour 1) ∧ (sColour 1).flag F.CONF_COLSTATUS_PENDING = true) ∧
    (Permitted Requester.firmware R.CONF_COLCTRL (sColour 1)) ∧
    (let x := { id := 2, kind := 3, base := 16, size := 64 : PoolRec }; let y := sMap 0; Permitted Requester.firmware
      R.CONF_STAGE y ∧ y.armedIds 2 = [] ∧ y.armed 4 0 = false ∧ 2 ≤ wordField (wStage 2 2) F.CONF_STAGE_FRAMES ∧ wordField
      (wStage 2 2) F.CONF_STAGE_FRAMES ≤ 32 ∧ y.pool (wordField (wStage 2 2) F.CONF_STAGE_POOL_ID) = some x ∧ x.kind = 3 ∧
      stagingNeed y.geom (wordField (wStage 2 2) F.CONF_STAGE_FRAMES) ≤ x.size) ∧
    (let x := { id := 4, kind := 0, base := 96, size := 4 : PoolRec }; let y := sMap 0; Permitted Requester.firmware
      R.CONF_STAGE y ∧ y.armedIds 2 = [] ∧ y.armed 4 0 = false ∧ 2 ≤ wordField (wStage 4 32) F.CONF_STAGE_FRAMES ∧ wordField
      (wStage 4 32) F.CONF_STAGE_FRAMES ≤ 32 ∧ y.pool (wordField (wStage 4 32) F.CONF_STAGE_POOL_ID) = some x ∧ (x.kind ≠ 3 ∨
      x.size < stagingNeed y.geom (wordField (wStage 4 32) F.CONF_STAGE_FRAMES))) :=
  ⟨(eq_some_ok _ _ (by decide +kernel)), by decide +kernel, by decide +kernel⟩

/-- Inputs for each clause of RayFramesAreBuilt meet its hypotheses. -/
theorem test_witness_RayFramesAreBuilt :
    (live sFrame = true ∧ sFrame.queued = true ∧ sFrame.building = false ∧ sFrame.nextLaunch = some 900 ∧ sFrame.launchReady 900
      = true ∧ (∀ i ∈ sFrame.card.instants, i.late = false) ∧ sFrame.frameSet (some 900) ≠ [] ∧ sFrame.freeSlot = some 0) ∧
    (live sItem = true ∧ sItem.cellItem 9 3 = some { item := WorkItem.conf 1 0, reissued := false : QueuedItem } ∧ sItem.stale
      (sItem.frame 1).holds = none ∧ (sItem.frame 1).state = 1 ∧ 0 ∈ (sItem.frame 1).todo ∧ setErase 0 (sItem.frame 1).todo ≠ []
      ∧ sItem.ckStd = true) :=
  by decide +kernel

/-- The parameters of plank 1: OP, pool of the destination, width and height of the rectangle; IDLE. -/
def plankFields (op pool w h : Nat) : List (Field × Nat) :=
  [(F.CHIP_MODE_MODE, 0x5), (F.PLK_OP_OP 1, op), (F.PLK_DST_SURF_POOL_ID 1, pool), (F.PLK_DST_SURF_FORMAT 1, 0),
    (F.PLK_DST_PITCH_PITCH 1, 256), (⟨R.PLK_OP 1 + 20, 15, 0⟩, w), (⟨R.PLK_OP 1 + 20, 31, 16⟩, h), (⟨R.PLK_OP 1 + 40, 31, 0⟩, 0xABCD)]
/-- A surface pool and the parameters. -/
def sPlank (op pool w h : Nat) : State := withPools (stateWith (plankFields op pool w h)) [⟨4, 0, 96, 4⟩, ⟨7, 7, 100, 4⟩]
/-- The words of plank 1 at START. -/
def wPlank (w h : Nat) : List Nat := (plankAddrs 1).map (fun a => ((sPlank 2 4 w h).word a).toNat)
/-- Plank 1 runs an operation, or waits for its domain. -/
def sPlankBusy (waiting : Bool) : State :=
  { (sPlank 2 4 3 40).set (F.PLK_STATUS_BUSY 1) 1 with plank := [(1, some ⟨wPlank 3 40, 16, false, waiting⟩)] }
/-- Overlay 2 in a state: its buffers lie in the surface pool of plank 1's destination. -/
def sOverlayBuffer (k : Nat) : State :=
  { (withPools (stateWith (plankFields 2 7 3 40 ++ [(F.OV_POOL_POOL_ID 2, 7), (F.OV_PITCH_PITCH 2, 256), (F.OV_SIZE_W 2, 4),
      (F.OV_SIZE_H 2, 4), (F.OV_BUF1_BASE 2, 4096)])) [⟨7, 7, 100, 4⟩]).setPath 3 2 { state := k } with
    plank := [(1, some ⟨(plankAddrs 1).map (fun a => ((sPlank 2 7 3 40).word a).toNat), 16, false, false⟩)] }

/-- Inputs for each clause of PlankStartsAndAborts meet its hypotheses. -/
theorem test_witness_PlankStartsAndAborts :
    (let x := sPlank 2 4 3 40; Permitted Requester.firmware (R.PLK_CTRL 1) x ∧ x.flag (F.PLK_STATUS_BUSY 1) = false ∧
      (x.plankCheck 1 (plankParams (List.map (fun a => BitVec.toNat (x.word a)) (plankAddrs 1))) = none) ∧ ((plankParams
      (List.map (fun a => BitVec.toNat (x.word a)) (plankAddrs 1))).w ≠ 0) ∧ ((plankParams (List.map (fun a => BitVec.toNat
      (x.word a)) (plankAddrs 1))).h ≠ 0)) ∧
    (let x := sPlank 2 4 0 40; Permitted Requester.firmware (R.PLK_CTRL 1) x ∧ x.flag (F.PLK_STATUS_BUSY 1) = false ∧
      (x.plankCheck 1 (plankParams (List.map (fun a => BitVec.toNat (x.word a)) (plankAddrs 1))) = none) ∧ ((plankParams
      (List.map (fun a => BitVec.toNat (x.word a)) (plankAddrs 1))).w = 0 ∨ (plankParams (List.map (fun a => BitVec.toNat
      (x.word a)) (plankAddrs 1))).h = 0)) ∧
    (let x := sPlank 2 9 3 40; Permitted Requester.firmware (R.PLK_CTRL 1) x ∧ x.flag (F.PLK_STATUS_BUSY 1) = false ∧
      (x.plankCheck 1 (plankParams (List.map (fun a => BitVec.toNat (x.word a)) (plankAddrs 1))) = some Status.pool)) ∧
    (Permitted Requester.firmware (R.PLK_CTRL 1) (sPlankBusy false) ∧ (sPlankBusy false).flag (F.PLK_STATUS_BUSY 1) = true) ∧
    (let x := { words := wPlank 3 40, lines := 16, wmarked := false, waiting := true : PlankOp }; Permitted Requester.firmware
      (R.PLK_CTRL 1) (sPlankBusy true) ∧ tabGet none (sPlankBusy true).plank 1 = some x ∧ x.waiting = true) :=
  by decide +kernel

/-- Inputs for each clause of PlankWritesAndOverlayFronts meet its hypotheses. -/
theorem test_witness_PlankWritesAndOverlayFronts :
    ((let y := { words := wPlank 3 40, lines := 16, wmarked := false, waiting := false : PlankOp }; let z := sPlankBusy false;
      live z = true ∧ tabGet none z.plank 1 = some y ∧ y.waiting = false ∧ (plankParams y.words).op = 2 ∧ (plankParams
      y.words).dst.format ∈ [0, 1, 2, 4] ∧ pitchLegal (plankParams y.words).dst (plankParams y.words).x (plankParams y.words).w
      = true ∧ (plankParams y.words).wmark = false ∧ y.lines + 16 < (plankParams y.words).h ∧ z.pool (plankParams
      y.words).dst.pool = some { id := 4, kind := 0, base := 96, size := 4 : PoolRec }) ∧
    (let x := sOverlayBuffer 0; Permitted Requester.firmware (R.OV_FRONT 2) x ∧ x.kcp.shadow = none ∧ (x.path 3 2).state = 0) ∧
    (let x := sOverlayBuffer 2; Permitted Requester.firmware (R.OV_FRONT 2) x ∧ x.kcp.shadow = none ∧ (x.path 3 2).state ≠ 0 ∧
      x.bindField 3 2 (F.OV_FMT_SOURCE 2) ≠ 1 ∧ x.plankWrites 2 (wordField 1 (F.OV_FRONT_FRONT 2)) = false) ∧
    (let x := sOverlayBuffer 2; Permitted Requester.firmware (R.OV_FRONT 2) x ∧ x.kcp.shadow = none ∧ (x.path 3 2).state ≠ 0 ∧
      x.bindField 3 2 (F.OV_FMT_SOURCE 2) ≠ 1 ∧ x.plankWrites 2 (wordField 0 (F.OV_FRONT_FRONT 2)) = true)) ∧
    (let x := sOverlayBuffer 2; Permitted Requester.firmware (R.OV_FRONT 2) (x.set (F.OV_FMT_SOURCE 2) 1) ∧ (x.set
      (F.OV_FMT_SOURCE 2) 1).kcp.shadow = none ∧ ((x.set (F.OV_FMT_SOURCE 2) 1).path 3 2).state ≠ 0 ∧ (x.set (F.OV_FMT_SOURCE 2)
      1).bindField 3 2 (F.OV_FMT_SOURCE 2) = 1) :=
  ⟨by decide +kernel, by decide +kernel⟩

/-- Link n in a STATE and ATTEMPT, with a record, at a time. -/
def sLink (n k attempt : Nat) (u : LinkUnit) (now : Nat) : State :=
  { stateWith [(F.CHIP_MODE_MODE, 0x5), (F.LNK_STATUS_STATE n, k), (F.LNK_STATUS_ATTEMPT n, attempt)] with now := now, links := [(n, u)] }
/-- Eight lanes of a kind. -/
def xLanes (x : LinkLane) : Tab LinkLane := (upto 0 8).map (fun i => (i, x))
/-- A value of LNK_CFG of link 2. -/
def wLink (start rate enable : Nat) : Word :=
  (stateWith [(F.LNK_CFG_START 2, start), (F.LNK_CFG_RATE 2, rate), (F.LNK_CFG_ENABLE 2, enable)]).word (R.LNK_CFG 2)
/-- A value of LNK_PRESET. -/
def wPreset (amp : Nat) : Word := (stateWith [(F.LNK_PRESET_AMP 3, amp), (F.LNK_PRESET_POST 3, 24), (F.LNK_PRESET_PRE 3, 12)]).word (R.LNK_PRESET 3)

/-- Inputs for each clause of LanesLockAndCount meet its hypotheses. -/
theorem test_witness_LanesLockAndCount :
    ((let x := (sLink 2 1 1 { lanes := xLanes { sigdet := true, idles := 2, alignment := 4 : LinkLane } : LinkUnit } 0); live x
      = true ∧ x.receiving 2 = true ∧ 7 < laneCount 2 ∧ (x.lane 2 7).sigdet = true ∧ (x.lane 2 7).symlock = false) ∧
    (let x := (sLink 2 1 1 { lanes := xLanes { sigdet := true, symlock := true : LinkLane }, bursts := true : LinkUnit } 0);
      live x = true ∧ x.receiving 2 = true ∧ 7 < laneCount 2 ∧ (x.lane 2 7).symlock = true ∧ x.linkState 2 = 1 ∧ (x.link
      2).bursts = true) ∧
    (let x := (sLink 2 1 1
      { lanes := xLanes { sigdet := true, symlock := true, laneSeen := 7 : LinkLane }, bursts := true : LinkUnit } 0); live x =
      true ∧ x.receiving 2 = true ∧ 7 < laneCount 2 ∧ (((x.lanes 2).all fun y => y.symlock) = true) ∧ 2 ≤ 0 + 2 ∧ 0 ≤ 2 + 2) ∧
    (let x := (sLink 2 1 1 ({} : LinkUnit) 1000000); live x = true ∧ x.receiving 2 = true ∧ 7 < laneCount 2 ∧ (x.link
      2).lastHeard + x.symbolsNs 2 1024 ≤ x.now)) ∧
    (let x := (sLink 2 1 1 { lanes := xLanes { sigdet := true, symlock := true : LinkLane } : LinkUnit } 0); live x = true ∧
      x.receiving 2 = true ∧ 7 < laneCount 2 ∧ ((x.lane 2 7).errors < 3 ∨ (x.lane 2 7).symlock = false) ∧ groupKind
      { bits := 0, positive := true : CodeGroup }.positive 0 ≠ GroupKind.good) :=
  ⟨by decide +kernel, by decide +kernel⟩

/-- Inputs for each clause of LinksTrainAndRecover meet its hypotheses. -/
theorem test_witness_LinksTrainAndRecover :
    ((let x := (sLink 2 5 8 ({} : LinkUnit) 7); x.panel.opened = none ∧ Permitted Requester.firmware (R.LNK_CTRL 2) x ∧
      x.linkState 2 ≠ 0) ∧
    (let x := (sLink 2 0 0 ({} : LinkUnit) 7); x.panel.opened = none ∧ Permitted Requester.firmware (R.LNK_CFG 2) x ∧
      x.linkWindow 2 = true ∧ (x.link 2).stopped = false ∧ (2 = 0 ∨ wordField (wLink 0 3 1) (F.LNK_CFG_START 2) = 0 ∧ wordField
      (wLink 0 3 1) (F.LNK_CFG_RATE 2) = 3)) ∧
    (let x := (sLink 2 4 0 ({} : LinkUnit) 7); x.panel.opened = none ∧ Permitted Requester.firmware (R.LNK_CFG 2) x ∧
      x.linkWindow 2 = true ∧ (x.link 2).stopped = false ∧ (2 = 0 ∨ wordField (wLink 0 3 0) (F.LNK_CFG_START 2) = 0 ∧ wordField
      (wLink 0 3 0) (F.LNK_CFG_RATE 2) = 3)) ∧
    (let x := (sLink 2 1 3 { bursts := true : LinkUnit } 2000000); x.panel.opened = none ∧ live x = true ∧ x.linkState 2 = 1 ∧
      (x.link 2).bursts = true ∧ (x.link 2).since + 2000000 ≤ x.now)) ∧
    ((let x := (sLink 2 1 8 ({} : LinkUnit) 10000000); x.panel.opened = none ∧ live x = true ∧ x.linkState 2 = 1 ∧ (x.link
      2).stepping = false ∧ (x.link 2).since + 10000000 ≤ x.now) ∧
    (let x := (sLink 2 1 7 ({} : LinkUnit) 10000000); x.panel.opened = none ∧ live x = true ∧ x.linkState 2 = 1 ∧ (x.link
      2).stepping = false ∧ (x.link 2).since + 10000000 ≤ x.now) ∧
    (let x := (sLink 2 1 7 ({} : LinkUnit) 9999999); x.panel.opened = none ∧ live x = true ∧ x.linkState 2 = 1 ∧ x.now < (x.link
      2).since + 10000000) ∧
    (let x := (sLink 2 2 7 ({} : LinkUnit) 640000000); x.panel.opened = none ∧ live x = true ∧ x.linkState 2 = 2 ∧ x.get
      (F.LNK_STATUS_ATTEMPT 2) < 8 ∧ (x.link 2).since + 10000000 * 2 ^ (x.get (F.LNK_STATUS_ATTEMPT 2) - 1) ≤ x.now)) ∧
    ((let x := (sLink 2 4 1 { lanes := xLanes { sigdet := true, symlock := true, deskewed := true : LinkLane } : LinkUnit } 7);
      live x = true ∧ x.panel.opened = none ∧ 7 < laneCount 2 ∧ (x.lane 2 7).sigdet = true ∧ 2 ≠ 0) ∧
    (let x := (sLink 2 1 1 { lanes := xLanes { sigdet := true, symlock := true, deskewed := true : LinkLane } : LinkUnit } 7);
      live x = true ∧ x.panel.opened = none ∧ 7 < laneCount 2 ∧ (x.lane 2 7).sigdet = true ∧ 2 ≠ 0) ∧
    (let x := (sLink 2 5 8 ({} : LinkUnit) 7); live x = true ∧ x.panel.opened = none ∧ 7 < laneCount 2 ∧ (x.lane 2 7).sigdet =
      false) ∧
    (let x := (sLink 2 1 8 ({} : LinkUnit) 7); live x = true ∧ x.panel.opened = none ∧ 7 < laneCount 2 ∧ (x.lane 2 7).sigdet =
      false)) ∧
    (let x := (sLink 2 1 1 { lanes := xLanes { deskewed := true, missing := 1 : LinkLane } : LinkUnit } 7); live x = true ∧
      x.panel.opened = none ∧ 7 < laneCount 2 ∧ x.receiving 2 = true ∧ x.linkUp 2 = false) ∧
    (let x := (sLink 2 4 1 { lanes := xLanes { sigdet := true, symlock := true : LinkLane } : LinkUnit } 7); live x = true ∧
      x.panel.opened = none) ∧
    (let x := (sLink 0 3 1 { step := some 2, stepAt := some 0 : LinkUnit } 1000000); live x = true ∧ x.panel.opened = none ∧
      x.linkState 0 = 3 ∧ (x.link 0).stepAt = some 0 ∧ (x.link 0).lastStep = false ∧ 0 + 1000000 ≤ x.now) ∧
    (let x := (sLink 0 6 1 { step := some 2 : LinkUnit } 100000); live x = true ∧ x.panel.opened = none ∧ x.linkState 0 = 6 ∧
      (x.link 0).step = some 2 ∧ 2 < 4 ∧ (x.link 0).since + 100000 ≤ x.now) :=
  ⟨by decide +kernel, by decide +kernel, by decide +kernel, by decide +kernel⟩

/-- Inputs for each clause of LanesCarryPeriodsAndPackets meet its hypotheses. -/
theorem test_witness_LanesCarryPeriodsAndPackets :
    ((let x := (sLink 2 4 1 { lanes := xLanes { symlock := true : LinkLane }, aseq := 255 : LinkUnit } 20000); live x = true ∧
      x.get (F.LNK_LOOP_MODE 2) = 0 ∧ x.linkState 2 ∉ [0, 3, 6, 7] ∧ (x.link 2).period * x.linkRate 2 + 327680 ≤ x.now *
      x.linkRate 2 ∧ (x.link 2).bursts = false ∧ (x.link 2).tx.bursts = false ∧ (x.link 2).trainDue = false ∧ (2 ≠ 0 ∨
      x.panel.holding = false ∧ (x.link 2).presetDue = false)) ∧
    (let x := (sLink 0 4 1 { lanes := xLanes { symlock := true : LinkLane }, aseq := 255 : LinkUnit } 20000); live x = true ∧
      x.get (F.LNK_LOOP_MODE 0) = 0 ∧ x.linkState 0 ∉ [0, 3, 6, 7] ∧ (x.link 0).period * x.linkRate 0 + 327680 ≤ x.now *
      x.linkRate 0 ∧ (x.link 0).bursts = false ∧ (x.link 0).tx.bursts = false ∧ (x.link 0).trainDue = false ∧ (0 ≠ 0 ∨
      x.panel.holding = false ∧ (x.link 0).presetDue = false)) ∧
    (let x := (sLink 2 4 1 ({} : LinkUnit) 10000000); live x = true ∧ x.linkState 2 ∉ [0, 6] ∧ (x.link 2).bursts = false ∧ (if 2
      = 0 then max (x.link 2).lastBusy x.panel.busyUntil else (x.link 2).lastBusy) + x.symbolsNs 2 65536 ≤ x.now) ∧
    (Permitted Requester.firmware (R.LNK_PRESET 3) (sLink 2 4 1 ({} : LinkUnit) 0) ∧ (16 ≤ wordField (wPreset 48)
      (F.LNK_PRESET_AMP 3) ∧ wordField (wPreset 48) (F.LNK_PRESET_AMP 3) ≤ 48 ∧ wordField (wPreset 48) (F.LNK_PRESET_POST 3) ≤
      24 ∧ wordField (wPreset 48) (F.LNK_PRESET_PRE 3) ≤ 12))) ∧
    (Permitted Requester.firmware (R.LNK_PRESET 3) (sLink 2 4 1 ({} : LinkUnit) 0) ∧ (¬(16 ≤ wordField (wPreset 15)
      (F.LNK_PRESET_AMP 3) ∧ wordField (wPreset 15) (F.LNK_PRESET_AMP 3) ≤ 48 ∧ wordField (wPreset 15) (F.LNK_PRESET_POST 3) ≤
      24 ∧ wordField (wPreset 15) (F.LNK_PRESET_PRE 3) ≤ 12))) ∧
    ((∀ x ∈ [k285, d102, Symbol.d 128], x ∈ allSymbols)) ∧
    ((List.replicate 96 17).length = 96 ∧ ((List.map (fun g => g + 1) (upto 0 12)).length = 12) ∧ [1, 2, 3].length ≤ 96 * 4) :=
  ⟨by decide +kernel, by decide +kernel⟩

/-- An UP panel link in LIVE: TE every 16 ms, last at 5 ms, presentation armed, a staging pool; time now. -/
def sPanel (l : List (Field × Nat)) (now : Nat) (p : PanelState) (frames : Tab FrameEntry) : State :=
  { withPools (stateWith (geomFields ++ [(F.CHIP_MODE_MODE, 0x6), (F.CHIP_EPOCH_EPOCH, 1), (F.LNK_STATUS_STATE 0, 4),
      (F.PANEL_STATUS_TE_OK, 1), (F.PANEL_STATUS_CAPS_OK, 1), (F.PANEL_STATUS_BSTATE, 0), (⟨R.PANEL_TEPER, 31, 0⟩, 16000000), (F.PANEL_TEWIDTH_WIDTH_NS, 100),
      (F.CONF_STAGE_POOL_ID, 2), (F.CONF_FRAME_FRAMES_IN_FORCE, 2)] ++ l)) [⟨2, 3, 16, 64⟩] with
    now := now, time := { q := now * 2 ^ 48 }, panel := p, conf := { frames := frames }
    kcp := { paths := [(pathKey 4 0, { state := 3, joined := true })] } }
/-- A frame is open with one push, the next to send as given. -/
def oFrame (next : Nat) (busy : Option (Nat × Bool)) (abortedAt : Option Nat) (committed : Bool) : OpenFrame :=
  { handle := 1, frameNo := 9, pushes := [⟨0, 0, 1⟩], next := next, busy := busy, abortedAt := abortedAt, committed := committed }
/-- The panel record with it, the packet in progress until a time. -/
def pOpen (o : OpenFrame) (busyUntil : Nat) : PanelState :=
  { edge := some 5000000, edgeAt := 5000000, edges := 3, opened := some o, busyUntil := busyUntil }
/-- A STATUS body that shows frame 9 on the panel. -/
def bStatus : List Byte :=
  leBytes 1 2 ++ leBytes 9 2 ++ leBytes 0 2 ++ [2, 0] ++ leBytes 0 8 ++ leBytes 0xFFFFFFFF 4 ++ leBytes 0 20
/-- A CAPS body for a panel of 2 × 1 pixels. -/
def bCaps : List Byte :=
  leBytes 2 2 ++ leBytes 0 6 ++ leBytes 2 4 ++ leBytes 1 4 ++ leBytes 0xFF 4 ++ leBytes 8 4 ++ leBytes 0 8 ++ leBytes 387072 4 ++ leBytes 0 4
/-- A query waits for its answer. -/
def pQuery (queries : Nat) : PanelState := { querying := true, queries := queries }

/-- Inputs for each clause of FramesArePushed meet its hypotheses. -/
theorem test_witness_FramesArePushed :
    ((let x := sPanel [] 6000000 (pOpen (oFrame 0 none none false) 0) []; let y := { tx0 := 0, ty := 0, tw := 1 : Push }; live x
      = true ∧ x.panel.opened = some (oFrame 0 none none false) ∧ x.canSend (oFrame 0 none none false) = true ∧ x.compActive =
      false ∧ (oFrame 0 none none false).takePush = some (0, oFrame 1 none none false) ∧ (oFrame 0 none none false).pushes[0]? =
      some y ∧ x.pushPoison (oFrame 0 none none false).handle y = none ∧ x.prefetch (x.pushData (oFrame 0 none none
      false).handle y).length ≤ x.onChip 0 (x.pushData (oFrame 0 none none false).handle y).length 100000000) ∧
    (let x := sPanel [] 6000000 (pOpen (oFrame 0 none none false) 0) []; let y := { tx0 := 0, ty := 0, tw := 1 : Push }; live x
      = true ∧ x.panel.opened = some (oFrame 0 none none false) ∧ x.canSend (oFrame 0 none none false) = true ∧ x.compActive =
      false ∧ (oFrame 0 none none false).takePush = some (0, oFrame 1 none none false) ∧ (oFrame 0 none none false).pushes[0]? =
      some y ∧ x.pushPoison (oFrame 0 none none false).handle y = none ∧ x.onChip 0 (x.pushData (oFrame 0 none none
      false).handle y).length 1 < x.prefetch (x.pushData (oFrame 0 none none false).handle y).length)) ∧
    ((let x := sPanel [] 6000000 (pOpen (oFrame 1 none none false) 0) []; live x = true ∧ x.panel.opened = some (oFrame 1 none
      none false) ∧ x.canSend (oFrame 1 none none false) = true ∧ (oFrame 1 none none false).sent = true ∧ x.teOk = true ∧
      x.commitWindow = true ∧ x.tiled = false) ∧
    (let x := sPanel [] 6000000 (pOpen (oFrame 1 (some (0, false)) none false) 6000001) []; live x = true ∧ x.panel.opened =
      some (oFrame 1 (some (0, false)) none false) ∧ (oFrame 1 (some (0, false)) none false).busy = some (0, false) ∧ x.now <
      x.panel.busyUntil ∧ (oFrame 1 (some (0, false)) none false).abortedAt = none ∧ x.panel.whole = false)) ∧
    (let x := (sPanel [] 6000000 { edge := some 5000000, edgeAt := 5000000, edges := 3 : PanelState }
      [(1, { state := 2, target := some 21000000, dirty := [0] : FrameEntry })]); live x = true ∧ x.presenting = true ∧
      x.panel.opened = none ∧ x.pins.te = false ∧ x.afl.leaderHold = false ∧ x.memChanging = false ∧ x.linkUp 0 = true ∧ x.flag
      F.PANEL_STATUS_CAPS_OK = true ∧ x.tiled = false ∧ x.nextEdge = some 21000000 ∧ x.readyEntries = [1] ∧ (x.frame 1).target ≠
      none ∧ x.dueBy 21000000 1 = true ∧ (x.frame 1).noEdge = false ∧ 21000000 + x.teWidth ≤ x.q9 + x.tePeriod ∧ x.canMeet
      21000000 (x.frameTime (x.frame 1).dirty) = true ∧ x.wholeNext = false ∧ x.panel.held = false ∧ x.modeNow ≠ 11) :=
  ⟨by decide +kernel, by decide +kernel, by decide +kernel⟩

/-- Inputs for each clause of PanelAnswersAreTaken meet its hypotheses. -/
theorem test_witness_PanelAnswersAreTaken :
    ((let x := (sPanel [] 6000000 (pOpen (oFrame 1 none none true) 0) [(1, { state := 4 : FrameEntry })]); live x = true ∧
      x.linkUp 0 = true ∧ x.modeNow ≠ 3 ∧ x.modeNow ≠ 12 ∧ returnBody [1, 2, 3] = none) ∧
    (let x := (sPanel [] 6000000 (pOpen (oFrame 1 none none true) 0) [(1, { state := 4 : FrameEntry })]); live x = true ∧
      x.linkUp 0 = true ∧ x.modeNow ≠ 3 ∧ x.modeNow ≠ 12 ∧ bStatus.length = 40 ∧ leAt bStatus 0 1 = 1 ∧ x.panel.opened = some
      (oFrame 1 none none true) ∧ (oFrame 1 none none true).committed = true ∧ (oFrame 1 none none true).frameNo = leAt bStatus
      2 2 ∧ leAt bStatus 7 1 = 0 ∧ leAt bStatus 16 4 = 4294967295 ∧ x.enc.mapRegs = none) ∧
    (let x := (sPanel [] 6000000 ({} : PanelState) []); x.linkUp 0 = true ∧ Permitted Requester.firmware R.PANEL_CTRL x)) ∧
    ((let x := sPanel [] 6000000 (pQuery 1) []; x.linkUp 0 = true ∧ live x = true ∧ bCaps.length = 40 ∧ leAt bCaps 0 1 = 2) ∧
    (let x := sPanel [] 6000000 (pQuery 1) []; x.linkUp 0 = true ∧ live x = true ∧ (leBytes 2 40).length = 40 ∧ leAt (leBytes 2
      40) 0 1 = 2) ∧
    (let x := sPanel [] 1000000 (pQuery 2) []; x.linkUp 0 = true ∧ live x = true ∧ x.panel.querying = true ∧ x.panel.queryAt +
      1000000 ≤ x.now ∧ x.panel.queries < 3) ∧
    (let x := sPanel [] 1000000 (pQuery 3) []; x.linkUp 0 = true ∧ live x = true ∧ x.panel.querying = true ∧ x.panel.queryAt +
      1000000 ≤ x.now ∧ 3 ≤ x.panel.queries) ∧
    (let x := sPanel [] 5000000 (pQuery 3) []; x.linkUp 0 = true ∧ live x = true ∧ x.panel.lost = false ∧ x.panel.lastReturn +
      5000000 ≤ x.now)) ∧
    (let x := (sPanel [] 100000 (pOpen (oFrame 1 none (some 0) false) 0) [(1, { state := 3 : FrameEntry })]); live x = true ∧
      x.panel.opened = some (oFrame 1 none (some 0) false) ∧ (oFrame 1 none (some 0) false).abortedAt = some 0 ∧ 0 + 100000 ≤
      x.now ∧ (oFrame 1 none (some 0) false).restarts < x.get F.PANEL_CFG_MAX_RESTART) ∧
    (let x := (sPanel [] 99999 (pOpen (oFrame 1 none (some 0) false) 0) [(1, { state := 3 : FrameEntry })]); live x = true ∧
      x.panel.opened = some (oFrame 1 none (some 0) false) ∧ (oFrame 1 none (some 0) false).abortedAt = some 0 ∧ x.now < 0 +
      100000) :=
  ⟨by decide +kernel, by decide +kernel, by decide +kernel⟩

/-- The panel shows edges of 16 ms, last at 5 ms; time now; presentation's path and frames as given. -/
def sEdge (l : List (Field × Nat)) (now : Nat) (sampled : Bool) (k : Nat) (frames : Tab FrameEntry) (is : List Instant) : State :=
  { stateWith ([(F.LNK_STATUS_STATE 0, 4), (F.PANEL_STATUS_TE_OK, 1), (⟨R.PANEL_TEPER, 31, 0⟩, 16000000)] ++ l) with
    now := now, time := { q := now * 2 ^ 48 }, conf := { frames := frames }, card := { instants := is }
    panel := { edge := some 5000000, edgeAt := 5000000, edges := 3, sampled := sampled }
    kcp := { paths := if k = 0 then [] else [(pathKey 4 0, { state := k, joined := true })] } }
/-- No frames are taken. -/
def sNoLink (now : Nat) : State := (sEdge [] now false 0 [] []).set (F.LNK_STATUS_STATE 0) 0
/-- A colour set is pending; time now. -/
def sColourFence (now : Nat) : State := (sEdge (geomFields ++ [(F.CONF_COLSTATUS_PENDING, 1), (F.PANEL_CFG_GUARD_ROWS, 1), (⟨R.PANEL_CAP 5, 15, 0⟩, 1000), (F.CHIP_EPOCH_EPOCH, 1)]) now false 0 [] []).stageWrite R.CONF_COLOUR 1
/-- An instant of launch time 30 ms that is not complete. -/
def iLate : Instant :=
  { layer := 3, count := 5, launch := some 37000000, unit := 1, input := .rays, phase := 1, readyAt := 0, seamUntil := 0
    seamMissed := false, views := [], excluded := [], todo := [], rays := [], format := 2, fronts := [], holds := [], half := 0, area := none
    late := false, clamped := false, withheld := false, regs := [] }
/-- A PTP header of master 0x77 on port 1. -/
def hPtp (seq : Nat) : PtpHeader := ⟨1, false, 0, 0x77, 1, seq, 0, 0x66, 0x0A000005⟩
/-- PTP is the source; the time record as given; STEP_ARMED as given. -/
def sPtp (t : TimeState) (armed now : Nat) : State :=
  { stateWith [(F.TIME_CFG_SOURCE, 1), (F.TIME_CFG_PORTS, 2), (F.TIME_CFG_DOMAIN, 0), (F.TIME_CFG_IPVER, 3),
      (F.TIME_STATUS_PORT, 1), (F.ETH_STATUS_LINK 1, 1), (F.TIME_STATUS_STEP_ARMED, armed), (F.TIME_STATUS_STATE, 2)] with time := t, now := now }
/-- A master in use. -/
def mMaster : MasterRec := ⟨0x77, 1, 1, false, 0x66, 0x0A000005, [1], 0, 3000⟩
/-- The time record with a master and a measurement, at 2 s. -/
def tMaster (m : PtpMeasure) (offsets : List Int) : TimeState :=
  { q := 2000000000 * 2 ^ 48, masters := [mMaster], chosen := some ⟨0x77, 1, 1⟩, measure := m, offsets := offsets }
/-- A measurement that waits for its Delay_Resp. -/
def mDone : PtpMeasure := { syncSeq := 4, t1 := some 1000, t2 := some 2000, dreqSeq := 4, t3 := some 3000 }
/-- The requestingPortIdentity of the Q9's own port 1. -/
def wClock : Nat := leNat ((State.reset.ptpIdentity 1).take 8).reverse

/-- Inputs for each clause of FencesTakeWork meet its hypotheses. -/
theorem test_witness_FencesTakeWork :
    ((let x := sNoLink 21000000; live x = true ∧ x.panel.edge = some 5000000 ∧ x.fencing = false ∧ 1 ≤ x.panel.edges) ∧
    (live (sNoLink 5000100) = true ∧ (sNoLink 5000100).panel.edge = some 5000000) ∧
    (let x := sNoLink 69000000; live x = true ∧ x.panel.edge = some 5000000 ∧ x.panel.teLost = false ∧ x.tePeriod ≠ 0 ∧
      x.panel.edgeAt + 4 * x.tePeriod ≤ x.now) ∧
    (let x := sNoLink 68999999; live x = true ∧ x.panel.edge = some 5000000 ∧ x.now < x.panel.edgeAt + 4 * x.tePeriod ∧
      x.tePeriod ≠ 0)) ∧
    ((let x := sColourFence 20999999; live x = true ∧ x.fencing = true ∧ x.nextEdge = some 21000000 ∧ x.conf.frames = [] ∧
      x.panel.opened = none ∧ x.panel.sampled = false ∧ x.sampleAt 21000000 ≤ x.q9 ∧ x.flag F.CONF_COLSTATUS_PENDING = true ∧
      x.flag F.GEOM_STATUS_PENDING = false ∧ x.conf.load = none ∧ x.siz.fence = [] ∧ x.siz.offer = false ∧ (∀ k ∈ [2, 3, 4, 5],
      x.armedIds k = [])) ∧
    (let x := sColourFence 6000000; live x = true ∧ x.fencing = true ∧ x.nextEdge = some 21000000 ∧ x.conf.frames = [] ∧
      x.panel.opened = none ∧ (x.panel.sampled = true ∨ x.q9 < x.sampleAt 21000000))) ∧
    (let x := (sEdge [(F.PQ_PIPE_BUILD_US, 1000)] 36500000 false 3 [(0, { state := 1 : FrameEntry })] [iLate]); live x = true ∧
      x.queued = true ∧ x.nextLaunch = some 37000000 ∧ x.afl.token = none ∧ x.deadlineDue (x.edgeNear 37000000) = true ∧
      x.conf.cut ≠ some 37000000 ∧ x.building = true) ∧
    (let x := (sEdge [(F.PQ_PIPE_BUILD_US, 1000)] 6000000 false 3 [(0, { state := 1 : FrameEntry })] [iLate]); live x = true ∧
      x.queued = true ∧ x.nextLaunch = some 37000000 ∧ x.afl.token = none ∧ x.deadlineDue (x.edgeNear 37000000) = false) :=
  ⟨by decide +kernel, by decide +kernel, by decide +kernel⟩

/-- Inputs for each clause of TimeFollowsItsMaster meet its hypotheses. -/
theorem test_witness_TimeFollowsItsMaster :
    ((let x := (sPtp ({} : TimeState) 1 0); live x = true ∧ x.get (F.ETH_LOOP_MODE 1) = 0 ∧ x.ptpTaken (hPtp 4) = true ∧
      x.permits 0 (hPtp 4).logInterval = true ∧ x.time.masters = [] ∧ x.time.chosen = none ∧ x.get F.TIME_STATUS_STATE ≠ 5) ∧
    (let x := (sPtp (tMaster ({} : PtpMeasure) []) 1 3000); live x = true ∧ x.time.masters = [mMaster] ∧ x.time.chosen = some
      mMaster.id ∧ mMaster.lastAnnounce + mMaster.timeout ≤ x.now) ∧
    (let x := (sPtp (tMaster ({} : PtpMeasure) []) 1 2999); live x = true ∧ x.time.masters = [mMaster] ∧ x.time.chosen = some
      mMaster.id ∧ x.now < mMaster.lastAnnounce + mMaster.timeout) ∧
    (live (sPtp (tMaster ({} : PtpMeasure) []) 1 2999) = true) ∧
    (let x := (sPtp (tMaster ({} : PtpMeasure) []) 1 3000); live x = true ∧ x.get (F.ETH_LOOP_MODE 1) = 0 ∧ x.fromMaster (hPtp
      4) = true ∧ x.permits 1 (hPtp 4).logInterval = true)) ∧
    ((let x := (sPtp (tMaster { syncSeq := 4, t2 := some 9 : PtpMeasure } []) 1 3000); live x = true ∧ x.get (F.ETH_LOOP_MODE 1)
      = 0 ∧ x.fromMaster (hPtp 4) = true ∧ x.time.measure.t2 ≠ none ∧ x.time.measure.t1 = none ∧ x.time.measure.syncSeq = (hPtp
      4).seq) ∧
    (let y := (sPtp (tMaster ({} : PtpMeasure) []) 1 3000); live y = true ∧ y.get (F.ETH_LOOP_MODE 1) = 0 ∧ (List.find? (fun x
      => y.time.chosen == some x.id) y.time.masters = some mMaster) ∧ y.dreqReady mMaster = true) ∧
    (let x := sPtp (tMaster mDone (List.replicate 7 (-999998998))) 1 3000; let y := signedOf 32 (BitVec.toNat (x.word
      R.TIME_ASYM)); live x = true ∧ x.get (F.ETH_LOOP_MODE 1) = 0 ∧ x.fromMaster (hPtp 4) = true ∧ beBytes wClock 8 ++ beBytes
      1 2 = x.ptpIdentity 1 ∧ x.time.measure.dreqSeq = (hPtp 4).seq ∧ x.time.measure.t1 = some 1000 ∧ x.time.measure.t2 = some
      2000 ∧ x.time.measure.t3 = some 3000 ∧ x.flag F.TIME_STATUS_STEP_ARMED = true ∧ (List.take 8 (offsetOf 1000 2000 3000
      (x.ptpTime 2 5) x.time.measure.correction (-7) y :: x.time.offsets)).length = 8 ∧ spreadOf (List.take 8 (offsetOf 1000
      2000 3000 (x.ptpTime 2 5) x.time.measure.correction (-7) y :: x.time.offsets)) ≤ 1000)) ∧
    (let x := sPtp (tMaster mDone []) 1 3000; let y := signedOf 32 (BitVec.toNat (x.word R.TIME_ASYM)); live x = true ∧ x.get
      (F.ETH_LOOP_MODE 1) = 0 ∧ x.fromMaster (hPtp 4) = true ∧ beBytes wClock 8 ++ beBytes 1 2 = x.ptpIdentity 1 ∧
      x.time.measure.dreqSeq = (hPtp 4).seq ∧ x.time.measure.t1 = some 1000 ∧ x.time.measure.t2 = some 2000 ∧ x.time.measure.t3
      = some 3000 ∧ x.flag F.TIME_STATUS_STEP_ARMED = true ∧ ((List.take 8 (offsetOf 1000 2000 3000 (x.ptpTime 2 5)
      x.time.measure.correction (-7) y :: x.time.offsets)).length < 8 ∨ 1000 < spreadOf (List.take 8 (offsetOf 1000 2000 3000
      (x.ptpTime 2 5) x.time.measure.correction (-7) y :: x.time.offsets)))) ∧
    (let x := sPtp (tMaster mDone []) 0 3000; live x = true ∧ x.get (F.ETH_LOOP_MODE 1) = 0 ∧ x.fromMaster (hPtp 4) = true ∧
      beBytes wClock 8 ++ beBytes 1 2 = x.ptpIdentity 1 ∧ x.time.measure.dreqSeq = (hPtp 4).seq ∧ x.time.measure.t1 = some 1000
      ∧ x.time.measure.t2 = some 2000 ∧ x.time.measure.t3 = some 3000 ∧ x.flag F.TIME_STATUS_STEP_ARMED = false) :=
  ⟨by decide +kernel, by decide +kernel, by decide +kernel⟩

/-- Presentation data for the encoder: port 2 with its link as given; a record. -/
def sEnc (link : Nat) (e : EncState) : State :=
  { stateWith (geomFields ++ [(F.ENC_TX_PORT, 2), (F.ETH_STATUS_LINK 2, link), (F.ENC_RC_RC_MODE, 1), (F.ENC_SIZE_OUT_W, 2), (F.ENC_SIZE_OUT_H, 1)]) with
    enc := e, time := { q := 1000 * 2 ^ 48 }, kcp := { paths := [(pathKey 5 0, { state := 3 })] } }
/-- A picture in coding. -/
def pCoding (rows : List Nat) : EncPicture :=
  { count := 3, idr := true, time := 900, samples := [], rows := rows, budget := 100, rowBudget := 50, complexity := 9
    spent := 10, bytes := [1, 2], holds := [], regs := (sEnc 1 {}).regs }

/-- Inputs for each clause of EncoderSendsPictures meet its hypotheses. -/
theorem test_witness_EncoderSendsPictures :
    ((let x := (sEnc 1 { building := some ((sEnc 1 ({} : EncState)).regs, [(0, 5)]) : EncState }); live x = true ∧
      x.enc.building = some ((sEnc 1 ({} : EncState)).regs, [(0, 5)])) ∧
    (let x := (sEnc 1 { pic := some (pCoding [4, 5]) : EncState }); live x = true ∧ x.enc.pic = some (pCoding [4, 5]) ∧ x.stale
      (pCoding [4, 5]).holds = none ∧ 2 ≤ (pCoding [4, 5]).rows.length) ∧
    (let x := (sEnc 1 { pic := some (pCoding [4]) : EncState }); live x = true ∧ x.enc.pic = some (pCoding [4]) ∧ x.stale
      (pCoding [4]).holds = none ∧ (pCoding [4]).rows.length = 1 ∧ x.armed 5 0 = true ∧ (pCoding [4]).overBudget = false ∧
      (pCoding [4]).spent + 90 ≤ (pCoding [4]).budget ∧ snapField (pCoding [4]).regs F.ENC_RC_RC_MODE ≠ 0) ∧
    (let x := { port := 2, earliest := 1001, first := true, bytes := [1] : EncBatt }; let y := (sEnc 1
      { batts := [x] : EncState }); live y = true ∧ y.enc.batts = [x] ∧ y.q9 < x.earliest) ∧
    (let x := { port := 2, earliest := 999, first := true, bytes := [1] : EncBatt }; let y := (sEnc 1
      { batts := [x] : EncState }); live y = true ∧ y.enc.batts = [x] ∧ x.earliest ≤ y.q9 ∧ y.portPaused x.port (y.get
      (F.ETH_CFG_PCP x.port)) = false ∧ y.get (F.ETH_STATUS_LINK x.port) = 1)) ∧
    (let x := { port := 2, earliest := 1000, first := true, bytes := [1] : EncBatt }; let y := (sEnc 0
      { batts := [x] : EncState }); live y = true ∧ y.enc.batts = [x] ∧ x.earliest ≤ y.q9 ∧ y.portPaused x.port (y.get
      (F.ETH_CFG_PCP x.port)) = false ∧ y.get (F.ETH_STATUS_LINK x.port) = 0) :=
  ⟨by decide +kernel, by decide +kernel⟩

/-- Device tile of a row of three, in TILE_MEMBER; links 1 to 4 UP, the panel's edges each 16 ms, last at 5 ms; time now; the
tiling record and the open frame as given. -/
def sTiles (tile : Nat) (a : AflState) (o : Option OpenFrame) (now : Nat) : State :=
  { stateWith (geomFields ++ [(F.CHIP_MODE_MODE, 0x9), (F.AFL_TILE_STATUS_TILE_ID, tile), (F.AFL_TILE_CFG_TOPO, 1), (F.AFL_TILE_CFG_COUNT, 2),
      (F.AFL_TILE_CFG_LOST_MS, 5), (F.AFL_TILE_CFG_GO_US, 900), (F.LNK_STATUS_STATE 0, 4), (F.LNK_STATUS_STATE 1, 4), (F.LNK_STATUS_STATE 2, 4),
      (F.PANEL_STATUS_TE_OK, 1), (⟨R.PANEL_TEPER, 31, 0⟩, 16000000), (F.CHIP_EPOCH_EPOCH, 1)]) with
    now := now, time := { q := now * 2 ^ 48 }, afl := a, conf := { frames := [(1, { state := 3 })] }
    panel := { edge := some 5000000, edgeAt := 5000000, edges := 3, opened := o } }
/-- The frame open at the panel. -/
def oTiled (doneSent : Bool) : OpenFrame := { handle := 1, frameNo := 9, pushes := [⟨0, 0, 1⟩], next := 1, doneSent := doneSent }
/-- A frame of an origin, as sent and as read. -/
def xTile (type origin param : Nat) (data : List Byte) : AflFrame := ⟨type, origin, 0, 5, param, data⟩
/-- Its bytes. -/
def fTile (x : AflFrame) : List Byte := aflFrame x.type x.origin x.hops x.seq x.param x.data
/-- A token frame with an ACTION for the edge at 21 ms. -/
def xToken (type action : Nat) : AflFrame := xTile type 0 0 (tokenBytes 21000000 (some 21000000) 4 action 1)
/-- A token in force. -/
def tToken : TokenRec := ⟨21000000, 21000000, some 21000000, 4, 0, 21000000⟩
/-- A DONE of device 2. -/
def xDone : AflFrame := xTile 2 2 0 (leBytes 0 8 ++ leBytes 21000000 4 ++ leBytes 0 4)
/-- The pending words of device 2: one bit. -/
def xEvents : AflFrame := xTile 5 2 0 (leBytes 8 128)
/-- A HELLO of device 1, or one that names another. -/
def xHello (id : Nat) : AflFrame := xTile 6 1 0 ([BitVec.ofNat 8 id, 1, 2, 9, 0, 0, 0, 0] ++ leBytes 1 8)
/-- Layer 3 has seams of depth 1 and extent 1, and its stream is RAWKEY. -/
def sStrips : State :=
  stateWith [(F.CHIP_MODE_MODE, 0x9), (F.LNK_STATUS_STATE 1, 4), (F.CARD_LYR_SIZE_W 3, 1), (F.CARD_LYR_SIZE_H 3, 1),
    (F.CARD_LYR_SEAM_DEPTH 3, 1), (F.CARD_LYR_SEAM_EDGES 3, 1)]
/-- A SEAM frame of layer 3 for link 0 with one sample; its depth as given. -/
def xSeam (depth : Nat) : AflFrame :=
  xTile 4 1 (3 + depth * 2 ^ 16 + 1 * 2 ^ 48 + lyrSrc sStrips 3 * 2 ^ 32)
    (leBytes 0 12 ++ leBytes (kvdCrc sStrips.regs 3) 4 ++ leBytes 0 4 ++ leBytes 0 4 ++ leBytes 0x123456789A 8)

/-- Inputs for each clause of TilesFollowTheLeader meet its hypotheses. -/
theorem test_witness_TilesFollowTheLeader :
    AflHeard (sTiles 1 ({} : AflState) none 6000000) 0 (fTile (xToken 1 0)) (xToken 1 0) ∧
    AflHeard (sTiles 1 { token := some tToken : AflState } (some (oTiled true)) 6000000) 0 (fTile (xToken 3 0)) (xToken 3 0) ∧
    AflHeard (sTiles 1 { token := some tToken : AflState } (some (oTiled true)) 6000000) 0 (fTile (xToken 3 1)) (xToken 3 1) ∧
    AflHeard (sTiles 1 { token := some tToken : AflState } (some (oTiled false)) 6000000) 0 (fTile (xToken 3 2)) (xToken 3 2) ∧
    AflHeard (sTiles 0 { token := some tToken : AflState } none 6000000) 1 (fTile xDone) xDone ∧
    AflHeard (sTiles 0 ({} : AflState) none 6000000) 1 (fTile xEvents) xEvents ∧
    ((let x := (sTiles 1 ({} : AflState) none 6000000); let y := xToken 1 0; x.leader = false ∧ y.origin = 0 ∧ x.edgeNear
      (tokenEdge y) = some 21000000 ∧ ((↑21000000 : Int) - (↑(tokenEdge y) : Int)).natAbs ≤ 2000 ∧ y.type = 1) ∧
    (let x := (sTiles 1 { token := some tToken : AflState } (some (oTiled true)) 6000000); let y := xToken 3 0; x.leader = false
      ∧ y.origin = 0 ∧ x.edgeNear (tokenEdge y) = some 21000000 ∧ ((↑21000000 : Int) - (↑(tokenEdge y) : Int)).natAbs ≤ 2000 ∧
      y.type = 3 ∧ x.panel.opened = some (oTiled true) ∧ (oTiled true).committed = false ∧ x.afl.token = some tToken ∧ leAt
      y.data 27 1 = 0 ∧ x.afl.noFrame = false ∧ x.canCommit (oTiled true) = true)) ∧
    ((let x := (sTiles 1 { token := some tToken : AflState } (some (oTiled true)) 6000000); let y := xToken 3 1; x.leader =
      false ∧ y.origin = 0 ∧ x.edgeNear (tokenEdge y) = some 21000000 ∧ ((↑21000000 : Int) - (↑(tokenEdge y) : Int)).natAbs ≤
      2000 ∧ y.type = 3 ∧ x.panel.opened = some (oTiled true) ∧ (oTiled true).committed = false ∧ x.afl.token = some tToken ∧
      leAt y.data 27 1 = 1) ∧
    (let x := (sTiles 1 { token := some tToken : AflState } (some (oTiled false)) 6000000); let y := xToken 3 2; x.leader =
      false ∧ y.origin = 0 ∧ x.edgeNear (tokenEdge y) = some 21000000 ∧ ((↑21000000 : Int) - (↑(tokenEdge y) : Int)).natAbs ≤
      2000 ∧ y.type = 3 ∧ x.panel.opened = some (oTiled false) ∧ (oTiled false).committed = false ∧ x.afl.token = some tToken ∧
      leAt y.data 27 1 = 2 ∧ (oTiled false).doneSent = false)) ∧
    ((let x := (sTiles 0 { token := some tToken : AflState } none 6000000); x.leader = true ∧ xDone.type = 2 ∧ x.afl.token =
      some tToken ∧ tToken.planned ≤ tokenEdge xDone ∧ tokenEdge xDone ≤ tToken.named) ∧
    ((sTiles 0 ({} : AflState) none 6000000).leader = true ∧ xEvents.type = 5 ∧ 1 ≤ xEvents.origin ∧ xEvents.origin < 4) ∧
    (let x := (sTiles 0 ({} : AflState) none 6000000); x.leader = true ∧ live x = true ∧ x.watches 2 = true ∧ 2 ∉ x.afl.lost ∧
      x.helloLate 2 = true) ∧
    (let x := (sTiles 0 ({} : AflState) none 4999999); x.leader = true ∧ live x = true ∧ x.watches 2 = true ∧ 2 ∉ x.afl.lost ∧
      x.helloLate 2 = false)) ∧
    (let x := (sTiles 0 { token := some tToken, done := [1], awaited := [1] : AflState } (some (oTiled true)) 20500000);
      x.leader = true ∧ live x = true ∧ x.tiled = true ∧ x.afl.token = some tToken ∧ x.allDone = true ∧ x.panel.opened = some
      (oTiled true) ∧ (oTiled true).committed = false ∧ x.canCommit (oTiled true) = true ∧ x.afl.noFrame = false ∧ x.sampleAt
      tToken.edge ≤ x.q9 + 1000 * x.get F.AFL_TILE_CFG_GO_US) :=
  ⟨(aflHeard_of _ _ _ _ (by decide +kernel)), (aflHeard_of _ _ _ _ (by decide +kernel)), (aflHeard_of _ _ _ _
    (by decide +kernel)), (aflHeard_of _ _ _ _ (by decide +kernel)), (aflHeard_of _ _ _ _ (by decide +kernel)), (aflHeard_of _ _
    _ _ (by decide +kernel)), by decide +kernel, by decide +kernel, by decide +kernel, by decide +kernel⟩

/-- Inputs for each clause of MembershipAndSeams meet its hypotheses. -/
theorem test_witness_MembershipAndSeams :
    AflHeard (sTiles 0 ({} : AflState) none 6000000) 1 (fTile (xHello 2)) (xHello 2) ∧
    AflHeard (sTiles 0 { lost := [1] : AflState } none 6000000) 1 (fTile (xHello 1)) (xHello 1) ∧
    ((let x := (sTiles 2 ({} : AflState) none 1000000); live x = true ∧ x.tiled = true ∧ x.afl.helloAt + 1000000 ≤ x.now) ∧
    (let x := (sTiles 2 ({} : AflState) none 999999); live x = true ∧ x.tiled = true ∧ x.now < x.afl.helloAt + 1000000) ∧
    (let x := (sTiles 2 ({} : AflState) none 999999); live x = true ∧ x.tiled = true ∧ x.leader = false ∧ x.pendingWords ≠
      x.afl.sentWords ∧ x.aflLinkOk x.inwardLink = true) ∧
    (let x := (sTiles 0 ({} : AflState) none 6000000); let y := xHello 2; y.type = 6 ∧ y.hops = 0 ∧ (¬(neighbour x.topo
      x.devices x.tileId 1 = some (leAt y.data 0 1) ∧ leAt y.data 1 1 = x.topo ∧ leAt y.data 2 1 = x.get F.AFL_TILE_CFG_COUNT)))
      ∧
    (let x := (sTiles 0 { lost := [1] : AflState } none 6000000); let y := xHello 1; y.type = 6 ∧ y.hops = 0 ∧ (neighbour x.topo
      x.devices x.tileId 1 = some (leAt y.data 0 1) ∧ leAt y.data 1 1 = x.topo ∧ leAt y.data 2 1 = x.get F.AFL_TILE_CFG_COUNT) ∧
      x.leader = true)) ∧
    (let x := xSeam 1; live sStrips = true ∧ sStrips.linkUp (0 + 1) = true ∧ (sStrips.get F.AFL_TILE_STATUS_WIRING).testBit 0 =
      false ∧ aflParse (fTile x) = some x ∧ x.type = 4 ∧ (slice x.param 23 16 = lyrS sStrips.regs (x.param % 256 % 64) ∧ slice
      x.param 63 48 = edgeExtent sStrips.regs (x.param % 256 % 64) 0 ∧ slice x.param 39 32 = lyrSrc sStrips (x.param % 256 %
      64)) ∧ leAt x.data 12 4 = kvdCrc sStrips.regs (x.param % 256 % 64) ∧ sStrips.stripLate (x.param % 256 % 64) (if leAt
      x.data 0 12 = 0 then none else some (leAt x.data 0 8 * 1000000000 + leAt x.data 8 4)) = false) ∧
    (let x := xSeam 2; live sStrips = true ∧ sStrips.linkUp (0 + 1) = true ∧ (sStrips.get F.AFL_TILE_STATUS_WIRING).testBit 0 =
      false ∧ aflParse (fTile x) = some x ∧ x.type = 4 ∧ (¬(slice x.param 23 16 = lyrS sStrips.regs (x.param % 256 % 64) ∧ slice
      x.param 63 48 = edgeExtent sStrips.regs (x.param % 256 % 64) 0 ∧ slice x.param 39 32 = lyrSrc sStrips (x.param % 256 %
      64)))) ∧
    (live sStrips = true ∧ sStrips.linkUp (0 + 1) = true ∧ (sStrips.get F.AFL_TILE_STATUS_WIRING).testBit 0 = false ∧ (true =
      true ∨ aflParse (fTile (xSeam 1)) = none)) :=
  ⟨(aflHeard_of _ _ _ _ (by decide +kernel)), (aflHeard_of _ _ _ _ (by decide +kernel)), by decide +kernel, by decide +kernel⟩

/-- Memory byte 300: pseudo-channel 1, bank 0, row 0. A read or write of its word. -/
def rMem (id : Nat) (write : Bool) : MemReq := { id := id, write := write, row := 0, word := 288, data := List.replicate 32 0x5A, at_ := 0 }
/-- Pseudo-channel 1 with an open row and a queue; SELFREF of its controller; time now; words poisoned. -/
def sMem (q : List MemReq) (selfref now : Nat) (poison : List Nat) : State :=
  { stateWith [(F.HBM_STATUS_SELFREF 0, selfref)] with
    now := now, poison := poison, mem := { pcs := [(1, { banks := [(0, { queue := q, openRow := some 0 })] })] } }
/-- Stack 1: rates available, the rate in force, TARGET, PENDING and ACTIVE; the record of its change. -/
def sRate (avail target pending active : Nat) (now : Nat) : State :=
  { stateWith [(F.HBM_FREQSTAT_AVAIL 1, avail), (F.HBM_FREQSTAT_IN_FORCE 1, 3), (F.HBM_FREQSTAT_CEILING 1, 3), (F.HBM_FREQCTL_TARGET 1, target),
      (F.HBM_FREQSTAT_PENDING 1, pending), (F.HBM_FREQSTAT_ACTIVE 1, active)] with
    now := now, mem := { stackUnits := [(1, { next := 1, startedAt := 100 })] } }
/-- A value of HBM_FREQCTL. -/
def wRate (target : Nat) : Word := (stateWith [(F.HBM_FREQCTL_TARGET 1, target)]).word (R.HBM_FREQCTL 1)

/-- Inputs for each clause of MemoryServesRequests meet its hypotheses. -/
theorem test_witness_MemoryServesRequests :
    ((let x := sMem [] 0 0 []; live x = true ∧ 300 < 2 * stackBytes ∧ (x.pc (memPlace 300).pc).input = [] ∧ x.pcHeld (memPlace
      300).pc = false ∧ (if true = true then dropWriteBack (300 / 32 * 32) ((x.pc (memPlace 300).pc).bank (memPlace 300).bank)
      else (x.pc (memPlace 300).pc).bank (memPlace 300).bank).load < 16 ∧ ((if true = true then (x.pc (memPlace 300).pc).setBank
      (memPlace 300).bank (if true = true then dropWriteBack (300 / 32 * 32) ((x.pc (memPlace 300).pc).bank (memPlace 300).bank)
      else (x.pc (memPlace 300).pc).bank (memPlace 300).bank) else x.pc (memPlace 300).pc).setBank (memPlace 300).bank
      { queue := (if true = true then dropWriteBack (300 / 32 * 32) ((x.pc (memPlace 300).pc).bank (memPlace 300).bank) else (x.pc (memPlace 300).pc).bank (memPlace 300).bank).queue ++ [{ id := 5, write := true, row := (memPlace 300).row, word := 300 / 32 * 32, data := List.take 32 [1, 2], at_ := x.now : MemReq }], openRow := (if true = true then dropWriteBack (300 / 32 * 32) ((x.pc (memPlace 300).pc).bank (memPlace 300).bank) else (x.pc (memPlace 300).pc).bank (memPlace 300).bank).openRow, hits := (if true = true then dropWriteBack (300 / 32 * 32) ((x.pc (memPlace 300).pc).bank (memPlace 300).bank) else (x.pc (memPlace 300).pc).bank (memPlace 300).bank).hits, due := (if true = true then dropWriteBack (300 / 32 * 32) ((x.pc (memPlace 300).pc).bank (memPlace 300).bank) else (x.pc (memPlace 300).pc).bank (memPlace 300).bank).due : BankState }).writes.length
      < 32) ∧
    (let x := sMem (List.replicate 16 (rMem 9 false)) 0 0 []; live x = true ∧ 300 < 2 * stackBytes ∧ (x.pc (memPlace
      300).pc).input = [] ∧ (x.pcHeld (memPlace 300).pc = true ∨ 16 ≤ (if false = true then dropWriteBack (300 / 32 * 32) ((x.pc
      (memPlace 300).pc).bank (memPlace 300).bank) else (x.pc (memPlace 300).pc).bank (memPlace 300).bank).load ∧ (if false =
      true then (x.pc (memPlace 300).pc).setBank (memPlace 300).bank (if false = true then dropWriteBack (300 / 32 * 32) ((x.pc
      (memPlace 300).pc).bank (memPlace 300).bank) else (x.pc (memPlace 300).pc).bank (memPlace 300).bank) else x.pc (memPlace
      300).pc).writes.length < 32)) ∧
    (let x := sMem [] 1 0 []; live x = true ∧ 300 < 2 * stackBytes ∧ (x.pc (memPlace 300).pc).input = [] ∧ (x.pcHeld (memPlace
      300).pc = true ∨ 16 ≤ (if false = true then dropWriteBack (300 / 32 * 32) ((x.pc (memPlace 300).pc).bank (memPlace
      300).bank) else (x.pc (memPlace 300).pc).bank (memPlace 300).bank).load ∧ (if false = true then (x.pc (memPlace
      300).pc).setBank (memPlace 300).bank (if false = true then dropWriteBack (300 / 32 * 32) ((x.pc (memPlace 300).pc).bank
      (memPlace 300).bank) else (x.pc (memPlace 300).pc).bank (memPlace 300).bank) else x.pc (memPlace 300).pc).writes.length <
      32)) ∧
    (live (sMem [] 0 0 []) = true ∧ 2 * stackBytes ≤ 2 * stackBytes) ∧
    (let x := sMem [rMem 7 false] 1 0 []; live x = true ∧ (x.pcHeld 1 = true ∨ x.now < (x.pc 1).busyUntil))) ∧
    ((let x := sMem [rMem 7 false] 0 0 []; let y := { queue := [rMem 7 false], openRow := some 0 : BankState }; live x = true ∧
      x.pcHeld 1 = false ∧ (x.pc 1).busyUntil ≤ x.now ∧ (x.pc 1).banks = [(0, y)] ∧ (x.pc 1).input = [] ∧ y.queue =
      [rMem 7 false] ∧ (rMem 7 false).write = false ∧ (rMem 7 false).kind = 0 ∧ y.openRow = some (rMem 7 false).row ∧ (rMem 7
      false).word / 32 ∉ x.poison) ∧
    (let x := sMem [rMem 7 false] 0 0 []; let y := { queue := [rMem 7 false], openRow := some 0 : BankState }; live x = true ∧
      x.pcHeld 1 = false ∧ (x.pc 1).busyUntil ≤ x.now ∧ (x.pc 1).banks = [(0, y)] ∧ (x.pc 1).input = [] ∧ y.queue =
      [rMem 7 false] ∧ (rMem 7 false).write = false ∧ (rMem 7 false).kind = 0 ∧ y.openRow = some (rMem 7 false).row ∧ (rMem 7
      false).word / 32 ∉ x.poison ∧ (memPlace (rMem 7 false).word).bank = 0)) ∧
    ((let x := sMem [rMem 7 false] 0 0 []; let y := { queue := [rMem 7 false], openRow := some 0 : BankState }; live x = true ∧
      x.pcHeld 1 = false ∧ (x.pc 1).busyUntil ≤ x.now ∧ (x.pc 1).banks = [(0, y)] ∧ (x.pc 1).input = [] ∧ y.queue =
      [rMem 7 false] ∧ (rMem 7 false).write = false ∧ (rMem 7 false).kind = 0 ∧ y.openRow = some (rMem 7 false).row ∧ x.inTables
      (rMem 7 false).word = false ∧ (2 = 2 ∨ (rMem 7 false).word / 32 ∈ x.poison)) ∧
    (let x := sMem [rMem 7 false] 0 0 [9]; let y := { queue := [rMem 7 false], openRow := some 0 : BankState }; live x = true ∧
      x.pcHeld 1 = false ∧ (x.pc 1).busyUntil ≤ x.now ∧ (x.pc 1).banks = [(0, y)] ∧ (x.pc 1).input = [] ∧ y.queue =
      [rMem 7 false] ∧ (rMem 7 false).write = false ∧ (rMem 7 false).kind = 0 ∧ y.openRow = some (rMem 7 false).row ∧ x.inTables
      (rMem 7 false).word = false ∧ (0 = 2 ∨ (rMem 7 false).word / 32 ∈ x.poison))) ∧
    (let x := sMem [rMem 7 true] 0 2000 [9]; let y := { queue := [rMem 7 true], openRow := some 0 : BankState }; live x = true ∧
      x.pcHeld 1 = false ∧ (x.pc 1).busyUntil ≤ x.now ∧ (x.pc 1).banks = [(0, y)] ∧ (x.pc 1).input = [] ∧ y.queue =
      [rMem 7 true] ∧ (rMem 7 true).write = true ∧ (rMem 7 true).kind = 0 ∧ y.openRow = some (rMem 7 true).row ∧ (rMem 7
      true).data.length = 32 ∧ (rMem 7 true).word % 32 = 0 ∧ (rMem 7 true).at_ + 2000 ≤ x.now) ∧
    (let x := sMem [rMem 7 true] 0 1999 [9]; let y := { queue := [rMem 7 true], openRow := some 0 : BankState }; live x = true ∧
      x.pcHeld 1 = false ∧ (x.pc 1).busyUntil ≤ x.now ∧ (x.pc 1).banks = [(0, y)] ∧ (x.pc 1).input = [] ∧ y.queue =
      [rMem 7 true] ∧ (rMem 7 true).write = true ∧ (rMem 7 true).kind = 0 ∧ y.openRow = some (rMem 7 true).row ∧ (rMem 7
      true).data.length = 32 ∧ (rMem 7 true).word % 32 = 0 ∧ x.now < (rMem 7 true).at_ + 2000) ∧
    (let x := sMem [rMem 7 true] 0 3900 []; live x = true ∧ x.pcHeld 1 = false ∧ (x.pc 1).lastRefresh + (x.pc 1).refi ≤ x.now) ∧
    (let x := sMem [rMem 7 true] 0 3899 []; live x = true ∧ (x.pcHeld 1 = true ∨ x.now < (x.pc 1).lastRefresh + (x.pc 1).refi))
      :=
  ⟨by decide +kernel, by decide +kernel, by decide +kernel, by decide +kernel, by decide +kernel⟩

/-- Inputs for each clause of DataRateChanges meet its hypotheses. -/
theorem test_witness_DataRateChanges :
    (Permitted Requester.firmware (R.HBM_FREQCTL 1) (sRate 15 1 0 1 0) ∧ (sRate 15 1 0 1 0).flag (F.HBM_FREQSTAT_ACTIVE 1) =
      true) ∧
    (let x := sRate 8 3 0 0 0; Permitted Requester.firmware (R.HBM_FREQCTL 1) x ∧ x.flag (F.HBM_FREQSTAT_ACTIVE 1) = false ∧
      (x.get (F.HBM_FREQSTAT_AVAIL 1)).testBit (wordField (wRate 1) (F.HBM_FREQCTL_TARGET 1)) = false) ∧
    (let x := sRate 15 3 0 0 0; Permitted Requester.firmware (R.HBM_FREQCTL 1) x ∧ x.flag (F.HBM_FREQSTAT_ACTIVE 1) = false ∧
      (x.get (F.HBM_FREQSTAT_AVAIL 1)).testBit (wordField (wRate 1) (F.HBM_FREQCTL_TARGET 1)) = true) ∧
    (let x := sRate 15 1 1 0 900; live x = true ∧ x.wantedRate 1 = some 1 ∧ x.flag (F.HBM_FREQSTAT_ACTIVE 1) = false ∧ x.flag
      (F.HBM_FREQSTAT_PENDING 1) = true ∧ x.changeWindow = true ∧ (∀ p ∈ stackPcs 1, ∀ e ∈ (x.pc p).banks, e.2.queue = [])) ∧
    (let x := sRate 15 1 0 0 900; live x = true ∧ x.wantedRate 1 = some 1 ∧ x.flag (F.HBM_FREQSTAT_ACTIVE 1) = false ∧ (x.flag
      (F.HBM_FREQSTAT_PENDING 1) = false ∨ x.changeWindow = false)) ∧
    (let x := sRate 15 1 0 1 900; live x = true ∧ x.flag (F.HBM_FREQSTAT_ACTIVE 1) = true ∧ x.wantedRate 1 = some (x.stack
      1).next) :=
  by decide +kernel

/-- Pool 4 holds surfaces; lease 9 of layer 3 in it, in a state; the word at its offset 64 poisoned or not. -/
def sXlat (k : Nat) (poison : List Nat) (l : List (Field × Nat)) : State :=
  { withPools (stateWith ([(F.CHIP_MODE_MODE, 0x5)] ++ l)) [⟨4, 0, 96, 4⟩] with
    poison := poison, xlat := { leases := [(9, { state := k, gen := 6, kind := 2, owner := 3, pool := 4, base := 0, len := 8 })] } }
/-- The map range of the pool, and that of the lease for the links. -/
def rPool : MapRange := ⟨4, 0, 2048, true, true⟩
/-- The range of the lease, read only. -/
def rLease : MapRange := ⟨4, 0, 8, true, false⟩
/-- A connected address of pool 4 at an offset. -/
def caAt (off : Nat) : Nat := 4 * 2 ^ 35 + off
/-- Layer 3 in a state, its lease bound. -/
def sBoundLayer (k : Nat) : State := (sXlat 1 [] []).setPath 2 3 { state := k }
/-- A forced release drains. -/
def sDrain : State :=
  { sXlat 2 [] [] with xlat :=
    { leases := [(9, { state := 2, gen := 7, kind := 2, owner := 3, draining := true })], forced := [(.session 2, 2, 3, true)] } }
/-- A value of XLAT_RELEASE. -/
def wRelease (kind id : Nat) : Word := (stateWith [(F.XLAT_RELEASE_KIND, kind), (F.XLAT_RELEASE_ID, id)]).word R.XLAT_RELEASE
/-- The header of a save area of an engine, without a body. -/
def hSave (ctx : Nat) : List Byte :=
  let h := [0x53, 0x41, 0x56, 0x45, BitVec.ofNat 8 ctx, 2] ++ leBytes 0 50 ++ leBytes (crc32c []) 4
  h ++ leBytes (crc32c h) 4
/-- The engine of a context is parked, its save area written; a fuller job is parked. -/
def sParked (ctx off : Nat) : State :=
  { (withPools (stateWith [(F.CHIP_MODE_MODE, 0x5), (F.XLAT_CTX_STATE ctx, 2)]) [⟨3, 5, 128, 64⟩]).hbmWrite (128 * 2097152 + off) (hSave ctx) with
    xlat := { parked := [(ctx, some 5)] }, fuller := [(3, some { words := [], state := 3, run := none })] }

/-- Inputs for each clause of TranslationGrantsOrFaults meet its hypotheses. -/
theorem test_witness_TranslationGrantsOrFaults :
    (∀ (l : Fin 256 × Nat), some (9, 6) = some l → ((sXlat 1 [] []).lease (↑l.1 : Nat)).gen = l.2) ∧
    (¬∀ (l : Fin 256 × Nat), some (9, 5) = some l → ((sXlat 1 [] []).lease (↑l.1 : Nat)).gen = l.2) ∧
    (∀ (l : Fin 256 × Nat), none = some l → ((sXlat 1 [] []).lease (↑l.1 : Nat)).gen = l.2) ∧
    (∀ (l : Fin 256 × Nat), some (9, 6) = some l → ((sXlat 1 [(96 * 2097152 + 64) / 32] []).lease (↑l.1 : Nat)).gen = l.2) ∧
    (let x := { id := 4, kind := 0, base := 96, size := 4 : PoolRec }; let y := sXlat 1 [] []; live y = true ∧ (y.mapFind 0
      (caAt 64) = some rPool ∧ y.pool rPool.pool = some x) ∧ if true = true then rPool.write = true else rPool.read = true ∧
      (¬(true = false ∧ (poolBase x + caAt 64 % 2 ^ 35) / 32 ∈ y.poison))) ∧
    (live (sXlat 1 [] []) = true ∧ (0 = 0 ∨ 13 ≤ 0) ∧ 3 = 3) ∧
    (live (sXlat 1 [] []) = true ∧ (0 = 0 ∨ 13 ≤ 0) ∧ ((sXlat 1 [] []).mapFind 0 (caAt (2 ^ 24)) = none ∧ 1 = 1)) ∧
    (let x := sXlat 1 [] []; live x = true ∧ (17 = 0 ∨ 13 ≤ 17) ∧ ((x.mapFind 17 (caAt 64) = some rLease ∧ x.pool rLease.pool =
      some { id := 4, kind := 0, base := 96, size := 4 : PoolRec }) ∧ (¬if true = true then rLease.write = true else rLease.read
      = true) ∧ 2 = 2)) ∧
    (let x := sXlat 1 [(96 * 2097152 + 64) / 32] []; let y := { id := 4, kind := 0, base := 96, size := 4 : PoolRec }; live x =
      true ∧ (0 = 0 ∨ 13 ≤ 0) ∧ ((x.mapFind 0 (caAt 64) = some rPool ∧ x.pool rPool.pool = some y) ∧ (if false = true then
      rPool.write = true else rPool.read = true) ∧ (false = false ∧ (poolBase y + caAt 64 % 2 ^ 35) / 32 ∈ x.poison) ∧ 4 = 4))
      :=
  ⟨(fun l h => by cases h; decide +kernel), (fun h => absurd (h _ rfl) (by decide +kernel)), (fun l h => nomatch h), (fun l h =>
    by cases h; decide +kernel), by decide +kernel⟩

/-- Inputs for each clause of ReleasesProbesAndResumes meet its hypotheses. -/
theorem test_witness_ReleasesProbesAndResumes :
    ((live (sXlat 2 [] []) = true ∧ (sXlat 2 [] []).releaseDue 9 = true) ∧
    (live (sXlat 1 [] []) = true ∧ (sXlat 1 [] []).releaseDue 9 = false) ∧
    (Permitted Requester.firmware R.XLAT_RELEASE (sXlat 1 [] []) ∧ (wordField (wRelease 4 0) F.XLAT_RELEASE_KIND ∉ [1, 2, 3] ∨
      wordField (wRelease 4 0) F.XLAT_RELEASE_ID ∉ pathIds (wordField (wRelease 4 0) F.XLAT_RELEASE_KIND))) ∧
    (Permitted Requester.firmware R.XLAT_RELEASE (sBoundLayer 0) ∧ wordField (wRelease 2 3) F.XLAT_RELEASE_KIND ∈ [1, 2, 3] ∧
      wordField (wRelease 2 3) F.XLAT_RELEASE_ID ∈ pathIds (wordField (wRelease 2 3) F.XLAT_RELEASE_KIND) ∧ ((sBoundLayer
      0).path (wordField (wRelease 2 3) F.XLAT_RELEASE_KIND) (wordField (wRelease 2 3) F.XLAT_RELEASE_ID)).state = 0) ∧
    (Permitted Requester.firmware R.XLAT_RELEASE (sBoundLayer 2) ∧ wordField (wRelease 2 3) F.XLAT_RELEASE_KIND ∈ [1, 2, 3] ∧
      wordField (wRelease 2 3) F.XLAT_RELEASE_ID ∈ pathIds (wordField (wRelease 2 3) F.XLAT_RELEASE_KIND) ∧ ((sBoundLayer
      2).path (wordField (wRelease 2 3) F.XLAT_RELEASE_KIND) (wordField (wRelease 2 3) F.XLAT_RELEASE_ID)).state = 2) ∧
    (live sDrain = true ∧ sDrain.xlat.forced = [(Requester.session 2, 2, 3, true)]) ∧
    (Permitted Requester.firmware R.XLAT_PROBE_HI (sParked 10 36700160)) ∧
    (let x := sParked 10 36700160; live x = true ∧ tabGet none x.xlat.parked 9 = none)) ∧
    (let x := sParked 10 36700160; live x = true ∧ tabGet none x.xlat.parked 10 = some 5 ∧ x.saveOk 10 = true ∧ saveOffset 10 =
      some 36700160 ∧ x.lowestPool 5 = some { id := 3, kind := 5, base := 128, size := 64 : PoolRec } ∧ (10 = 10 ∨ 10 = 11)) ∧
    (live (sParked 8 25165824) = true ∧ 8 ≠ 10 ∧ 8 ≠ 11) :=
  ⟨by decide +kernel, by decide +kernel⟩

/-- Pools 3 (input) and 4 (staging), with bytes at offset 64 of pool 3. -/
def sFulPools (bs : List Byte) (l : List (Field × Nat)) : State :=
  (withPools (stateWith ([(F.CHIP_MODE_MODE, 0x5)] ++ l)) [⟨3, 0, 1, 1⟩, ⟨4, 9, 2, 1⟩]).hbmWrite (2097152 + 64) bs
/-- The job fields of engine 1: codes of 9 bits from pool 3 to pool 4. -/
def fulFields (op width len cap : Nat) : List (Field × Nat) :=
  [(F.FUL_JOB_OP 1, op), (F.FUL_JOB_WIDTH 1, width), (F.FUL_SRC_POOL_ID 1, 3), (F.FUL_SRC_OFF_OFFSET 1, 1), (F.FUL_SRC_LEN_BYTES 1, len),
    (F.FUL_DST_POOL_ID 1, 4), (F.FUL_DST_OFF_OFFSET 1, 2), (F.FUL_DST_CAP_BYTES 1, cap)]
/-- A job of engine 1 in a state. -/
def fulJobOf (op len cap st : Nat) : FulJob := ⟨[op + 9 * 256, 3, 1, len, 4, 2, cap], false, st, none⟩
/-- Engine 1 holds a job on bytes of pool 3. -/
def sFulJob (bs : List Byte) (op cap st : Nat) : State :=
  { sFulPools bs [(F.FUL_STATUS_BUSY 1, 1)] with fuller := [(7, some (fulJobOf op bs.length cap st))] }
/-- Four bytes of data, and the stream that they make. -/
def fulData : List Byte := [1, 2, 1, 2]
/-- The stream of those bytes. -/
def fulStream : List Byte := fullerCompress 9 fulData

/-- Inputs for each clause of FullerRoundTrip meet its hypotheses. -/
theorem test_witness_FullerRoundTrip :
    (9 ≤ 9 ∧ 9 ≤ 16 ∧ fulData.length < 2 ^ 32 ∧ fulData.length ≤ 4) :=
  by decide +kernel

/-- Inputs for each clause of FullerJobsRun meet its hypotheses. -/
theorem test_witness_FullerJobsRun :
    (fullerDecompress ((sFulJob fulStream 1 64 2).fulRead (fulParams (fulJobOf 1 fulStream.length 64 2).words) 0 (fulParams
      (fulJobOf 1 fulStream.length 64 2).words).srcLen) (fulParams (fulJobOf 1 fulStream.length 64 2).words).dstCap = Except.ok
      fulData) ∧
    (fullerDecompress ((sFulJob fulData 1 64 2).fulRead (fulParams (fulJobOf 1 4 64 2).words) 0 (fulParams (fulJobOf 1 4 64
      2).words).srcLen) (fulParams (fulJobOf 1 4 64 2).words).dstCap = Except.error 6) ∧
    (∀ (r : FullerRun), fullerOpen ((sFulJob fulData 1 64 2).fulRead (fulParams (fulJobOf 1 4 64 2).words) 0 (fulParams
      (fulJobOf 1 4 64 2).words).srcLen) (fulParams (fulJobOf 1 4 64 2).words).dstCap = Except.ok r → r.rawLength ≤ 65536) ∧
    ((let x := sFulPools fulData (fulFields 0 9 4 64); Permitted Requester.firmware (R.FUL_CTRL 1) x ∧ x.flag (F.FUL_STATUS_BUSY
      1) = false ∧ (x.fulCheck 1 (fulParams (List.map (fun a => BitVec.toNat (x.word a)) (fulAddrs 1))) = none)) ∧
    (let x := sFulPools fulData (fulFields 0 8 4 64); Permitted Requester.firmware (R.FUL_CTRL 1) x ∧ x.flag (F.FUL_STATUS_BUSY
      1) = false ∧ (x.fulCheck 1 (fulParams (List.map (fun a => BitVec.toNat (x.word a)) (fulAddrs 1))) = some Status.value)) ∧
    (let x := sFulJob fulData 0 64 2; Permitted Requester.firmware (R.FUL_CTRL 1) x ∧ (¬x.flag (F.FUL_STATUS_BUSY 1) = false)) ∧
    (let x := sFulJob fulData 0 64 2; Permitted Requester.firmware (R.FUL_CTRL 1) x ∧ x.fulJob 1 = some (fulJobOf 0 4 64 2) ∧
      x.pool (fulParams (fulJobOf 0 4 64 2).words).dstPool = some { id := 4, kind := 9, base := 2, size := 1 : PoolRec }) ∧
    (let x := sFulPools fulData []; Permitted Requester.firmware (R.FUL_CTRL 1) x ∧ x.fulJob 1 = none)) ∧
    ((let x := fulParams (fulJobOf 0 4 64 2).words; let y := sFulJob fulData 0 64 2; live y = true ∧ y.fulJob 1 = some (fulJobOf
      0 4 64 2) ∧ (fulJobOf 0 4 64 2).state = 2 ∧ (fulJobOf 0 4 64 2).run = none ∧ y.pool x.srcPool = some
      { id := 3, kind := 0, base := 1, size := 1 : PoolRec } ∧ y.pool x.dstPool = some
      { id := 4, kind := 9, base := 2, size := 1 : PoolRec } ∧ x.srcLen < 2 ^ 32 ∧ y.fulPoison x 0 (x.srcLen + 8) = false ∧ x.op
      = 0 ∧ x.srcLen ≤ 65536 ∧ (fullerCompress x.width (y.fulRead x 0 x.srcLen)).length ≤ x.dstCap ∧ x.dstCap < 2 ^ 32) ∧
    (let x := fulParams (fulJobOf 1 fulStream.length 64 2).words; let y := sFulJob fulStream 1 64 2; live y = true ∧ y.fulJob 1
      = some (fulJobOf 1 fulStream.length 64 2) ∧ (fulJobOf 1 fulStream.length 64 2).state = 2 ∧ (fulJobOf 1 fulStream.length 64
      2).run = none ∧ y.pool x.srcPool = some { id := 3, kind := 0, base := 1, size := 1 : PoolRec } ∧ y.pool x.dstPool = some
      { id := 4, kind := 9, base := 2, size := 1 : PoolRec } ∧ x.srcLen < 2 ^ 32 ∧ y.fulPoison x 0 (x.srcLen + 8) = false ∧ x.op
      = 1 ∧ fulData.length ≤ 65536)) ∧
    (let x := fulParams (fulJobOf 1 4 64 2).words; let y := sFulJob fulData 1 64 2; live y = true ∧ y.fulJob 1 = some (fulJobOf
      1 4 64 2) ∧ (fulJobOf 1 4 64 2).state = 2 ∧ (fulJobOf 1 4 64 2).run = none ∧ y.pool x.srcPool = some
      { id := 3, kind := 0, base := 1, size := 1 : PoolRec } ∧ y.pool x.dstPool = some
      { id := 4, kind := 9, base := 2, size := 1 : PoolRec } ∧ x.srcLen < 2 ^ 32 ∧ y.fulPoison x 0 (x.srcLen + 8) = false ∧ x.op
      = 1) ∧
    (let x := sFulJob fulData 0 64 3; live x = true ∧ x.fulJob 1 = some (fulJobOf 0 4 64 3) ∧ (fulJobOf 0 4 64 3).state ≠ 2) :=
  ⟨(eq_ok _ _ (by decide +kernel)), (eq_error _ _ (by decide +kernel)), (of_error _ _ (by decide +kernel)), by decide +kernel,
    by decide +kernel, by decide +kernel⟩

/-- A sizing set of an adjacency record and a matrix record. -/
def setBytes : List Byte := sizBuild 7 [(4, 0, leBytes 0x20001 8), (5, 0, (upto 0 10).flatMap (fun i => leBytes (if i % 4 = 0 ∧ i < 9 then 0x1000 else 0) 2))]
/-- The sizing fields: mode, length of the source, busy, pending. -/
def sSiz (mode len busy pend : Nat) : State :=
  { (withPools (stateWith [(F.CHIP_MODE_MODE, mode), (⟨R.SIZ_LEN, 31, 0⟩, len), (F.SIZ_SRC_POOL_ID, 3), (F.SIZ_STATUS_BUSY, busy),
      (F.SIZ_STATUS_PEND_FENCE, pend), (F.SIZ_STATUS_COPY, 1)]) [⟨3, 0, 1, 1⟩]).hbmWrite 2097152 setBytes with
    siz := { inForce := [(64, leBytes 0x20001 8)], fence := if pend = 0 then [] else [(80, leBytes 0 20)] } }
/-- An operation in progress, with its bytes. -/
def sSizOp (op : Nat) (bs : Option (List Byte)) : State := { sSiz 0x4 64 1 0 with siz := { op := op, bytes := bs } }

/-- Inputs for each clause of SizingSetsStageAndWrite meet its hypotheses. -/
theorem test_witness_SizingSetsStageAndWrite :
    ((let x := sSiz 4 64 0 0; Permitted Requester.firmware R.SIZ_CTRL x ∧ x.modeNow = 4 ∧ (¬x.flag F.SIZ_STATUS_BUSY = true) ∧
      (¬(x.flag F.SIZ_STATUS_PEND_FENCE = true ∨ x.flag F.SIZ_STATUS_PEND_EPOCH = true)) ∧ x.word R.SIZ_LEN ≠ 0) ∧
    (Permitted Requester.firmware R.SIZ_CTRL (sSiz 5 64 0 0) ∧ (sSiz 5 64 0 0).modeNow ≠ 4) ∧
    (let x := sSiz 4 64 0 1; Permitted Requester.firmware R.SIZ_CTRL x ∧ x.modeNow = 4 ∧ (x.flag F.SIZ_STATUS_BUSY = true ∨
      x.flag F.SIZ_STATUS_PEND_FENCE = true ∨ x.flag F.SIZ_STATUS_PEND_EPOCH = true)) ∧
    (let x := sSiz 4 0 0 0; Permitted Requester.firmware R.SIZ_CTRL x ∧ x.modeNow = 4 ∧ (¬x.flag F.SIZ_STATUS_BUSY = true) ∧
      (¬(x.flag F.SIZ_STATUS_PEND_FENCE = true ∨ x.flag F.SIZ_STATUS_PEND_EPOCH = true)) ∧ x.word R.SIZ_LEN = 0) ∧
    (Permitted Requester.firmware R.SIZ_CTRL (sSiz 4 64 0 1) ∧ (¬(sSiz 4 64 0 1).flag F.SIZ_STATUS_BUSY = true)) ∧
    (Permitted Requester.firmware R.SIZ_CTRL (sSiz 4 64 1 0) ∧ (sSiz 4 64 1 0).flag F.SIZ_STATUS_BUSY = true) ∧
    (let x := sSizOp 1 (some [1]); live x = true ∧ x.siz.op = 1 ∧ (x.siz.bytes = none ∨ x.siz.bytes = some [1] ∧ (sizSetCheck
      [1]).1 = 1 ∧ 1 ≠ 0))) ∧
    ((let x := sSizOp 1 (some setBytes); live x = true ∧ x.siz.op = 1 ∧ x.siz.bytes = some setBytes ∧ sizSetCheck setBytes = (0,
      setBytes) ∧ sizCheckRecords x.sizLimits presetWordOk (leAt setBytes 6 2) (sizSetRecords setBytes) = (0, 0, 0) ∧
      x.siz.fence = [] ∧ x.siz.epoch = []) ∧
    (live (sSizOp 0 none) = true ∧ (sSizOp 0 none).siz.op ≠ 1) ∧
    (let x := sSiz 5 64 0 0; Permitted Requester.firmware R.SIZ_CTRL x ∧ 3 ≤ x.privilege Requester.firmware ∧ (x.modeNow = 4 ∨
      x.modeNow = 5) ∧ x.flag F.SIZ_STATUS_BUSY = false ∧ x.pins.flashAbsent = false) ∧
    (let x := stateWith [(F.CHIP_MODE_MODE, 4), (F.KCP_SESS_PRIV 2, 2)]; Permitted (Requester.session 2) R.SIZ_CTRL x ∧
      x.privilege (Requester.session 2) < 3) ∧
    (let x := sSiz 6 64 0 0; Permitted Requester.firmware R.SIZ_CTRL x ∧ 3 ≤ x.privilege Requester.firmware ∧ (¬(x.modeNow = 4 ∨
      x.modeNow = 5)))) ∧
    (let x := sSiz 4 64 1 0; Permitted Requester.firmware R.SIZ_CTRL x ∧ 3 ≤ x.privilege Requester.firmware ∧ (x.modeNow = 4 ∨
      x.modeNow = 5) ∧ x.flag F.SIZ_STATUS_BUSY = true) ∧
    (let x := sSizOp 2 (some setBytes); live x = true ∧ x.siz.op = 2 ∧ x.siz.bytes = some setBytes ∧ x.pins.flashAbsent = false)
      ∧
    (live (sSizOp 0 none) = true ∧ (sSizOp 0 none).siz.op ≠ 2) :=
  ⟨by decide +kernel, by decide +kernel, by decide +kernel⟩

/-- LOOPBACK_TEST with fields set; port 1 looped since 5 s. -/
def sTest (l : List (Field × Nat)) : State :=
  { stateWith ([(F.CHIP_MODE_MODE, 0xA)] ++ l) with
    now := 8000000000, ingest := { ports := [(1, { loopAt := 5000000000 })] }, panel := {} }
/-- A value of ETH_LOOP of port 1. -/
def wEthLoop (mode life len : Nat) : Word :=
  (stateWith [(F.ETH_LOOP_MODE 1, mode), (F.ETH_LOOP_TIMEOUT_S 1, life), (F.ETH_LOOP_FRAME_LEN 1, len)]).word (R.ETH_LOOP 1)
/-- The fields of a session of port 1. -/
def sOwn : State := sTest [(F.KCP_SESS_PRIV 2, 3), (F.KCP_SESS_PORT 2, 1)]
/-- A value of LNK_LOOP of a link. -/
def wLnkLoop (n mode : Nat) : Word := (stateWith [(F.LNK_LOOP_MODE n, mode)]).word (R.LNK_LOOP n)
/-- Link 2 in loopback; lane 3 with a record. -/
def sLanes (x : LaneCheck) (others : Bool) : State :=
  { sTest [(F.LNK_LOOP_MODE 2, 1), (F.LNK_CFG_ENABLE 2, 1)] with
    links := [(2, { checks := (upto 0 8).map (fun k => (k, if k = 3 then x else { good := 64, sync := others, bad := 0 })) })] }
/-- Controller 5 under a test. -/
def sMemTest (test : Nat) : State :=
  { (withPools (sTest [(F.HBM_TESTSTAT_RESULT 5, if test = 0 then 0 else 1)]) [⟨3, 0, 1, 1⟩]).hbmWrite 2097152 [7] with
    mem := { tests := if test = 0 then [] else [(5, test)] } }
/-- A pool for the golden stream; the self-test running; a decode context serving. -/
def sGolden (kind size : Nat) (busy serves : Bool) : State :=
  { withPools (sTest [(F.DEC_STATUS_ENGINES, 255), (F.DEC_SELFSTAT_RESULT, if busy then 1 else 0)]) [⟨3, kind, 1, size⟩] with
    dec := { selfTest := busy } , kcp := { paths := if serves then [(pathKey 1 3, { state := 2, binding := [(R.DEC_CTX_CFG 2, some 0)] })] else [] } }
/-- The TAP under an instruction. -/
def sTap (i : TapInstr) (reset : Bool) : State := { State.reset with tap := { instr := i }, pins := { State.reset.pins with inReset := reset } }

/-- Inputs for each clause of LoopbacksRunAndEnd meet its hypotheses. -/
theorem test_witness_LoopbacksRunAndEnd :
    ((let x := stateWith [(F.CHIP_MODE_MODE, 5)]; Permitted Requester.firmware (R.ETH_LOOP 1) x ∧ wordField (wEthLoop 1 2 64)
      (F.ETH_LOOP_MODE 1) ≠ 0 ∧ x.testMode = false) ∧
    (Permitted Requester.firmware (R.ETH_LOOP 1) (sTest []) ∧ (wordField (wEthLoop 1 2 63) (F.ETH_LOOP_MODE 1) = 0 ∨ (sTest
      []).testMode = true) ∧ (¬(wordField (wEthLoop 1 2 63) (F.ETH_LOOP_MODE 1) < 5 ∧ wordField (wEthLoop 1 2 63)
      (F.ETH_LOOP_TIMEOUT_S 1) ≠ 0 ∧ 64 ≤ wordField (wEthLoop 1 2 63) (F.ETH_LOOP_FRAME_LEN 1) ∧ wordField (wEthLoop 1 2 63)
      (F.ETH_LOOP_FRAME_LEN 1) ≤ 9600))) ∧
    (Permitted (Requester.session 2) (R.ETH_LOOP 1) sOwn ∧ (wordField (wEthLoop 3 2 64) (F.ETH_LOOP_MODE 1) = 0 ∨ sOwn.testMode
      = true) ∧ (wordField (wEthLoop 3 2 64) (F.ETH_LOOP_MODE 1) < 5 ∧ wordField (wEthLoop 3 2 64) (F.ETH_LOOP_TIMEOUT_S 1) ≠ 0
      ∧ 64 ≤ wordField (wEthLoop 3 2 64) (F.ETH_LOOP_FRAME_LEN 1) ∧ wordField (wEthLoop 3 2 64) (F.ETH_LOOP_FRAME_LEN 1) ≤ 9600)
      ∧ (wordField (wEthLoop 3 2 64) (F.ETH_LOOP_MODE 1) ∈ [1, 2, 3] ∧ sOwn.writerPort (Requester.session 2) = some 1)) ∧
    (Permitted (Requester.session 2) (R.ETH_LOOP 1) sOwn ∧ (wordField (wEthLoop 4 2 9600) (F.ETH_LOOP_MODE 1) = 0 ∨
      sOwn.testMode = true) ∧ (wordField (wEthLoop 4 2 9600) (F.ETH_LOOP_MODE 1) < 5 ∧ wordField (wEthLoop 4 2 9600)
      (F.ETH_LOOP_TIMEOUT_S 1) ≠ 0 ∧ 64 ≤ wordField (wEthLoop 4 2 9600) (F.ETH_LOOP_FRAME_LEN 1) ∧ wordField (wEthLoop 4 2 9600)
      (F.ETH_LOOP_FRAME_LEN 1) ≤ 9600) ∧ (¬(wordField (wEthLoop 4 2 9600) (F.ETH_LOOP_MODE 1) ∈ [1, 2, 3] ∧ sOwn.writerPort
      (Requester.session 2) = some 1))) ∧
    (let x := sTest [(F.ETH_LOOP_MODE 1, 2), (F.ETH_LOOP_TIMEOUT_S 1, 3)]; live x = true ∧ x.get (F.ETH_LOOP_MODE 1) ≠ 0 ∧
      (tabGet ({} : PortState) x.ingest.ports 1).loopAt + 1000000000 * x.get (F.ETH_LOOP_TIMEOUT_S 1) ≤ x.now) ∧
    (let x := sTest [(F.ETH_LOOP_MODE 1, 2), (F.ETH_LOOP_TIMEOUT_S 1, 4)]; live x = true ∧ (x.get (F.ETH_LOOP_MODE 1) = 0 ∨
      ¬(tabGet ({} : PortState) x.ingest.ports 1).loopAt + 1000000000 * x.get (F.ETH_LOOP_TIMEOUT_S 1) ≤ x.now)) ∧
    (let x := stateWith [(F.CHIP_MODE_MODE, 5)]; Permitted Requester.firmware (R.LNK_LOOP 2) x ∧ wordField (wLnkLoop 2 1)
      (F.LNK_LOOP_MODE 2) ≠ 0 ∧ x.testMode = false)) ∧
    (Permitted Requester.firmware (R.LNK_LOOP 0) (sTest []) ∧ wordField (wLnkLoop 0 5) (F.LNK_LOOP_MODE 0) ≠ 0 ∧ (sTest
      []).testMode = true ∧ (¬(wordField (wLnkLoop 0 5) (F.LNK_LOOP_MODE 0) < 6 ∧ ¬(wordField (wLnkLoop 0 5) (F.LNK_LOOP_MODE 0)
      = 5 ∧ 0 = 0)))) ∧
    (let x := sTest [(F.LNK_CFG_ENABLE 2, 0)]; Permitted Requester.firmware (R.LNK_LOOP 2) x ∧ wordField (wLnkLoop 2 5)
      (F.LNK_LOOP_MODE 2) ≠ 0 ∧ x.testMode = true ∧ (wordField (wLnkLoop 2 5) (F.LNK_LOOP_MODE 2) < 6 ∧ ¬(wordField (wLnkLoop 2
      5) (F.LNK_LOOP_MODE 2) = 5 ∧ 2 = 0)) ∧ x.flag (F.LNK_CFG_ENABLE 2) = false) ∧
    (let x := sTest [(F.LNK_CFG_ENABLE 2, 1), (F.LNK_STATUS_STATE 2, 4)]; Permitted Requester.firmware (R.LNK_LOOP 2) x ∧
      wordField (wLnkLoop 2 5) (F.LNK_LOOP_MODE 2) ≠ 0 ∧ x.testMode = true ∧ (wordField (wLnkLoop 2 5) (F.LNK_LOOP_MODE 2) < 6 ∧
      ¬(wordField (wLnkLoop 2 5) (F.LNK_LOOP_MODE 2) = 5 ∧ 2 = 0)) ∧ x.flag (F.LNK_CFG_ENABLE 2) = true ∧ x.panel.opened = none)
      ∧
    (let x := (sLanes { good := 63 : LaneCheck } true); live x = true ∧ 3 < checkedLanes 2 (x.get (F.LNK_LOOP_MODE 2))) ∧
    (let x := (sLanes { good := 9, sync := true, bad := 3 : LaneCheck } true); live x = true ∧ 3 < checkedLanes 2 (x.get
      (F.LNK_LOOP_MODE 2))) ∧
    (let x := (sLanes { good := 9, sync := true, bad := 3 : LaneCheck } true); live x = true ∧ (¬8 < checkedLanes 2 (x.get
      (F.LNK_LOOP_MODE 2)))) :=
  ⟨by decide +kernel, by decide +kernel⟩

/-- Inputs for each clause of DeviceTestsRunAndEnd meet its hypotheses. -/
theorem test_witness_DeviceTestsRunAndEnd :
    ((List.replicate Config.boundaryCells true).length = Config.boundaryCells) ∧
    ((let x := stateWith [(F.CHIP_MODE_MODE, 5)]; Permitted Requester.firmware (R.HBM_TEST 5) x ∧ (1, Instr.hbmPhyLoopback
      Requester.firmware 5) ∈
      [(1, Instr.hbmPhyLoopback Requester.firmware 5), (2, Instr.hbmCtrlLoopback Requester.firmware 5), (3, Instr.hbmMbist Requester.firmware 5)]
      ∧ x.testMode = false) ∧
    (let x :=
      { pins := (sMemTest 0).pins, now := (sMemTest 0).now, free := (sMemTest 0).free, regs := (sMemTest 0).regs, staged := (sMemTest 0).staged, heldLo := (sMemTest 0).heldLo, captured := (sMemTest 0).captured, hbm := (sMemTest 0).hbm, poison := (sMemTest 0).poison, flash := (sMemTest 0).flash, sram := (sMemTest 0).sram, fuses := (sMemTest 0).fuses, evt := (sMemTest 0).evt, struct := (sMemTest 0).struct, kcp := { paths := [(pathKey 1 3, { state := 1 : PathObj })] : KcpState }, card := (sMemTest 0).card, conf := (sMemTest 0).conf, plank := (sMemTest 0).plank, panel := (sMemTest 0).panel, afl := (sMemTest 0).afl, links := (sMemTest 0).links, time := (sMemTest 0).time, mem := (sMemTest 0).mem, xlat := (sMemTest 0).xlat, ingest := (sMemTest 0).ingest, dec := (sMemTest 0).dec, siz := (sMemTest 0).siz, enc := (sMemTest 0).enc, fuller := (sMemTest 0).fuller, mode := (sMemTest 0).mode, tap := (sMemTest 0).tap, out := (sMemTest 0).out, pending := (sMemTest 0).pending : State };
      Permitted Requester.firmware (R.HBM_TEST 5) x ∧ (2, Instr.hbmCtrlLoopback Requester.firmware 5) ∈
      [(1, Instr.hbmPhyLoopback Requester.firmware 5), (2, Instr.hbmCtrlLoopback Requester.firmware 5), (3, Instr.hbmMbist Requester.firmware 5)]
      ∧ x.testMode = true ∧ (¬(List.all x.kcp.paths fun e => e.2.state == 0) = true)) ∧
    (let x := sMemTest 2; Permitted Requester.firmware (R.HBM_TEST 5) x ∧ (3, Instr.hbmMbist Requester.firmware 5) ∈
      [(1, Instr.hbmPhyLoopback Requester.firmware 5), (2, Instr.hbmCtrlLoopback Requester.firmware 5), (3, Instr.hbmMbist Requester.firmware 5)]
      ∧ x.testMode = true ∧ ((List.all x.kcp.paths fun e => e.2.state == 0) = true) ∧ (x.dec.selfTest = true ∨ x.get
      (F.HBM_TESTSTAT_RESULT 5) = 1)) ∧
    (let x := sMemTest 0; Permitted Requester.firmware (R.HBM_TEST 5) x ∧ (1, Instr.hbmPhyLoopback Requester.firmware 5) ∈
      [(1, Instr.hbmPhyLoopback Requester.firmware 5), (2, Instr.hbmCtrlLoopback Requester.firmware 5), (3, Instr.hbmMbist Requester.firmware 5)]
      ∧ x.testMode = true ∧ ((List.all x.kcp.paths fun e => e.2.state == 0) = true) ∧ (¬(x.dec.selfTest = true ∨ x.get
      (F.HBM_TESTSTAT_RESULT 5) = 1))) ∧
    (let x := sMemTest 0; Permitted Requester.firmware (R.HBM_TEST 5) x ∧ (2, Instr.hbmCtrlLoopback Requester.firmware 5) ∈
      [(1, Instr.hbmPhyLoopback Requester.firmware 5), (2, Instr.hbmCtrlLoopback Requester.firmware 5), (3, Instr.hbmMbist Requester.firmware 5)]
      ∧ x.testMode = true ∧ ((List.all x.kcp.paths fun e => e.2.state == 0) = true) ∧ (¬(x.dec.selfTest = true ∨ x.get
      (F.HBM_TESTSTAT_RESULT 5) = 1)))) ∧
    ((let x := sMemTest 0; Permitted Requester.firmware (R.HBM_TEST 5) x ∧ (3, Instr.hbmMbist Requester.firmware 5) ∈
      [(1, Instr.hbmPhyLoopback Requester.firmware 5), (2, Instr.hbmCtrlLoopback Requester.firmware 5), (3, Instr.hbmMbist Requester.firmware 5)]
      ∧ x.testMode = true ∧ ((List.all x.kcp.paths fun e => e.2.state == 0) = true) ∧ (¬(x.dec.selfTest = true ∨ x.get
      (F.HBM_TESTSTAT_RESULT 5) = 1))) ∧
    (let x := sMemTest 1; live x = true ∧ (tabGet 0 x.mem.tests 5 = 1 ∨ tabGet 0 x.mem.tests 5 = 2)) ∧
    (let x := sMemTest 2; live x = true ∧ (tabGet 0 x.mem.tests 5 = 1 ∨ tabGet 0 x.mem.tests 5 = 2)) ∧
    (let x := sMemTest 3; live x = true ∧ tabGet 0 x.mem.tests 5 ≠ 1 ∧ tabGet 0 x.mem.tests 5 ≠ 2) ∧
    (live (sMemTest 3) = true ∧ tabGet 0 (sMemTest 3).mem.tests 5 = 3) ∧
    (live (sMemTest 0) = true ∧ tabGet 0 (sMemTest 0).mem.tests 5 ≠ 3) ∧
    (let x := stateWith [(F.CHIP_MODE_MODE, 5)]; Permitted Requester.firmware R.DEC_SELFTEST x ∧ x.testMode = false) ∧
    (let x := sGolden 2 4 false false; Permitted Requester.firmware R.DEC_SELFTEST x ∧ x.testMode = true ∧ x.pool 4 = none)) ∧
    ((let x := { id := 3, kind := 2, base := 1, size := 3 : PoolRec }; let y := sGolden 2 3 false false; Permitted
      Requester.firmware R.DEC_SELFTEST y ∧ y.testMode = true ∧ y.pool 3 = some x ∧ (x.kind ≠ 2 ∨ x.size < 4)) ∧
    (let x := { id := 3, kind := 2, base := 1, size := 4 : PoolRec }; let y := sGolden 2 4 false true; Permitted
      Requester.firmware R.DEC_SELFTEST y ∧ y.testMode = true ∧ y.pool 3 = some x ∧ x.kind = 2 ∧ 4 ≤ x.size ∧ y.contextServes =
      true) ∧
    (let x := { id := 3, kind := 2, base := 1, size := 4 : PoolRec }; let y := sGolden 2 4 true false; Permitted
      Requester.firmware R.DEC_SELFTEST y ∧ y.testMode = true ∧ y.pool 3 = some x ∧ x.kind = 2 ∧ 4 ≤ x.size ∧ y.contextServes =
      false ∧ y.testRuns = true)) ∧
    (let x := { id := 3, kind := 2, base := 1, size := 4 : PoolRec }; let y := sGolden 2 4 false false; Permitted
      Requester.firmware R.DEC_SELFTEST y ∧ y.testMode = true ∧ y.pool 3 = some x ∧ x.kind = 2 ∧ 4 ≤ x.size ∧ y.contextServes =
      false ∧ y.testRuns = false) ∧
    (let x := sGolden 2 4 true false; live x = true ∧ x.dec.selfTest = true) ∧
    (let x := sGolden 2 4 false false; live x = true ∧ x.dec.selfTest = false) ∧
    ((sTap TapInstr.idcode true).tap.instr = TapInstr.idcode ∧ (List.replicate 32 true).length = 32) ∧
    ((sTap TapInstr.extest false).tapActs = TapInstr.bypass) ∧
    ((sTap TapInstr.samplePreload true).tap.instr = TapInstr.samplePreload) :=
  ⟨(List.length_replicate), by decide +kernel, by decide +kernel, by decide +kernel, by decide +kernel⟩

end Sys2Proof.Tests
end

section
/-! SUPPORT. The statements of spec/00_scope.md about register accesses: what a read and a write request answer, what a read
captures and clears, and the four statements settled from that. -/

namespace Sys2Proof.Machine

/-! ## Requests as commands -/

/-- A permitted REGISTER_WRITE answers the status of its access. -/
theorem exec_registerWrite {who : Requester} {addr : Nat} {s : State} (h : Permitted who addr s) (width : Nat) (v : Word) :
    exec (.registerWrite who width addr v) s =
      let r := if width ≠ 32 then refuse .align s else regWrite who addr v s
      .next (r.2.emit (.status who addr r.1)) := by
  show whenLive s (request who addr _) = _
  rw [whenLive_next _ _ h.1, request_permitted _ _ _ _ h]

theorem exec_writeLoHold {who : Requester} {addr : Nat} {s : State} (h : Permitted who addr s) (v : Word) :
    exec (.writeLoHold who addr v) s =
      .next ((regWrite who addr v s).2.emit (.status who addr (regWrite who addr v s).1)) := by
  show whenLive s (request who addr _) = _
  rw [whenLive_next _ _ h.1, request_permitted _ _ _ _ h]

/-- WRITE_HI_APPLY and WRITE_LO_HOLD are one access. -/
theorem exec_writeHiApply_eq (who : Requester) (addr : Nat) (v : Word) (s : State) :
    exec (.writeHiApply who addr v) s = exec (.writeLoHold who addr v) s := rfl

/-- A read of a requester with read privilege answers the word and the status of its access. -/
theorem exec_rcCounterRead {who : Requester} {s : State} (hl : live s = true) (hp : s.privilege who ≠ 0) (addr : Nat) :
    exec (.rcCounterRead who addr) s =
      .next ((regRead addr s).2.2.emit (.value who addr (regRead addr s).2.1 (regRead addr s).1)) := by
  show whenLive s (readRequest who addr) = _
  rw [whenLive_next _ _ hl, readRequest, if_neg hp]

/-- READ_LO_CAPTURE and RC_COUNTER_READ are one access. -/
theorem exec_readLoCapture_eq (who : Requester) (addr : Nat) (s : State) :
    exec (.readLoCapture who addr) s = exec (.rcCounterRead who addr) s := rfl

theorem exec_timeNowCapture_eq (who : Requester) (s : State) :
    exec (.timeNowCapture who) s = exec (.rcCounterRead who R.TIME_NOW_S_LO) s := rfl

theorem exec_teStampCapture_eq (who : Requester) (s : State) :
    exec (.teStampCapture who) s = exec (.rcCounterRead who R.PANEL_TES_LO) s := rfl

/-! ## An access by its address -/

theorem regWrite_misaligned {addr : Nat} (h : addr % 4 ≠ 0) (who : Requester) (v : Word) (s : State) :
    regWrite who addr v s = (.align, s) := by
  unfold regWrite
  rw [if_pos h]
  rfl

theorem regWrite_unmapped {addr : Nat} (h : addr % 4 = 0) (hf : regFind addr = none) (who : Requester) (v : Word) (s : State) :
    regWrite who addr v s = (.unmapped, s) := by
  unfold regWrite
  rw [if_neg (not_not_intro h), hf]
  rfl

theorem regRead_misaligned {addr : Nat} (h : addr % 4 ≠ 0) (s : State) : regRead addr s = (.align, 0, s) := by
  unfold regRead
  rw [if_pos h]

theorem regRead_unmapped {addr : Nat} (h : addr % 4 = 0) (hf : regFind addr = none) (s : State) :
    regRead addr s = (.unmapped, 0, s) := by
  unfold regRead
  rw [if_neg (not_not_intro h), hf]

theorem regRead_captured {addr : Nat} (h : addr % 4 = 0) (hf : regFind addr ≠ none) (hc : isCaptured addr = true) (s : State) :
    regRead addr s = (.ok, tabGet 0 s.captured addr, s) := by
  obtain ⟨⟨d, i, j⟩, hd⟩ := Option.ne_none_iff_exists'.mp hf
  unfold regRead
  rw [if_neg (not_not_intro h), hd]
  simp only [hc]
  rfl

/-- The captured words with those of the registers cs captured in one instant of s. -/
def captureWords (cs : List Nat) (s : State) (t : Tab Word) : Tab Word := cs.foldl (fun t c => tabPut 0 t c (peek c s)) t

theorem regRead_mapped {addr : Nat} {d : RegDesc} {i j : Nat} (h : addr % 4 = 0) (hf : regFind addr = some (d, i, j))
    (hc : isCaptured addr = false) (s : State) :
    regRead addr s =
      (.ok, peek addr s, clearRc d i addr { s with captured := captureWords (captures addr) s s.captured }) := by
  unfold regRead peek captureWords
  rw [if_neg (not_not_intro h), hf]
  simp only [hc]
  rfl

/-! ## What a read captures -/

theorem tabGet_captureWords (cs : List Nat) (s : State) (t : Tab Word) (b : Nat) :
    tabGet 0 (captureWords cs s t) b = if b ∈ cs then peek b s else tabGet 0 t b := by
  unfold captureWords
  induction cs generalizing t with
  | nil => simp
  | cons c cs ih =>
    rw [List.foldl_cons, ih, tabGet_tabPut]
    by_cases hb : b ∈ cs
    · simp [hb]
    · by_cases hc : c = b
      · simp [hc]
      · simp [hb, hc, Ne.symm hc]

/-! ## What a read clears -/

/-- The RC fields among fs of the register at address a cleared. -/
def clearRcFields (a : Nat) (fs : List FieldDesc) (s : State) : State :=
  fs.foldl (fun s f => if f.access = .rc then s.set ⟨a, f.hi, f.lo⟩ 0 else s) s

theorem clearRcFields_cons (a : Nat) (f : FieldDesc) (fs : List FieldDesc) (s : State) :
    clearRcFields a (f :: fs) s = clearRcFields a fs (if f.access = .rc then s.set ⟨a, f.hi, f.lo⟩ 0 else s) := rfl

/-- The lane counters apart, a read clears the RC fields of its register's word. -/
theorem clearRc_eq_clearRcFields {d : RegDesc} (h0 : d.base ≠ R.LNK_LANEERR 0) (h1 : d.base ≠ R.LNK_LANEERR 1) (i a : Nat)
    (s : State) : clearRc d i a s = clearRcFields a d.fields s := by
  unfold clearRc
  rw [if_neg h0, if_neg h1]
  rfl

theorem clearRcFields_only (a : Nat) (fs : List FieldDesc) (s : State) :
    clearRcFields a fs s = { s with regs := (clearRcFields a fs s).regs } := by
  refine foldl_keeps (fun t : State => t = { s with regs := t.regs }) _ fs rfl fun t f ht => ?_
  split
  · rw [ht]
    rfl
  · exact ht

theorem clearRcFields_word_ne {a b : Nat} (h : b ≠ a) (fs : List FieldDesc) (s : State) :
    (clearRcFields a fs s).word b = s.word b := by
  refine foldl_keeps (fun t : State => t.word b = s.word b) _ fs rfl fun t f ht => ?_
  split
  · rw [State.word_set_ne _ _ _ h.symm, ht]
  · exact ht

theorem clearRcFields_of_no_rc (a : Nat) {fs : List FieldDesc} (h : ∀ f ∈ fs, f.access ≠ .rc) (s : State) :
    clearRcFields a fs s = s := by
  induction fs with
  | nil => rfl
  | cons f fs ih =>
    obtain ⟨hf, hfs⟩ := List.forall_mem_cons.mp h
    rw [clearRcFields_cons, if_neg hf, ih hfs]

/-- Two fields of one register that share no bit. -/
def FieldDesc.apart (f g : FieldDesc) : Prop := f.hi < g.lo ∨ g.hi < f.lo

theorem clearRcFields_get_apart (a : Nat) (g : FieldDesc) {fs : List FieldDesc}
    (h : ∀ f ∈ fs, (f.lo ≤ f.hi ∧ f.hi < 32) ∧ f.apart g) (s : State) :
    (clearRcFields a fs s).get ⟨a, g.hi, g.lo⟩ = s.get ⟨a, g.hi, g.lo⟩ := by
  induction fs generalizing s with
  | nil => rfl
  | cons f fs ih =>
    obtain ⟨⟨hlegal, hapart⟩, hfs⟩ := List.forall_mem_cons.mp h
    rw [clearRcFields_cons, ih hfs]
    split
    · exact State.get_set_other s ⟨a, f.hi, f.lo⟩ ⟨a, g.hi, g.lo⟩ 0 hlegal hapart
    · rfl

/-- Of fields that share no bits the RC ones read 0 after they are cleared, and the others as before. -/
theorem clearRcFields_get (a : Nat) {fs : List FieldDesc} (hlegal : ∀ f ∈ fs, f.lo ≤ f.hi ∧ f.hi < 32)
    (hapart : fs.Pairwise FieldDesc.apart) (s : State) {g : FieldDesc} (hg : g ∈ fs) :
    (clearRcFields a fs s).get ⟨a, g.hi, g.lo⟩ = if g.access = .rc then 0 else s.get ⟨a, g.hi, g.lo⟩ := by
  induction fs generalizing s with
  | nil => cases hg
  | cons f fs ih =>
    obtain ⟨hf, hfs⟩ := List.forall_mem_cons.mp hlegal
    obtain ⟨hfa, hfsa⟩ := List.pairwise_cons.mp hapart
    rw [clearRcFields_cons]
    rcases List.mem_cons.mp hg with rfl | hg
    · rw [clearRcFields_get_apart a g fun x hx => ⟨hfs x hx, (hfa x hx).symm⟩]
      split
      · exact (State.get_set_same s ⟨a, g.hi, g.lo⟩ 0 hf).trans (Nat.zero_mod _)
      · rfl
    · rw [ih hfs hfsa _ hg]
      congr 1
      split
      · exact State.get_set_other s ⟨a, f.hi, f.lo⟩ ⟨a, g.hi, g.lo⟩ 0 hf (hfa g hg)
      · rfl

@[simp] theorem State.lane_setLane_same (s : State) (n i : Nat) (x : LinkLane) : (s.setLane n i x).lane n i = x := by
  show tabGet {} (tabGet {} (tabPut {} s.links n _) n).lanes i = x
  rw [tabGet_tabPut, if_pos rfl]
  exact (tabGet_tabPut {} (s.link n).lanes i i x).trans (if_pos rfl)

@[simp] theorem laneErrWord_laneErrClear (n : Nat) (s : State) : laneErrWord n (laneErrClear n s) = 0 := by
  have hsel : (laneErrClear n s).get (F.LNK_LANESEL_LANE n) = s.get (F.LNK_LANESEL_LANE n) := rfl
  unfold laneErrWord
  rw [hsel, laneErrClear, State.lane_setLane_same]
  rfl

/-! ## The register map -/

theorem regFindIn_mem {a : Nat} {l : List RegDesc} {d : RegDesc} {i j : Nat} (h : regFindIn a l = some (d, i, j)) : d ∈ l := by
  induction l with
  | nil => cases h
  | cons e l ih =>
    unfold regFindIn at h
    split at h
    · cases h
      exact List.mem_cons_self
    · exact List.mem_cons_of_mem e (ih h)

/-- Every field of the register map lies in a 32-bit word, and the fields of one register share no bit. -/
theorem regTable_fields_apart : ∀ d ∈ regTable,
    (∀ f ∈ d.fields, f.lo ≤ f.hi ∧ f.hi < 32) ∧ d.fields.Pairwise (fun f g => f.hi < g.lo ∨ g.hi < f.lo) := by
  decide +kernel

/-- The register at an address reads its own word and clears nothing. -/
def readsWithoutClearing (a : Nat) : Bool :=
  match regFind a with
  | none => false
  | some (d, _, _) => a % 4 == 0 && !isCaptured a && d.fields.all (fun f => f.access != .rc) &&
      d.base != R.LNK_LANEERR 0 && d.base != R.LNK_LANEERR 1

theorem regRead_of_readsWithoutClearing {addr : Nat} (h : readsWithoutClearing addr = true) (s : State) :
    regRead addr s = (.ok, peek addr s, { s with captured := captureWords (captures addr) s s.captured }) := by
  unfold readsWithoutClearing at h
  split at h
  · cases h
  · rename_i d i j hd
    simp only [Bool.and_eq_true, beq_iff_eq, Bool.not_eq_true', bne_iff_ne, List.all_eq_true] at h
    obtain ⟨⟨⟨⟨halign, hcap⟩, hrc⟩, hne0⟩, hne1⟩ := h
    rw [regRead_mapped halign hd hcap, clearRc_eq_clearRcFields hne0 hne1, clearRcFields_of_no_rc _ hrc]

/-- A read of a register that clears nothing answers its word and captures its group. -/
theorem rcCounterRead_captures {who : Requester} {s : State} (hl : live s = true) (hp : s.privilege who ≠ 0) {addr : Nat}
    (h : readsWithoutClearing addr = true) :
    Completes (exec (.rcCounterRead who addr) s) (fun t =>
      t = { s with captured := t.captured, out := .value who addr (peek addr s) .ok :: s.out } ∧
      ∀ b, tabGet 0 t.captured b = if b ∈ captures addr then peek b s else tabGet 0 s.captured b) := by
  refine ⟨_, exec_rcCounterRead hl hp addr, ?_⟩
  rw [regRead_of_readsWithoutClearing h]
  exact ⟨rfl, tabGet_captureWords _ _ _⟩

theorem timeNow_reads : readsWithoutClearing R.TIME_NOW_S_LO = true := by decide +kernel

theorem teStamp_reads : readsWithoutClearing R.PANEL_TES_LO = true := by decide +kernel

theorem pairLows_read : ∀ lo ∈ pairLows, readsWithoutClearing lo = true ∧ captures lo = [lo + 4] := by decide +kernel

/-! ## Misaligned and unmapped accesses -/

/-- R7: alignment comes before the map of the registers. -/
theorem misalignedAccessRefused : Claims.MisalignedAccessRefused := by
  intro who width addr v s
  refine ⟨fun hp hbad => ?_, fun hp ha => ?_, fun hl hp ha => ?_⟩
  · rw [exec_registerWrite hp]
    by_cases hw : width = 32
    · rw [if_neg (not_not_intro hw), regWrite_misaligned (hbad.resolve_left (not_not_intro hw))]
    · rw [if_pos hw]
      rfl
  · rw [exec_writeHiApply_eq, exec_writeLoHold hp, regWrite_misaligned ha]
    exact ⟨rfl, rfl⟩
  · rw [exec_readLoCapture_eq, exec_rcCounterRead hl hp, regRead_misaligned ha]
    exact ⟨rfl, rfl⟩

/-- R8: an aligned access is looked up, and finds no register. -/
theorem unmappedAccessReported : Claims.UnmappedAccessReported := by
  intro who addr v s ha hf
  refine ⟨fun hp => ?_, fun hl hp => ?_⟩
  · rw [exec_registerWrite hp, exec_writeHiApply_eq, exec_writeLoHold hp, regWrite_unmapped ha hf]
    exact ⟨rfl, rfl, rfl⟩
  · rw [exec_readLoCapture_eq, exec_rcCounterRead hl hp, regRead_unmapped ha hf]
    exact ⟨rfl, rfl⟩

/-- Settles O6: a permitted access answers the status of its access, and one at such an address is ALIGN or UNMAPPED in the
state that it found. -/
theorem badAccessesRefused : Obligations.BadAccessesRefused := ⟨misalignedAccessRefused, unmappedAccessReported⟩

/-! ## A write of a mapped register -/

/-- A note of a binding register changes the path objects. -/
theorem noteWritten_only (a : Nat) (s : State) : noteWritten a s = { s with kcp := (noteWritten a s).kcp } := by
  refine foldl_keeps (fun t : State => t = { s with kcp := t.kcp }) _ _ rfl fun t o ht => ?_
  simp only
  split
  · exact ht
  · rw [ht]
    rfl

theorem noteStaged_cases (a : Nat) (r : Res) : ∃ k, noteStaged a r = (r.1, { r.2 with kcp := k }) := by
  unfold noteStaged
  split
  · exact ⟨_, congrArg _ (noteWritten_only a r.2)⟩
  · exact ⟨_, rfl⟩

theorem noteStaged_refused (a : Nat) {r : Res} (h : r.1 ≠ .ok) : noteStaged a r = r := by
  unfold noteStaged
  rw [if_neg fun hok => h hok.1]

theorem regWrite_mapped {a : Nat} {d : RegDesc} {i j : Nat} (ha : a % 4 = 0) (hf : regFind a = some (d, i, j))
    (who : Requester) (w : Word) (s : State) : regWrite who a w s = mappedWrite who d i j a w s := by
  unfold regWrite
  rw [if_neg (not_not_intro ha), hf]

theorem mappedWrite_readOnly {d : RegDesc} (h : writableMask d = 0) (who : Requester) (i j a : Nat) (w : Word) (s : State) :
    mappedWrite who d i j a w s = okay s := by
  unfold mappedWrite
  rw [if_pos h]

theorem mappedWrite_own {who : Requester} {d : RegDesc} {i j a : Nat} {w : Word} {s : State} {r : Res}
    (hm : writableMask d ≠ 0) (ho : ownWrite who d i j a (w &&& BitVec.ofNat 32 (writableMask d)) w s = some r) :
    mappedWrite who d i j a w s = noteStaged a r := by
  unfold mappedWrite
  simp only [if_neg hm, ho]

theorem mappedWrite_plain {who : Requester} {d : RegDesc} {i j a : Nat} {w : Word} {s : State}
    (hm : writableMask d ≠ 0) (ho : ownWrite who d i j a (w &&& BitVec.ofNat 32 (writableMask d)) w s = none) :
    mappedWrite who d i j a w s =
      let v := w &&& BitVec.ofNat 32 (writableMask d)
      noteStaged a (if d.commit = .immediate then immediateWrite d a v s else stagedWrite d a v s) := by
  unfold mappedWrite
  simp only [if_neg hm, ho]

theorem immediateWrite_ok {d : RegDesc} {v : Word} (h : valueBad d v.toNat = false) (a : Nat) (s : State) :
    immediateWrite d a v s =
      okay (s.setWord a ((s.word a &&& ~~~ BitVec.ofNat 32 (writableMask d)) ||| (v &&& BitVec.ofNat 32 (writableMask d)))) := by
  unfold immediateWrite
  simp only [h]
  rfl

theorem stagedWrite_outside {s : State} {d : RegDesc} {a : Nat} (h : s.stageWindow d a = false) (v : Word) :
    stagedWrite d a v s = (.window, s) := by
  unfold stagedWrite
  simp only [h]
  rfl

theorem stagedWrite_ok {s : State} {d : RegDesc} {a : Nat} {v : Word} (h : s.stageWindow d a = true)
    (hv : valueBad d v.toNat = false) (hs : s.kcp.shadow = none) : stagedWrite d a v s = okay (s.stage a v) := by
  unfold stagedWrite State.stageWrite
  simp only [h, hv, hs]
  rfl

/-! ## Writes as commands -/

/-- WRITE_LO_HOLD and a REGISTER_WRITE of 32 bits are one access. -/
theorem exec_registerWrite_eq (who : Requester) (addr : Nat) (v : Word) (s : State) :
    exec (.registerWrite who 32 addr v) s = exec (.writeLoHold who addr v) s := rfl

/-- An answered write leaves what its register's rule left, u, but for the note of a binding register and the answer o. -/
def Answered (o : Output) (u t : State) : Prop := t = { u with kcp := t.kcp, out := o :: u.out }

theorem answered_emit (u : State) (k : KcpState) (o : Output) : Answered o u (({ u with kcp := k } : State).emit o) :=
  Eq.refl _

theorem Answered.word {o : Output} {u t : State} (h : Answered o u t) (a : Nat) : t.word a = u.word a := by
  rw [h]
  rfl

theorem Answered.stagedWord {o : Output} {u t : State} (h : Answered o u t) (a : Nat) : t.stagedWord a = u.stagedWord a := by
  rw [h]
  rfl

theorem Answered.heldLo {o : Output} {u t : State} (h : Answered o u t) : t.heldLo = u.heldLo := by
  rw [h]

/-- A write whose rule changes words in force and held words changes nothing else. -/
theorem Answered.frame {o : Output} {s u t : State} (h : Answered o u t) (hu : u = { s with regs := u.regs, heldLo := u.heldLo }) :
    t = { s with regs := t.regs, heldLo := t.heldLo, kcp := t.kcp, out := o :: s.out } := by
  rw [h, hu]

theorem exec_write_accepted {who : Requester} {a : Nat} {v : Word} {s u : State} (hp : Permitted who a s)
    (hw : regWrite who a v s = noteStaged a (okay u)) :
    Completes (exec (.writeLoHold who a v) s) (Answered (.status who a .ok) u) := by
  obtain ⟨k, hk⟩ := noteStaged_cases a (okay u)
  refine ⟨_, ?_, answered_emit u k (.status who a .ok)⟩
  rw [exec_writeLoHold hp, hw, hk]
  rfl

/-- A refused write answers its status in the state that it found. -/
theorem exec_write_refused {who : Requester} {a : Nat} {v : Word} {s : State} {st : Status} (hp : Permitted who a s)
    (hst : st ≠ .ok) (hw : regWrite who a v s = noteStaged a (st, s)) :
    exec (.writeLoHold who a v) s = .next (s.emit (.status who a st)) := by
  rw [exec_writeLoHold hp, hw, noteStaged_refused a hst]

/-- R7, R8, R15: the three write commands are one access of the register bus. -/
theorem everyWriteAnswers : Claims.EveryWriteAnswers :=
  fun _ _ v _ hp => ⟨exec_registerWrite hp 32 v, rfl, rfl⟩

/-- R12, R15 to R17: no rule of its own, so the commit point of the register decides. -/
theorem registerWriteByCommitPoint : Claims.RegisterWriteByCommitPoint := by
  intro who addr v s d i j hp ha hf hs m
  simp only [exec_registerWrite_eq]
  refine ⟨fun hm => ?_, fun hm ho => ⟨fun hc hv => ?_, fun hc hwin hv => ?_, fun hc hwin => ?_⟩⟩
  · rw [exec_writeLoHold hp, regWrite_mapped ha hf, mappedWrite_readOnly hm]
    rfl
  · have hw : regWrite who addr v s = noteStaged addr (okay (s.setWord addr ((s.word addr &&& ~~~m) ||| (v &&& m)))) := by
      rw [regWrite_mapped ha hf, mappedWrite_plain hm ho]
      simp only [if_pos hc, immediateWrite_ok hv, BitVec.and_assoc, BitVec.and_self, m]
    obtain ⟨t, ht, h⟩ := exec_write_accepted hp hw
    refine ⟨t, ht, ?_, fun b hb => ?_, ?_⟩
    · rw [h.word, State.word_setWord_same]
    · rw [h.word, State.word_setWord_ne _ _ hb.symm]
    · rw [h]
      rfl
  · have hw : regWrite who addr v s = noteStaged addr (okay (s.stage addr (v &&& m))) := by
      rw [regWrite_mapped ha hf, mappedWrite_plain hm ho]
      simp only [if_neg hc, stagedWrite_ok hwin hv hs, m]
    obtain ⟨t, ht, h⟩ := exec_write_accepted hp hw
    refine ⟨t, ht, ?_, fun b hb => ?_, ?_⟩
    · rw [h.stagedWord, State.stagedWord_stage, if_pos rfl]
    · rw [h.stagedWord, State.stagedWord_stage, if_neg hb.symm]
    · rw [h]
      rfl
  · refine exec_write_refused hp (by decide) ?_
    rw [regWrite_mapped ha hf, mappedWrite_plain hm ho]
    simp only [if_neg hc, stagedWrite_outside hwin]

/-! ## Pairs of words -/

theorem tabGet_heldLo_holdLow (lo b : Nat) (v : Word) (s : State) :
    tabGet none (holdLow lo v s).heldLo b = if lo = b then some v else tabGet none s.heldLo b :=
  tabGet_tabPut none s.heldLo lo b (some v)

theorem holdPair_ok {f : Nat → Word → State → Res} {lo : Nat} {v : Word} {s : State} (h : (f lo v s).1 = .ok) :
    holdPair f lo v s = okay (holdLow lo v s) := by
  unfold holdPair
  rw [if_neg (not_not_intro h)]

/-- The held word of a _LO register spent. -/
def spendLow (lo : Nat) (s : State) : State := { s with heldLo := tabErase s.heldLo lo }

@[simp] theorem State.word_spendLow (lo a : Nat) (s : State) : (spendLow lo s).word a = s.word a := rfl

@[simp] theorem State.stagedWord_spendLow (lo a : Nat) (s : State) : (spendLow lo s).stagedWord a = s.stagedWord a := rfl

@[simp] theorem tabGet_heldLo_spendLow (lo : Nat) (s : State) : tabGet none (spendLow lo s).heldLo lo = none :=
  (tabGet_tabErase none s.heldLo lo lo).trans (if_pos rfl)

theorem applyPair_ok {f : Nat → Word → State → Res} {lo hi : Nat} {v : Word} {s t u : State} (he : lo + 4 = hi)
    (hhi : f hi v s = okay t) (hlo : f lo (s.lowWord lo) t = okay u) : applyPair f hi v s = okay (spendLow lo u) := by
  subst he
  unfold applyPair
  rw [hhi, Nat.add_sub_cancel]
  simp only [okay] at hlo ⊢
  simp only [hlo, ne_eq, not_true_eq_false, if_false]
  rfl

theorem writeBits_eq {a : Nat} {d : RegDesc} {i j : Nat} (hf : regFind a = some (d, i, j)) :
    writeBits a = BitVec.ofNat 32 (writableMask d) := by
  unfold writeBits
  rw [hf]

/-- Register n of the array at base lies at the word address a, and a write reaches the bits of m. -/
def registerAt (base n m a : Nat) : Bool :=
  match regFind a with
  | none => false
  | some (d, i, _) => a % 4 == 0 && d.base == base && i == n && writableMask d == m

theorem registerAt_cases {base n m a : Nat} (h : registerAt base n m a = true) :
    ∃ d j, a % 4 = 0 ∧ regFind a = some (d, n, j) ∧ d.base = base ∧ writableMask d = m := by
  unfold registerAt at h
  split at h
  · cases h
  · rename_i d i j hd
    simp only [Bool.and_eq_true, beq_iff_eq] at h
    obtain ⟨⟨⟨ha, hb⟩, rfl⟩, hm⟩ := h
    exact ⟨d, j, ha, hd, hb, hm⟩

/-- A write of a _LO register that its pair accepts holds its word. -/
theorem writeLoHold_holds {who : Requester} {lo : Nat} {v : Word} {s : State} (hp : Permitted who lo s)
    (hw : regWrite who lo v s = noteStaged lo (okay (holdLow lo (v &&& writeBits lo) s))) :
    Completes (exec (.writeLoHold who lo v) s) (fun t =>
      t = { s with heldLo := t.heldLo, kcp := t.kcp, out := .status who lo .ok :: s.out } ∧
      tabGet none t.heldLo lo = some (v &&& writeBits lo) ∧
      ∀ b, b ≠ lo → tabGet none t.heldLo b = tabGet none s.heldLo b) := by
  obtain ⟨t, ht, h⟩ := exec_write_accepted hp hw
  refine ⟨t, ht, ?_, ?_, fun b hb => ?_⟩
  · rw [h]
    rfl
  · rw [h.heldLo, tabGet_heldLo_holdLow, if_pos rfl]
  · rw [h.heldLo, tabGet_heldLo_holdLow, if_neg hb.symm]

/-! ## The colours of a plank engine -/

/-- The words of a plank colour and of a plank background, by the address of engine 0. -/
def plankLows : List Nat := [R.PLK_COLOUR_LO 0, R.PLK_BGCOLOUR_LO 0]

theorem mem_plankLows {b : Nat} : b ∈ plankLows ↔ b = R.PLK_COLOUR_LO 0 ∨ b = R.PLK_BGCOLOUR_LO 0 := by
  simp only [plankLows, List.mem_cons, List.not_mem_nil, or_false]

theorem plankPair_registerAt : ∀ n : Fin 2, ∀ lo ∈ [R.PLK_COLOUR_LO n.val, R.PLK_BGCOLOUR_LO n.val], ∃ b ∈ plankLows,
    registerAt b n.val (2 ^ 32 - 1) lo = true ∧ registerAt (b + 4) n.val (2 ^ 32 - 1) (lo + 4) = true ∧
    isColourAddr lo = false ∧ isColourAddr (lo + 4) = false := by decide +kernel

theorem ownWrite_plankLow {d : RegDesc} {i a : Nat} {s : State} (hb : d.base ∈ plankLows) (ha : isColourAddr a = false)
    (hidle : s.flag (F.PLK_STATUS_BUSY i) = false) (who : Requester) (j : Nat) (v w : Word) :
    ownWrite who d i j a v w s = some (holdPair (immediateWrite d) a v s) := by
  obtain hb | hb := mem_plankLows.mp hb
  all_goals simp +decide only [ownWrite, hb, hidle, ha, if_true, if_false]

theorem ownWrite_plankHigh {d : RegDesc} {i a b : Nat} {s : State} (hb : b ∈ plankLows) (hd : d.base = b + 4)
    (ha : isColourAddr a = false) (hidle : s.flag (F.PLK_STATUS_BUSY i) = false) (who : Requester) (j : Nat) (v w : Word) :
    ownWrite who d i j a v w s = some (applyPair (immediateWrite d) a v s) := by
  obtain rfl | rfl := mem_plankLows.mp hb
  all_goals simp +decide only [ownWrite, hd, hidle, ha, if_true, if_false]

theorem ownWrite_plankBusy {d : RegDesc} {i : Nat} {s : State} (hb : R.PLK_OP 0 ≤ d.base ∧ d.base ≤ R.PLK_WMARK 0)
    (hbusy : s.flag (F.PLK_STATUS_BUSY i) = true) (who : Requester) (j a : Nat) (v w : Word) :
    ownWrite who d i j a v w s = some (.busy, s) := by
  unfold ownWrite
  rw [if_pos ⟨hb.1, hb.2, hbusy⟩]
  rfl

theorem plankLows_range : ∀ b ∈ plankLows, R.PLK_OP 0 ≤ b ∧ b + 4 ≤ R.PLK_WMARK 0 := by decide

/-- A register with 32 writable bits whose table entry refuses no value takes the word as written. -/
theorem immediateWrite_full {d : RegDesc} (hm : writableMask d = 2 ^ 32 - 1) (hv : ∀ n, valueBad d n = false) (a : Nat) (v : Word)
    (s : State) : immediateWrite d a v s = okay (s.setWord a v) := by
  have hones : BitVec.ofNat 32 (2 ^ 32 - 1) = BitVec.allOnes 32 := rfl
  rw [immediateWrite_ok (hv _), hm, hones, BitVec.not_allOnes, BitVec.and_zero, BitVec.zero_or, BitVec.and_allOnes]

theorem valueBad_plank {d : RegDesc} {b : Nat} (hb : b ∈ plankLows) (hd : d.base = b ∨ d.base = b + 4) (n : Nat) :
    valueBad d n = false := by
  obtain rfl | rfl := mem_plankLows.mp hb
  all_goals obtain hd | hd := hd
  all_goals simp +decide only [valueBad, hd, if_false]

/-- A write of the low word of a plank colour or background holds it. -/
theorem regWrite_plankLow {n lo b : Nat} {s : State} (hb : b ∈ plankLows) (hr : registerAt b n (2 ^ 32 - 1) lo = true)
    (hc : isColourAddr lo = false) (hidle : s.flag (F.PLK_STATUS_BUSY n) = false) (who : Requester) (v : Word) :
    regWrite who lo v s = noteStaged lo (okay (holdLow lo (v &&& writeBits lo) s)) := by
  obtain ⟨d, j, ha, hf, rfl, hm⟩ := registerAt_cases hr
  have hfull := immediateWrite_full hm (valueBad_plank hb (.inl rfl))
  rw [regWrite_mapped ha hf, mappedWrite_own (by rw [hm]; decide) (ownWrite_plankLow hb hc hidle ..), writeBits_eq hf,
    holdPair_ok (by rw [hfull]; rfl)]

/-- A write of the high word of a plank colour or background sets both words; the held word is spent. -/
theorem regWrite_plankHigh {n lo hi b : Nat} {s : State} (he : lo + 4 = hi) (hb : b ∈ plankLows)
    (hr : registerAt (b + 4) n (2 ^ 32 - 1) hi = true) (hc : isColourAddr hi = false)
    (hidle : s.flag (F.PLK_STATUS_BUSY n) = false) (who : Requester) (v : Word) :
    regWrite who hi v s = noteStaged hi (okay (spendLow lo ((s.setWord hi v).setWord lo (s.lowWord lo)))) := by
  obtain ⟨d, j, ha, hf, hd, hm⟩ := registerAt_cases hr
  have hfull := immediateWrite_full hm (valueBad_plank hb (.inr hd))
  have hones : BitVec.ofNat 32 (2 ^ 32 - 1) = BitVec.allOnes 32 := rfl
  rw [regWrite_mapped ha hf, mappedWrite_own (by rw [hm]; decide) (ownWrite_plankHigh hb hd hc hidle ..), hm, hones,
    BitVec.and_allOnes, applyPair_ok he (hfull _ _ _) (hfull _ _ _)]

/-- While its engine is busy a plank register is refused with BUSY (R11). -/
theorem regWrite_plankBusy {n base m a : Nat} {s : State} (hr : registerAt base n m a = true) (hm : m ≠ 0)
    (hb : R.PLK_OP 0 ≤ base ∧ base ≤ R.PLK_WMARK 0) (hbusy : s.flag (F.PLK_STATUS_BUSY n) = true) (who : Requester) (v : Word) :
    regWrite who a v s = noteStaged a (.busy, s) := by
  obtain ⟨d, j, ha, hf, rfl, rfl⟩ := registerAt_cases hr
  rw [regWrite_mapped ha hf, mappedWrite_own hm (ownWrite_plankBusy hb hbusy ..)]

/-! ## The address of a probe and of the confidence output -/

theorem ownWrite_probeLow {d : RegDesc} (hd : d.base = R.XLAT_PROBE_LO) (who : Requester) (i j : Nat) (v w : Word) (s : State) :
    ownWrite who d i j R.XLAT_PROBE_LO v w s = some (okay (holdLow R.XLAT_PROBE_LO v s)) := by
  simp +decide only [ownWrite, hd, if_true, if_false, false_and, and_false]

theorem ownWrite_destinationLow {d : RegDesc} (hd : d.base = R.ENC_DST_MAC_LO) (who : Requester) (i j : Nat) (v w : Word)
    (s : State) : ownWrite who d i j R.ENC_DST_MAC_LO v w s = some (holdPair encWrite R.ENC_DST_MAC_LO v s) := by
  simp +decide only [ownWrite, hd, if_true, if_false, false_and, and_false]

theorem ownWrite_destinationHigh {d : RegDesc} (hd : d.base = R.ENC_DST_MAC_HI) (who : Requester) (i j : Nat) (v w : Word)
    (s : State) : ownWrite who d i j R.ENC_DST_MAC_HI v w s = some (applyPair encWrite R.ENC_DST_MAC_HI v s) := by
  simp +decide only [ownWrite, hd, if_true, if_false, false_and, and_false]

theorem regWrite_probeLow (who : Requester) (v : Word) (s : State) : regWrite who R.XLAT_PROBE_LO v s =
    noteStaged R.XLAT_PROBE_LO (okay (holdLow R.XLAT_PROBE_LO (v &&& writeBits R.XLAT_PROBE_LO) s)) := by
  obtain ⟨d, j, ha, hf, hd, hm⟩ := registerAt_cases
    (show registerAt R.XLAT_PROBE_LO 0 (2 ^ 32 - 1) R.XLAT_PROBE_LO = true by decide +kernel)
  rw [regWrite_mapped ha hf, mappedWrite_own (by rw [hm]; decide) (ownWrite_probeLow hd ..), writeBits_eq hf]

/-- The confidence output is declared and not ARMED, and no batch is running: a write of its destination address is staged. -/
structure TakesDestination (s : State) : Prop where
  declared : (s.path 5 0).state ≠ 0
  notArmed : s.armed 5 0 = false
  noBatch : s.kcp.shadow = none

theorem encWrite_destination {s : State} (h : TakesDestination s) {a : Nat} (ha : a ∈ [R.ENC_DST_MAC_LO, R.ENC_DST_MAC_HI])
    (v : Word) : encWrite a v s = okay (s.stage a v) := by
  have harmed : (s.path 5 0).state ≠ 3 := by simpa [State.armed] using h.notArmed
  obtain rfl | rfl : a = R.ENC_DST_MAC_LO ∨ a = R.ENC_DST_MAC_HI := by simpa using ha
  all_goals simp +decide only [encWrite, h.declared, harmed, State.stageWrite, h.noBatch, if_false, false_and]

theorem regWrite_destinationLow {s : State} (h : TakesDestination s) (who : Requester) (v : Word) :
    regWrite who R.ENC_DST_MAC_LO v s =
      noteStaged R.ENC_DST_MAC_LO (okay (holdLow R.ENC_DST_MAC_LO (v &&& writeBits R.ENC_DST_MAC_LO) s)) := by
  obtain ⟨d, j, ha, hf, hd, hm⟩ := registerAt_cases
    (show registerAt R.ENC_DST_MAC_LO 0 (2 ^ 32 - 1) R.ENC_DST_MAC_LO = true by decide +kernel)
  rw [regWrite_mapped ha hf, mappedWrite_own (by rw [hm]; decide) (ownWrite_destinationLow hd ..), writeBits_eq hf,
    holdPair_ok (by rw [encWrite_destination h (by simp)]; rfl)]

theorem regWrite_destinationHigh {s : State} (h : TakesDestination s) (who : Requester) (v : Word) :
    regWrite who R.ENC_DST_MAC_HI v s =
      noteStaged R.ENC_DST_MAC_HI (okay (spendLow R.ENC_DST_MAC_LO
        ((s.stage R.ENC_DST_MAC_HI (v &&& writeBits R.ENC_DST_MAC_HI)).stage R.ENC_DST_MAC_LO (s.lowWord R.ENC_DST_MAC_LO)))) := by
  obtain ⟨d, j, ha, hf, hd, hm⟩ := registerAt_cases
    (show registerAt R.ENC_DST_MAC_HI 0 (2 ^ 16 - 1) R.ENC_DST_MAC_HI = true by decide +kernel)
  have hstaged : TakesDestination (s.stage R.ENC_DST_MAC_HI (v &&& BitVec.ofNat 32 (writableMask d))) :=
    ⟨h.declared, h.notArmed, h.noBatch⟩
  rw [regWrite_mapped ha hf, mappedWrite_own (by rw [hm]; decide) (ownWrite_destinationHigh hd ..), writeBits_eq hf,
    applyPair_ok (show R.ENC_DST_MAC_LO + 4 = R.ENC_DST_MAC_HI from rfl) (encWrite_destination h (by simp) _)
      (encWrite_destination hstaged (by simp) _)]

/-- The high word of a plank colour or background applies the pair. -/
theorem writeHiApply_plank {n lo hi b : Nat} {who : Requester} {s : State} (he : lo + 4 = hi) (hb : b ∈ plankLows)
    (hr : registerAt (b + 4) n (2 ^ 32 - 1) hi = true) (hc : isColourAddr hi = false)
    (hidle : s.flag (F.PLK_STATUS_BUSY n) = false) (v : Word) (hp : Permitted who hi s) :
    Completes (exec (.writeHiApply who hi v) s) (fun t =>
      t = { s with regs := t.regs, heldLo := t.heldLo, kcp := t.kcp, out := .status who hi .ok :: s.out } ∧
      t.word hi = v ∧ t.word lo = s.lowWord lo ∧ tabGet none t.heldLo lo = none ∧
      ∀ a, a ≠ lo → a ≠ hi → t.word a = s.word a) := by
  obtain ⟨t, ht, h⟩ := exec_write_accepted hp (regWrite_plankHigh he hb hr hc hidle who v)
  refine ⟨t, ht, h.frame rfl, ?_, ?_, ?_, fun a hne hhi => ?_⟩
  · rw [h.word, State.word_spendLow, State.word_setWord_ne _ _ (by omega), State.word_setWord_same]
  · rw [h.word, State.word_spendLow, State.word_setWord_same]
  · rw [h.heldLo, tabGet_heldLo_spendLow]
  · rw [h.word, State.word_spendLow, State.word_setWord_ne _ _ hne.symm, State.word_setWord_ne _ _ hhi.symm]

/-- The high word of the destination address stages the pair. -/
theorem writeHiApply_destination {who : Requester} {s : State} (ok : TakesDestination s) (v : Word)
    (hp : Permitted who R.ENC_DST_MAC_HI s) :
    Completes (exec (.writeHiApply who R.ENC_DST_MAC_HI v) s) (fun t =>
      t = { s with staged := t.staged, heldLo := t.heldLo, kcp := t.kcp, out := .status who R.ENC_DST_MAC_HI .ok :: s.out } ∧
      t.stagedWord R.ENC_DST_MAC_HI = some (v &&& writeBits R.ENC_DST_MAC_HI) ∧
      t.stagedWord R.ENC_DST_MAC_LO = some (s.lowWord R.ENC_DST_MAC_LO) ∧
      tabGet none t.heldLo R.ENC_DST_MAC_LO = none) := by
  obtain ⟨t, ht, h⟩ := exec_write_accepted hp (regWrite_destinationHigh ok who v)
  refine ⟨t, ht, ?_, ?_, ?_, ?_⟩
  · rw [h]
    rfl
  · rw [h.stagedWord, State.stagedWord_spendLow, State.stagedWord_stage, if_neg (by decide), State.stagedWord_stage, if_pos rfl]
  · rw [h.stagedWord, State.stagedWord_spendLow, State.stagedWord_stage, if_pos rfl]
  · rw [h.heldLo, tabGet_heldLo_spendLow]

/-- R10, R11: each pair by what its two registers take. -/
theorem pairAppliesTogether : Claims.PairAppliesTogether := by
  intro who n v s hs holds
  refine ⟨fun hidle lo hlo => ?_, fun hbusy lo hlo => ?_, fun hp => writeLoHold_holds hp (regWrite_probeLow who v s),
    fun hd ha => ?_⟩
  · obtain ⟨b, hb, hlow, hhigh, hclow, hchigh⟩ := plankPair_registerAt n lo hlo
    exact ⟨fun hp => writeLoHold_holds hp (regWrite_plankLow hb hlow hclow hidle who v),
      writeHiApply_plank rfl hb hhigh hchigh hidle v⟩
  · obtain ⟨b, hb, hlow, hhigh, -, -⟩ := plankPair_registerAt n lo hlo
    obtain ⟨hmin, hmax⟩ := plankLows_range b hb
    exact ⟨fun hp => exec_write_refused hp (by decide) (regWrite_plankBusy hlow (by decide) ⟨hmin, by omega⟩ hbusy who v),
      fun hp => exec_write_refused hp (by decide) (regWrite_plankBusy hhigh (by decide) ⟨by omega, hmax⟩ hbusy who v)⟩
  · have h : TakesDestination s := ⟨hd, ha, hs⟩
    exact ⟨fun hp => writeLoHold_holds hp (regWrite_destinationLow h who v), writeHiApply_destination h v⟩

/-- Settles O7: a permitted write is answered with the status of its access; what its register's rule leaves is then the state,
by commit point and, for a pair, with both words. -/
theorem registerWritesAnswer : Obligations.RegisterWritesAnswer :=
  ⟨everyWriteAnswers, registerWriteByCommitPoint, pairAppliesTogether⟩

/-! ## Reads -/

/-- R371, R357, R10: no capturing register has a field that a read clears. -/
theorem readsCapture : Claims.ReadsCapture := by
  intro who s hl hp
  refine ⟨?_, ?_, fun lo hlo => ?_⟩
  · rw [exec_timeNowCapture_eq]
    obtain ⟨t, ht, hframe, hcap⟩ := rcCounterRead_captures hl hp timeNow_reads
    exact ⟨t, ht, hframe, hcap _, hcap _, hcap _⟩
  · rw [exec_teStampCapture_eq]
    obtain ⟨t, ht, hframe, hcap⟩ := rcCounterRead_captures hl hp teStamp_reads
    exact ⟨t, ht, hframe, hcap _, hcap _⟩
  · rw [exec_readLoCapture_eq]
    obtain ⟨hreads, hgroup⟩ := pairLows_read lo hlo
    obtain ⟨t, ht, hframe, hcap⟩ := rcCounterRead_captures hl hp hreads
    rw [hgroup] at hcap
    refine ⟨t, ht, hframe, ?_, fun b hb => ?_⟩
    · rw [hcap, if_pos List.mem_cons_self]
    · rw [hcap, if_neg (by simpa using hb)]

theorem lnkLaneErr_panel_registerAt : registerAt (R.LNK_LANEERR 0) 0 0 (R.LNK_LANEERR 0) = true := by decide +kernel

theorem lnkLaneErr_afloth_registerAt :
    ∀ k : Fin 4, registerAt (R.LNK_LANEERR 1) k.val 0 (R.LNK_LANEERR (k.val + 1)) = true := by decide +kernel

/-- LNK_LANEERR of each link reads and clears the counters of the lane that the link selects. -/
theorem lnkLaneErr_access {n : Fin 5} {d : RegDesc} {i j : Nat} (h : regFind (R.LNK_LANEERR n.val) = some (d, i, j)) (s : State) :
    peek (R.LNK_LANEERR n.val) s = laneErrWord n.val s ∧ clearRc d i (R.LNK_LANEERR n.val) s = laneErrClear n.val s := by
  cases n using Fin.cases with
  | zero =>
    obtain ⟨e, k, -, hf, hb, -⟩ := registerAt_cases lnkLaneErr_panel_registerAt
    obtain ⟨rfl, rfl, rfl⟩ : e = d ∧ 0 = i ∧ k = j := by simpa using hf.symm.trans h
    constructor
    · rw [peek, h]
      simp +decide only [peekReg, hb, if_true, if_false]
      rfl
    · simp +decide only [clearRc, hb, if_true]
      rfl
  | succ m =>
    obtain ⟨e, k, -, hf, hb, -⟩ := registerAt_cases (lnkLaneErr_afloth_registerAt m)
    obtain ⟨rfl, rfl, rfl⟩ : e = d ∧ m.val = i ∧ k = j := by simpa using hf.symm.trans h
    constructor
    · rw [peek, h]
      simp +decide only [peekReg, hb, if_true, if_false, Fin.val_succ]
    · simp +decide only [clearRc, hb, if_true, if_false, Fin.val_succ]

/-- R12, R14: the counters of a lane stand behind their link, all others in the word of their register. -/
theorem readClearsCounters : Claims.ReadClearsCounters := by
  intro who addr s d i j hl hp ha hf hc hg
  have hread : regRead addr s = (.ok, peek addr s, clearRc d i addr s) := by
    rw [regRead_mapped ha hf hc, hg]
    rfl
  refine ⟨fun hne0 hne1 => ⟨_, exec_rcCounterRead hl hp addr, ?_⟩, ?_⟩
  · obtain ⟨hlegal, hapart⟩ := regTable_fields_apart d (regFindIn_mem hf)
    rw [hread, clearRc_eq_clearRcFields hne0 hne1]
    refine ⟨?_, fun b hb => clearRcFields_word_ne hb _ _, fun f hf => clearRcFields_get addr hlegal hapart s hf⟩
    rw [State.emit, clearRcFields_only]
  · rintro n rfl
    obtain ⟨hpeek, hclear⟩ := lnkLaneErr_access hf s
    refine ⟨_, exec_rcCounterRead hl hp _, ?_⟩
    rw [hread, hpeek, hclear]
    exact ⟨rfl, laneErrWord_laneErrClear n s⟩

/-- Settles O8: a read captures its group word by word, and clears the RC fields of its register, which share no bit with
the others. -/
theorem registerReadsCaptureAndClear : Obligations.RegisterReadsCaptureAndClear := ⟨readsCapture, readClearsCounters⟩

/-- Settles O9: an aligned read of a captured register answers what stands captured, nothing after reset. -/
theorem capturedRegistersReturnCapture : Obligations.CapturedRegistersReturnCapture := by
  refine ⟨fun who addr s hl hp ha hc hf => ?_, fun _ => rfl, by decide +kernel⟩
  rw [exec_readLoCapture_eq, exec_rcCounterRead hl hp, regRead_captured ha hf hc]

end Sys2Proof.Machine
end

section
/-! SUPPORT. The statements of spec/01_ray_space.md about the ray index and about packed runs of rays (R24, R31, R32). -/

namespace Sys2Proof.Machine

/-! ## The ray index as a number in mixed radix -/

/-- A digit below m written after a number below n. -/
theorem mul_add_lt_mul {q r n m : Nat} (hq : q < n) (hr : r < m) : q * m + r < n * m :=
  calc q * m + r < q * m + m := Nat.add_lt_add_left hr _
    _ = (q + 1) * m := (Nat.succ_mul q m).symm
    _ ≤ n * m := Nat.mul_le_mul_right m hq

theorem mul_add_div_of_lt {r m : Nat} (hr : r < m) (q : Nat) : (q * m + r) / m = q := by
  rw [Nat.mul_comm, Nat.mul_add_div (Nat.zero_lt_of_lt hr), Nat.div_eq_of_lt hr, Nat.add_zero]

/-- A number below n * m parts into a number below n and a digit below m. -/
theorem div_lt_mod_lt_of_lt_mul {x n m : Nat} (h : x < n * m) : x / m < n ∧ x % m < m := by
  have hm : 0 < m := Nat.pos_of_lt_mul_left h
  exact ⟨(Nat.div_lt_iff_lt_mul hm).mpr h, Nat.mod_lt x hm⟩

theorem rayCount_eq (g : Geom) : rayCount g = g.hogelsY * g.hogelsX * g.viewsV * g.viewsU := by
  rw [rayCount, Nat.mul_comm g.hogelsX]

section
variable {g : Geom} {hx hy u v : Nat}

theorem rayIndex_lt (hhx : hx < g.hogelsX) (hhy : hy < g.hogelsY) (hu : u < g.viewsU) (hv : v < g.viewsV) :
    rayIndex g hx hy u v < rayCount g := by
  rw [rayCount_eq]
  exact mul_add_lt_mul (mul_add_lt_mul (mul_add_lt_mul hhy hhx) hv) hu

theorem rayDecompose_rayIndex (hhx : hx < g.hogelsX) (hu : u < g.viewsU) (hv : v < g.viewsV) :
    rayDecompose g (rayIndex g hx hy u v) = (hx, hy, u, v) := by
  simp only [rayDecompose, rayIndex, mul_add_div_of_lt hu, mul_add_div_of_lt hv, mul_add_div_of_lt hhx,
    Nat.mul_add_mod_of_lt hhx, Nat.mul_add_mod_of_lt hu, Nat.mul_add_mod_of_lt hv]

end

theorem rayIndex_rayDecompose (g : Geom) (ray : Nat) :
    let c := rayDecompose g ray
    rayIndex g c.1 c.2.1 c.2.2.1 c.2.2.2 = ray := by
  simp only [rayIndex, rayDecompose, Nat.div_add_mod']

theorem rayDecompose_lt {g : Geom} {ray : Nat} (h : ray < rayCount g) :
    let c := rayDecompose g ray
    c.1 < g.hogelsX ∧ c.2.1 < g.hogelsY ∧ c.2.2.1 < g.viewsU ∧ c.2.2.2 < g.viewsV := by
  rw [rayCount_eq] at h
  obtain ⟨hviews, hu⟩ := div_lt_mod_lt_of_lt_mul h
  obtain ⟨hhogel, hv⟩ := div_lt_mod_lt_of_lt_mul hviews
  obtain ⟨hhy, hhx⟩ := div_lt_mod_lt_of_lt_mul hhogel
  exact ⟨hhx, hhy, hu, hv⟩

/-- R24. -/
theorem rayIndexIsBijective : Claims.RayIndexIsBijective := fun _ =>
  ⟨fun _ _ _ _ hhx hhy hu hv => ⟨rayIndex_lt hhx hhy hu hv, rayDecompose_rayIndex hhx hu hv⟩, fun ray h =>
    have ⟨hhx, hhy, hu, hv⟩ := rayDecompose_lt h
    ⟨hhx, hhy, hu, hv, rayIndex_rayDecompose _ ray⟩⟩

/-! ## Little-endian bytes as digits in base 256 -/

theorem leNat_cons_div (b : Byte) (t : List Byte) : leNat (b :: t) / 256 = leNat t := by
  have hb : b.toNat < 256 := b.isLt
  rw [leNat]
  omega

theorem leNat_cons_mod (b : Byte) (t : List Byte) : leNat (b :: t) % 256 = b.toNat := by
  have hb : b.toNat < 256 := b.isLt
  rw [leNat]
  omega

theorem leNat_drop (bs : List Byte) (i : Nat) : leNat (bs.drop i) = leNat bs / 256 ^ i := by
  induction i generalizing bs with
  | zero => rw [List.drop_zero, Nat.pow_zero, Nat.div_one]
  | succ i ih =>
    cases bs with
    | nil => exact (Nat.zero_div _).symm
    | cons b t => rw [List.drop_succ_cons, ih, Nat.pow_succ', ← Nat.div_div_eq_div_mul, leNat_cons_div]

theorem leNat_take (bs : List Byte) (k : Nat) : leNat (bs.take k) = leNat bs % 256 ^ k := by
  induction k generalizing bs with
  | zero => rw [List.take_zero, Nat.pow_zero, Nat.mod_one, leNat]
  | succ k ih =>
    cases bs with
    | nil => exact (Nat.zero_mod _).symm
    | cons b t => rw [List.take_succ_cons, leNat, ih, Nat.pow_succ', Nat.mod_mul, leNat_cons_mod, leNat_cons_div]

theorem leAt_eq (bs : List Byte) (i k : Nat) : leAt bs i k = leNat bs / 256 ^ i % 256 ^ k := by
  rw [leAt, leNat_take, leNat_drop]

@[simp] theorem length_leBytes (n k : Nat) : (leBytes n k).length = k := by
  induction k generalizing n with
  | zero => rfl
  | succ k ih => rw [leBytes, List.length_cons, ih]

theorem leNat_leBytes (n k : Nat) : leNat (leBytes n k) = n % 256 ^ k := by
  induction k generalizing n with
  | zero => rw [Nat.pow_zero, Nat.mod_one]; rfl
  | succ k ih =>
    have hbyte : n % 256 % 2 ^ 8 = n % 256 := Nat.mod_mod n 256
    rw [leBytes, leNat, ih, BitVec.toNat_ofNat, hbyte, Nat.pow_succ', Nat.mod_mul (a := 256)]

/-! ## Packed runs -/

/-- The rays of a run, each cut to b bits, as one number whose digits they are in base 2 ^ b. -/
def packRays (b : Nat) (rays : List Nat) : Nat := rays.foldr (fun r acc => r % 2 ^ b + 2 ^ b * acc) 0

theorem runBytes_eq (b : Nat) (rays : List Nat) :
    runBytes b rays = leBytes (packRays b rays) (ceilDiv (b * rays.length) 8) := rfl

theorem packRays_lt (b : Nat) (rays : List Nat) : packRays b rays < 2 ^ (b * rays.length) := by
  induction rays with
  | nil => simp [packRays]
  | cons r rays ih =>
    show r % 2 ^ b + 2 ^ b * packRays b rays < _
    rw [List.length_cons, Nat.mul_succ, Nat.pow_add, Nat.add_comm, Nat.mul_comm (2 ^ b)]
    exact mul_add_lt_mul ih (Nat.mod_lt _ (Nat.two_pow_pos b))

/-- The ray at position k is the digit at position k. -/
theorem packRays_digit (b : Nat) (rays : List Nat) (k : Nat) (h : k < rays.length) :
    packRays b rays / 2 ^ (b * k) % 2 ^ b = rays[k]! % 2 ^ b := by
  induction rays generalizing k with
  | nil => cases h
  | cons r rays ih =>
    show (r % 2 ^ b + 2 ^ b * packRays b rays) / 2 ^ (b * k) % 2 ^ b = _
    cases k with
    | zero => simp
    | succ k =>
      have hr : (r % 2 ^ b + 2 ^ b * packRays b rays) / 2 ^ b = packRays b rays := by
        rw [Nat.add_comm, Nat.mul_comm, mul_add_div_of_lt (Nat.mod_lt r (Nat.two_pow_pos b))]
      rw [Nat.mul_succ, Nat.add_comm (b * k), Nat.pow_add, ← Nat.div_div_eq_div_mul, hr,
        ih k (Nat.lt_of_succ_lt_succ h)]
      simp

/-- The bytes of a run hold its number whole, so the fill bits are zero. -/
theorem leNat_runBytes (b : Nat) (rays : List Nat) : leNat (runBytes b rays) = packRays b rays := by
  have hfit : packRays b rays < 256 ^ ceilDiv (b * rays.length) 8 :=
    calc packRays b rays < 2 ^ (b * rays.length) := packRays_lt b rays
      _ ≤ 2 ^ (8 * ceilDiv (b * rays.length) 8) := Nat.pow_le_pow_right (by decide) (by unfold ceilDiv; omega)
      _ = 256 ^ ceilDiv (b * rays.length) 8 := Nat.pow_mul 2 8 _
  rw [runBytes_eq, leNat_leBytes, Nat.mod_eq_of_lt hfit]

/-- The b / 8 + 2 bytes that a ray is read from hold all its bits, wherever in the first of them it starts. -/
theorem runRay_eq (b : Nat) (run : List Byte) (k : Nat) : runRay b run k = leNat run / 2 ^ (b * k) % 2 ^ b := by
  have hpow : ∀ n, 256 ^ n = 2 ^ (8 * n) := fun n => (Nat.pow_mul 2 8 n).symm
  rw [runRay, leAt_eq, hpow, hpow]
  refine Nat.eq_of_testBit_eq fun i => ?_
  simp only [Nat.testBit_mod_two_pow, Nat.testBit_shiftRight, Nat.testBit_div_two_pow]
  by_cases hi : i < b
  · have hin : b * k % 8 + i < 8 * (b / 8 + 2) := by omega
    have hat : b * k % 8 + i + 8 * (b * k / 8) = i + b * k := by omega
    simp only [hin, hat, decide_true, Bool.true_and]
  · simp only [hi, decide_false, Bool.false_and]

/-- R31, R32: a run is the number whose digits are its rays. -/
theorem packedRunsRoundTrip : Claims.PackedRunsRoundTrip := by
  intro format rays _
  refine ⟨?_, fun k hk => ?_, ?_⟩
  · rw [runBytes_eq, length_leBytes]
  · rw [runRay_eq, leNat_runBytes, packRays_digit _ _ _ hk]
  · rw [leNat_runBytes]
    exact packRays_lt _ _

/-- Settles O10: the ray index and a packed run are both numbers written in digits, and their digits read back. -/
theorem raysAreNumberedAndPacked : Obligations.RaysAreNumberedAndPacked := ⟨rayIndexIsBijective, packedRunsRoundTrip⟩

end Sys2Proof.Machine
end

section
/-! SUPPORT. The statements of spec/01_ray_space.md about the geometry registers: the staged descriptor, ARM and DISCARD
(R39 to R43, R581). -/

namespace Sys2Proof.Machine

/-! ## The geometry commands as requests -/

/-- A permitted request of a Q9 that runs answers the status of its effect. -/
theorem whenLive_request {who : Requester} {addr : Nat} {s : State} (h : Permitted who addr s) (f : State → Res) :
    whenLive s (request who addr f) = .next ((f s).2.emit (.status who addr (f s).1)) := by
  rw [whenLive_next _ _ h.1, request_permitted _ _ _ _ h]

theorem exec_geomWordWrite {who : Requester} {n : Fin 16} {v : Word} {s t : State} {st : Status}
    (h : Permitted who (R.GEOM_W n.val) s) (hr : geomWordWrite n.val v s = (st, t)) :
    exec (.geomWordWrite who n v) s = .next (t.emit (.status who (R.GEOM_W n.val) st)) := by
  show whenLive s (request who _ _) = _
  rw [whenLive_request h, hr]

theorem exec_geomArm {who : Requester} {s t : State} {st : Status} (h : Permitted who R.GEOM_CTRL s)
    (hr : geomArm s = (st, t)) : exec (.geomArm who) s = .next (t.emit (.status who R.GEOM_CTRL st)) := by
  show whenLive s (request who _ _) = _
  rw [whenLive_request h, hr]

theorem exec_geomDiscard {who : Requester} {s : State} (h : Permitted who R.GEOM_CTRL s) :
    exec (.geomDiscard who) s = .next ((geomDrop s).emit (.status who R.GEOM_CTRL .ok)) := by
  show whenLive s (request who _ _) = _
  rw [whenLive_request h]
  rfl

/-! ## What each rule answers -/

section
variable {s : State}

theorem geomWordWrite_outside (h : geomWindow s = false) (n : Nat) (v : Word) : geomWordWrite n v s = (.window, s) :=
  if_pos (.inl (by simp [h]))

theorem geomWordWrite_pending (h : s.flag F.GEOM_STATUS_PENDING = true) (n : Nat) (v : Word) :
    geomWordWrite n v s = (.window, s) :=
  if_pos (.inr h)

theorem geomWordWrite_stages (hw : geomWindow s = true) (hp : s.flag F.GEOM_STATUS_PENDING = false)
    (hs : s.kcp.shadow = none) (n : Nat) (v : Word) : geomWordWrite n v s = okay (s.stage (R.GEOM_W n) v) := by
  unfold geomWordWrite State.stageWrite
  rw [if_neg (by simp [hw, hp]), hs]

theorem geomArm_outside (h : geomWindow s = false) : geomArm s = (.window, s) := if_pos (by simp [h])

theorem geomArm_pending (hw : geomWindow s = true) (h : s.flag F.GEOM_STATUS_PENDING = true) : geomArm s = okay s := by
  unfold geomArm
  rw [if_neg (not_not_intro hw), if_pos h]

theorem geomArm_sets (hw : geomWindow s = true) (h : s.flag F.GEOM_STATUS_PENDING = false) :
    geomArm s = okay (s.set F.GEOM_STATUS_PENDING 1) := by
  unfold geomArm
  rw [if_neg (not_not_intro hw), if_neg (by simp [h])]

end

/-! ## What setting a field and an answer leave -/

@[simp] theorem State.stagedWord_set (s : State) (f : Field) (v a : Nat) : (s.set f v).stagedWord a = s.stagedWord a := rfl

@[simp] theorem State.word_emit (s : State) (o : Output) (a : Nat) : (s.emit o).word a = s.word a := rfl

@[simp] theorem State.stagedWord_emit (s : State) (o : Output) (a : Nat) : (s.emit o).stagedWord a = s.stagedWord a := rfl

@[simp] theorem State.nextWord_emit (s : State) (o : Output) (a : Nat) : (s.emit o).nextWord a = s.nextWord a := rfl

@[simp] theorem State.get_emit (s : State) (o : Output) (f : Field) : (s.emit o).get f = s.get f := rfl

/-! ## What DISCARD leaves -/

theorem State.stagedWord_unstageAll (s : State) (as : List Nat) (b : Nat) :
    (s.unstageAll as).stagedWord b = if b ∈ as then none else s.stagedWord b := by
  unfold State.unstageAll
  induction as generalizing s with
  | nil => simp
  | cons a as ih =>
    rw [List.foldl_cons, ih, State.stagedWord_unstage]
    by_cases hb : b ∈ as
    · simp [hb]
    · simp [hb, eq_comm]

theorem State.unstageAll_only (s : State) (as : List Nat) : s.unstageAll as = { s with staged := (s.unstageAll as).staged } :=
  foldl_keeps (fun t : State => t = { s with staged := t.staged }) _ as rfl fun t a ht => by
    rw [ht]
    rfl

theorem State.word_unstageAll (s : State) (as : List Nat) (b : Nat) : (s.unstageAll as).word b = s.word b := by
  rw [State.unstageAll_only]
  rfl

theorem mem_upto (a n x : Nat) : x ∈ upto a n ↔ a ≤ x ∧ x < a + n := by
  induction n generalizing a with
  | zero =>
    simp only [upto, List.not_mem_nil, false_iff]
    omega
  | succ n ih =>
    rw [upto, List.mem_cons, ih]
    omega

theorem mem_geomAddrs {b : Nat} : b ∈ geomAddrs ↔ ∃ n, n < 16 ∧ b = R.GEOM_W n := by
  simp [geomAddrs, mem_upto, eq_comm]

theorem geomDrop_stagedWord (s : State) (b : Nat) :
    (geomDrop s).stagedWord b = if b ∈ geomAddrs then none else s.stagedWord b := by
  rw [geomDrop, State.stagedWord_set, State.stagedWord_unstageAll]

theorem geomDrop_word_ne (s : State) {b : Nat} (h : b ≠ R.GEOM_STATUS) : (geomDrop s).word b = s.word b := by
  rw [geomDrop, State.word_set_ne _ _ _ h.symm, State.word_unstageAll]

theorem geomDrop_only (s : State) : geomDrop s = { s with regs := (geomDrop s).regs, staged := (geomDrop s).staged } := by
  unfold geomDrop
  rw [State.unstageAll_only]
  rfl

/-- A word of the descriptor that is no longer staged is next the one in force. -/
theorem geomDrop_nextWord (s : State) {n : Nat} (h : n < 16) : (geomDrop s).nextWord (R.GEOM_W n) = s.word (R.GEOM_W n) := by
  have hne : R.GEOM_W n ≠ R.GEOM_STATUS := by
    simp only [R.GEOM_W, R.GEOM_STATUS]
    omega
  rw [State.nextWord, geomDrop_stagedWord, if_pos (mem_geomAddrs.mpr ⟨n, h, rfl⟩), Option.getD_none, geomDrop_word_ne s hne]

theorem geomPending_legal : F.GEOM_STATUS_PENDING.legal := ⟨by decide, by decide⟩

theorem geomDrop_pending (s : State) : (geomDrop s).get F.GEOM_STATUS_PENDING = 0 := by
  rw [geomDrop, State.get_set_same _ _ _ geomPending_legal, Nat.zero_mod]

/-! ## Staging, ARM and DISCARD -/

/-- R40. -/
theorem geomWordWrite_completes {who : Requester} {n : Fin 16} {s : State} (hp : Permitted who (R.GEOM_W n.val) s)
    (hw : geomWindow s = true) (hpend : s.flag F.GEOM_STATUS_PENDING = false) (hs : s.kcp.shadow = none) (v : Word) :
    Completes (exec (.geomWordWrite who n v) s) (fun t =>
      t = { s with staged := t.staged, out := .status who (R.GEOM_W n.val) .ok :: s.out } ∧
      t.stagedWord (R.GEOM_W n.val) = some v ∧ ∀ b, b ≠ R.GEOM_W n.val → t.stagedWord b = s.stagedWord b) := by
  refine ⟨_, exec_geomWordWrite hp (geomWordWrite_stages hw hpend hs n v), rfl, ?_, fun b hb => ?_⟩
  · rw [State.stagedWord_emit, State.stagedWord_stage, if_pos rfl]
  · rw [State.stagedWord_emit, State.stagedWord_stage, if_neg hb.symm]

/-- R40: PENDING shares its word with the other fields of GEOM_STATUS, and no bit. -/
theorem geomArm_completes {who : Requester} {s : State} (hp : Permitted who R.GEOM_CTRL s) (hw : geomWindow s = true)
    (hpend : s.flag F.GEOM_STATUS_PENDING = false) :
    Completes (exec (.geomArm who) s) (fun t =>
      t = { s with regs := t.regs, out := .status who R.GEOM_CTRL .ok :: s.out } ∧
      t.get F.GEOM_STATUS_PENDING = 1 ∧ t.get F.GEOM_STATUS_ERR = s.get F.GEOM_STATUS_ERR ∧
      t.get F.GEOM_STATUS_SOURCE = s.get F.GEOM_STATUS_SOURCE ∧
      t.get F.GEOM_STATUS_NAP_LIMITED = s.get F.GEOM_STATUS_NAP_LIMITED ∧
      ∀ b, b ≠ R.GEOM_STATUS → t.word b = s.word b) := by
  have hother : ∀ g : Field, F.GEOM_STATUS_PENDING.hi < g.lo ∨ g.hi < F.GEOM_STATUS_PENDING.lo →
      (s.set F.GEOM_STATUS_PENDING 1).get g = s.get g := fun g =>
    State.get_set_other s F.GEOM_STATUS_PENDING g 1 geomPending_legal
  refine ⟨_, exec_geomArm hp (geomArm_sets hw hpend), rfl, ?_, ?_, ?_, ?_, fun b hb => ?_⟩
  · rw [State.get_emit, State.get_set_same _ _ _ geomPending_legal]
    rfl
  · rw [State.get_emit, hother _ (by decide)]
  · rw [State.get_emit, hother _ (by decide)]
  · rw [State.get_emit, hother _ (by decide)]
  · rw [State.word_emit, State.word_set_ne _ _ _ hb.symm]

/-- R39, R40. -/
theorem geometryStagesInWindow : Claims.GeometryStagesInWindow := fun _ n v _ hs =>
  ⟨fun hp hw hpend => geomWordWrite_completes hp hw hpend hs v, geomArm_completes,
    fun hp hw => exec_geomWordWrite hp (geomWordWrite_outside hw n v), fun hp hw => exec_geomArm hp (geomArm_outside hw)⟩

/-- R43. -/
theorem geometryDiscardReturns : Claims.GeometryDiscardReturns := by
  intro who s hp
  refine ⟨_, exec_geomDiscard hp, ?_, fun n hn => ?_, fun b hb => ?_, ?_, fun b hb => ?_⟩
  · rw [geomDrop_only]
    rfl
  · rw [State.nextWord_emit, geomDrop_nextWord s hn]
  · have hout : b ∉ geomAddrs := fun h =>
      have ⟨n, hn, he⟩ := mem_geomAddrs.mp h
      hb n hn he
    rw [State.stagedWord_emit, geomDrop_stagedWord, if_neg hout]
  · rw [State.get_emit, geomDrop_pending]
  · rw [State.word_emit, geomDrop_word_ne s hb]

/-- Settles O11: each of the three commands by what its rule answers. -/
theorem geometryStagesAndDiscards : Obligations.GeometryStagesAndDiscards := ⟨geometryStagesInWindow, geometryDiscardReturns⟩

/-! ## Refusals -/

/-- R42. -/
theorem geometryPendingBlocks : Claims.GeometryPendingBlocks := fun _ n v _ hpend =>
  ⟨fun hp => exec_geomWordWrite hp (geomWordWrite_pending hpend n v),
    fun hp hw => exec_geomArm hp (geomArm_pending hw hpend)⟩

theorem slice_and (m n hi lo : Nat) : slice (m &&& n) hi lo = slice m hi lo &&& slice n hi lo := by
  unfold slice
  rw [Nat.shiftRight_and_distrib, Nat.and_mod_two_pow]

theorem wordField_and (v w : Word) (f : Field) : wordField (v &&& w) f = wordField v f &&& wordField w f := by
  rw [wordField, BitVec.toNat_and, slice_and]
  rfl

/-- A write with bits 1 and 0 set, of a register whose two bits are DISCARD and ARM and whose rule refuses them together. -/
theorem exec_armWithDiscard {who : Requester} {a : Nat} {v : Word} {s : State} {rule : Word → State → Res}
    (hat : registerAt a 0 3 a = true)
    (hown : ∀ {d : RegDesc}, d.base = a → ∀ i j u w, ownWrite who d i j a u w s = some (rule u s))
    (hrule : ∀ u, wordField u ⟨a, 0, 0⟩ = 1 → wordField u ⟨a, 1, 1⟩ = 1 → rule u s = (.value, s))
    (hp : Permitted who a s) (harm : wordField v ⟨a, 0, 0⟩ = 1) (hdiscard : wordField v ⟨a, 1, 1⟩ = 1) :
    exec (.registerWrite who 32 a v) s = .next (s.emit (.status who a .value)) := by
  obtain ⟨d, j, ha, hf, hb, hm⟩ := registerAt_cases hat
  have hmasked : rule (v &&& BitVec.ofNat 32 3) s = (.value, s) := by
    refine hrule _ ?_ ?_
    · rw [wordField_and, harm]
      exact (by decide : 1 &&& slice 3 0 0 = 1)
    · rw [wordField_and, hdiscard]
      exact (by decide : 1 &&& slice 3 1 1 = 1)
  refine (exec_registerWrite_eq who a v s).trans (exec_write_refused hp (by decide) ?_)
  rw [regWrite_mapped ha hf, mappedWrite_own (by rw [hm]; decide) (hown hb ..), hm, hmasked]

section
variable {d : RegDesc} (who : Requester) (i j : Nat) (v w : Word) (s : State)

theorem ownWrite_geomCtrl (hd : d.base = R.GEOM_CTRL) : ownWrite who d i j R.GEOM_CTRL v w s = some (geomCtrlWrite v s) := by
  simp +decide only [ownWrite, hd, if_true, if_false, false_and, and_false]

theorem ownWrite_colCtrl (hd : d.base = R.CONF_COLCTRL) :
    ownWrite who d i j R.CONF_COLCTRL v w s = some (colCtrlWrite v s) := by
  simp +decide only [ownWrite, hd, if_true, if_false, false_and, and_false]

theorem ownWrite_mapCtrl (hd : d.base = R.CONF_MAPCTRL) :
    ownWrite who d i j R.CONF_MAPCTRL v w s = some (mapCtrlWrite v s) := by
  simp +decide only [ownWrite, hd, if_true, if_false, false_and, and_false]

end

section
variable {v : Word}

theorem geomCtrlWrite_both (ha : wordField v F.GEOM_CTRL_ARM = 1) (hd : wordField v F.GEOM_CTRL_DISCARD = 1) (s : State) :
    geomCtrlWrite v s = (.value, s) := by
  simp only [geomCtrlWrite, ha, hd]
  rfl

theorem colCtrlWrite_both (ha : wordField v F.CONF_COLCTRL_ARM = 1) (hd : wordField v F.CONF_COLCTRL_DISCARD = 1)
    (s : State) : colCtrlWrite v s = (.value, s) := by
  simp only [colCtrlWrite, ha, hd]
  rfl

theorem mapCtrlWrite_both (ha : wordField v F.CONF_MAPCTRL_ARM = 1) (hd : wordField v F.CONF_MAPCTRL_DISCARD = 1)
    (s : State) : mapCtrlWrite v s = (.value, s) := by
  simp only [mapCtrlWrite, ha, hd]
  rfl

end

/-- The three registers with an ARM bit and a DISCARD bit take no other bits. -/
theorem ctrl_registerAt :
    ∀ a ∈ [R.GEOM_CTRL, R.CONF_COLCTRL, R.CONF_MAPCTRL], registerAt a 0 3 a = true := by decide +kernel

/-- R581. -/
theorem armAndDiscardRefused : Claims.ArmAndDiscardRefused := fun who _ s =>
  ⟨exec_armWithDiscard (ctrl_registerAt _ (by simp)) (fun hd i j u w => ownWrite_geomCtrl who i j u w s hd)
      (fun _ ha hd => geomCtrlWrite_both ha hd s),
    exec_armWithDiscard (ctrl_registerAt _ (by simp)) (fun hd i j u w => ownWrite_colCtrl who i j u w s hd)
      (fun _ ha hd => colCtrlWrite_both ha hd s),
    exec_armWithDiscard (ctrl_registerAt _ (by simp)) (fun hd i j u w => ownWrite_mapCtrl who i j u w s hd)
      (fun _ ha hd => mapCtrlWrite_both ha hd s)⟩

/-- Settles O12: PENDING closes the rule of a descriptor word and leaves that of ARM nothing to do; the register's bits reach
its rule as written, which refuses ARM with DISCARD. -/
theorem geometryConflictsRefused : Obligations.GeometryConflictsRefused := ⟨geometryPendingBlocks, armAndDiscardRefused⟩

end Sys2Proof.Machine
end

section
/-! SUPPORT. The two statements of spec/05_decode.md, each refuted in one of its claims: a row that was parked resumes as it
is dispatched (R467, R474), and PARKS counts modulo 65,536 (R472). -/

namespace Sys2Proof.Machine

/-! ## A parked row resumes as it is dispatched -/

@[simp] theorem setTask_xlat (t : RowTask) (s : State) : (setTask t s).xlat = s.xlat := rfl

@[simp] theorem emptySave_xlat (ctx : Nat) (s : State) : (emptySave ctx s).xlat = s.xlat := by
  unfold emptySave
  split
  · dsimp only
    split <;> rfl
  · rfl

/-- Work resumes where its save area passes the checks of R474; its context holds no parked work from then on. -/
theorem resumeAt_of_saveOk {ctx point : Nat} {s : State} (hp : tabGet none s.xlat.parked ctx = some point)
    (hs : s.saveOk ctx = true) :
    resumeAt ctx point s =
      (true, emptySave ctx (setCtxState ctx 0 { s with xlat := { s.xlat with parked := tabErase s.xlat.parked ctx } })) := by
  rw [resumeAt, if_pos hp, resumeSave]
  simp only [hs, if_true]

/-- The only row that is ready, when it was parked and its save area is sound, is dispatched and parked no longer. -/
theorem rowDispatch_parked {past2 : List (Fin 8)} {s : State} {t : RowTask} {e : Nat}
    (hr : s.dec.tasks.filter (fun u => s.taskReady past2 u && (s.engineFor u).isSome) = [t]) (he : s.engineFor t = some e)
    (hp : tabGet none s.xlat.parked (1 + t.ctx % 4) = some (s.rowPoint t)) (hs : s.saveOk (1 + t.ctx % 4) = true) :
    (rowDispatch past2 s).xlat.parked = tabErase s.xlat.parked (1 + t.ctx % 4) := by
  simp only [rowDispatch, hr, List.foldl_nil, he, resumeAt_of_saveOk hp hs, if_true, setTask_xlat, emptySave_xlat]
  rfl

/-- A row of context 0 that engine 0 parked at its point and that waits for another engine. -/
def parkedRow : RowTask where
  ctx := 0
  order := 0
  layer := 0
  slot := 0
  segment := 0
  row := 0
  first := 0
  count := 1
  tile := 0
  opens := true
  wavefront := false
  dependent := false
  refs := []
  interLayer := []
  avoid := some 0

/-- The header of the save area of context 1 with STATE parked, without a body (R472). -/
def parkedHeader : List Byte :=
  let h := [0x53, 0x41, 0x56, 0x45, 1, 1] ++ List.replicate 50 0 ++ leBytes (crc32c []) 4
  h ++ leBytes (crc32c h) 4

/-- A Q9 whose engine 0 was taken out of service and parked its row: the save area of context 1 stands in a pool of KIND 0x5. -/
def parkedRowState : State :=
  let p : PoolRec := ⟨3, 5, 128, 64⟩
  { ((State.reset.set F.DEC_STATUS_ENGINES 0xFE).set (F.XLAT_CTX_STATE 1) 2).poolWrite p 0x01000000 parkedHeader with
    struct := { State.reset.struct with image := some ⟨1, 1, [], [], 1, [], [], [p], [], [], [], []⟩ }
    dec := { tasks := [parkedRow] }
    xlat := { parked := [(1, some 0)] } }

/-- The claim leaves the park of the dispatched row as it stood; the row, which was parked, ends it. -/
theorem not_rowTasksDispatchInOrder : ¬ Claims.RowTasksDispatchInOrder := by
  intro h
  have hlive : live parkedRowState = true := by decide +kernel
  have hengine : parkedRowState.engineFor parkedRow = some 1 := by decide +kernel
  have hready : parkedRowState.taskReady [] parkedRow = true := by decide +kernel
  have honly : parkedRowState.dec.tasks.filter (fun u =>
      parkedRowState.taskReady [] u && (parkedRowState.engineFor u).isSome) = [parkedRow] := by decide +kernel
  have hpoint : parkedRowState.rowPoint parkedRow = 0 := by decide +kernel
  have hsave : parkedRowState.saveOk 1 = true := by decide +kernel
  have hends : (rowDispatch [] parkedRowState).xlat.parked = [] :=
    rowDispatch_parked honly hengine (by rw [hpoint]; rfl) hsave
  obtain ⟨t, e, -, -, -, -, -, -, hexec⟩ :=
    (h [] parkedRowState hlive).2 ⟨parkedRow, List.mem_singleton.mpr rfl, hready, by simp [hengine]⟩
  have hdisp : rowDispatch [] parkedRowState = _ :=
    Host.Outcome.next.inj ((whenLive_next _ _ hlive).symm.trans hexec)
  rw [hdisp] at hends
  exact absurd hends (List.cons_ne_nil _ _)

/-- Refutes O35: its claim on dispatch says of every state that the row and its engine alone change. A row that was parked also
resumes: the save area of its context is emptied and its park ends (R467, R474). -/
theorem not_decodingRuns : ¬ Obligations.DecodingRuns := fun h => not_rowTasksDispatchInOrder h.2.1

/-! ## The second parity error of an engine counts a park modulo 65,536 -/

@[simp] theorem get_writeSave (ctx st point code : Nat) (lease : Option Nat) (addr : Nat) (s : State) (f : Field) :
    (writeSave ctx st point code lease addr s).get f = s.get f := by
  unfold writeSave
  split <;> rfl

/-- PARKS of a context after a park: the parks since the load, modulo 65,536 (R472). -/
theorem get_parks_parkEngine (ctx point : Nat) (s : State) :
    (parkEngine ctx point s).get (F.XLAT_CTX_PARKS ctx) = (tabGet 0 s.xlat.parks ctx + 1) % 65536 := by
  have hstate : (F.XLAT_CTX_STATE ctx).legal := by simp [Field.legal, F.XLAT_CTX_STATE]
  have hparks : (F.XLAT_CTX_PARKS ctx).legal := by simp [Field.legal, F.XLAT_CTX_PARKS]
  have hapart : (F.XLAT_CTX_STATE ctx).hi < (F.XLAT_CTX_PARKS ctx).lo := by simp [F.XLAT_CTX_STATE, F.XLAT_CTX_PARKS]
  show (setCtxState ctx 2 (writeSave ctx 1 point 0 none 0 (countPark ctx s))).get (F.XLAT_CTX_PARKS ctx) = _
  rw [setCtxState, State.get_set_other _ _ _ _ hstate (.inl hapart), get_writeSave, countPark, State.get_set_same _ _ _ hparks]
  simp only [F.XLAT_CTX_PARKS]
  omega

/-- A decoder event leaves every field outside the event controller and the error log. -/
theorem get_decRaise {src : Nat} (hsrc : src < 1024) (code c l : Nat) (poc : Int) (s : State) {f : Field}
    (hf : evtAddr f.addr = false) : (decRaise src code c l poc s).get f = s.get f :=
  (evtOnly_raiseWith src code _ s hsrc).get f hf

/-- PARKS of a context of the decoder lies outside the event controller and the error log. -/
theorem evtAddr_parks {ctx : Nat} : evtAddr (F.XLAT_CTX_PARKS ctx).addr = false := by
  simp only [evtAddr, F.XLAT_CTX_PARKS, R.XLAT_CTX]
  exact decide_eq_false (by omega)

/-- The second parity error of an engine: its row waits for another engine and is parked, and the engine leaves service. -/
theorem decParity_struck {e : Nat} {t : RowTask} {s : State} (ht : s.engineTask e = some t) (ho : t.orphan = none)
    (hs : e ∈ s.dec.struck) :
    ∃ point poc served, decParity e s = decRaise (208 + e) 0 (t.ctx % 4) t.layer poc
      (State.set (parkEngine (1 + t.ctx % 4) point (setTask { t with state := 0, avoid := some e, holds := [] } s))
        F.DEC_STATUS_ENGINES served) := by
  have hbound : t.orphan.isSome = false := by rw [ho]; rfl
  have hstruck : (setTask { t with state := 0, avoid := some e, holds := [] } s).dec.struck.contains e = true :=
    List.contains_iff_mem.mpr hs
  unfold decParity
  simp only [ht, hbound, Bool.false_eq_true, if_false]
  rw [if_pos hstruck]
  exact ⟨_, _, _, rfl⟩

/-- An engine with a second parity error counts a park of its context, modulo 65,536. -/
theorem get_parks_decParity {e : Fin 8} {t : RowTask} {s : State} (ht : s.engineTask e.val = some t) (ho : t.orphan = none)
    (hs : e.val ∈ s.dec.struck) : (decParity e.val s).get (F.XLAT_CTX_PARKS (1 + t.ctx % 4)) =
      (tabGet 0 s.xlat.parks (1 + t.ctx % 4) + 1) % 65536 := by
  have hapart : F.DEC_STATUS_ENGINES.addr ≠ (F.XLAT_CTX_PARKS (1 + t.ctx % 4)).addr := by
    simp only [F.DEC_STATUS_ENGINES, F.XLAT_CTX_PARKS, R.DEC_STATUS, R.XLAT_CTX]
    omega
  obtain ⟨point, poc, served, h⟩ := decParity_struck ht ho hs
  rw [h, get_decRaise (by omega) _ _ _ _ _ evtAddr_parks, State.get_set_addr _ _ _ _ hapart, get_parks_parkEngine, setTask_xlat]

/-- A row of context 0 that engine 6 runs. -/
def runningRow : RowTask := { parkedRow with state := 1, engine := 6, avoid := none }

/-- A Q9 whose engine 6 has met a parity error in the epoch and whose context 1 has parked 65,535 times since the load. -/
def lastParkState : State :=
  { State.reset.set (F.XLAT_CTX_PARKS 1) 65535 with
    dec := { tasks := [runningRow], struck := [6] }
    xlat := { parks := [(1, 65535)] } }

/-- Park 65,536 reads 0 in PARKS, which the claim holds at its maximum. -/
theorem not_decoderParityErrors : ¬ Claims.DecoderParityErrors := by
  intro h
  have hlive : live lastParkState = true := by decide +kernel
  have htask : lastParkState.engineTask 6 = some runningRow := by decide +kernel
  have hserves : (lastParkState.get F.DEC_STATUS_ENGINES).testBit 6 = true := by decide +kernel
  have hparks : lastParkState.get (F.XLAT_CTX_PARKS 1) = 65535 := by decide +kernel
  have hwraps : (decParity 6 lastParkState).get (F.XLAT_CTX_PARKS 1) = 0 :=
    (get_parks_decParity (e := 6) htask rfl (List.mem_singleton.mpr rfl)).trans (by decide +kernel)
  obtain ⟨u, hexec, -, -, -, hcount, -⟩ :=
    (h 6 runningRow lastParkState hlive).2.1 htask rfl (List.mem_singleton.mpr rfl) hserves
  have hu : decParity 6 lastParkState = u := Host.Outcome.next.inj ((whenLive_next _ _ hlive).symm.trans hexec)
  have hmax : u.get (F.XLAT_CTX_PARKS 1) = min 65535 (lastParkState.get (F.XLAT_CTX_PARKS 1) + 1) := hcount (by decide)
  rw [← hu, hwraps, hparks] at hmax
  exact absurd hmax (by decide)

/-- Refutes O36: its claim on parity errors lets PARKS stay at 65,535; R472 counts parks modulo 65,536, and so does the model. -/
theorem not_decodingSurvivesErrors : ¬ Obligations.DecodingSurvivesErrors := fun h => not_decoderParityErrors h.1

end Sys2Proof.Machine
end

section
/-! SUPPORT. The statement of spec/06_carding.md: what the start of an instant, the completion of a tile and the end of a seam
wait change and leave, and the statement settled from that. -/

namespace Sys2Proof.Machine

/-! ## One record of a layer and count -/

/-- j is the record of its layer and count, and every record of that layer and count is j. -/
def State.soleInstant (s : State) (j : Instant) : Prop :=
  j ∈ s.card.instants ∧ ∀ x ∈ s.card.instants, x.layer = j.layer → x.count = j.count → x = j

theorem State.soleInstant.instantOf {s : State} {j : Instant} (h : s.soleInstant j) :
    s.instantOf j.layer j.count = some j := by
  obtain ⟨hmem, hsole⟩ := h
  unfold State.instantOf
  cases hf : s.card.instants.find? (fun i => i.layer == j.layer && i.count == j.count) with
  | none => exact absurd (List.find?_eq_none.mp hf j hmem) (by simp)
  | some x =>
    have hkey := List.find?_some hf
    simp only [Bool.and_eq_true, beq_iff_eq] at hkey
    rw [hsole x (List.mem_of_find?_eq_some hf) hkey.1 hkey.2]

theorem mem_of_instantOf {s : State} {l n : Nat} {i : Instant} (h : s.instantOf l n = some i) :
    i ∈ s.card.instants ∧ i.layer = l ∧ i.count = n := by
  have hkey := List.find?_some h
  simp only [Bool.and_eq_true, beq_iff_eq] at hkey
  exact ⟨List.mem_of_find?_eq_some h, hkey⟩

theorem mem_of_waitingInstant {s : State} {l : Nat} {i : Instant} (h : s.waitingInstant l = some i) :
    i ∈ s.card.instants ∧ i.layer = l ∧ i.phase = 0 := by
  have hkey := List.find?_some h
  simp only [Bool.and_eq_true, beq_iff_eq] at hkey
  exact ⟨List.mem_reverse.mp (List.mem_of_find?_eq_some h), hkey⟩

theorem mem_setInstant {i x : Instant} {s : State} :
    x ∈ (setInstant i s).card.instants ↔
      ∃ j ∈ s.card.instants, (if j.layer = i.layer ∧ j.count = i.count then i else j) = x := List.mem_map

/-- A record that replaces another takes the place of every record of its layer and count. -/
theorem soleInstant_setInstant {s : State} {i j : Instant} (hi : i ∈ s.card.instants) (hl : i.layer = j.layer)
    (hc : i.count = j.count) : (setInstant j s).soleInstant j := by
  refine ⟨mem_setInstant.mpr ⟨i, hi, if_pos ⟨hl, hc⟩⟩, fun x hx hxl hxc => ?_⟩
  obtain ⟨y, -, rfl⟩ := mem_setInstant.mp hx
  split at hxl <;> rename_i hy
  · rw [if_pos hy]
  · rw [if_neg hy] at hxc
    exact absurd ⟨hxl, hxc⟩ hy

theorem soleInstant_setInstant_ne {s : State} {i j : Instant} (h : s.soleInstant j)
    (hne : ¬ (j.layer = i.layer ∧ j.count = i.count)) : (setInstant i s).soleInstant j := by
  refine ⟨mem_setInstant.mpr ⟨j, h.1, if_neg hne⟩, fun x hx hl hc => ?_⟩
  obtain ⟨y, hy, rfl⟩ := mem_setInstant.mp hx
  split at hl <;> rename_i hyi
  · rw [if_pos hyi] at hc
    exact absurd ⟨hl.symm, hc.symm⟩ hne
  · rw [if_neg hyi] at hc ⊢
    exact h.2 y hy hl hc

/-- The seam wait of a waiting instant leaves the record of one that has started. -/
theorem soleInstant_beginSeamWait {s : State} {j : Instant} (h : s.soleInstant j) (hj : j.phase ≠ 0) (l : Nat) :
    (beginSeamWait l s).soleInstant j := by
  unfold beginSeamWait
  split
  next w hw =>
    obtain ⟨hmem, -, hphase⟩ := mem_of_waitingInstant hw
    split
    · refine soleInstant_setInstant_ne h fun hkey => hj ?_
      rw [← h.2 w hmem hkey.1.symm hkey.2.symm, hphase]
    · exact h
  next => exact h

/-- An instant that is not late stays when late ones are discarded. -/
theorem soleInstant_settleLate {s : State} {j : Instant} (h : s.soleInstant j) (hj : j.late = false) (l n : Nat) :
    (settleLate l n s).soleInstant j := by
  unfold settleLate
  split
  · exact h
  · exact ⟨List.mem_filter.mpr ⟨h.1, by simp [hj]⟩, fun x hx => h.2 x (List.mem_filter.mp hx).1⟩

/-! ## What changes the records of carding alone -/

/-- Only the records of carding differ. -/
def OnCard (s t : State) : Prop := t = s.withCard t.card

theorem OnCard.rfl {s : State} : OnCard s s := Eq.refl _

theorem OnCard.trans {s t u : State} (h : OnCard s t) (k : OnCard t u) : OnCard s u := by
  unfold OnCard at *
  rw [h] at k
  exact k

theorem OnCard.get {s t : State} (h : OnCard s t) (f : Field) : t.get f = s.get f := by
  rw [h]
  rfl

theorem setInstant_onCard (i : Instant) (s : State) : OnCard s (setInstant i s) := Eq.refl _

theorem beginSeamWait_onCard (l : Nat) (s : State) : OnCard s (beginSeamWait l s) := by
  unfold beginSeamWait
  split
  · split
    · exact setInstant_onCard _ s
    · exact .rfl
  · exact .rfl

theorem settleLate_onCard (l n : Nat) (s : State) : OnCard s (settleLate l n s) := by
  unfold settleLate
  split
  · exact .rfl
  · exact Eq.refl _

theorem instantDone_onCard (l n : Nat) (s : State) : OnCard s (instantDone l n s) := by
  unfold instantDone
  split
  · exact .rfl
  · exact ((setInstant_onCard _ s).trans (settleLate_onCard l n _)).trans (beginSeamWait_onCard l _)

/-! ## The counters of a layer -/

theorem max_lyrCnt (l k : Nat) : (F.CARD_LYR_CNT_COUNT l k).max = 0xFFFFFFFF := by simp [Field.max, F.CARD_LYR_CNT_COUNT]

theorem get_bumpBy_lyrCnt_same (s : State) (l k n : Nat) :
    (s.bumpBy (F.CARD_LYR_CNT_COUNT l k) n).get (F.CARD_LYR_CNT_COUNT l k) =
      min 0xFFFFFFFF (s.get (F.CARD_LYR_CNT_COUNT l k) + n) := by
  have hlegal : (F.CARD_LYR_CNT_COUNT l k).legal := ⟨Nat.zero_le _, Nat.lt_succ_self 31⟩
  rw [State.bumpBy, State.get_set_same _ _ _ hlegal, max_lyrCnt]
  exact Nat.mod_eq_of_lt (by simp only [F.CARD_LYR_CNT_COUNT]; omega)

theorem get_bumpBy_lyrCnt_ne (s : State) (l n : Nat) {j k : Nat} (h : j ≠ k) :
    (s.bumpBy (F.CARD_LYR_CNT_COUNT l j) n).get (F.CARD_LYR_CNT_COUNT l k) = s.get (F.CARD_LYR_CNT_COUNT l k) :=
  State.get_set_addr _ _ _ _ (by simp only [F.CARD_LYR_CNT_COUNT, R.CARD_LYR_CNT]; omega)

/-- The registers that carding writes by itself: those of the layers and the count of NaN channels. -/
def CardAddr (a : Nat) : Prop := (0x300000 ≤ a ∧ a < 0x301000) ∨ a = R.RAYH_NANCNT

theorem evtAddr_of_cardAddr {a : Nat} (h : CardAddr a) : evtAddr a = false := by
  unfold CardAddr R.RAYH_NANCNT at h
  simp only [evtAddr, decide_eq_false_iff_not]
  omega

theorem cardAddr_lyrCnt {l k : Nat} (hl : l < 64) (hk : k < 7) : CardAddr (R.CARD_LYR_CNT l k) := by
  unfold CardAddr R.CARD_LYR_CNT
  omega

theorem cardAddr_lyrLast {l : Nat} (hl : l < 64) : CardAddr (R.CARD_LYR_LAST l) := by
  unfold CardAddr R.CARD_LYR_LAST
  omega

/-- Only words that carding writes by itself, those of the event controller and the error log, and what stands behind the
latter differ. -/
structure CardNotes (s t : State) : Prop where
  rest : t = { s with regs := t.regs, evt := t.evt }
  word : ∀ a, evtAddr a = false → ¬ CardAddr a → t.word a = s.word a

theorem CardNotes.rfl {s : State} : CardNotes s s := ⟨Eq.refl _, fun _ _ _ => Eq.refl _⟩

theorem CardNotes.trans {s t u : State} (h : CardNotes s t) (k : CardNotes t u) : CardNotes s u :=
  ⟨by rw [k.rest, h.rest], fun a he hc => (k.word a he hc).trans (h.word a he hc)⟩

theorem CardNotes.set (s : State) (f : Field) (v : Nat) (hf : CardAddr f.addr) : CardNotes s (s.set f v) :=
  ⟨Eq.refl _, fun _ _ ha => State.word_set_ne s f v fun e => ha (e ▸ hf)⟩

theorem CardNotes.ite {s t u : State} {p : Prop} [Decidable p] (h : CardNotes s t) (k : CardNotes s u) :
    CardNotes s (if p then t else u) := by split <;> assumption

theorem CardNotes.raiseWith (s : State) {src : Nat} (h : src < 1024) (code detail : Nat) :
    CardNotes s (raiseWith src code detail s) :=
  have hevt := evtOnly_raiseWith src code detail s h
  ⟨hevt.rest, fun a ha _ => hevt.word a ha⟩

theorem CardNotes.bumpBy (s : State) {l k : Nat} (hl : l < 64) (hk : k < 7) (n : Nat) :
    CardNotes s (s.bumpBy (F.CARD_LYR_CNT_COUNT l k) n) := .set s _ _ (cardAddr_lyrCnt hl hk)

theorem get_lyrCnt_raiseWith (s : State) {src l k : Nat} (h : src < 1024) (hl : l < 64) (hk : k < 7) (code detail : Nat) :
    (raiseWith src code detail s).get (F.CARD_LYR_CNT_COUNT l k) = s.get (F.CARD_LYR_CNT_COUNT l k) :=
  (evtOnly_raiseWith src code detail s h).get _ (evtAddr_of_cardAddr (cardAddr_lyrCnt hl hk))

/-! ## The end of a seam wait (R232) -/

/-- SEAM_WAIT_TIMEOUT before its time. -/
theorem seamTimeout_early {l : Nat} {i : Instant} {s : State} (hi : s.waitingInstant l = some i) (h : s.now < i.seamUntil) :
    seamTimeout l s = s := by
  unfold seamTimeout
  rw [hi]
  exact if_pos (.inr (.inl h))

/-- SEAM_WAIT_TIMEOUT at its time, strips not there. -/
theorem seamTimeout_due {l : Nat} {i : Instant} {s : State} (hi : s.waitingInstant l = some i) (h0 : i.seamUntil ≠ 0)
    (hdue : i.seamUntil ≤ s.now) (hready : s.seamReady i = false) :
    seamTimeout l s = if (seamEdges i.regs l).any (s.edgeMissing i) then
      countSeamMiss i (setInstant { i with seamMissed := true } s) else setInstant { i with seamMissed := true } s := by
  have hwait : ¬ (i.seamUntil = 0 ∨ s.now < i.seamUntil ∨ s.seamReady i = true) := by
    rw [hready]
    simp only [Bool.false_eq_true, or_false]
    omega
  unfold seamTimeout
  rw [hi]
  exact if_neg hwait

theorem countSeamMiss_notes {i : Instant} (hl : i.layer < 64) (s : State) : CardNotes s (countSeamMiss i s) :=
  (CardNotes.bumpBy s hl (by decide) 1).trans (.raiseWith _ (by decide) _ _)

theorem get_countSeamMiss {i : Instant} (hl : i.layer < 64) (s : State) :
    (countSeamMiss i s).get (F.CARD_LYR_CNT_COUNT i.layer 6) =
      min 0xFFFFFFFF (s.get (F.CARD_LYR_CNT_COUNT i.layer 6) + 1) := by
  rw [countSeamMiss, get_lyrCnt_raiseWith _ (by decide) hl (by decide), State.bump, get_bumpBy_lyrCnt_same]

theorem isPending_countSeamMiss (i : Instant) (s : State) : (countSeamMiss i s).isPending 612 = true := by
  rw [countSeamMiss, isPending_raiseWith _ _ _ _ _ (by decide) (by decide)]
  rfl

/-- R232. -/
theorem seamWaitRunsOut : Claims.SeamWaitRunsOut := by
  intro l i s hlive hi h0
  obtain ⟨hmem, hlayer, -⟩ := mem_of_waitingInstant hi
  have hl : i.layer < 64 := hlayer ▸ l.isLt
  have hexec : exec (.seamWaitTimeout l) s = .next (seamTimeout l.val s) := whenLive_next _ _ hlive
  refine ⟨fun hdue hready => ⟨_, hexec, ?_⟩, fun h => by rw [hexec, seamTimeout_early hi h]⟩
  rw [seamTimeout_due hi h0 hdue hready, ← hlayer]
  have hrecord : { i with seamMissed := true } ∈ (setInstant { i with seamMissed := true } s).card.instants :=
    (soleInstant_setInstant (j := { i with seamMissed := true }) hmem rfl rfl).1
  split
  next hmiss =>
    have hrest := (countSeamMiss_notes hl (setInstant { i with seamMissed := true } s)).rest
    refine ⟨?_, fun _ => ⟨get_countSeamMiss hl _, isPending_countSeamMiss i _⟩,
      fun h => absurd (hmiss.symm.trans h) (by decide), ?_⟩
    · rw [hrest]
      exact hrecord
    · rw [hrest]
      rfl
  next hmiss => exact ⟨hrecord, fun h => absurd h hmiss, fun _ => rfl, rfl⟩

/-! ## The completion of a tile (R228, R229) -/

theorem State.block_setBlock (s : State) (k j : Nat) (b : BlockState) :
    (s.setBlock k b).block j = if k = j then b else s.block j := by
  show tabGet {} (tabPut {} s.struct.blocks k b) j = _
  rw [tabGet_tabPut]
  rfl

/-- Only the blocks and the network differ. -/
def OnBlocks (s t : State) : Prop := t = { s with struct := t.struct } ∧ t.struct.image = s.struct.image

theorem cellItem_clearCell (k c : Nat) (s : State) : (clearCell k c s).cellItem k c = none := by
  unfold clearCell State.cellItem
  rw [State.block_setBlock, if_pos rfl]
  dsimp only
  rw [tabGet_tabModify, if_pos rfl]

theorem carryToPool_onNet (k pool : Nat) (s : State) : OnNet s (carryToPool k pool s) := by
  unfold carryToPool
  split
  · exact Eq.refl _
  · exact .rfl

/-- A cell that is cleared is idle, whatever its block sends to a pool then. -/
theorem carryToPool_clearCell (k c pool : Nat) (s : State) :
    OnBlocks s (carryToPool k pool (clearCell k c s)) ∧ (carryToPool k pool (clearCell k c s)).cellItem k c = none := by
  rw [carryToPool_onNet k pool (clearCell k c s)]
  exact ⟨⟨rfl, rfl⟩, cellItem_clearCell k c s⟩

theorem tileResult_onBlocks {s t : State} (h : OnBlocks s t) (i : Instant) (tile : Nat) :
    t.tileResult i tile = s.tileResult i tile := by
  obtain ⟨hrest, himage⟩ := h
  have hraw : t.overlayRaw = s.overlayRaw := by
    funext f
    unfold State.overlayRaw State.pixelRead State.pool State.pools
    rw [himage, hrest]
    rfl
  have hoverlays : t.synthOverlays i = s.synthOverlays i := by
    unfold State.synthOverlays
    rw [hraw, hrest]
    rfl
  unfold State.tileResult
  rw [hoverlays, hrest]
  rfl

/-- The counters that a tile leaves: holes, fills and clamps of its layer, the first clamp of its instant, and the NaN
channels of the overlays, counted with tile 0. -/
def noteTile (i : Instant) (l t : Nat) (r : TileResult) (s : State) : State :=
  let s := s.bumpBy (F.CARD_LYR_CNT_COUNT l 2) r.holes
  let s := s.bumpBy (F.CARD_LYR_CNT_COUNT l 3) r.fills
  let s := s.bumpBy (F.CARD_LYR_CNT_COUNT l 4) r.clamps
  let s := if r.clamps ≠ 0 ∧ ¬ i.clamped then raiseWith 611 0 (instantDetail i) s else s
  s.bumpBy F.RAYH_NANCNT_COUNT
    (if t = 0 then (i.fronts.flatMap (fun f => (s.overlayRaw f).map (overlayNans f.format))).sum else 0)

/-- An instant once a tile of it has given its rays. -/
def Instant.withTile (i : Instant) (t : Nat) (r : TileResult) : Instant :=
  { i with
    todo := setErase t i.todo, clamped := i.clamped || r.clamps != 0
    rays := r.rays.foldl (fun tab e => tabInsert tab e.1 (some e.2)) i.rays }

/-- A tile that an instant in synthesis still lacks, no lease stale and the kernels CK-STD: its counts and its rays are noted,
and the instant is done with its last tile. -/
theorem cardTile_lacked {s : State} {l n t : Nat} {i : Instant} (hi : s.instantOf l n = some i) (hphase : i.phase = 1)
    (ht : t ∈ i.todo) (hfault : s.instantFault i = none) (hstd : s.ckStd = true) (hheld : i.withheld = false) :
    cardTile l n t false s =
      let u := setInstant (i.withTile t (s.tileResult i t)) (noteTile i l t (s.tileResult i t) s)
      if setErase t i.todo = [] then instantDone l n u else u := by
  have hlacked : ¬ (i.phase ≠ 1 ∨ ¬ i.todo.contains t = true) := by simp [hphase, ht]
  have hgiven : ¬ (false || i.withheld) = true := by simp [hheld]
  unfold cardTile
  simp only [hi, if_neg hlacked, hfault, if_neg hgiven, hstd, if_true, List.isEmpty_iff]
  rfl

section
variable (i : Instant) {l : Nat} (t : Nat) (r : TileResult) (s : State) (hl : l < 64)
include hl

theorem noteTile_notes : CardNotes s (noteTile i l t r s) := by
  have hcounts : ∀ k < 7, ∀ n (u : State), CardNotes s u → CardNotes s (u.bumpBy (F.CARD_LYR_CNT_COUNT l k) n) :=
    fun k hk n u h => h.trans (.bumpBy u hl hk n)
  have h := hcounts 4 (by decide) r.clamps _ (hcounts 3 (by decide) r.fills _ (hcounts 2 (by decide) r.holes s .rfl))
  unfold noteTile
  exact (CardNotes.ite (h.trans (.raiseWith _ (by decide) _ _)) h).trans (.set _ _ _ (.inr rfl))

/-- The counters of holes, fills and clamps after a tile. -/
theorem get_lyrCnt_noteTile {k : Nat} (hk : k < 7) :
    (noteTile i l t r s).get (F.CARD_LYR_CNT_COUNT l k) =
      (((s.bumpBy (F.CARD_LYR_CNT_COUNT l 2) r.holes).bumpBy (F.CARD_LYR_CNT_COUNT l 3) r.fills).bumpBy
        (F.CARD_LYR_CNT_COUNT l 4) r.clamps).get (F.CARD_LYR_CNT_COUNT l k) := by
  have hnan : F.RAYH_NANCNT_COUNT.addr ≠ (F.CARD_LYR_CNT_COUNT l k).addr := by
    simp only [F.RAYH_NANCNT_COUNT, F.CARD_LYR_CNT_COUNT, R.RAYH_NANCNT, R.CARD_LYR_CNT]
    omega
  unfold noteTile
  rw [State.bumpBy, State.get_set_addr _ _ _ _ hnan]
  split
  · exact get_lyrCnt_raiseWith _ (by decide) hl hk _ _
  · rfl

theorem get_noteTile_holes :
    (noteTile i l t r s).get (F.CARD_LYR_CNT_COUNT l 2) = min 0xFFFFFFFF (s.get (F.CARD_LYR_CNT_COUNT l 2) + r.holes) := by
  rw [get_lyrCnt_noteTile i t r s hl (by decide), get_bumpBy_lyrCnt_ne _ _ _ (by decide),
    get_bumpBy_lyrCnt_ne _ _ _ (by decide), get_bumpBy_lyrCnt_same]

theorem get_noteTile_fills :
    (noteTile i l t r s).get (F.CARD_LYR_CNT_COUNT l 3) = min 0xFFFFFFFF (s.get (F.CARD_LYR_CNT_COUNT l 3) + r.fills) := by
  rw [get_lyrCnt_noteTile i t r s hl (by decide), get_bumpBy_lyrCnt_ne _ _ _ (by decide), get_bumpBy_lyrCnt_same,
    get_bumpBy_lyrCnt_ne _ _ _ (by decide)]

theorem get_noteTile_clamps :
    (noteTile i l t r s).get (F.CARD_LYR_CNT_COUNT l 4) = min 0xFFFFFFFF (s.get (F.CARD_LYR_CNT_COUNT l 4) + r.clamps) := by
  rw [get_lyrCnt_noteTile i t r s hl (by decide), get_bumpBy_lyrCnt_same, get_bumpBy_lyrCnt_ne _ _ _ (by decide),
    get_bumpBy_lyrCnt_ne _ _ _ (by decide)]

end

/-- An instant that is complete: its carding holds and its jitter buffer space have ended. -/
def Instant.done (i : Instant) : Instant :=
  { i with phase := 2, holds := [], views := [], input := match i.input with
      | .coded c _ _ => .coded c [] []
      | .raw _ _ => .raw [] []
      | .rays => .rays }

theorem instantDone_eq {s : State} {l n : Nat} {i : Instant} (h : s.instantOf l n = some i) :
    instantDone l n s = beginSeamWait l (settleLate l n (setInstant i.done s)) := by
  unfold instantDone
  rw [h]
  rfl

/-- An instant that is not late is complete once it is done. -/
theorem instantOf_instantDone {s : State} {l n : Nat} {i : Instant} (h : s.instantOf l n = some i) (hlate : i.late = false) :
    (instantDone l n s).instantOf l n = some i.done := by
  rw [instantDone_eq h]
  obtain ⟨hmem, rfl, rfl⟩ := mem_of_instantOf h
  have hdone : (setInstant i.done s).soleInstant i.done := soleInstant_setInstant hmem rfl rfl
  exact (soleInstant_beginSeamWait (soleInstant_settleLate hdone hlate _ _) (by decide : 2 ≠ 0) _).instantOf

/-- The record of an instant in synthesis after a tile of it. -/
theorem instantOf_withTile {s : State} {l n t : Nat} {i : Instant} (r : TileResult) (hmem : i ∈ s.card.instants)
    (hl : i.layer = l) (hn : i.count = n) (hphase : i.phase = 1) (hlate : i.late = false) :
    ∃ j, (if setErase t i.todo = [] then instantDone l n (setInstant (i.withTile t r) s) else
      setInstant (i.withTile t r) s).instantOf l n = some j ∧ j.todo = setErase t i.todo ∧
      j.phase = (if setErase t i.todo = [] then 2 else 1) ∧
      j.rays = r.rays.foldl (fun tab e => tabInsert tab e.1 (some e.2)) i.rays := by
  subst hl hn
  have hnow : (setInstant (i.withTile t r) s).instantOf i.layer i.count = some (i.withTile t r) :=
    (soleInstant_setInstant (j := i.withTile t r) hmem rfl rfl).instantOf
  split
  · exact ⟨_, instantOf_instantDone hnow hlate, rfl, rfl, rfl⟩
  · exact ⟨_, hnow, rfl, hphase, rfl⟩

theorem lastTile_onCard (p : Prop) [Decidable p] (l n : Nat) (i : Instant) (s : State) :
    OnCard s (if p then instantDone l n (setInstant i s) else setInstant i s) := by
  split
  · exact (setInstant_onCard i s).trans (instantDone_onCard l n _)
  · exact setInstant_onCard i s

theorem cardTileComplete_clean {k c l n t : Nat} {replayed : Bool} {i : Instant} {s : State}
    (hcell : s.cellItem k c = some ⟨.card l n t, replayed⟩) (hi : s.instantOf l n = some i)
    (hpoison : s.workPoisoned i = false) :
    cardTileComplete k c s = cardTile l n t false (carryToPool k (i.area.getD 0 / 2 ^ 35) (clearCell k c s)) := by
  unfold cardTileComplete
  simp only [hcell, hi, hpoison, Bool.false_eq_true, and_false, if_false]

/-- R228, R229. -/
theorem tilesCompleteInstants : Claims.TilesCompleteInstants := by
  intro b c l n tile replayed i s hlive hcell hi hphase htile hfault hpoison hstd hheld hlate hl r
  have hexec : exec (.cardTileComplete b c) s = .next (cardTileComplete b.val c.val s) := whenLive_next _ _ hlive
  refine ⟨_, hexec, ?_⟩
  rw [cardTileComplete_clean hcell hi hpoison]
  obtain ⟨hblocks, hidle⟩ := carryToPool_clearCell b.val c.val (i.area.getD 0 / 2 ^ 35) s
  generalize carryToPool b.val (i.area.getD 0 / 2 ^ 35) (clearCell b.val c.val s) = u at hblocks hidle
  have hr : u.tileResult i tile = r := tileResult_onBlocks hblocks i tile
  obtain ⟨hrest, -⟩ := hblocks
  have hlacked := cardTile_lacked (s := u) (l := l) (n := n) (i := i) (by rw [hrest]; exact hi) hphase htile
    (by rw [hrest]; exact hfault) (by rw [hrest]; exact hstd) hheld
  simp only [hr] at hlacked
  have hnotes := (noteTile_notes i tile r u hl).rest
  have hcard := lastTile_onCard (setErase tile i.todo = []) l n (i.withTile tile r) (noteTile i l tile r u)
  have hrecord := instantOf_withTile (t := tile) r (s := noteTile i l tile r u)
    (by rw [hnotes, hrest]; exact (mem_of_instantOf hi).1) (mem_of_instantOf hi).2.1 (mem_of_instantOf hi).2.2 hphase hlate
  rw [hlacked]
  generalize (if setErase tile i.todo = [] then _ else _ : State) = t at hcard hrecord
  have hget : ∀ f, u.get f = s.get f := fun f => by rw [hrest]; rfl
  have hholes := get_noteTile_holes i tile r u hl
  have hfills := get_noteTile_fills i tile r u hl
  have hclamps := get_noteTile_clamps i tile r u hl
  generalize noteTile i l tile r u = v at *
  rw [← hcard.get, hget] at hholes hfills hclamps
  have hsame : t = { s with regs := t.regs, evt := t.evt, card := t.card, struct := u.struct } := by
    rw [hcard, hnotes, hrest]
    rfl
  refine ⟨?_, hrecord, hholes, hfills, hclamps, ?_, ?_⟩
  · rw [hsame]
    exact hidle
  · rw [hsame]
    exact ⟨fun _ => rfl, rfl, fun _ => rfl, fun _ => rfl⟩
  · rw [hsame]
    exact ⟨rfl, rfl, rfl⟩

/-! ## Tables by their entries -/

theorem mem_tabInsert {α : Type} {t : Tab α} {k : Nat} {v : α} {e : Nat × α} (h : e ∈ tabInsert t k v) :
    e = (k, v) ∨ e ∈ t := by
  induction t with
  | nil => exact .inl (List.mem_singleton.mp h)
  | cons a t ih =>
    obtain ⟨a, w⟩ := a
    unfold tabInsert at h
    split at h
    · exact List.mem_cons.mp h
    · split at h
      · exact (List.mem_cons.mp h).imp_right (List.mem_cons_of_mem _)
      · rcases List.mem_cons.mp h with rfl | h
        · exact .inr List.mem_cons_self
        · exact (ih h).imp_right (List.mem_cons_of_mem _)

theorem mem_of_tabFind {α : Type} {t : Tab α} {k : Nat} {v : α} (h : tabFind t k = some v) : (k, v) ∈ t := by
  induction t with
  | nil => cases h
  | cons a t ih =>
    obtain ⟨a, w⟩ := a
    unfold tabFind at h
    split at h
    next hk =>
      cases h
      exact hk ▸ List.mem_cons_self
    next => exact List.mem_cons_of_mem _ (ih h)

/-- A canonical table finds each of its entries. -/
theorem tabFind_of_mem {α : Type} [DecidableEq α] {d : Nat → α} {t : Tab α} (ht : tabWf d t = true) {e : Nat × α}
    (he : e ∈ t) : tabFind t e.1 = some e.2 := by
  induction t with
  | nil => cases he
  | cons a t ih =>
    obtain ⟨a, w⟩ := a
    simp only [tabWf, Bool.and_eq_true] at ht
    obtain ⟨⟨-, habove⟩, ht⟩ := ht
    rcases List.mem_cons.mp he with rfl | he
    · exact if_pos rfl
    · have hlt : a < e.1 := of_decide_eq_true (List.all_eq_true.mp habove e he)
      exact (if_neg (Nat.ne_of_lt hlt)).trans (ih ht he)

/-! ## The numbers from 0 -/

theorem upto_eq_range' (a n : Nat) : upto a n = List.range' a n := by
  induction n generalizing a with
  | zero => rfl
  | succ n ih => rw [upto, ih, List.range'_succ]

/-- The entries of a list that is numbered from 0. -/
theorem mem_zip_upto {α : Type} {l : List α} {e : Nat × α} : e ∈ (upto 0 l.length).zip l ↔ l[e.1]? = some e.2 := by
  obtain ⟨k, v⟩ := e
  rw [upto_eq_range', List.mem_iff_getElem?]
  constructor
  · rintro ⟨n, hn⟩
    obtain ⟨hk, hv⟩ := List.getElem?_zip_eq_some.mp hn
    obtain ⟨hlt, rfl⟩ := List.getElem?_eq_some_iff.mp hk
    simpa using hv
  · intro hv
    refine ⟨k, List.getElem?_zip_eq_some.mpr ⟨?_, hv⟩⟩
    rw [List.getElem?_range' (List.getElem?_eq_some_iff.mp hv).1]
    simp

/-! ## Numbers in 8-byte places -/

/-- Numbers written into memory from a, each as the 8 bytes at its place. -/
def putRecords (a : Nat) (ws : List (Nat × Nat)) (s : State) : State :=
  ws.foldl (fun s e => s.hbmWrite (a + 8 * e.1) (leBytes e.2 8)) s

theorem putRecords_only (a : Nat) (ws : List (Nat × Nat)) (s : State) :
    putRecords a ws s = { s with hbm := (putRecords a ws s).hbm, poison := (putRecords a ws s).poison } :=
  foldl_keeps (fun t : State => t = { s with hbm := t.hbm, poison := t.poison }) _ ws rfl fun t e ht => by
    rw [ht]
    rfl

theorem hbmRead_hbmWrite_same (s : State) (a : Nat) (bs : List Byte) : (s.hbmWrite a bs).hbmRead a bs.length = bs :=
  cellRead_cellWrite ramBlank s.hbm a bs

theorem hbmRead_congr {s t : State} {a n : Nat}
    (h : ∀ k, a ≤ k → k < a + n → cellGet ramBlank t.hbm k = cellGet ramBlank s.hbm k) :
    t.hbmRead a n = s.hbmRead a n :=
  List.map_congr_left fun k hk => h k ((mem_upto a n k).mp hk).1 ((mem_upto a n k).mp hk).2

/-- A read of bytes that a write does not touch. -/
theorem hbmRead_hbmWrite_apart (s : State) {a b n : Nat} {bs : List Byte} (h : b + n ≤ a ∨ a + bs.length ≤ b) :
    (s.hbmWrite a bs).hbmRead b n = s.hbmRead b n :=
  hbmRead_congr fun k hk hkn => by
    show cellGet ramBlank (cellWrite ramBlank s.hbm a bs) k = _
    rw [cellGet_cellWrite, runByte, if_neg (by omega)]

/-- A place reads the number that every write of the place writes. -/
theorem hbmRead_putRecords_mem (a : Nat) {ws : List (Nat × Nat)} (s : State) {q v : Nat}
    (hsame : ∀ e ∈ ws, e.1 = q → e.2 = v) (hmem : (q, v) ∈ ws ∨ s.hbmRead (a + 8 * q) 8 = leBytes v 8) :
    (putRecords a ws s).hbmRead (a + 8 * q) 8 = leBytes v 8 := by
  induction ws generalizing s with
  | nil => exact hmem.resolve_left List.not_mem_nil
  | cons e ws ih =>
    obtain ⟨he, hws⟩ := List.forall_mem_cons.mp hsame
    refine ih (s.hbmWrite (a + 8 * e.1) (leBytes e.2 8)) hws ?_
    by_cases hq : e.1 = q
    · right
      rw [hq, he hq]
      exact hbmRead_hbmWrite_same s (a + 8 * q) (leBytes v 8)
    · rw [hbmRead_hbmWrite_apart s (by rw [length_leBytes]; omega)]
      exact hmem.imp_left fun h => (List.mem_cons.mp h).resolve_left fun h => hq (by rw [← h])

/-- A byte outside the places written reads as before. -/
theorem hbmRead_putRecords_apart (a : Nat) {ws : List (Nat × Nat)} (s : State) {b : Nat}
    (h : ∀ e ∈ ws, b < a + 8 * e.1 ∨ a + 8 * e.1 + 8 ≤ b) : (putRecords a ws s).hbmRead b 1 = s.hbmRead b 1 := by
  induction ws generalizing s with
  | nil => rfl
  | cons e ws ih =>
    obtain ⟨he, hws⟩ := List.forall_mem_cons.mp h
    refine (ih (s.hbmWrite (a + 8 * e.1) (leBytes e.2 8)) hws).trans ?_
    exact hbmRead_hbmWrite_apart s (by rw [length_leBytes]; omega)

/-! ## The records of an instant in its half of the work area (R203, R213) -/

/-- The records of one key view: a record for each position of the rectangle with its seams. -/
def viewCells (regs : Tab Word) (l : Nat) : Nat := (lyrW regs l + 2 * lyrS regs l) * (lyrH regs l + 2 * lyrS regs l)

theorem viewBytes_eq (regs : Tab Word) (l : Nat) : viewBytes regs l = 8 * viewCells regs l := Nat.mul_assoc ..

/-- The records of key views, each of a number of cells, by their places. -/
def recordWords (cells : Nat) (views : List KeyViewRec) : List (Nat × Nat) :=
  ((upto 0 views.length).zip views).flatMap (fun v => v.2.records.map (fun r => (v.1 * cells + r.1, r.2.getD 0)))

theorem mem_recordWords {cells : Nat} {views : List KeyViewRec} {e : Nat × Nat} :
    e ∈ recordWords cells views ↔ ∃ k v, views[k]? = some v ∧ ∃ r ∈ v.records, (k * cells + r.1, r.2.getD 0) = e := by
  simp only [recordWords, List.mem_flatMap, List.mem_map, mem_zip_upto, Prod.exists]

theorem writeRecords_eq_putRecords {i : Instant} {s : State} {a : Nat} (ha : s.workBase i = some a) (views : List KeyViewRec) :
    writeRecords i views s = putRecords a (recordWords (viewCells i.regs i.layer) views) s := by
  unfold writeRecords putRecords recordWords
  rw [ha]
  simp only [List.foldl_flatMap, List.foldl_map, viewBytes_eq, Nat.mul_add, Nat.add_assoc, Nat.mul_left_comm]

theorem writeRecords_only (i : Instant) (views : List KeyViewRec) (s : State) :
    writeRecords i views s = { s with hbm := (writeRecords i views s).hbm, poison := (writeRecords i views s).poison } := by
  cases ha : s.workBase i with
  | none =>
    unfold writeRecords
    rw [ha]
  | some a =>
    rw [writeRecords_eq_putRecords ha]
    exact putRecords_only a _ s

theorem writeRecords_none {i : Instant} {s : State} (ha : s.workBase i = none) (views : List KeyViewRec) :
    writeRecords i views s = s := by
  unfold writeRecords
  rw [ha]

/-- A table of records is canonical, and its keys are places of the rectangle with its seams. -/
def recordsFit (cells : Nat) (records : Tab (Option Nat)) : Prop :=
  tabWf (fun _ => none) records = true ∧ ∀ r ∈ records, r.1 < cells

section
variable {i : Instant} {views : List KeyViewRec} {s : State} {a : Nat} (ha : s.workBase i = some a)
  (hfit : ∀ v ∈ views, recordsFit (viewCells i.regs i.layer) v.records)
include ha hfit

/-- Each record of a key view is read at its place. -/
theorem hbmRead_writeRecords {k key r : Nat} {v : KeyViewRec} (hv : views[k]? = some v)
    (hr : tabGet none v.records key = some r) :
    (writeRecords i views s).hbmRead (a + k * viewBytes i.regs i.layer + 8 * key) 8 = leBytes r 8 := by
  have hrec : (key, some r) ∈ v.records := by
    unfold tabGet at hr
    cases hf : tabFind v.records key with
    | none => rw [hf] at hr; cases hr
    | some w =>
      rw [hf] at hr
      exact hr ▸ mem_of_tabFind hf
  have hkey := (hfit v (List.mem_of_getElem? hv)).2 _ hrec
  rw [writeRecords_eq_putRecords ha, viewBytes_eq,
    Nat.mul_left_comm k 8, Nat.add_assoc a, ← Nat.mul_add 8]
  refine hbmRead_putRecords_mem a s (fun e he hq => ?_) (.inl (mem_recordWords.mpr ⟨k, v, hv, _, hrec, rfl⟩))
  obtain ⟨k', v', hv', r', hr', rfl⟩ := mem_recordWords.mp he
  obtain ⟨hwf, hlt⟩ := hfit v' (List.mem_of_getElem? hv')
  have hk : k' = k := by
    rw [← mul_add_div_of_lt (hlt r' hr') k', ← mul_add_div_of_lt hkey k]
    exact congrArg (· / _) hq
  subst hk
  have hkeys : r'.1 = key := Nat.add_left_cancel hq
  obtain rfl : v' = v := Option.some.inj (hv'.symm.trans hv)
  have hfound := tabFind_of_mem hwf hrec
  rw [← hkeys, tabFind_of_mem hwf hr'] at hfound
  exact congrArg (·.getD 0) (Option.some.inj hfound)

/-- A byte outside the half reads as before. -/
theorem hbmRead_writeRecords_outside {b : Nat} (hb : b < a ∨ a + views.length * viewBytes i.regs i.layer ≤ b) :
    (writeRecords i views s).hbmRead b 1 = s.hbmRead b 1 := by
  rw [writeRecords_eq_putRecords ha]
  refine hbmRead_putRecords_apart a s fun e he => ?_
  obtain ⟨k, v, hv, r, hr, rfl⟩ := mem_recordWords.mp he
  have hplace := mul_add_lt_mul (List.getElem?_eq_some_iff.mp hv).1 ((hfit v (List.mem_of_getElem? hv)).2 r hr)
  have hbytes : views.length * viewBytes i.regs i.layer = 8 * (views.length * viewCells i.regs i.layer) := by
    rw [viewBytes_eq]
    exact Nat.mul_left_comm ..
  omega

end

/-! ## The conversion of key views (R209 to R213) -/

theorem recordKey_lt {regs : Tab Word} {l x y : Nat} (hx : x < lyrW regs l) (hy : y < lyrH regs l) :
    recordKey regs l x y < viewCells regs l := by
  have hkey : recordKey regs l x y = (y + lyrS regs l) * (lyrW regs l + 2 * lyrS regs l) + (x + lyrS regs l) := by
    unfold recordKey
    dsimp only
    rw [← Int.toNat_natCast ((y + lyrS regs l) * (lyrW regs l + 2 * lyrS regs l) + (x + lyrS regs l))]
    push_cast
    rfl
  rw [hkey, viewCells, Nat.mul_comm (lyrW regs l + _)]
  exact mul_add_lt_mul (by omega) (by omega)

/-- Records whose keys are places of the rectangle with its seams fit, entered one by one. -/
theorem foldl_tabInsert_fit {cells : Nat} {l : List (Nat × Nat)} (hl : ∀ e ∈ l, e.1 < cells) {t : Tab (Option Nat)}
    (ht : recordsFit cells t) : recordsFit cells (l.foldl (fun t e => tabInsert t e.1 (some e.2)) t) := by
  induction l generalizing t with
  | nil => exact ht
  | cons e l ih =>
    obtain ⟨he, hl⟩ := List.forall_mem_cons.mp hl
    obtain ⟨hwf, hlt⟩ := ht
    refine ih hl ⟨tabWf_tabInsert _ t e.1 (some e.2) (by simp) hwf, fun r hr => ?_⟩
    rcases mem_tabInsert hr with rfl | hr
    · exact he
    · exact hlt r hr

/-- The records of a key view of an instant without seams fit its part of the work area. -/
theorem keyView_recordsFit {s : State} {i : Instant} (hedges : seamEdges i.regs i.layer = []) (src k : Nat) :
    recordsFit (viewCells i.regs i.layer) (s.keyView i src k).records := by
  have hseams : ∀ bits, s.seamRecords i src bits k = [] := fun bits => by rw [State.seamRecords, hedges]; rfl
  refine foldl_tabInsert_fit (fun e he => ?_) ⟨rfl, fun _ h => absurd h List.not_mem_nil⟩
  rw [hseams, List.append_nil] at he
  split at he
  · obtain ⟨j, hj, rfl⟩ := List.mem_map.mp he
    have hj : j < lyrH i.regs i.layer * lyrW i.regs i.layer := by
      rw [Nat.mul_comm]
      simpa using ((mem_upto _ _ _).mp hj).2
    obtain ⟨hy, hx⟩ := div_lt_mod_lt_of_lt_mul hj
    exact recordKey_lt hx hy
  · exact absurd he List.not_mem_nil

/-! ## The spread of work items (R60) -/

/-- A list in which every two entries compare, transitively, has a greatest one. -/
theorem exists_greatest {α : Type} {r : α → α → Prop} (total : ∀ a b, r a b ∨ r b a) (trans : ∀ {a b c}, r a b → r b c → r a c)
    {l : List α} (h : l ≠ []) : ∃ a ∈ l, ∀ b ∈ l, r a b := by
  have refl : ∀ a, r a a := fun a => (total a a).elim id id
  induction l with
  | nil => exact absurd rfl h
  | cons x l ih =>
    by_cases hl : l = []
    · subst hl
      exact ⟨x, List.mem_cons_self, fun b hb => List.mem_singleton.mp hb ▸ refl x⟩
    · obtain ⟨m, hm, hmax⟩ := ih hl
      rcases total m x with hmx | hxm
      · exact ⟨m, List.mem_cons_of_mem x hm, List.forall_mem_cons.mpr ⟨hmx, hmax⟩⟩
      · exact ⟨x, List.mem_cons_self, List.forall_mem_cons.mpr ⟨refl x, fun b hb => trans hxm (hmax b hb)⟩⟩

theorem fairer_iff (s : State) (i j : Nat) : s.fairer i j = true ↔
    ((s.block i).given + 1) * (s.setPoint j).2 ≤ ((s.block j).given + 1) * (s.setPoint i).2 := decide_eq_true_iff

theorem fairer_total (s : State) (i j : Nat) : s.fairer i j = true ∨ s.fairer j i = true := by
  rw [fairer_iff, fairer_iff]
  exact Nat.le_total _ _

/-- Shares by clock are compared as fractions, so fairer is transitive. -/
theorem fairer_trans {s : State} {i j k : Nat} (hij : s.fairer i j = true) (hjk : s.fairer j k = true) :
    s.fairer i k = true := by
  rw [fairer_iff] at *
  generalize (s.setPoint i).2 = ci at *
  generalize (s.setPoint j).2 = cj at *
  generalize (s.setPoint k).2 = ck at *
  generalize (s.block i).given + 1 = gi at *
  generalize (s.block k).given + 1 = gk at *
  refine Nat.le_of_mul_le_mul_left ?_ (Nat.succ_pos (s.block j).given)
  calc ((s.block j).given + 1) * (gi * ck) = gi * (((s.block j).given + 1) * ck) := Nat.mul_left_comm ..
    _ ≤ gi * (gk * cj) := Nat.mul_le_mul_left gi hjk
    _ = gk * (gi * cj) := Nat.mul_left_comm ..
    _ ≤ gk * (((s.block j).given + 1) * ci) := Nat.mul_le_mul_left gk hij
    _ = ((s.block j).given + 1) * (gk * ci) := Nat.mul_left_comm ..

/-- Of working blocks, the turn is always some block's: that of the greatest clock for its items with one more. -/
theorem fairest_ne_nil {s : State} {role : Nat} (h : s.workers role ≠ []) : s.fairest role ≠ [] := by
  obtain ⟨k, hk, hmax⟩ := exists_greatest (r := fun i j => s.fairer i j = true) (fairer_total s) fairer_trans h
  exact List.ne_nil_of_mem (List.mem_filter.mpr ⟨hk, List.all_eq_true.mpr hmax⟩)

/-- Only the blocks and the draws of free values differ, and no queue has lost an item. -/
structure OnQueues (s t : State) : Prop where
  rest : t = { s with struct := t.struct, free := t.free }
  kept : ∀ k, ∀ q ∈ (s.block k).queue, q ∈ (t.block k).queue

theorem OnQueues.rfl {s : State} : OnQueues s s := ⟨Eq.refl _, fun _ _ h => h⟩

theorem OnQueues.trans {s t u : State} (h : OnQueues s t) (k : OnQueues t u) : OnQueues s u :=
  ⟨by rw [k.rest, h.rest], fun b q hq => k.kept b q (h.kept b q hq)⟩

theorem OnQueues.workers {s t : State} (h : OnQueues s t) (role : Nat) : t.workers role = s.workers role := by
  rw [h.rest]
  rfl

theorem OnQueues.setBlock {s : State} {k : Nat} {b : BlockState} (h : ∀ q ∈ (s.block k).queue, q ∈ b.queue) :
    OnQueues s (s.setBlock k b) :=
  ⟨Eq.refl _, fun j q hq => by
    rw [State.block_setBlock]
    split
    next hk => exact h q (hk ▸ hq)
    next => exact hq⟩

theorem OnQueues.foldl {α : Type} (f : State → α → State) (l : List α) {s : State} (hf : ∀ u x, OnQueues u (f u x)) :
    OnQueues s (l.foldl f s) := foldl_keeps (OnQueues s) f l .rfl fun u x h => h.trans (hf u x)

theorem enqueueItem_onQueues (role : Nat) (q : QueuedItem) (s : State) : OnQueues s (enqueueItem role q s) := by
  have hdraw : OnQueues s s.draw.2 := ⟨Eq.refl _, fun _ _ h => h⟩
  unfold enqueueItem
  dsimp only
  split
  · exact hdraw.trans (.setBlock fun x hx => List.mem_append_left _ hx)
  · exact hdraw

/-- With a working block of the role, an item is queued at one of them. -/
theorem enqueueItem_queues {role : Nat} {s : State} (h : s.workers role ≠ []) (q : QueuedItem) :
    ∃ k ∈ s.workers role, q ∈ ((enqueueItem role q s).block k).queue := by
  have hturn : s.draw.1 % (s.fairest role).length < (s.fairest role).length :=
    Nat.mod_lt _ (List.length_pos_iff.mpr (fairest_ne_nil h))
  refine ⟨(s.fairest role)[s.draw.1 % (s.fairest role).length], (List.mem_filter.mp (List.getElem_mem hturn)).1, ?_⟩
  unfold enqueueItem
  simp only [List.getElem?_eq_getElem hturn, State.block_setBlock, if_true]
  exact List.mem_append_right _ (List.mem_singleton.mpr rfl)

theorem foldl_enqueueItem_onQueues (role : Nat) (items : List WorkItem) (s : State) :
    OnQueues s (items.foldl (fun s w => enqueueItem role ⟨w, false⟩ s) s) :=
  .foldl _ items fun u w => enqueueItem_onQueues role ⟨w, false⟩ u

theorem foldl_enqueueItem_queues {role : Nat} {s : State} (h : s.workers role ≠ []) {items : List WorkItem} {w : WorkItem}
    (hw : w ∈ items) : ∃ k ∈ s.workers role,
      ∃ q ∈ ((items.foldl (fun s w => enqueueItem role ⟨w, false⟩ s) s).block k).queue, q.item = w := by
  induction items generalizing s with
  | nil => exact absurd hw List.not_mem_nil
  | cons x items ih =>
    rcases List.mem_cons.mp hw with rfl | hw
    · obtain ⟨k, hk, hq⟩ := enqueueItem_queues h ⟨w, false⟩
      exact ⟨k, hk, ⟨w, false⟩, (foldl_enqueueItem_onQueues role items _).kept k _ hq, rfl⟩
    · rw [← (enqueueItem_onQueues role ⟨x, false⟩ s).workers role] at h ⊢
      exact ih h hw

/-- The shares of the blocks of a role begin anew. -/
def shareAnew (role : Nat) (s : State) : State :=
  (s.workers role).foldl (fun s k => s.setBlock k { s.block k with given := 0 }) s

theorem shareAnew_onQueues (role : Nat) (s : State) : OnQueues s (shareAnew role s) :=
  .foldl _ (s.workers role) fun _ _ => .setBlock fun _ h => h

theorem enqueueAll_eq (role : Nat) (items : List WorkItem) (s : State) :
    enqueueAll role items s = items.foldl (fun s w => enqueueItem role ⟨w, false⟩ s) (shareAnew role s) := rfl

theorem enqueueAll_onQueues (role : Nat) (items : List WorkItem) (s : State) : OnQueues s (enqueueAll role items s) :=
  (shareAnew_onQueues role s).trans (foldl_enqueueItem_onQueues role items _)

/-- With a working block of the role, every item waits in the queue of one of them. -/
theorem enqueueAll_queues {role : Nat} {s : State} (h : s.workers role ≠ []) {items : List WorkItem} {w : WorkItem}
    (hw : w ∈ items) : ∃ k ∈ s.workers role, ∃ q ∈ ((enqueueAll role items s).block k).queue, q.item = w := by
  rw [enqueueAll_eq, ← (shareAnew_onQueues role s).workers role] at *
  exact foldl_enqueueItem_queues h hw

/-! ## The start of an instant (R213, R227) -/

theorem CardNotes.workers {s t : State} (h : CardNotes s t) (role : Nat) : t.workers role = s.workers role := by
  refine List.filter_congr fun k hk => ?_
  have hk : k < 64 := by simpa using (mem_upto _ _ _).mp hk
  have hget : ∀ f : Field, evtAddr f.addr = false → ¬ CardAddr f.addr → t.get f = s.get f := fun f he hc => by
    rw [State.get, h.word _ he hc]
    rfl
  have hrole : t.role k = s.role k := by
    refine hget _ (decide_eq_false ?_) ?_ <;> simp only [CardAddr, F.RB_ROLE_ROLE, R.RB_ROLE, R.RAYH_NANCNT] <;> omega
  have hstate : t.blockState k = s.blockState k := by
    refine hget _ (decide_eq_false ?_) ?_ <;>
      simp only [CardAddr, F.RG_BLKSTATE_STATE, R.RG_BLKSTATE, R.RAYH_NANCNT] <;> omega
  rw [hrole, hstate]

theorem countNans_notes (i : Instant) (views : List KeyViewRec) (s : State) : CardNotes s (countNans i views s) := by
  unfold countNans
  split
  · exact .ite (.set _ _ _ (.inr rfl)) .rfl
  · exact .rfl

theorem CardNotes.iteThen {s t u : State} {p : Prop} [Decidable p] (h : CardNotes s t) (k : CardNotes t u) :
    CardNotes s (if p then u else t) := .ite (h.trans k) h

theorem CardNotes.setLast (s : State) {f : Field} {l : Nat} (hl : l < 64) (hf : f.addr = R.CARD_LYR_LAST l) (v : Nat) :
    CardNotes s (s.set f v) := .set s f v (hf ▸ cardAddr_lyrLast hl)

theorem noteViews_notes {i : Instant} (hl : i.layer < 64) (views : List KeyViewRec) (removed : List Nat) (missed : Bool)
    (s : State) : CardNotes s (noteViews i views removed missed s) := by
  have hraise : ∀ (u : State) (src : Nat), src < 1024 → CardNotes u (Machine.raiseWith src 0 (instantDetail i) u) :=
    fun u _ h => .raiseWith u h _ _
  unfold noteViews
  refine .iteThen ?_ ((CardNotes.bumpBy _ hl (by decide) 1).trans (hraise _ 610 (by decide)))
  refine CardNotes.trans ?_ (.setLast _ hl rfl _)
  refine CardNotes.trans ?_ (.setLast _ hl rfl _)
  refine CardNotes.trans ?_ (.setLast _ hl rfl _)
  refine CardNotes.trans ?_ (.setLast _ hl rfl _)
  refine CardNotes.trans ?_ (.setLast _ hl rfl _)
  refine CardNotes.trans ?_ (foldl_keeps (CardNotes _) _ removed .rfl fun u _ h =>
    h.trans ((CardNotes.bumpBy u hl (by decide) 1).trans (hraise _ 614 (by decide))))
  refine CardNotes.trans ?_ (.bumpBy _ hl (by decide) _)
  exact .iteThen (.iteThen .rfl (hraise s 608 (by decide))) (hraise _ 609 (by decide))

/-- An instant as its conversion begins: with the registers of that moment and its half of the work area. -/
def State.begunInstant (s : State) (i : Instant) : Instant :=
  { i with regs := s.regs, half := s.takeHalf i.layer, area := s.halfAddress i.layer (s.takeHalf i.layer) }

/-- The key views of an instant as it converts them. -/
def State.convertedViews (s : State) (i : Instant) : List KeyViewRec :=
  (upto 0 (lyrViews s.regs i.layer)).map (s.keyView (s.begunInstant i) (lyrSrc s i.layer))

/-- The key views that an instant as it starts removes. -/
def State.convertedRemoved (s : State) (i : Instant) : List Nat :=
  removedViews (snapField s.regs (F.CARD_LYR_PARAM_CONC_POLICY i.layer)) (s.convertedViews i)

/-- The counts and events of the conversion of an instant without seams. -/
def noteConversion (i : Instant) (s : State) : State :=
  noteViews (s.begunInstant i) (s.convertedViews i) (s.convertedRemoved i) false
    (countNans (s.begunInstant i) (s.convertedViews i) s)

/-- The state in which the records of a starting instant stand. -/
def recordConversion (i : Instant) (s : State) : State :=
  writeRecords (s.begunInstant i) (s.convertedViews i) (noteConversion i s)

/-- An instant that has started. -/
def State.startedInstant (s : State) (i : Instant) : Instant :=
  { s.begunInstant i with
    views := s.convertedViews i, excluded := s.convertedRemoved i, phase := 1
    todo := upto 0 (tileCount s.regs i.layer), fronts := (recordConversion i s).overlaysOf i.layer
    holds := (recordConversion i s).instantHolds i.layer, withheld := false }

/-- The strips of an instant wait no longer. -/
def takeStrips (i : Instant) (s : State) : State :=
  { s with afl := { s.afl with strips := s.afl.strips.filter (fun r => !(r.layer == i.layer && r.launch == i.launch)) } }

/-- The state in which an instant without seams has started, its tiles not queued yet. -/
def startConversion (i : Instant) (s : State) : State :=
  beginSeamWait i.layer (setInstant (s.startedInstant i) (takeStrips i (recordConversion i s)))

theorem poisonedPicture_of_clean {s : State} (h : s.poison = []) (i : Instant) : s.poisonedPicture i = none := by
  unfold State.poisonedPicture
  split
  · refine List.findSome?_eq_none_iff.mpr fun p _ => ?_
    split
    · simp [State.hbmPoisoned, h]
    · rfl
  · rfl

/-- The start of an instant without seams, with a key view present and no poisoned word. -/
theorem convertInstant_started {i : Instant} {s : State} (hedges : seamEdges s.regs i.layer = []) (hclean : s.poison = [])
    (hpresent : (s.convertedViews i).all (fun v => !v.present) = false) :
    convertInstant i s = enqueueAll 1 ((upto 0 (tileCount s.regs i.layer)).map (fun t => WorkItem.card i.layer i.count t))
      (startConversion i s) := by
  have hpoisoned := poisonedPicture_of_clean hclean (s.begunInstant i)
  have hsend : ∀ u, sendSeams (s.begunInstant i) (lyrSrc s i.layer) (s.convertedViews i) u = u := fun u => by
    unfold sendSeams State.begunInstant
    simp only [hedges, List.foldl_nil]
  unfold State.convertedViews State.begunInstant at *
  unfold convertInstant
  simp only [hedges, List.any_nil, Bool.false_and, Bool.false_eq_true, if_false, hpoisoned, hsend, hpresent,
    Option.isSome_none]
  rfl

theorem instantStart_converts {l : Nat} {i : Instant} {s : State} (hi : s.waitingInstant l = some i)
    (hhalf : s.halfFree l = true) (hready : s.seamReady i = true) : instantStart l s = convertInstant i s := by
  unfold instantStart
  rw [hi]
  exact if_pos ⟨hhalf, hready⟩

/-- While both halves of the work pool are taken, no instant of the layer starts. -/
theorem instantStart_full {l : Nat} {i : Instant} {s : State} (hi : s.waitingInstant l = some i)
    (hhalf : s.halfFree l = false) : instantStart l s = s := by
  unfold instantStart
  rw [hi]
  exact if_neg fun h => absurd (hhalf.symm.trans h.1) (by decide)

theorem noteConversion_notes {i : Instant} (hl : i.layer < 64) (s : State) : CardNotes s (noteConversion i s) :=
  (countNans_notes _ _ s).trans (noteViews_notes hl _ _ _ _)

theorem length_convertedViews (s : State) (i : Instant) : (s.convertedViews i).length = lyrViews s.regs i.layer := by
  rw [State.convertedViews, List.length_map, upto_eq_range', List.length_range']

theorem convertedViews_recordsFit {s : State} {i : Instant} (hedges : seamEdges s.regs i.layer = []) :
    ∀ v ∈ s.convertedViews i, recordsFit (viewCells s.regs i.layer) v.records := fun v hv => by
  obtain ⟨k, -, rfl⟩ := List.mem_map.mp hv
  exact keyView_recordsFit (i := s.begunInstant i) hedges _ k

theorem convertedViews_present {s : State} {i : Instant}
    (h : ∃ k, k < lyrViews s.regs i.layer ∧ (s.keySource { i with regs := s.regs } k).present = true) :
    (s.convertedViews i).all (fun v => !v.present) = false := by
  obtain ⟨k, hk, hpresent⟩ := h
  have hmem : s.keyView (s.begunInstant i) (lyrSrc s i.layer) k ∈ s.convertedViews i :=
    List.mem_map.mpr ⟨k, (mem_upto _ _ _).mpr (by omega), rfl⟩
  exact List.all_eq_false.mpr ⟨_, hmem, Bool.not_eq_true _ ▸ congrArg not hpresent⟩

/-- Where the records of an instant without seams stand, each byte of memory that they leave, and memory without a half. -/
theorem recordConversion_memory {i : Instant} (hl : i.layer < 64) {s : State} (hedges : seamEdges s.regs i.layer = []) :
    (∀ w, s.workBase (s.begunInstant i) = some w →
      (∀ k v key r, (s.convertedViews i)[k]? = some v → tabGet none v.records key = some r →
        (recordConversion i s).hbmRead (w + k * viewBytes s.regs i.layer + 8 * key) 8 = leBytes r 8) ∧
      (∀ a, a < w ∨ w + halfBytes s.regs i.layer ≤ a → (recordConversion i s).hbmRead a 1 = s.hbmRead a 1)) ∧
    (s.workBase (s.begunInstant i) = none → (recordConversion i s).hbm = s.hbm) := by
  have hnotes := (noteConversion_notes hl s).rest
  have hbase : (noteConversion i s).workBase (s.begunInstant i) = s.workBase (s.begunInstant i) := by
    rw [hnotes]
    rfl
  have hfit := convertedViews_recordsFit hedges
  rw [← hbase]
  refine ⟨fun w hw => ⟨fun k v key r hv hr => hbmRead_writeRecords hw hfit hv hr, fun a ha => ?_⟩, fun hw => ?_⟩
  · rw [halfBytes, ← length_convertedViews] at ha
    refine (hbmRead_writeRecords_outside hw hfit ha).trans ?_
    rw [hnotes]
    rfl
  · rw [recordConversion, writeRecords_none hw, hnotes]

/-- What the start of an instant changes before its tiles are queued: the notes of carding, the bytes of its records, the
records of instants and the strips that wait. -/
theorem startConversion_only (i : Instant) (s : State) :
    startConversion i s = { noteConversion i s with
      hbm := (recordConversion i s).hbm, poison := (recordConversion i s).poison
      card := (startConversion i s).card, afl := (startConversion i s).afl } := by
  have hrecords : recordConversion i s = { noteConversion i s with
      hbm := (recordConversion i s).hbm, poison := (recordConversion i s).poison } := writeRecords_only _ _ _
  have hcard : OnCard (takeStrips i (recordConversion i s)) (startConversion i s) :=
    (setInstant_onCard _ _).trans (beginSeamWait_onCard i.layer _)
  generalize recordConversion i s = u at *
  generalize startConversion i s = t at *
  generalize noteConversion i s = n at *
  rw [hcard, hrecords]
  rfl

theorem soleInstant_startConversion {i : Instant} (hl : i.layer < 64) {s : State} (hi : i ∈ s.card.instants) :
    (startConversion i s).soleInstant (s.startedInstant i) := by
  have hmem : i ∈ (takeStrips i (recordConversion i s)).card.instants := by
    show i ∈ (recordConversion i s).card.instants
    rw [recordConversion, writeRecords_only, (noteConversion_notes hl s).rest]
    exact hi
  exact soleInstant_beginSeamWait (soleInstant_setInstant (i := i) (j := s.startedInstant i) hmem rfl rfl)
    Nat.one_ne_zero i.layer

theorem workers_startConversion {i : Instant} (hl : i.layer < 64) (s : State) (role : Nat) :
    (startConversion i s).workers role = s.workers role := by
  rw [← (noteConversion_notes hl s).workers role, startConversion_only]
  rfl

/-- R213, R227. -/
theorem instantStartQueuesTiles : Claims.InstantStartQueuesTiles := by
  intro l i s hlive hi
  have hexec : exec (.instantStart l) s = .next (instantStart l.val s) := whenLive_next _ _ hlive
  refine ⟨fun hhalf hready hedges hclean hpresent => ⟨_, hexec, ?_⟩,
    fun hfull => by rw [hexec, instantStart_full hi hfull]⟩
  rw [instantStart_converts hi hhalf hready]
  obtain ⟨hmem, hlayer, -⟩ := mem_of_waitingInstant hi
  have hl : i.layer < 64 := hlayer ▸ l.isLt
  rw [← hlayer] at hedges hpresent ⊢
  rw [convertInstant_started hedges hclean (convertedViews_present hpresent)]
  have hqueue := fun h n hn => enqueueAll_queues (role := 1) (s := startConversion i s) h
    (List.mem_map_of_mem (f := fun t => WorkItem.card i.layer i.count t) ((mem_upto 0 (tileCount s.regs i.layer) n).mpr hn))
  rw [workers_startConversion hl] at hqueue
  have hrest := (enqueueAll_onQueues 1 ((upto 0 (tileCount s.regs i.layer)).map (fun t => WorkItem.card i.layer i.count t))
    (startConversion i s)).rest
  generalize enqueueAll 1 _ (startConversion i s) = t at hrest hqueue
  have hcard : t.card = (startConversion i s).card := by rw [hrest]
  have hsame : t = { s with
      regs := t.regs, evt := t.evt, card := t.card, afl := t.afl, hbm := (recordConversion i s).hbm, poison := t.poison
      struct := t.struct, free := t.free } := by
    rw [hrest, startConversion_only, (noteConversion_notes hl s).rest]
  have hread : ∀ a n, t.hbmRead a n = (recordConversion i s).hbmRead a n := fun a n => by rw [hsame]; rfl
  obtain ⟨hhalf, hnone⟩ := recordConversion_memory hl hedges
  refine ⟨⟨s.startedInstant i, hcard ▸ (soleInstant_startConversion hl hmem).1, rfl, rfl, rfl, rfl, rfl,
    length_convertedViews s i, rfl, fun w hw => ?_, fun hw => ?_⟩, fun h n hn => hqueue h n (by omega), ?_⟩
  · simp only [hread]
    exact hhalf w hw
  · rw [hsame]
    exact hnone hw
  · rw [hsame]
    exact ⟨rfl, rfl, rfl, rfl, rfl⟩

/-- Settles O37: the start of an instant, a tile that completes and a seam wait that runs out, each by the equation of its
command and by what its parts leave. -/
theorem instantsCardTiles : Obligations.InstantsCardTiles :=
  ⟨instantStartQueuesTiles, tilesCompleteInstants, seamWaitRunsOut⟩

end Sys2Proof.Machine
end

section
/-! SUPPORT. The statement of spec/07_conformer.md about host maps, the colour set and the staging pool: what each command's
rule answers and leaves (R245, R246, R255 to R257, R259). -/

namespace Sys2Proof.Machine

/-! ## The commands of the conformer as requests -/

/-- A permitted request answers the status that its rule gives. -/
theorem whenLive_answers {who : Requester} {addr : Nat} {f : State → Res} {s t : State} {st : Status}
    (h : Permitted who addr s) (hr : f s = (st, t)) :
    whenLive s (request who addr f) = .next (t.emit (.status who addr st)) := by
  rw [whenLive_request h, hr]

/-! ## What words in force, a conformer part replaced and a write of memory leave -/

/-- Only words in force differ. -/
def OnRegs (s t : State) : Prop := t = { s with regs := t.regs }

theorem OnRegs.trans {s t u : State} (h : OnRegs s t) (k : OnRegs t u) : OnRegs s u := by
  unfold OnRegs at *
  rw [h] at k
  exact k

theorem OnRegs.set (s : State) (f : Field) (v : Nat) : OnRegs s (s.set f v) := Eq.refl _

theorem OnRegs.pool {s t : State} (h : OnRegs s t) (id : Nat) : t.pool id = s.pool id := by
  rw [h]
  rfl

theorem OnRegs.hbmRead {s t : State} (h : OnRegs s t) (a n : Nat) : t.hbmRead a n = s.hbmRead a n := by
  rw [h]
  rfl

theorem OnRegs.conf {s t : State} (h : OnRegs s t) : t.conf = s.conf := by rw [h]

/-- A write of memory after words in force and the conformer's part, and the answer o. -/
theorem OnRegs.frame_hbmWrite {s t : State} (h : OnRegs s t) (c : ConfState) (a : Nat) (bs : List Byte) (o : Output) :
    let u := ((t.withConf c).hbmWrite a bs).emit o
    u = { s with regs := u.regs, conf := c, hbm := u.hbm, poison := u.poison, out := o :: s.out } := by
  rw [h]
  rfl

@[simp] theorem State.pool_withConf (s : State) (c : ConfState) (id : Nat) : (s.withConf c).pool id = s.pool id := rfl

@[simp] theorem State.word_withConf (s : State) (c : ConfState) (a : Nat) : (s.withConf c).word a = s.word a := rfl

@[simp] theorem State.get_withConf (s : State) (c : ConfState) (f : Field) : (s.withConf c).get f = s.get f := rfl

@[simp] theorem State.hbmRead_withConf (s : State) (c : ConfState) (a n : Nat) : (s.withConf c).hbmRead a n = s.hbmRead a n :=
  rfl

@[simp] theorem State.geom_withConf (s : State) (c : ConfState) : (s.withConf c).geom = s.geom := rfl

@[simp] theorem State.stagingPool_withConf (s : State) (c : ConfState) : (s.withConf c).stagingPool = s.stagingPool := rfl

@[simp] theorem State.word_hbmWrite (s : State) (a : Nat) (bs : List Byte) (b : Nat) :
    (s.hbmWrite a bs).word b = s.word b := rfl

@[simp] theorem State.get_hbmWrite (s : State) (a : Nat) (bs : List Byte) (f : Field) :
    (s.hbmWrite a bs).get f = s.get f := rfl

@[simp] theorem State.hbmRead_emit (s : State) (o : Output) (a n : Nat) : (s.emit o).hbmRead a n = s.hbmRead a n := rfl

/-! ## The staging pool and its copies of the map (R257) -/

/-- The descriptor in force is told by the words of GEOM_W0 to GEOM_W15. -/
theorem State.geom_set (s : State) {f : Field} (v : Nat) (h : f.addr < R.GEOM_W 0 ∨ R.GEOM_W 15 < f.addr) :
    (s.set f v).geom = s.geom := by
  have hwords : (s.set f v).geomBytes = s.geomBytes := by
    unfold State.geomBytes
    rw [List.flatMap_def, List.flatMap_def, List.map_congr_left fun n hn => ?_]
    have hn := (mem_upto 0 16 n).mp hn
    rw [State.word_set_ne]
    simp only [R.GEOM_W] at h ⊢
    omega
  rw [State.geom, hwords]
  rfl

/-- The staging pool in force is told by POOL_ID of CONF_STAGE. -/
theorem State.stagingPool_set (s : State) {f : Field} (v : Nat) (h : f.addr ≠ R.CONF_STAGE) :
    (s.set f v).stagingPool = s.stagingPool := by
  rw [State.stagingPool, State.get_set_addr s f _ v h]
  rfl

theorem stagingPool_of_pool {s : State} {p : PoolRec} (h : s.pool (s.get F.CONF_STAGE_POOL_ID) = some p)
    (hk : p.kind = 3) : s.stagingPool = some p := by
  rw [State.stagingPool, h, Option.filter_some, hk]
  rfl

theorem pool_id {s : State} {id : Nat} {p : PoolRec} (h : s.pool id = some p) : p.id = id := by
  simpa using List.find?_some h

/-- A copy of the map in the staging pool, when the map fits the units of a copy. -/
theorem writeMapCopy_eq {s : State} {p : PoolRec} {bs : List Byte} (hp : s.stagingPool = some p)
    (hfits : bs.length ≤ mapUnits s.geom * 2097152) (copy : Nat) :
    writeMapCopy copy bs s = s.hbmWrite (poolBase p + copy * mapUnits s.geom * 2097152) bs := by
  rw [writeMapCopy, hp, List.take_of_length_le hfits]
  rfl

theorem length_mapImage (g : Geom) (map : Tab Nat) : (mapImage g map).length = mapBytes g := by
  have hentries : ∀ n a, ((upto a n).flatMap (fun i => leBytes (tabGet 0 map i) 8)).length = 8 * n := fun n => by
    induction n with
    | zero => exact fun _ => rfl
    | succ n ih =>
      intro a
      rw [upto, List.flatMap_cons, List.length_append, length_leBytes, ih]
      omega
  simp only [mapImage, mapBytes, List.length_append, length_leBytes, hentries, Nat.mul_assoc]

theorem mapBytes_le_mapUnits (g : Geom) : mapBytes g ≤ mapUnits g * 2097152 := by
  unfold mapUnits mapBytes ceilDiv
  omega

/-- Memory after a write away from where it wrote. -/
theorem cellGet_hbmWrite_apart (s : State) {a b : Nat} {bs : List Byte} (h : b < a ∨ a + bs.length ≤ b) :
    cellGet ramBlank (s.hbmWrite a bs).hbm b = cellGet ramBlank s.hbm b := by
  show cellGet ramBlank (cellWrite ramBlank s.hbm a bs) b = _
  rw [cellGet_cellWrite, runByte, if_neg (by omega)]

/-! ## The fields of the map and of the staging pool -/

theorem mapPending_legal : F.CONF_MAPSTATUS_PENDING.legal := ⟨by decide, by decide⟩

theorem mapReady_legal : F.CONF_MAPSTATUS_READY.legal := ⟨by decide, by decide⟩

theorem mapErr_legal : F.CONF_MAPSTATUS_ERR.legal := ⟨by decide, by decide⟩

theorem mapEntry_legal : F.CONF_MAPENTRY_ENTRY.legal := ⟨by decide, by decide⟩

theorem colPending_legal : F.CONF_COLSTATUS_PENDING.legal := ⟨by decide, by decide⟩

theorem stagePool_legal : F.CONF_STAGE_POOL_ID.legal := ⟨by decide, by decide⟩

theorem stageFrames_legal : F.CONF_STAGE_FRAMES.legal := ⟨by decide, by decide⟩

theorem framesInForce_legal : F.CONF_FRAME_FRAMES_IN_FORCE.legal := ⟨by decide, by decide⟩

/-! ## ARM of a host map (R245 steps 1 and 2, R246) -/

/-- The state in which the bytes of a map are in check. -/
def loadMap (bs : List Byte) (s : State) : State :=
  (s.set F.CONF_MAPSTATUS_PENDING 1).withConf { s.conf with load := some ⟨bs, 0, false⟩ }

theorem mapArm_pending {s : State} (h : s.flag F.CONF_MAPSTATUS_PENDING = true) : mapArm s = (.window, s) := if_pos h

theorem mapArm_copies {s : State} {bs : List Byte} {p : PoolRec} (hpend : s.flag F.CONF_MAPSTATUS_PENDING = false)
    (hplain : s.get F.CONF_MAPSRC_FULLER = 0) (hsrc : s.mapSource = some (.ok bs)) (hp : s.stagingPool = some p)
    (hfits : bs.length ≤ mapUnits s.geom * 2097152) :
    mapArm s = okay ((loadMap bs s).hbmWrite (poolBase p + (1 - s.conf.mapCopy) * mapUnits s.geom * 2097152) bs) := by
  have hgeom : (loadMap bs s).geom = s.geom := by rw [loadMap, State.geom_withConf, State.geom_set _ _ (by decide)]
  have hpool : (loadMap bs s).stagingPool = some p := by
    rw [loadMap, State.stagingPool_withConf, State.stagingPool_set _ _ (by decide), hp]
  have hcopy := writeMapCopy_eq hpool (by rw [hgeom]; exact hfits) (1 - s.conf.mapCopy)
  rw [hgeom] at hcopy
  unfold mapArm
  simp only [hpend, hplain, hsrc, Bool.false_eq_true, if_false, Nat.zero_ne_one, false_and]
  exact congrArg okay hcopy

theorem mapArm_noSource {s : State} (hpend : s.flag F.CONF_MAPSTATUS_PENDING = false) (hsrc : s.mapSource = none) :
    mapArm s = okay (mapReject 1 0 (s.set F.CONF_MAPSTATUS_PENDING 1)) := by
  unfold mapArm
  simp only [hpend, hsrc, Bool.false_eq_true, if_false, Option.isSome_none, and_false]

/-- R245, R246. -/
theorem mapArm_completes {who : Requester} {s : State} {bs : List Byte} {p : PoolRec}
    (h : Permitted who R.CONF_MAPCTRL s) (hpend : s.flag F.CONF_MAPSTATUS_PENDING = false)
    (hplain : s.get F.CONF_MAPSRC_FULLER = 0) (hsrc : s.mapSource = some (.ok bs)) (hp : s.stagingPool = some p)
    (hfits : bs.length ≤ mapUnits s.geom * 2097152) :
    let base := poolBase p + (1 - s.conf.mapCopy) * mapUnits s.geom * 2097152
    Completes (exec (.mapArm who) s) (fun t =>
      t.get F.CONF_MAPSTATUS_PENDING = 1 ∧ t.conf = { s.conf with load := some ⟨bs, 0, false⟩ } ∧
      t.hbmRead base bs.length = bs ∧
      (∀ a, a < base ∨ base + bs.length ≤ a → cellGet ramBlank t.hbm a = cellGet ramBlank s.hbm a) ∧
      (∀ a, a ≠ R.CONF_MAPSTATUS → t.word a = s.word a) ∧
      t = { s with regs := t.regs, conf := t.conf, hbm := t.hbm, poison := t.poison,
                   out := .status who R.CONF_MAPCTRL .ok :: s.out }) := by
  intro base
  have hr : mapArm s = okay ((loadMap bs s).hbmWrite base bs) := mapArm_copies hpend hplain hsrc hp hfits
  clear_value base
  refine ⟨_, whenLive_answers h hr, ?_⟩
  simp only [State.get_emit, State.word_emit, State.hbmRead_emit, State.get_hbmWrite, State.word_hbmWrite]
  refine ⟨?_, rfl, hbmRead_hbmWrite_same (loadMap bs s) base bs, fun a ha => cellGet_hbmWrite_apart (loadMap bs s) ha,
    fun a ha => ?_, (OnRegs.set s F.CONF_MAPSTATUS_PENDING 1).frame_hbmWrite _ base bs _⟩
  · rw [loadMap, State.get_withConf, State.get_set_same _ _ _ mapPending_legal]
    rfl
  · rw [loadMap, State.word_withConf, State.word_set_ne _ _ _ ha.symm]

/-! ## A host map that fails (R245 step 5) -/

/-- What a map that fails shows, before MAP_REJECT is raised. -/
def showReject (code entry : Nat) (s : State) : State :=
  ((((s.withConf { s.conf with load := none }).set F.CONF_MAPSTATUS_PENDING 0).set F.CONF_MAPSTATUS_READY 0).set
    F.CONF_MAPSTATUS_ERR code).set F.CONF_MAPENTRY_ENTRY (if code = 6 ∨ code = 7 then entry else 0)

/-- The fields that a map that fails shows. -/
theorem get_showReject {code : Nat} (h : code < 16) (entry : Nat) (s : State) :
    (showReject code entry s).get F.CONF_MAPSTATUS_PENDING = 0 ∧ (showReject code entry s).get F.CONF_MAPSTATUS_READY = 0 ∧
    (showReject code entry s).get F.CONF_MAPSTATUS_ERR = code ∧
    (showReject code entry s).get F.CONF_MAPENTRY_ENTRY = if code = 6 ∨ code = 7 then entry % 2 ^ 24 else 0 := by
  unfold showReject
  generalize s.withConf { s.conf with load := none } = u
  refine ⟨?_, ?_, ?_, ?_⟩
  · rw [State.get_set_addr _ _ _ _ (by decide), State.get_set_other _ _ _ _ mapErr_legal (by decide),
      State.get_set_other _ _ _ _ mapReady_legal (by decide), State.get_set_same _ _ _ mapPending_legal, Nat.zero_mod]
  · rw [State.get_set_addr _ _ _ _ (by decide), State.get_set_other _ _ _ _ mapErr_legal (by decide),
      State.get_set_same _ _ _ mapReady_legal, Nat.zero_mod]
  · rw [State.get_set_addr _ _ _ _ (by decide), State.get_set_same _ _ _ mapErr_legal]
    exact Nat.mod_eq_of_lt h
  · rw [State.get_set_same _ _ _ mapEntry_legal, apply_ite (· % _), Nat.zero_mod]
    rfl

/-- R245 step 5. -/
theorem mapReject_shows {code : Nat} (h : code < 16) (entry : Nat) (s : State) :
    let t := mapReject code entry s
    t.get F.CONF_MAPSTATUS_PENDING = 0 ∧ t.get F.CONF_MAPSTATUS_READY = 0 ∧ t.get F.CONF_MAPSTATUS_ERR = code ∧
    t.get F.CONF_MAPENTRY_ENTRY = (if code = 6 ∨ code = 7 then entry % 2 ^ 24 else 0) ∧ t.isPending 577 = true ∧
    t.conf = { s.conf with load := none } ∧ t.out = s.out ∧ SameMemory s t := by
  have ht : mapReject code entry s = raise 577 (showReject code entry s) := rfl
  have hevt := evtOnly_raise 577 (showReject code entry s) (by decide)
  obtain ⟨hpending, hready, herr, hentry⟩ := get_showReject h entry s
  rw [ht]
  refine ⟨(hevt.get _ (by decide)).trans hpending, (hevt.get _ (by decide)).trans hready,
    (hevt.get _ (by decide)).trans herr, (hevt.get _ (by decide)).trans hentry, ?_, ?_, ?_, ?_⟩
  · rw [isPending_raise _ _ _ (by decide) (by decide)]
    rfl
  · rw [hevt.rest]
    rfl
  · rw [hevt.rest]
    rfl
  · rw [hevt.rest]
    exact ⟨fun _ => rfl, rfl, fun _ => rfl, fun _ => rfl⟩

/-- R245, R246: a source that is not there fails the map with code 0x1 at ARM. -/
theorem mapArm_rejects {who : Requester} {s : State} (h : Permitted who R.CONF_MAPCTRL s)
    (hpend : s.flag F.CONF_MAPSTATUS_PENDING = false) (hsrc : s.mapSource = none) :
    Completes (exec (.mapArm who) s) (fun t =>
      t.get F.CONF_MAPSTATUS_ERR = 1 ∧ t.get F.CONF_MAPSTATUS_PENDING = 0 ∧ t.get F.CONF_MAPENTRY_ENTRY = 0 ∧
      t.isPending 577 = true ∧ t.conf = { s.conf with load := none } ∧
      t.out = .status who R.CONF_MAPCTRL .ok :: s.out ∧ SameMemory s t) := by
  refine ⟨_, whenLive_answers h (mapArm_noSource hpend hsrc), ?_⟩
  obtain ⟨hpending, -, herr, hentry, hraised, hconf, hout, hmem⟩ :=
    mapReject_shows (by decide : 1 < 16) 0 (s.set F.CONF_MAPSTATUS_PENDING 1)
  exact ⟨herr, hpending, hentry, hraised, hconf, congrArg (_ :: ·) hout, ⟨hmem.hbm, hmem.poison, hmem.flash, hmem.sram⟩⟩

/-! ## The end of the checks (R245 steps 3 to 5) -/

theorem mapHeaderCheck_le (g : Geom) (bs : List Byte) : (mapHeaderCheck g bs).1 ≤ 6 := by
  unfold mapHeaderCheck
  split
  · decide
  split
  · decide
  split
  · decide
  split <;> simp

theorem mapCheck_le (g : Geom) (stepXY stepRS : Nat) (bs : List Byte) : (mapCheck g stepXY stepRS bs).1 ≤ 7 := by
  unfold mapCheck
  split
  · split <;> simp
  · exact Nat.le_succ_of_le (mapHeaderCheck_le g bs)

/-- A map that passes its checks is READY. -/
def showReady (s : State) : State :=
  ((s.set F.CONF_MAPSTATUS_READY 1).set F.CONF_MAPSTATUS_ERR 0).set F.CONF_MAPENTRY_ENTRY 0

theorem showReady_onRegs (s : State) : OnRegs s (showReady s) := ((OnRegs.set ..).trans (.set ..)).trans (.set ..)

theorem mapCheckDone_eq {s : State} {l : MapLoad} (hload : s.conf.load = some l)
    (hready : s.flag F.CONF_MAPSTATUS_READY = false) (hearly : l.early = 0) :
    mapCheckDone s =
      let r := mapCheck s.geom (s.get F.SIZ_LIMIT_STEP_DXY) (s.get F.SIZ_LIMIT_STEP_RS) l.bytes
      if r.1 = 0 then showReady s else mapReject r.1 r.2 s := by
  unfold mapCheckDone
  simp only [hload, hready, hearly, Bool.false_eq_true, if_false, ne_eq, not_true_eq_false]
  split
  next hr => rw [hr]; rfl
  next c e hc hr =>
    rw [hr]
    exact (if_neg fun h => hc h).symm

/-- R245 step 4. -/
theorem mapCheckDone_ready {s : State} {l : MapLoad} (hlive : live s = true) (hload : s.conf.load = some l)
    (hready : s.flag F.CONF_MAPSTATUS_READY = false) (hearly : l.early = 0)
    (hpass : (mapCheck s.geom (s.get F.SIZ_LIMIT_STEP_DXY) (s.get F.SIZ_LIMIT_STEP_RS) l.bytes).1 = 0) :
    Completes (exec .mapCheckDone s) (fun t =>
      t.get F.CONF_MAPSTATUS_READY = 1 ∧ t.get F.CONF_MAPSTATUS_ERR = 0 ∧ t.get F.CONF_MAPENTRY_ENTRY = 0 ∧
      t = { s with regs := t.regs } ∧
      ∀ a, a ≠ R.CONF_MAPSTATUS → a ≠ R.CONF_MAPENTRY → t.word a = s.word a) := by
  have hdone : mapCheckDone s = showReady s := by rw [mapCheckDone_eq hload hready hearly, if_pos hpass]
  refine ⟨showReady s, (whenLive_next _ _ hlive).trans (congrArg _ hdone), ?_⟩
  refine ⟨?_, ?_, ?_, showReady_onRegs s, fun a hs he => ?_⟩ <;> unfold showReady
  · rw [State.get_set_addr _ _ _ _ (by decide), State.get_set_other _ _ _ _ mapErr_legal (by decide),
      State.get_set_same _ _ _ mapReady_legal]
    rfl
  · rw [State.get_set_addr _ _ _ _ (by decide), State.get_set_same _ _ _ mapErr_legal, Nat.zero_mod]
  · rw [State.get_set_same _ _ _ mapEntry_legal, Nat.zero_mod]
  · rw [State.word_set_ne _ _ _ he.symm, State.word_set_ne _ _ _ hs.symm, State.word_set_ne _ _ _ hs.symm]

/-- R245 step 5. -/
theorem mapCheckDone_rejects {s : State} {l : MapLoad} (hlive : live s = true) (hload : s.conf.load = some l)
    (hready : s.flag F.CONF_MAPSTATUS_READY = false) (hearly : l.early = 0) :
    let r := mapCheck s.geom (s.get F.SIZ_LIMIT_STEP_DXY) (s.get F.SIZ_LIMIT_STEP_RS) l.bytes
    r.1 ≠ 0 → Completes (exec .mapCheckDone s) (fun t =>
      t.get F.CONF_MAPSTATUS_PENDING = 0 ∧ t.get F.CONF_MAPSTATUS_READY = 0 ∧ t.get F.CONF_MAPSTATUS_ERR = r.1 ∧
      t.get F.CONF_MAPENTRY_ENTRY = (if r.1 = 6 ∨ r.1 = 7 then r.2 % 2 ^ 24 else 0) ∧ t.isPending 577 = true ∧
      t.conf = { s.conf with load := none } ∧ SameMemory s t) := by
  intro r hfail
  have hdone : mapCheckDone s = mapReject r.1 r.2 s := by
    rw [mapCheckDone_eq hload hready hearly]
    exact if_neg hfail
  refine ⟨mapReject r.1 r.2 s, (whenLive_next _ _ hlive).trans (congrArg _ hdone), ?_⟩
  have hcode : r.1 ≤ 7 := mapCheck_le ..
  obtain ⟨hpending, hready, herr, hentry, hraised, hconf, -, hmem⟩ :=
    mapReject_shows (Nat.lt_of_le_of_lt hcode (by decide)) r.2 s
  exact ⟨hpending, hready, herr, hentry, hraised, hconf, hmem⟩

/-! ## DISCARD of a host map (R246) -/

theorem mapDiscard_completes {who : Requester} {s : State} (h : Permitted who R.CONF_MAPCTRL s) :
    Completes (exec (.mapDiscard who) s) (fun t =>
      t.get F.CONF_MAPSTATUS_PENDING = 0 ∧ t.get F.CONF_MAPSTATUS_READY = 0 ∧
      t.get F.CONF_MAPSTATUS_ERR = s.get F.CONF_MAPSTATUS_ERR ∧
      t = { s with regs := t.regs, conf := { s.conf with load := none }, out := .status who R.CONF_MAPCTRL .ok :: s.out } ∧
      ∀ a, a ≠ R.CONF_MAPSTATUS → t.word a = s.word a) := by
  refine ⟨(mapDrop s).emit _, whenLive_answers h rfl, ?_⟩
  simp only [State.get_emit, State.word_emit, mapDrop]
  refine ⟨?_, ?_, ?_, rfl, fun a ha => ?_⟩
  · rw [State.get_set_other _ _ _ _ mapReady_legal (by decide), State.get_set_same _ _ _ mapPending_legal, Nat.zero_mod]
  · rw [State.get_set_same _ _ _ mapReady_legal, Nat.zero_mod]
  · rw [State.get_set_other _ _ _ _ mapReady_legal (by decide), State.get_set_other _ _ _ _ mapPending_legal (by decide)]
    rfl
  · rw [State.word_set_ne _ _ _ ha.symm, State.word_set_ne _ _ _ ha.symm]
    rfl

/-- R245, R246. -/
theorem hostMapsAreChecked : Claims.HostMapsAreChecked := fun _ _ _ _ _ =>
  ⟨fun h hpend => ⟨mapArm_completes h hpend, mapArm_rejects h hpend⟩,
    fun h hpend => whenLive_answers h (mapArm_pending hpend),
    fun hlive hload hready hearly =>
      ⟨mapCheckDone_ready hlive hload hready hearly, mapCheckDone_rejects hlive hload hready hearly⟩,
    mapDiscard_completes⟩

/-! ## The colour set (R255, R256) -/

/-- Staging the word that is next leaves what is next. -/
theorem State.nextWord_stage_nextWord (s : State) (a b : Nat) : (s.stage a (s.nextWord a)).nextWord b = s.nextWord b := by
  rw [State.nextWord, State.stagedWord_stage]
  split
  next h => rw [← h]; rfl
  next => rfl

/-- Words staged one by one, each as it is next. -/
theorem stagedWord_foldl_stage (addr : Nat → Nat) (ns : List Nat) (s : State) (a : Nat) :
    (ns.foldl (fun s n => s.stage (addr n) (s.nextWord (addr n))) s).stagedWord a =
      if a ∈ ns.map addr then some (s.nextWord a) else s.stagedWord a := by
  induction ns generalizing s with
  | nil => rfl
  | cons n ns ih =>
    rw [List.foldl_cons, ih, State.nextWord_stage_nextWord, State.stagedWord_stage, List.map_cons]
    by_cases htail : a ∈ ns.map addr
    · simp [htail]
    · by_cases hhead : addr n = a
      · simp [hhead]
      · simp [htail, hhead, Ne.symm hhead]

theorem mem_matrixAddrs (a : Nat) :
    a ∈ (upto 0 5).map R.CONF_MATRIX ↔ R.CONF_MATRIX 0 ≤ a ∧ a ≤ R.CONF_MATRIX 4 ∧ a % 4 = 0 := by
  simp only [List.mem_map, mem_upto, R.CONF_MATRIX]
  constructor
  · rintro ⟨n, hn, rfl⟩
    omega
  · rintro ⟨hlo, hhi, hmod⟩
    exact ⟨(a - 0x400008) / 4, by omega, by omega⟩

theorem stagedWord_stageMatrix (s : State) (a : Nat) :
    (stageMatrix s).stagedWord a =
      if R.CONF_MATRIX 0 ≤ a ∧ a ≤ R.CONF_MATRIX 4 ∧ a % 4 = 0 then some (s.nextWord a) else s.stagedWord a := by
  simp only [← mem_matrixAddrs]
  exact stagedWord_foldl_stage R.CONF_MATRIX (upto 0 5) s a

theorem stageMatrix_only (s : State) : stageMatrix s = { s with staged := (stageMatrix s).staged } :=
  foldl_keeps (fun t : State => t = { s with staged := t.staged }) _ _ rfl fun t n ht => by
    rw [ht]
    rfl

theorem colourArm_pending {s : State} (h : s.flag F.CONF_COLSTATUS_PENDING = true) : colourArm s = (.window, s) := if_pos h

theorem colourArm_stages {s : State} (h : s.flag F.CONF_COLSTATUS_PENDING = false) :
    colourArm s = okay ((stageMatrix s).set F.CONF_COLSTATUS_PENDING 1) := by
  unfold colourArm
  rw [if_neg (by simp [h])]

/-- R255, R256. -/
theorem colourArm_completes {who : Requester} {s : State} (h : Permitted who R.CONF_COLCTRL s)
    (hpend : s.flag F.CONF_COLSTATUS_PENDING = false) :
    Completes (exec (.colourArm who) s) (fun t =>
      t.get F.CONF_COLSTATUS_PENDING = 1 ∧ t.get F.CONF_COLSTATUS_TF_IN_FORCE = s.get F.CONF_COLSTATUS_TF_IN_FORCE ∧
      (∀ a, t.stagedWord a = if R.CONF_MATRIX 0 ≤ a ∧ a ≤ R.CONF_MATRIX 4 ∧ a % 4 = 0 then some (s.nextWord a)
        else s.stagedWord a) ∧
      t = { s with regs := t.regs, staged := t.staged, out := .status who R.CONF_COLCTRL .ok :: s.out } ∧
      ∀ a, a ≠ R.CONF_COLSTATUS → t.word a = s.word a) := by
  refine ⟨_, whenLive_answers h (colourArm_stages hpend), ?_⟩
  have hword : ∀ a, (stageMatrix s).word a = s.word a := fun a => by
    rw [stageMatrix_only]
    rfl
  simp only [State.get_emit, State.word_emit, State.stagedWord_emit, State.stagedWord_set]
  refine ⟨State.get_set_same _ _ 1 colPending_legal, ?_, stagedWord_stageMatrix s, ?_, fun a ha => ?_⟩
  · rw [State.get_set_other _ _ _ _ colPending_legal (by decide), State.get, hword]
    rfl
  · rw [stageMatrix_only]
    rfl
  · rw [State.word_set_ne _ _ _ ha.symm, hword]

/-- The staged words of the colour set are the staged words at its addresses. -/
theorem stagedWord_unstageColour (s : State) (a : Nat) :
    (s.unstageAll s.stagedColour).stagedWord a = if isColourAddr a = true then none else s.stagedWord a := by
  rw [State.stagedWord_unstageAll]
  by_cases hc : isColourAddr a = true
  · rw [if_pos hc]
    split
    next => rfl
    next hout =>
      have hnone : tabFind s.staged a = none := by
        refine Option.eq_none_iff_forall_ne_some.mpr fun v hv => hout ?_
        exact List.mem_filter.mpr ⟨List.mem_map.mpr ⟨(a, v), mem_of_tabFind hv, rfl⟩, hc⟩
      rw [State.stagedWord, tabGet, hnone]
      rfl
  · have hout : a ∉ s.stagedColour := fun h => hc (List.mem_filter.mp h).2
    rw [if_neg hc, if_neg hout]

/-- R255. -/
theorem colourDiscard_completes {who : Requester} {s : State} (h : Permitted who R.CONF_COLCTRL s) :
    Completes (exec (.colourDiscard who) s) (fun t =>
      t.get F.CONF_COLSTATUS_PENDING = 0 ∧
      (∀ a, t.stagedWord a = if isColourAddr a = true then none else s.stagedWord a) ∧
      t = { s with regs := t.regs, staged := t.staged, out := .status who R.CONF_COLCTRL .ok :: s.out } ∧
      ∀ a, a ≠ R.CONF_COLSTATUS → t.word a = s.word a) := by
  refine ⟨(colourDrop s).emit _, whenLive_answers h rfl, ?_⟩
  simp only [State.get_emit, State.word_emit, State.stagedWord_emit, colourDrop, State.stagedWord_set]
  refine ⟨State.get_set_same _ _ 0 colPending_legal, stagedWord_unstageColour s, ?_, fun a ha => ?_⟩
  · rw [State.unstageAll_only]
    rfl
  · rw [State.word_set_ne _ _ _ ha.symm, State.word_unstageAll]

/-! ## The staging pool (R257, R259) -/

/-- CONF_STAGE names pool p with its slot count, which is in force. -/
def showStage (p : PoolRec) (frames : Nat) (s : State) : State :=
  ((s.set F.CONF_STAGE_POOL_ID p.id).set F.CONF_STAGE_FRAMES frames).set F.CONF_FRAME_FRAMES_IN_FORCE frames

theorem showStage_onRegs (p : PoolRec) (frames : Nat) (s : State) : OnRegs s (showStage p frames s) :=
  ((OnRegs.set ..).trans (.set ..)).trans (.set ..)

/-- The staging pool is taken: the reference is undefined and the next frame whole. -/
def takeStage (p : PoolRec) (frames : Nat) (s : State) : State :=
  (showStage p frames s).withConf { s.conf with refUndefined := true, refPanel := [], whole := true }

/-- CONF_STAGE with nothing ARMED that the window of R259 forbids and a legal slot count. -/
theorem stagePoolWrite_open {s : State} {v : Word} {p : PoolRec} (hlayers : s.armedIds 2 = []) (hqueue : s.armed 4 0 = false)
    (hlo : 2 ≤ wordField v F.CONF_STAGE_FRAMES) (hhi : wordField v F.CONF_STAGE_FRAMES ≤ 32)
    (hp : s.pool (wordField v F.CONF_STAGE_POOL_ID) = some p) :
    stagePoolWrite v s = if p.kind ≠ 3 ∨ p.size < stagingNeed s.geom (wordField v F.CONF_STAGE_FRAMES) then (.pool, s)
      else okay (storeMap (takeStage p (wordField v F.CONF_STAGE_FRAMES) s)) := by
  unfold stagePoolWrite
  simp only [hlayers, hqueue, hp, List.isEmpty_nil, not_true_eq_false, Bool.false_eq_true, or_self, if_false]
  rw [if_neg (by omega), takeStage, ← (showStage_onRegs p (wordField v F.CONF_STAGE_FRAMES) s).conf]
  rfl

section
variable {s : State} {v : Word} {p : PoolRec} (hp : s.pool (wordField v F.CONF_STAGE_POOL_ID) = some p) (frames : Nat)

include hp in
theorem get_takeStage_pool : (takeStage p frames s).get F.CONF_STAGE_POOL_ID = wordField v F.CONF_STAGE_POOL_ID := by
  rw [takeStage, State.get_withConf, showStage, State.get_set_addr _ _ _ _ (by decide),
    State.get_set_other _ _ _ _ stageFrames_legal (by decide), State.get_set_same _ _ _ stagePool_legal, pool_id hp]
  exact Nat.mod_eq_of_lt (slice_lt ..)

variable (v) in
theorem get_takeStage_frames :
    (takeStage p (wordField v F.CONF_STAGE_FRAMES) s).get F.CONF_STAGE_FRAMES = wordField v F.CONF_STAGE_FRAMES := by
  rw [takeStage, State.get_withConf, showStage, State.get_set_addr _ _ _ _ (by decide),
    State.get_set_same _ _ _ stageFrames_legal]
  exact Nat.mod_eq_of_lt (slice_lt ..)

variable (v) in
theorem get_takeStage_inForce :
    (takeStage p (wordField v F.CONF_STAGE_FRAMES) s).get F.CONF_FRAME_FRAMES_IN_FORCE = wordField v F.CONF_STAGE_FRAMES := by
  rw [takeStage, State.get_withConf, showStage, State.get_set_same _ _ _ framesInForce_legal]
  exact Nat.mod_eq_of_lt (slice_lt ..)

theorem word_takeStage {a : Nat} (hs : a ≠ R.CONF_STAGE) (hf : a ≠ R.CONF_FRAME) :
    (takeStage p frames s).word a = s.word a := by
  rw [takeStage, State.word_withConf, showStage, State.word_set_ne _ _ _ hf.symm, State.word_set_ne _ _ _ hs.symm,
    State.word_set_ne _ _ _ hs.symm]

theorem hbmRead_takeStage (a n : Nat) : (takeStage p frames s).hbmRead a n = s.hbmRead a n := by
  rw [takeStage, State.hbmRead_withConf, (showStage_onRegs ..).hbmRead]

theorem geom_takeStage : (takeStage p frames s).geom = s.geom := by
  rw [takeStage, State.geom_withConf, showStage, State.geom_set _ _ (by decide), State.geom_set _ _ (by decide),
    State.geom_set _ _ (by decide)]

include hp in
theorem stagingPool_takeStage (hk : p.kind = 3) : (takeStage p frames s).stagingPool = some p :=
  stagingPool_of_pool
    (by rw [get_takeStage_pool hp, takeStage, State.pool_withConf, (showStage_onRegs p frames s).pool, hp]) hk

include hp in
/-- The map in force is written into its copy in the new pool. -/
theorem storeMap_takeStage (hk : p.kind = 3) :
    storeMap (takeStage p frames s) = (takeStage p frames s).hbmWrite
      (poolBase p + s.conf.mapCopy * mapUnits s.geom * 2097152) (mapImage s.geom s.conf.map) := by
  have hconf : (takeStage p frames s).conf = { s.conf with refUndefined := true, refPanel := [], whole := true } := rfl
  rw [storeMap, hconf, writeMapCopy_eq (stagingPool_takeStage hp frames hk), geom_takeStage]
  rw [geom_takeStage, length_mapImage]
  exact mapBytes_le_mapUnits _

/-- What CONF_STAGE leaves: the conformer's part but for the reference and the next frame, and all but words in force and
memory. -/
theorem frame_takeStage (a : Nat) (bs : List Byte) (o : Output) :
    let u := ((takeStage p frames s).hbmWrite a bs).emit o
    u = { s with regs := u.regs, conf := { s.conf with refUndefined := true, refPanel := [], whole := true }, hbm := u.hbm,
                 poison := u.poison, out := o :: s.out } := by
  unfold takeStage
  exact (showStage_onRegs p frames s).frame_hbmWrite _ a bs o

end

/-- R257, R259. -/
theorem confStageWrite_completes {who : Requester} {s : State} {v : Word} {p : PoolRec} (h : Permitted who R.CONF_STAGE s)
    (hp : s.pool (wordField v F.CONF_STAGE_POOL_ID) = some p) (hk : p.kind = 3)
    (hr : stagePoolWrite v s = okay (storeMap (takeStage p (wordField v F.CONF_STAGE_FRAMES) s))) :
    Completes (exec (.confStageWrite who v) s) (fun t =>
      t.get F.CONF_STAGE_POOL_ID = wordField v F.CONF_STAGE_POOL_ID ∧
      t.get F.CONF_STAGE_FRAMES = wordField v F.CONF_STAGE_FRAMES ∧
      t.get F.CONF_FRAME_FRAMES_IN_FORCE = wordField v F.CONF_STAGE_FRAMES ∧
      t.hbmRead (poolBase p + s.conf.mapCopy * mapUnits s.geom * 2097152) (mapBytes s.geom) = mapImage s.geom s.conf.map ∧
      (∀ a, a < poolBase p + s.conf.mapCopy * mapUnits s.geom * 2097152 ∨
          poolBase p + s.conf.mapCopy * mapUnits s.geom * 2097152 + mapBytes s.geom ≤ a →
        t.hbmRead a 1 = s.hbmRead a 1) ∧
      t = { s with regs := t.regs, conf := { s.conf with refUndefined := true, refPanel := [], whole := true },
                   hbm := t.hbm, poison := t.poison,
                   out := .status who R.CONF_STAGE .ok :: s.out } ∧
      ∀ a, a ≠ R.CONF_STAGE → a ≠ R.CONF_FRAME → t.word a = s.word a) := by
  rw [storeMap_takeStage hp _ hk] at hr
  refine ⟨_, whenLive_answers h hr, ?_, ?_, ?_, ?_, fun a ha => ?_, frame_takeStage _ _ _ _, fun a hs hf => ?_⟩
  · rw [State.get_emit, State.get_hbmWrite, get_takeStage_pool hp]
  · rw [State.get_emit, State.get_hbmWrite, get_takeStage_frames]
  · rw [State.get_emit, State.get_hbmWrite, get_takeStage_inForce]
  · rw [State.hbmRead_emit, ← length_mapImage, hbmRead_hbmWrite_same]
  · rw [← length_mapImage s.geom s.conf.map] at ha
    rw [State.hbmRead_emit, hbmRead_hbmWrite_apart _ (by omega), hbmRead_takeStage]
  · rw [State.word_emit, State.word_hbmWrite, word_takeStage _ hs hf]

/-- R255 to R257, R259. -/
theorem colourSetAndStagingPool : Claims.ColourSetAndStagingPool := by
  intro who v p s
  refine ⟨fun h => ⟨colourArm_completes h, fun hpend => whenLive_answers h (colourArm_pending hpend),
    colourDiscard_completes h⟩, fun h hlayers hqueue hlo hhi hp => ?_⟩
  have hr := stagePoolWrite_open hlayers hqueue hlo hhi hp
  refine ⟨fun hk hsize => ?_, fun hbad => ?_⟩
  · rw [if_neg (by omega)] at hr
    exact confStageWrite_completes h hp hk hr
  · rw [if_pos hbad] at hr
    exact whenLive_answers h hr

/-- Settles O38: the commands of host maps, of the colour set and of the staging pool, each by what its rule answers and
leaves. -/
theorem hostMapsAndColourSets : Obligations.HostMapsAndColourSets := ⟨hostMapsAreChecked, colourSetAndStagingPool⟩

end Sys2Proof.Machine
end

section
/-! SUPPORT. The statement of spec/07_conformer.md about ray frames, refuted in its clause on items that complete: an item
that read a poisoned word is reissued and gives its frame no codes (R52, R449). -/

namespace Sys2Proof.Machine

/-! ## A work item that read a poisoned word -/

/-- A save area that is written leaves the conformer and the work of the blocks. -/
theorem writeSave_conf_struct (ctx st point code : Nat) (lease : Option Nat) (addr : Nat) (s : State) :
    (writeSave ctx st point code lease addr s).conf = s.conf ∧
      (writeSave ctx st point code lease addr s).struct = s.struct := by
  unfold writeSave
  split <;> exact ⟨rfl, rfl⟩

/-- A translation fault leaves the conformer and the work of the blocks. -/
theorem xlatFault_conf_struct (ctx code : Nat) (lease : Option Nat) (addr point : Nat) (s : State) :
    (xlatFault ctx code lease addr point s).conf = s.conf ∧ (xlatFault ctx code lease addr point s).struct = s.struct := by
  have hraise : ∀ u d, u.conf = s.conf ∧ u.struct = s.struct →
      (raisePerMs 928 code d u).conf = s.conf ∧ (raisePerMs 928 code d u).struct = s.struct := fun u d hu => by
    rw [(evtOnly_raisePerMs 928 code d u (by decide)).rest]
    exact hu
  have hsave : ∀ u, u.conf = s.conf ∧ u.struct = s.struct →
      (writeSave ctx 2 point code lease addr (countPark ctx u)).conf = s.conf ∧
        (writeSave ctx 2 point code lease addr (countPark ctx u)).struct = s.struct := fun u hu => by
    rw [(writeSave_conf_struct ..).1, (writeSave_conf_struct ..).2]
    simpa only [countPark, State.set_only] using hu
  unfold xlatFault
  extract_lets noted₁ noted₂ noted₃ counted raised
  have hraised := hraise counted (faultDetail ctx lease addr) (by simp [counted, noted₃, noted₂, noted₁])
  split
  · exact hsave raised hraised
  · exact hraised

theorem requeue_conf (k c : Nat) (q : QueuedItem) (s : State) : (requeue k c q s).conf = s.conf := rfl

/-- An item that is poisoned for the first time waits in its block's queue again (R52). -/
theorem poisonItem_first {k c : Nat} {q : QueuedItem} {s : State} (hcell : s.cellItem k c = some q)
    (hfirst : q.reissued = false) : poisonItem k c s = requeue k c { q with reissued := true } s := by
  unfold poisonItem
  simp only [hcell]
  exact if_pos (by rw [hfirst]; decide)

/-- A conformer item that read a poisoned word, for the first time, leaves every frame as it was. -/
theorem confItemComplete_poisoned {k c h tile a : Nat} {s : State} (hcell : s.cellItem k c = some ⟨.conf h tile, false⟩)
    (hstale : s.stale (s.frame h).holds = none) (hstate : (s.frame h).state = 1) (htile : tile ∈ (s.frame h).todo)
    (hpoison : s.itemPoison (s.frame h) tile = some a) : (confItemComplete k c s).conf = s.conf := by
  obtain ⟨hconf, hstruct⟩ := xlatFault_conf_struct 6 4 none a (confPoint h tile) s
  have hcell' : (xlatFault 6 4 none a (confPoint h tile) s).cellItem k c = some ⟨.conf h tile, false⟩ := by
    rw [← hcell, State.cellItem, State.block, hstruct]
    rfl
  have hbuilt : (s.frame h).state = 1 ∧ (s.frame h).todo.contains tile = true := ⟨hstate, List.contains_iff_mem.mpr htile⟩
  unfold confItemComplete
  simp only [hcell, hstale, if_pos hbuilt, hpoison]
  rw [poisonItem_first hcell' rfl, requeue_conf, hconf]

/-- A Q9 of one hogel that builds frame 1; cell 0 of block 0 runs its tile 0, and the memory word of the hogel's map entry is
poisoned: word 1 of the staging pool, whose first byte is memory byte 2^25. -/
def poisonedMapState : State :=
  let s := ((State.reset.setWord (R.GEOM_W 1) 0x00010001).setWord R.CARD_KSET 0x43530000).set F.CONF_STAGE_POOL_ID 2
  { s with
    struct := { s.struct with
      image := some ⟨1, 1, [], [], 1, [], [], [⟨2, 3, 16, 64⟩], [], [], [], []⟩
      blocks := [(0, { cells := [(0, { item := some ⟨.conf 1 0, false⟩ })] })] }
    conf := { frames := [(1, { state := 1, todo := [0, 1] })] }
    poison := [0x100001] }

/-- Refutes O39: its clause on items that complete says nothing of poison. An item that read a poisoned word is reissued
instead, and its frame still lacks the tile (R52, R449). -/
theorem not_rayFramesAreBuilt : ¬ Obligations.RayFramesAreBuilt := by
  intro h
  have hlive : live poisonedMapState = true := by decide +kernel
  have hcell : poisonedMapState.cellItem 0 0 = some ⟨.conf 1 0, false⟩ := by decide +kernel
  have hstale : poisonedMapState.stale (poisonedMapState.frame 1).holds = none := by decide +kernel
  have hpoison : poisonedMapState.itemPoison (poisonedMapState.frame 1) 0 = some (2 * 2 ^ 35 + 32) := by decide +kernel
  have hstd : poisonedMapState.ckStd = true := by decide +kernel
  have htodo : (poisonedMapState.frame 1).todo = [0, 1] := rfl
  have htile : 0 ∈ (poisonedMapState.frame 1).todo := htodo ▸ List.mem_cons_self
  obtain ⟨t, hexec, -, hframe, -⟩ :=
    (h 0 0 0 1 0 false poisonedMapState hlive).2 hcell hstale rfl htile (by rw [htodo]; decide) hstd
  have ht : confItemComplete 0 0 poisonedMapState = t :=
    Host.Outcome.next.inj ((whenLive_next _ _ hlive).symm.trans hexec)
  have hkept : t.frame 1 = poisonedMapState.frame 1 := by
    rw [← ht, State.frame, confItemComplete_poisoned hcell hstale rfl htile hpoison]
    rfl
  rw [hkept] at hframe
  exact absurd (congrArg FrameEntry.todo hframe) (by decide)

end Sys2Proof.Machine
end

section
/-! SUPPORT. The statement of spec/08_plank_overlay.md about START and ABORT of a plank engine: what each outcome answers and
leaves (R277, R279, R281). -/

namespace Sys2Proof.Machine

/-! ## What writes of memory, answers and words in force leave -/

/-- Only in-package memory and its poison differ. -/
def OnMemory (s t : State) : Prop := t = { s with hbm := t.hbm, poison := t.poison }

theorem OnMemory.rfl {s : State} : OnMemory s s := Eq.refl _

theorem OnMemory.trans {s t u : State} (h : OnMemory s t) (k : OnMemory t u) : OnMemory s u := by
  unfold OnMemory at *
  rw [h] at k
  exact k

theorem OnMemory.pool {s t : State} (h : OnMemory s t) (id : Nat) : t.pool id = s.pool id := by
  rw [h]
  rfl

theorem OnMemory.word {s t : State} (h : OnMemory s t) (a : Nat) : t.word a = s.word a := by
  rw [h]
  rfl

theorem hbmWrite_onMemory (s : State) (a : Nat) (bs : List Byte) : OnMemory s (s.hbmWrite a bs) := Eq.refl _

theorem pixelWrite_onMemory (s : State) (f : Surface) (x y v : Nat) : OnMemory s (s.pixelWrite f x y v) := by
  unfold State.pixelWrite
  split
  · exact .rfl
  · exact hbmWrite_onMemory _ _ _

theorem length_hbmRead (s : State) (a n : Nat) : (s.hbmRead a n).length = n := by
  rw [State.hbmRead, cellRead, List.length_map, upto_eq_range', List.length_range']

theorem SameMemory.emit {s t : State} (h : SameMemory s t) (o : Output) : SameMemory s (t.emit o) := by
  obtain ⟨hhbm, hpoison, hflash, hsram⟩ := h
  exact ⟨hhbm, hpoison, hflash, hsram⟩

theorem SameMemory.of_set {s t : State} {f : Field} {v : Nat} (h : SameMemory (s.set f v) t) : SameMemory s t := by
  obtain ⟨hhbm, hpoison, hflash, hsram⟩ := h
  exact ⟨hhbm, hpoison, hflash, hsram⟩

theorem SameMemory.onRegs {s t u : State} (h : SameMemory s t) (k : OnRegs t u) : SameMemory s u := by
  obtain ⟨hhbm, hpoison, hflash, hsram⟩ := h
  rw [k]
  exact ⟨hhbm, hpoison, hflash, hsram⟩

/-! ## The status of an engine -/

theorem plkResult_legal (n : Nat) : (F.PLK_STATUS_RESULT n).legal := by simp [Field.legal, F.PLK_STATUS_RESULT]

theorem plkBusy_legal (n : Nat) : (F.PLK_STATUS_BUSY n).legal := by simp [Field.legal, F.PLK_STATUS_BUSY]

theorem plkRefuse_legal (n : Nat) : (F.PLK_STATUS_REFUSE n).legal := by simp [Field.legal, F.PLK_STATUS_REFUSE]

theorem plkLines_legal (n : Nat) : (F.PLK_PROGRESS_LINES n).legal := by simp [Field.legal, F.PLK_PROGRESS_LINES]

theorem plankStatus_onRegs (n result busy refuse : Nat) (s : State) : OnRegs s (s.plankStatus n result busy refuse) :=
  ((OnRegs.set ..).trans (.set ..)).trans (.set ..)

theorem word_plankStatus {n a : Nat} (h : a ≠ R.PLK_STATUS n) (result busy refuse : Nat) (s : State) :
    (s.plankStatus n result busy refuse).word a = s.word a := by
  rw [State.plankStatus, State.word_set_ne _ _ _ h.symm, State.word_set_ne _ _ _ h.symm, State.word_set_ne _ _ _ h.symm]

/-- The fields of a status, each cut to its width. -/
theorem get_plankStatus (n result busy refuse : Nat) (s : State) :
    (s.plankStatus n result busy refuse).get (F.PLK_STATUS_RESULT n) = result % 8 ∧
    (s.plankStatus n result busy refuse).get (F.PLK_STATUS_BUSY n) = busy % 2 ∧
    (s.plankStatus n result busy refuse).get (F.PLK_STATUS_REFUSE n) = refuse % 65536 := by
  unfold State.plankStatus
  refine ⟨?_, ?_, State.get_set_same _ _ _ (plkRefuse_legal n)⟩
  · rw [State.get_set_other _ _ _ _ (plkRefuse_legal n) (.inr (by simp [F.PLK_STATUS_REFUSE, F.PLK_STATUS_RESULT])),
      State.get_set_other _ _ _ _ (plkBusy_legal n) (.inr (by simp [F.PLK_STATUS_BUSY, F.PLK_STATUS_RESULT])),
      State.get_set_same _ _ _ (plkResult_legal n)]
    rfl
  · rw [State.get_set_other _ _ _ _ (plkRefuse_legal n) (.inr (by simp [F.PLK_STATUS_REFUSE, F.PLK_STATUS_BUSY])),
      State.get_set_same _ _ _ (plkBusy_legal n)]
    rfl

theorem evtAddr_plankStatus {n : Nat} : evtAddr (R.PLK_STATUS n) = false := by
  simp only [evtAddr, R.PLK_STATUS]
  exact decide_eq_false (by omega)

/-- An idle status is shown and a source of the engine raised, as when an operation ends or START is refused. -/
theorem raise_plankStatus_shows {n off : Nat} (hn : n < 2) (hoff : off < 16) (result refuse : Nat) (s : State) :
    let t := raise (plankSource n off) (s.plankStatus n result 0 refuse)
    t.get (F.PLK_STATUS_RESULT n) = result % 8 ∧ t.get (F.PLK_STATUS_BUSY n) = 0 ∧ t.isPending (plankSource n off) = true ∧
    t.plank = s.plank ∧ t.out = s.out ∧ SameMemory s t := by
  intro t
  have hsource : plankSource n off < 960 := by
    unfold plankSource
    omega
  have hevt : EvtOnly (s.plankStatus n result 0 refuse) t := evtOnly_raise _ _ (by omega)
  obtain ⟨hresult, hbusy, -⟩ := get_plankStatus n result 0 refuse s
  have hkept := (plankStatus_onRegs n result 0 refuse s)
  refine ⟨(hevt.get _ evtAddr_plankStatus).trans hresult, (hevt.get _ evtAddr_plankStatus).trans hbusy, ?_, ?_, ?_, ?_⟩
  · rw [isPending_raise _ _ _ (by omega) (by omega), decide_eq_true rfl, Bool.true_or]
  all_goals rw [hevt.rest, hkept]
  exact ⟨fun _ => rfl, rfl, fun _ => rfl, fun _ => rfl⟩

/-! ## The copy of a band (R279) -/

theorem stageBand_onMemory (n : Nat) (o : PlankOp) (s : State) : OnMemory s (stageBand n o s) := by
  unfold stageBand
  extract_lets p
  split
  · split
    · exact .rfl
    · exact foldl_keeps (OnMemory s) _ _ .rfl fun t j h => h.trans (hbmWrite_onMemory ..)
  · exact .rfl

/-- An operation that copies nothing, or an engine without a save area, leaves every memory. -/
theorem stageBand_none {n : Nat} {o : PlankOp} {s : State}
    (h : bandSurface (plankParams o.words) = none ∨ s.bandCopy n = none) : stageBand n o s = s := by
  unfold stageBand
  extract_lets p
  split
  next hcopy hsurface =>
    rcases h with h | h
    · exact absurd (hsurface.symm.trans h) (by simp)
    · exact absurd (hcopy.symm.trans h) (by simp)
  · rfl

/-- A row whose pitch is legal fits its place in a band copy (R271). -/
theorem rowRange_width_le {f : Surface} {x w : Nat} (h : pitchLegal f x w = true) (r : Nat) :
    (rowRange f x r w).2 - (rowRange f x r w).1 ≤ bandPitch := by
  simp only [pitchLegal, Bool.and_eq_true, decide_eq_true_eq] at h
  obtain ⟨⟨-, hmax⟩, hrow⟩ := h
  unfold rowBytes at hrow
  unfold rowRange bandPitch
  split
  next hbits =>
    rw [if_pos hbits, ceilDiv] at hrow
    dsimp only
    omega
  next hbits =>
    rw [if_neg hbits, Nat.add_mul] at hrow
    dsimp only
    rw [Nat.add_mul]
    omega

/-- Bytes outside the 16 places of the band copy read as before. -/
theorem hbmRead_stageBand_outside {n b a : Nat} {o : PlankOp} {s : State} (hcopy : s.bandCopy n = some b)
    (hfits : ∀ f x y, bandSurface (plankParams o.words) = some (f, x, y) →
      ∀ r, (rowRange f x r (plankParams o.words).w).2 - (rowRange f x r (plankParams o.words).w).1 ≤ bandPitch)
    (ha : a < b ∨ b + 16 * bandPitch ≤ a) : (stageBand n o s).hbmRead a 1 = s.hbmRead a 1 := by
  unfold stageBand
  extract_lets p
  simp only [hcopy]
  split
  next b' f x y hb hsurface =>
    obtain rfl : b = b' := Option.some.inj hb
    split
    · rfl
    · refine List.foldlRecOn (motive := fun t : State => t.hbmRead a 1 = s.hbmRead a 1) _ _ rfl fun t ht j hj => ?_
      have hj := (mem_upto _ _ _).mp hj
      have hrow : (rowRange f x (y + plankLine p (o.lines + j)) p.w).2 -
          (rowRange f x (y + plankLine p (o.lines + j)) p.w).1 ≤ bandPitch := hfits f x y hsurface _
      refine (hbmRead_hbmWrite_apart t ?_).trans ht
      rw [State.poolRead, length_hbmRead]
      unfold bandPitch at *
      omega
  · rfl

/-! ## START (R277) -/

/-- The words of PLK_OP to PLK_WMARK of engine n. -/
def State.plankWords (s : State) (n : Nat) : List Nat := (plankAddrs n).map (fun a => (s.word a).toNat)

/-- The parameters that START would take. -/
def State.startParams (s : State) (n : Nat) : PlankParams := plankParams (s.plankWords n)

/-- The operation that START begins: it waits unless its engine's domain is on, which the operation itself demands (R582). -/
def startedOp (n : Nat) (s : State) : PlankOp :=
  let asked := { s.set (F.PLK_PROGRESS_LINES n) 0 with
    plank := tabPut none s.plank n (some ⟨s.plankWords n, 0, false, true⟩) }
  ⟨s.plankWords n, 0, false, !asked.domainOn (89 + n)⟩

/-- The operation that START begins is noted, with no line completed. -/
def noteStart (n : Nat) (o : PlankOp) (s : State) : State :=
  { s.set (F.PLK_PROGRESS_LINES n) 0 with
    plank := tabPut none (tabPut none s.plank n (some ⟨s.plankWords n, 0, false, true⟩)) n (some o) }

/-- The first band is staged, unless the operation waits. -/
def beginPlank (n : Nat) (s : State) : State :=
  let noted := noteStart n (startedOp n s) s
  if (startedOp n s).waiting then noted else stageBand n (startedOp n s) noted

section
variable {n : Nat} {s : State}

theorem plankStart_busy (h : s.flag (F.PLK_STATUS_BUSY n) = true) : plankStart n s = (.busy, s) := if_pos h

theorem plankStart_refused {st : Status} (hidle : s.flag (F.PLK_STATUS_BUSY n) = false)
    (hcheck : s.plankCheck n (s.startParams n) = some st) :
    plankStart n s = (st, raise (plankSource n 3) (s.plankStatus n 5 0 (statusCode st))) := by
  unfold State.startParams State.plankWords at hcheck
  unfold plankStart
  simp only [hidle, hcheck, Bool.false_eq_true, if_false]

theorem plankStart_empty (hidle : s.flag (F.PLK_STATUS_BUSY n) = false)
    (hcheck : s.plankCheck n (s.startParams n) = none)
    (hempty : (s.startParams n).w = 0 ∨ (s.startParams n).h = 0) :
    plankStart n s = okay (raise (plankSource n 0) ((s.set (F.PLK_PROGRESS_LINES n) 0).plankStatus n 2 0 0)) := by
  unfold State.startParams State.plankWords at hcheck hempty
  unfold plankStart
  simp only [hidle, hcheck, hempty, Bool.false_eq_true, if_true, if_false]

theorem plankStart_begins (hidle : s.flag (F.PLK_STATUS_BUSY n) = false)
    (hcheck : s.plankCheck n (s.startParams n) = none) (hw : (s.startParams n).w ≠ 0)
    (hh : (s.startParams n).h ≠ 0) :
    plankStart n s = okay ((beginPlank n s).plankStatus n ((beginPlank n s).get (F.PLK_STATUS_RESULT n)) 1 0) := by
  unfold State.startParams State.plankWords at hcheck hw hh
  unfold plankStart
  rw [if_neg (by simp [hidle])]
  simp only [hcheck]
  rw [if_neg (by simp [hw, hh])]
  rfl

/-- A check that refuses nothing does not apply, and those behind it refuse nothing. -/
theorem of_ite_some_eq_none {c : Prop} [Decidable c] {st : Status} {rest : Option Status}
    (h : (if c then some st else rest) = none) : ¬ c ∧ rest = none := by
  by_cases hc : c
  · rw [if_pos hc] at h
    exact absurd h (Option.some_ne_none st)
  · exact ⟨hc, (if_neg hc).symm.trans h⟩

/-- What the checks say of pitches (R271; check 6 of R277). -/
theorem plankCheck_pitches {p : PlankParams} (h : s.plankCheck n p = none) (hw : p.w ≠ 0) (hh : p.h ≠ 0) :
    pitchLegal p.dst p.x p.w = true ∧ (plankReads p = true → pitchLegal p.src p.sx p.w = true) := by
  unfold State.plankCheck at h
  obtain ⟨-, h⟩ := of_ite_some_eq_none h
  obtain ⟨-, h⟩ := of_ite_some_eq_none h
  rw [if_neg (by simp [hw, hh])] at h
  obtain ⟨-, h⟩ := of_ite_some_eq_none h
  obtain ⟨hpitch, -⟩ := of_ite_some_eq_none h
  rw [Classical.not_not, Bool.and_eq_true, Bool.and_eq_true] at hpitch
  obtain ⟨⟨hdst, -⟩, hsrc⟩ := hpitch
  refine ⟨hdst, fun hreads => ?_⟩
  rw [hreads, Bool.not_true, Bool.false_or, Bool.and_eq_true] at hsrc
  exact hsrc.1

/-- The rows that an operation copies fit their places in the band copy. -/
theorem bandSurface_fits {p : PlankParams} (h : s.plankCheck n p = none) (hw : p.w ≠ 0) (hh : p.h ≠ 0) {f : Surface}
    {x y : Nat} (hsurface : bandSurface p = some (f, x, y)) (r : Nat) :
    (rowRange f x r p.w).2 - (rowRange f x r p.w).1 ≤ bandPitch := by
  obtain ⟨hdst, hsrc⟩ := plankCheck_pitches h hw hh
  unfold bandSurface at hsurface
  split at hsurface
  · obtain ⟨rfl, rfl, -⟩ := hsurface
    exact rowRange_width_le hdst r
  · split at hsurface
    next hcopy =>
      obtain ⟨rfl, rfl, -⟩ := hsurface
      exact rowRange_width_le (hsrc (by simp [plankReads, hcopy.1])) r
    · exact absurd hsurface (by simp)

theorem beginPlank_onMemory : OnMemory (noteStart n (startedOp n s) s) (beginPlank n s) := by
  unfold beginPlank
  split
  · exact .rfl
  · exact stageBand_onMemory _ _ _

theorem noteStart_only (o : PlankOp) :
    noteStart n o s = { s with regs := (noteStart n o s).regs, plank := (noteStart n o s).plank } := rfl

theorem noteStart_sameMemory (o : PlankOp) : SameMemory s (noteStart n o s) := by
  have honly := noteStart_only (n := n) (s := s) o
  generalize noteStart n o s = t at *
  rw [honly]
  exact ⟨fun _ => rfl, rfl, fun _ => rfl, fun _ => rfl⟩

theorem hbmRead_noteStart (o : PlankOp) (a k : Nat) : (noteStart n o s).hbmRead a k = s.hbmRead a k :=
  hbmRead_congr fun b _ _ => (noteStart_sameMemory o).hbm b

theorem bandCopy_noteStart (o : PlankOp) : (noteStart n o s).bandCopy n = s.bandCopy n := by
  have honly := noteStart_only (n := n) (s := s) o
  generalize noteStart n o s = t at *
  rw [honly]
  rfl

theorem beginPlank_none (h : bandSurface (s.startParams n) = none ∨ s.bandCopy n = none) :
    beginPlank n s = noteStart n (startedOp n s) s := by
  unfold beginPlank
  extract_lets noted
  split
  · rfl
  · exact stageBand_none (h.imp_right (bandCopy_noteStart _).trans)

theorem hbmRead_beginPlank_outside {b a : Nat} (hcheck : s.plankCheck n (s.startParams n) = none)
    (hw : (s.startParams n).w ≠ 0) (hh : (s.startParams n).h ≠ 0) (hcopy : s.bandCopy n = some b)
    (ha : a < b ∨ b + 16 * bandPitch ≤ a) : (beginPlank n s).hbmRead a 1 = s.hbmRead a 1 := by
  unfold beginPlank
  extract_lets noted
  split
  · exact hbmRead_noteStart _ _ _
  · rw [hbmRead_stageBand_outside (o := startedOp n s) ((bandCopy_noteStart _).trans hcopy)
      (fun _ _ _ => bandSurface_fits hcheck hw hh) ha, hbmRead_noteStart]

/-- What START leaves before its status is shown: the operation with no line completed, and the copy of its first band. -/
theorem beginPlank_shows :
    tabGet none (beginPlank n s).plank n = some (startedOp n s) ∧ (beginPlank n s).get (F.PLK_PROGRESS_LINES n) = 0 ∧
    beginPlank n s = { s with regs := (beginPlank n s).regs, plank := (beginPlank n s).plank, hbm := (beginPlank n s).hbm,
                              poison := (beginPlank n s).poison } ∧
    ∀ a, a ≠ R.PLK_PROGRESS n → (beginPlank n s).word a = s.word a := by
  have hmemory := beginPlank_onMemory (n := n) (s := s)
  generalize startedOp n s = o at *
  refine ⟨?_, ?_, ?_, fun a ha => ?_⟩
  · rw [hmemory, noteStart, tabGet_tabPut, if_pos (Eq.refl n)]
  · rw [State.get, hmemory.word]
    exact (State.get_set_same s _ 0 (plkLines_legal n)).trans (Nat.zero_mod _)
  · rw [hmemory, noteStart_only]
  · rw [hmemory.word]
    exact State.word_set_ne s _ 0 ha.symm

theorem get_lines_plankStatus (result busy refuse : Nat) :
    (s.plankStatus n result busy refuse).get (F.PLK_PROGRESS_LINES n) = s.get (F.PLK_PROGRESS_LINES n) := by
  rw [State.get, word_plankStatus (by simp [F.PLK_PROGRESS_LINES, R.PLK_PROGRESS, R.PLK_STATUS])]
  rfl

/-- R277, R279. -/
theorem plankStart_completes {who : Requester} {n : Fin 2} (h : Permitted who (R.PLK_CTRL n.val) s)
    (hidle : s.flag (F.PLK_STATUS_BUSY n.val) = false)
    (hcheck : s.plankCheck n.val (s.startParams n.val) = none)
    (hw : (s.startParams n.val).w ≠ 0) (hh : (s.startParams n.val).h ≠ 0) :
    Completes (exec (.plankStart who n) s) (fun t =>
      (∃ waiting, tabGet none t.plank n.val = some ⟨s.plankWords n.val, 0, false, waiting⟩) ∧
      t.get (F.PLK_STATUS_BUSY n.val) = 1 ∧ t.get (F.PLK_STATUS_REFUSE n.val) = 0 ∧ t.get (F.PLK_PROGRESS_LINES n.val) = 0 ∧
      t = { s with regs := t.regs, plank := t.plank, hbm := t.hbm, poison := t.poison,
                   out := .status who (R.PLK_CTRL n.val) .ok :: s.out } ∧
      (bandSurface (s.startParams n.val) = none ∨ s.bandCopy n.val = none → SameMemory s t) ∧
      (∀ b, s.bandCopy n.val = some b → ∀ a, a < b ∨ b + 16 * bandPitch ≤ a → t.hbmRead a 1 = s.hbmRead a 1) ∧
      ∀ a, a ≠ R.PLK_STATUS n.val → a ≠ R.PLK_PROGRESS n.val → t.word a = s.word a) := by
  refine ⟨_, whenLive_answers h (plankStart_begins hidle hcheck hw hh), ?_⟩
  obtain ⟨hop, hlines, honly, hword⟩ := beginPlank_shows (n := n.val) (s := s)
  have hsame : bandSurface (s.startParams n.val) = none ∨ s.bandCopy n.val = none →
      SameMemory s (beginPlank n.val s) := fun hnone => beginPlank_none hnone ▸ noteStart_sameMemory _
  have houtside := fun b a => hbmRead_beginPlank_outside (b := b) (a := a) hcheck hw hh
  have hwords : startedOp n.val s = ⟨s.plankWords n.val, 0, false, (startedOp n.val s).waiting⟩ := rfl
  generalize beginPlank n.val s = u at *
  obtain ⟨-, hbusy, hrefuse⟩ := get_plankStatus n.val (u.get (F.PLK_STATUS_RESULT n.val)) 1 0 u
  have hregs := plankStatus_onRegs n.val (u.get (F.PLK_STATUS_RESULT n.val)) 1 0 u
  have hword' := fun a ha => word_plankStatus (n := n.val) (a := a) ha (u.get (F.PLK_STATUS_RESULT n.val)) 1 0 u
  have hlines' := get_lines_plankStatus (n := n.val) (s := u) (u.get (F.PLK_STATUS_RESULT n.val)) 1 0
  generalize u.plankStatus n.val (u.get (F.PLK_STATUS_RESULT n.val)) 1 0 = v at *
  refine ⟨⟨(startedOp n.val s).waiting, ?_⟩, hbusy, hrefuse, hlines'.trans hlines, ?_,
    fun hnone => ((hsame hnone).onRegs hregs).emit _, fun b hb a ha => ?_,
    fun a hstatus hprogress => (hword' a hstatus).trans (hword a hprogress)⟩
  · rw [← hwords, ← hop, hregs]
    rfl
  · rw [hregs, honly]
    rfl
  · rw [State.hbmRead_emit, hregs.hbmRead, houtside b a hb ha]

end

/-! ## ABORT (R281) -/

/-- The operation of an engine ends: its result is shown and DONE raised (R280 to R282). -/
theorem plankEnd_shows {n : Nat} (hn : n < 2) (result : Nat) (s : State) :
    let t := plankEnd n result s
    t.get (F.PLK_STATUS_RESULT n) = result % 8 ∧ t.get (F.PLK_STATUS_BUSY n) = 0 ∧ t.isPending (plankSource n 0) = true ∧
    t.plank = tabErase s.plank n ∧ SameMemory s t := by
  obtain ⟨hresult, hbusy, hpending, hplank, -, hmem⟩ :=
    raise_plankStatus_shows hn (by decide : 0 < 16) result 0 { s with plank := tabErase s.plank n }
  have hend : plankEnd n result s =
      settlePower (raise (plankSource n 0) (State.plankStatus { s with plank := tabErase s.plank n } n result 0 0)) := rfl
  rw [hend]
  generalize raise (plankSource n 0) (State.plankStatus { s with plank := tabErase s.plank n } n result 0 0) = u at *
  obtain ⟨hhbm, hpoison, hflash, hsram⟩ := hmem
  exact ⟨hresult, hbusy, hpending, hplank, ⟨hhbm, hpoison, hflash, hsram⟩⟩

/-- An operation that waits for its engine's domain has written nothing, and its end leaves every line. -/
theorem plankAbort_waiting {n : Nat} {o : PlankOp} {s : State} (ho : tabGet none s.plank n = some o)
    (hwait : o.waiting = true) : plankAbort n s = okay (plankEnd n 3 s) := by
  unfold plankAbort plankScramble
  simp only [ho, hwait, if_true]

/-- Settles O40: START by what each of its outcomes answers and leaves, and ABORT of an operation that waits. -/
theorem plankStartsAndAborts : Obligations.PlankStartsAndAborts := by
  intro who n st o s h ws p
  refine ⟨plankStart_completes h, fun hidle hcheck hempty => ?_, fun hidle hcheck => ?_,
    fun hbusy => whenLive_answers h (plankStart_busy hbusy), fun ho hwait => ?_⟩
  · refine ⟨_, whenLive_answers h (plankStart_empty hidle hcheck hempty), ?_⟩
    obtain ⟨hresult, hidle', hdone, hplank, -, hmem⟩ :=
      raise_plankStatus_shows n.isLt (by decide : 0 < 16) 2 0 (s.set (F.PLK_PROGRESS_LINES n.val) 0)
    generalize raise (plankSource n.val 0) _ = t at *
    exact ⟨hplank, hresult, hidle', hdone, hmem.of_set.emit _⟩
  · refine ⟨_, whenLive_answers h (plankStart_refused hidle hcheck), ?_⟩
    obtain ⟨hresult, hidle', hrefused, hplank, hout, hmem⟩ :=
      raise_plankStatus_shows n.isLt (by decide : 3 < 16) 5 (statusCode st) s
    generalize raise (plankSource n.val 3) _ = t at *
    exact ⟨hplank, hresult, hidle', hrefused, congrArg (_ :: ·) hout, hmem.emit _⟩
  · refine ⟨_, whenLive_answers h (plankAbort_waiting ho hwait), ?_⟩
    obtain ⟨hresult, hidle', hdone, hplank, hmem⟩ := plankEnd_shows n.isLt 3 s
    generalize plankEnd n.val 3 s = t at *
    refine ⟨?_, hresult, hidle', hdone, hmem.emit _⟩
    exact (congrArg (tabGet none · n.val) hplank).trans ((tabGet_tabErase ..).trans (if_pos rfl))

end Sys2Proof.Machine
end

section
/-! SUPPORT. The statement of spec/08_plank_overlay.md about bands of a FILL and front buffers: what a band writes (R272, R279),
and what a write of OV_FRONT answers and stages (R287, R288). -/

namespace Sys2Proof.Machine

/-! ## Pixels of a surface other than A1 (R270) -/

/-- The byte of the pool at which a pixel begins. -/
def pixelAt (f : Surface) (x y : Nat) : Nat := f.base + y * f.pitch + x * pixelBytes f.format

/-- The bytes of a row of w pixels. -/
theorem rowRange_eq {f : Surface} (hf : f.format ≠ 3) (x y w : Nat) :
    rowRange f x y w = (pixelAt f x y, pixelAt f (x + w) y) := if_neg hf

theorem pixelAt_add (f : Surface) (x y k : Nat) : pixelAt f (x + k) y = pixelAt f x y + k * pixelBytes f.format := by
  simp only [pixelAt, Nat.add_mul, Nat.add_assoc]

theorem pixelAt_mono (f : Surface) (y : Nat) {x x' : Nat} (h : x ≤ x') : pixelAt f x y ≤ pixelAt f x' y :=
  Nat.add_le_add_left (Nat.mul_le_mul_right _ h) _

/-- Two pixels that lie within the pitch share no byte. -/
theorem pixelAt_apart {f : Surface} {x y x' y' : Nat} (hx : (x + 1) * pixelBytes f.format ≤ f.pitch)
    (hx' : (x' + 1) * pixelBytes f.format ≤ f.pitch) (hne : (x, y) ≠ (x', y')) :
    pixelAt f x y + pixelBytes f.format ≤ pixelAt f x' y' ∨ pixelAt f x' y' + pixelBytes f.format ≤ pixelAt f x y := by
  have hrow : ∀ {a b}, a < b → a * f.pitch + f.pitch ≤ b * f.pitch := fun h => by
    rw [← Nat.succ_mul]
    exact Nat.mul_le_mul_right _ h
  have hcolumn : ∀ {a b}, a < b → a * pixelBytes f.format + pixelBytes f.format ≤ b * pixelBytes f.format := fun h => by
    rw [← Nat.succ_mul]
    exact Nat.mul_le_mul_right _ h
  rw [Nat.succ_mul] at hx hx'
  unfold pixelAt
  rcases Nat.lt_trichotomy y y' with hy | rfl | hy
  · have := hrow hy
    omega
  · rcases Nat.lt_trichotomy x x' with h | rfl | h
    · have := hcolumn h
      omega
    · exact absurd rfl hne
    · have := hcolumn h
      omega
  · have := hrow hy
    omega

section
variable {s : State} {f : Surface} {q : PoolRec} (hq : s.pool f.pool = some q) (hf : f.format ≠ 3)
include hq hf

theorem pixelRead_eq (x y : Nat) :
    s.pixelRead f x y = leNat (s.hbmRead (poolBase q + pixelAt f x y) (pixelBytes f.format)) := by
  unfold State.pixelRead
  simp only [hq, if_neg hf, rowRange_eq hf]
  rfl

theorem pixelWrite_eq (x y v : Nat) :
    s.pixelWrite f x y v = s.hbmWrite (poolBase q + pixelAt f x y) (leBytes v (pixelBytes f.format)) := by
  unfold State.pixelWrite
  simp only [hq, rowRange_eq hf]
  rfl

theorem pixelRead_pixelWrite_same (x y v : Nat) :
    (s.pixelWrite f x y v).pixelRead f x y = v % 2 ^ (8 * pixelBytes f.format) := by
  have hq' := ((pixelWrite_onMemory s f x y v).pool f.pool).trans hq
  have hread := hbmRead_hbmWrite_same s (poolBase q + pixelAt f x y) (leBytes v (pixelBytes f.format))
  rw [length_leBytes] at hread
  rw [pixelRead_eq hq' hf, pixelWrite_eq hq hf, hread, leNat_leBytes, Nat.pow_mul]

theorem pixelRead_pixelWrite_apart {x y x' y' : Nat} (v : Nat) (hx : (x + 1) * pixelBytes f.format ≤ f.pitch)
    (hx' : (x' + 1) * pixelBytes f.format ≤ f.pitch) (hne : (x, y) ≠ (x', y')) :
    (s.pixelWrite f x' y' v).pixelRead f x y = s.pixelRead f x y := by
  have hq' := ((pixelWrite_onMemory s f x' y' v).pool f.pool).trans hq
  have hapart := pixelAt_apart hx hx' hne
  rw [pixelRead_eq hq' hf, pixelRead_eq hq hf, pixelWrite_eq hq hf,
    hbmRead_hbmWrite_apart _ (by rw [length_leBytes]; omega)]

theorem cellGet_pixelWrite_apart {x y a : Nat} (v : Nat)
    (ha : a < poolBase q + pixelAt f x y ∨ poolBase q + pixelAt f (x + 1) y ≤ a) :
    cellGet ramBlank (s.pixelWrite f x y v).hbm a = cellGet ramBlank s.hbm a := by
  rw [pixelAt_add, Nat.one_mul] at ha
  rw [pixelWrite_eq hq hf, cellGet_hbmWrite_apart s (by rw [length_leBytes]; omega)]

end

/-! ## Pixels filled with one colour -/

/-- The colour v is written into each pixel of a list. -/
def fillPixels (f : Surface) (v : Nat) (ps : List (Nat × Nat)) (s : State) : State :=
  ps.foldl (fun s e => s.pixelWrite f e.1 e.2 v) s

theorem fillPixels_onMemory (f : Surface) (v : Nat) (ps : List (Nat × Nat)) (s : State) :
    OnMemory s (fillPixels f v ps s) :=
  foldl_keeps (OnMemory s) _ ps .rfl fun _ _ h => h.trans (pixelWrite_onMemory ..)

section
variable {f : Surface} {q : PoolRec} (hf : f.format ≠ 3)
include hf

/-- A pixel that every write within the pitch fills reads the colour, where it is filled or held the colour before. -/
theorem pixelRead_fillPixels {v x y : Nat} {ps : List (Nat × Nat)} {s : State} (hq : s.pool f.pool = some q)
    (hx : (x + 1) * pixelBytes f.format ≤ f.pitch) (hps : ∀ e ∈ ps, (e.1 + 1) * pixelBytes f.format ≤ f.pitch)
    (hmem : (x, y) ∈ ps ∨ s.pixelRead f x y = v % 2 ^ (8 * pixelBytes f.format)) :
    (fillPixels f v ps s).pixelRead f x y = v % 2 ^ (8 * pixelBytes f.format) := by
  induction ps generalizing s with
  | nil => exact hmem.resolve_left List.not_mem_nil
  | cons e ps ih =>
    obtain ⟨he, hps⟩ := List.forall_mem_cons.mp hps
    refine ih (((pixelWrite_onMemory s f e.1 e.2 v).pool f.pool).trans hq) hps ?_
    by_cases hxy : (x, y) = e
    · subst hxy
      exact .inr (pixelRead_pixelWrite_same hq hf x y v)
    · rw [pixelRead_pixelWrite_apart hq hf v hx he hxy]
      exact hmem.imp_left fun h => (List.mem_cons.mp h).resolve_left hxy

/-- A byte outside the pixels filled keeps its value. -/
theorem cellGet_fillPixels_apart {v a : Nat} {ps : List (Nat × Nat)} {s : State} (hq : s.pool f.pool = some q)
    (h : ∀ e ∈ ps, a < poolBase q + pixelAt f e.1 e.2 ∨ poolBase q + pixelAt f (e.1 + 1) e.2 ≤ a) :
    cellGet ramBlank (fillPixels f v ps s).hbm a = cellGet ramBlank s.hbm a := by
  induction ps generalizing s with
  | nil => rfl
  | cons e ps ih =>
    obtain ⟨he, hps⟩ := List.forall_mem_cons.mp h
    exact (ih (((pixelWrite_onMemory s f e.1 e.2 v).pool f.pool).trans hq) hps).trans
      (cellGet_pixelWrite_apart hq hf v he)

end

/-! ## A band of a FILL (R272, R279) -/

/-- The pixels of the 16 rows from row n of the destination rectangle. -/
def bandPixels (p : PlankParams) (n : Nat) : List (Nat × Nat) :=
  (upto n 16).flatMap (fun r => (upto 0 p.w).map (fun c => (p.x + c, p.y + r)))

theorem mem_bandPixels {p : PlankParams} {n : Nat} {e : Nat × Nat} :
    e ∈ bandPixels p n ↔ ∃ r c, n ≤ r ∧ r < n + 16 ∧ c < p.w ∧ e = (p.x + c, p.y + r) := by
  simp only [bandPixels, List.mem_flatMap, List.mem_map, mem_upto]
  constructor
  · rintro ⟨r, ⟨hlo, hhi⟩, c, ⟨-, hc⟩, rfl⟩
    exact ⟨r, c, hlo, hhi, by omega, rfl⟩
  · rintro ⟨r, c, hlo, hhi, hc, rfl⟩
    exact ⟨r, ⟨hlo, hhi⟩, c, ⟨Nat.zero_le c, by omega⟩, rfl⟩

section
variable {p : PlankParams} (hop : p.op = 2)
include hop

theorem plankLine_fill : plankLine p = id := by
  funext i
  exact if_neg (by simp [plankUpward, hop])

theorem plankRow_fill (before s : State) (r : Nat) :
    plankRow before p s r = fillPixels p.dst p.colour ((upto 0 p.w).map (fun c => (p.x + c, p.y + r))) s := by
  have hpixel : ∀ c, plankPixel before p r c = some p.colour := fun c => by simp [plankPixel, hop]
  rw [fillPixels, List.foldl_map, plankRow]
  simp only [hpixel]

theorem bandRows_fill (before s : State) (n : Nat) :
    ((upto n 16).map (plankLine p)).foldl (plankRow before p) s = fillPixels p.dst p.colour (bandPixels p n) s := by
  rw [plankLine_fill hop, List.map_id, fillPixels, bandPixels, List.foldl_flatMap]
  exact congrArg (List.foldl · s (upto n 16)) (funext fun t => funext fun r => plankRow_fill hop before t r)

theorem bandPoison_fill (s : State) (n : Nat) : s.bandPoison p n = none := by
  simp [State.bandPoison, hop]

theorem bandSurface_fill : bandSurface p = none := by simp [bandSurface, hop]

end

/-- A band is counted: LINES shows the lines completed, and the operation goes on behind them. -/
def countBand (n : Nat) (o : PlankOp) (lines : Nat) (s : State) : State :=
  { s.set (F.PLK_PROGRESS_LINES n) lines with plank := tabPut none s.plank n (some { o with lines := lines }) }

theorem Field.succ_max (f : Field) : f.max.succ = 2 ^ (f.hi + 1 - f.lo) := Nat.sub_add_cancel Nat.one_le_two_pow

/-- What counting a band changes: LINES and the operation. -/
theorem countBand_shows (n : Nat) (o : PlankOp) (lines : Nat) (s : State) :
    let t := countBand n o lines s
    tabGet none t.plank n = some { o with lines := lines } ∧
    t.get (F.PLK_PROGRESS_LINES n) = lines % (F.PLK_PROGRESS_LINES n).max.succ ∧
    (∀ a, a ≠ R.PLK_PROGRESS n → t.word a = s.word a) ∧ t = { s with regs := t.regs, plank := t.plank } := by
  refine ⟨?_, ?_, fun a ha => State.word_set_ne s _ _ ha.symm, rfl⟩
  · rw [countBand, tabGet_tabPut, if_pos (Eq.refl n)]
  · rw [Field.succ_max]
    exact State.get_set_same s _ _ (plkLines_legal n)

/-- A band of a FILL that does not reach the last row, without a watermark. -/
theorem plankBand_fill {n : Nat} {o : PlankOp} {s : State} (ho : tabGet none s.plank n = some o) (hwait : o.waiting = false)
    (hop : (plankParams o.words).op = 2) (hmark : (plankParams o.words).wmark = false)
    (hrows : o.lines + 16 < (plankParams o.words).h) :
    plankBand n s = countBand n o (o.lines + 16)
      (fillPixels (plankParams o.words).dst (plankParams o.words).colour (bandPixels (plankParams o.words) o.lines) s) := by
  obtain ⟨ws, lines, marked, waiting⟩ := o
  obtain rfl : waiting = false := hwait
  dsimp only at hop hmark hrows ⊢
  have hband : min 16 ((plankParams ws).h - lines) = 16 := by omega
  have hplain : ∀ k, plankMarked (plankParams ws) k = false := fun k => by simp [plankMarked, hmark]
  unfold plankBand
  simp only [ho, hband, hplain, bandPoison_fill hop, bandRows_fill hop, Bool.false_and, Bool.or_false, Bool.false_eq_true,
    if_false]
  rw [if_neg (by omega), stageBand_none (.inl (bandSurface_fill hop))]
  rfl

/-- The bytes of a band's pixels lie in its rows. -/
theorem bandPixels_outside {p : PlankParams} {n a b : Nat} (hf : p.dst.format ≠ 3)
    (ha : ∀ r, n ≤ r → r < n + 16 →
      a < b + (rowRange p.dst p.x (p.y + r) p.w).1 ∨ b + (rowRange p.dst p.x (p.y + r) p.w).2 ≤ a) :
    ∀ e ∈ bandPixels p n, a < b + pixelAt p.dst e.1 e.2 ∨ b + pixelAt p.dst (e.1 + 1) e.2 ≤ a := by
  intro e he
  obtain ⟨r, c, hlo, hhi, hc, rfl⟩ := mem_bandPixels.mp he
  have hrow := ha r hlo hhi
  rw [rowRange_eq hf] at hrow
  have hfirst : pixelAt p.dst p.x (p.y + r) ≤ pixelAt p.dst (p.x + c) (p.y + r) := pixelAt_mono _ _ (by omega)
  have hlast : pixelAt p.dst (p.x + c + 1) (p.y + r) ≤ pixelAt p.dst (p.x + p.w) (p.y + r) := pixelAt_mono _ _ (by omega)
  dsimp only at hrow ⊢
  omega

/-- The columns of a rectangle lie within a legal pitch. -/
theorem pitchLegal_columns {f : Surface} {x w : Nat} (hf : f.format ≠ 3) (h : pitchLegal f x w = true) {c : Nat} (hc : c < w) :
    (x + c + 1) * pixelBytes f.format ≤ f.pitch := by
  simp only [pitchLegal, rowBytes, if_neg hf, Bool.and_eq_true, decide_eq_true_eq] at h
  exact Nat.le_trans (Nat.mul_le_mul_right _ (by omega)) h.2

/-- A band filled row by row: each of its pixels reads the colour, and bytes outside its rows keep their value. -/
theorem fillPixels_bandPixels {p : PlankParams} {q : PoolRec} {s : State} (hf : p.dst.format ≠ 3)
    (hpitch : pitchLegal p.dst p.x p.w = true) (hq : s.pool p.dst.pool = some q) (n : Nat) :
    let t := fillPixels p.dst p.colour (bandPixels p n) s
    (∀ r c, n ≤ r → r < n + 16 → c < p.w →
      t.pixelRead p.dst (p.x + c) (p.y + r) = p.colour % 2 ^ (8 * pixelBytes p.dst.format)) ∧
    (∀ a, (∀ r, n ≤ r → r < n + 16 →
        a < poolBase q + (rowRange p.dst p.x (p.y + r) p.w).1 ∨ poolBase q + (rowRange p.dst p.x (p.y + r) p.w).2 ≤ a) →
      cellGet ramBlank t.hbm a = cellGet ramBlank s.hbm a) := by
  have hall : ∀ e ∈ bandPixels p n, (e.1 + 1) * pixelBytes p.dst.format ≤ p.dst.pitch := fun e he => by
    obtain ⟨r, c, -, -, hc, rfl⟩ := mem_bandPixels.mp he
    exact pitchLegal_columns hf hpitch hc
  refine ⟨fun r c hlo hhi hc => ?_, fun a ha => cellGet_fillPixels_apart hf hq (bandPixels_outside hf ha)⟩
  exact pixelRead_fillPixels hf hq (pitchLegal_columns hf hpitch hc) hall
    (.inl (mem_bandPixels.mpr ⟨r, c, hlo, hhi, hc, rfl⟩))

/-- R272, R279. -/
theorem plankFillWritesBand : Claims.PlankFillWritesBand := by
  intro n o q s hlive ho hwait p hop hformat hpitch hmark hrows hq
  have hf : p.dst.format ≠ 3 := fun h => by
    rw [h] at hformat
    exact absurd hformat (by decide)
  have ht := plankBand_fill ho hwait hop hmark hrows
  obtain ⟨hfilled, hkept⟩ := fillPixels_bandPixels hf hpitch hq o.lines
  have hmemory := fillPixels_onMemory p.dst p.colour (bandPixels p o.lines) s
  change _ = countBand n.val o (o.lines + 16) (fillPixels p.dst p.colour (bandPixels p o.lines) s) at ht
  generalize fillPixels p.dst p.colour (bandPixels p o.lines) s = u at *
  obtain ⟨hnext, hlines, hword, honly⟩ := countBand_shows n.val o (o.lines + 16) u
  generalize countBand n.val o (o.lines + 16) u = t at *
  refine ⟨_, (whenLive_next _ _ hlive).trans (congrArg _ ht), ?_, ?_, ?_, ?_, hnext, hlines,
    fun a ha => (hword a ha).trans (hmemory.word a)⟩
  all_goals rw [honly]
  · exact hfilled
  · exact hkept
  all_goals rw [hmemory]

/-! ## Front buffers (R287, R288) -/

section
variable {o : Nat} {s : State}

theorem ovFrontWrite_undeclared (h : (s.path 3 o).state = 0) (v : Word) : ovFrontWrite o v s = (.window, s) := if_pos h

theorem ovFrontWrite_streamed (h : (s.path 3 o).state ≠ 0) (hsource : s.bindField 3 o (F.OV_FMT_SOURCE o) = 1) (v : Word) :
    ovFrontWrite o v s = (.value, s) :=
  (if_neg h).trans (if_pos hsource)

theorem ovFrontWrite_drawn (h : (s.path 3 o).state ≠ 0) (hsource : s.bindField 3 o (F.OV_FMT_SOURCE o) ≠ 1) (v : Word) :
    ovFrontWrite o v s = if s.plankWrites o (wordField v (F.OV_FRONT_FRONT o)) then (.busy, s)
      else okay (s.stageWrite (R.OV_FRONT o) (v &&& 1)) :=
  (if_neg h).trans (if_neg hsource)

end

/-- R287, R288. -/
theorem overlayFrontIsStaged : Claims.OverlayFrontIsStaged := by
  intro who o v s h hshadow
  refine ⟨fun hstate => whenLive_answers h (ovFrontWrite_undeclared hstate v), fun hstate hsource => ?_,
    fun hstate hsource => whenLive_answers h (ovFrontWrite_streamed hstate hsource v)⟩
  have hdrawn := ovFrontWrite_drawn hstate hsource v
  refine ⟨fun hfree => ?_, fun hbusy => ?_⟩
  · rw [hfree, State.stageWrite, hshadow] at hdrawn
    refine ⟨_, whenLive_answers h hdrawn, ?_, fun a ha => ?_, rfl⟩
    · exact (State.stagedWord_stage ..).trans (if_pos rfl)
    · exact (State.stagedWord_stage ..).trans (if_neg ha.symm)
  · rw [hbusy] at hdrawn
    exact whenLive_answers h hdrawn

/-- Settles O41: a band of a FILL as pixels filled one by one, and a write of OV_FRONT by what its rule answers. -/
theorem plankWritesAndOverlayFronts : Obligations.PlankWritesAndOverlayFronts := ⟨plankFillWritesBand, overlayFrontIsStaged⟩

end Sys2Proof.Machine
end

section
/-! SUPPORT. The fuller stream format: what the compressor writes, the decompressor reads (spec/16_fuller.md R476 to R483). -/

namespace Sys2Proof.Machine

/-! ## The dictionary -/

/-- A code that the compressor writes names its string. -/
theorem dictString_of_dictCode {d : FullerDict} {s : List Byte} {c : Nat} (h : dictCode d s = some c) :
    c ≠ 256 ∧ c ≠ 257 ∧ c < nextFree d ∧ dictString d c = some s := by
  match s with
  | [] => cases h
  | [b] =>
    have hb : b.toNat < 256 := b.isLt
    obtain rfl : b.toNat = c := Option.some.inj h
    refine ⟨by omega, by omega, by unfold nextFree; omega, ?_⟩
    rw [dictString, if_pos hb, BitVec.ofNat_toNat, BitVec.setWidth_eq]
  | b₁ :: b₂ :: t =>
    obtain ⟨k, hk, rfl⟩ := Option.map_eq_some_iff.mp h
    obtain ⟨hlt, heq, -⟩ := List.findIdx?_eq_some_iff_getElem.mp hk
    refine ⟨by omega, by omega, by unfold nextFree; omega, ?_⟩
    rw [dictString, if_neg (by omega), if_neg (by omega), Nat.add_sub_cancel_left, List.getElem?_eq_getElem hlt,
      eq_of_beq heq]

/-- A string of one byte always has a code. -/
theorem dictCode_singleton (d : FullerDict) (b : Byte) : dictCode d [b] = some b.toNat := rfl

/-- A code below those of an entry appended names the same string before it is appended. -/
theorem dictString_append {d : FullerDict} {e : List Byte} {c : Nat} (h : c < nextFree d) :
    dictString (d ++ [e]) c = dictString d c := by
  unfold nextFree at h
  unfold dictString
  rw [List.getElem?_append]
  repeat' split
  all_goals first | rfl | omega

/-- The entry appended has the code that was free. -/
theorem dictString_append_nextFree (d : FullerDict) (e : List Byte) : dictString (d ++ [e]) (nextFree d) = some e := by
  unfold nextFree dictString
  rw [if_neg (by omega), if_neg (by omega), Nat.add_sub_cancel_left, List.getElem?_concat_length]

/-! ## The codes of a block -/

/-- The codes that the compressor writes for the rest of a block, in order, with the string it holds. -/
def blockCodes (w : Nat) : List Byte → List Byte → FullerDict → List Nat
  | [], cur, d => ((dictCode d cur).map (fun c => [c, 257])).getD [257]
  | b :: rest, cur, d =>
    if (dictCode d (cur ++ [b])).isSome then blockCodes w rest (cur ++ [b]) d
    else
      match dictCode d cur with
      | none => blockCodes w rest [b] d
      | some c =>
        if nextFree d < 2 ^ w then c :: blockCodes w rest [b] (d ++ [cur ++ [b]])
        else c :: 256 :: blockCodes w rest [b] []

/-- The dictionary that the compressor leaves. -/
def blockDict (w : Nat) (raw : List Byte) (cur : List Byte) (d : FullerDict) : FullerDict := (encodeCodes w raw cur d []).2

theorem encodeCodes_eq (w : Nat) (raw cur : List Byte) (d : FullerDict) (out : List Nat) :
    encodeCodes w raw cur d out = ((blockCodes w raw cur d).reverse ++ out, blockDict w raw cur d) := by
  suffices h : (encodeCodes w raw cur d out).1 = (blockCodes w raw cur d).reverse ++ out ∧
      (encodeCodes w raw cur d out).2 = blockDict w raw cur d from Prod.ext h.1 h.2
  unfold blockDict
  induction raw generalizing cur d out with
  | nil =>
    unfold encodeCodes blockCodes
    cases dictCode d cur <;> simp
  | cons b rest ih =>
    unfold encodeCodes blockCodes
    split
    · exact ih _ _ _
    · cases dictCode d cur with
      | none => exact ih _ _ _
      | some c =>
        dsimp only
        split
        · rw [(ih _ _ (c :: out)).1, (ih _ _ (c :: out)).2, (ih _ _ [c]).2]
          simp
        · rw [(ih _ _ (256 :: c :: out)).1, (ih _ _ (256 :: c :: out)).2, (ih _ _ [256, c]).2]
          simp

/-- How the decompressor stands before it reads the code of the string cur that the compressor holds: it has the same
dictionary at the start of a block and after RESET, and else lacks the entry that the compressor added last. -/
inductive Follows (w : Nat) (cur : List Byte) (d : FullerDict) : Option (List Byte) → FullerDict → Prop where
  | level : Follows w cur d none d
  | behind (p : List Byte) (e : FullerDict) (hp : p ≠ []) (hfree : nextFree e < 2 ^ w) (hd : d = e ++ [p ++ cur.take 1]) :
      Follows w cur d (some p) e

/-- The decompressor reads the code of the string that the compressor holds, and has the compressor's dictionary. -/
theorem decodeCodes_string {w n len fuel i c : Nat} {cur : List Byte} {d e : FullerDict} {prev : Option (List Byte)}
    {out : List (List Byte)} (hf : Follows w cur d prev e) (hc : dictCode d cur = some c) (hn : codeAt w n i = c) :
    decodeCodes w n len (fuel + 1) i e prev out = decodeCodes w n len fuel (i + 1) d (some cur) (cur :: out) := by
  obtain ⟨h256, h257, hlt, hs⟩ := dictString_of_dictCode hc
  rw [decodeCodes]
  simp only [hn, if_neg h256, if_neg h257]
  cases hf with
  | level => rw [if_pos hlt, hs]
  | behind p e hp hfree hd =>
    have hadd : ∀ s : List Byte, s.take 1 = cur.take 1 → dictAdd w e (p ++ s.take 1) = d := fun s h => by
      rw [dictAdd, if_pos hfree, h, hd]
    have hnext : nextFree d = nextFree e + 1 := by rw [hd]; simp [nextFree, Nat.add_assoc]
    by_cases hce : c < nextFree e
    · rw [hd, dictString_append hce] at hs
      rw [if_pos hce, hs]
      simp only [hadd cur rfl]
    · obtain rfl : c = nextFree e := by omega
      have hcur : p ++ cur.take 1 = cur := by
        rw [hd, dictString_append_nextFree] at hs
        exact Option.some.inj hs
      have htake : p.take 1 = cur.take 1 := by
        obtain ⟨a, t, rfl⟩ := List.exists_cons_of_ne_nil hp
        rw [← hcur]; rfl
      rw [if_neg (lt_irrefl _), if_pos rfl]
      simp only [Option.map_some, htake, hcur]
      rw [← hadd cur rfl, hcur]

/-- The decompressor reads RESET. -/
theorem decodeCodes_reset {w n len fuel i : Nat} {e : FullerDict} {prev : Option (List Byte)} {out : List (List Byte)}
    (hn : codeAt w n i = 256) :
    decodeCodes w n len (fuel + 1) i e prev out = decodeCodes w n len fuel (i + 1) [] none out := by
  rw [decodeCodes]
  simp only [hn]
  rfl

/-- The string that the compressor holds grows at its end. -/
theorem Follows.extend {w : Nat} {cur : List Byte} {d e : FullerDict} {prev : Option (List Byte)} (h : Follows w cur d prev e)
    (hcur : cur = [] ∧ prev = none ∨ (dictCode d cur).isSome) (b : Byte) : Follows w (cur ++ [b]) d prev e := by
  cases h with
  | level => exact .level
  | behind p e hp hfree hd =>
    cases cur with
    | nil => simp [dictCode] at hcur
    | cons a t => exact .behind p e hp hfree hd

/-- From position i on a payload of len bytes, read as the number n, holds these codes and zero bits. -/
structure Reads (w n len i : Nat) (codes : List Nat) : Prop where
  code : ∀ k (h : k < codes.length), codeAt w n (i + k) = codes[k]
  length : ceilDiv (w * (i + codes.length)) 8 = len
  fill : n < 2 ^ (w * (i + codes.length))

section
variable {w n len i c : Nat} {codes : List Nat}

theorem Reads.head (h : Reads w n len i (c :: codes)) : codeAt w n i = c := h.code 0 (Nat.succ_pos _)

theorem Reads.tail (h : Reads w n len i (c :: codes)) : Reads w n len (i + 1) codes where
  code k hk := by
    rw [Nat.add_assoc, Nat.add_comm 1]
    exact h.code (k + 1) (Nat.succ_lt_succ hk)
  length := by
    rw [Nat.add_assoc, Nat.add_comm 1]
    exact h.length
  fill := by
    rw [Nat.add_assoc, Nat.add_comm 1]
    exact h.fill

end

/-- The decompressor reads END as the last code of a payload. -/
theorem decodeCodes_end {w n len fuel i : Nat} {e : FullerDict} {prev : Option (List Byte)} {out : List (List Byte)}
    (hr : Reads w n len i [257]) : decodeCodes w n len (fuel + 1) i e prev out = .ok (out, e) := by
  rw [decodeCodes]
  simp only [hr.head]
  rw [if_pos trivial, if_pos ⟨hr.length, hr.fill⟩]

/-- R480, R481: the codes that the compressor writes for the rest of a block give the string it holds and that rest, and
leave its dictionary. -/
theorem decodeCodes_blockCodes {w n len : Nat} (raw : List Byte) {cur : List Byte} {d e : FullerDict}
    {prev : Option (List Byte)} {out : List (List Byte)} {i fuel : Nat} (hf : Follows w cur d prev e)
    (hcur : cur = [] ∧ prev = none ∨ (dictCode d cur).isSome) (hr : Reads w n len i (blockCodes w raw cur d))
    (hfuel : (blockCodes w raw cur d).length ≤ fuel) :
    ∃ out', decodeCodes w n len fuel i e prev out = .ok (out', blockDict w raw cur d) ∧
      out'.reverse.flatten = out.reverse.flatten ++ (cur ++ raw) := by
  induction raw generalizing cur d e prev out i fuel with
  | nil =>
    rw [blockCodes] at hr hfuel
    rcases hc : dictCode d cur with _ | c
    · obtain ⟨rfl, rfl⟩ := hcur.resolve_right (by simp [hc])
      cases hf
      obtain ⟨fuel, rfl⟩ := Nat.exists_eq_add_of_le' hfuel
      exact ⟨out, decodeCodes_end hr, by simp⟩
    · rw [hc] at hr hfuel
      obtain ⟨fuel, rfl⟩ := Nat.exists_eq_add_of_le' hfuel
      refine ⟨cur :: out, ?_, by simp⟩
      rw [blockDict, encodeCodes, hc]
      exact (decodeCodes_string hf hc hr.head).trans (decodeCodes_end hr.tail)
  | cons b rest ih =>
    rw [blockCodes] at hr hfuel
    rw [blockDict, encodeCodes]
    by_cases hext : (dictCode d (cur ++ [b])).isSome
    · rw [if_pos hext] at hr hfuel ⊢
      obtain ⟨out', hrun, hout⟩ := ih (hf.extend hcur b) (.inr hext) hr hfuel
      exact ⟨out', hrun, by rw [hout, List.append_assoc]; rfl⟩
    · rw [if_neg hext] at hr hfuel ⊢
      rcases hc : dictCode d cur with _ | c
      · obtain ⟨rfl, -⟩ := hcur.resolve_right (by simp [hc])
        exact absurd rfl hext
      · have hne : cur ≠ [] := by rintro rfl; cases hc
        simp only [hc] at hr hfuel ⊢
        by_cases hfree : nextFree d < 2 ^ w
        · rw [if_pos hfree] at hr hfuel ⊢
          obtain ⟨fuel, rfl⟩ := Nat.exists_eq_add_of_le' (Nat.le_of_add_left_le hfuel)
          obtain ⟨out', hrun, hout⟩ := ih (d := d ++ [cur ++ [b]]) (out := cur :: out) (.behind cur d hne hfree rfl) (.inr rfl)
            hr.tail (Nat.le_of_succ_le_succ hfuel)
          rw [decodeCodes_string hf hc hr.head, encodeCodes_eq]
          exact ⟨out', hrun, by simp [hout]⟩
        · rw [if_neg hfree] at hr hfuel ⊢
          obtain ⟨fuel, rfl⟩ := Nat.exists_eq_add_of_le' (Nat.le_trans (Nat.le_add_left 2 _) hfuel)
          obtain ⟨out', hrun, hout⟩ := ih (out := cur :: out) .level (.inr rfl) hr.tail.tail
            (Nat.le_of_succ_le_succ (Nat.le_of_succ_le_succ hfuel))
          rw [decodeCodes_string hf hc hr.head, decodeCodes_reset hr.tail.head, encodeCodes_eq]
          exact ⟨out', hrun, by simp [hout]⟩

/-! ## One block -/

/-- Every code fits the code width, and the dictionary never passes it. -/
theorem blockCodes_lt {w : Nat} (hw : 9 ≤ w) (raw : List Byte) {cur : List Byte} {d : FullerDict} (hd : nextFree d ≤ 2 ^ w) :
    (∀ c ∈ blockCodes w raw cur d, c < 2 ^ w) ∧ nextFree (blockDict w raw cur d) ≤ 2 ^ w := by
  have h512 : 512 ≤ 2 ^ w := Nat.pow_le_pow_right (n := 2) (by decide) hw
  have hlt : ∀ {s c}, dictCode d s = some c → c < 2 ^ w := fun h => by
    obtain ⟨-, -, h, -⟩ := dictString_of_dictCode h
    omega
  induction raw generalizing cur d with
  | nil =>
    rw [blockDict, encodeCodes, blockCodes]
    rcases hc : dictCode d cur with _ | c
    · exact ⟨by simp; omega, hd⟩
    · have := hlt hc
      exact ⟨by simp; omega, hd⟩
  | cons b rest ih =>
    rw [blockDict, encodeCodes, blockCodes]
    split
    · exact ih hd hlt
    · rcases hc : dictCode d cur with _ | c
      · exact ih hd hlt
      · have hcw := hlt hc
        dsimp only
        split
        · have hd' : nextFree (d ++ [cur ++ [b]]) ≤ 2 ^ w := by simp only [nextFree, List.length_append] at *; simp; omega
          obtain ⟨hcodes, hdict⟩ := ih (cur := [b]) hd' fun h => Nat.lt_of_lt_of_le (dictString_of_dictCode h).2.2.1 hd'
          rw [encodeCodes_eq]
          exact ⟨List.forall_mem_cons.mpr ⟨hcw, hcodes⟩, hdict⟩
        · have hd' : nextFree [] ≤ 2 ^ w := Nat.le_trans (by decide) h512
          obtain ⟨hcodes, hdict⟩ := ih (cur := [b]) hd' fun h => Nat.lt_of_lt_of_le (dictString_of_dictCode h).2.2.1 hd'
          rw [encodeCodes_eq]
          exact ⟨List.forall_mem_cons.mpr ⟨hcw, List.forall_mem_cons.mpr ⟨by omega, hcodes⟩⟩, hdict⟩

/-- Codes that fit are packed as a run of rays is. -/
theorem packCodes_eq_runBytes {w : Nat} {codes : List Nat} (h : ∀ c ∈ codes, c < 2 ^ w) : packCodes w codes = runBytes w codes := by
  have hfold : codes.foldr (fun c acc => c + 2 ^ w * acc) 0 = packRays w codes := by
    unfold packRays
    induction codes with
    | nil => rfl
    | cons c codes ih =>
      obtain ⟨hc, hcodes⟩ := List.forall_mem_cons.mp h
      rw [List.foldr_cons, List.foldr_cons, ih hcodes, Nat.mod_eq_of_lt hc]
  rw [packCodes, hfold, runBytes_eq]

theorem length_packCodes (w : Nat) (codes : List Nat) : (packCodes w codes).length = ceilDiv (w * codes.length) 8 :=
  length_leBytes _ _

/-- A payload holds the codes that were packed. -/
theorem reads_packCodes {w : Nat} {codes : List Nat} (h : ∀ c ∈ codes, c < 2 ^ w) :
    Reads w (leNat (packCodes w codes)) (packCodes w codes).length 0 codes where
  code k hk := by
    rw [packCodes_eq_runBytes h, leNat_runBytes, codeAt, Nat.zero_add, Nat.shiftRight_eq_div_pow, packRays_digit _ _ _ hk,
      List.getElem!_eq_getElem?_getD, List.getElem?_eq_getElem hk, Option.getD_some,
      Nat.mod_eq_of_lt (h _ (List.getElem_mem hk))]
  length := by rw [length_packCodes, Nat.zero_add]
  fill := by
    rw [packCodes_eq_runBytes h, leNat_runBytes, Nat.zero_add]
    exact packRays_lt _ _

/-- The payload that the compressor writes for a block. -/
def blockPayload (w : Nat) (d : FullerDict) (raw : List Byte) : List Byte := packCodes w (blockCodes w raw [] d)

/-- R480, R481: a compressed block decodes to its data and to the compressor's dictionary. -/
theorem decodeBlock_blockPayload {w : Nat} (hw : 9 ≤ w) {d : FullerDict} (hd : nextFree d ≤ 2 ^ w) (raw : List Byte) :
    decodeBlock w d (blockPayload w d raw) = .ok (raw, blockDict w raw [] d) := by
  have hfuel : (blockCodes w raw [] d).length ≤ (blockPayload w d raw).length * 8 / w := by
    rw [blockPayload, length_packCodes, Nat.le_div_iff_mul_le (by omega), Nat.mul_comm]
    unfold ceilDiv
    omega
  obtain ⟨out, hrun, hout⟩ := decodeCodes_blockCodes raw .level (.inl ⟨rfl, rfl⟩)
    (reads_packCodes (blockCodes_lt hw raw hd).1) hfuel (out := [])
  rw [decodeBlock]
  unfold blockPayload at *
  rw [hrun]
  exact congrArg (fun o => Except.ok (o, _)) hout

/-- A block header: TYPE, RAW_LEN and PAYLOAD_LEN (R477). -/
def blockHeader (ty : Byte) (rawLen payloadLen : Nat) : List Byte := [ty, 0x00] ++ leBytes (rawLen - 1) 2 ++ leBytes payloadLen 4

theorem encodeBlock_eq (w : Nat) (d : FullerDict) (raw : List Byte) :
    encodeBlock w d raw =
      if (blockPayload w d raw).length < raw.length then
        (blockHeader 1 raw.length (blockPayload w d raw).length ++ blockPayload w d raw, false, blockDict w raw [] d)
      else (blockHeader 2 raw.length raw.length ++ raw, true, []) := by
  rw [encodeBlock, encodeCodes_eq]
  simp only [List.append_nil, List.reverse_reverse]
  rfl

/-- What a block leaves of the run that reads it. -/
def FullerRun.after (r : FullerRun) (block : List Byte) (stored : Bool) (d : FullerDict) (out : List Byte) : FullerRun :=
  ⟨r.width, r.rawLength, r.pos + block.length, r.outLen + out.length, crcRun r.crc out, d, r.blocks + 1, r.stored + bit stored⟩

/-- A run stands at a block of a TYPE with this payload, for raw bytes of data (R477). -/
structure AtBlock (src : List Byte) (r : FullerRun) (ty : Byte) (raw : Nat) (payload tail : List Byte) : Prop where
  here : src.drop r.pos = blockHeader ty raw payload.length ++ payload ++ tail
  pos : 0 < raw
  small : raw ≤ 65536
  room : r.outLen + raw ≤ r.rawLength
  whole : raw = 65536 ∨ r.outLen + raw = r.rawLength
  fits : payload.length ≤ raw

section
variable {src payload tail : List Byte} {r : FullerRun} {raw : Nat} {ty : Byte}

/-- The fields of the block header that a run stands at, and its payload. -/
theorem AtBlock.fields (h : AtBlock src r ty raw payload tail) :
    leAt (src.drop r.pos) 0 1 = ty.toNat ∧ leAt (src.drop r.pos) 1 1 = 0 ∧ leAt (src.drop r.pos) 2 2 + 1 = raw ∧
    leAt (src.drop r.pos) 4 4 = payload.length ∧ 8 + payload.length ≤ (src.drop r.pos).length ∧
    ((src.drop r.pos).drop 8).take payload.length = payload := by
  obtain ⟨hhere, hpos, hsmall, -, -, hfits⟩ := h
  rw [hhere]
  have hraw : leAt (blockHeader ty raw payload.length ++ payload ++ tail) 2 2 = (raw - 1) % 256 ^ 2 := leNat_leBytes (raw - 1) 2
  have hlen : leAt (blockHeader ty raw payload.length ++ payload ++ tail) 4 4 = payload.length % 256 ^ 4 :=
    leNat_leBytes payload.length 4
  refine ⟨rfl, rfl, by omega, by omega, ?_, ?_⟩
  · simp [blockHeader]; omega
  · show (payload ++ tail).take payload.length = payload
    rw [List.take_left]

theorem length_block (ty : Byte) (n m : Nat) (payload : List Byte) :
    (blockHeader ty n m ++ payload).length = 8 + payload.length := List.length_append

/-- R477: a step reads a stored block, and the dictionary starts anew. -/
theorem fullerStep_stored (h : AtBlock src r 2 raw payload tail) (hlen : payload.length = raw) :
    fullerStep src r = .ok (.block (r.after (blockHeader 2 raw payload.length ++ payload) true [] payload) payload) := by
  obtain ⟨hty, hzero, hraw, hpay, hroom, htake⟩ := h.fields
  have hwhole := h.whole
  have hfree := h.room
  rw [fullerStep]
  simp only [hty, hzero, hraw, hpay, htake]
  rw [if_neg (by omega), if_neg (by decide), if_neg (by simp; omega), if_neg (by omega), if_pos (by decide),
    FullerRun.after, length_block, hlen, Nat.add_assoc r.pos]
  rfl

/-- R477, R480: a step decodes a compressed block. -/
theorem fullerStep_compressed (h : AtBlock src r 1 raw payload tail) {out : List Byte} {d : FullerDict}
    (hdec : decodeBlock r.width r.dict payload = .ok (out, d)) (hlen : out.length = raw) :
    fullerStep src r = .ok (.block (r.after (blockHeader 1 raw payload.length ++ payload) false d out) out) := by
  obtain ⟨hty, hzero, hraw, hpay, hroom, htake⟩ := h.fields
  have hwhole := h.whole
  have hfree := h.room
  rw [fullerStep]
  simp only [hty, hzero, hraw, hpay, htake, hdec]
  rw [if_neg (by omega), if_neg (by decide), if_neg (by simp; omega), if_neg (by omega), if_neg (by decide), if_pos hlen,
    FullerRun.after, length_block, hlen, Nat.add_assoc r.pos]
  rfl

/-- A step reads the block that the compressor wrote where the run stands. -/
theorem fullerStep_encodeBlock {data : List Byte} (hw : 9 ≤ r.width) (hd : nextFree r.dict ≤ 2 ^ r.width)
    (hsrc : src.drop r.pos = (encodeBlock r.width r.dict data).1 ++ tail) (hpos : 0 < data.length)
    (hsmall : data.length ≤ 65536) (hroom : r.outLen + data.length ≤ r.rawLength)
    (hwhole : data.length = 65536 ∨ r.outLen + data.length = r.rawLength) :
    let b := encodeBlock r.width r.dict data
    fullerStep src r = .ok (.block (r.after b.1 b.2.1 b.2.2 data) data) := by
  simp only [encodeBlock_eq] at hsrc ⊢
  split at hsrc
  · rename_i h
    rw [if_pos h]
    exact fullerStep_compressed ⟨hsrc, hpos, hsmall, hroom, hwhole, h.le⟩ (decodeBlock_blockPayload hw hd data) rfl
  · rename_i h
    rw [if_neg h]
    exact fullerStep_stored ⟨hsrc, hpos, hsmall, hroom, hwhole, Nat.le_refl _⟩ rfl

/-- The dictionary that a block leaves does not pass the code width. -/
theorem nextFree_encodeBlock {w : Nat} (hw : 9 ≤ w) {d : FullerDict} (hd : nextFree d ≤ 2 ^ w) (data : List Byte) :
    nextFree (encodeBlock w d data).2.2 ≤ 2 ^ w := by
  rw [encodeBlock_eq]
  split
  · exact (blockCodes_lt hw data hd).2
  · exact Nat.le_trans (by decide : nextFree [] ≤ 2 ^ 9) (Nat.pow_le_pow_right (by decide) hw)

end

/-! ## The trailer and the checksum -/

theorem crcShift_lt (k : Nat) {c : Nat} (h : c < 2 ^ 32) : crcShift k c < 2 ^ 32 := by
  induction k generalizing c with
  | zero => exact h
  | succ k ih =>
    have hhalf : c / 2 < 2 ^ 32 := by omega
    refine ih ?_
    split
    · exact Nat.xor_lt_two_pow hhalf (by decide)
    · exact hhalf

theorem crcRun_lt {c : Nat} (h : c < 2 ^ 32) (bs : List Byte) : crcRun c bs < 2 ^ 32 := by
  unfold crcRun
  induction bs generalizing c with
  | nil => exact h
  | cons b bs ih =>
    have hb : b.toNat < 2 ^ 32 := by have := b.isLt; omega
    exact ih (crcShift_lt 8 (Nat.xor_lt_two_pow h hb))

theorem crcRun_append (c : Nat) (as bs : List Byte) : crcRun c (as ++ bs) = crcRun (crcRun c as) bs := List.foldl_append

theorem crc32c_lt (bs : List Byte) : crc32c bs < 2 ^ 32 := Nat.xor_lt_two_pow (crcRun_lt (by decide) bs) (by decide)

/-- R478: a step at the trailer ends the stream, where all data has come with its checksum. -/
theorem fullerStep_trailer {src : List Byte} {r : FullerRun} {crc : Nat} (hsrc : src.drop r.pos = fullerTrailer crc)
    (hcrc : crc < 2 ^ 32) (hsum : r.crc ^^^ 0xFFFFFFFF = crc) (hall : r.outLen = r.rawLength) :
    fullerStep src r = .ok .finished := by
  have hlen : (fullerTrailer crc).length = 8 := rfl
  have hfield : leAt (fullerTrailer crc) 4 4 = crc := (leNat_leBytes crc 4).trans (Nat.mod_eq_of_lt hcrc)
  have hty : leAt (fullerTrailer crc) 0 1 = 0 := rfl
  have hzero : leAt (fullerTrailer crc) 1 3 = 0 := rfl
  rw [fullerStep]
  simp only [hsrc, hlen, hty, hzero, hfield, hsum, hall]
  rw [if_neg (by decide), if_pos trivial, if_neg (by simp), if_neg (by simp), if_neg (by simp)]

/-! ## The whole stream -/

/-- The blocks and the trailer of the data that is left give that data. -/
theorem fullerLoop_encodeBlocks {src : List Byte} (fuel : Nat) {data : List Byte} {r : FullerRun} {out : List (List Byte)}
    (hw : 9 ≤ r.width) (hd : nextFree r.dict ≤ 2 ^ r.width) {crc : Nat} (hcrc : crc < 2 ^ 32)
    (hsrc : src.drop r.pos = (encodeBlocks r.width fuel r.dict data).1 ++ fullerTrailer crc)
    (hsum : crcRun r.crc data ^^^ 0xFFFFFFFF = crc) (hall : r.outLen + data.length = r.rawLength)
    (hfuel : fuel = ceilDiv data.length 65536) :
    fullerLoop src (fuel + 1) r out = .ok (out.reverse.flatten ++ data) := by
  induction fuel generalizing data r out with
  | zero =>
    obtain rfl : data = [] := List.eq_nil_of_length_eq_zero (by unfold ceilDiv at hfuel; omega)
    rw [fullerLoop, fullerStep_trailer hsrc hcrc hsum hall, List.append_nil]
  | succ fuel ih =>
    have hpos : 0 < data.length := by unfold ceilDiv at hfuel; omega
    have hne : data.isEmpty = false := by cases data <;> simp at hpos ⊢
    have htake : (data.take 65536).length = min 65536 data.length := List.length_take
    rw [encodeBlocks, hne] at hsrc
    simp only [Bool.false_eq_true, if_false, List.append_assoc] at hsrc
    have hdata : (data.take 65536).length + (data.drop 65536).length = data.length := by
      rw [← List.length_append, List.take_append_drop]
    rw [fullerLoop, fullerStep_encodeBlock hw hd hsrc (by omega) (by omega) (by omega) (by omega)]
    refine (ih (data := data.drop 65536) (r := r.after _ _ _ _) hw (nextFree_encodeBlock hw hd _) ?_ ?_ ?_ ?_).trans ?_
    · rw [FullerRun.after, ← List.drop_drop, hsrc, List.drop_left]
    · rw [FullerRun.after, ← crcRun_append, List.take_append_drop, hsum]
    · show r.outLen + (data.take 65536).length + (data.drop 65536).length = r.rawLength
      omega
    · unfold ceilDiv at *
      omega
    · rw [List.reverse_cons, List.flatten_concat, List.append_assoc, List.take_append_drop]

theorem leAt_fullerHeader (w n : Nat) (tail : List Byte) (hw : w < 256) (hn : n < 2 ^ 32) :
    leAt (fullerHeader w n ++ tail) 5 1 = w ∧ leAt (fullerHeader w n ++ tail) 8 8 = n := by
  have hwidth : leAt (fullerHeader w n ++ tail) 5 1 = w % 256 := by
    show (BitVec.ofNat 8 w).toNat + 256 * 0 = _
    rw [BitVec.toNat_ofNat]
    rfl
  have hlen : leAt (fullerHeader w n ++ tail) 8 8 = n % 256 ^ 8 := leNat_leBytes n 8
  omega

/-- R476: the header opens a run at the first block. -/
theorem fullerOpen_fullerHeader {w n capacity : Nat} (tail : List Byte) (h9 : 9 ≤ w) (h16 : w ≤ 16) (hn : n < 2 ^ 32)
    (hcap : n ≤ capacity) : fullerOpen (fullerHeader w n ++ tail) capacity = .ok ⟨w, n, 16, 0, 0xFFFFFFFF, [], 0, 0⟩ := by
  obtain ⟨hwidth, hlen⟩ := leAt_fullerHeader w n tail (by omega) hn
  have hmagic : leAt (fullerHeader w n ++ tail) 0 4 = 0x524C5546 :=
    (by decide : leNat [0x46, 0x55, 0x4C, 0x52] = 0x524C5546)
  have hversion : leAt (fullerHeader w n ++ tail) 4 1 = 1 := rfl
  have hzero : leAt (fullerHeader w n ++ tail) 6 2 = 0 := rfl
  have h16' : 16 ≤ (fullerHeader w n ++ tail).length := by
    have h : (fullerHeader w n).length = 16 := rfl
    rw [List.length_append, h]
    omega
  rw [fullerOpen, if_neg (by omega)]
  simp only [hwidth, hlen, hmagic, hversion, hzero]
  rw [if_neg (by omega), if_neg (by omega)]

/-- Settles O56: the decompressor follows the compressor's dictionary, one entry behind it within a block, and level with it
at the start of every block. -/
theorem fullerRoundTrip : Obligations.FullerRoundTrip := by
  intro w capacity raw h9 h16 hlen hcap
  rw [fullerDecompress, fullerCompress, List.append_assoc, fullerOpen_fullerHeader _ h9 h16 hlen hcap]
  refine fullerLoop_encodeBlocks _ h9 ?_ (crc32c_lt raw) rfl rfl (Nat.zero_add _) rfl
  exact Nat.le_trans (by decide : nextFree [] ≤ 2 ^ 9) (Nat.pow_le_pow_right (by decide) h9)

end Sys2Proof.Machine
end

section
/-! SUPPORT. The statements of spec/00_scope.md about commands and steps: every command completes, a step runs the front of
the queue, and steps on an empty queue count time. -/

namespace Sys2Proof.Machine

/-! ## Commands -/

/-- A command that does not act while the Q9 is held is an effect of a Q9 that runs. -/
theorem exec_eq_whenLive {c : Instr} (h : actsHeld c = false) (s : State) : ∃ f, exec c s = whenLive s f := by
  cases c
  case resetAssert => cases h
  case resetRelease => cases h
  case refclkSysLoss => cases h
  case refclkSysReturn => cases h
  case tapOperation => cases h
  case rmSilent => exact ⟨fun s => enterSafe 4 (raise 969 s), rfl⟩
  case fenceSample => exact ⟨fun s => lateAtSample (fenceSample s), rfl⟩
  case ptpManagementReceive => exact ⟨fun s => s, rfl⟩
  case lanePeriodStart n =>
    exact ⟨fun s => if s.get (F.LNK_LOOP_MODE n.val) = 0 then lanePeriod n.val s else patternPeriod n.val s, rfl⟩
  case modeRequest src m =>
    cases src with
    | kcp d => exact ⟨kcpHeard 10 d, rfl⟩
    | register who => exact ⟨request who R.CHIP_MODEREQ (modeRequest who m.val), rfl⟩
  all_goals exact ⟨_, rfl⟩

/-- Reset, the system reference clock and the TAP complete too. -/
theorem exec_next_of_actsHeld {c : Instr} (h : actsHeld c = true) (s : State) : ∃ t, exec c s = .next t := by
  cases c
  case resetAssert => exact ⟨_, rfl⟩
  case resetRelease => exact ⟨_, rfl⟩
  case refclkSysLoss => exact ⟨_, rfl⟩
  case refclkSysReturn => exact ⟨_, rfl⟩
  case tapOperation => exact ⟨_, rfl⟩
  all_goals cases h

/-- Settles O1: a command is the effect of a Q9 that runs, or acts while it is held. -/
theorem everyCommandCompletes : Obligations.EveryCommandCompletes := by
  intro c s
  cases h : actsHeld c
  · obtain ⟨f, hf⟩ := exec_eq_whenLive h s
    exact ⟨_, hf, fun hheld _ => if_neg (by simp [hheld])⟩
  · obtain ⟨t, ht⟩ := exec_next_of_actsHeld h s
    exact ⟨t, ht, fun _ hf => by cases hf⟩

/-- Settles O2. -/
theorem stepRunsFront : Obligations.StepRunsFront := by
  intro c rest s h
  rw [step, h]

/-- Settles O3: after reset nothing is listed, in the register file and in the memories. -/
theorem resetCanonical : Obligations.ResetCanonical := by
  unfold Obligations.ResetCanonical
  rw [State.wf, State.memWf_reset]
  rfl

/-! ## A nanosecond -/

/-- What a nanosecond changes of a Q9 that runs. -/
structure Passes (s t : State) : Prop where
  now : t.now = s.now + 1
  frame : t = { s with now := t.now, time := { s.time with q := t.time.q }, struct := { s.struct with net := t.struct.net },
                       ingest := t.ingest, out := t.out }
  q : t.time.q = ((s.time.q : Int) + 2 ^ 48 + s.signedPair R.TIME_RATE_LO R.TIME_RATE_HI).toNat

/-- A Q9 that runs is neither in reset nor without its reference clock. -/
theorem live_iff (s : State) : live s = true ↔ s.pins.inReset = false ∧ s.pins.refSys = true ∧ s.pins.testEn = false := by
  simp [live, and_assoc]

/-- What a nanosecond leaves before the ports send. -/
def State.clocked (s : State) : State :=
  netTick { s with now := s.now + 1
                   time := { s.time with q := ((s.time.q : Int) + 2 ^ 48 + s.signedPair R.TIME_RATE_LO R.TIME_RATE_HI).toNat } }

theorem tick_eq {s : State} (h : live s = true) :
    tick s = (upto 0 4).foldl (fun t n => loopSend n (s.loopFrames n) (flushPort n t)) s.clocked := by
  obtain ⟨hreset, hclock, -⟩ := (live_iff s).mp h
  rw [tick, hreset, hclock]
  rfl

/-- The network leaves the ports to themselves. -/
theorem clocked_ports (s : State) : s.clocked.ingest = s.ingest ∧ s.clocked.out = s.out ∧ s.clocked.regs = s.regs := by
  have h : OnNet _ s.clocked := netTick_onNet _
  unfold OnNet at h
  rw [h]
  exact ⟨rfl, rfl, rfl⟩

theorem clocked_passes (s : State) : Passes s s.clocked := by
  have h : OnNet _ s.clocked := netTick_onNet _
  unfold OnNet at h
  exact ⟨by rw [h]; rfl, by rw [h]; rfl, by rw [h]; rfl⟩

theorem Passes.onPorts {s t u : State} (h : Passes s t) (k : OnPorts t u) : Passes s u := by
  obtain ⟨hnow, hframe, hq⟩ := h
  unfold OnPorts at k
  refine ⟨by rw [k]; exact hnow, ?_, by rw [k]; exact hq⟩
  rw [k]
  exact congrArg (fun x : State => { x with ingest := u.ingest, out := u.out }) hframe

theorem tick_passes {s : State} (h : live s = true) : Passes s (tick s) := by
  rw [tick_eq h]
  exact foldl_keeps (Passes s) _ _ (clocked_passes s) fun t n ht =>
    (ht.onPorts (flushPort_onPorts n t)).onPorts (loopSend_onPorts n _ _)

/-- No port holds a frame back, and none has a frame generator that could run. -/
def State.portsQuiet (s : State) : Prop := ∀ p, p < 4 → (s.port p).waiting = [] ∧ s.portDeaf p = false

/-- A port without a frame that waits sends none. -/
theorem flushPort_quiet {n : Nat} {s : State} (h : (s.port n).waiting = []) : flushPort n s = s := by
  rw [flushPort, h]
  rfl

/-- A port that takes frames from the wire has no generator. -/
theorem loopSend_quiet {n : Nat} {s : State} (h : s.portDeaf n = false) (before : Nat) : loopSend n before s = s := by
  have hnone : s.loopFrames n = 0 := by
    rw [State.loopFrames, h]
    rfl
  rw [loopSend, hnone, if_pos (.inl (Nat.zero_le _))]

/-- Quiet ports send nothing. -/
theorem tick_quiet {s : State} (h : live s = true) (hq : s.portsQuiet) : tick s = s.clocked := by
  obtain ⟨hingest, -, hregs⟩ := clocked_ports s
  have hport : ∀ p, s.clocked.port p = s.port p ∧ s.clocked.portDeaf p = s.portDeaf p := fun p => by
    unfold State.port State.portDeaf State.get State.word
    rw [hingest, hregs]
    exact ⟨rfl, rfl⟩
  rw [tick_eq h]
  suffices ∀ l : List Nat, (∀ n ∈ l, n < 4) →
      l.foldl (fun t n => loopSend n (s.loopFrames n) (flushPort n t)) s.clocked = s.clocked from this _ (by decide)
  intro l hl
  induction l with
  | nil => rfl
  | cons n l ih =>
    obtain ⟨hwait, hdeaf⟩ := hq n (hl n List.mem_cons_self)
    rw [List.foldl_cons, flushPort_quiet ((congrArg _ (hport n).1).trans hwait), loopSend_quiet ((hport n).2.trans hdeaf)]
    exact ih fun m hm => hl m (List.mem_cons_of_mem n hm)

/-! ## Many nanoseconds -/

theorem run_succ_of_empty {n : Nat} {s t : State} (h : s.pending = []) (hr : Reaches (tick s) n t) : Reaches s (n + 1) t := by
  unfold Reaches at hr ⊢
  have hstep : step s = .next (tick s) := by rw [step, h]
  have hrun := Host.Core.run.eq_2 Sys2Proof.core s n
  rw [show Sys2Proof.core.step s = .next (tick s) from hstep] at hrun
  exact hrun.trans hr

/-- With RATE 0 a nanosecond is one of Q9 time. -/
theorem q9_of_still {s t : State} (h : t.time.q = ((s.time.q : Int) + 2 ^ 48 + s.signedPair R.TIME_RATE_LO R.TIME_RATE_HI).toNat)
    (hlo : s.word R.TIME_RATE_LO = 0) (hhi : s.word R.TIME_RATE_HI = 0) : t.q9 = s.q9 + 1 := by
  have hrate : s.signedPair R.TIME_RATE_LO R.TIME_RATE_HI = 0 := by
    rw [State.signedPair, hlo, hhi]
    rfl
  rw [hrate] at h
  unfold State.q9
  omega

/-- Settles O5: each step is a nanosecond, which leaves a state of the same kind. -/
theorem idleStepsCountTime : Obligations.IdleStepsCountTime := by
  intro n
  induction n with
  | zero =>
    intro s _ _
    exact ⟨s, rfl, rfl, rfl, fun _ => ⟨rfl, rfl⟩, fun _ _ => rfl⟩
  | succ n ih =>
    intro s hp hl
    obtain ⟨hnow, hframe, hq⟩ := tick_passes hl
    obtain ⟨t, hrun, htnow, htframe, hquiet, htq⟩ := ih (tick s) (by rw [hframe]; exact hp) (by rw [hframe]; exact hl)
    refine ⟨t, run_succ_of_empty hp hrun, by omega, ?_, fun hports => ?_, fun hlo hhi => ?_⟩
    · rw [htframe, hframe]
    · have htick := tick_quiet hl hports
      obtain ⟨hingest, hout, hregs⟩ := clocked_ports s
      rw [htick] at hquiet
      obtain ⟨hi, ho⟩ := hquiet (by unfold State.port State.portDeaf State.get State.word; rw [hingest, hregs]; exact hports)
      exact ⟨hi.trans hingest, ho.trans hout⟩
    · have hword : ∀ a, (tick s).word a = s.word a := fun a => by rw [hframe]; rfl
      rw [htq ((hword _).trans hlo) ((hword _).trans hhi), q9_of_still hq hlo hhi]
      omega

end Sys2Proof.Machine
end

section
/-! SUPPORT. Fields, and what raising a source leaves of them: the rules that the statements of spec/17_events_errors.md and
of the chapters after it go through. -/

namespace Sys2Proof.Machine

/-! ## Fields -/

/-- Two fields that share no bit of one register. -/
abbrev Field.Apart (f g : Field) : Prop := f.addr ≠ g.addr ∨ f.hi < g.lo ∨ g.hi < f.lo

theorem State.get_set_apart (s : State) {f g : Field} (v : Nat) (h : f.Apart g)
    (hf : f.legal := by exact ⟨Nat.le_of_ble_eq_true rfl, Nat.le_of_ble_eq_true rfl⟩) : (s.set f v).get g = s.get g := by
  rcases h with h | h
  · exact s.get_set_addr f g v h
  · exact s.get_set_other f g v hf h

/-- A field reads as set where the value fits it. -/
theorem State.get_set_fits (s : State) {f : Field} {v : Nat} (hv : v < 2 ^ (f.hi + 1 - f.lo))
    (hf : f.legal := by exact ⟨Nat.le_of_ble_eq_true rfl, Nat.le_of_ble_eq_true rfl⟩) : (s.set f v).get f = v := by
  rw [s.get_set_same f v hf, Nat.mod_eq_of_lt hv]

theorem State.flag_set_apart (s : State) {f g : Field} (v : Nat) (h : f.Apart g)
    (hf : f.legal := by exact ⟨Nat.le_of_ble_eq_true rfl, Nat.le_of_ble_eq_true rfl⟩) : (s.set f v).flag g = s.flag g := by
  unfold State.flag
  rw [s.get_set_apart v h hf]

/-- A counter reads one more, or stays at its greatest value. -/
theorem State.get_bumpBy_same (s : State) {f : Field} (n : Nat)
    (hf : f.legal := by exact ⟨Nat.le_of_ble_eq_true rfl, Nat.le_of_ble_eq_true rfl⟩) :
    (s.bumpBy f n).get f = min f.max (s.get f + n) := by
  have hmax : f.max.succ = 2 ^ (f.hi + 1 - f.lo) := f.succ_max
  exact s.get_set_fits (by omega) hf

theorem State.get_bump_same (s : State) {f : Field}
    (hf : f.legal := by exact ⟨Nat.le_of_ble_eq_true rfl, Nat.le_of_ble_eq_true rfl⟩) :
    (s.bump f).get f = min f.max (s.get f + 1) := s.get_bumpBy_same 1 hf

theorem State.word_bumpBy_ne (s : State) {f : Field} {a : Nat} (n : Nat) (h : f.addr ≠ a) : (s.bumpBy f n).word a = s.word a :=
  s.word_set_ne f _ h

theorem State.word_bump_ne (s : State) {f : Field} {a : Nat} (h : f.addr ≠ a) : (s.bump f).word a = s.word a :=
  s.word_set_ne f _ h

/-- Words that read alike give fields that read alike. -/
theorem State.get_of_word {s t : State} {f : Field} (h : t.word f.addr = s.word f.addr) : t.get f = s.get f := by
  unfold State.get
  rw [h]

theorem State.flag_of_word {s t : State} {f : Field} (h : t.word f.addr = s.word f.addr) : t.flag f = s.flag f := by
  unfold State.flag
  rw [State.get_of_word h]

theorem State.flag_iff (s : State) (f : Field) : s.flag f = true ↔ s.get f = 1 := beq_iff_eq

theorem wordField_lt (v : Word) (f : Field) : wordField v f < 2 ^ (f.hi + 1 - f.lo) := slice_lt _ _ _

/-- The bit of a source and that of another. -/
theorem sourceField_apart {b : Nat → Nat} {x y : Nat} (hb : ∀ m n, b m = b n → m = n) (h : x ≠ y) :
    (sourceField b x).Apart (sourceField b y) := by
  unfold sourceField Field.Apart
  by_cases hw : x / 32 = y / 32
  · exact .inr (by dsimp only; omega)
  · exact .inl fun e => hw (hb _ _ e)

theorem sourceField_set_same (s : State) (b : Nat → Nat) (x : Nat) {v : Nat} (hv : v < 2) :
    (s.set (sourceField b x) v).get (sourceField b x) = v := by
  refine s.get_set_fits ?_ (sourceField_legal b x)
  have : (sourceField b x).hi + 1 - (sourceField b x).lo = 1 := Nat.add_sub_cancel_left _ 1
  rw [this]
  exact hv

theorem evtPend_injective (m n : Nat) (h : R.EVT_PEND m = R.EVT_PEND n) : m = n := by
  simp only [R.EVT_PEND] at h
  omega

theorem evtActive_injective (m n : Nat) (h : R.EVT_ACTIVE m = R.EVT_ACTIVE n) : m = n := by
  simp only [R.EVT_ACTIVE] at h
  omega

/-! ## What raising a source writes -/

/-- The registers that raising a source can write: the pending, group and count words, and the status, drop and merge
counters of the error log. -/
def raiseAddr (a : Nat) : Bool :=
  decide ((R.EVT_PEND 0 ≤ a ∧ a < R.EVT_EN 0) ∨ (R.EVT_GRP 0 ≤ a ∧ a < R.EVT_CLAIM) ∨ (R.EVT_CNT 0 ≤ a ∧ a < 0x20800) ∨
    (R.ERRLOG_STATUS ≤ a ∧ a ≤ R.ERRLOG_MERGED))

theorem raiseAddr_iff (a : Nat) : raiseAddr a = true ↔ (0x20000 ≤ a ∧ a < 0x20080) ∨ (0x20200 ≤ a ∧ a < 0x20300) ∨
    (0x20400 ≤ a ∧ a < 0x20800) ∨ (0x3000C ≤ a ∧ a ≤ 0x30020) := decide_eq_true_iff

theorem evtAddr_iff (a : Nat) : evtAddr a = true ↔ (0x20000 ≤ a ∧ a < 0x20800) ∨ (0x30000 ≤ a ∧ a < 0x30024) :=
  decide_eq_true_iff

/-- Nothing but registers that raising writes, and what stands behind the event controller, differs. -/
structure RaiseOnly (s t : State) : Prop where
  rest : t = { s with regs := t.regs, evt := t.evt }
  word : ∀ a, raiseAddr a = false → t.word a = s.word a

theorem RaiseOnly.refl (s : State) : RaiseOnly s s := ⟨rfl, fun _ _ => rfl⟩

theorem RaiseOnly.trans {s t u : State} (h : RaiseOnly s t) (k : RaiseOnly t u) : RaiseOnly s u :=
  ⟨by rw [k.rest, h.rest], fun a ha => (k.word a ha).trans (h.word a ha)⟩

theorem RaiseOnly.set (s : State) {f : Field} (v : Nat) (h : raiseAddr f.addr = true) : RaiseOnly s (s.set f v) :=
  ⟨rfl, fun _ ha => s.word_set_ne f v fun e => by rw [e, ha] at h; cases h⟩

theorem RaiseOnly.evt (s : State) (e : EvtState) : RaiseOnly s { s with evt := e } := ⟨rfl, fun _ _ => rfl⟩

theorem RaiseOnly.ite {s t u : State} {p : Prop} [Decidable p] (h : RaiseOnly s t) (k : RaiseOnly s u) :
    RaiseOnly s (if p then t else u) := by split <;> assumption

theorem RaiseOnly.foldl {α : Type} {s : State} (f : State → α → State) (l : List α) {t : State} (h : RaiseOnly s t)
    (hf : ∀ u, ∀ x ∈ l, RaiseOnly u (f u x)) : RaiseOnly s (l.foldl f t) := by
  induction l generalizing t with
  | nil => exact h
  | cons x l ih => exact ih (h.trans (hf t x (.head _))) fun u y hy => hf u y (.tail _ hy)

theorem RaiseOnly.get {s t : State} (h : RaiseOnly s t) {f : Field} (hf : raiseAddr f.addr = false) : t.get f = s.get f :=
  State.get_of_word (h.word _ hf)

theorem RaiseOnly.evtOnly {s t : State} (h : RaiseOnly s t) : EvtOnly s t :=
  ⟨h.rest, fun a ha => h.word a (by
    rw [← Bool.not_eq_true, evtAddr_iff] at ha
    rw [← Bool.not_eq_true, raiseAddr_iff]
    omega)⟩

/-- No source of the 1,024 but its words are those of the event controller. -/
theorem raiseAddr_source {src : Nat} (h : src < 1024) :
    raiseAddr (R.EVT_PEND (src / 32)) = true ∧ raiseAddr (R.EVT_GRP (src / 16)) = true ∧
    raiseAddr (R.EVT_CNT (src / 4)) = true := by
  simp only [raiseAddr_iff, R.EVT_PEND, R.EVT_GRP, R.EVT_CNT]
  omega

theorem startWindow_raiseOnly {src : Nat} (h : src < 1024) (s : State) : RaiseOnly s (startWindow src s) := by
  unfold startWindow
  exact .ite ((RaiseOnly.evt s _).trans (.set _ _ (raiseAddr_source h).2.1)) (.refl s)

theorem startNewWindows_raiseOnly (b : State) {l : List Nat} (s : State) (h : ∀ x ∈ l, x < 1024) :
    RaiseOnly s (startNewWindows b l s) :=
  .foldl _ l (.refl s) fun u x hx => .ite (startWindow_raiseOnly (h x hx) u) (.refl u)

theorem holdSource_raiseOnly (src : Nat) (s : State) : RaiseOnly s (holdSource src s) := by
  unfold holdSource
  exact .ite (.evt s _) (.refl s)

theorem arrive_raiseOnly {src : Nat} (h : src < 1024) (s : State) : RaiseOnly s (arrive src s) := by
  obtain ⟨hpend, -, hcnt⟩ := raiseAddr_source h
  unfold arrive
  refine RaiseOnly.trans ?_ (startNewWindows_raiseOnly _ _ (by simpa using h))
  refine RaiseOnly.trans ?_ (holdSource_raiseOnly _ _)
  exact RaiseOnly.trans (.ite (.evt s _) (.set s 1 hpend)) (.set _ _ hcnt)

theorem logDrop_raiseOnly (src n : Nat) (s : State) : RaiseOnly s (logDrop src n s) := by
  have hdrop : ∀ k, k ≤ 3 → raiseAddr (R.ERRLOG_DROP k) = true := by decide
  have hclass : lossClass src / 2 ≤ 3 := by have := lossClass_le src; omega
  have h0 : RaiseOnly s (s.bumpBy (if lossClass src % 2 = 0 then F.ERRLOG_DROP_DROP_LO (lossClass src / 2)
      else F.ERRLOG_DROP_DROP_HI (lossClass src / 2)) n) := by
    refine .set _ _ ?_
    split <;> exact hdrop _ hclass
  unfold logDrop
  exact .ite ((h0.trans (arrive_raiseOnly (by decide) _)).trans (.evt _ _)) h0

theorem report_raiseOnly (src code detail : Nat) (s : State) : RaiseOnly s (report src code detail s) := by
  unfold report
  refine .ite (.refl s) (.ite ?_ (.ite (logDrop_raiseOnly _ _ _) ?_))
  · exact (RaiseOnly.evt s _).trans (.set _ _ (by decide))
  · exact (RaiseOnly.evt s _).trans (.set _ _ (by decide))

theorem raiseWith_raiseOnly {src : Nat} (h : src < 1024) (code detail : Nat) (s : State) :
    RaiseOnly s (raiseWith src code detail s) := (arrive_raiseOnly h s).trans (report_raiseOnly _ _ _ _)

theorem raise_raiseOnly {src : Nat} (h : src < 1024) (s : State) : RaiseOnly s (raise src s) := raiseWith_raiseOnly h 0 0 s

theorem setCond_raiseOnly {src : Nat} (h : src < 1024) (on : Bool) (s : State) : RaiseOnly s (setCond src on s) := by
  unfold setCond
  exact .ite (.ite (.refl s) (raise_raiseOnly h s)) (.evt _ _)

/-- A level source is pending while its condition holds. -/
theorem isPending_level {s : State} {x : Nat} (h : isLevel x = true) : s.isPending x = s.evt.cond.contains x := if_pos h

theorem isPending_edge {s : State} {x : Nat} (h : isLevel x = false) : s.isPending x = s.flag (sourceField R.EVT_PEND x) :=
  if_neg (by simp [h])

/-- A level source's condition is set or cleared, and no other source but LOG_DROP changes. -/
theorem isPending_setCond {src x : Nat} (hl : isLevel src = true) (on : Bool) (s : State) (hx : x < 1024) (h9 : x ≠ 960) :
    (setCond src on s).isPending x = if x = src then on else s.isPending x := by
  cases on with
  | false =>
    have hclear : setCond src false s =
        { s with evt := { s.evt with cond := setErase src s.evt.cond, held := setErase src s.evt.held } } := rfl
    by_cases hlx : isLevel x = true
    · rw [hclear, isPending_level hlx, isPending_level hlx, Bool.eq_iff_iff, List.contains_iff_mem, mem_setErase]
      split <;> simp_all
    · have h : x ≠ src := fun h => hlx (h ▸ hl)
      rw [hclear, if_neg h, isPending_edge (by simpa using hlx), isPending_edge (by simpa using hlx)]
      rfl
  | true =>
    have hset : setCond src true s = if s.evt.cond.contains src then s else raise src s := rfl
    rw [hset]
    split
    · rename_i hc
      split
      · rename_i h
        rw [h, isPending_level hl, hc]
      · rfl
    · rw [isPending_raise _ _ _ hx h9]
      split <;> simp_all

/-- Nothing but what raising writes differs, and a source that no raise names stays as it is. -/
theorem isPending_of_ne {s : State} {src x : Nat} (code detail : Nat) (hx : x < 1024) (h9 : x ≠ 960) (h : x ≠ src) :
    (raiseWith src code detail s).isPending x = s.isPending x := by
  rw [isPending_raiseWith _ _ _ _ _ hx h9]
  simp [h]

theorem isPending_raise_same {src : Nat} (hsrc : src < 1024) (h9 : src ≠ 960) (s : State) : (raise src s).isPending src = true := by
  rw [isPending_raise _ _ _ hsrc h9]
  simp

/-- What the event controller changed, beside the answer that left. -/
theorem EvtOnly.answered {s t : State} (h : EvtOnly s t) (o : Output) :
    (t.emit o).out = o :: s.out ∧ EvtOnly { s with out := (t.emit o).out } (t.emit o) := by
  have hout : t.out = s.out := by rw [h.rest]
  have hrest : t.emit o = { s with regs := t.regs, evt := t.evt, out := o :: t.out } :=
    congrArg (fun u : State => { u with out := o :: t.out }) h.rest
  exact ⟨congrArg (o :: ·) hout, hrest, h.word⟩

theorem State.flag_emit (s : State) (o : Output) (f : Field) : (s.emit o).flag f = s.flag f := rfl

theorem isPending_emit (s : State) (o : Output) (x : Nat) : (s.emit o).isPending x = s.isPending x := rfl

end Sys2Proof.Machine
end

section
/-! SUPPORT. The statements of spec/17_events_errors.md: claim and completion of sources, software's own sources, the error log,
host channels and hold-off windows. -/

namespace Sys2Proof.Machine

/-! ## Claim, completion and clearing (R494, R496, R497) -/

theorem isActive_set_active (s : State) (src v x : Nat) (hv : v < 2) :
    (s.set (sourceField R.EVT_ACTIVE src) v).isActive x = if x = src then decide (v = 1) else s.isActive x := by
  unfold State.isActive State.flag
  split
  · rename_i h
    rw [h, sourceField_set_same s _ _ hv]
    exact Bool.beq_eq_decide_eq v 1
  · rename_i h
    rw [s.get_set_apart v (sourceField_apart evtActive_injective (Ne.symm h)) (sourceField_legal _ _)]

/-- A write of another register leaves the ACTIVE bits. -/
theorem isActive_congr {s t : State} {x : Nat} (h : t.word (R.EVT_ACTIVE (x / 32)) = s.word (R.EVT_ACTIVE (x / 32))) :
    t.isActive x = s.isActive x := State.flag_of_word h

theorem isPending_set_active (s : State) (src v x : Nat) (hsrc : src < 1024) (hx : x < 1024) :
    (s.set (sourceField R.EVT_ACTIVE src) v).isPending x = s.isPending x :=
  isPending_set _ _ _ _ (by simp only [sourceField, R.EVT_ACTIVE, R.EVT_PEND]; omega)

/-- Clearing PENDING of an edge source. -/
theorem isPending_set_pend (s : State) (src x : Nat) (hedge : isLevel src = false) :
    (s.set (sourceField R.EVT_PEND src) 0).isPending x = (decide (x ≠ src) && s.isPending x) := by
  by_cases hl : isLevel x = true
  · have h : x ≠ src := fun h => by rw [h, hedge] at hl; cases hl
    rw [isPending_level hl, isPending_level hl]
    simp [h]
  · rw [isPending_edge (by simpa using hl), isPending_edge (by simpa using hl)]
    unfold State.flag
    by_cases h : x = src
    · rw [h, sourceField_set_same s _ _ (by decide)]
      simp
    · rw [s.get_set_apart 0 (sourceField_apart evtPend_injective (Ne.symm h)) (sourceField_legal _ _)]
      simp [h]

theorem evtAddr_active {x : Nat} (h : x < 1024) : evtAddr (R.EVT_ACTIVE (x / 32)) = true := by
  rw [evtAddr_iff, R.EVT_ACTIVE]
  omega

theorem raiseAddr_active {x : Nat} (h : x < 1024) : raiseAddr (R.EVT_ACTIVE (x / 32)) = false := by
  rw [← Bool.not_eq_true, raiseAddr_iff, R.EVT_ACTIVE]
  omega

/-- What a claim leaves: the source ACTIVE, its target noted, and PENDING cleared of an edge source. -/
def claimed (src target : Nat) (s : State) : State :=
  let s := s.set (sourceField R.EVT_ACTIVE src) 1
  let s := { s with evt := { s.evt with claimer := tabInsert s.evt.claimer src target } }
  if isLevel src then s else s.set (sourceField R.EVT_PEND src) 0

theorem evtClaim_idle {v : Word} {s : State} (h : s.isPending (wordField v F.EVT_CLAIM_SOURCE) = false) :
    evtClaim v s = (.state, s) := if_pos (by simp [h])

theorem evtClaim_active {v : Word} {s : State} (h : s.isPending (wordField v F.EVT_CLAIM_SOURCE) = true)
    (ha : s.isActive (wordField v F.EVT_CLAIM_SOURCE) = true) : evtClaim v s = (.inUse, s) := by
  unfold evtClaim
  rw [if_neg (by simp [h]), if_pos ha]
  rfl

theorem evtClaim_takes {v : Word} {s : State} (h : s.isPending (wordField v F.EVT_CLAIM_SOURCE) = true)
    (ha : s.isActive (wordField v F.EVT_CLAIM_SOURCE) = false) :
    evtClaim v s = (.ok, claimed (wordField v F.EVT_CLAIM_SOURCE) (wordField v F.EVT_CLAIM_TARGET) s) := by
  unfold evtClaim
  rw [if_neg (by simp [h]), if_neg (by simp [ha])]
  rfl

theorem claimed_evtOnly {src : Nat} (h : src < 1024) (target : Nat) (s : State) : EvtOnly s (claimed src target s) := by
  have h0 : EvtOnly s { s.set (sourceField R.EVT_ACTIVE src) 1 with
      evt := { s.evt with claimer := tabInsert s.evt.claimer src target } } :=
    (EvtOnly.set s _ 1 (evtAddr_active h)).trans (.evt _ _)
  exact .ite h0 (h0.trans (.set _ _ 0 (evtAddr_pend h)))

theorem claimed_shows {src : Nat} (h : src < 1024) (target : Nat) (s : State) (hp : s.isPending src = true) :
    (claimed src target s).isActive src = true ∧ (claimed src target s).isPending src = isLevel src ∧
    tabFind (claimed src target s).evt.claimer src = some target ∧
    ∀ x, x < 1024 → x ≠ src →
      (claimed src target s).isPending x = s.isPending x ∧ (claimed src target s).isActive x = s.isActive x := by
  have hactive := fun x => isActive_set_active s src 1 x (by decide)
  have hpending := fun x hx => isPending_set_active s src 1 x h hx
  have hclaimer : tabFind (tabInsert s.evt.claimer src target) src = some target := by rw [tabFind_tabInsert, if_pos rfl]
  unfold claimed
  by_cases hl : isLevel src = true
  · simp only [hl, if_true]
    exact ⟨(hactive src).trans (if_pos rfl), (hpending src h).trans hp, hclaimer,
      fun x hx hne => ⟨hpending x hx, (hactive x).trans (if_neg hne)⟩⟩
  · have hedge : isLevel src = false := by simpa using hl
    simp only [hedge, Bool.false_eq_true, if_false]
    have hact : ∀ (t : State) x, x < 1024 → (t.set (sourceField R.EVT_PEND src) 0).isActive x = t.isActive x := fun t x hx =>
      isActive_congr (State.word_set_ne _ _ _ (by simp only [sourceField, R.EVT_ACTIVE, R.EVT_PEND]; omega))
    refine ⟨(hact _ src h).trans ((hactive src).trans (if_pos rfl)), (isPending_set_pend _ src src hedge).trans (by simp),
      hclaimer, fun x hx hne => ⟨(isPending_set_pend _ src x hedge).trans ?_,
        (hact _ x hx).trans ((hactive x).trans (if_neg hne))⟩⟩
    rw [decide_eq_true hne, Bool.true_and]
    exact hpending x hx

/-- R496: a claim by what its rule answers. -/
theorem claimTakesSource : Claims.ClaimTakesSource := by
  intro who v s hperm src
  have hsrc : src < 1024 := wordField_lt v F.EVT_CLAIM_SOURCE
  refine ⟨fun hp => whenLive_answers hperm (evtClaim_idle hp), fun hp ha => whenLive_answers hperm (evtClaim_active hp ha),
    fun hp ha => ⟨_, whenLive_answers hperm (evtClaim_takes hp ha), ?_⟩⟩
  obtain ⟨hactive, hpending, hclaimer, hothers⟩ := claimed_shows hsrc (wordField v F.EVT_CLAIM_TARGET) s hp
  exact ⟨hactive, hpending, hclaimer, hothers, (claimed_evtOnly hsrc _ s).answered _⟩

/-- The word of an active or pending bit is none of the group words. -/
theorem startNewWindows_keeps (b : State) {l : List Nat} (s : State) (h : ∀ x ∈ l, x < 1024) {a : Nat}
    (ha : a < R.EVT_GRP 0 ∨ R.EVT_CLAIM ≤ a) : (startNewWindows b l s).word a = s.word a := by
  unfold startNewWindows
  induction l generalizing s with
  | nil => rfl
  | cons src l ih =>
    obtain ⟨hsrc, hl⟩ := List.forall_mem_cons.mp h
    rw [List.foldl_cons, ih _ hl]
    split
    · unfold startWindow
      dsimp only
      split
      · refine State.word_set_ne _ _ _ ?_
        simp only [F.EVT_GRP_HELD, R.EVT_GRP, R.EVT_CLAIM] at ha ⊢
        omega
      · rfl
    · rfl

/-- What the completion of an active source leaves, before hold-off windows start. -/
def completed (src : Nat) (s : State) : State :=
  { s.set (sourceField R.EVT_ACTIVE src) 0 with evt := { s.evt with claimer := tabErase s.evt.claimer src } }

theorem evtDone_active {v : Word} {s : State} (h : s.isActive (wordField v F.EVT_DONE_SOURCE) = true) :
    evtDone v s = (.ok, startNewWindows s [wordField v F.EVT_DONE_SOURCE] (completed (wordField v F.EVT_DONE_SOURCE) s)) :=
  if_pos h

theorem evtDone_stray {v : Word} {s : State} (h : s.isActive (wordField v F.EVT_DONE_SOURCE) = false) :
    evtDone v s = (.ok, (s.bump F.EVT_STRAY_COUNT).set F.EVT_STRAY_LAST (wordField v F.EVT_DONE_SOURCE)) :=
  if_neg (by simp [h])

/-- R497: the completion of an active source, and of another. -/
theorem doneCompletesSource : Claims.DoneCompletesSource := by
  intro who v s hperm src
  have hsrc : src < 1024 := wordField_lt v F.EVT_DONE_SOURCE
  by_cases ha : s.isActive src = true
  · refine ⟨_, whenLive_answers hperm (evtDone_active ha), ?_⟩
    have hword : ∀ a, a < R.EVT_GRP 0 ∨ R.EVT_CLAIM ≤ a →
        (startNewWindows s [src] (completed src s)).word a = (completed src s).word a := fun a =>
      startNewWindows_keeps s (completed src s) (by simpa using hsrc)
    have hactive : ∀ x, x < 1024 → (startNewWindows s [src] (completed src s)).isActive x =
        if x = src then false else s.isActive x := fun x hx =>
      (isActive_congr (hword _ (.inl (by simp only [R.EVT_ACTIVE, R.EVT_GRP]; omega)))).trans
        (isActive_set_active s src 0 x (by decide))
    have hevt : EvtOnly s (startNewWindows s [src] (completed src s)) :=
      ((EvtOnly.set s _ 0 (evtAddr_active hsrc)).trans (.evt _ _)).trans (startNewWindows_raiseOnly s _ (by simpa using hsrc)).evtOnly
    refine ⟨(hactive src hsrc).trans (if_pos rfl), fun x hx => ⟨?_, fun hne => (hactive x hx).trans (if_neg hne)⟩, fun _ => ?_,
      fun hn => absurd ha (by rw [hn]; decide), hevt.answered _⟩
    · exact (isPending_startNewWindows s [src] _ x hx).trans (isPending_set_active s src 0 x hsrc hx)
    · refine (hword _ (.inr (by decide))).trans (s.word_set_ne _ _ ?_)
      simp only [sourceField, R.EVT_ACTIVE, R.EVT_STRAY]
      omega
  · have hidle : s.isActive src = false := by simpa using ha
    refine ⟨_, whenLive_answers hperm (evtDone_stray hidle), ?_⟩
    have hword : ∀ a, a ≠ R.EVT_STRAY → ((s.bump F.EVT_STRAY_COUNT).set F.EVT_STRAY_LAST src).word a = s.word a := fun a h =>
      (State.word_set_ne _ _ _ h.symm).trans (s.word_bump_ne h.symm)
    have hactive : ∀ x, x < 1024 → ((s.bump F.EVT_STRAY_COUNT).set F.EVT_STRAY_LAST src).isActive x = s.isActive x :=
      fun x hx => isActive_congr (hword _ (by simp only [R.EVT_ACTIVE, R.EVT_STRAY]; omega))
    have hcount : ((s.bump F.EVT_STRAY_COUNT).set F.EVT_STRAY_LAST src).get F.EVT_STRAY_COUNT =
        min 0xFFFF (s.get F.EVT_STRAY_COUNT + 1) :=
      (State.get_set_apart _ src (.inr (by decide))).trans s.get_bump_same
    have hlast : ((s.bump F.EVT_STRAY_COUNT).set F.EVT_STRAY_LAST src).get F.EVT_STRAY_LAST = src := State.get_set_fits _ hsrc
    have hpend : ∀ x, x < 1024 → R.EVT_PEND (x / 32) ≠ R.EVT_STRAY := fun x hx => by
      simp only [R.EVT_PEND, R.EVT_STRAY]
      omega
    have hevt : EvtOnly s ((s.bump F.EVT_STRAY_COUNT).set F.EVT_STRAY_LAST src) :=
      (EvtOnly.set s _ _ (by decide)).trans (.set _ _ _ (by decide))
    exact ⟨(hactive src hsrc).trans hidle, fun x hx => ⟨isPending_congr x rfl (hword _ (hpend x hx)), fun _ => hactive x hx⟩,
      fun h => absurd h ha, fun _ => ⟨hcount, hlast⟩, hevt.answered _⟩

/-- PENDING of each edge source of a list whose bit is 1 cleared. -/
def clearPend (v : Word) (l : List Nat) (s : State) : State :=
  l.foldl (fun s src => if v.toNat.testBit (src % 32) && !isLevel src then s.set (sourceField R.EVT_PEND src) 0 else s) s

theorem clearPend_cons (v : Word) (src : Nat) (l : List Nat) (s : State) : clearPend v (src :: l) s =
    clearPend v l (if v.toNat.testBit (src % 32) && !isLevel src then s.set (sourceField R.EVT_PEND src) 0 else s) := rfl

theorem evtPendClear_eq (n : Nat) (v : Word) (s : State) : evtPendClear n v s = (.ok, clearPend v (upto (32 * n) 32) s) := rfl

theorem clearPend_onRegs (v : Word) (l : List Nat) (s : State) : OnRegs s (clearPend v l s) := by
  refine foldl_keeps (fun t : State => OnRegs s t) _ l (Eq.refl s) fun t src h => ?_
  split
  · exact h.trans (OnRegs.set t _ 0)
  · exact h

theorem clearPend_word {n : Nat} (v : Word) {l : List Nat} (hl : ∀ src ∈ l, src / 32 = n) {a : Nat} (ha : a ≠ R.EVT_PEND n)
    (s : State) : (clearPend v l s).word a = s.word a := by
  induction l generalizing s with
  | nil => rfl
  | cons src l ih =>
    obtain ⟨hsrc, hl⟩ := List.forall_mem_cons.mp hl
    rw [clearPend_cons, ih hl]
    split
    · exact State.word_set_ne _ _ _ (by simp only [sourceField, hsrc]; exact ha.symm)
    · rfl

theorem isPending_clearPend (v : Word) (l : List Nat) (s : State) (x : Nat) :
    (clearPend v l s).isPending x = (s.isPending x && !(decide (x ∈ l) && v.toNat.testBit (x % 32) && !isLevel x)) := by
  induction l generalizing s with
  | nil => simp [clearPend]
  | cons src l ih =>
    rw [clearPend_cons, ih]
    by_cases hclear : (v.toNat.testBit (src % 32) && !isLevel src) = true
    · rw [if_pos hclear]
      rw [Bool.and_eq_true, Bool.not_eq_true'] at hclear
      rw [isPending_set_pend s src x hclear.2]
      by_cases hx : x = src
      · subst hx
        simp [hclear]
      · simp [hx]
    · rw [if_neg hclear]
      by_cases hx : x = src
      · subst hx
        simp only [Bool.not_eq_true] at hclear
        simp [Bool.and_assoc, hclear]
      · simp [hx]

/-- R494: the sources of a word are its 32 bits. -/
theorem pendClearsEdges : Claims.PendClearsEdges := by
  intro who n v s hperm
  have hword : ∀ src ∈ upto (32 * n.val) 32, src / 32 = n.val := fun src h => by
    rw [mem_upto] at h
    omega
  refine ⟨_, whenLive_answers hperm (evtPendClear_eq n.val v s), fun x _ => ?_, ?_, ?_, fun a ha => clearPend_word v hword ha s⟩
  · refine (isPending_clearPend v _ s x).trans ?_
    have hmem : x ∈ upto (32 * n.val) 32 ↔ x / 32 = n.val := by
      rw [mem_upto]
      omega
    simp only [hmem]
  · rw [clearPend_onRegs v _ s]; rfl
  · rw [clearPend_onRegs v _ s]; rfl

/-- Settles O23. -/
theorem sourcesAreClaimedAndCompleted : Obligations.SourcesAreClaimedAndCompleted :=
  ⟨claimTakesSource, doneCompletesSource, pendClearsEdges⟩

end Sys2Proof.Machine
end

section
/-! SUPPORT. Software's own sources, the error log, host channels and hold-off windows (spec/17_events_errors.md R500 to
R508). -/

namespace Sys2Proof.Machine

/-! ## Software's own sources (R504) -/

/-- Sources raised by the bits of a value, from a list of bit numbers. -/
def raiseBits (v : Word) (l : List Nat) (s : State) : State :=
  l.foldl (fun s i => if v.toNat.testBit i then raise (992 + i) s else s) s

theorem raiseBits_cons (v : Word) (i : Nat) (l : List Nat) (s : State) :
    raiseBits v (i :: l) s = raiseBits v l (if v.toNat.testBit i then raise (992 + i) s else s) := rfl

theorem evtSwset_eq (v : Word) (s : State) : evtSwset v s = (.ok, raiseBits v (upto 0 16) s) := rfl

theorem isPending_raiseBits (v : Word) (l : List Nat) (s : State) {x : Nat} (hx : x < 1024) (h9 : x ≠ 960) :
    (raiseBits v l s).isPending x =
      (s.isPending x || (decide (992 ≤ x ∧ x - 992 ∈ l) && v.toNat.testBit (x - 992))) := by
  induction l generalizing s with
  | nil => simp [raiseBits]
  | cons i l ih =>
    rw [raiseBits_cons, ih, Bool.eq_iff_iff]
    by_cases hi : v.toNat.testBit i = true
    · rw [if_pos hi, isPending_raise _ _ _ hx h9]
      simp only [Bool.or_eq_true, Bool.and_eq_true, decide_eq_true_iff, List.mem_cons]
      constructor
      · rintro ((rfl | h) | ⟨⟨h, hm⟩, hb⟩)
        · exact .inr ⟨⟨by omega, .inl (by omega)⟩, by rwa [show 992 + i - 992 = i by omega]⟩
        · exact .inl h
        · exact .inr ⟨⟨h, .inr hm⟩, hb⟩
      · rintro (h | ⟨⟨h, rfl | hm⟩, hb⟩)
        · exact .inl (.inr h)
        · exact .inl (.inl (by omega))
        · exact .inr ⟨⟨h, hm⟩, hb⟩
    · rw [if_neg hi]
      simp only [Bool.or_eq_true, Bool.and_eq_true, decide_eq_true_iff, List.mem_cons]
      constructor
      · rintro (h | ⟨⟨h, hm⟩, hb⟩)
        · exact .inl h
        · exact .inr ⟨⟨h, .inr hm⟩, hb⟩
      · rintro (h | ⟨⟨h, rfl | hm⟩, hb⟩)
        · exact .inl h
        · exact absurd hb hi
        · exact .inr ⟨⟨h, hm⟩, hb⟩

theorem raiseBits_raiseOnly (v : Word) {l : List Nat} (hl : ∀ i ∈ l, i < 32) (s : State) : RaiseOnly s (raiseBits v l s) :=
  .foldl _ l (.refl s) fun u i hi => .ite (raise_raiseOnly (by have := hl i hi; omega) u) (.refl u)

/-- Conditions set and cleared by the bits of a value, from a list of bit numbers. -/
def setConds (v : Word) (l : List Nat) (s : State) : State :=
  l.foldl (fun s i => setCond (1008 + i) (v.toNat.testBit i) s) s

theorem setConds_cons (v : Word) (i : Nat) (l : List Nat) (s : State) :
    setConds v (i :: l) s = setConds v l (setCond (1008 + i) (v.toNat.testBit i) s) := rfl

theorem evtSwlevel_eq (v : Word) (s : State) : evtSwlevel v s =
    (.ok, setConds v (upto 0 16) (s.set F.EVT_SWLEVEL_CONDITION (wordField v F.EVT_SWLEVEL_CONDITION))) := rfl

theorem isLevel_software {i : Nat} (h : i < 16) : isLevel (1008 + i) = true := by
  unfold isLevel
  rw [Bool.or_eq_true, decide_eq_true_iff]
  omega

theorem isPending_setConds (v : Word) {l : List Nat} (hl : ∀ i ∈ l, i < 16) (s : State) {x : Nat} (hx : x < 1024) (h9 : x ≠ 960) :
    (setConds v l s).isPending x = if 1008 ≤ x ∧ x - 1008 ∈ l then v.toNat.testBit (x - 1008) else s.isPending x := by
  induction l generalizing s with
  | nil => simp [setConds]
  | cons i l ih =>
    obtain ⟨hi, hl⟩ := List.forall_mem_cons.mp hl
    rw [setConds_cons, ih hl, isPending_setCond (isLevel_software hi) _ _ hx h9]
    by_cases hm : 1008 ≤ x ∧ x - 1008 ∈ l
    · rw [if_pos hm, if_pos ⟨hm.1, .tail _ hm.2⟩]
    · rw [if_neg hm]
      by_cases hxi : x = 1008 + i
      · have hi' : x - 1008 = i := by omega
        rw [if_pos hxi, if_pos ⟨by omega, hi' ▸ .head _⟩, hi']
      · rw [if_neg hxi, if_neg]
        rintro ⟨h, hmem⟩
        rcases List.mem_cons.mp hmem with h' | h'
        · omega
        · exact hm ⟨h, h'⟩

theorem setConds_raiseOnly (v : Word) {l : List Nat} (hl : ∀ i ∈ l, i < 16) (s : State) : RaiseOnly s (setConds v l s) :=
  .foldl _ l (.refl s) fun u i hi => setCond_raiseOnly (by have := hl i hi; omega) _ u

/-- Settles O24. -/
theorem softwareRaisesSources : Obligations.SoftwareRaisesSources := by
  intro who v s
  have hbits : ∀ i ∈ upto 0 16, i < 16 := fun i hi => by
    rw [mem_upto] at hi
    omega
  refine ⟨fun hperm => ⟨_, whenLive_answers hperm (evtSwset_eq v s), fun x hx h9 => ?_, ?_⟩,
    fun hperm => ⟨_, whenLive_answers hperm (evtSwlevel_eq v s), fun x hx h9 => ?_, ?_, ?_⟩⟩
  · refine (isPending_raiseBits v _ s hx h9).trans ?_
    have hmem : 992 ≤ x ∧ x - 992 ∈ upto 0 16 ↔ 992 ≤ x ∧ x ≤ 1007 := by
      rw [mem_upto]
      omega
    simp only [hmem]
  · exact (raiseBits_raiseOnly v (fun i hi => (hbits i hi).trans (by decide)) s).evtOnly.answered _
  · refine (isPending_setConds v hbits _ hx h9).trans ?_
    have hmem : 1008 ≤ x ∧ x - 1008 ∈ upto 0 16 ↔ 1008 ≤ x ∧ x ≤ 1023 := by
      rw [mem_upto]
      omega
    simp only [hmem]
    split
    · rfl
    · exact isPending_set _ _ _ _ (by simp only [F.EVT_SWLEVEL_CONDITION, R.EVT_SWLEVEL, R.EVT_PEND]; omega)
  · exact ((setConds_raiseOnly v hbits _).get (by decide)).trans (s.get_set_fits (wordField_lt v _))
  · exact ((EvtOnly.set s _ _ (by decide)).trans (setConds_raiseOnly v hbits _).evtOnly).answered _

/-! ## The error log (R493, R507, R508) -/

theorem startNewWindows_cons (b : State) (src : Nat) (l : List Nat) (s : State) :
    startNewWindows b (src :: l) s = startNewWindows b l (if newlyVisible b s src then startWindow src s else s) := rfl

/-- A window's start writes HELD of its group alone. -/
theorem get_startWindow {f : Field} {src : Nat} (hf : (F.EVT_GRP_HELD (src / 16)).Apart f) (s : State) :
    (startWindow src s).get f = s.get f := by
  unfold startWindow
  dsimp only
  split
  · exact State.get_set_apart _ _ hf
  · rfl

theorem get_startNewWindows {f : Field} (b : State) {l : List Nat} (hf : ∀ src ∈ l, (F.EVT_GRP_HELD (src / 16)).Apart f)
    (s : State) : (startNewWindows b l s).get f = s.get f := by
  induction l generalizing s with
  | nil => rfl
  | cons src l ih =>
    obtain ⟨hsrc, hl⟩ := List.forall_mem_cons.mp hf
    rw [startNewWindows_cons, ih hl]
    split
    · exact get_startWindow hsrc s
    · rfl

theorem queue_startWindow (src : Nat) (s : State) : (startWindow src s).evt.queue = s.evt.queue := by
  unfold startWindow
  dsimp only
  split
  · simp only [State.set_only]
  · rfl

theorem queue_startNewWindows (b : State) (l : List Nat) (s : State) : (startNewWindows b l s).evt.queue = s.evt.queue := by
  induction l generalizing s with
  | nil => rfl
  | cons src l ih =>
    rw [startNewWindows_cons, ih]
    split
    · exact queue_startWindow src s
    · rfl

/-- An arrival's steps before hold-off windows start: PENDING, COUNT, and whether the source is held. -/
def markArrival (src : Nat) (s : State) : State :=
  holdSource src (countSource src (if isLevel src then { s with evt := { s.evt with cond := setInsert src s.evt.cond } }
    else s.set (sourceField R.EVT_PEND src) 1))

theorem arrive_eq (src : Nat) (s : State) : arrive src s = startNewWindows s [src] (markArrival src s) := rfl

theorem queue_holdSource (src : Nat) (s : State) : (holdSource src s).evt.queue = s.evt.queue := by
  unfold holdSource
  split <;> rfl

theorem queue_arrive (src : Nat) (s : State) : (arrive src s).evt.queue = s.evt.queue := by
  rw [arrive_eq, queue_startNewWindows, markArrival, queue_holdSource]
  show (ite _ _ _ : State).evt.queue = _
  split <;> rfl

theorem get_holdSource (src : Nat) (s : State) (f : Field) : (holdSource src s).get f = s.get f := by
  unfold holdSource
  split <;> rfl

/-- An arrival leaves what it neither sets nor counts. -/
theorem get_arrive {src : Nat} {f : Field} (hpend : (sourceField R.EVT_PEND src).Apart f)
    (hcount : (F.EVT_CNT_COUNT (src / 4) (src % 4)).Apart f) (hheld : (F.EVT_GRP_HELD (src / 16)).Apart f) (s : State) :
    (arrive src s).get f = s.get f := by
  have hc : (F.EVT_CNT_COUNT (src / 4) (src % 4)).legal := by
    simp only [Field.legal, F.EVT_CNT_COUNT]
    omega
  rw [arrive_eq, get_startNewWindows s (by simpa using hheld), markArrival, get_holdSource]
  refine (State.get_set_apart _ _ hcount hc).trans ?_
  split
  · rfl
  · exact s.get_set_apart 1 hpend (sourceField_legal _ _)

/-- An arrival counts (R493). -/
theorem count_arrive {src : Nat} (hsrc : src < 1024) (s : State) :
    (arrive src s).get (F.EVT_CNT_COUNT (src / 4) (src % 4)) = min 255 (s.get (F.EVT_CNT_COUNT (src / 4) (src % 4)) + 1) := by
  have hc : (F.EVT_CNT_COUNT (src / 4) (src % 4)).legal := by
    simp only [Field.legal, F.EVT_CNT_COUNT]
    omega
  have hmax : (F.EVT_CNT_COUNT (src / 4) (src % 4)).max = 255 := by
    have : (F.EVT_CNT_COUNT (src / 4) (src % 4)).hi + 1 - (F.EVT_CNT_COUNT (src / 4) (src % 4)).lo = 8 := by
      simp only [F.EVT_CNT_COUNT]
      omega
    have h := (F.EVT_CNT_COUNT (src / 4) (src % 4)).succ_max
    rw [this] at h
    omega
  have hheld : (F.EVT_GRP_HELD (src / 16)).Apart (F.EVT_CNT_COUNT (src / 4) (src % 4)) :=
    .inl (by simp only [F.EVT_GRP_HELD, F.EVT_CNT_COUNT, R.EVT_GRP, R.EVT_CNT]; omega)
  rw [arrive_eq, get_startNewWindows s (by simpa using hheld), markArrival, get_holdSource, countSource, State.get_bump_same _ hc, hmax]
  split
  · rfl
  · rw [s.get_set_apart 1 (.inl (by simp only [sourceField, F.EVT_CNT_COUNT, R.EVT_PEND, R.EVT_CNT]; omega))
      (sourceField_legal _ _)]

theorem log_arrive {src : Nat} (hsrc : src < 1024) (s : State) :
    (arrive src s).flag (F.EVT_GRP_LOG (src / 16)) = s.flag (F.EVT_GRP_LOG (src / 16)) := by
  unfold State.flag
  rw [get_arrive (.inl (by simp only [sourceField, F.EVT_GRP_LOG, R.EVT_PEND, R.EVT_GRP]; omega))
    (.inl (by simp only [F.EVT_CNT_COUNT, F.EVT_GRP_LOG, R.EVT_CNT, R.EVT_GRP]; omega))
    (.inr (by simp only [F.EVT_GRP_HELD, F.EVT_GRP_LOG]; omega))]

theorem mem_insertEntry (e f : LogEntry) (q : List LogEntry) : f ∈ insertEntry e q ↔ f = e ∨ f ∈ q := by
  induction q with
  | nil => simp [insertEntry]
  | cons g q ih =>
    rw [insertEntry]
    split
    · rw [List.mem_cons, ih, List.mem_cons]
      exact or_left_comm
    · rw [List.mem_cons]

theorem length_insertEntry (e : LogEntry) (q : List LogEntry) : (insertEntry e q).length = q.length + 1 := by
  induction q with
  | nil => rfl
  | cons g q ih =>
    rw [insertEntry]
    split
    · rw [List.length_cons, ih, List.length_cons]
    · rfl

/-- The entry that a report queues. -/
def newEntry (src code detail : Nat) (s : State) : LogEntry := ⟨src, code, detail, s.now, s.seconds, s.nanos, 0, 0⟩

theorem report_queues {src code detail : Nat} {s : State} (hlog : s.flag (F.EVT_GRP_LOG (src / 16)) = true) (h9 : src < 960)
    (hmerge : s.evt.queue.any (mergesWith src code s.now) = false) (hroom : s.evt.queue.length < 64) :
    report src code detail s =
      ({ s with evt := { s.evt with queue := insertEntry (newEntry src code detail s) s.evt.queue } }).set
        F.ERRLOG_STATUS_QUEUED (insertEntry (newEntry src code detail s) s.evt.queue).length := by
  unfold report
  rw [if_neg (by rw [hlog]; rintro (h | h); exacts [h rfl, by omega]), if_neg (by simp [hmerge]), if_neg (by omega)]
  rfl

theorem raiseQueuesEntry : Claims.RaiseQueuesEntry := by
  intro src code detail s hsrc hlog hroom hnew
  have hqueue := queue_arrive src s
  have hnow : (arrive src s).now = s.now := by rw [(arrive_raiseOnly (by omega : src < 1024) s).rest]
  have hmerge : (arrive src s).evt.queue.any (mergesWith src code (arrive src s).now) = false := by
    rw [List.any_eq_false]
    intro e he hm
    simp only [mergesWith, Bool.and_eq_true, beq_iff_eq] at hm
    rw [hqueue] at he
    rcases hnew e he with h | h
    · exact h hm.1.1
    · exact h hm.1.2
  have hraise := report_queues (detail := detail) ((log_arrive (by omega) s).trans hlog) hsrc hmerge (by rw [hqueue]; exact hroom)
  have hlen : (insertEntry (newEntry src code detail (arrive src s)) (arrive src s).evt.queue).length =
      s.evt.queue.length + 1 := by
    rw [length_insertEntry, hqueue]
  refine ⟨?_, ?_, ?_⟩
  · rw [isPending_raiseWith _ _ _ _ _ (by omega) (by omega)]
    simp
  · refine Eq.trans ?_ (count_arrive (by omega : src < 1024) s)
    rw [raiseWith, hraise]
    exact State.get_set_apart _ _ (.inl (by
      simp only [F.ERRLOG_STATUS_QUEUED, F.EVT_CNT_COUNT, R.ERRLOG_STATUS, R.EVT_CNT]
      omega))
  · rw [raiseWith, hraise]
    refine ⟨hlen, ?_, ⟨_, (mem_insertEntry _ _ _).mpr (.inl rfl), rfl, rfl, rfl, hnow, rfl⟩,
      fun e he => (mem_insertEntry _ _ _).mpr (.inr (hqueue ▸ he))⟩
    rw [hlen]
    exact State.get_set_fits _ (by simp only [F.ERRLOG_STATUS_QUEUED]; omega)

/-- The log's own level sources report nothing: their conditions are an arrival at most. -/
theorem setCond_log {src : Nat} (h : 960 ≤ src ∧ src ≤ 967) (s : State) :
    setCond src true s = if s.evt.cond.contains src then s else arrive src s := by
  have hraise : raise src s = arrive src s := if_pos (.inr h)
  show (if s.evt.cond.contains src then s else raise src s) = _
  rw [hraise]

theorem queue_setCond_log {src : Nat} (h : 960 ≤ src ∧ src ≤ 967) (on : Bool) (s : State) :
    (setCond src on s).evt.queue = s.evt.queue := by
  cases on with
  | false => rfl
  | true =>
    rw [setCond_log h]
    split
    · rfl
    · exact queue_arrive src s

theorem fill_setCond_log {src : Nat} (h : 960 ≤ src ∧ src ≤ 967) (on : Bool) (s : State) :
    (setCond src on s).get F.ERRLOG_STATUS_FILL = s.get F.ERRLOG_STATUS_FILL := by
  cases on with
  | false => rfl
  | true =>
    rw [setCond_log h]
    split
    · rfl
    · refine get_arrive (.inl ?_) (.inl ?_) (.inl ?_) s
      · simp only [sourceField, F.ERRLOG_STATUS_FILL, R.EVT_PEND, R.ERRLOG_STATUS]
        omega
      · simp only [F.EVT_CNT_COUNT, F.ERRLOG_STATUS_FILL, R.EVT_CNT, R.ERRLOG_STATUS]
        omega
      · simp only [F.EVT_GRP_HELD, F.ERRLOG_STATUS_FILL, R.EVT_GRP, R.ERRLOG_STATUS]
        omega

/-- FILL and FULL set from a number of entries. -/
def showFill (fill : Nat) (s : State) : State := (s.set F.ERRLOG_STATUS_FILL fill).set F.ERRLOG_STATUS_FULL (bit (fill == 4096))

theorem logLevels_eq (s : State) : ∃ fill on on', fill = (s.word R.ERRLOG_WR - s.word R.ERRLOG_RD).toNat ∧
    logLevels s = setCond 962 on (setCond 961 on' (showFill fill s)) := by
  refine ⟨_, _, _, ?_, rfl⟩
  rw [BitVec.toNat_sub]
  have := (s.word R.ERRLOG_RD).isLt
  exact congrArg (· % 2 ^ 32) (by omega)

theorem logLevels_raiseOnly (s : State) : RaiseOnly s (logLevels s) := by
  obtain ⟨fill, on, on', -, h⟩ := logLevels_eq s
  rw [h]
  exact ((RaiseOnly.set s _ (by decide)).trans (.set _ _ (by decide))).trans
    ((setCond_raiseOnly (by decide) on' _).trans (setCond_raiseOnly (by decide) on _))

theorem queue_logLevels (s : State) : (logLevels s).evt.queue = s.evt.queue := by
  obtain ⟨fill, on, on', -, h⟩ := logLevels_eq s
  rw [h, queue_setCond_log (by decide), queue_setCond_log (by decide), showFill]
  simp only [State.set_only]

theorem fill_logLevels (s : State) :
    (logLevels s).get F.ERRLOG_STATUS_FILL = (s.word R.ERRLOG_WR - s.word R.ERRLOG_RD).toNat % 2 ^ 13 := by
  obtain ⟨fill, on, on', hfill, h⟩ := logLevels_eq s
  rw [h, fill_setCond_log (by decide), fill_setCond_log (by decide), showFill, State.get_set_apart _ _ (.inr (by decide)), hfill]
  exact s.get_set_same _ _ ⟨by decide, by decide⟩

theorem errlogRd_within {v : Word} {s : State}
    (h : (v - s.word R.ERRLOG_RD).toNat ≤ (s.word R.ERRLOG_WR - s.word R.ERRLOG_RD).toNat) :
    errlogRd v s = (.ok, logLevels (s.setWord R.ERRLOG_RD v)) := if_pos h

theorem errlogRd_beyond {v : Word} {s : State}
    (h : (s.word R.ERRLOG_WR - s.word R.ERRLOG_RD).toNat < (v - s.word R.ERRLOG_RD).toNat) : errlogRd v s = (.value, s) :=
  if_neg (Nat.not_le.mpr h)

/-- R508: the values from ERRLOG_RD to ERRLOG_WR are those whose distance from ERRLOG_RD is no more than the ring holds. -/
theorem errlogReadPointer : Claims.ErrlogReadPointer := by
  intro who v s hperm
  refine ⟨fun h => ?_, fun h => whenLive_answers hperm (errlogRd_beyond h)⟩
  have hraise := logLevels_raiseOnly (s.setWord R.ERRLOG_RD v)
  have hfill := fill_logLevels (s.setWord R.ERRLOG_RD v)
  have hrd : (s.setWord R.ERRLOG_RD v).word R.ERRLOG_RD = v := s.word_setWord_same _ _
  have hwr : (s.setWord R.ERRLOG_RD v).word R.ERRLOG_WR = s.word R.ERRLOG_WR := s.word_setWord_ne _ (by decide)
  have hevt := (EvtOnly.setWord s R.ERRLOG_RD v (by decide)).trans hraise.evtOnly
  rw [hrd, hwr] at hfill
  have hrd' : (logLevels (s.setWord R.ERRLOG_RD v)).word R.ERRLOG_RD = v := (hraise.word _ (by decide)).trans hrd
  have hwr' : (logLevels (s.setWord R.ERRLOG_RD v)).word R.ERRLOG_WR = s.word R.ERRLOG_WR :=
    (hraise.word _ (by decide)).trans hwr
  exact ⟨_, whenLive_answers hperm (errlogRd_within h), (State.word_emit _ _ _).trans hrd', (State.word_emit _ _ _).trans hwr',
    (State.get_emit _ _ _).trans hfill, hevt.answered _⟩

theorem length_entryBytes (n : Nat) (e : LogEntry) : (entryBytes n e).length = 32 := by
  simp only [entryBytes, List.length_append, length_leBytes]

/-- The first entry leaves the writer's queue. -/
def dequeue (rest : List LogEntry) (s : State) : State :=
  ({ s with evt := { s.evt with queue := rest } }).set F.ERRLOG_STATUS_QUEUED rest.length

theorem dequeue_evtOnly (rest : List LogEntry) (s : State) : EvtOnly s (dequeue rest s) :=
  (EvtOnly.evt s _).trans (.set _ _ _ (by decide))

theorem queue_dequeue (rest : List LogEntry) (s : State) : (dequeue rest s).evt.queue = rest := by
  unfold dequeue
  simp only [State.set_only]

theorem writeEntry_due {e : LogEntry} {rest : List LogEntry} {p : PoolRec} {s : State} (hq : s.evt.queue = e :: rest)
    (hp : s.lowestPool 4 = some p) (hdue : e.at_ + 1000 ≤ s.now) (hfull : s.flag F.ERRLOG_STATUS_FULL = false) :
    writeEntry s = logLevels (((dequeue rest s).hbmWrite (poolBase p + 32 * ((s.word R.ERRLOG_WR).toNat % 4096))
      (entryBytes (s.word R.ERRLOG_WR).toNat e)).setWord R.ERRLOG_WR (BitVec.ofNat 32 ((s.word R.ERRLOG_WR).toNat + 1))) := by
  have hflag : (dequeue rest s).flag F.ERRLOG_STATUS_FULL = false := (State.flag_set_apart _ _ (.inr (by decide))).trans hfull
  have hwr : (dequeue rest s).word R.ERRLOG_WR = s.word R.ERRLOG_WR := State.word_set_ne _ _ _ (by decide)
  have hcases : writeEntry s = if s.now < e.at_ + 1000 then s else
      if (dequeue rest s).flag F.ERRLOG_STATUS_FULL then logDrop e.source (1 + e.repeat_) (dequeue rest s)
      else logLevels (((dequeue rest s).hbmWrite (poolBase p + 32 * (((dequeue rest s).word R.ERRLOG_WR).toNat % 4096))
        (entryBytes ((dequeue rest s).word R.ERRLOG_WR).toNat e)).setWord R.ERRLOG_WR
          (BitVec.ofNat 32 (((dequeue rest s).word R.ERRLOG_WR).toNat + 1))) := by
    unfold writeEntry
    rw [hq, hp]
    rfl
  rw [hcases, if_neg (by omega), if_neg (by simp [hflag]), hwr]

/-- R507, R508. -/
theorem entryReachesRing : Claims.EntryReachesRing := by
  intro e rest p s hlive hq hp hdue hfull n base
  obtain ⟨t, ht⟩ : ∃ t, t = dequeue rest s := ⟨_, rfl⟩
  obtain ⟨u, hu⟩ : ∃ u, u = (t.hbmWrite base (entryBytes n e)).setWord R.ERRLOG_WR (BitVec.ofNat 32 (n + 1)) := ⟨_, rfl⟩
  have hwrite : writeEntry s = logLevels u := by rw [writeEntry_due hq hp hdue hfull, hu, ht]
  have hevt : EvtOnly s t := ht ▸ dequeue_evtOnly rest s
  have hraise := logLevels_raiseOnly u
  have hhbm : (logLevels u).hbm = (t.hbmWrite base (entryBytes n e)).hbm := by rw [hraise.rest, hu]; rfl
  have hlen := length_entryBytes n e
  have hword : (logLevels u).word R.ERRLOG_WR = BitVec.ofNat 32 (n + 1) :=
    (hraise.word _ (by decide)).trans (by rw [hu, State.word_setWord_same])
  have hqueue : (logLevels u).evt.queue = rest := by
    have hut : u.evt = t.evt := by rw [hu]; rfl
    rw [queue_logLevels, hut, ht, queue_dequeue]
  have hread : (logLevels u).hbmRead base 32 = entryBytes n e := by
    have h := hbmRead_hbmWrite_same t base (entryBytes n e)
    rw [hlen] at h
    rw [← h]
    exact hbmRead_congr fun k _ _ => by rw [hhbm]
  have hcells : ∀ a, a < base ∨ base + 32 ≤ a → cellGet ramBlank (logLevels u).hbm a = cellGet ramBlank s.hbm a := fun a ha => by
    rw [hhbm, cellGet_hbmWrite_apart t (by rw [hlen]; exact ha), hevt.rest]
  have hflash : (logLevels u).flash = s.flash := by
    have hut : u.flash = t.flash := by rw [hu]; rfl
    have hts : t.flash = s.flash := by rw [hevt.rest]
    rw [hraise.rest, ← hts]
    exact hut
  have hsram : (logLevels u).sram = s.sram := by
    have hut : u.sram = t.sram := by rw [hu]; rfl
    have hts : t.sram = s.sram := by rw [hevt.rest]
    rw [hraise.rest, ← hts]
    exact hut
  have hothers : ∀ a, evtAddr a = false → (logLevels u).word a = s.word a := fun a ha => by
    refine (hraise.evtOnly.word a ha).trans ?_
    rw [hu]
    refine (State.word_setWord_ne _ _ ?_).trans (hevt.word a ha)
    rintro rfl
    exact absurd ha (by decide)
  exact ⟨_, whenLive_next s writeEntry hlive, hwrite ▸ ⟨hword, hqueue, hread, hcells, hflash, hsram, hothers⟩⟩

/-- Settles O25. -/
theorem errorLogFillsRing : Obligations.ErrorLogFillsRing := ⟨raiseQueuesEntry, entryReachesRing, errlogReadPointer⟩

end Sys2Proof.Machine
end

section
/-! SUPPORT. Host event channels and the end of hold-off windows (spec/17_events_errors.md R500, R501). -/

namespace Sys2Proof.Machine

/-! ## Host channels (R500) -/

/-- REPEAT_MS takes a written value. -/
def takeRepeat (t : Nat) (v : Word) (s : State) : State := s.set (F.EVT_HOST_REPEAT_MS t) (wordField v (F.EVT_HOST_REPEAT_MS t))

/-- A channel bound to a session. -/
def bindChannel (t n : Nat) (s : State) : State := ((dropChannel t s).set (F.EVT_HOST_BIND t) 1).set (F.EVT_HOST_SESSION t) n

theorem evtHost_binds {n : Fin 8} {t : Nat} {v : Word} {s : State} (hfree : s.flag (F.EVT_HOST_BIND t) = false)
    (hv : wordField v (F.EVT_HOST_BIND t) = 1) :
    evtHost (.session n) t v s = (.ok, takeRepeat t v (bindChannel t n.val s)) := by
  unfold evtHost
  simp only [hfree, hv, Bool.false_and, Bool.false_eq_true, if_false, Nat.one_ne_zero]
  rfl

theorem evtHost_unbinds {n : Fin 8} {t : Nat} {v : Word} {s : State} (hbound : s.flag (F.EVT_HOST_BIND t) = true)
    (hmine : s.get (F.EVT_HOST_SESSION t) = n.val) (hv : wordField v (F.EVT_HOST_BIND t) = 0) :
    evtHost (.session n) t v s = (.ok, takeRepeat t v (unbindChannel t s)) := by
  unfold evtHost
  simp only [hbound, hmine, hv, beq_self_eq_true, Bool.not_true, Bool.and_false, Bool.false_eq_true, if_false, if_true]
  rfl

theorem evtHost_inUse {who : Requester} {t : Nat} {v : Word} {s : State} (hbound : s.flag (F.EVT_HOST_BIND t) = true)
    (hother : ∀ n, who = .session n → s.get (F.EVT_HOST_SESSION t) ≠ n.val) : evtHost who t v s = (.inUse, s) := by
  cases who with
  | firmware =>
    unfold evtHost
    simp only [hbound, Bool.not_false, Bool.and_true, if_true]
    rfl
  | session n =>
    have h : (s.get (F.EVT_HOST_SESSION t) == n.val) = false := beq_false_of_ne (hother n rfl)
    unfold evtHost
    simp only [hbound, h, Bool.not_false, Bool.and_true, if_true]
    rfl

theorem word_takeRepeat (t : Nat) (v : Word) (s : State) {a : Nat} (ha : a ≠ R.EVT_HOST t) :
    (takeRepeat t v s).word a = s.word a := s.word_set_ne _ _ ha.symm

theorem get_takeRepeat (t : Nat) (v : Word) (s : State) :
    (takeRepeat t v s).get (F.EVT_HOST_REPEAT_MS t) = wordField v (F.EVT_HOST_REPEAT_MS t) := s.get_set_fits (wordField_lt v _)

theorem bindChannel_rest (t n : Nat) (v : Word) (s : State) : takeRepeat t v (bindChannel t n s) = { s with
    regs := (takeRepeat t v (bindChannel t n s)).regs
    kcp := { s.kcp with channels := tabErase s.kcp.channels t } } :=
  show OnRegs (dropChannel t s) (takeRepeat t v (bindChannel t n s)) from
    ((OnRegs.set _ _ 1).trans (OnRegs.set _ _ n)).trans (OnRegs.set _ _ _)

theorem hostChannelBinds : Claims.HostChannelBinds := by
  intro slot who c v s t
  refine ⟨fun hperm hfree hv => ?_, fun hperm hbound hmine hv => ?_,
    fun hperm hbound hother => whenLive_answers hperm (evtHost_inUse hbound hother)⟩
  · have hbind : (takeRepeat t v (bindChannel t slot.val s)).flag (F.EVT_HOST_BIND t) = true := by
      rw [State.flag_iff, takeRepeat,
        State.get_set_apart _ _ (.inr (.inr (by simp only [F.EVT_HOST_BIND, F.EVT_HOST_REPEAT_MS]; decide))), bindChannel,
        State.get_set_apart _ _ (.inr (.inr (by simp only [F.EVT_HOST_BIND, F.EVT_HOST_SESSION]; decide)))]
      exact State.get_set_fits _ (by simp only [F.EVT_HOST_BIND]; decide)
    have hsession : (takeRepeat t v (bindChannel t slot.val s)).get (F.EVT_HOST_SESSION t) = slot.val := by
      rw [takeRepeat, State.get_set_apart _ _ (.inr (.inr (by simp only [F.EVT_HOST_SESSION, F.EVT_HOST_REPEAT_MS]; decide)))]
      exact State.get_set_fits _ slot.isLt
    have hwords : ∀ a, a ≠ R.EVT_HOST t → (takeRepeat t v (bindChannel t slot.val s)).word a = s.word a := fun a ha =>
      (word_takeRepeat t v _ ha).trans ((State.word_set_ne _ _ _ ha.symm).trans (State.word_set_ne _ _ _ ha.symm))
    exact ⟨_, whenLive_answers hperm (evtHost_binds hfree hv), (State.flag_emit _ _ _).trans hbind,
      (State.get_emit _ _ _).trans hsession, (State.get_emit _ _ _).trans (get_takeRepeat t v _),
      congrArg (fun u : State => u.emit (.status (.session slot) (R.EVT_HOST t) .ok)) (bindChannel_rest t slot.val v s),
      fun a ha => (State.word_emit _ _ _).trans (hwords a ha)⟩
  · have hbind : (takeRepeat t v (unbindChannel t s)).flag (F.EVT_HOST_BIND t) = false := by
      rw [takeRepeat, State.flag_set_apart _ _ (.inr (.inr (by simp only [F.EVT_HOST_BIND, F.EVT_HOST_REPEAT_MS]; decide))),
        unbindChannel, State.flag_set_apart _ _ (.inr (.inr (by simp only [F.EVT_HOST_BIND, F.EVT_HOST_SESSION]; decide)))]
      unfold State.flag
      rw [State.get_set_fits _ (by simp only [F.EVT_HOST_BIND]; decide)]
      rfl
    have hwords : ∀ a, a ≠ R.EVT_HOST t → (takeRepeat t v (unbindChannel t s)).word a = s.word a := fun a ha =>
      (word_takeRepeat t v _ ha).trans ((State.word_set_ne _ _ _ ha.symm).trans (State.word_set_ne _ _ _ ha.symm))
    exact ⟨_, whenLive_answers hperm (evtHost_unbinds hbound hmine hv), (State.flag_emit _ _ _).trans hbind,
      (State.get_emit _ _ _).trans (get_takeRepeat t v _), fun a ha => (State.word_emit _ _ _).trans (hwords a ha)⟩

/-! ## The end of a window (R501) -/

/-- Where HOLDOFF is 0 no window starts. -/
theorem startNewWindows_none (b : State) {l : List Nat} {s : State} (h : ∀ src ∈ l, s.get (F.EVT_GRP_HOLDOFF (src / 16)) = 0) :
    startNewWindows b l s = s := by
  induction l with
  | nil => rfl
  | cons src l ih =>
    obtain ⟨hsrc, hl⟩ := List.forall_mem_cons.mp h
    have hnone : startWindow src s = s := if_neg fun hn => hn.1 hsrc
    rw [startNewWindows_cons, hnone, ite_self, ih hl]

/-- A window ended: what it held is held no longer. -/
def releaseWindow (g : Nat) (s : State) : State :=
  ({ s with evt := { s.evt with
    window := tabErase s.evt.window g
    snap := s.evt.snap.filter (fun x => x / 16 != g)
    held := s.evt.held.filter (fun x => x / 16 != g) } }).set (F.EVT_GRP_HELD g) 0

theorem windowEndDue_due {g end_ : Nat} {s : State} (hw : tabGet none s.evt.window g = some end_) (hend : end_ ≤ s.now)
    (hh : s.get (F.EVT_GRP_HOLDOFF g) = 0) : windowEndDue g s = releaseWindow g s := by
  have hend' : windowEndDue g s = startNewWindows s (s.evt.held.filter (fun x => x / 16 == g)) (releaseWindow g s) := by
    unfold windowEndDue
    rw [hw]
    exact if_pos hend
  rw [hend']
  refine startNewWindows_none s fun src hsrc => ?_
  have hg : src / 16 = g := by simpa using (List.mem_filter.mp hsrc).2
  rw [hg, releaseWindow, State.get_set_apart _ _ (.inr (.inr (by simp only [F.EVT_GRP_HELD, F.EVT_GRP_HOLDOFF]; decide)))]
  exact hh

theorem windowReleasesHeld : Claims.WindowReleasesHeld := by
  intro g end_ s hlive hw hend hh
  refine ⟨_, whenLive_next s (windowEndDue g.val) hlive, ?_⟩
  rw [windowEndDue_due hw hend hh]
  refine ⟨?_, ?_, fun x => ?_, fun h hne => ?_, fun x hx => ?_, ?_, fun a ha => ?_⟩
  · exact (tabGet_tabErase none s.evt.window g.val g.val).trans (if_pos rfl)
  · exact State.get_set_fits _ (by simp only [F.EVT_GRP_HELD]; decide)
  · show x ∈ s.evt.held.filter (fun x => x / 16 != g.val) ↔ _
    rw [List.mem_filter, bne_iff_ne]
  · exact (tabGet_tabErase none s.evt.window g.val h).trans (if_neg hne.symm)
  · refine (isPending_set _ _ _ _ ?_).trans (isPending_congr x rfl rfl)
    have := g.isLt
    simp only [F.EVT_GRP_HELD, R.EVT_GRP, R.EVT_PEND]
    omega
  · refine (EvtOnly.evt s _).trans (.set _ _ _ ?_)
    have := g.isLt
    simp only [evtAddr_iff, F.EVT_GRP_HELD, R.EVT_GRP]
    omega
  · exact State.word_set_ne _ _ _ ha.symm

/-- Settles O26. -/
theorem hostChannelsAndWindows : Obligations.HostChannelsAndWindows := ⟨hostChannelBinds, windowReleasesHeld⟩

end Sys2Proof.Machine
end

section
/-! SUPPORT. A Q9 whose panel hold writes memory: what the statements of spec/18_modes_power_thermal.md on mode requests and
on SAFE leave out. -/

namespace Sys2Proof.Machine

/-- A Q9 of one pixel in IDLE_HOLD without an object ARMED. Frame 0 is open to the panel and complete, frame 1 is READY with
its one tile dirty; the staging pool starts at memory byte 2^25. -/
def openFrameState : State :=
  let s := ((State.reset.set F.CHIP_MODE_MODE 5).setWord (R.GEOM_W 3) 1).setWord (R.GEOM_W 4) 1
  { s.set F.CONF_STAGE_POOL_ID 2 with
    struct := { image := some ⟨1, 1, [], [], 1, [], [], [⟨2, 3, 16, 64⟩], [], [], [], []⟩ }
    conf := { frames := [(0, { state := 3, completed := true }), (1, { state := 2, dirty := [0] })] }
    panel := { opened := some { handle := 0, frameNo := 0, pushes := [] } } }

theorem live_openFrameState : live openFrameState = true := by decide +kernel

/-- The byte of memory that the nap map of frame 1 begins with. -/
def napMapByte : Nat := 41943104

theorem napMapByte_openFrameState : cellGet ramBlank openFrameState.hbm napMapByte = 0 := by decide +kernel

/-- A state in which the nap map has been written holds other bytes than before. -/
theorem not_sameMemory_of_napMap {t : State} (h : cellGet ramBlank t.hbm napMapByte = 1) : ¬ SameMemory openFrameState t := by
  rintro ⟨hhbm, -, -, -⟩
  rw [hhbm, napMapByte_openFrameState] at h
  exact absurd h (by decide)

/-- Refutes O27: where the new mode holds the panel, the open frame is discarded, and its tiles are ORed into the nap map of
the next frame, which lies in memory (R265, R347). The clause on requests says that memory stays. -/
theorem not_modesChangeOnRequest : ¬ Obligations.ModesChangeOnRequest := by
  intro h
  have hperm : Permitted .firmware R.CHIP_MODEREQ openFrameState := by
    refine ⟨live_openFrameState, ?_, ?_⟩ <;> decide +kernel
  have hpriv : (if (3 : Fin 16).val = 2 then 3 else 2) ≤ openFrameState.privilege .firmware := by decide
  have hfree : openFrameState.flag F.CHIP_MODE_PENDING = false := by decide +kernel
  have htest : openFrameState.testRuns = false := by decide +kernel
  have hmode : openFrameState.modeNow = 5 := by decide +kernel
  have hpermitted : openFrameState.requestPermitted (3 : Fin 16).val = true := by decide +kernel
  have harmed : openFrameState.armedObjects = [] := by decide +kernel
  have hcell : cellGet ramBlank (modeRequest .firmware 3 openFrameState).2.hbm napMapByte = 1 := by decide +kernel
  obtain ⟨-, -, -, hrequest⟩ := h.1 .firmware 3 openFrameState hperm hpriv
  obtain ⟨-, -, hstart⟩ := hrequest (by decide) hfree htest
  obtain ⟨t, hexec, -, -, -, -, -, hmem⟩ := hstart (by rw [hmode]; decide) (by rw [hmode]; decide) hpermitted harmed
  have ht := Host.Outcome.next.inj ((whenLive_request (f := modeRequest .firmware 3) hperm).symm.trans hexec)
  have hhbm : t.hbm = (modeRequest .firmware 3 openFrameState).2.hbm := by
    rw [← ht]
    simp only [State.emit_only]
  exact not_sameMemory_of_napMap (by rw [hhbm, hcell]) hmem

/-- Refutes O28: the decision on SAFE holds the panel, which discards the open frame, and its tiles are ORed into the nap map of
the next frame, which lies in memory (R265, R347). The clause on chip errors says that memory stays. -/
theorem not_safeIsDecided : ¬ Obligations.SafeIsDecided := by
  intro h
  have hmode : openFrameState.modeNow = 5 := by decide +kernel
  have harmed : openFrameState.armedObjects = [] := by decide +kernel
  have hcell : cellGet ramBlank (enterSafe 6 openFrameState).hbm napMapByte = 1 := by decide +kernel
  obtain ⟨-, t, hexec, -, -, -, -, -, -, -, hmem⟩ := (h.1 0 0 openFrameState live_openFrameState).2
    (by rw [hmode]; decide) (by rw [hmode]; decide) rfl harmed
  have ht := Host.Outcome.next.inj ((whenLive_next _ (enterSafe 6) live_openFrameState).symm.trans hexec)
  exact not_sameMemory_of_napMap (ht ▸ hcell) hmem

end Sys2Proof.Machine
end

section
/-! SUPPORT. Rails, thresholds and bands, and what the power of a plank engine's domain sets off (spec/18_modes_power_thermal.md
R519, R523 to R527, R582). -/

namespace Sys2Proof.Machine

/-! ## Rails (R523) -/

/-- PWR_SUPPLY as a round shows it, and the condition of SUPPLY_WARN. -/
def showRails (warn fault : Nat) (s : State) : State :=
  setCond 23 (((s.set F.PWR_SUPPLY_WARN warn).set F.PWR_SUPPLY_FAULT fault).get F.PWR_SUPPLY_WARN != 0)
    ((s.set F.PWR_SUPPLY_WARN warn).set F.PWR_SUPPLY_FAULT fault)

/-- A rail within ±10 % starts its count again. -/
def clearRail (s : State) (r : Nat) : State := { s with mode := { s.mode with railBad := tabPut 0 s.mode.railBad r 0 } }

theorem readRails_good (warn : Nat) (s : State) : readRails warn 0 s = (upto 0 7).foldl clearRail (showRails warn 0 s) := by
  unfold readRails
  simp only [Nat.zero_testBit, Bool.false_eq_true, if_false, Nat.zero_le, inf_of_le_left, (by decide : (0 : Nat) ≠ 3)]
  rfl

theorem clearRails_only (l : List Nat) (s : State) : (l.foldl clearRail s).regs = s.regs ∧ (l.foldl clearRail s).evt = s.evt :=
  foldl_keeps (fun t : State => t.regs = s.regs ∧ t.evt = s.evt) clearRail l ⟨rfl, rfl⟩ fun _ _ h => h

/-- The rails are read last. -/
theorem housekeeping_eq (readings : List (Option Int)) (warn fault : Nat) (s : State) :
    ∃ u, housekeeping readings warn fault s = readRails warn fault u := by
  unfold housekeeping
  exact ⟨_, rfl⟩

theorem housekeepingReadsRails : Claims.HousekeepingReadsRails := by
  intro readings warn s hlive
  obtain ⟨u, hu⟩ := housekeeping_eq readings warn.val 0 s
  rw [readRails_good] at hu
  obtain ⟨hregs, hevt⟩ := clearRails_only (upto 0 7) (showRails warn.val 0 u)
  have hword : ∀ a, ((upto 0 7).foldl clearRail (showRails warn.val 0 u)).word a = (showRails warn.val 0 u).word a := fun a => by
    unfold State.word
    rw [hregs]
  have hwarn : ((u.set F.PWR_SUPPLY_WARN warn.val).set F.PWR_SUPPLY_FAULT 0).get F.PWR_SUPPLY_WARN = warn.val :=
    (State.get_set_apart _ _ (.inr (by decide))).trans (u.get_set_fits warn.isLt)
  have hraise := setCond_raiseOnly (src := 23) (by decide)
    (((u.set F.PWR_SUPPLY_WARN warn.val).set F.PWR_SUPPLY_FAULT 0).get F.PWR_SUPPLY_WARN != 0)
    ((u.set F.PWR_SUPPLY_WARN warn.val).set F.PWR_SUPPLY_FAULT 0)
  have hcond : (showRails warn.val 0 u).isPending 23 = (warn.val != 0) := by
    rw [showRails, isPending_setCond (by decide) _ _ (by decide) (by decide), if_pos rfl, hwarn]
  have hpend : ((upto 0 7).foldl clearRail (showRails warn.val 0 u)).isPending 23 = (warn.val != 0) :=
    (isPending_congr 23 (congrArg EvtState.cond hevt) (hword _)).trans hcond
  refine ⟨_, whenLive_next s (housekeeping readings warn.val 0) hlive, ?_⟩
  rw [hu]
  refine ⟨(State.get_of_word (hword _)).trans ((hraise.get (by decide)).trans hwarn),
    (State.get_of_word (hword _)).trans ((hraise.get (by decide)).trans (State.get_set_fits _ (by decide))), ?_⟩
  rw [hpend, bne_iff_ne]

/-! ## Hysteresis (R526, R527) -/

/-- The band that a value reaches by its lower bounds. -/
def bandReached (v : Int) : Nat := if 380 ≤ v then 3 else if 340 ≤ v then 2 else if 280 ≤ v then 1 else 0

/-- A band falls by one where the value lies 2 °C below its lower bound. -/
def bandFall (v : Int) (b : Nat) : Nat := if b ≠ 0 ∧ v < bandBound b - 8 then b - 1 else b

theorem bandOf_eq (now : Nat) (v : Int) :
    bandOf now v = if now < bandReached v then bandReached v else bandFall v (bandFall v (bandFall v now)) := rfl

theorem bandBound_values : bandBound 1 = 280 ∧ bandBound 2 = 340 ∧ bandBound 3 = 380 := ⟨rfl, rfl, rfl⟩

/-- The bands that a value reaches are those whose lower bound it reaches. -/
theorem le_bandReached_iff {b : Nat} (v : Int) (h1 : 1 ≤ b) (h3 : b ≤ 3) : b ≤ bandReached v ↔ bandBound b ≤ v := by
  obtain ⟨hb1, hb2, hb3⟩ := bandBound_values
  obtain rfl | rfl | rfl : b = 1 ∨ b = 2 ∨ b = 3 := by omega
  all_goals
    unfold bandReached
    split_ifs <;> omega

theorem bandReached_le (v : Int) : bandReached v ≤ 3 := by
  unfold bandReached
  split_ifs <;> omega

theorem bandFall_le (v : Int) (b : Nat) : bandFall v b ≤ b := by
  unfold bandFall
  split <;> omega

/-- No fall goes below a band that the value still holds. -/
theorem le_bandFall {v : Int} {b c : Nat} (h : bandBound b - 8 ≤ v) (hc : b ≤ c) : b ≤ bandFall v c := by
  unfold bandFall
  split
  · rename_i hfall
    have : b ≠ c := fun e => by rw [e] at h; omega
    omega
  · exact hc

/-- Three falls reach the greatest band that the value still holds. -/
theorem bandFall_three {v : Int} {b now : Nat} (hnow : now ≤ 3) (hb : b ≤ now) (habove : ∀ c, b < c → c ≤ 3 → v < bandBound c - 8) :
    bandFall v (bandFall v (bandFall v now)) ≤ b := by
  have hstep : ∀ c, b < c → c ≤ 3 → bandFall v c = c - 1 := fun c hc h3 => if_pos ⟨by omega, habove c hc h3⟩
  have hone : ∀ c, c ≤ 3 → bandFall v c ≤ max b (c - 1) := fun c hc => by
    by_cases h : b < c
    · rw [hstep c h hc]
      omega
    · exact (bandFall_le v c).trans (by omega)
  have h1 := hone now hnow
  have h2 := hone _ ((bandFall_le v now).trans hnow)
  have h3 := hone _ ((bandFall_le v _).trans ((bandFall_le v now).trans hnow))
  omega

theorem bandOf_spec {now : Nat} (v : Int) (hnow : now ≤ 3) :
    bandOf now v ≤ 3 ∧
    (∀ b, 1 ≤ b → b ≤ 3 → bandBound b ≤ v → b ≤ bandOf now v) ∧
    (∀ b, 1 ≤ b → b ≤ now → bandBound b - 8 ≤ v → (∀ c, b < c → c ≤ 3 → v < bandBound c - 8) → bandOf now v = b) ∧
    (v < bandBound 1 - 8 → bandOf now v = 0) := by
  obtain ⟨hb1, hb2, hb3⟩ := bandBound_values
  have hreached := bandReached_le v
  have hfall := (bandFall_le v _).trans ((bandFall_le v _).trans (bandFall_le v now))
  have hlow : ∀ b, 1 ≤ b → b ≤ now → bandBound b - 8 ≤ v → b ≤ bandFall v (bandFall v (bandFall v now)) := fun b _ hn h =>
    le_bandFall h (le_bandFall h (le_bandFall h hn))
  have hup : ∀ b, b < 3 → (∀ c, b < c → c ≤ 3 → v < bandBound c - 8) → bandReached v ≤ b := fun b h habove => by
    by_contra hgt
    have h' := (le_bandReached_iff (b := b + 1) v (by omega) (by omega)).mp (by omega)
    have := habove (b + 1) (by omega) (by omega)
    omega
  rw [bandOf_eq]
  refine ⟨by split <;> omega, fun b h1 h3 h => ?_, fun b h1 hn h habove => ?_, fun h => ?_⟩
  · have hb := (le_bandReached_iff v h1 h3).mpr h
    split
    · exact hb
    · exact hlow b h1 (by omega) (by omega)
  · have hb : bandReached v ≤ b := by
      by_cases h3 : b < 3
      · exact hup b h3 habove
      · omega
    rw [if_neg (by omega)]
    exact Nat.le_antisymm (bandFall_three hnow hn habove) (hlow b h1 hn h)
  · have habove : ∀ c, 0 < c → c ≤ 3 → v < bandBound c - 8 := fun c h0 h3 => by
      obtain rfl | rfl | rfl : c = 1 ∨ c = 2 ∨ c = 3 := by omega
      all_goals omega
    have hr := hup 0 (by decide) habove
    rw [if_neg (by omega)]
    exact Nat.le_zero.mp (bandFall_three hnow (Nat.zero_le _) habove)

theorem thresholdsHaveHysteresis : Claims.ThresholdsHaveHysteresis := by
  refine ⟨fun on v threshold d => ⟨fun h => ?_, fun h => ?_, fun h h' => ?_⟩, fun now v hnow => bandOf_spec v hnow⟩
  · cases on
    · exact decide_eq_true h
    · exact decide_eq_true (by omega)
  · cases on
    · exact decide_eq_false (by omega)
    · exact decide_eq_false (by omega)
  · cases on
    · exact decide_eq_false (by omega)
    · exact decide_eq_true h

/-- Settles O29. -/
theorem temperatureAndRailsAreRead : Obligations.TemperatureAndRailsAreRead := ⟨housekeepingReadsRails, thresholdsHaveHysteresis⟩

/-! ## Power (R519, R582) -/

/-- A Q9 in IDLE_HOLD whose plank engine 0 waits for its domain with a BLEND of one pixel. The destination pool starts at
memory byte 0, whose byte is 1; the engine's save area lies in the pool that starts at 2^28. -/
def waitingBlendState : State :=
  { State.reset.set F.CHIP_MODE_MODE 5 with
    hbm := [(0, 1)]
    struct := { image := some ⟨1, 1, [], [], 1, [], [], [⟨2, 0, 0, 8⟩, ⟨3, 5, 128, 64⟩], [], List.replicate 120 2, [], []⟩ }
    plank := [(0, some ⟨[3, 2, 0, 64, 0, 0x00010001], 0, false, true⟩)] }

/-- Refutes O30: the plank operation that begins stages its band in the engine's save area (R279), so that memory changes as
well, which the clause on domains leaves no room for. -/
theorem not_powerChangesComplete : ¬ Obligations.PowerChangesComplete := by
  intro h
  have hlive : live waitingBlendState = true := by decide +kernel
  have hvalue : waitingBlendState.domainValue (89 : Fin 120).val = 2 := by decide +kernel
  have hdemand : waitingBlendState.demand (89 : Fin 120).val = true := by decide +kernel
  have hmode : quietMode waitingBlendState.modeNow = false := by decide +kernel
  have hcell : cellGet ramBlank (domainUp 89 waitingBlendState).hbm 294649856 ≠ cellGet ramBlank waitingBlendState.hbm 294649856 := by
    decide +kernel
  obtain ⟨t, hexec, -, hrest, -⟩ := (h.2 89 waitingBlendState hlive).2 hvalue (by decide) (by decide) hdemand hmode
  have ht := Host.Outcome.next.inj ((whenLive_next _ (domainUp 89) hlive).symm.trans hexec)
  exact hcell (by rw [ht, hrest])

end Sys2Proof.Machine
end

section
/-! SUPPORT. Reset, the loss of the reference clock, and the boot sequence (spec/21_pins_startup.md R568 to R574). -/

namespace Sys2Proof.Machine

/-! ## Reset (R573) -/

/-- The Q9 right after a reset, before its lane transmitters are in electrical idle. -/
def resetBase (cause : Nat) (held : Bool) (s : State) : State :=
  ({ State.reset with
    pins := { State.reset.pins with inReset := held, refSys := s.pins.refSys, refLane := s.pins.refLane }
    free := s.free, flash := s.flash, fuses := s.fuses, tap := s.tap, out := s.out, pending := s.pending }).set
    F.CHIP_BOOTTIME_CAUSE cause

/-- The lane transmitters of some links go to electrical idle. -/
def idleLanes (l : List Nat) (s : State) : State := l.foldl (fun t n => t.emit (.laneSet n "ELECTRICAL_IDLE" 0)) s

theorem resetTakes_eq (cause : Nat) (held : Bool) (s : State) :
    resetTakes cause held s = idleLanes (upto 0 5) (resetBase cause held (interruptWrite s)) := rfl

theorem idleLanes_rest (l : List Nat) (s : State) : idleLanes l s = { s with out := (idleLanes l s).out } := by
  unfold idleLanes
  exact foldl_keeps (fun t : State => t = { s with out := t.out }) _ l rfl fun t n h => by
    rw [h]
    rfl

theorem idleLanes_word (l : List Nat) (s : State) (a : Nat) : (idleLanes l s).word a = s.word a := by
  rw [idleLanes_rest]
  rfl

/-- Only a flash write that is under way loses its copy. -/
theorem interruptWrite_rest (s : State) : interruptWrite s = { s with flash := (interruptWrite s).flash } := by
  unfold interruptWrite State.flashErase
  split
  · split <;> rfl
  · rfl

theorem interruptWrite_idle {s : State} (h : s.siz.op ≠ 2) : interruptWrite s = s := if_neg h

theorem resetBase_word (cause : Nat) (held : Bool) (s : State) {a : Nat} (ha : a ≠ R.CHIP_BOOTTIME) :
    (resetBase cause held s).word a = regReset a := State.word_set_ne _ _ _ ha.symm

theorem resetBase_cause {cause : Nat} (held : Bool) (s : State) (h : cause < 4) :
    (resetBase cause held s).get F.CHIP_BOOTTIME_CAUSE = cause := State.get_set_fits _ h

/-- What stands after a reset: the registers, the cause, and what lies outside the reset. -/
theorem resetTakes_shows {cause : Nat} (held : Bool) (s : State) (h : cause < 4) :
    (resetTakes cause held s).get F.CHIP_BOOTTIME_CAUSE = cause ∧
    (∀ a, a ≠ R.CHIP_BOOTTIME → (resetTakes cause held s).word a = regReset a) ∧
    resetTakes cause held s = { State.reset with
      regs := (resetTakes cause held s).regs
      pins := { State.reset.pins with inReset := held, refSys := s.pins.refSys, refLane := s.pins.refLane }
      free := s.free, flash := (interruptWrite s).flash, fuses := s.fuses, tap := s.tap
      out := (resetTakes cause held s).out, pending := s.pending } := by
  have hword := fun a => idleLanes_word (upto 0 5) (resetBase cause held (interruptWrite s)) a
  have hrest := idleLanes_rest (upto 0 5) (resetBase cause held (interruptWrite s))
  rw [resetTakes_eq]
  refine ⟨(State.get_of_word (hword _)).trans (resetBase_cause held _ h),
    fun a ha => (hword a).trans (resetBase_word cause held _ ha), ?_⟩
  rw [hrest]
  unfold resetBase
  rw [interruptWrite_rest s]
  rfl

theorem resetPulseClears : Claims.ResetPulseClears := by
  intro ns s
  obtain ⟨hcause, hwords, hrest⟩ := resetTakes_shows (cause := 1) true s (by decide)
  obtain ⟨-, hwords', hrest'⟩ := resetTakes_shows (cause := 1) true { s with free := s.free + 1 } (by decide)
  refine ⟨fun h => congrArg Host.Outcome.next (if_pos h), fun h => ⟨resetTakes 1 true s, ?_, ?_⟩, fun h h' => ?_⟩
  · exact congrArg Host.Outcome.next ((if_neg (by omega)).trans (if_pos h))
  · refine ⟨by rw [hrest], hcause, hwords, by rw [hrest]; rfl, by rw [hrest]; rfl, by rw [hrest]; rfl, by rw [hrest]; rfl,
      by rw [hrest]; rfl, by rw [hrest]; rfl, fun hop => by rw [hrest, interruptWrite_idle hop], by rw [hrest], by rw [hrest]⟩
  · refine ⟨resetAssert ns s, rfl, ?_⟩
    have hdraw : resetAssert ns s = if Config.freeNat s.free % 2 = 1 then resetTakes 1 true { s with free := s.free + 1 }
        else { s with free := s.free + 1 } := (if_neg (by omega)).trans (if_neg (by omega))
    rw [hdraw]
    split
    · exact .inr ⟨by rw [hrest'], hwords'⟩
    · exact .inl rfl

/-! ## The reference clock (R568) -/

theorem clockLossResets : Claims.ClockLossResets := by
  intro s hrun
  obtain ⟨hcause, hwords, hrest⟩ := resetTakes_shows (cause := 2) false s (by decide)
  have hflash := congrArg State.flash hrest
  have hfuses := congrArg State.fuses hrest
  have hloss : refclkLoss s = { resetTakes 2 false s with pins := { (resetTakes 2 false s).pins with refSys := false } } := by
    unfold refclkLoss
    rw [if_neg (by simp [hrun])]
  refine ⟨refclkLoss s, rfl, ?_⟩
  clear hrest
  generalize resetTakes 2 false s = t at hloss hcause hwords hflash hfuses
  have hdead : live (refclkLoss s) = false := by
    rw [hloss]
    unfold live
    simp
  have hwordloss : ∀ a, (refclkLoss s).word a = t.word a := fun a => by
    rw [hloss]
    rfl
  refine ⟨by rw [hloss], (State.get_of_word (hwordloss _)).trans hcause, fun a ha => (hwordloss a).trans (hwords a ha),
    fun hop => ?_, by rw [hloss]; exact hfuses, hdead, fun who addr v => ?_⟩
  · rw [hloss]
    exact hflash.trans (by rw [interruptWrite_idle hop])
  · obtain ⟨f, hf⟩ := exec_eq_whenLive (c := .registerWrite who 32 addr v) rfl (refclkLoss s)
    rw [hf]
    exact congrArg Host.Outcome.next (if_neg (by simp [hdead]))

/-! ## The boot sequence (R569, R574) -/

/-- The straps as a start samples them. -/
theorem sampleStraps_shows (i : BootInput) (s : State) (htile : i.tileId < 4) :
    (sampleStraps i s).get F.CHIP_STRAPS_TILE_ID = i.tileId ∧ (sampleStraps i s).get F.CHIP_STRAPS_FLASH_SDR = bit i.flashSdr ∧
    (sampleStraps i s).get F.AFL_TILE_STATUS_TILE_ID = i.tileId ∧ (sampleStraps i s).modeNow = s.modeNow := by
  unfold sampleStraps
  dsimp only
  refine ⟨?_, ?_, ?_, ?_⟩
  · rw [State.get_set_apart _ _ (.inl (by decide)), State.get_set_apart _ _ (.inr (by decide))]
    exact State.get_set_fits _ htile
  · rw [State.get_set_apart _ _ (.inl (by decide))]
    exact State.get_set_fits _ (by cases i.flashSdr <;> decide)
  · exact State.get_set_fits _ (htile.trans_le (by decide))
  · unfold State.modeNow
    rw [State.get_set_apart _ _ (.inl (by decide)), State.get_set_apart _ _ (.inl (by decide)),
      State.get_set_apart _ _ (.inl (by decide))]
    rfl

/-- The load buffer's bytes lie in region memory alone. -/
theorem loadWrite_rest (b : Nat) (bs : List Byte) (s : State) : loadWrite b bs s = { s with sram := (loadWrite b bs s).sram } := by
  unfold loadWrite
  refine foldl_keeps (fun t : State => t = { s with sram := t.sram }) _ _ rfl fun t k h => ?_
  dsimp only
  split
  · rw [h]
    rfl
  · exact h

theorem readSlot_rest (source : Nat) (s : State) :
    readSlot source s = { s with struct := (readSlot source s).struct, sram := (readSlot source s).sram } ∧
    (readSlot source s).struct.load = s.struct.load := by
  unfold readSlot
  split
  · exact ⟨rfl, rfl⟩
  · rw [loadWrite_rest]
    exact ⟨rfl, rfl⟩

theorem readSlot_keeps (source : Nat) (s : State) : (readSlot source s).pins = s.pins ∧
    (readSlot source s).struct.load = s.struct.load ∧ ∀ f, (readSlot source s).flag f = s.flag f := by
  obtain ⟨hrest, hload⟩ := readSlot_rest source s
  refine ⟨by rw [hrest], hload, fun f => ?_⟩
  rw [hrest]
  rfl

/-- A load under way, before the slot is read. -/
def loadBegun (source : Nat) (boot : Bool) (other : Option Nat) (s : State) : State :=
  ((({ s with struct := { s.struct with load := some ⟨source, boot, other, s.struct.held⟩, held := [] } } : State).set
    F.IMG_STATUS_LAST source).set F.IMG_STATUS_BUSY 1).set F.IMG_STATUS_OVERRIDES 0

theorem loadStart_eq (source : Nat) (boot : Bool) (other : Option Nat) (s : State) :
    loadStart source boot other s = readSlot source (loadBegun source boot other s) := rfl

theorem loadBegun_busy (source : Nat) (boot : Bool) (other : Option Nat) (s : State) :
    (loadBegun source boot other s).flag F.IMG_STATUS_BUSY = true := by
  rw [loadBegun, State.flag_set_apart _ _ (.inr (by decide)), State.flag_iff]
  exact State.get_set_fits _ (by decide)

theorem loadStart_shows (source : Nat) (boot : Bool) (other : Option Nat) (s : State) :
    (loadStart source boot other s).pins = s.pins ∧ (loadStart source boot other s).flag F.IMG_STATUS_BUSY = true ∧
    (loadStart source boot other s).struct.load = some ⟨source, boot, other, s.struct.held⟩ := by
  obtain ⟨hpins, hload, hflag⟩ := readSlot_keeps source (loadBegun source boot other s)
  have hbegun : (loadBegun source boot other s).pins = s.pins ∧
      (loadBegun source boot other s).struct.load = some ⟨source, boot, other, s.struct.held⟩ := by
    unfold loadBegun
    simp only [State.set_only, and_self]
  rw [loadStart_eq]
  exact ⟨hpins.trans hbegun.1, (hflag _).trans (loadBegun_busy source boot other s), hload.trans hbegun.2⟩

/-- A start without TEST_EN goes on to a load, or stays at step 5 (R574). -/
theorem bootSequence_ends {i : BootInput} (h : i.testEn = false) (s : State) :
    ((bootSequence i s).pins.bootStep = 6 ∧ (bootSequence i s).flag F.IMG_STATUS_BUSY = true ∧
      ∃ l, (bootSequence i s).struct.load = some l ∧ l.boot = true) ∨
    ((bootSequence i s).pins.bootStep = 5 ∧ (bootSequence i s).memoryRuns = false) := by
  obtain ⟨u, hu⟩ : ∃ u, bootSequence i s = if (atStep 5 u).memoryRuns then bootLoad (atStep 6 (atStep 5 u)) else atStep 5 u := by
    unfold bootSequence
    rw [h]
    exact ⟨_, rfl⟩
  rw [hu]
  split
  · obtain ⟨hpins, hbusy, hload⟩ := loadStart_shows _ true _ (atStep 6 (atStep 5 u))
    exact .inl ⟨congrArg (·.bootStep) hpins, hbusy, _, hload, rfl⟩
  · rename_i hruns
    exact .inr ⟨rfl, by simpa using hruns⟩

theorem bootRunsAfterRelease : Claims.BootRunsAfterRelease := by
  intro tile sdr sfdp r0 r1 s
  refine ⟨fun hreset hclock => ⟨⟨_, rfl, ?_⟩, ⟨_, rfl, ?_⟩⟩, fun hrun hclock => ⟨_, rfl, ?_⟩⟩
  · have hstart : resetRelease ⟨tile.val, sdr, true, sfdp, fun k => if k = 0 then r0.val else r1.val⟩ s =
        sampleStraps ⟨tile.val, sdr, true, sfdp, fun k => if k = 0 then r0.val else r1.val⟩ s :=
      (if_neg (by simp [hreset])).trans (if_neg (by simp [hclock]))
    obtain ⟨htile, hsdr, hafl, hmode⟩ :=
      sampleStraps_shows ⟨tile.val, sdr, true, sfdp, fun k => if k = 0 then r0.val else r1.val⟩ s tile.isLt
    rw [hstart]
    exact ⟨Bool.and_false _, rfl, htile, hsdr, hafl, hmode⟩
  · have hstart : resetRelease ⟨tile.val, sdr, false, sfdp, fun k => if k = 0 then r0.val else r1.val⟩ s =
        bootSequence ⟨tile.val, sdr, false, sfdp, fun k => if k = 0 then r0.val else r1.val⟩ s :=
      (if_neg (by simp [hreset])).trans (if_neg (by simp [hclock]))
    rw [hstart]
    exact bootSequence_ends rfl s
  · have hstart : refclkReturn ⟨tile.val, sdr, false, sfdp, fun k => if k = 0 then r0.val else r1.val⟩ s =
        bootSequence ⟨tile.val, sdr, false, sfdp, fun k => if k = 0 then r0.val else r1.val⟩
          { s with pins := { s.pins with refSys := true } } :=
      (if_neg (by simp [hclock])).trans (if_neg (by simp [hrun]))
    rw [hstart]
    exact bootSequence_ends rfl _

/-- Settles O31. -/
theorem resetClearsAndBoots : Obligations.ResetClearsAndBoots := ⟨resetPulseClears, clockLossResets, bootRunsAfterRelease⟩

end Sys2Proof.Machine
end

section
/-! SUPPORT. TE edges, the fence and the build deadline (spec/11_time_presentation.md R373 to R381, spec/10_panel_protocol.md
R340). -/

namespace Sys2Proof.Machine

/-! ## Memory, and words that one field fills -/

theorem sameMemory_of_eq {s t : State} (hhbm : t.hbm = s.hbm) (hpoison : t.poison = s.poison) (hflash : t.flash = s.flash)
    (hsram : t.sram = s.sram) : SameMemory s t :=
  ⟨fun a => by rw [hhbm], hpoison, fun a => by rw [hflash], fun a => by rw [hsram]⟩

theorem RaiseOnly.sameMemory {s t : State} (h : RaiseOnly s t) : SameMemory s t := by
  rw [h.rest]
  exact sameMemory_of_eq rfl rfl rfl rfl

theorem SameMemory.refl (s : State) : SameMemory s s := sameMemory_of_eq rfl rfl rfl rfl

theorem SameMemory.trans {s t u : State} (h : SameMemory s t) (k : SameMemory t u) : SameMemory s u :=
  ⟨fun a => (k.hbm a).trans (h.hbm a), k.poison.trans h.poison, fun a => (k.flash a).trans (h.flash a),
    fun a => (k.sram a).trans (h.sram a)⟩

/-- A field of all 32 bits reads as its word. -/
theorem get_whole (s : State) {f : Field} (hlo : f.lo = 0) (hhi : f.hi = 31) : s.get f = (s.word f.addr).toNat := by
  unfold State.get slice
  rw [hlo, hhi, Nat.shiftRight_zero]
  exact Nat.mod_eq_of_lt (s.word f.addr).isLt

theorem word_of_get_whole {s t : State} {f : Field} (hlo : f.lo = 0) (hhi : f.hi = 31) (h : t.get f = s.get f) :
    t.word f.addr = s.word f.addr := by
  rw [get_whole t hlo hhi, get_whole s hlo hhi] at h
  exact BitVec.eq_of_toNat_eq h

theorem OnRegs.refl (s : State) : OnRegs s s := Eq.refl _

/-! ## TE edges (R340, R357) -/

/-- The stamp of a rising edge. -/
def stampEdge (s : State) : State :=
  let u : State := { s with
    pins := { s.pins with te := true }
    panel := { s.panel with edge := some s.q9, edgeAt := s.now, edges := s.panel.edges + 1, teLost := false, sampled := false } }
  ((u.setWord R.PANEL_TES_LO (BitVec.ofNat 32 s.seconds)).setWord R.PANEL_TES_HI
    (BitVec.ofNat 32 (s.seconds / 2 ^ 32))).setWord R.PANEL_TENS (BitVec.ofNat 32 s.nanos)

/-- The period that a rising edge ends. -/
def measurePeriod (e : Nat) (s : State) : State := (stampEdge s).setWord R.PANEL_TEPER (BitVec.ofNat 32 (s.q9 - e))

theorem teRise_second {e : Nat} {s : State} (he : s.panel.edge = some e) (hn : 1 ≤ s.panel.edges) :
    teRise s = if (measurePeriod e s).teOk then measurePeriod e s
      else raise 701 ((measurePeriod e s).set F.PANEL_STATUS_TE_OK 1) := by
  unfold teRise
  simp only [he]
  rw [if_pos (show s.panel.edges + 1 ≥ 2 by omega)]
  rfl

/-- The words of a rising edge, wherever nothing but PANEL_STATUS and what raising writes has changed since. -/
theorem measurePeriod_words (e : Nat) (s : State) :
    (measurePeriod e s).word R.PANEL_TES_LO = BitVec.ofNat 32 s.seconds ∧
    (measurePeriod e s).word R.PANEL_TES_HI = BitVec.ofNat 32 (s.seconds / 2 ^ 32) ∧
    (measurePeriod e s).word R.PANEL_TENS = BitVec.ofNat 32 s.nanos ∧
    (measurePeriod e s).word R.PANEL_TEPER = BitVec.ofNat 32 (s.q9 - e) ∧
    (measurePeriod e s).word R.PANEL_STATUS = s.word R.PANEL_STATUS := by
  simp only [measurePeriod, stampEdge]
  refine ⟨?_, ?_, ?_, State.word_setWord_same _ _ _, ?_⟩
  · rw [State.word_setWord_ne _ _ (by decide), State.word_setWord_ne _ _ (by decide), State.word_setWord_ne _ _ (by decide),
      State.word_setWord_same]
  · rw [State.word_setWord_ne _ _ (by decide), State.word_setWord_ne _ _ (by decide), State.word_setWord_same]
  · rw [State.word_setWord_ne _ _ (by decide), State.word_setWord_same]
  · rw [State.word_setWord_ne _ _ (by decide), State.word_setWord_ne _ _ (by decide), State.word_setWord_ne _ _ (by decide),
      State.word_setWord_ne _ _ (by decide)]
    rfl

/-- What a rising edge leaves, but for PANEL_STATUS. -/
theorem risen_shows {e : Nat} {s u t : State} (hu : ∀ a, a ≠ R.PANEL_STATUS → u.word a = (measurePeriod e s).word a)
    (hrest : u = { measurePeriod e s with regs := u.regs }) (h : RaiseOnly u t) :
    t.pins.te = true ∧ t.panel.edge = some s.q9 ∧ t.panel.sampled = false ∧
    t.word R.PANEL_TES_LO = BitVec.ofNat 32 s.seconds ∧ t.word R.PANEL_TES_HI = BitVec.ofNat 32 (s.seconds / 2 ^ 32) ∧
    t.word R.PANEL_TENS = BitVec.ofNat 32 s.nanos ∧ t.word R.PANEL_TEPER = BitVec.ofNat 32 (s.q9 - e) ∧
    t.out = s.out ∧ SameMemory s t := by
  obtain ⟨hlo, hhi, hns, hper, -⟩ := measurePeriod_words e s
  have hword : ∀ a, raiseAddr a = false → a ≠ R.PANEL_STATUS → t.word a = (measurePeriod e s).word a := fun a ha hne =>
    (h.word a ha).trans (hu a hne)
  have hmem : SameMemory s u := by
    rw [hrest]
    exact sameMemory_of_eq rfl rfl rfl rfl
  have hpins : u.pins.te = true ∧ u.panel.edge = some s.q9 ∧ u.panel.sampled = false ∧ u.out = s.out := by
    rw [hrest]
    exact ⟨rfl, rfl, rfl, rfl⟩
  obtain ⟨hte, hedge, hsampled, hout⟩ := hpins
  refine ⟨?_, ?_, ?_, (hword _ (by decide) (by decide)).trans hlo, (hword _ (by decide) (by decide)).trans hhi,
    (hword _ (by decide) (by decide)).trans hns, (hword _ (by decide) (by decide)).trans hper, ?_, hmem.trans h.sameMemory⟩
  all_goals
    rw [h.rest]
    assumption

theorem teRisingEdge_measures {e : Nat} {s : State} (hlive : live s = true) (he : s.panel.edge = some e)
    (hfence : s.fencing = false) (hn : 1 ≤ s.panel.edges) :
    Completes (exec .teRisingEdge s) (fun t =>
      t.pins.te = true ∧ t.panel.edge = some s.q9 ∧ t.panel.sampled = false ∧
      t.word R.PANEL_TES_LO = BitVec.ofNat 32 s.seconds ∧ t.word R.PANEL_TES_HI = BitVec.ofNat 32 (s.seconds / 2 ^ 32) ∧
      t.word R.PANEL_TENS = BitVec.ofNat 32 s.nanos ∧ t.word R.PANEL_TEPER = BitVec.ofNat 32 (s.q9 - e) ∧
      t.get F.PANEL_STATUS_TE_OK = 1 ∧ (s.teOk = false → t.isPending 701 = true) ∧ t.out = s.out ∧ SameMemory s t) := by
  obtain ⟨-, -, -, -, hstatus⟩ := measurePeriod_words e s
  have hok : (measurePeriod e s).teOk = s.teOk := State.flag_of_word hstatus
  have hedge : teEdge s = teRise s := if_neg (by simp [hfence])
  refine ⟨_, whenLive_next s teEdge hlive, ?_⟩
  rw [hedge, teRise_second he hn, hok]
  split
  · rename_i hteok
    obtain ⟨hte, hpe, hps, hlo, hhi, hns, hper, hout, hmem⟩ := risen_shows (fun _ _ => rfl) (OnRegs.refl _)
      (RaiseOnly.refl (measurePeriod e s))
    have hget : (measurePeriod e s).get F.PANEL_STATUS_TE_OK = 1 := (State.flag_iff _ _).mp (hok.trans hteok)
    exact ⟨hte, hpe, hps, hlo, hhi, hns, hper, hget, fun h => absurd hteok (by simp [h]), hout, hmem⟩
  · have hraise := raise_raiseOnly (src := 701) (by decide) ((measurePeriod e s).set F.PANEL_STATUS_TE_OK 1)
    obtain ⟨hte, hpe, hps, hlo, hhi, hns, hper, hout, hmem⟩ :=
      risen_shows (fun a ha => State.word_set_ne _ _ _ ha.symm) (OnRegs.set _ _ 1) hraise
    have hget := (hraise.get (f := F.PANEL_STATUS_TE_OK) (by decide)).trans (State.get_set_fits _ (by decide))
    exact ⟨hte, hpe, hps, hlo, hhi, hns, hper, hget, fun _ => isPending_raise_same (by decide) (by decide) _, hout, hmem⟩

theorem teFall_measures {e : Nat} {s : State} (he : s.panel.edge = some e) :
    teFall s = ({ s with pins := { s.pins with te := false } } : State).set F.PANEL_TEWIDTH_WIDTH_NS (min 0xFFFF (s.q9 - e)) := by
  unfold teFall
  simp only [he]
  rfl

theorem teTimeout_lost {s : State} (hlost : s.panel.teLost = false) (hper : s.tePeriod ≠ 0)
    (hdue : s.panel.edgeAt + 4 * s.tePeriod ≤ s.now) :
    teTimeout s = raise 700 ((s.withPanel { s.panel with teLost := true, edges := 0 }).set F.PANEL_STATUS_TE_OK 0) := by
  unfold teTimeout
  rw [if_neg hper, if_neg]
  rw [hlost]
  rintro (h | h)
  · cases h
  · omega

theorem teTimeout_waits {s : State} (hper : s.tePeriod ≠ 0) (hdue : s.now < s.panel.edgeAt + 4 * s.tePeriod) :
    teTimeout s = s := by
  unfold teTimeout
  rw [if_neg hper, if_pos (.inr hdue)]

theorem teIsMeasured : Claims.TeIsMeasured := by
  intro e s hlive he
  refine ⟨fun hfence hn => teRisingEdge_measures hlive he hfence hn, ⟨_, whenLive_next s teFall hlive, ?_⟩, fun hlost hper hdue => ?_,
    fun hdue hper => (whenLive_next s teTimeout hlive).trans (congrArg Host.Outcome.next (teTimeout_waits hper hdue))⟩
  · rw [teFall_measures he]
    refine ⟨State.get_set_fits _ ?_, OnRegs.set _ _ _, fun a ha => State.word_set_ne _ _ _ ha.symm⟩
    simp only [F.PANEL_TEWIDTH_WIDTH_NS]
    omega
  · refine ⟨_, whenLive_next s teTimeout hlive, ?_⟩
    rw [teTimeout_lost hlost hper hdue]
    have hraise := raise_raiseOnly (src := 700) (by decide)
      ((s.withPanel { s.panel with teLost := true, edges := 0 }).set F.PANEL_STATUS_TE_OK 0)
    have hpanel := congrArg State.panel hraise.rest
    refine ⟨(hraise.get (by decide)).trans (State.get_set_fits _ (by decide)), hpanel,
      isPending_raise_same (by decide) (by decide) _, ?_⟩
    have hevt := hraise.evtOnly
    rw [hpanel]
    exact hevt

/-! ## Words that take force -/

theorem State.commitAll_rest (s : State) (as : List Nat) :
    s.commitAll as = { s with regs := (s.commitAll as).regs, staged := (s.commitAll as).staged } :=
  foldl_keeps (fun t : State => t = { s with regs := t.regs, staged := t.staged }) _ as rfl fun t a ht => by
    unfold State.commit
    split
    · rw [ht]
      rfl
    · exact ht

theorem State.commitAll_cons (s : State) (a : Nat) (as : List Nat) : s.commitAll (a :: as) = (s.commit a).commitAll as := rfl

/-- The words of a list that are staged take force, and are staged no longer. -/
theorem State.commitAll_spec (s : State) (as : List Nat) (b : Nat) :
    (s.commitAll as).word b = (if b ∈ as then s.nextWord b else s.word b) ∧
    (s.commitAll as).stagedWord b = (if b ∈ as then none else s.stagedWord b) := by
  induction as generalizing s with
  | nil => exact ⟨(if_neg (by simp)).symm, (if_neg (by simp)).symm⟩
  | cons a as ih =>
    obtain ⟨hword, hstaged, hother⟩ := s.commit_spec a
    obtain ⟨ihword, ihstaged⟩ := ih (s.commit a)
    rw [State.commitAll_cons, ihword, ihstaged]
    by_cases hab : a = b
    · subst hab
      have hnext : (s.commit a).nextWord a = s.nextWord a := by
        rw [State.nextWord, hstaged]
        exact hword
      simp [hnext, hword, hstaged]
    · obtain ⟨hw, hs⟩ := hother b hab
      have hnext : (s.commit a).nextWord b = s.nextWord b := by rw [State.nextWord, hs, hw, State.nextWord]
      have hmem : b ∈ a :: as ↔ b ∈ as := by simp [Ne.symm hab]
      simp only [hmem, hnext, hw, hs, and_self]

/-- The staged colour words are those staged at colour addresses. -/
theorem stagedWord_of_not_mem_stagedColour {s : State} {a : Nat} (hc : isColourAddr a = true) (h : a ∉ s.stagedColour) :
    s.stagedWord a = none := by
  have hs := stagedWord_unstageColour s a
  rw [State.stagedWord_unstageAll, if_neg h, if_pos hc] at hs
  exact hs

/-! ## The fence (R373, R375) -/

/-- Nothing but a colour set waits for the fence, and no object is ARMED that takes words there. -/
structure FenceQuiet (s : State) : Prop where
  geom : s.flag F.GEOM_STATUS_PENDING = false
  load : s.conf.load = none
  records : s.siz.fence = []
  offer : s.siz.offer = false
  unarmed : ∀ k ∈ [2, 3, 4, 5], s.armedIds k = []

/-- The colour set takes force. -/
def takeColours (s : State) : State :=
  ((s.commitAll s.stagedColour).set F.CONF_COLSTATUS_PENDING 0).set F.CONF_COLSTATUS_TF_IN_FORCE
    (((s.commitAll s.stagedColour).set F.CONF_COLSTATUS_PENDING 0).get F.CONF_COLOUR_TF_SEL)

theorem colourTake_pending {s : State} (h : s.flag F.CONF_COLSTATUS_PENDING = true) : colourTake s = raise 579 (takeColours s) :=
  if_neg (by simp [h])

theorem geomTake_idle {s : State} (h : s.flag F.GEOM_STATUS_PENDING = false) : geomTake s = (false, s) := if_pos (by simp [h])

theorem takeMapRecord_idle {s : State} (hf : s.siz.fence = []) (ho : s.siz.offer = false) : takeMapRecord s = s := by
  have hnone : tabFind s.siz.fence (sizKey 6 0) = none := by rw [hf]; rfl
  unfold takeMapRecord
  simp only [hnone, ho, Bool.false_and, Bool.false_eq_true, not_false_eq_true, if_true]
  split <;> rfl

theorem mapTake_idle {s : State} (h : s.conf.load = none) : mapTake s = s := by
  unfold mapTake
  rw [h]

theorem takeMatrixRecord_idle {s : State} (hf : s.siz.fence = []) : takeMatrixRecord s = s := by
  unfold takeMatrixRecord
  rw [hf]
  rfl

theorem takeStaged_idle {s : State} (h : ∀ k ∈ [2, 3, 4, 5], s.armedIds k = []) : takeStaged s = s := by
  unfold takeStaged
  simp only [List.foldl_cons, List.foldl_nil, h 2 (by decide), h 3 (by decide), h 4 (by decide), h 5 (by decide)]

theorem takeFronts_idle {s : State} (h : s.armedIds 3 = []) : takeFronts s = s := by
  unfold takeFronts
  rw [h, List.foldl_nil]

/-- Without an ARMED output no sample map is built. -/
theorem encTrigger_idle {s : State} (h : s.armedIds 5 = []) (regs : Tab Word) : encTrigger regs s = s := by
  have hnone : s.armed 5 0 = false := by
    by_contra hn
    have hm : 0 ∈ s.armedIds 5 := List.mem_filter.mpr ⟨by decide, by simpa using hn⟩
    rw [h] at hm
    cases hm
  unfold encTrigger
  rw [hnone]
  rfl

theorem armedIds_congr {s t : State} (h : t.kcp = s.kcp) (k : Nat) : t.armedIds k = s.armedIds k := by
  unfold State.armedIds State.armed State.path
  rw [h]

theorem takeColours_rest (s : State) :
    takeColours s = { s with regs := (takeColours s).regs, staged := (takeColours s).staged } := by
  unfold takeColours
  rw [State.commitAll_rest]
  rfl

theorem takeFence_colours {s : State} (hq : FenceQuiet s) (hp : s.flag F.CONF_COLSTATUS_PENDING = true) :
    takeFence s = raise 579 (takeColours s) := by
  have hraise := raise_raiseOnly (src := 579) (by decide) (takeColours s)
  have hkcp : (raise 579 (takeColours s)).kcp = s.kcp := by
    rw [hraise.rest, takeColours_rest]
  have hunarmed : ∀ k ∈ [2, 3, 4, 5], (raise 579 (takeColours s)).armedIds k = [] := fun k hk =>
    (armedIds_congr hkcp k).trans (hq.unarmed k hk)
  unfold takeFence
  simp only [geomTake_idle hq.geom, takeMapRecord_idle hq.records hq.offer, mapTake_idle hq.load, takeMatrixRecord_idle hq.records,
    colourTake_pending hp, Bool.false_and, Bool.false_eq_true, if_false, takeFronts_idle (hunarmed 3 (by decide)),
    takeStaged_idle hunarmed, encTrigger_idle (hunarmed 5 (by decide)), ite_self]

theorem lateAtSample_idle {s : State} (hframes : s.conf.frames = []) (hopen : s.panel.opened = none) : lateAtSample s = s := by
  have hstate : ∀ h, (s.frame h).state = 0 := fun h => by
    unfold State.frame
    rw [hframes]
    rfl
  have hfold : ∀ (f : State → Nat → State) (l : List Nat), (∀ h, f s h = s) → l.foldl f s = s := fun f l hf =>
    List.foldl_fixed' hf l
  unfold lateAtSample
  dsimp only
  rw [hfold _ _ fun h => if_neg (by rw [hstate h]; omega), ite_self, hopen]

theorem colourAddr_bounds {a : Nat} (h : isColourAddr a = true) : 0x400004 ≤ a ∧ a ≠ R.CONF_COLSTATUS := by
  have hbetween : ∀ x y : Nat, (decide (x ≤ a) && decide (a ≤ y)) = true → x ≤ a ∧ a ≤ y := fun x y h => by
    simpa using h
  unfold isColourAddr at h
  rw [Bool.or_eq_true, Bool.or_eq_true, Bool.or_eq_true, beq_iff_eq] at h
  rcases h with ((rfl | h) | h) | h
  · decide
  all_goals
    have h' := hbetween _ _ h
    simp only [R.CONF_MATRIX, R.CONF_GAIN, R.CONF_TFLUT] at h'
    simp only [R.CONF_COLSTATUS]
    omega

theorem takeColours_word (s : State) {a : Nat} (ha : a ≠ R.CONF_COLSTATUS) :
    (takeColours s).word a = if a ∈ s.stagedColour then s.nextWord a else s.word a :=
  (State.word_set_ne _ _ _ ha.symm).trans ((State.word_set_ne _ _ _ ha.symm).trans (s.commitAll_spec _ a).1)

theorem takeColours_colour (s : State) {a : Nat} (hc : isColourAddr a = true) : (takeColours s).word a = s.nextWord a := by
  rw [takeColours_word s (colourAddr_bounds hc).2]
  split
  · rfl
  · rename_i h
    rw [State.nextWord, stagedWord_of_not_mem_stagedColour hc h]
    rfl

theorem takeColours_other (s : State) {a : Nat} (hc : isColourAddr a = false) (ha : a ≠ R.CONF_COLSTATUS) :
    (takeColours s).word a = s.word a := by
  rw [takeColours_word s ha, if_neg]
  intro h
  rw [(List.mem_filter.mp h).2] at hc
  cases hc

theorem takeColours_stagedWord (s : State) (a : Nat) :
    (takeColours s).stagedWord a = if isColourAddr a = true then none else s.stagedWord a := by
  refine (s.commitAll_spec s.stagedColour a).2.trans ?_
  rw [← State.stagedWord_unstageAll, stagedWord_unstageColour]

theorem takeColours_status (s : State) : (takeColours s).get F.CONF_COLSTATUS_PENDING = 0 ∧
    (takeColours s).get F.CONF_COLSTATUS_TF_IN_FORCE = s.getNext F.CONF_COLOUR_TF_SEL := by
  have hword : ((s.commitAll s.stagedColour).set F.CONF_COLSTATUS_PENDING 0).word R.CONF_COLOUR = s.nextWord R.CONF_COLOUR := by
    have h := takeColours_colour s (a := R.CONF_COLOUR) (by decide)
    exact (State.word_set_ne _ _ _ (by decide)).symm.trans h
  have hsel : ((s.commitAll s.stagedColour).set F.CONF_COLSTATUS_PENDING 0).get F.CONF_COLOUR_TF_SEL =
      s.getNext F.CONF_COLOUR_TF_SEL := by
    unfold State.get State.getNext
    rw [show F.CONF_COLOUR_TF_SEL.addr = R.CONF_COLOUR from rfl, hword]
  refine ⟨(State.get_set_apart _ _ (.inr (by decide))).trans (State.get_set_fits _ (by decide)), ?_⟩
  refine (State.get_set_fits _ ?_).trans hsel
  rw [hsel]
  exact slice_lt _ _ _

theorem fenceSample_due {e : Nat} {s : State} (hf : s.fencing = true) (he : s.nextEdge = some e) (hs : s.panel.sampled = false)
    (hd : s.sampleAt e ≤ s.q9) : fenceSample s = takeFence (s.withPanel { s.panel with sampled := true }) := by
  unfold fenceSample
  rw [he]
  exact if_pos ⟨hf, by simp [hs], hd⟩

theorem fenceSample_not_due {e : Nat} {s : State} (he : s.nextEdge = some e) (h : s.panel.sampled = true ∨ s.q9 < s.sampleAt e) :
    fenceSample s = s := by
  unfold fenceSample
  rw [he]
  refine if_neg ?_
  rintro ⟨-, hs, hd⟩
  rcases h with h | h
  · exact hs h
  · omega

theorem fenceTakesColourSet : Claims.FenceTakesColourSet := by
  intro e s hlive hfence he hframes hopen
  refine ⟨fun hsampled hdue hpend hgeom hload hrec hoffer hunarmed => ?_, fun h => ?_⟩
  · obtain ⟨u, hu⟩ : ∃ u, u = s.withPanel { s.panel with sampled := true } := ⟨_, rfl⟩
    have hq : FenceQuiet u := hu ▸ ⟨hgeom, hload, hrec, hoffer, hunarmed⟩
    have hraise := raise_raiseOnly (src := 579) (by decide) (takeColours u)
    have htake : fenceSample s = raise 579 (takeColours u) := by
      rw [fenceSample_due hfence he hsampled hdue, ← hu]
      exact takeFence_colours hq (hu ▸ hpend)
    have hrest := takeColours_rest u
    have hsample : lateAtSample (fenceSample s) = raise 579 (takeColours u) := by
      rw [htake]
      refine lateAtSample_idle ?_ ?_
      · rw [hraise.rest, hrest, hu]
        exact hframes
      · rw [hraise.rest, hrest, hu]
        exact hopen
    have hwords : ∀ a, u.word a = s.word a ∧ u.nextWord a = s.nextWord a ∧ u.stagedWord a = s.stagedWord a := fun a => by
      rw [hu]
      exact ⟨rfl, rfl, rfl⟩
    obtain ⟨hpending, htf⟩ := takeColours_status u
    have hnext : u.getNext F.CONF_COLOUR_TF_SEL = s.getNext F.CONF_COLOUR_TF_SEL := by rw [hu]; rfl
    have hstaged : ∀ a, (raise 579 (takeColours u)).stagedWord a = if isColourAddr a = true then none else s.stagedWord a :=
      fun a => by
        rw [← (hwords a).2.2, ← takeColours_stagedWord, hraise.rest]
        rfl
    have hlow : ∀ a, isColourAddr a = true → raiseAddr a = false := fun a ha => by
      have := (colourAddr_bounds ha).1
      rw [← Bool.not_eq_true, raiseAddr_iff]
      omega
    have hpanel : (raise 579 (takeColours u)).panel = { s.panel with sampled := true } := by
      rw [hraise.rest, hrest, hu]
      rfl
    have hmem : SameMemory s (raise 579 (takeColours u)) := by
      refine SameMemory.trans ?_ hraise.sameMemory
      rw [hrest, hu]
      exact sameMemory_of_eq rfl rfl rfl rfl
    refine ⟨_, whenLive_next s (fun s => lateAtSample (fenceSample s)) hlive, ?_⟩
    rw [hsample]
    exact ⟨fun a ha => ⟨(hraise.word a (hlow a ha)).trans ((takeColours_colour u ha).trans (hwords a).2.1),
        (hstaged a).trans (if_pos ha)⟩,
      fun a ha => (hstaged a).trans (if_neg (by simp [ha])), (hraise.get (by decide)).trans hpending,
      (hraise.get (by decide)).trans (htf.trans hnext), isPending_raise_same (by decide) (by decide) _, hpanel, hmem,
      fun a hevt hc hne => (hraise.evtOnly.word a hevt).trans ((takeColours_other u hc hne).trans (hwords a).1)⟩
  · refine (whenLive_next s (fun s => lateAtSample (fenceSample s)) hlive).trans (congrArg Host.Outcome.next ?_)
    rw [fenceSample_not_due he h, lateAtSample_idle hframes hopen]

/-! ## The build deadline (R381) -/

/-- Layers counted as late, one after the other. -/
def countLate (l : List Nat) (s : State) : State := l.foldl (fun s _ => raise 146 (s.bump (F.PQ_CNT_COUNT 2))) s

theorem countLate_cons (x : Nat) (l : List Nat) (s : State) :
    countLate (x :: l) s = countLate l (raise 146 (s.bump (F.PQ_CNT_COUNT 2))) := rfl

/-- The count rises by one for each, and no word but those of the event controller and the count changes. -/
theorem countLate_shows (l : List Nat) (s : State) :
    (countLate l s).get (F.PQ_CNT_COUNT 2) = min (F.PQ_CNT_COUNT 2).max (s.get (F.PQ_CNT_COUNT 2) + l.length) ∧
    (countLate l s = { s with regs := (countLate l s).regs, evt := (countLate l s).evt }) ∧
    (∀ a, evtAddr a = false → a ≠ R.PQ_CNT 2 → (countLate l s).word a = s.word a) ∧
    (s.isPending 146 = true ∨ l ≠ [] → (countLate l s).isPending 146 = true) := by
  induction l generalizing s with
  | nil =>
    refine ⟨?_, rfl, fun _ _ _ => rfl, fun h => h.resolve_right (by simp)⟩
    have hlt : s.get (F.PQ_CNT_COUNT 2) < 2 ^ 32 := slice_lt _ _ _
    have hmax : (F.PQ_CNT_COUNT 2).max = 2 ^ 32 - 1 := rfl
    show s.get (F.PQ_CNT_COUNT 2) = min _ (s.get (F.PQ_CNT_COUNT 2) + 0)
    omega
  | cons x l ih =>
    have hraise := raise_raiseOnly (src := 146) (by decide) (s.bump (F.PQ_CNT_COUNT 2))
    obtain ⟨hcount, hrest, hword, hpend⟩ := ih (raise 146 (s.bump (F.PQ_CNT_COUNT 2)))
    rw [countLate_cons]
    refine ⟨?_, ?_, fun a ha hne => ?_, fun _ => hpend (.inl (isPending_raise_same (by decide) (by decide) _))⟩
    · rw [hcount, hraise.get (by decide), s.get_bump_same, List.length_cons]
      omega
    · rw [hrest, hraise.rest]
      rfl
    · exact (hword a ha hne).trans ((hraise.evtOnly.word a ha).trans (s.word_bump_ne hne.symm))

/-- Layers late for a launch time. -/
def lateLayers (launch : Nat) (s : State) : List Nat := (s.contributors launch).filter (fun l => !s.instantDone launch l)

/-- The instants of a launch time that are not complete are late. -/
def lateInstants (launch : Nat) (s : State) : CardState :=
  { s.card with instants := s.card.instants.map (fun i => if i.launch = some launch ∧ i.phase ≠ 2 then { i with late := true } else i) }

theorem markLate_eq (launch : Nat) (s : State) : markLate launch s =
    { countLate (lateLayers launch s) s with
      card := lateInstants launch (countLate (lateLayers launch s) s)
      conf := { (countLate (lateLayers launch s) s).conf with cut := some launch } } := rfl

theorem buildDeadline_due {launch : Nat} {s : State} (hq : s.queued = true) (hn : s.nextLaunch = some launch)
    (htoken : s.afl.token = none) (hd : s.deadlineDue (s.edgeNear launch) = true) (hcut : s.conf.cut ≠ some launch)
    (hbuild : s.building = true) : buildDeadline s = markLate launch s := by
  obtain ⟨-, hrest, -, -⟩ := countLate_shows (lateLayers launch s) s
  have hmark : markLate launch s = { s with
      regs := (markLate launch s).regs, evt := (markLate launch s).evt, card := (markLate launch s).card
      conf := { s.conf with cut := some launch } } := by
    rw [markLate_eq, hrest]
  have hbuild' : (markLate launch s).building = true := by
    rw [hmark]
    exact hbuild
  have htoken' : (markLate launch s).afl.token = none := by
    rw [hmark]
    exact htoken
  have hmark' : (if (markLate launch s).building then markLate launch s else startLaunch (some launch) (markLate launch s)) =
      markLate launch s := if_pos hbuild'
  unfold buildDeadline
  rw [if_neg (by simp [hq]), hn]
  dsimp only
  rw [if_pos ⟨hd, hcut⟩, hmark', memberNoFrame, htoken']

theorem buildDeadline_not_due {launch : Nat} {s : State} (hq : s.queued = true) (hn : s.nextLaunch = some launch)
    (htoken : s.afl.token = none) (hd : s.deadlineDue (s.edgeNear launch) = false) : buildDeadline s = s := by
  unfold buildDeadline
  rw [if_neg (by simp [hq]), hn]
  dsimp only
  rw [if_neg (by simp [hd]), memberNoFrame, htoken]

theorem buildDeadlineMarksLate : Claims.BuildDeadlineMarksLate := by
  intro launch s hlive hq hn htoken
  refine ⟨fun hd hcut hbuild => ?_, fun hd => (whenLive_next s buildDeadline hlive).trans
    (congrArg Host.Outcome.next (buildDeadline_not_due hq hn htoken hd))⟩
  obtain ⟨hcount, hrest, hword, hpend⟩ := countLate_shows (lateLayers launch s) s
  have hmark := buildDeadline_due hq hn htoken hd hcut hbuild
  have hcard : (markLate launch s).card = lateInstants launch s := by
    rw [markLate_eq, hrest]
    rfl
  have hconf : (markLate launch s).conf = { s.conf with cut := some launch } := by
    rw [markLate_eq, hrest]
  have hwords : ∀ a, (markLate launch s).word a = (countLate (lateLayers launch s) s).word a := fun _ => rfl
  refine ⟨_, whenLive_next s buildDeadline hlive, ?_⟩
  rw [hmark]
  refine ⟨hcount, fun hmissing => hpend (.inr hmissing), hconf, hcard, ?_, fun a ha => ?_⟩
  · rw [hcard, hconf, markLate_eq, hrest]
    rfl
  · refine (hwords a).trans ?_
    show _ = (s.bumpBy (F.PQ_CNT_COUNT 2) (lateLayers launch s).length).word a
    by_cases hne : a = R.PQ_CNT 2
    · subst hne
      exact word_of_get_whole (f := F.PQ_CNT_COUNT 2) rfl rfl (hcount.trans (s.get_bumpBy_same _).symm)
    · exact (hword a ha hne).trans (s.word_bumpBy_ne _ (Ne.symm hne)).symm

/-- Settles O47. -/
theorem fencesTakeWork : Obligations.FencesTakeWork := ⟨teIsMeasured, fenceTakesColourSet, buildDeadlineMarksLate⟩

end Sys2Proof.Machine
end

section
/-! SUPPORT. The PTP master, offset measurement, step and servo (spec/11_time_presentation.md R361 to R367). -/

namespace Sys2Proof.Machine

/-! ## Frames of a port and the time part -/

theorem heard_open {n : Nat} {s : State} (h : s.get (F.ETH_LOOP_MODE n) = 0) (f : State → State) : heard n f s = f s := by
  have hdeaf : s.portDeaf n = false := by
    unfold State.portDeaf
    rw [h]
    rfl
  unfold heard
  rw [hdeaf]
  rfl

/-- Nothing but the register file and the time part differs. -/
def OnTime (s t : State) : Prop := t = { s with regs := t.regs, time := t.time }

theorem OnTime.refl (s : State) : OnTime s s := Eq.refl _

theorem OnTime.trans {s t u : State} (h : OnTime s t) (k : OnTime t u) : OnTime s u := by
  unfold OnTime at *
  rw [h] at k
  exact k

theorem OnTime.set (s : State) (f : Field) (v : Nat) : OnTime s (s.set f v) := Eq.refl _

theorem OnTime.setWord (s : State) (a : Nat) (w : Word) : OnTime s (s.setWord a w) := Eq.refl _

theorem OnTime.withTime (s : State) (t : TimeState) : OnTime s (s.withTime t) := Eq.refl _

theorem State.word_withTime (s : State) (t : TimeState) (a : Nat) : (s.withTime t).word a = s.word a := rfl

theorem State.get_withTime (s : State) (t : TimeState) (f : Field) : (s.withTime t).get f = s.get f := rfl

/-! ## Masters (R362, R363) -/

theorem senderOf_eq (h : PtpHeader) : senderOf h = ⟨h.clockId, h.portNumber, h.port.val⟩ := rfl

/-- The master that an Announce message shows. -/
def announced (h : PtpHeader) (quality : List Nat) (now : Nat) : MasterRec :=
  ⟨h.clockId, h.portNumber, h.port.val, h.ip6, h.mac, h.ip, quality, now, 3 * intervalNs h.logInterval⟩

theorem setMaster_word (m : Option MasterRec) (s : State) {a : Nat} (hlo : a ≠ R.TIME_MASTER_LO) (hhi : a ≠ R.TIME_MASTER_HI)
    (hst : a ≠ R.TIME_STATUS) : (setMaster m s).word a = s.word a := by
  unfold setMaster
  cases m with
  | none => rw [State.word_withTime, State.word_setWord_ne _ _ hhi.symm, State.word_setWord_ne _ _ hlo.symm]
  | some m =>
    rw [State.word_withTime, State.word_set_ne _ _ _ hst.symm, State.word_setWord_ne _ _ hhi.symm, State.word_setWord_ne _ _ hlo.symm]

/-- The clock identity of a master, 0 without one. -/
def clockOf (m : Option MasterRec) : Nat := (m.map (·.clockId)).getD 0

theorem setMaster_shows (m : Option MasterRec) (s : State) :
    (setMaster m s).word R.TIME_MASTER_LO = BitVec.ofNat 32 (clockOf m) ∧
    (setMaster m s).word R.TIME_MASTER_HI = BitVec.ofNat 32 (clockOf m / 2 ^ 32) := by
  unfold setMaster
  cases m with
  | none =>
    refine ⟨?_, ?_⟩
    · rw [State.word_withTime, State.word_setWord_ne _ _ (by decide), State.word_setWord_same]
      rfl
    · rw [State.word_withTime, State.word_setWord_same]
      rfl
  | some m =>
    refine ⟨?_, ?_⟩
    · rw [State.word_withTime, State.word_set_ne _ _ _ (by decide), State.word_setWord_ne _ _ (by decide), State.word_setWord_same]
      rfl
    · rw [State.word_withTime, State.word_set_ne _ _ _ (by decide), State.word_setWord_same]
      rfl

theorem setMaster_port (m : MasterRec) (s : State) (h : m.port < 4) : (setMaster (some m) s).get F.TIME_STATUS_PORT = m.port := by
  unfold setMaster
  rw [State.get_withTime]
  exact State.get_set_fits _ h

theorem setMaster_state (m : Option MasterRec) (s : State) :
    (setMaster m s).get F.TIME_STATUS_STATE = s.get F.TIME_STATUS_STATE := by
  unfold setMaster
  cases m with
  | none =>
    rw [State.get_withTime]
    exact State.get_of_word ((State.word_setWord_ne _ _ (by decide)).trans (State.word_setWord_ne _ _ (by decide)))
  | some m =>
    rw [State.get_withTime]
    refine (State.get_set_apart _ _ (.inr (by decide))).trans ?_
    exact State.get_of_word ((State.word_setWord_ne _ _ (by decide)).trans (State.word_setWord_ne _ _ (by decide)))

theorem setMaster_onTime (m : Option MasterRec) (s : State) : OnTime s (setMaster m s) := by
  cases m with
  | none => exact ((OnTime.setWord _ _ _).trans (.setWord _ _ _)).trans (.withTime _ _)
  | some m => exact (((OnTime.setWord _ _ _).trans (.setWord _ _ _)).trans (.set _ _ _)).trans (.withTime _ _)

theorem setMaster_time (m : Option MasterRec) (s : State) : (setMaster m s).time.chosen = m.map (·.id) ∧
    (setMaster m s).time.masters = s.time.masters ∧ (setMaster m s).time.q = s.time.q := by
  cases m <;> exact ⟨rfl, rfl, rfl⟩

/-- A change of STATE that leaves FAULT raises its source, any other only shows. -/
theorem setTimeState_cases (v : Nat) (s : State) :
    setTimeState v s = s.set F.TIME_STATUS_STATE v ∨ setTimeState v s = raise 131 (s.set F.TIME_STATUS_STATE v) := by
  unfold setTimeState
  dsimp only
  split
  · exact .inr rfl
  · exact .inl rfl

theorem setTimeState_raiseOnly (v : Nat) (s : State) : RaiseOnly (s.set F.TIME_STATUS_STATE v) (setTimeState v s) := by
  rcases setTimeState_cases v s with h | h
  · rw [h]
    exact .refl _
  · rw [h]
    exact raise_raiseOnly (by decide) _

theorem setTimeState_faultless {v : Nat} {s : State} (h : s.get F.TIME_STATUS_STATE ≠ 5) :
    setTimeState v s = s.set F.TIME_STATUS_STATE v := if_neg fun hn => h hn.1

theorem bestMaster_single (m : MasterRec) : bestMaster [m] = some m := rfl

theorem chooseMaster_first {m : MasterRec} {s : State} (hm : s.time.masters = [m]) (hc : s.time.chosen = none)
    (hst : (setMaster (some m) s).get F.TIME_STATUS_STATE ≠ 5) : chooseMaster s =
      ((setMaster (some m) s).withTime { (setMaster (some m) s).time with good := 0, bad := 0 }).set F.TIME_STATUS_STATE 2 := by
  unfold chooseMaster
  rw [hm, bestMaster_single, hc]
  dsimp only [Option.map_some, Option.isNone_none, Option.isSome_none]
  rw [if_neg (by simp)]
  simp only [if_true, Bool.false_eq_true, if_false]
  exact setTimeState_faultless hst

theorem chooseMaster_lost {c : MasterId} {s : State} (hm : s.time.masters = []) (hc : s.time.chosen = some c) :
    chooseMaster s = raise 133 (setTimeState 4 (setMaster none s)) := by
  unfold chooseMaster
  rw [hm, hc]
  exact if_neg (by simp [bestMaster])

theorem chooseMaster_same {m : MasterRec} {s : State} (hm : s.time.masters = [m]) (hc : s.time.chosen = some m.id) :
    chooseMaster s = s := by
  unfold chooseMaster
  rw [hm, hc]
  exact if_pos rfl

theorem firstAnnounce {h : PtpHeader} {quality : List Nat} {s : State} (htaken : s.ptpTaken h = true)
    (hpermit : s.permits 0 h.logInterval = true) (hm : s.time.masters = []) :
    ptpAnnounce h quality s = chooseMaster (s.withTime { s.time with masters := [announced h quality s.now] }) := by
  unfold ptpAnnounce
  rw [if_neg (by simp [htaken, hpermit]), hm]
  rfl

/-- What the first master heard leaves. -/
theorem firstMaster_shows {m : MasterRec} {s : State} (hport : m.port < 4) (hc : s.time.chosen = none)
    (hst : s.get F.TIME_STATUS_STATE ≠ 5) :
    let t := chooseMaster (s.withTime { s.time with masters := [m] })
    t.time.chosen = some m.id ∧ t.time.masters = [m] ∧ t.word R.TIME_MASTER_LO = BitVec.ofNat 32 m.clockId ∧
    t.word R.TIME_MASTER_HI = BitVec.ofNat 32 (m.clockId / 2 ^ 32) ∧ t.get F.TIME_STATUS_PORT = m.port ∧
    t.get F.TIME_STATUS_STATE = 2 ∧ t.time.q = s.time.q ∧ OnTime s t ∧
    ∀ a, a ≠ R.TIME_MASTER_LO → a ≠ R.TIME_MASTER_HI → a ≠ R.TIME_STATUS → t.word a = s.word a := by
  intro t
  obtain ⟨u, hu⟩ : ∃ u, u = s.withTime { s.time with masters := [m] } := ⟨_, rfl⟩
  obtain ⟨v, hv⟩ : ∃ v, v = setMaster (some m) u := ⟨_, rfl⟩
  have hstate : v.get F.TIME_STATUS_STATE = s.get F.TIME_STATUS_STATE := by rw [hv, setMaster_state, hu, State.get_withTime]
  have hchosen : u.time.chosen = none := by rw [hu]; exact hc
  have hmasters : u.time.masters = [m] := by rw [hu]; rfl
  have hq : u.time.q = s.time.q := by rw [hu]; rfl
  have hword : ∀ a, u.word a = s.word a := fun a => by rw [hu, State.word_withTime]
  have hus : OnTime s u := hu ▸ .withTime _ _
  have ht : t = (v.withTime { v.time with good := 0, bad := 0 }).set F.TIME_STATUS_STATE 2 := by
    show chooseMaster (s.withTime { s.time with masters := [m] }) = _
    rw [← hu, hv]
    exact chooseMaster_first hmasters hchosen (by rw [← hv, hstate]; exact hst)
  clear_value t
  subst ht
  obtain ⟨hlo, hhi⟩ := setMaster_shows (some m) u
  obtain ⟨hvc, hvm, hvq⟩ := setMaster_time (some m) u
  have hport' := setMaster_port m u hport
  have hrest := fun a hlo hhi hst => setMaster_word (some m) u (a := a) hlo hhi hst
  have hon := setMaster_onTime (some m) u
  rw [← hv] at hlo hhi hvc hvm hvq hport' hrest hon
  refine ⟨hvc, hvm.trans hmasters, ?_, ?_, ?_, State.get_set_fits _ (by decide), hvq.trans hq,
    hus.trans (hon.trans ((OnTime.withTime _ _).trans (.set _ _ _))), fun a ha ha' ha'' => ?_⟩
  · rw [State.word_set_ne _ _ _ (by decide), State.word_withTime]
    exact hlo
  · rw [State.word_set_ne _ _ _ (by decide), State.word_withTime]
    exact hhi
  · rw [State.get_set_apart _ _ (.inr (by decide)), State.get_withTime]
    exact hport'
  · rw [State.word_set_ne _ _ _ ha''.symm, State.word_withTime, hrest a ha ha' ha'', hword]

/-- What the loss of the only master leaves. -/
theorem lostMaster_shows {c : MasterId} {s : State} (hc : s.time.chosen = some c) :
    let t := chooseMaster (s.withTime { s.time with masters := [] })
    t.time.masters = [] ∧ t.time.chosen = none ∧ t.get F.TIME_STATUS_STATE = 4 ∧ t.word R.TIME_MASTER_LO = 0 ∧
    t.word R.TIME_MASTER_HI = 0 ∧ t.isPending 133 = true ∧ t.time.q = s.time.q ∧
    t = { s with regs := t.regs, time := t.time, evt := t.evt } := by
  intro t
  obtain ⟨u, hu⟩ : ∃ u, u = s.withTime { s.time with masters := [] } := ⟨_, rfl⟩
  obtain ⟨v, hv⟩ : ∃ v, v = setMaster none u := ⟨_, rfl⟩
  have hchosen : u.time.chosen = some c := by rw [hu]; exact hc
  have hmasters : u.time.masters = [] := by rw [hu]; rfl
  have hq : u.time.q = s.time.q := by rw [hu]; rfl
  have ht : t = raise 133 (setTimeState 4 v) := by
    show chooseMaster (s.withTime { s.time with masters := [] }) = _
    rw [← hu, hv]
    exact chooseMaster_lost hmasters hchosen
  clear_value t
  subst ht
  obtain ⟨hlo, hhi⟩ := setMaster_shows none u
  obtain ⟨hvc, hvm, hvq⟩ := setMaster_time none u
  have hon : OnTime s v := (hu ▸ OnTime.withTime _ _ : OnTime s u).trans (hv ▸ setMaster_onTime none u)
  rw [← hv] at hlo hhi hvc hvm hvq
  have hraise := (setTimeState_raiseOnly 4 v).trans (raise_raiseOnly (src := 133) (by decide) (setTimeState 4 v))
  have htime : (raise 133 (setTimeState 4 v)).time = v.time := by
    rw [hraise.rest]
    rfl
  have hword : ∀ a, raiseAddr a = false → a ≠ R.TIME_STATUS → (raise 133 (setTimeState 4 v)).word a = v.word a := fun a ha hne =>
    (hraise.word a ha).trans (State.word_set_ne _ _ _ hne.symm)
  refine ⟨by rw [htime, hvm, hmasters], by rw [htime, hvc]; rfl, ?_, (hword _ (by decide) (by decide)).trans hlo,
    (hword _ (by decide) (by decide)).trans hhi, isPending_raise_same (by decide) (by decide) _, by rw [htime, hvq, hq], ?_⟩
  · exact (hraise.get (by decide)).trans (State.get_set_fits _ (by decide))
  · rw [hraise.rest, hon]
    rfl

theorem masterIsChosenAndLost : Claims.MasterIsChosenAndLost := by
  intro h grandmaster steps m s hlive
  refine ⟨fun hmode htaken hpermit hm hc hst => ?_, fun hm hc => ⟨fun hdue => ?_, fun hdue => ?_⟩,
    whenLive_next s (fun s => s) hlive⟩
  · refine ⟨_, whenLive_next s (heard h.port.val (ptpAnnounce h (grandmaster ++ [steps]))) hlive, ?_⟩
    rw [heard_open hmode, firstAnnounce htaken hpermit hm]
    obtain ⟨hchosen, hmasters, hlo, hhi, hport, hstate, hq, hon, hwords⟩ :=
      firstMaster_shows (m := announced h (grandmaster ++ [steps]) s.now) h.port.isLt hc hst
    exact ⟨hchosen, hmasters, hlo, hhi, hport, hstate, hq, hon, hwords⟩
  · refine ⟨_, whenLive_next s announceTimeout hlive, ?_⟩
    have hgone : announceTimeout s = chooseMaster (s.withTime { s.time with masters := [] }) := by
      unfold announceTimeout
      rw [hm, List.filter_cons_of_neg (by simpa using hdue)]
      rfl
    rw [hgone]
    exact lostMaster_shows hc
  · refine (whenLive_next s announceTimeout hlive).trans (congrArg Host.Outcome.next ?_)
    have hkept : s.withTime { s.time with masters := s.time.masters } = s := rfl
    unfold announceTimeout
    rw [hm, List.filter_cons_of_pos (by simpa using hdue), List.filter_nil, ← hm, hkept]
    exact chooseMaster_same hm hc

/-! ## Offset measurement (R361, R364) -/

theorem ptpSync_taken {h : PtpHeader} {s : State} (hmaster : s.fromMaster h = true) (hpermit : s.permits 1 h.logInterval = true)
    (twoStep : Bool) (seconds ns : Nat) (correction : Int) : ptpSync h twoStep seconds ns correction s =
      (s.set F.TIME_STATUS_TWO_STEP (bit twoStep)).withTime { s.time with measure := { s.time.measure with
        syncSeq := h.seq, t2 := some s.q9, t1 := if twoStep then none else some (s.ptpTime seconds ns)
        correction := correction } } := by
  unfold ptpSync
  rw [if_neg (by simp [hmaster, hpermit])]
  rfl

theorem ptpFollowUp_taken {h : PtpHeader} {s : State} (hmaster : s.fromMaster h = true) (ht2 : s.time.measure.t2 ≠ none)
    (ht1 : s.time.measure.t1 = none) (hseq : s.time.measure.syncSeq = h.seq) (seconds ns : Nat) (correction : Int) :
    ptpFollowUp h seconds ns correction s = s.withTime { s.time with measure := { s.time.measure with
      t1 := some (s.ptpTime seconds ns), correction := s.time.measure.correction + correction } } := by
  unfold ptpFollowUp
  rw [if_neg]
  simp [hmaster, ht1, hseq, Option.isNone_iff_eq_none, ht2]

theorem delayReqSend_ready {m : MasterRec} {s : State}
    (hm : s.time.masters.find? (fun x => s.time.chosen == some x.id) = some m) (hready : s.dreqReady m = true) :
    delayReqSend s = { s with
      time := { s.time with
        dreqSeq := (s.time.dreqSeq + 1) % 65536, dreqDue := some (s.now + intervalNs s.time.dreqLog)
        measure := { s.time.measure with dreqSeq := (s.time.dreqSeq + 1) % 65536, t3 := some s.q9 } }
      out := .frame m.port "delay_req" (s.tagged m.port (s.ptpAddresses m ++ s.delayReq m.port ((s.time.dreqSeq + 1) % 65536))) ::
        s.out } := by
  unfold delayReqSend
  rw [hm]
  dsimp only
  rw [if_neg (by simp [hready])]
  rfl

theorem offsetMeasurementIsTimed : Claims.OffsetMeasurementIsTimed := by
  intro h twoStep seconds ns correction m s hlive hmode
  refine ⟨fun hmaster hpermit => ?_, fun hmaster ht2 ht1 hseq => ?_, fun hm hready => ?_⟩
  · refine ⟨_, whenLive_next s (heard h.port.val (ptpSync h twoStep seconds ns correction)) hlive, ?_⟩
    rw [heard_open hmode, ptpSync_taken hmaster hpermit]
    refine ⟨rfl, ?_, (OnTime.set _ _ _).trans (.withTime _ _), fun a ha => ?_⟩
    · rw [State.get_withTime]
      exact State.get_set_fits _ (by cases twoStep <;> decide)
    · rw [State.word_withTime, State.word_set_ne _ _ _ ha.symm]
  · refine (whenLive_next s (heard h.port.val (ptpFollowUp h seconds ns correction)) hlive).trans (congrArg Host.Outcome.next ?_)
    rw [heard_open hmode, ptpFollowUp_taken hmaster ht2 ht1 hseq]
    rfl
  · exact (whenLive_next s delayReqSend hlive).trans (congrArg Host.Outcome.next (delayReqSend_ready hm hready))

/-! ## Step and servo (R366, R367) -/

theorem ptpDelayResp_answers {h : PtpHeader} {requester : List Byte} {t1 t2 t3 : Nat} {s : State} (hmaster : s.fromMaster h = true)
    (hown : requester = s.ptpIdentity h.port.val) (hseq : s.time.measure.dreqSeq = h.seq) (ht1 : s.time.measure.t1 = some t1)
    (ht2 : s.time.measure.t2 = some t2) (ht3 : s.time.measure.t3 = some t3) (seconds ns : Nat) (correction : Int) :
    ∃ d, ptpDelayResp h requester seconds ns correction s =
      takeOffset (offsetOf t1 t2 t3 (s.ptpTime seconds ns) s.time.measure.correction correction
        (signedOf 32 (s.word R.TIME_ASYM).toNat)) (s.withTime { s.time with dreqLog := d, measure := {} }) := by
  unfold ptpDelayResp
  rw [if_neg (by simp [hmaster, hown, hseq]), ht1, ht2, ht3]
  dsimp only
  split
  · exact ⟨h.logInterval, rfl⟩
  · exact ⟨s.time.dreqLog, rfl⟩

/-- An offset shown. -/
def showOffset (o : Int) (s : State) : State := s.setWord R.TIME_OFFSET (BitVec.ofNat 32 (saturate32 o))

/-- An offset kept for the step. -/
def keepOffset (o : Int) (s : State) : State :=
  (showOffset o s).withTime { s.time with offsets := (o :: s.time.offsets).take 8 }

theorem takeOffset_eq (o : Int) (s : State) : takeOffset o s =
    if s.flag F.TIME_STATUS_STEP_ARMED then
      if ((o :: s.time.offsets).take 8).length = 8 ∧ spreadOf ((o :: s.time.offsets).take 8) ≤ 1000 then timeStep (keepOffset o s)
      else keepOffset o s
    else settleTime o (showOffset o s) := by
  have hflag : (showOffset o s).flag F.TIME_STATUS_STEP_ARMED = s.flag F.TIME_STATUS_STEP_ARMED :=
    State.flag_of_word (s.word_setWord_ne _ (by decide))
  rw [← hflag]
  rfl

theorem showOffset_word (o : Int) (s : State) : (showOffset o s).word R.TIME_OFFSET = BitVec.ofNat 32 (saturate32 o) :=
  s.word_setWord_same _ _

theorem showOffset_other (o : Int) (s : State) {a : Nat} (ha : a ≠ R.TIME_OFFSET) : (showOffset o s).word a = s.word a :=
  s.word_setWord_ne _ ha.symm

/-- A signed value that 64 bits hold is read back from a pair of words. -/
theorem signedPair_setPair (s : State) {lo hi : Nat} (hne : lo ≠ hi) {v : Int} (hlow : -2 ^ 63 ≤ v) (hhigh : v < 2 ^ 63) :
    (s.setPair lo hi v).signedPair lo hi = v := by
  have hlo : (s.setPair lo hi v).word lo = BitVec.ofNat 32 (patternOf 64 v) :=
    (State.word_setWord_ne _ _ hne.symm).trans (State.word_setWord_same _ _ _)
  have hhi : (s.setPair lo hi v).word hi = BitVec.ofNat 32 (patternOf 64 v / 2 ^ 32) := State.word_setWord_same _ _ _
  have hpat : patternOf 64 v < 2 ^ 64 := by
    unfold patternOf
    omega
  have hval : (BitVec.ofNat 32 (patternOf 64 v)).toNat + 2 ^ 32 * (BitVec.ofNat 32 (patternOf 64 v / 2 ^ 32)).toNat =
      patternOf 64 v := by
    rw [BitVec.toNat_ofNat, BitVec.toNat_ofNat]
    omega
  rw [State.signedPair, hlo, hhi, hval]
  unfold signedOf patternOf
  dsimp only
  split <;> omega

theorem setPair_word (s : State) {lo hi a : Nat} (v : Int) (hlo : a ≠ lo) (hhi : a ≠ hi) : (s.setPair lo hi v).word a = s.word a :=
  (State.word_setWord_ne _ _ hhi.symm).trans (State.word_setWord_ne _ _ hlo.symm)

theorem setPair_onTime (s : State) (lo hi : Nat) (v : Int) : OnTime s (s.setPair lo hi v) :=
  (OnTime.setWord _ _ _).trans (.setWord _ _ _)

/-- What a step leaves. -/
theorem timeStep_shows (s : State) :
    (timeStep s).word R.TIME_OFFSET = s.word R.TIME_OFFSET ∧
    (timeStep s).time.q = ((s.time.q : Int) - stepOf s.time.offsets * 2 ^ 48).toNat ∧
    (timeStep s).get F.TIME_STATUS_STEPPED = 1 ∧ (timeStep s).get F.TIME_STATUS_STEP_ARMED = 0 ∧
    (timeStep s).isPending 129 = true := by
  obtain ⟨u, hu⟩ : ∃ u, u = (s.withTime { s.time with
      q := ((s.time.q : Int) + -stepOf s.time.offsets * 2 ^ 48).toNat, offsets := [], good := 0, bad := 0 }).setPair
        R.TIME_STEPAMT_LO R.TIME_STEPAMT_HI (-stepOf s.time.offsets) := ⟨_, rfl⟩
  have hstep : timeStep s = raise 129 ((u.set F.TIME_STATUS_STEPPED 1).set F.TIME_STATUS_STEP_ARMED 0) := by
    rw [hu]
    rfl
  have hraise := raise_raiseOnly (src := 129) (by decide) ((u.set F.TIME_STATUS_STEPPED 1).set F.TIME_STATUS_STEP_ARMED 0)
  have hoffset : u.word R.TIME_OFFSET = s.word R.TIME_OFFSET := by rw [hu, setPair_word _ _ (by decide) (by decide), State.word_withTime]
  have hq : u.time.q = ((s.time.q : Int) - stepOf s.time.offsets * 2 ^ 48).toNat := by
    rw [hu, Int.sub_eq_add_neg, ← Int.neg_mul]
    rfl
  rw [hstep]
  refine ⟨?_, ?_, (hraise.get (by decide)).trans ?_, (hraise.get (by decide)).trans (State.get_set_fits _ (by decide)),
    isPending_raise_same (by decide) (by decide) _⟩
  · rw [hraise.word _ (by decide), State.word_set_ne _ _ _ (by decide), State.word_set_ne _ _ _ (by decide), hoffset]
  · rw [hraise.rest]
    exact hq
  · exact (State.get_set_apart _ _ (.inr (by decide))).trans (State.get_set_fits _ (by decide))

/-- Time passes on as it was, and no word but those of the event controller and TIME_STATUS differs. -/
structure StatesOnly (s t : State) : Prop where
  time : t.time = s.time
  word : ∀ a, evtAddr a = false → a ≠ R.TIME_STATUS → t.word a = s.word a

theorem StatesOnly.refl (s : State) : StatesOnly s s := ⟨rfl, fun _ _ _ => rfl⟩

theorem StatesOnly.raise {s t : State} (h : StatesOnly s t) {src : Nat} (hsrc : src < 1024) : StatesOnly s (raise src t) := by
  have hraise := raise_raiseOnly hsrc t
  exact ⟨by rw [hraise.rest]; exact h.time, fun a ha hne => (hraise.evtOnly.word a ha).trans (h.word a ha hne)⟩

theorem setTimeState_statesOnly (v : Nat) (s : State) : StatesOnly s (setTimeState v s) := by
  have hraise := setTimeState_raiseOnly v s
  exact ⟨by rw [hraise.rest]; rfl, fun a ha hne => (hraise.evtOnly.word a ha).trans (s.word_set_ne _ _ hne.symm)⟩

/-- The servo's rate as it is drawn. -/
def drawnRate (s : State) : Int := (Config.freeNat s.free % 112589990685 : Nat) - 56294995342

/-- Counts of good and bad offsets, and a rate drawn. -/
def steered (good bad : Nat) (s : State) : State :=
  (({ s with time := { s.time with good := good, bad := bad }, free := s.free + 1 } : State).setPair R.TIME_RATE_LO R.TIME_RATE_HI
    (drawnRate s))

theorem steered_shows (good bad : Nat) (s : State) : (steered good bad s).time.q = s.time.q ∧
    -56294995342 ≤ (steered good bad s).signedPair R.TIME_RATE_LO R.TIME_RATE_HI ∧
    (steered good bad s).signedPair R.TIME_RATE_LO R.TIME_RATE_HI ≤ 56294995342 ∧
    ∀ a, a ≠ R.TIME_RATE_LO → a ≠ R.TIME_RATE_HI → (steered good bad s).word a = s.word a := by
  have hrate : -56294995342 ≤ drawnRate s ∧ drawnRate s ≤ 56294995342 := by
    have := Nat.mod_lt (Config.freeNat s.free) (show 0 < 112589990685 by decide)
    unfold drawnRate
    omega
  have hpair : (steered good bad s).signedPair R.TIME_RATE_LO R.TIME_RATE_HI = drawnRate s :=
    signedPair_setPair _ (by decide) (by omega) (by omega)
  rw [hpair]
  exact ⟨rfl, hrate.1, hrate.2, fun a hlo hhi => setPair_word _ _ hlo hhi⟩

/-- After a rate is drawn an offset moves the states alone. -/
theorem settleTime_steered (o : Int) (s : State) : ∃ good bad, StatesOnly (steered good bad s) (settleTime o s) := by
  refine ⟨if o.natAbs ≤ 1000 then s.time.good + 1 else 0, if o.natAbs > 1000000 then s.time.bad + 1 else 0, ?_⟩
  generalize hgood : (if o.natAbs ≤ 1000 then s.time.good + 1 else 0) = good
  generalize hbad : (if o.natAbs > 1000000 then s.time.bad + 1 else 0) = bad
  have hservo : servo (s.withTime { s.time with good := good, bad := bad }) = steered good bad s := rfl
  unfold settleTime
  rw [hgood, hbad]
  dsimp only
  rw [hservo]
  have hstate := fun v => setTimeState_statesOnly v (steered good bad s)
  split
  · split
    · exact (hstate 3).raise (by decide)
    · exact .refl _
  · split
    · exact (hstate 5).raise (by decide)
    · split
      · split
        · exact .refl _
        · exact (hstate 3).raise (by decide)
      · split
        · exact hstate 2
        · exact .refl _

theorem settleTime_shows (o : Int) (s : State) :
    (settleTime o s).time.q = s.time.q ∧
    -56294995342 ≤ (settleTime o s).signedPair R.TIME_RATE_LO R.TIME_RATE_HI ∧
    (settleTime o s).signedPair R.TIME_RATE_LO R.TIME_RATE_HI ≤ 56294995342 ∧
    ∀ a, evtAddr a = false → a ≠ R.TIME_RATE_LO → a ≠ R.TIME_RATE_HI → a ≠ R.TIME_STATUS → (settleTime o s).word a = s.word a := by
  obtain ⟨good, bad, htime, hword⟩ := settleTime_steered o s
  obtain ⟨hq, hlow, hhigh, hother⟩ := steered_shows good bad s
  have hpair : (settleTime o s).signedPair R.TIME_RATE_LO R.TIME_RATE_HI =
      (steered good bad s).signedPair R.TIME_RATE_LO R.TIME_RATE_HI := by
    unfold State.signedPair
    rw [hword _ (by decide) (by decide), hword _ (by decide) (by decide)]
  rw [hpair, htime]
  exact ⟨hq, hlow, hhigh, fun a ha hlo hhi hne => (hword a ha hne).trans (hother a hlo hhi)⟩

theorem stepAndServo : Claims.StepAndServo := by
  intro h clock portNumber seconds ns correction t1 t2 t3 s hlive hmode hmaster hown hseq ht1 ht2 ht3 o
  obtain ⟨d, hresp⟩ := ptpDelayResp_answers hmaster hown hseq ht1 ht2 ht3 seconds ns correction
  obtain ⟨u, hu⟩ : ∃ u, u = s.withTime { s.time with dreqLog := d, measure := {} } := ⟨_, rfl⟩
  have huw : ∀ a, u.word a = s.word a := fun a => by rw [hu, State.word_withTime]
  have hus : OnTime s u := hu ▸ .withTime _ _
  have hoffsets : u.time.offsets = s.time.offsets := by rw [hu]; rfl
  have huq : u.time.q = s.time.q := by rw [hu]; rfl
  have harmed : u.flag F.TIME_STATUS_STEP_ARMED = s.flag F.TIME_STATUS_STEP_ARMED := State.flag_of_word (huw _)
  have hexec : exec (.ptpDelayRespReceive h clock portNumber seconds ns correction) s = .next (takeOffset o u) := by
    refine (whenLive_next s (heard h.port.val _) hlive).trans (congrArg Host.Outcome.next ?_)
    rw [heard_open hmode, hresp, hu]
  have hkeep : (keepOffset o u).time.offsets = (o :: s.time.offsets).take 8 := by rw [keepOffset, hoffsets]; rfl
  have hkeepq : (keepOffset o u).time.q = s.time.q := huq
  have hkeepw : (keepOffset o u).word R.TIME_OFFSET = BitVec.ofNat 32 (saturate32 o) := by
    rw [keepOffset, State.word_withTime, showOffset_word]
  refine ⟨fun hflag => ⟨fun hlen hspread => ⟨_, hexec, ?_⟩, fun hnot => ⟨_, hexec, ?_⟩⟩, fun hflag => ⟨_, hexec, ?_⟩⟩
  · rw [takeOffset_eq, harmed, if_pos hflag, hoffsets, if_pos ⟨hlen, hspread⟩]
    obtain ⟨hoffset, hq, hstepped, hstep, hpend⟩ := timeStep_shows (keepOffset o u)
    rw [hkeep, hkeepq] at hq
    exact ⟨hoffset.trans hkeepw, hq, hstepped, hstep, hpend⟩
  · rw [takeOffset_eq, harmed, if_pos hflag, hoffsets, if_neg (by omega)]
    refine ⟨hkeepw, hkeepq, hkeep, hus.trans ((OnTime.setWord _ _ _).trans (.withTime _ _)), fun a ha => ?_⟩
    rw [keepOffset, State.word_withTime, showOffset_other o u ha, huw]
  · rw [takeOffset_eq, harmed, if_neg (by simp [hflag])]
    obtain ⟨hq, hlow, hhigh, hword⟩ := settleTime_shows o (showOffset o u)
    refine ⟨?_, hq.trans huq, hlow, hhigh, fun a ha hout => ?_⟩
    · rw [hword _ (by decide) (by decide) (by decide) (by decide), showOffset_word]
    · simp only [List.mem_cons, List.not_mem_nil, or_false, not_or] at hout
      obtain ⟨hne, hlo, hhi, hst⟩ := hout
      rw [hword a ha hlo hhi hst, showOffset_other o u hne, huw]

/-- Settles O48. -/
theorem timeFollowsItsMaster : Obligations.TimeFollowsItsMaster := ⟨masterIsChosenAndLost, offsetMeasurementIsTimed, stepAndServo⟩

end Sys2Proof.Machine
end

section
/-! SUPPORT. The bytes of the confidence encoder's batts (spec/12_confidence_encoder.md R407). -/

namespace Sys2Proof.Machine

/-- The last row of an empty picture under variable rate. -/
def lastRowPicture : EncPicture :=
  { count := 0, idr := true, time := 0, samples := [], rows := [4], budget := 100, rowBudget := 100, complexity := 4, holds := []
    regs := [(R.ENC_RC, 0x100)] }

/-- A Q9 whose armed output codes that row. -/
def lastRowState : State :=
  { State.reset.setPath 5 0 { state := 3, order := 1 } with enc := { pic := some lastRowPicture, seq := some 0 } }

/-- Refutes O49: what stands before a batt's data is 64 bytes long, both MAC addresses, both IPv4 addresses, both UDP ports and
the header of 40 bytes, so that behind the first 58 bytes even a batt without data has six more. -/
theorem not_encoderSendsPictures : ¬ Obligations.EncoderSendsPictures := by
  intro h
  have hlive : live lastRowState = true := by decide +kernel
  have hstale : lastRowState.stale lastRowPicture.holds = none := by decide +kernel
  have harmed : lastRowState.armed 5 0 = true := by decide +kernel
  have hmode : snapField lastRowPicture.regs F.ENC_RC_RC_MODE ≠ 0 := by decide +kernel
  have hbytes : ((encRowDone 0 [] lastRowState).enc.batts.flatMap (fun b => b.bytes.drop 58)).length = 6 := by decide +kernel
  obtain ⟨t, hexec, -, -, -, -, ⟨batts, hbatts, hdata, -⟩, -⟩ :=
    (h.2.1 0 [] lastRowPicture lastRowState hlive rfl hstale).2 rfl harmed rfl (by decide) hmode
  have ht := Host.Outcome.next.inj ((whenLive_next _ (encRowDone 0 []) hlive).symm.trans hexec)
  have hnone : lastRowState.enc.batts = [] := rfl
  rw [ht, hbatts, hnone, List.nil_append, hdata] at hbytes
  exact absurd hbytes (by decide)

end Sys2Proof.Machine
end

section
/-! SUPPORT. A read of the translation tables (spec/14_hbm_controller.md R447, spec/15_translation_preemption.md R457). -/

namespace Sys2Proof.Machine

/-- A read of the 32-byte word with the first level-1 entries of context 1. -/
def tableRequest : MemReq := { id := 0, write := false, row := 0, word := 16384, data := [], at_ := 0 }

/-- A Q9 with one pool, for the tables and save areas, from memory byte 0. Memory holds 0xFF where the level-1 table of
context 1 begins, and pseudo-channel 0 has the read of that word waiting at an open row. -/
def tableReadState : State :=
  { State.reset with
    struct := { image := some ⟨1, 1, [], [], 1, [], [], [⟨0, 5, 0, 64⟩], [], [], [], []⟩ }
    hbm := [(16384, 0xFF)]
    mem := { pcs := [(0, { banks := [(0, { queue := [tableRequest], openRow := some 0 })] })] } }

/-- Where context 0 alone has a mapping, of one table, the pages hold no table of context 1. -/
theorem tablePointer_of_tableKeys {s : State} (h : s.tableKeys = [(0, 2, 0)]) (p : PoolRec) :
    tablePointer p s.tablePages (1, 2, 0) = none := by
  unfold tablePointer State.tablePages
  rw [h, List.foldl_cons, List.foldl_nil]
  split <;> rfl

/-- The first byte that a read of that word returns is that of an entry that points to no table. -/
theorem head_memRead_of_tableKeys {s : State} (hkeys : s.tableKeys = [(0, 2, 0)]) (hpool : s.lowestPool 5 = some ⟨0, 5, 0, 64⟩) :
    (s.memRead 16384 32).head? = some 0 := by
  have hentry : ∀ pages, tablePointer ⟨0, 5, 0, 64⟩ pages (1, 2, 0) = none →
      s.tableByte ⟨0, 5, 0, 64⟩ pages 16384 = some 0 := by
    intro pages hp
    have hat : tableAt pages 16384 = some (1, 1, 0) := rfl
    have hzero : s.tableEntry ⟨0, 5, 0, 64⟩ pages (1, 1, 0) 0 = 0 := by
      unfold State.tableEntry
      exact (if_pos rfl).trans (by rw [hp]; rfl)
    unfold State.tableByte
    rw [hat, Option.map_some]
    exact congrArg (fun n => some (BitVec.ofNat 8 (n / 2 ^ (8 * (16384 % 8))))) hzero
  have hbyte := hentry _ (tablePointer_of_tableKeys hkeys ⟨0, 5, 0, 64⟩)
  unfold State.memRead
  rw [hpool]
  refine (congrArg List.head? (if_neg (by decide))).trans ?_
  rw [show upto 16384 32 = 16384 :: upto 16385 31 from rfl, List.map_cons, List.head?_cons]
  have hin : poolBase ⟨0, 5, 0, 64⟩ ≤ 16384 ∧ 16384 < poolBase ⟨0, 5, 0, 64⟩ + min 0x1000000 (poolBytes ⟨0, 5, 0, 64⟩) := by decide
  exact congrArg some ((congrArg (fun o : Option Byte => o.getD _) ((if_pos hin).trans hbyte)))

/-- A good read that is served returns its word as memory and the tables in it read. -/
theorem out_readReturn {p : Nat} {s u : State} {r : MemReq} (hheld : s.pcHeld p = false) (hbusy : (s.pc p).busyUntil ≤ s.now)
    (hserve : serveOne false p serveLimit s = (some r, u)) (hpoison : u.poison = []) :
    (readReturn p 0 s).out = .memory r.id (u.memRead r.word 32) false :: u.out := by
  unfold readReturn
  rw [if_neg (by rw [hheld]; simp [Nat.not_lt.mpr hbusy]), hserve]
  show (orderLevel (ctrlOf p) (readServed p 0 r u)).out = _
  unfold readServed
  rw [if_neg (by rw [hpoison]; simp), if_neg (by decide)]
  rfl

/-- Refutes O52: the first 16 MiB of the lowest pool of KIND 0x5 read as the translation tables that firmware keeps there (R457),
whatever the cells of memory hold; the clause on reads says that the 32 bytes of every word come from the cells. -/
theorem not_memoryServesRequests : ¬ Obligations.MemoryServesRequests := by
  intro h
  have hlive : live tableReadState = true := by decide +kernel
  have hheld : tableReadState.pcHeld 0 = false := by decide +kernel
  obtain ⟨u, hu⟩ : ∃ u, u = (serveOne false 0 serveLimit tableReadState).2 := ⟨_, rfl⟩
  have hserve : serveOne false 0 serveLimit tableReadState = (some tableRequest, u) := by
    have hfirst : (serveOne false 0 serveLimit tableReadState).1 = some tableRequest := by decide +kernel
    exact Prod.ext hfirst hu.symm
  have hpoison : u.poison = [] := by rw [hu]; decide +kernel
  have hkeys : u.tableKeys = [(0, 2, 0)] := by rw [hu]; decide +kernel
  have hpool : u.lowestPool 5 = some ⟨0, 5, 0, 64⟩ := by rw [hu]; decide +kernel
  have hcells : (tableReadState.hbmRead 16384 32).head? = some 0xFF := by decide +kernel
  obtain ⟨t, hexec, hout, -⟩ := (((h.2.1 0 0 { queue := [tableRequest], openRow := some 0 } tableRequest tableReadState hlive).2
    hheld (Nat.zero_le _) rfl rfl rfl rfl rfl rfl).1 (by decide)).1
  have ht := Host.Outcome.next.inj ((whenLive_next _ (readReturn 0 0) hlive).symm.trans hexec)
  rw [← ht, out_readReturn hheld (Nat.zero_le _) hserve hpoison] at hout
  have hbytes : u.memRead 16384 32 = tableReadState.hbmRead 16384 32 := (Output.memory.inj (List.cons.inj hout).1).2.1
  have hfirst := head_memRead_of_tableKeys hkeys hpool
  rw [hbytes, hcells] at hfirst
  exact absurd hfirst (by decide)

end Sys2Proof.Machine
end

section
/-! SUPPORT. A link that reflects the test pattern (spec/20_test_identity.md R551). -/

namespace Sys2Proof.Machine

/-- A Q9 whose link 1 reflects the test pattern. -/
def reflectState : State := State.reset.set (F.LNK_LOOP_MODE 1) 5

/-- Refutes O59: a link in reflect mode checks no lane, and sends the symbol of a lane on again (R551); the clause on unchecked
lanes says that nothing happens. -/
theorem not_loopbacksRunAndEnd : ¬ Obligations.LoopbacksRunAndEnd := by
  intro h
  have hlive : live reflectState = true := by decide +kernel
  have hmode : reflectState.get (F.LNK_LOOP_MODE 1) = 5 := by decide +kernel
  have hidle := ((h.2 .firmware 1 0 0 true reflectState).2 hlive).2 (by
    show ¬ 0 < checkedLanes 1 (reflectState.get (F.LNK_LOOP_MODE 1))
    rw [hmode]
    decide)
  have ht := Host.Outcome.next.inj ((whenLive_next _ (patternSymbol 1 0 true) hlive).symm.trans hidle)
  have hsent : patternSymbol 1 0 true reflectState = reflectState.emit (.laneSet 1 "REFLECT" 0) := if_pos ⟨hmode, by decide⟩
  have hout := congrArg (fun s : State => s.out.length) (hsent.symm.trans ht)
  exact absurd hout (Nat.succ_ne_self _)

end Sys2Proof.Machine
end

section
/-! SUPPORT. What the end of MBIST writes to memory (spec/20_test_identity.md R553). -/

namespace Sys2Proof.Machine

/-- A Q9 of one pixel in its first epoch while MBIST of controller 0 runs; the staging pool starts at memory byte 2^25, which
lies behind that controller. -/
def mbistState : State :=
  let s := ((State.reset.set F.CHIP_EPOCH_EPOCH 1).setWord (R.GEOM_W 3) 1).setWord (R.GEOM_W 4) 1
  { s.set F.CONF_STAGE_POOL_ID 2 with
    struct := { image := some ⟨1, 1, [], [], 1, [], [], [⟨2, 3, 16, 64⟩], [], [], [], []⟩ }
    mem := { tests := [(0, 3)] } }

/-- Refutes O60: after MBIST the map in force becomes the identity map, and with a descriptor in force its bytes are stored in
the staging pool anew (R553). Where they lie behind the controller tested, its memory does not read as unwritten. -/
theorem not_deviceTestsRunAndEnd : ¬ Obligations.DeviceTestsRunAndEnd := by
  intro h
  have hlive : live mbistState = true := by decide +kernel
  have htest : tabGet 0 mbistState.mem.tests 0 = 3 := by decide +kernel
  have hplace : ctrlOf (memPlace 33554432).pc = 0 := by decide +kernel
  have hbyte : cellGet ramBlank (mbistDone 0 none mbistState).hbm 33554432 = 0x43 := by decide +kernel
  obtain ⟨t, hexec, -, -, hblank, -⟩ := ((h.1 .firmware 0 true none mbistState).2 hlive).2.2.1 htest
  have ht := Host.Outcome.next.inj ((whenLive_next _ (mbistDone 0 none) hlive).symm.trans hexec)
  have hread := hblank 33554432 hplace
  rw [← ht, hbyte] at hread
  exact absurd hread (by decide)

end Sys2Proof.Machine
end

section
/-! SUPPORT. Translation requests (spec/15_translation_preemption.md R455, R456, R465, R475). -/

namespace Sys2Proof.Machine

/-- A lease of a request as the translation unit takes it is current. -/
def LeaseCurrent (s : State) (lease : Option (Nat × Nat)) : Prop := ∀ e g, lease = some (e, g) → (s.lease e).gen = g

/-! ## The checks of R465 -/

section
variable {s : State} {ctx ca : Nat} {write : Bool} {lease : Option (Nat × Nat)} {r : MapRange} {q : PoolRec}

theorem requestFault_stale (h : ¬ LeaseCurrent s lease) : s.requestFault ctx ca write lease = some 3 := by
  unfold State.requestFault
  cases lease with
  | none => exact absurd (fun _ _ e => by cases e) h
  | some l =>
    refine if_pos (bne_iff_ne.mpr fun hg => h fun e g he => ?_)
    obtain rfl := Option.some.inj he
    exact hg

/-- With a current lease the fault is the first of the checks that follow. -/
theorem requestFault_current (h : LeaseCurrent s lease) : s.requestFault ctx ca write lease =
    match s.mapFind ctx ca with
    | none => some 1
    | some r =>
      if (s.pool r.pool).isNone then some 1
      else if (if write then !r.write else !r.read) then some 2
      else if !write && (match s.translate ctx ca with | some m => s.poison.contains (m / 32) | none => false) then some 4
      else none := by
  unfold State.requestFault
  cases lease with
  | none => exact if_neg Bool.false_ne_true
  | some l => exact if_neg (by simp [h l.1 l.2 rfl])

theorem requestFault_unmapped (h : LeaseCurrent s lease) (hmap : s.mapFind ctx ca = none) :
    s.requestFault ctx ca write lease = some 1 := by
  rw [requestFault_current h, hmap]

theorem translate_mapped (hmap : s.mapFind ctx ca = some r) (hpool : s.pool r.pool = some q) :
    s.translate ctx ca = some (poolBase q + ca % 2 ^ 35) := by
  unfold State.translate
  rw [hmap]
  show (s.pool r.pool).map _ = _
  rw [hpool]
  rfl

theorem requestFault_mapped (h : LeaseCurrent s lease) (hmap : s.mapFind ctx ca = some r) (hpool : s.pool r.pool = some q) :
    s.requestFault ctx ca write lease = if (if write then !r.write else !r.read) then some 2
      else if !write && s.poison.contains ((poolBase q + ca % 2 ^ 35) / 32) then some 4 else none := by
  rw [requestFault_current h, translate_mapped hmap hpool, hmap]
  show (if (s.pool r.pool).isNone then _ else _) = _
  rw [hpool]
  rfl

theorem requestFault_forbidden (h : LeaseCurrent s lease) (hmap : s.mapFind ctx ca = some r) (hpool : s.pool r.pool = some q)
    (hno : ¬ if write then r.write = true else r.read = true) : s.requestFault ctx ca write lease = some 2 := by
  rw [requestFault_mapped h hmap hpool]
  cases write <;> exact if_pos (by simpa using hno)

theorem requestFault_allowed (h : LeaseCurrent s lease) (hmap : s.mapFind ctx ca = some r) (hpool : s.pool r.pool = some q)
    (hok : if write then r.write = true else r.read = true) : s.requestFault ctx ca write lease =
      if write = false ∧ (poolBase q + ca % 2 ^ 35) / 32 ∈ s.poison then some 4 else none := by
  rw [requestFault_mapped h hmap hpool]
  cases write with
  | true => exact (if_neg (by simpa using hok)).trans (by simp)
  | false => exact (if_neg (by simpa using hok)).trans (by simp)

end

/-! ## What a fault shows -/

theorem raisePerMs_raiseOnly {src : Nat} (h : src < 1024) (code detail : Nat) (s : State) :
    RaiseOnly s (raisePerMs src code detail s) := by
  unfold raisePerMs
  exact .ite ((raiseWith_raiseOnly h code detail s).trans (.evt _ _)) (report_raiseOnly src code detail s)

theorem isPending_raisePerMs {src : Nat} (h : src < 1024) (h9 : src ≠ 960) (code detail : Nat) {s : State}
    (hq : s.msQuiet src = true) : (raisePerMs src code detail s).isPending src = true := by
  have hraise : (raiseWith src code detail s).isPending src = true := by
    rw [isPending_raiseWith _ _ _ _ _ h h9, decide_eq_true rfl, Bool.true_or]
  unfold raisePerMs
  rw [if_pos hq]
  exact hraise

/-- The word of XLAT_FLT_INFO for a fault. -/
def faultInfo (ctx code : Nat) (lease : Option Nat) : Nat :=
  2 ^ 31 + ctx * 2 ^ 24 + bit lease.isSome * 2 ^ 16 + lease.getD 0 * 2 ^ 8 + code

/-- The XLAT_FLT registers and the counter of a fault. -/
def recordFault (ctx code : Nat) (lease : Option Nat) (addr : Nat) (s : State) : State :=
  (((s.setWord R.XLAT_FLT_INFO (BitVec.ofNat 32 (faultInfo ctx code lease))).setWord R.XLAT_FLT_ADDR_LO
    (BitVec.ofNat 32 addr)).setWord R.XLAT_FLT_ADDR_HI (BitVec.ofNat 32 (addr / 2 ^ 32 % 2 ^ 9))).bump (F.XLAT_CNT_COUNT (code - 1))

/-- A context without a save area: the fault is shown, counted and reported. -/
theorem xlatFault_unsaved {ctx : Nat} (h : saveOffset ctx = none) (code : Nat) (lease : Option Nat) (addr point : Nat) (s : State) :
    xlatFault ctx code lease addr point s =
      raisePerMs 928 code (faultDetail ctx lease addr) (recordFault ctx code lease addr s) := by
  unfold xlatFault
  rw [h]
  exact if_neg fun hp => by cases hp.1

theorem OnRegs.setWord (s : State) (a : Nat) (w : Word) : OnRegs s (s.setWord a w) := Eq.refl _

theorem OnRegs.bump (s : State) (f : Field) : OnRegs s (s.bump f) := Eq.refl _

section
variable {ctx code addr : Nat} {lease : Option Nat} {s t : State}

theorem recordFault_onRegs (s : State) : OnRegs s (recordFault ctx code lease addr s) :=
  (((OnRegs.setWord _ _ _).trans (.setWord _ _ _)).trans (.setWord _ _ _)).trans (.bump _ _)

theorem recordFault_word_ne (s : State) {a : Nat}
    (ha : a ∉ [R.XLAT_FLT_INFO, R.XLAT_FLT_ADDR_LO, R.XLAT_FLT_ADDR_HI, R.XLAT_CNT (code - 1)]) :
    (recordFault ctx code lease addr s).word a = s.word a := by
  simp only [List.mem_cons, List.not_mem_nil, or_false, not_or] at ha
  obtain ⟨hinfo, hlo, hhi, hcnt⟩ := ha
  exact (State.word_bump_ne _ (Ne.symm hcnt)).trans ((State.word_setWord_ne _ _ (Ne.symm hhi)).trans
    ((State.word_setWord_ne _ _ (Ne.symm hlo)).trans (State.word_setWord_ne _ _ (Ne.symm hinfo))))

theorem xlatCnt_ne {k a : Nat} (h : a < 0x80134) : R.XLAT_CNT k ≠ a := by
  unfold R.XLAT_CNT
  omega

theorem recordFault_info (s : State) :
    (recordFault ctx code lease addr s).word R.XLAT_FLT_INFO = BitVec.ofNat 32 (faultInfo ctx code lease) :=
  (State.word_bump_ne _ (xlatCnt_ne (by decide))).trans ((State.word_setWord_ne _ _ (by decide)).trans
    ((State.word_setWord_ne _ _ (by decide)).trans (State.word_setWord_same _ _ _)))

theorem recordFault_lo (s : State) : (recordFault ctx code lease addr s).word R.XLAT_FLT_ADDR_LO = BitVec.ofNat 32 addr :=
  (State.word_bump_ne _ (xlatCnt_ne (by decide))).trans ((State.word_setWord_ne _ _ (by decide)).trans
    (State.word_setWord_same _ _ _))

theorem recordFault_hi (s : State) :
    (recordFault ctx code lease addr s).word R.XLAT_FLT_ADDR_HI = BitVec.ofNat 32 (addr / 2 ^ 32 % 2 ^ 9) :=
  (State.word_bump_ne _ (xlatCnt_ne (by decide))).trans (State.word_setWord_same _ _ _)

theorem recordFault_count (s : State) : (recordFault ctx code lease addr s).get (F.XLAT_CNT_COUNT (code - 1)) =
    min 0xFFFFFFFF (s.get (F.XLAT_CNT_COUNT (code - 1)) + 1) := by
  refine (State.get_bump_same _).trans (congrArg (fun n => min 0xFFFFFFFF (n + 1)) (State.get_of_word ?_))
  exact (State.word_setWord_ne _ _ (xlatCnt_ne (by decide)).symm).trans
    ((State.word_setWord_ne _ _ (xlatCnt_ne (by decide)).symm).trans (State.word_setWord_ne _ _ (xlatCnt_ne (by decide)).symm))

/-- A slice of a word that holds a number. -/
theorem get_of_word_ofNat {f : Field} {n : Nat} (hw : t.word f.addr = BitVec.ofNat 32 n) (hn : n < 2 ^ 32) :
    t.get f = n / 2 ^ f.lo % 2 ^ (f.hi + 1 - f.lo) := by
  unfold State.get slice
  rw [hw, BitVec.toNat_ofNat, Nat.mod_eq_of_lt hn, Nat.shiftRight_eq_div_pow]

theorem bit_lt (b : Bool) : bit b < 2 := by cases b <;> decide

/-- The fields of XLAT_FLT_INFO for a fault. -/
theorem faultInfo_fields (hw : t.word R.XLAT_FLT_INFO = BitVec.ofNat 32 (faultInfo ctx code lease)) (hctx : ctx < 64)
    (hcode : code < 16) (hlease : lease.getD 0 < 256) :
    t.get F.XLAT_FLT_INFO_VALID = 1 ∧ t.get F.XLAT_FLT_INFO_CTX = ctx ∧ t.get F.XLAT_FLT_INFO_CODE = code ∧
      t.get F.XLAT_FLT_INFO_LEASE_VALID = bit lease.isSome ∧ t.get F.XLAT_FLT_INFO_LEASE = lease.getD 0 := by
  have hb := bit_lt lease.isSome
  have hfield (f : Field) (hf : f.addr = R.XLAT_FLT_INFO) :
      t.get f = faultInfo ctx code lease / 2 ^ f.lo % 2 ^ (f.hi + 1 - f.lo) :=
    get_of_word_ofNat (hf ▸ hw) (by unfold faultInfo; omega)
  refine ⟨(hfield _ rfl).trans ?_, (hfield _ rfl).trans ?_, (hfield _ rfl).trans ?_, (hfield _ rfl).trans ?_,
    (hfield _ rfl).trans ?_⟩ <;>
  simp only [faultInfo, F.XLAT_FLT_INFO_VALID, F.XLAT_FLT_INFO_CTX, F.XLAT_FLT_INFO_CODE, F.XLAT_FLT_INFO_LEASE_VALID,
    F.XLAT_FLT_INFO_LEASE] <;> omega

end

/-! ## The request as a command -/

theorem leaseCurrent_map {s : State} {lease : Option (Fin 256 × Nat)} :
    LeaseCurrent s (lease.map fun l => (l.1.val, l.2)) ↔ ∀ l, lease = some l → (s.lease l.1.val).gen = l.2 := by
  cases lease with
  | none => exact ⟨fun _ _ h => by (cases h), fun _ _ _ h => by cases h⟩
  | some l =>
    refine ⟨fun h m e => ?_, fun h e g he => ?_⟩
    · rw [← Option.some.inj e]
      exact h _ _ rfl
    · obtain ⟨rfl, rfl⟩ := Prod.mk.inj (Option.some.inj he)
      exact h l rfl

/-- Contexts of the host and from 13 on have no save area, and a fault ends no work of theirs. -/
theorem xlatRequest_fault {ctx ca code : Nat} {write : Bool} {lease : Option (Nat × Nat)} (block cell : Nat) {s : State}
    (hctx : ctx = 0 ∨ 13 ≤ ctx) (h : s.requestFault ctx ca write lease = some code) :
    xlatRequest ctx ca write lease block cell s = raisePerMs 928 code (faultDetail ctx (lease.map fun x => x.1) ca)
      (recordFault ctx code (lease.map fun x => x.1) ca (s.emit (.translated ctx ca none))) := by
  have hsave : saveOffset ctx = none := by
    unfold saveOffset
    repeat' rw [if_neg (by omega)]
  have hwork (e : Option Nat) (u : State) : faultWork ctx code e block cell u = u := by
    unfold faultWork
    repeat' rw [if_neg (by omega)]
  unfold xlatRequest
  rw [h]
  exact (hwork _ _).trans (xlatFault_unsaved hsave _ _ _ _ _)

/-- Settles O54: the checks of R465 in their order, and what a fault shows. -/
theorem translationGrantsOrFaults : Obligations.TranslationGrantsOrFaults := by
  intro ctx block cell ca code write lease r q s hlive
  refine ⟨fun hcur ⟨hmap, hpool⟩ hok hclean => ?_, fun hctx hfault => ?_⟩
  · refine (whenLive_next _ _ hlive).trans (congrArg Host.Outcome.next ?_)
    unfold xlatRequest
    rw [requestFault_allowed (leaseCurrent_map.mpr hcur) hmap hpool hok, if_neg hclean, translate_mapped hmap hpool]
  · have hcode : s.requestFault ctx.val ca write (lease.map fun l => (l.1.val, l.2)) = some code ∧ code < 16 := by
      rcases hfault with ⟨hcur, rfl⟩ | ⟨hcur, hmap, rfl⟩ | ⟨hcur, ⟨hmap, hpool⟩, hno, rfl⟩ | ⟨hcur, ⟨hmap, hpool⟩, hok, hbad, rfl⟩
      · exact ⟨requestFault_stale fun h => hcur (leaseCurrent_map.mp h), by decide⟩
      · exact ⟨requestFault_unmapped (leaseCurrent_map.mpr hcur) hmap, by decide⟩
      · exact ⟨requestFault_forbidden (leaseCurrent_map.mpr hcur) hmap hpool hno, by decide⟩
      · exact ⟨(requestFault_allowed (leaseCurrent_map.mpr hcur) hmap hpool hok).trans (if_pos hbad), by decide⟩
    obtain ⟨hreq, hlt⟩ := hcode
    obtain ⟨e, he⟩ : ∃ e, e = (lease.map fun l => (l.1.val, l.2)).map fun x => x.1 := ⟨_, rfl⟩
    have hsome : e.isSome = lease.isSome := by rw [he, Option.isSome_map, Option.isSome_map]
    have hget : ∀ l, lease = some l → e.getD 0 = l.1.val := fun l hl => by rw [he, hl]; rfl
    have hbound : e.getD 0 < 256 := by
      cases hl : lease with
      | none => rw [he, hl]; decide
      | some l => rw [hget l hl]; exact l.1.isLt
    obtain ⟨t, ht⟩ : ∃ t, t = xlatRequest ctx.val ca write (lease.map fun l => (l.1.val, l.2)) block.val cell.val s := ⟨_, rfl⟩
    obtain ⟨u, hu⟩ : ∃ u, u = recordFault ctx.val code e ca (s.emit (.translated ctx.val ca none)) := ⟨_, rfl⟩
    have hraise : t = raisePerMs 928 code (faultDetail ctx.val e ca) u := by
      rw [ht, xlatRequest_fault _ _ hctx hreq, ← he, ← hu]
    have honly : RaiseOnly u t := hraise ▸ raisePerMs_raiseOnly (by decide) _ _ _
    have hrest : u = { s with regs := u.regs, out := .translated ctx.val ca none :: s.out } :=
      hu ▸ recordFault_onRegs (s.emit _)
    have hinfo : t.word R.XLAT_FLT_INFO = BitVec.ofNat 32 (faultInfo ctx.val code e) :=
      (honly.word _ (by decide)).trans (hu ▸ recordFault_info _)
    have hlo : t.word R.XLAT_FLT_ADDR_LO = BitVec.ofNat 32 ca := (honly.word _ (by decide)).trans (hu ▸ recordFault_lo _)
    have hhi : t.word R.XLAT_FLT_ADDR_HI = BitVec.ofNat 32 (ca / 2 ^ 32 % 2 ^ 9) :=
      (honly.word _ (by decide)).trans (hu ▸ recordFault_hi _)
    have hcnt : raiseAddr (R.XLAT_CNT (code - 1)) = false := by
      rw [Bool.eq_false_iff, Ne, raiseAddr_iff]
      unfold R.XLAT_CNT
      omega
    obtain ⟨hvalid, hc, hk, hlv, hl⟩ := faultInfo_fields hinfo ctx.isLt hlt hbound
    refine ⟨t, (whenLive_next _ _ hlive).trans (congrArg Host.Outcome.next ht.symm), ?_, hvalid, hc, hk, hsome ▸ hlv,
      fun l h => hl.trans (hget l h), ?_, ?_, ?_, fun hq => ?_, ?_, fun a hevt ha => ?_⟩
    · rw [honly.rest, hrest]
    · rw [get_whole t rfl rfl]
      exact (congrArg BitVec.toNat hlo).trans (BitVec.toNat_ofNat _ _)
    · rw [get_of_word_ofNat hhi (by omega)]
      show _ / 2 ^ 0 % 2 ^ 9 = _
      omega
    · rw [State.get_of_word (honly.word _ hcnt), hu, recordFault_count, State.get_emit]
    · rw [hraise]
      refine isPending_raisePerMs (by decide) (by decide) _ _ ?_
      rw [hrest]
      exact hq
    · rw [honly.rest, hrest]
    · refine (honly.word _ (Bool.eq_false_iff.mpr fun h => ?_)).trans (hu ▸ recordFault_word_ne _ ha)
      rw [raiseAddr_iff] at h
      rw [Bool.eq_false_iff, Ne, evtAddr_iff] at hevt
      omega

end Sys2Proof.Machine
end

section
/-! SUPPORT. Changes of the memory data rate (spec/14_hbm_controller.md R450 to R452). -/

namespace Sys2Proof.Machine

/-! ## What work on pseudo-channels leaves as it is -/

theorem nodup_upto (a n : Nat) : (upto a n).Nodup := by
  induction n generalizing a with
  | zero => exact List.nodup_nil
  | succ n ih =>
    refine List.nodup_cons.mpr ⟨fun h => ?_, ih (a + 1)⟩
    rw [mem_upto] at h
    omega

/-- The words that work on pseudo-channels can write: INORDER with REFI, and the count of neighbour refreshes. -/
def pcAddr (a : Nat) : Prop := ∃ c, a = R.HBM_STATUS c ∨ a = R.HBM_NRCNT c

/-- From s to t the pseudo-channels that l holds were worked on: rows, queues and times, but no rate and no self-refresh. -/
structure PcWork (l : List Nat) (s t : State) : Prop where
  rest : t = { s with regs := t.regs, mem := t.mem }
  stack : t.mem.stackUnits = s.mem.stackUnits
  pcs : ∀ p, p ∉ l → t.pc p = s.pc p
  word : ∀ a, ¬ pcAddr a → t.word a = s.word a
  selfref : ∀ c, t.flag (F.HBM_STATUS_SELFREF c) = s.flag (F.HBM_STATUS_SELFREF c)
  rate : ∀ c, t.get (F.HBM_STATUS_RATE c) = s.get (F.HBM_STATUS_RATE c)

section
variable {l : List Nat} {s t u : State}

theorem PcWork.refl (l : List Nat) (s : State) : PcWork l s s :=
  ⟨rfl, rfl, fun _ _ => rfl, fun _ _ => rfl, fun _ => rfl, fun _ => rfl⟩

theorem PcWork.trans (h : PcWork l s t) (k : PcWork l t u) : PcWork l s u where
  rest := by rw [k.rest, h.rest]
  stack := k.stack.trans h.stack
  pcs p hp := (k.pcs p hp).trans (h.pcs p hp)
  word a ha := (k.word a ha).trans (h.word a ha)
  selfref c := (k.selfref c).trans (h.selfref c)
  rate c := (k.rate c).trans (h.rate c)

theorem PcWork.foldl {f : State → Nat → State} (hf : ∀ v p, p ∈ l → PcWork l v (f v p)) (s : State) :
    PcWork l s (l.foldl f s) := by
  have hpart : ∀ m : List Nat, (∀ p ∈ m, p ∈ l) → ∀ v, PcWork l v (m.foldl f v) := by
    intro m
    induction m with
    | nil => exact fun _ v => .refl l v
    | cons p m ih =>
      exact fun hm v => (hf v p (hm p List.mem_cons_self)).trans (ih (fun q hq => hm q (List.mem_cons_of_mem _ hq)) _)
  exact hpart l (fun _ h => h) s

theorem pc_setPc (s : State) (p q : Nat) (x : PcState) : (s.setPc p x).pc q = if p = q then x else s.pc q :=
  tabGet_tabPut ({} : PcState) s.mem.pcs p q x

theorem PcWork.setPc (s : State) {p : Nat} (hp : p ∈ l) (x : PcState) : PcWork l s (s.setPc p x) :=
  ⟨rfl, rfl, fun q hq => (pc_setPc s p q x).trans (if_neg (by rintro rfl; exact hq hp)), fun _ _ => rfl, fun _ => rfl, fun _ => rfl⟩

/-- A field of HBM_STATUS apart from SELFREF and RATE, or of another register of pseudo-channels, is set. -/
theorem PcWork.set (l : List Nat) (s : State) {f : Field} (v : Nat) (ha : pcAddr f.addr)
    (hs : ∀ c, f.Apart (F.HBM_STATUS_SELFREF c)) (hr : ∀ c, f.Apart (F.HBM_STATUS_RATE c)) (hf : f.legal) :
    PcWork l s (s.set f v) :=
  ⟨rfl, rfl, fun _ _ => rfl, fun _ h => s.word_set_ne f v fun e => h (e ▸ ha), fun c => s.flag_set_apart v (hs c) hf,
    fun c => s.get_set_apart v (hr c) hf⟩

theorem PcWork.orderLevel (l : List Nat) (c : Nat) (s : State) : PcWork l s (orderLevel c s) :=
  .set l s _ ⟨c, .inl rfl⟩ (fun _ => .inr (.inr (Nat.le_of_ble_eq_true rfl))) (fun _ => .inr (.inr (Nat.le_of_ble_eq_true rfl)))
     ⟨Nat.le_of_ble_eq_true rfl, Nat.le_of_ble_eq_true rfl⟩

theorem PcWork.countNeighbours (l : List Nat) (p : Nat) (bs : List BankState) (s : State) : PcWork l s (countNeighbours p bs s) := by
  have hne (c : Nat) : R.HBM_NRCNT (ctrlOf p) ≠ R.HBM_STATUS c := by
    unfold R.HBM_NRCNT R.HBM_STATUS
    omega
  exact .set l s _ ⟨ctrlOf p, .inr rfl⟩ (fun c => .inl (hne c)) (fun c => .inl (hne c))
    ⟨Nat.le_of_ble_eq_true rfl, Nat.le_of_ble_eq_true rfl⟩

theorem PcWork.prechargeAll (s : State) {p : Nat} (hp : p ∈ l) : PcWork l s (prechargeAll p s) :=
  (PcWork.setPc s hp _).trans (.countNeighbours l p _ _)

theorem PcWork.takeInput (s : State) {p : Nat} (hp : p ∈ l) : PcWork l s (takeInput p s) := by
  unfold Sys2Proof.Machine.takeInput
  split
  · exact .refl l s
  · exact (PcWork.setPc s hp _).trans (.orderLevel l _ _)

theorem PcWork.startRefresh (k : Nat) (s : State) : PcWork (stackPcs k) s (startRefresh k s) :=
  PcWork.foldl (fun v _ hp => PcWork.setPc v hp _) s

end

theorem not_pcAddr_freqstat (k : Nat) : ¬ pcAddr (R.HBM_FREQSTAT k) := by
  rintro ⟨c, h | h⟩
  · unfold R.HBM_FREQSTAT R.HBM_STATUS at h
    omega
  · unfold R.HBM_FREQSTAT R.HBM_NRCNT at h
    omega

theorem not_pcAddr_freqctl (k : Nat) : ¬ pcAddr (R.HBM_FREQCTL k) := by
  rintro ⟨c, h | h⟩
  · unfold R.HBM_FREQCTL R.HBM_STATUS at h
    omega
  · unfold R.HBM_FREQCTL R.HBM_NRCNT at h
    omega

theorem not_pcAddr_freqtime (k : Nat) : ¬ pcAddr (R.HBM_FREQTIME k) := by
  rintro ⟨c, h | h⟩
  · unfold R.HBM_FREQTIME R.HBM_STATUS at h
    omega
  · unfold R.HBM_FREQTIME R.HBM_NRCNT at h
    omega

/-! ## A pseudo-channel without requests (R452 steps 2 and 3) -/

theorem nextRequest_of_empty {y : BankState} (h : y.queue = []) (write : Bool) : y.nextRequest write = none := by
  have hserve : y.servable write = [] := by
    unfold BankState.servable
    rw [h]
    rfl
  unfold BankState.nextRequest
  rw [hserve]
  cases y.openRow <;> rfl

theorem needsAct_of_empty {y : BankState} (h : y.queue = []) (write : Bool) : y.needsAct write = false := by
  unfold BankState.needsAct BankState.refreshHead
  rw [nextRequest_of_empty h, h]
  rfl

theorem serveOne_of_empty {p : Nat} {s : State} (h : ∀ e ∈ (s.pc p).banks, e.2.queue = []) (write : Bool) (n : Nat) :
    serveOne write p n s = (none, s) := by
  cases n with
  | zero => rfl
  | succ n =>
    have hact : (s.pc p).banks.filter (fun e => e.2.needsAct write) = [] :=
      List.filter_eq_nil_iff.mpr fun e he => by rw [needsAct_of_empty (h e he)]; decide
    unfold serveOne
    dsimp only
    rw [hact, List.filterMap_eq_nil_iff.mpr]
    · rfl
    · intro e he
      rw [nextRequest_of_empty (h e he)]

theorem completeQueued_of_empty {p : Nat} {s : State} (h : ∀ e ∈ (s.pc p).banks, e.2.queue = []) (n : Nat) :
    completeQueued p n s = s := by
  cases n with
  | zero => rfl
  | succ n =>
    unfold completeQueued
    rw [serveOne_of_empty h]
    dsimp only
    rw [serveOne_of_empty h]

/-- A pseudo-channel whose rows are all closed. -/
def PcState.closed (x : PcState) : Prop := ∀ b, (x.bank b).openRow = none

theorem closed_prechargeAll (p : Nat) (s : State) : ((prechargeAll p s).pc p).closed := by
  intro b
  have hpc : (prechargeAll p s).pc p = { s.pc p with banks := (s.pc p).banks.map (fun e => (e.1, prechargeBank s.now e.2)) } :=
    (pc_setPc s p p _).trans (if_pos rfl)
  rw [hpc]
  unfold PcState.bank tabGet
  cases hfind : tabFind ((s.pc p).banks.map (fun e => (e.1, prechargeBank s.now e.2))) b with
  | none => rfl
  | some y =>
    obtain ⟨e, -, he⟩ := List.mem_map.mp (mem_of_tabFind hfind)
    rw [Option.getD_some, ← (Prod.mk.inj he).2]
    rfl

/-- Requests complete and rows close on one pseudo-channel. -/
def quietPc (p : Nat) (s : State) : State := orderLevel (ctrlOf p) (prechargeAll p (completeQueued p 2048 s))

theorem quietPc_of_empty {l : List Nat} {p : Nat} {s : State} (hp : p ∈ l) (h : ∀ e ∈ (s.pc p).banks, e.2.queue = []) :
    PcWork l s (quietPc p s) ∧ ((quietPc p s).pc p).closed := by
  unfold quietPc
  rw [completeQueued_of_empty h]
  exact ⟨(PcWork.prechargeAll s hp).trans (.orderLevel l _ _), closed_prechargeAll p s⟩

theorem foldl_quietPc {l : List Nat} (hl : l.Nodup) {s : State} (h : ∀ p ∈ l, ∀ e ∈ (s.pc p).banks, e.2.queue = []) :
    PcWork l s (l.foldl (fun u p => quietPc p u) s) ∧ ∀ p ∈ l, ((l.foldl (fun u p => quietPc p u) s).pc p).closed := by
  induction l generalizing s with
  | nil => exact ⟨.refl [] s, fun _ h => absurd h List.not_mem_nil⟩
  | cons q l ih =>
    obtain ⟨hq, hl⟩ := List.nodup_cons.mp hl
    obtain ⟨hfirst, hclosed⟩ := quietPc_of_empty (List.mem_singleton_self q) (h q List.mem_cons_self)
    have hkeep (p : Nat) (hp : p ∈ l) : (quietPc q s).pc p = s.pc p :=
      hfirst.pcs p fun e => hq (List.mem_singleton.mp e ▸ hp)
    obtain ⟨hwork, hrest⟩ := ih hl (s := quietPc q s) fun p hp => hkeep p hp ▸ h p (List.mem_cons_of_mem _ hp)
    refine ⟨⟨?_, hwork.stack.trans hfirst.stack, fun p hp => ?_, fun a ha => (hwork.word a ha).trans (hfirst.word a ha),
      fun c => (hwork.selfref c).trans (hfirst.selfref c), fun c => (hwork.rate c).trans (hfirst.rate c)⟩, fun p hp => ?_⟩
    · rw [List.foldl_cons, hwork.rest, hfirst.rest]
    · obtain ⟨hne, hp⟩ := not_or.mp fun h => hp (List.mem_cons.mpr h)
      exact (hwork.pcs p hp).trans (hfirst.pcs p fun e => hne (List.mem_singleton.mp e))
    · rcases List.mem_cons.mp hp with rfl | hp
      · exact (hwork.pcs _ hq).symm ▸ hclosed
      · exact hrest p hp

end Sys2Proof.Machine
end

section
/-! SUPPORT. Changes of the memory data rate: the rate asked for, the start of a change and its end (spec/14_hbm_controller.md
R450 to R452). -/

namespace Sys2Proof.Machine

/-! ## The rate asked for (R450) -/

theorem wantedRate_congr {k : Nat} {s t : State} (ha : t.get (F.HBM_FREQSTAT_AVAIL k) = s.get (F.HBM_FREQSTAT_AVAIL k))
    (hc : t.get (F.HBM_FREQSTAT_CEILING k) = s.get (F.HBM_FREQSTAT_CEILING k))
    (ht : t.get (F.HBM_FREQCTL_TARGET k) = s.get (F.HBM_FREQCTL_TARGET k)) : t.wantedRate k = s.wantedRate k := by
  unfold State.wantedRate
  rw [ha, hc, ht]

theorem wantedRate_lt {k r : Nat} {s : State} (h : s.wantedRate k = some r) : r < 4 := by
  have htarget : s.get (F.HBM_FREQCTL_TARGET k) < 4 := wordField_lt _ (F.HBM_FREQCTL_TARGET k)
  unfold State.wantedRate at h
  dsimp only at h
  split at h
  next x hx =>
    obtain rfl := Option.some.inj h
    have hmem := (mem_upto _ _ _).mp (List.mem_reverse.mp (List.mem_of_find?_eq_some hx))
    omega
  next =>
    have hmem := (mem_upto _ _ _).mp (List.mem_of_find?_eq_some h)
    omega

theorem wantedRate_isSome {k r : Nat} {s : State} (hr : r < 4) (h : (s.get (F.HBM_FREQSTAT_AVAIL k)).testBit r = true) :
    s.wantedRate k ≠ none := by
  unfold State.wantedRate
  dsimp only
  split
  · exact Option.some_ne_none _
  · exact fun hnone => List.find?_eq_none.mp hnone r ((mem_upto _ _ _).mpr (by omega)) h

/-- The rate that the stack has, or is about to have. -/
def State.rateNow (s : State) (k : Nat) : Nat :=
  if s.flag (F.HBM_FREQSTAT_ACTIVE k) then (s.stack k).next else s.get (F.HBM_FREQSTAT_IN_FORCE k)

theorem rateCheck_of_some {k r : Nat} {s : State} (h : s.wantedRate k = some r) :
    rateCheck k s = s.set (F.HBM_FREQSTAT_PENDING k) (bit (r != s.rateNow k)) := by
  unfold rateCheck
  rw [h]
  rfl

theorem flag_set_bit (s : State) (f : Field) (b : Bool) (hf : f.legal) (h : f.hi = f.lo) : (s.set f (bit b)).flag f = b := by
  have hfit : bit b < 2 ^ (f.hi + 1 - f.lo) := by
    rw [h, Nat.add_sub_cancel_left]
    exact bit_lt b
  unfold State.flag
  rw [s.get_set_fits hfit hf]
  cases b <;> rfl

theorem flag_set_on (s : State) {f : Field} (h : f.hi = f.lo)
    (hf : f.legal := by exact ⟨Nat.le_of_ble_eq_true rfl, Nat.le_of_ble_eq_true rfl⟩) : (s.set f 1).flag f = true :=
  flag_set_bit s f true hf h

theorem flag_set_off (s : State) {f : Field} (h : f.hi = f.lo)
    (hf : f.legal := by exact ⟨Nat.le_of_ble_eq_true rfl, Nat.le_of_ble_eq_true rfl⟩) : (s.set f 0).flag f = false :=
  flag_set_bit s f false hf h

theorem pending_rateCheck {k : Nat} {s : State} (h : s.wantedRate k ≠ none) :
    (rateCheck k s).flag (F.HBM_FREQSTAT_PENDING k) = true ↔ s.wantedRate k ≠ some (s.rateNow k) := by
  obtain ⟨r, hr⟩ := Option.ne_none_iff_exists'.mp h
  rw [rateCheck_of_some hr, flag_set_bit _ _ _ ⟨Nat.le_of_ble_eq_true rfl, Nat.le_of_ble_eq_true rfl⟩ rfl, hr, bne_iff_ne,
    Ne, Ne, Option.some.injEq]

theorem freqctl_ne_freqstat (k : Nat) : R.HBM_FREQCTL k ≠ R.HBM_FREQSTAT k := by
  unfold R.HBM_FREQCTL R.HBM_FREQSTAT
  omega

/-! ## Folds over the controllers of a stack -/

/-- What one step of a fold brings and every step keeps holds at its end. -/
theorem foldl_brings {α β : Type} (p : β → Prop) (f : β → α → β) {l : List α} {x : α} (hx : x ∈ l) (hb : ∀ b, p (f b x))
    (hk : ∀ b a, p b → p (f b a)) (b : β) : p (l.foldl f b) := by
  induction l generalizing b with
  | nil => exact absurd hx List.not_mem_nil
  | cons a l ih =>
    rcases List.mem_cons.mp hx with rfl | hx
    · exact foldl_keeps p f l (hb b) hk
    · exact ih hx _

theorem hbmStatus_injective {c d : Nat} (h : R.HBM_STATUS c = R.HBM_STATUS d) : c = d := by
  unfold R.HBM_STATUS at h
  omega

/-- A step of a fold over controllers: words of HBM_STATUS alone change. -/
structure StatusOnly (s t : State) : Prop where
  regs : OnRegs s t
  word : ∀ a, (∀ c, a ≠ R.HBM_STATUS c) → t.word a = s.word a

theorem StatusOnly.refl (s : State) : StatusOnly s s := ⟨.refl s, fun _ _ => rfl⟩

theorem StatusOnly.trans {s t u : State} (h : StatusOnly s t) (k : StatusOnly t u) : StatusOnly s u :=
  ⟨h.regs.trans k.regs, fun a ha => (k.word a ha).trans (h.word a ha)⟩

theorem StatusOnly.set (s : State) {f : Field} {c : Nat} (v : Nat) (h : f.addr = R.HBM_STATUS c) : StatusOnly s (s.set f v) :=
  ⟨.set s f v, fun _ ha => s.word_set_ne f v fun e => ha c (e.symm.trans h)⟩

theorem StatusOnly.foldl {f : State → Nat → State} (hf : ∀ v c, StatusOnly v (f v c)) (l : List Nat) (s : State) :
    StatusOnly s (l.foldl f s) :=
  foldl_keeps (StatusOnly s) f l (.refl s) fun v c h => h.trans (hf v c)

/-- The controllers of a stack enter self-refresh. -/
def selfRefreshStack (k : Nat) (s : State) : State := (stackCtrls k).foldl (fun s c => s.set (F.HBM_STATUS_SELFREF c) 1) s

theorem selfRefreshStack_statusOnly (k : Nat) (s : State) : StatusOnly s (selfRefreshStack k s) :=
  .foldl (fun v _ => .set v 1 rfl) _ s

theorem selfref_selfRefreshStack {k c : Nat} (hc : c ∈ stackCtrls k) (s : State) :
    (selfRefreshStack k s).flag (F.HBM_STATUS_SELFREF c) = true := by
  refine foldl_brings (fun u : State => u.flag (F.HBM_STATUS_SELFREF c) = true) _ hc (fun u => ?_) (fun u d hu => ?_) s
  · exact flag_set_on u rfl
  · by_cases hd : d = c
    · subst hd
      exact flag_set_on u rfl
    · exact (u.flag_set_apart 1 (.inl fun e => hd (hbmStatus_injective e))).trans hu

/-- Controller c leaves self-refresh at a rate. -/
def wake (rate c : Nat) (s : State) : State := (s.set (F.HBM_STATUS_SELFREF c) 0).set (F.HBM_STATUS_RATE c) rate

/-- A controller shows a rate and no self-refresh. -/
def Awake (rate c : Nat) (s : State) : Prop := s.flag (F.HBM_STATUS_SELFREF c) = false ∧ s.get (F.HBM_STATUS_RATE c) = rate

theorem wake_same {rate : Nat} (h : rate < 4) (c : Nat) (s : State) : Awake rate c (wake rate c s) := by
  have hfit : rate < 2 ^ ((F.HBM_STATUS_RATE c).hi + 1 - (F.HBM_STATUS_RATE c).lo) := h
  have happart : (F.HBM_STATUS_RATE c).Apart (F.HBM_STATUS_SELFREF c) := .inr (.inl (Nat.le_of_ble_eq_true rfl))
  exact ⟨(State.flag_set_apart _ rate happart).trans (flag_set_off s rfl), State.get_set_fits _ hfit⟩

theorem wake_other {rate c d : Nat} {s : State} (h : d ≠ c) (hs : Awake rate c s) : Awake rate c (wake rate d s) := by
  have hne : R.HBM_STATUS d ≠ R.HBM_STATUS c := fun e => h (hbmStatus_injective e)
  refine ⟨?_, ?_⟩
  · exact (State.flag_set_apart _ rate (.inl hne)).trans ((State.flag_set_apart s 0 (.inl hne)).trans hs.1)
  · exact (State.get_set_apart _ rate (.inl hne)).trans ((State.get_set_apart s 0 (.inl hne)).trans hs.2)

/-- The controllers of a stack leave self-refresh at a rate. -/
def wakeStack (k rate : Nat) (s : State) : State := (stackCtrls k).foldl (fun s c => wake rate c s) s

theorem wakeStack_statusOnly (k rate : Nat) (s : State) : StatusOnly s (wakeStack k rate s) :=
  .foldl (fun v _ => (StatusOnly.set v 0 rfl).trans (.set _ rate rfl)) _ s

theorem wakeStack_shows {k c rate : Nat} (hc : c ∈ stackCtrls k) (hr : rate < 4) (s : State) : Awake rate c (wakeStack k rate s) := by
  unfold wakeStack
  refine foldl_brings (Awake rate c) (fun u d => wake rate d u) hc (wake_same hr c) (fun u d hu => ?_) s
  by_cases hd : d = c
  · rw [hd]
    exact wake_same hr c u
  · exact wake_other hd hu

theorem freqstat_ne_hbmStatus (k c : Nat) : R.HBM_FREQSTAT k ≠ R.HBM_STATUS c := fun e => not_pcAddr_freqstat k ⟨c, .inl e⟩

theorem freqctl_ne_hbmStatus (k c : Nat) : R.HBM_FREQCTL k ≠ R.HBM_STATUS c := fun e => not_pcAddr_freqctl k ⟨c, .inl e⟩

theorem freqtime_ne_hbmStatus (k c : Nat) : R.HBM_FREQTIME k ≠ R.HBM_STATUS c := fun e => not_pcAddr_freqtime k ⟨c, .inl e⟩

/-! ## A change starts (R452 steps 1 to 4) -/

/-- The marks of a change to rate r. -/
def beginChange (k r : Nat) (s : State) : State :=
  let u := (s.set (F.HBM_FREQSTAT_ACTIVE k) 1).set (F.HBM_FREQSTAT_PENDING k) 0
  u.setStack k { u.stack k with next := r, startedAt := u.now }

theorem freqStart_idle {k r : Nat} {s : State} (h : s.wantedRate k = some r)
    (hno : s.flag (F.HBM_FREQSTAT_PENDING k) = false ∨ s.changeWindow = false) : freqStart k s = s := by
  unfold freqStart
  rw [h]
  refine if_pos ?_
  rcases hno with hno | hno
  · exact .inl (by rw [hno]; decide)
  · exact .inr (.inr (by rw [hno]; decide))

theorem freqStart_takes {k r : Nat} {s : State} (h : s.wantedRate k = some r) (ha : s.flag (F.HBM_FREQSTAT_ACTIVE k) = false)
    (hp : s.flag (F.HBM_FREQSTAT_PENDING k) = true) (hw : s.changeWindow = true) :
    freqStart k s = selfRefreshStack k ((stackPcs k).foldl (fun u p => quietPc p u) (beginChange k r s)) := by
  unfold freqStart selfRefreshStack quietPc beginChange
  rw [h]
  exact if_neg (by rw [ha, hp, hw]; decide)

/-! ## A change ends (R452 steps 5 and 6) -/

/-- The new rate in force, counted, with its duration. -/
def endChange (k : Nat) (s : State) : State :=
  let u := wakeStack k (s.stack k).next s
  let v := ((u.set (F.HBM_FREQSTAT_ACTIVE k) 0).set (F.HBM_FREQSTAT_IN_FORCE k) (s.stack k).next).set
    (F.HBM_FREQSTAT_CHANGES k) ((u.get (F.HBM_FREQSTAT_CHANGES k) + 1) % 65536)
  v.set (F.HBM_FREQTIME_DURATION_NS k) (min 65535 (v.now - (s.stack k).startedAt))

/-- Refresh and requests of the stack go on. -/
def goOn (k : Nat) (s : State) : State := (stackPcs k).foldl (fun u p => takeInput p u) (startRefresh k s)

theorem goOn_pcWork (k : Nat) (s : State) : PcWork (stackPcs k) s (goOn k s) :=
  (PcWork.startRefresh k s).trans (PcWork.foldl (fun v _ hp => PcWork.takeInput v hp) _)

theorem freqDone_active {k : Nat} {s : State} (h : s.flag (F.HBM_FREQSTAT_ACTIVE k) = true) :
    freqDone k s = freqStart k (rateCheck k (goOn k (endChange k s))) := by
  unfold freqDone
  exact if_neg (not_not.mpr h)

theorem endChange_onRegs (k : Nat) (s : State) : OnRegs s (endChange k s) :=
  ((((wakeStack_statusOnly k _ s).regs.trans (.set _ _ _)).trans (.set _ _ _)).trans (.set _ _ _)).trans (.set _ _ _)

theorem freqtime_ne_freqstat (k : Nat) : R.HBM_FREQTIME k ≠ R.HBM_FREQSTAT k := by
  unfold R.HBM_FREQTIME R.HBM_FREQSTAT
  omega

/-- The fields of HBM_FREQSTAT and HBM_FREQTIME after a change. -/
theorem endChange_shows (k : Nat) (s : State) (hr : (s.stack k).next < 4) :
    (endChange k s).flag (F.HBM_FREQSTAT_ACTIVE k) = false ∧
    (endChange k s).get (F.HBM_FREQSTAT_IN_FORCE k) = (s.stack k).next ∧
    (endChange k s).get (F.HBM_FREQSTAT_CHANGES k) = (s.get (F.HBM_FREQSTAT_CHANGES k) + 1) % 65536 ∧
    (endChange k s).get (F.HBM_FREQTIME_DURATION_NS k) = min 65535 (s.now - (s.stack k).startedAt) ∧
    (endChange k s).get (F.HBM_FREQSTAT_AVAIL k) = s.get (F.HBM_FREQSTAT_AVAIL k) ∧
    (endChange k s).get (F.HBM_FREQSTAT_CEILING k) = s.get (F.HBM_FREQSTAT_CEILING k) ∧
    (endChange k s).get (F.HBM_FREQCTL_TARGET k) = s.get (F.HBM_FREQCTL_TARGET k) := by
  obtain ⟨u, hu⟩ : ∃ u, u = wakeStack k (s.stack k).next s := ⟨_, rfl⟩
  have hwake : StatusOnly s u := hu ▸ wakeStack_statusOnly k _ s
  have hstat : u.word (R.HBM_FREQSTAT k) = s.word (R.HBM_FREQSTAT k) := hwake.word _ fun c => freqstat_ne_hbmStatus k c
  have hnow : u.now = s.now := by rw [hwake.regs]
  have hend : endChange k s = (((u.set (F.HBM_FREQSTAT_ACTIVE k) 0).set (F.HBM_FREQSTAT_IN_FORCE k) (s.stack k).next).set
      (F.HBM_FREQSTAT_CHANGES k) ((u.get (F.HBM_FREQSTAT_CHANGES k) + 1) % 65536)).set (F.HBM_FREQTIME_DURATION_NS k)
      (min 65535 (s.now - (s.stack k).startedAt)) := by
    unfold endChange
    rw [← hu]
    simp only [State.set_only, hnow]
  have htime (f : Field) (h : f.addr = R.HBM_FREQSTAT k) : (F.HBM_FREQTIME_DURATION_NS k).Apart f :=
    .inl fun e => freqtime_ne_freqstat k (e.trans h)
  have hfit : (s.stack k).next < 2 ^ ((F.HBM_FREQSTAT_IN_FORCE k).hi + 1 - (F.HBM_FREQSTAT_IN_FORCE k).lo) := hr
  have hcount (n : Nat) : n % 65536 < 2 ^ ((F.HBM_FREQSTAT_CHANGES k).hi + 1 - (F.HBM_FREQSTAT_CHANGES k).lo) :=
    Nat.mod_lt n (Nat.two_pow_pos 16)
  have hdur (n : Nat) : min 65535 n < 2 ^ ((F.HBM_FREQTIME_DURATION_NS k).hi + 1 - (F.HBM_FREQTIME_DURATION_NS k).lo) := by
    show min 65535 n < 2 ^ 16
    omega
  rw [hend]
  refine ⟨?_, ?_, ?_, ?_, ?_, ?_, ?_⟩
  · exact (State.flag_set_apart _ _ (htime _ rfl)).trans ((State.flag_set_apart _ _ (.inr (.inr (Nat.le_of_ble_eq_true rfl)))).trans
      ((State.flag_set_apart _ _ (.inr (.inl (Nat.le_of_ble_eq_true rfl)))).trans
        (flag_set_off u rfl)))
  · exact (State.get_set_apart _ _ (htime _ rfl)).trans ((State.get_set_apart _ _ (.inr (.inr (Nat.le_of_ble_eq_true rfl)))).trans
      (State.get_set_fits _ hfit))
  · refine (State.get_set_apart _ _ (htime _ rfl)).trans ((State.get_set_fits _ (hcount _)).trans ?_)
    rw [State.get_of_word hstat]
  · exact State.get_set_fits _ (hdur _)
  · exact (State.get_set_apart _ _ (htime _ rfl)).trans ((State.get_set_apart _ _ (.inr (.inr (Nat.le_of_ble_eq_true rfl)))).trans
      ((State.get_set_apart _ _ (.inr (.inl (Nat.le_of_ble_eq_true rfl)))).trans
        ((State.get_set_apart _ _ (.inr (.inl (Nat.le_of_ble_eq_true rfl)))).trans (State.get_of_word hstat))))
  · exact (State.get_set_apart _ _ (htime _ rfl)).trans ((State.get_set_apart _ _ (.inr (.inr (Nat.le_of_ble_eq_true rfl)))).trans
      ((State.get_set_apart _ _ (.inr (.inl (Nat.le_of_ble_eq_true rfl)))).trans
        ((State.get_set_apart _ _ (.inr (.inr (Nat.le_of_ble_eq_true rfl)))).trans (State.get_of_word hstat))))
  · have hne := Ne.symm (freqctl_ne_freqstat k)
    have htne : R.HBM_FREQTIME k ≠ R.HBM_FREQCTL k := by
      unfold R.HBM_FREQTIME R.HBM_FREQCTL
      omega
    exact (State.get_set_apart _ _ (.inl htne)).trans ((State.get_set_apart _ _ (.inl hne)).trans
      ((State.get_set_apart _ _ (.inl hne)).trans ((State.get_set_apart _ _ (.inl hne)).trans
        (State.get_of_word (hwake.word _ fun c => freqctl_ne_hbmStatus k c)))))

end Sys2Proof.Machine
end

section
/-! SUPPORT. Changes of the memory data rate as commands (spec/14_hbm_controller.md R450 to R452). -/

namespace Sys2Proof.Machine

/-! ## A write of HBM_FREQCTL (R450) -/

section
variable {who : Requester} {stack : Fin 2} {v : Word} {s : State}

theorem freqctlWrite_busy (h : Permitted who (R.HBM_FREQCTL stack.val) s) (ha : s.flag (F.HBM_FREQSTAT_ACTIVE stack.val) = true) :
    exec (.hbmFreqctlWrite who stack v) s = .next (s.emit (.status who (R.HBM_FREQCTL stack.val) .busy)) :=
  whenLive_answers h (if_pos ha)

theorem freqctlWrite_unavailable (h : Permitted who (R.HBM_FREQCTL stack.val) s)
    (ha : s.flag (F.HBM_FREQSTAT_ACTIVE stack.val) = false)
    (hr : (s.get (F.HBM_FREQSTAT_AVAIL stack.val)).testBit (wordField v (F.HBM_FREQCTL_TARGET stack.val)) = false) :
    exec (.hbmFreqctlWrite who stack v) s = .next (s.emit (.status who (R.HBM_FREQCTL stack.val) .value)) := by
  refine whenLive_answers h ?_
  unfold freqctlWrite
  exact (if_neg (by rw [ha]; decide)).trans (if_pos (by rw [hr]; decide))

theorem freqctlWrite_takes (h : Permitted who (R.HBM_FREQCTL stack.val) s)
    (ha : s.flag (F.HBM_FREQSTAT_ACTIVE stack.val) = false)
    (hr : (s.get (F.HBM_FREQSTAT_AVAIL stack.val)).testBit (wordField v (F.HBM_FREQCTL_TARGET stack.val)) = true) :
    exec (.hbmFreqctlWrite who stack v) s = .next ((rateCheck stack.val (s.set (F.HBM_FREQCTL_TARGET stack.val)
      (wordField v (F.HBM_FREQCTL_TARGET stack.val)))).emit (.status who (R.HBM_FREQCTL stack.val) .ok)) := by
  refine whenLive_answers h ?_
  unfold freqctlWrite
  exact (if_neg (by rw [ha]; decide)).trans (if_neg (by rw [hr]; decide))

end

/-- What a target that is available shows. -/
theorem rateCheck_target {k target : Nat} {s : State} (htarget : target < 4) (ha : s.flag (F.HBM_FREQSTAT_ACTIVE k) = false)
    (hr : (s.get (F.HBM_FREQSTAT_AVAIL k)).testBit target = true) :
    let t := rateCheck k (s.set (F.HBM_FREQCTL_TARGET k) target)
    t.get (F.HBM_FREQCTL_TARGET k) = target ∧
    (t.flag (F.HBM_FREQSTAT_PENDING k) = true ↔ t.wantedRate k ≠ some (s.get (F.HBM_FREQSTAT_IN_FORCE k))) ∧
    (∀ a, a ≠ R.HBM_FREQCTL k → a ≠ R.HBM_FREQSTAT k → t.word a = s.word a) ∧ OnRegs s t := by
  obtain ⟨u, hu⟩ : ∃ u, u = s.set (F.HBM_FREQCTL_TARGET k) target := ⟨_, rfl⟩
  have hother (f : Field) (hf : f.addr = R.HBM_FREQSTAT k) : u.get f = s.get f :=
    hu ▸ s.get_set_apart target (.inl fun e => freqctl_ne_freqstat k (e.trans hf))
  have hset : u.get (F.HBM_FREQCTL_TARGET k) = target := hu ▸ State.get_set_fits s htarget
  have hwanted : u.wantedRate k ≠ none := wantedRate_isSome htarget ((hother (F.HBM_FREQSTAT_AVAIL k) rfl).symm ▸ hr)
  obtain ⟨r, hsome⟩ := Option.ne_none_iff_exists'.mp hwanted
  have hcheck := rateCheck_of_some hsome
  have hnow : u.rateNow k = s.get (F.HBM_FREQSTAT_IN_FORCE k) := by
    refine (if_neg ?_).trans (hother _ rfl)
    unfold State.flag at ha ⊢
    rw [hother _ rfl, ha]
    decide
  have hctl : (F.HBM_FREQSTAT_PENDING k).Apart (F.HBM_FREQCTL_TARGET k) := .inl (Ne.symm (freqctl_ne_freqstat k))
  have hsame : (rateCheck k u).wantedRate k = u.wantedRate k := by
    rw [hcheck]
    exact wantedRate_congr (State.get_set_apart u _ (.inr (.inl (Nat.le_of_ble_eq_true rfl))))
      (State.get_set_apart u _ (.inr (.inr (Nat.le_of_ble_eq_true rfl)))) (State.get_set_apart u _ hctl)
  rw [← hu]
  refine ⟨?_, ?_, fun a hf hs => ?_, ?_⟩
  · rw [hcheck]
    exact (State.get_set_apart u _ hctl).trans hset
  · rw [hsame, ← hnow]
    exact pending_rateCheck hwanted
  · rw [hcheck]
    exact (u.word_set_ne _ _ (Ne.symm hs)).trans (hu ▸ s.word_set_ne _ _ (Ne.symm hf))
  · rw [hcheck, hu]
    exact (OnRegs.set _ _ _).trans (.set _ _ _)

/-! ## A change begins and ends (R452) -/

theorem OnRegs.mem {s t : State} (h : OnRegs s t) : t.mem = s.mem := by rw [h]

theorem pc_of_mem {s t : State} (h : t.mem = s.mem) (p : Nat) : t.pc p = s.pc p :=
  congrArg (fun m : HbmState => tabGet ({} : PcState) m.pcs p) h

theorem stack_of_stackUnits {s t : State} (h : t.mem.stackUnits = s.mem.stackUnits) (k : Nat) : t.stack k = s.stack k :=
  congrArg (fun u => tabGet ({} : StackState) u k) h

theorem stack_setStack_same (s : State) (k : Nat) (x : StackState) : (s.setStack k x).stack k = x :=
  (tabGet_tabPut ({} : StackState) s.mem.stackUnits k k x).trans (if_pos rfl)

theorem setStack_keeps (s : State) (k p : Nat) (x : StackState) : (s.setStack k x).pc p = s.pc p ∧
    s.setStack k x = { s with mem := (s.setStack k x).mem } ∧ ∀ f, (s.setStack k x).flag f = s.flag f :=
  ⟨rfl, rfl, fun _ => rfl⟩

/-- What the marks of a change show. -/
theorem beginChange_shows (k r : Nat) (s : State) : (∀ p, (beginChange k r s).pc p = s.pc p) ∧
    (beginChange k r s).stack k = { s.stack k with next := r, startedAt := s.now } ∧
    beginChange k r s = { s with regs := (beginChange k r s).regs, mem := (beginChange k r s).mem } ∧
    (beginChange k r s).flag (F.HBM_FREQSTAT_ACTIVE k) = true ∧ (beginChange k r s).flag (F.HBM_FREQSTAT_PENDING k) = false := by
  obtain ⟨u, hu⟩ : ∃ u, u = (s.set (F.HBM_FREQSTAT_ACTIVE k) 1).set (F.HBM_FREQSTAT_PENDING k) 0 := ⟨_, rfl⟩
  have hregs : OnRegs s u := hu ▸ (OnRegs.set _ _ _).trans (.set _ _ _)
  have hbegin : beginChange k r s = u.setStack k { u.stack k with next := r, startedAt := u.now } := by
    rw [hu]
    rfl
  have hstack : u.stack k = s.stack k := stack_of_stackUnits (by rw [hregs]) k
  have hnow : u.now = s.now := by rw [hregs]
  have hactive : u.flag (F.HBM_FREQSTAT_ACTIVE k) = true := by
    rw [hu]
    exact (State.flag_set_apart _ 0 (.inr (.inl (Nat.le_of_ble_eq_true rfl)))).trans (flag_set_on s rfl)
  have hpending : u.flag (F.HBM_FREQSTAT_PENDING k) = false := by
    rw [hu]
    exact flag_set_off _ rfl
  rw [hbegin, hstack, hnow]
  refine ⟨fun p => pc_of_mem hregs.mem p, stack_setStack_same u k _, ?_, hactive, hpending⟩
  rw [(setStack_keeps u k 0 _).2.1, hregs]

/-- A change that starts without requests: marks, self-refresh and closed rows. -/
theorem freqStart_shows {k r : Nat} {s : State} (h : s.wantedRate k = some r) (ha : s.flag (F.HBM_FREQSTAT_ACTIVE k) = false)
    (hp : s.flag (F.HBM_FREQSTAT_PENDING k) = true) (hw : s.changeWindow = true)
    (hempty : ∀ p ∈ stackPcs k, ∀ e ∈ (s.pc p).banks, e.2.queue = []) :
    let t := freqStart k s
    t.flag (F.HBM_FREQSTAT_ACTIVE k) = true ∧ t.flag (F.HBM_FREQSTAT_PENDING k) = false ∧
    (t.stack k).next = r ∧ (t.stack k).startedAt = s.now ∧ (∀ c ∈ stackCtrls k, t.flag (F.HBM_STATUS_SELFREF c) = true) ∧
    (∀ p ∈ stackPcs k, (t.pc p).closed) ∧ (∀ p, p ∉ stackPcs k → t.pc p = s.pc p) ∧
    t = { s with regs := t.regs, mem := t.mem } := by
  obtain ⟨u, hu⟩ : ∃ u, u = beginChange k r s := ⟨_, rfl⟩
  obtain ⟨w, hwdef⟩ : ∃ w, w = (stackPcs k).foldl (fun u p => quietPc p u) u := ⟨_, rfl⟩
  obtain ⟨hupcs, hustack, hurest, huactive, hupending⟩ := hu ▸ beginChange_shows k r s
  obtain ⟨hwork, hclosed⟩ := foldl_quietPc (nodup_upto (32 * k) 32) (s := u) fun p hp => hupcs p ▸ hempty p hp
  rw [show upto (32 * k) 32 = stackPcs k from rfl, ← hwdef] at hwork hclosed
  obtain ⟨t, ht⟩ : ∃ t, t = selfRefreshStack k w := ⟨_, rfl⟩
  have hself : StatusOnly w t := ht ▸ selfRefreshStack_statusOnly k w
  have hselfref (c : Nat) (hc : c ∈ stackCtrls k) : t.flag (F.HBM_STATUS_SELFREF c) = true := ht ▸ selfref_selfRefreshStack hc w
  have hstat : t.word (R.HBM_FREQSTAT k) = u.word (R.HBM_FREQSTAT k) :=
    (hself.word _ fun c => freqstat_ne_hbmStatus k c).trans (hwork.word _ (not_pcAddr_freqstat k))
  have hpc (p : Nat) : t.pc p = w.pc p := pc_of_mem hself.regs.mem p
  have hstack : t.stack k = u.stack k := stack_of_stackUnits ((congrArg _ hself.regs.mem).trans hwork.stack) k
  have hstart : freqStart k s = t := by rw [freqStart_takes h ha hp hw, ← hu, ← hwdef, ← ht]
  rw [hstart]
  refine ⟨(State.flag_of_word hstat).trans huactive, (State.flag_of_word hstat).trans hupending, ?_, ?_, hselfref,
    fun p hp => hpc p ▸ hclosed p hp, fun p hp => (hpc p).trans ((hwork.pcs p hp).trans (hupcs p)), ?_⟩
  · rw [hstack, hustack]
  · rw [hstack, hustack]
  · rw [hself.regs, hwork.rest, hurest]

/-- What the end of a change shows. -/
theorem freqDone_shows {k : Nat} {s : State} (ha : s.flag (F.HBM_FREQSTAT_ACTIVE k) = true)
    (h : s.wantedRate k = some (s.stack k).next) :
    let t := freqDone k s
    t.flag (F.HBM_FREQSTAT_ACTIVE k) = false ∧ t.flag (F.HBM_FREQSTAT_PENDING k) = false ∧
    t.get (F.HBM_FREQSTAT_IN_FORCE k) = (s.stack k).next ∧
    t.get (F.HBM_FREQSTAT_CHANGES k) = (s.get (F.HBM_FREQSTAT_CHANGES k) + 1) % 65536 ∧
    t.get (F.HBM_FREQTIME_DURATION_NS k) = min 65535 (s.now - (s.stack k).startedAt) ∧
    (∀ c ∈ stackCtrls k, Awake (s.stack k).next c t) ∧ (∀ p, p ∉ stackPcs k → t.pc p = s.pc p) ∧
    t = { s with regs := t.regs, mem := t.mem } := by
  have hr := wantedRate_lt h
  obtain ⟨u, hu⟩ : ∃ u, u = endChange k s := ⟨_, rfl⟩
  obtain ⟨w, hwdef⟩ : ∃ w, w = goOn k u := ⟨_, rfl⟩
  obtain ⟨hactive, hforce, hchanges, hdur, havail, hceil, htarget⟩ := hu ▸ endChange_shows k s hr
  have hwork : PcWork (stackPcs k) u w := hwdef ▸ goOn_pcWork k u
  have hstat := hwork.word _ (not_pcAddr_freqstat k)
  have hurest : OnRegs s u := hu ▸ endChange_onRegs k s
  have hwanted : w.wantedRate k = some (s.stack k).next :=
    (wantedRate_congr ((State.get_of_word hstat).trans havail) ((State.get_of_word hstat).trans hceil)
      ((State.get_of_word (hwork.word _ (not_pcAddr_freqctl k))).trans htarget)).trans h
  have hwactive : w.flag (F.HBM_FREQSTAT_ACTIVE k) = false := (State.flag_of_word hstat).trans hactive
  have hwforce : w.get (F.HBM_FREQSTAT_IN_FORCE k) = (s.stack k).next := (State.get_of_word hstat).trans hforce
  have hnow : w.rateNow k = (s.stack k).next := (if_neg (by rw [hwactive]; decide)).trans hwforce
  obtain ⟨t, ht⟩ : ∃ t, t = w.set (F.HBM_FREQSTAT_PENDING k) 0 := ⟨_, rfl⟩
  have hcheck : rateCheck k w = t := by
    rw [rateCheck_of_some hwanted, hnow, bne_self_eq_false, ht]
    rfl
  have hpending : t.flag (F.HBM_FREQSTAT_PENDING k) = false := ht ▸ flag_set_off w rfl
  have htwanted : t.wantedRate k = some (s.stack k).next := by
    refine (wantedRate_congr ?_ ?_ ?_).trans hwanted
    · exact ht ▸ State.get_set_apart w 0 (.inr (.inl (Nat.le_of_ble_eq_true rfl)))
    · exact ht ▸ State.get_set_apart w 0 (.inr (.inr (Nat.le_of_ble_eq_true rfl)))
    · exact ht ▸ State.get_set_apart w 0 (.inl (Ne.symm (freqctl_ne_freqstat k)))
  have hdone : freqDone k s = t := by
    rw [freqDone_active ha, ← hu, ← hwdef, hcheck]
    exact freqStart_idle htwanted (.inl hpending)
  have hpcs (p : Nat) (hp : p ∉ stackPcs k) : t.pc p = s.pc p := by
    have htmem : t.mem = w.mem := by rw [ht]; exact (OnRegs.set w _ _).mem
    exact (pc_of_mem htmem p).trans ((hwork.pcs p hp).trans (pc_of_mem hurest.mem p))
  have hstatus (c : Nat) (f : Field) (hf : f.addr = R.HBM_STATUS c) : (F.HBM_FREQSTAT_PENDING k).Apart f :=
    .inl fun e => freqstat_ne_hbmStatus k c (e.trans hf)
  have hawake (c : Nat) (hc : c ∈ stackCtrls k) : Awake (s.stack k).next c t := by
    have hwake := wakeStack_shows hc hr s
    have hend : u.word (R.HBM_STATUS c) = (wakeStack k (s.stack k).next s).word (R.HBM_STATUS c) := by
      rw [hu]
      exact (State.word_set_ne _ _ _ (freqtime_ne_hbmStatus k c)).trans ((State.word_set_ne _ _ _ (freqstat_ne_hbmStatus k c)).trans
        ((State.word_set_ne _ _ _ (freqstat_ne_hbmStatus k c)).trans (State.word_set_ne _ _ _ (freqstat_ne_hbmStatus k c))))
    refine ⟨?_, ?_⟩
    · exact (ht ▸ State.flag_set_apart w 0 (hstatus c _ rfl)).trans
        ((hwork.selfref c).trans ((State.flag_of_word hend).trans hwake.1))
    · exact (ht ▸ State.get_set_apart w 0 (hstatus c _ rfl)).trans
        ((hwork.rate c).trans ((State.get_of_word hend).trans hwake.2))
  have htime : (F.HBM_FREQSTAT_PENDING k).Apart (F.HBM_FREQTIME_DURATION_NS k) := .inl (Ne.symm (freqtime_ne_freqstat k))
  rw [hdone]
  refine ⟨?_, hpending, ?_, ?_, ?_, hawake, hpcs, ?_⟩
  · exact (ht ▸ State.flag_set_apart w 0 (.inr (.inl (Nat.le_of_ble_eq_true rfl)))).trans hwactive
  · exact (ht ▸ State.get_set_apart w 0 (.inr (.inr (Nat.le_of_ble_eq_true rfl)))).trans hwforce
  · exact (ht ▸ State.get_set_apart w 0 (.inr (.inl (Nat.le_of_ble_eq_true rfl)))).trans
      ((State.get_of_word hstat).trans hchanges)
  · exact (ht ▸ State.get_set_apart w 0 htime).trans
      ((State.get_of_word (hwork.word _ (not_pcAddr_freqtime k))).trans hdur)
  · rw [ht, OnRegs.set w, hwork.rest, hurest]

/-- Settles O53: a write of HBM_FREQCTL, the start of a change and its end. -/
theorem dataRateChanges : Obligations.DataRateChanges := by
  intro who stack v r s
  refine ⟨fun hperm => ⟨fun ha => freqctlWrite_busy hperm ha, fun ha hr => freqctlWrite_unavailable hperm ha hr, fun ha hr => ?_⟩,
    fun hlive hwanted ha => ⟨fun hp hw hempty => ?_, fun hno => ?_⟩, fun hlive ha hwanted => ?_⟩
  · obtain ⟨hget, hpending, hword, hregs⟩ := rateCheck_target (wordField_lt v (F.HBM_FREQCTL_TARGET stack.val)) ha hr
    refine ⟨_, freqctlWrite_takes hperm ha hr, ?_⟩
    generalize rateCheck stack.val _ = t at hget hpending hword hregs ⊢
    refine ⟨(State.get_emit _ _ _).trans hget, ?_, fun a hf hs => (State.word_emit _ _ _).trans (hword a hf hs), ?_⟩
    · exact hpending
    · exact congrArg (fun u : State => u.emit _) hregs
  · obtain ⟨hactive, hpending, hnext, hstart, hself, hclosed, hpcs, hrest⟩ := freqStart_shows hwanted ha hp hw hempty
    exact ⟨_, whenLive_next _ _ hlive, hactive, hpending, hnext, hstart, hself, hclosed, hpcs, hrest⟩
  · exact (whenLive_next _ (freqStart stack.val) hlive).trans (congrArg Host.Outcome.next (freqStart_idle hwanted hno))
  · obtain ⟨hactive, hpending, hforce, hchanges, hdur, hawake, hpcs, hrest⟩ := freqDone_shows ha hwanted
    exact ⟨_, whenLive_next _ (freqDone stack.val) hlive, hactive, hpending, hforce, hchanges, hdur, hawake, hpcs, hrest⟩

end Sys2Proof.Machine
end

section
/-! SUPPORT. Releases of leases (spec/15_translation_preemption.md R460 to R464). -/

namespace Sys2Proof.Machine

/-! ## Lease entries -/

theorem lease_setLease (s : State) (e d : Nat) (l : Lease) : (s.setLease e l).lease d = if e = d then l else s.lease d :=
  tabGet_tabPut ({} : Lease) s.xlat.leases e d l

theorem lease_congr {s t : State} (h : t.xlat.leases = s.xlat.leases) (e : Nat) : t.lease e = s.lease e :=
  congrArg (fun u => tabGet ({} : Lease) u e) h

theorem RaiseOnly.lease {s t : State} (h : RaiseOnly s t) (e : Nat) : t.lease e = s.lease e := lease_congr (by rw [h.rest]) e

theorem leasesOf_congr {s t : State} (h : t.xlat.leases = s.xlat.leases) (kind owner : Nat) :
    t.leasesOf kind owner = s.leasesOf kind owner := by
  unfold State.leasesOf
  simp only [lease_congr h]

theorem nodup_leasesOf (s : State) (kind owner : Nat) : (s.leasesOf kind owner).Nodup :=
  List.Nodup.filter _ (nodup_upto 0 256)

/-- From s to t the lease entries differ, and what raising sources writes. -/
structure LeaseWork (s t : State) : Prop where
  rest : t = { s with regs := t.regs, evt := t.evt, xlat := { s.xlat with leases := t.xlat.leases } }
  word : ∀ a, evtAddr a = false → t.word a = s.word a
  pending : ∀ x, x < 1024 → x ≠ 960 → s.isPending x = true → t.isPending x = true

theorem LeaseWork.refl (s : State) : LeaseWork s s := ⟨rfl, fun _ _ => rfl, fun _ _ _ h => h⟩

theorem LeaseWork.trans {s t u : State} (h : LeaseWork s t) (k : LeaseWork t u) : LeaseWork s u where
  rest := by rw [k.rest, h.rest]
  word a ha := (k.word a ha).trans (h.word a ha)
  pending x hx h9 hp := k.pending x hx h9 (h.pending x hx h9 hp)

theorem LeaseWork.setLease (s : State) (e : Nat) (l : Lease) : LeaseWork s (s.setLease e l) :=
  ⟨rfl, fun _ _ => rfl, fun _ _ _ h => h⟩

theorem LeaseWork.raiseWith (s : State) {src : Nat} (h : src < 1024) (code detail : Nat) :
    LeaseWork s (raiseWith src code detail s) := by
  have hraise := raiseWith_raiseOnly h code detail s
  refine ⟨?_, fun a ha => hraise.evtOnly.word a ha, fun x hx h9 hp => ?_⟩
  · have hxlat : (Machine.raiseWith src code detail s).xlat = s.xlat := by rw [hraise.rest]
    rw [hxlat]
    exact hraise.rest
  · rw [isPending_raiseWith _ _ _ _ _ hx h9, hp, Bool.or_true]

/-- Where only lease entries of the translation unit differ, the rest is that of the event controller. -/
theorem LeaseWork.evtOnly {s t : State} (h : LeaseWork s t) : EvtOnly { s with xlat := t.xlat } t := by
  refine ⟨?_, h.word⟩
  have hxlat : t.xlat = { s.xlat with leases := t.xlat.leases } := congrArg State.xlat h.rest
  rw [hxlat]
  exact h.rest

/-! ## A pending release completes (R460, R462) -/

/-- What the completion of a release shows. -/
theorem completeRelease_shows (e : Nat) (s : State) :
    (completeRelease e s).lease e = { gen := ((s.lease e).gen + 1) % 65536 } ∧ (completeRelease e s).isPending 932 = true ∧
    (∀ d, d ≠ e → (completeRelease e s).lease d = s.lease d) ∧ LeaseWork s (completeRelease e s) := by
  obtain ⟨u, hu⟩ : ∃ u, u = dropLease e s := ⟨_, rfl⟩
  have hraise : RaiseOnly u (completeRelease e s) := hu ▸ raiseWith_raiseOnly (by decide) 0 _ (dropLease e s)
  have hlease (d : Nat) : (completeRelease e s).lease d = if e = d then { gen := ((s.lease e).gen + 1) % 65536 } else s.lease d :=
    (hraise.lease d).trans (by rw [hu, dropLease, lease_setLease])
  refine ⟨(hlease e).trans (if_pos rfl), ?_, fun d hd => (hlease d).trans (if_neg (Ne.symm hd)), ?_⟩
  · unfold completeRelease
    rw [isPending_raiseWith _ _ _ _ _ (by decide) (by decide), decide_eq_true rfl, Bool.true_or]
  · unfold completeRelease
    exact (LeaseWork.setLease s e _).trans (.raiseWith _ (by decide) _ _)

/-! ## A release is forced (R463) -/

/-- A forced lease: pending, with the next generation, draining. -/
def Lease.forced (l : Lease) : Lease := { l with state := 2, gen := (l.gen + 1) % 65536, draining := true }

theorem foldl_force {l : List Nat} (hl : l.Nodup) (s : State) :
    (∀ e, (l.foldl (fun u d => u.setLease d (u.lease d).forced) s).lease e = if e ∈ l then (s.lease e).forced else s.lease e) ∧
    l.foldl (fun u d => u.setLease d (u.lease d).forced) s =
      { s with xlat := { s.xlat with leases := (l.foldl (fun u d => u.setLease d (u.lease d).forced) s).xlat.leases } } := by
  induction l generalizing s with
  | nil => exact ⟨fun _ => rfl, rfl⟩
  | cons d l ih =>
    obtain ⟨hd, hl⟩ := List.nodup_cons.mp hl
    obtain ⟨hlease, hrest⟩ := ih hl (s.setLease d (s.lease d).forced)
    refine ⟨fun e => ?_, hrest⟩
    rw [List.foldl_cons, hlease, lease_setLease]
    by_cases hed : d = e
    · subst hed
      rw [if_neg hd, if_pos rfl, if_pos List.mem_cons_self]
    · simp only [if_neg hed, List.mem_cons, Ne.symm hed, false_or]

/-- What forcing the leases of an object shows. -/
theorem forceLeases_shows (kind id : Nat) (s : State) :
    (∀ e, (forceLeases kind id s).lease e = if e ∈ s.leasesOf kind id then (s.lease e).forced else s.lease e) ∧
    forceLeases kind id s = { s with xlat := { s.xlat with leases := (forceLeases kind id s).xlat.leases } } :=
  foldl_force (nodup_leasesOf s kind id) s

theorem path_setPath_same (s : State) (kind id : Nat) (p : PathObj) : (s.setPath kind id p).path kind id = p :=
  (tabGet_tabPut ({} : PathObj) s.kcp.paths _ _ p).trans (if_pos rfl)

theorem path_setPath_ne (s : State) {kind id j i : Nat} (p : PathObj) (h : pathKey j i ≠ pathKey kind id) :
    (s.setPath kind id p).path j i = s.path j i :=
  (tabGet_tabPut ({} : PathObj) s.kcp.paths _ _ p).trans (if_neg (Ne.symm h))

theorem releaseKind_iff (k : Nat) : k ∈ [1, 2, 3] ↔ ¬ (k = 0 ∨ 3 < k) := by
  simp only [List.mem_cons, List.not_mem_nil, or_false]
  omega

section
variable {kind id : Nat} {s : State}

theorem forceRelease_unknown (h : kind ∉ [1, 2, 3] ∨ id ∉ pathIds kind) : forceRelease kind id s = .error .value := by
  refine if_pos ?_
  rw [releaseKind_iff, not_not] at h
  rcases h with (h | h) | h
  · exact .inl h
  · exact .inr (.inl h)
  · exact .inr (.inr (by simpa using h))

theorem forceRelease_known (hk : kind ∈ [1, 2, 3]) (hid : id ∈ pathIds kind) :
    ¬ (kind = 0 ∨ 3 < kind ∨ ¬ (pathIds kind).contains id = true) := by
  rw [releaseKind_iff, not_or] at hk
  have hc : (pathIds kind).contains id = true := List.contains_iff_mem.mpr hid
  exact not_or.mpr ⟨hk.1, not_or.mpr ⟨hk.2, not_not.mpr hc⟩⟩

theorem forceRelease_undeclared (hk : kind ∈ [1, 2, 3]) (hid : id ∈ pathIds kind) (h : (s.path kind id).state = 0) :
    forceRelease kind id s = .error .state :=
  (if_neg (forceRelease_known hk hid)).trans (if_pos (.inl h))

/-- A BOUND object becomes DECLARED and its leases are forced. -/
theorem forceRelease_bound (hk : kind ∈ [1, 2, 3]) (hid : id ∈ pathIds kind) (h : (s.path kind id).state = 2) :
    ∃ b t, forceRelease kind id s = .ok (b, t) ∧ t.path kind id = { state := 1, touched := true } ∧
      (∀ j i, pathKey j i ≠ pathKey kind id → t.path j i = s.path j i) ∧
      (∀ e, t.lease e = if e ∈ s.leasesOf kind id then (s.lease e).forced else s.lease e) ∧
      t = { s with kcp := { s.kcp with paths := t.kcp.paths }, xlat := { s.xlat with leases := t.xlat.leases } } := by
  obtain ⟨u, hu⟩ : ∃ u, u = s.setPath kind id { state := 1, touched := true } := ⟨_, rfl⟩
  have hurest : u = { s with kcp := { s.kcp with paths := u.kcp.paths } } := by rw [hu]; rfl
  have huleases : u.xlat.leases = s.xlat.leases := by rw [hu]; rfl
  obtain ⟨hlease, hrest⟩ := forceLeases_shows kind id u
  rw [leasesOf_congr huleases] at hlease
  simp only [lease_congr huleases] at hlease
  have hforce : forceRelease kind id s = .ok ((s.leasesOf kind id).any (fun e => s.holders e != 0), forceLeases kind id u) := by
    unfold forceRelease
    rw [if_neg (forceRelease_known hk hid), hu]
    dsimp only
    rw [h, if_neg (by omega), if_pos (Nat.le_refl 2), if_neg (show ¬ 2 = 3 by decide)]
  refine ⟨_, forceLeases kind id u, hforce, ?_⟩
  generalize forceLeases kind id u = t at *
  have hpath (j i : Nat) : t.path j i = u.path j i := by rw [hrest]; rfl
  refine ⟨(hpath kind id).trans (hu ▸ path_setPath_same s kind id _),
    fun j i hji => (hpath j i).trans (hu ▸ path_setPath_ne s _ hji), hlease, ?_⟩
  rw [hrest, hurest]

end

section
variable {who : Requester} {v : Word} {s t : State} {st : Status} {b : Bool}

/-- One more forced release is to drain and to be answered. -/
def awaitDrain (who : Requester) (kind id : Nat) (b : Bool) (s : State) : State :=
  { s with xlat := { s.xlat with forced := s.xlat.forced ++ [(who, kind, id, b)] } }

theorem xlatRelease_refused (h : Permitted who R.XLAT_RELEASE s)
    (hr : forceRelease (wordField v F.XLAT_RELEASE_KIND) (wordField v F.XLAT_RELEASE_ID) s = .error st) :
    exec (.xlatRelease who v) s = .next (s.emit (.status who R.XLAT_RELEASE st)) := by
  obtain ⟨hlive, hboot, hpriv⟩ := h
  refine (whenLive_next _ _ hlive).trans (congrArg Host.Outcome.next ?_)
  unfold xlatRelease
  dsimp only
  rw [hr]
  exact (if_neg (by rw [hboot]; decide)).trans (if_neg (by omega))

theorem xlatRelease_waits (h : Permitted who R.XLAT_RELEASE s)
    (hr : forceRelease (wordField v F.XLAT_RELEASE_KIND) (wordField v F.XLAT_RELEASE_ID) s = .ok (b, t)) :
    exec (.xlatRelease who v) s =
      .next (awaitDrain who (wordField v F.XLAT_RELEASE_KIND) (wordField v F.XLAT_RELEASE_ID) b t) := by
  obtain ⟨hlive, hboot, hpriv⟩ := h
  refine (whenLive_next _ _ hlive).trans (congrArg Host.Outcome.next ?_)
  unfold xlatRelease
  dsimp only
  rw [hr]
  exact (if_neg (by rw [hboot]; decide)).trans (if_neg (by omega))

end

/-! ## A forced release drains (R464) -/

/-- One entry of a forced release drains: free at its generation, with RELEASE_DONE. -/
def drainLease (detail e : Nat) (s : State) : State :=
  if (s.lease e).draining then raiseWith 932 0 detail (s.setLease e { gen := (s.lease e).gen }) else s

theorem drainLease_shows (detail e : Nat) (s : State) : LeaseWork s (drainLease detail e s) ∧
    (∀ d, (drainLease detail e s).lease d = if e = d ∧ (s.lease d).draining = true then { gen := (s.lease d).gen } else s.lease d) ∧
    ((s.lease e).draining = true → (drainLease detail e s).isPending 932 = true) := by
  unfold drainLease
  split
  next h =>
    have hraise := raiseWith_raiseOnly (src := 932) (by decide) 0 detail (s.setLease e { gen := (s.lease e).gen })
    refine ⟨(LeaseWork.setLease s e _).trans (.raiseWith _ (by decide) _ _), fun d => ?_, fun _ => ?_⟩
    · rw [hraise.lease, lease_setLease]
      by_cases hd : e = d
      · subst hd
        rw [if_pos rfl, if_pos ⟨rfl, h⟩]
      · rw [if_neg hd, if_neg fun hc => hd hc.1]
    · rw [isPending_raiseWith _ _ _ _ _ (by decide) (by decide), decide_eq_true rfl, Bool.true_or]
  next h =>
    exact ⟨.refl s, fun d => (if_neg (by rintro ⟨rfl, hd⟩; exact h hd)).symm, fun hd => absurd hd h⟩

theorem foldl_drain {l : List Nat} (hl : l.Nodup) (detail : Nat) (s : State) :
    LeaseWork s (l.foldl (fun u e => drainLease detail e u) s) ∧
    (∀ d, (l.foldl (fun u e => drainLease detail e u) s).lease d =
      if d ∈ l ∧ (s.lease d).draining = true then { gen := (s.lease d).gen } else s.lease d) ∧
    ((∃ e ∈ l, (s.lease e).draining = true) → (l.foldl (fun u e => drainLease detail e u) s).isPending 932 = true) := by
  induction l generalizing s with
  | nil =>
    exact ⟨.refl s, fun d => (if_neg fun h => absurd h.1 List.not_mem_nil).symm, fun ⟨_, h, _⟩ => absurd h List.not_mem_nil⟩
  | cons e l ih =>
    obtain ⟨he, hl⟩ := List.nodup_cons.mp hl
    obtain ⟨hone, hlease, hdone⟩ := drainLease_shows detail e s
    obtain ⟨hwork, hleases, hpend⟩ := ih hl (drainLease detail e s)
    refine ⟨hone.trans hwork, fun d => ?_, fun ⟨d, hd, hdrain⟩ => ?_⟩
    · rw [List.foldl_cons, hleases, hlease]
      by_cases hd : e = d
      · subst hd
        rw [if_neg fun h => he h.1]
        simp only [List.mem_cons_self, true_and]
      · simp only [hd, false_and, if_false, List.mem_cons, Ne.symm hd, false_or]
    · rcases List.mem_cons.mp hd with rfl | hd
      · exact hwork.pending 932 (by decide) (by decide) (hdone hdrain)
      · refine hpend ⟨d, hd, ?_⟩
        rw [hlease, if_neg (by rintro ⟨rfl, -⟩; exact he hd)]
        exact hdrain

/-- What the drain of an object's forced leases shows. -/
theorem drainForced_shows (kind id : Nat) (remained : Bool) (s : State) :
    LeaseWork s (drainForced kind id remained s) ∧
    (∀ d, (drainForced kind id remained s).lease d =
      if d ∈ s.leasesOf kind id ∧ (s.lease d).draining = true then { gen := (s.lease d).gen } else s.lease d) ∧
    (remained = true → (drainForced kind id remained s).isPending 929 = true) ∧
    ((∃ e ∈ s.leasesOf kind id, (s.lease e).draining = true) → (drainForced kind id remained s).isPending 932 = true) := by
  obtain ⟨u, hu⟩ : ∃ u, u = if remained then raiseWith 929 0 (kind * 256 + id) s else s := ⟨_, rfl⟩
  have hfirst : LeaseWork s u := by
    rw [hu]
    split
    · exact .raiseWith s (by decide) _ _
    · exact .refl s
  have hleases : u.xlat.leases = s.xlat.leases := by
    rw [hu]
    split
    · rw [(raiseWith_raiseOnly (by decide) 0 (kind * 256 + id) s).rest]
    · rfl
  have hearly (h : remained = true) : u.isPending 929 = true := by
    rw [hu, if_pos h, isPending_raiseWith _ _ _ _ _ (by decide) (by decide), decide_eq_true rfl, Bool.true_or]
  have hfold : drainForced kind id remained s = (u.leasesOf kind id).foldl (fun v e => drainLease (kind * 256 + id) e v) u := by
    rw [hu]
    rfl
  obtain ⟨hwork, hlease, hdone⟩ := foldl_drain (nodup_leasesOf u kind id) (kind * 256 + id) u
  rw [← hfold, leasesOf_congr hleases] at *
  simp only [lease_congr hleases] at hlease hdone
  exact ⟨hfirst.trans hwork, hlease, fun h => hwork.pending 929 (by decide) (by decide) (hearly h), hdone⟩

/-! ## The commands of releases -/

theorem releasesComplete : Claims.ReleasesComplete := by
  intro who entry v w kind id remained rest s
  refine ⟨fun hlive hdue => ?_, fun hlive hdue => ?_, fun hperm => ⟨fun hno => ?_, fun hk hid hst => ?_, fun hk hid hst => ?_⟩,
    fun hlive hforced => ?_⟩
  · obtain ⟨hlease, hpend, hother, hwork⟩ := completeRelease_shows entry.val s
    exact ⟨completeRelease entry.val s, (whenLive_next _ (leaseComplete entry.val) hlive).trans (congrArg _ (if_pos hdue)),
      hlease, hpend, hother, hwork.evtOnly⟩
  · exact (whenLive_next _ (leaseComplete entry.val) hlive).trans (congrArg _ (if_neg (by rw [hdue]; decide)))
  · exact xlatRelease_refused hperm (forceRelease_unknown hno)
  · exact xlatRelease_refused hperm (forceRelease_undeclared hk hid hst)
  · obtain ⟨b, t, hb, hpath, hpaths, hlease, hrest⟩ := forceRelease_bound hk hid hst
    refine ⟨_, xlatRelease_waits hperm hb, hpath, hpaths, fun e he => (hlease e).trans (if_pos he),
      fun e he => (hlease e).trans (if_neg he), ⟨b, ?_⟩, ?_⟩
    · unfold awaitDrain
      rw [hrest]
    · unfold awaitDrain
      rw [hrest]
  · obtain ⟨u, hu⟩ : ∃ u : State, u = { s with xlat := { s.xlat with forced := rest } } := ⟨_, rfl⟩
    obtain ⟨hwork, hlease, hearly, hdone⟩ := drainForced_shows kind id remained u
    have hstep : forcedDrained s = (drainForced kind id remained u).emit (.status w R.XLAT_RELEASE .ok) := by
      unfold forcedDrained
      rw [hforced, hu]
    have huleases : u.xlat.leases = s.xlat.leases := by rw [hu]
    rw [leasesOf_congr huleases] at hlease hdone
    simp only [lease_congr huleases] at hlease hdone
    generalize drainForced kind id remained u = t at *
    refine ⟨_, (whenLive_next _ forcedDrained hlive).trans (congrArg _ hstep), ?_, ?_, hlease, hearly, hdone, ?_, ?_⟩
    · rw [State.emit, hwork.rest, hu]
    · rw [State.emit, hwork.rest, hu]
    · rw [State.emit, hwork.rest, hu]
    · intro a ha
      refine ((State.word_emit _ _ _).trans (hwork.word a ha)).trans ?_
      rw [hu]
      rfl

end Sys2Proof.Machine
end

section
/-! SUPPORT. Probes of the translation tables and engines that resume (spec/15_translation_preemption.md R456, R472, R474). -/

namespace Sys2Proof.Machine

/-! ## Reads of memory in parts -/

theorem upto_append (a m n : Nat) : upto a (m + n) = upto a m ++ upto (a + m) n := by
  rw [upto_eq_range', upto_eq_range', upto_eq_range', List.range'_append_1]

theorem hbmRead_append (s : State) (a m n : Nat) : s.hbmRead a (m + n) = s.hbmRead a m ++ s.hbmRead (a + m) n := by
  unfold State.hbmRead cellRead
  rw [upto_append, List.map_append]

/-- Bytes that read alike are alike. -/
theorem cellGet_of_hbmRead {s t : State} {a n k : Nat} (h : t.hbmRead a n = s.hbmRead a n) (hk : a ≤ k) (hn : k < a + n) :
    cellGet ramBlank t.hbm k = cellGet ramBlank s.hbm k :=
  List.map_inj_left.mp h k ((mem_upto a n k).mpr ⟨hk, hn⟩)

/-- Equal lists are equal in parts of equal length. -/
theorem hbmRead_parts {s : State} {a m n : Nat} {x y : List Byte} (h : s.hbmRead a (m + n) = x ++ y) (hx : x.length = m) :
    s.hbmRead a m = x ∧ s.hbmRead (a + m) n = y := by
  rw [hbmRead_append] at h
  exact List.append_inj h (by rw [length_hbmRead, hx])

theorem leNat_lt (bs : List Byte) : leNat bs < 256 ^ bs.length := by
  have h := leNat_take bs bs.length
  rw [List.take_length] at h
  rw [h]
  exact Nat.mod_lt _ (Nat.pow_pos (by decide))

/-! ## A save area is emptied (R469, R472) -/

/-- A save-area header with STATE 0x0. -/
def idleHeader (h : List Byte) : List Byte := h.take 5 ++ [0] ++ h.drop 6

/-- Its bytes with HDR_CRC. -/
def idleArea (h : List Byte) : List Byte := idleHeader h ++ leBytes (crc32c (idleHeader h)) 4

theorem length_idleHeader {h : List Byte} (hl : h.length = 60) : (idleHeader h).length = 60 := by
  unfold idleHeader
  simp [hl]

/-- What memory holds once a save area at base is emptied. -/
theorem idleArea_shows (s : State) (base : Nat) :
    let t := s.hbmWrite base (idleArea (s.hbmRead base 60))
    t.hbmRead (base + 5) 1 = [0] ∧ leAt (t.hbmRead base 64) 0x3C 4 = crc32c (t.hbmRead base 60) ∧
    ∀ a, a < base ∨ (base ≤ a ∧ a < base + 60 ∧ a ≠ base + 5) ∨ base + 64 ≤ a →
      cellGet ramBlank t.hbm a = cellGet ramBlank s.hbm a := by
  obtain ⟨h, hh⟩ : ∃ h, h = s.hbmRead base 60 := ⟨_, rfl⟩
  have hlen : h.length = 60 := hh ▸ length_hbmRead s base 60
  have harea : (idleArea h).length = 64 := by
    unfold idleArea
    rw [List.length_append, length_idleHeader hlen, length_leBytes]
  obtain ⟨t, ht⟩ : ∃ t, t = s.hbmWrite base (idleArea h) := ⟨_, rfl⟩
  have hall : t.hbmRead base 64 = idleArea h := by
    have hsame := hbmRead_hbmWrite_same s base (idleArea h)
    rw [harea, ← ht] at hsame
    exact hsame
  obtain ⟨hhead, hcrc⟩ := hbmRead_parts (m := 60) (n := 4) hall (length_idleHeader hlen)
  obtain ⟨hfront, hback⟩ := hbmRead_parts (m := 6) (n := 54) hhead (by simp [hlen])
  obtain ⟨hfirst, hstate⟩ := hbmRead_parts (m := 5) (n := 1) hfront (by simp [hlen])
  have hparts : s.hbmRead base 5 = h.take 5 ∧ s.hbmRead (base + 6) 54 = h.drop 6 := by
    have hsplit : s.hbmRead base (6 + 54) = h.take 6 ++ h.drop 6 := by rw [List.take_append_drop, hh]
    obtain ⟨hsix, hrest⟩ := hbmRead_parts hsplit (by simp [hlen])
    have hfive : s.hbmRead base (5 + 1) = h.take 5 ++ (h.drop 5).take 1 := by
      rw [hsix, show (6 : Nat) = 5 + 1 from rfl, List.take_add]
    exact ⟨(hbmRead_parts hfive (by simp [hlen])).1, hrest⟩
  rw [← hh, ← ht]
  refine ⟨hstate, ?_, fun a ha => ?_⟩
  · unfold leAt
    rw [hall, hhead]
    unfold idleArea
    rw [List.drop_append_of_le_length (by rw [length_idleHeader hlen]), List.drop_of_length_le (by rw [length_idleHeader hlen]),
      List.nil_append, List.take_of_length_le (by rw [length_leBytes]), leNat_leBytes]
    exact Nat.mod_eq_of_lt (crc32c_lt _)
  · rcases ha with ha | ⟨hlo, hhi, hne⟩ | ha
    · rw [ht]
      exact cellGet_hbmWrite_apart s (.inl ha)
    · by_cases h5 : a < base + 5
      · exact cellGet_of_hbmRead (hfirst.trans hparts.1.symm) hlo h5
      · exact cellGet_of_hbmRead (hback.trans hparts.2.symm) (by omega) (by omega)
    · rw [ht]
      exact cellGet_hbmWrite_apart s (.inr (by rw [harea]; exact ha))

/-- A save area with its MAGIC is emptied. -/
theorem emptySave_writes {ctx off : Nat} {q : PoolRec} {s : State} (hoff : saveOffset ctx = some off)
    (hpool : s.lowestPool 5 = some q) (hmagic : s.poolRead q off 4 = [0x53, 0x41, 0x56, 0x45]) :
    emptySave ctx s = s.hbmWrite (poolBase q + off) (idleArea (s.hbmRead (poolBase q + off) 60)) := by
  unfold emptySave
  rw [hoff, hpool]
  exact if_pos hmagic

/-- A save area that passes its checks has its MAGIC. -/
theorem magic_of_saveOk {ctx off : Nat} {q : PoolRec} {s : State} (hoff : saveOffset ctx = some off)
    (hpool : s.lowestPool 5 = some q) (h : s.saveOk ctx = true) : s.poolRead q off 4 = [0x53, 0x41, 0x56, 0x45] := by
  unfold State.saveOk at h
  rw [hoff, hpool] at h
  simp only [Bool.and_eq_true, beq_iff_eq] at h
  obtain ⟨⟨-, hmagic⟩, -⟩ := h
  have hparts := hbmRead_append s (poolBase q + off) 4 60
  unfold State.poolRead at hmagic ⊢
  rw [show (64 : Nat) = 4 + 60 from rfl, hparts, List.take_left' (length_hbmRead _ _ _)] at hmagic
  exact hmagic

/-! ## A parked fuller job runs again (R474, R485) -/

theorem fulJob_setFulJob (s : State) (n m : Nat) (j : Option FulJob) :
    (s.setFulJob n j).fulJob m = if n = m then j else s.fulJob m := by
  unfold State.fulJob State.setFulJob
  rw [tabGet_tabPut]
  by_cases h : n = m
  · rw [if_pos (by omega), if_pos h]
  · rw [if_neg (by omega), if_neg h]

/-- STATE and BUSY of a fuller engine, and what else they leave. -/
theorem fulState_shows (s : State) (n : Nat) {st : Nat} (h : st < 4) :
    (s.fulState n st).get (F.FUL_STATUS_STATE n) = st ∧ (s.fulState n st).get (F.FUL_STATUS_BUSY n) = bit (st != 0) ∧
    (∀ a, a ≠ R.FUL_STATUS n → (s.fulState n st).word a = s.word a) ∧ OnRegs s (s.fulState n st) := by
  have happart : (F.FUL_STATUS_BUSY n).Apart (F.FUL_STATUS_STATE n) := .inr (.inl (Nat.le_of_ble_eq_true rfl))
  have hfit : st < 2 ^ ((F.FUL_STATUS_STATE n).hi + 1 - (F.FUL_STATUS_STATE n).lo) := h
  have hbit : bit (st != 0) < 2 ^ ((F.FUL_STATUS_BUSY n).hi + 1 - (F.FUL_STATUS_BUSY n).lo) := bit_lt _
  exact ⟨(State.get_set_apart _ _ happart).trans (State.get_set_fits s hfit), State.get_set_fits _ hbit,
    fun a ha => (State.word_set_ne _ _ _ (Ne.symm ha)).trans (State.word_set_ne _ _ _ (Ne.symm ha)),
    (OnRegs.set _ _ _).trans (.set _ _ _)⟩

theorem OnRegs.fulJob {s t : State} (h : OnRegs s t) (n : Nat) : t.fulJob n = s.fulJob n := by
  unfold State.fulJob
  rw [h]

/-- A fuller engine that resumes changes its status and its job. -/
theorem fullerResume_rest (n : Nat) (s : State) :
    fullerResume n s = { s with regs := (fullerResume n s).regs, fuller := (fullerResume n s).fuller } ∧
    ∀ a, a ≠ R.FUL_STATUS n → (fullerResume n s).word a = s.word a := by
  unfold fullerResume
  split
  · exact ⟨rfl, fun _ _ => rfl⟩
  next j _ =>
    split
    · obtain ⟨u, hu⟩ : ∃ u, u = s.setFulJob n (some { j with state := 2 }) := ⟨_, rfl⟩
      have hurest : u = { s with fuller := u.fuller } := by rw [hu]; rfl
      obtain ⟨-, -, hword, hregs⟩ := fulState_shows u n (show 2 < 4 by decide)
      rw [← hu]
      refine ⟨?_, fun a ha => (hword a ha).trans (by rw [hu]; rfl)⟩
      rw [hregs, hurest]
    · exact ⟨rfl, fun _ _ => rfl⟩

theorem fullerResume_parked {n : Nat} {j : FulJob} {s : State} (hj : s.fulJob n = some j) (h : j.state = 3) :
    (fullerResume n s).fulJob n = some { j with state := 2 } ∧ (fullerResume n s).get (F.FUL_STATUS_STATE n) = 2 ∧
    (fullerResume n s).get (F.FUL_STATUS_BUSY n) = 1 := by
  obtain ⟨u, hu⟩ : ∃ u, u = s.setFulJob n (some { j with state := 2 }) := ⟨_, rfl⟩
  have hstep : fullerResume n s = u.fulState n 2 := by
    unfold fullerResume
    rw [hj, hu]
    exact if_pos h
  obtain ⟨hstate, hbusy, -, hregs⟩ := fulState_shows u n (show 2 < 4 by decide)
  rw [hstep]
  refine ⟨?_, hstate, hbusy⟩
  rw [hregs.fulJob, hu, fulJob_setFulJob, if_pos rfl]

/-! ## The commands -/

/-- The words of a probe. -/
theorem xlatProbe_shows (lo v : Word) (s : State) :
    let e := s.leafEntry (wordField v F.XLAT_PROBE_HI_CTX) (wordField v F.XLAT_PROBE_HI_CA * 2 ^ 32 + lo.toNat)
    ∃ t, xlatProbe lo v s = (.ok, t) ∧ t.word R.XLAT_PTE_LO = BitVec.ofNat 32 e ∧
      t.word R.XLAT_PTE_HI = BitVec.ofNat 32 (e / 2 ^ 32) ∧
      (∀ a, a ∉ [R.XLAT_PROBE_LO, R.XLAT_PROBE_HI, R.XLAT_PTE_LO, R.XLAT_PTE_HI] → t.word a = s.word a) ∧
      t = { s with regs := t.regs, heldLo := t.heldLo } := by
  intro e
  obtain ⟨u, hu⟩ : ∃ u, u = (s.setWord R.XLAT_PROBE_LO lo).setWord R.XLAT_PROBE_HI (v &&& 0x3F0001FF) := ⟨_, rfl⟩
  have hregs : OnRegs s u := hu ▸ (OnRegs.setWord _ _ _).trans (.setWord _ _ _)
  obtain ⟨w, hw⟩ : ∃ w : State, w = { u with heldLo := tabErase u.heldLo R.XLAT_PROBE_LO } := ⟨_, rfl⟩
  have hword (a : Nat) : w.word a = u.word a := by rw [hw]; rfl
  have hwrest : w = { s with regs := w.regs, heldLo := w.heldLo } := by rw [hw, hregs]
  have hlast (x y : Word) : OnRegs w ((w.setWord R.XLAT_PTE_LO x).setWord R.XLAT_PTE_HI y) :=
    (OnRegs.setWord _ _ _).trans (.setWord _ _ _)
  refine ⟨(w.setWord R.XLAT_PTE_LO (BitVec.ofNat 32 e)).setWord R.XLAT_PTE_HI (BitVec.ofNat 32 (e / 2 ^ 32)), ?_, ?_, ?_,
    fun a ha => ?_, ?_⟩
  · rw [hw, hu]
    rfl
  · exact (State.word_setWord_ne _ _ (by decide)).trans (State.word_setWord_same _ _ _)
  · exact State.word_setWord_same _ _ _
  · simp only [List.mem_cons, List.not_mem_nil, or_false, not_or] at ha
    obtain ⟨hplo, hphi, htlo, hthi⟩ := ha
    exact (State.word_setWord_ne _ _ (Ne.symm hthi)).trans ((State.word_setWord_ne _ _ (Ne.symm htlo)).trans
      ((hword a).trans (hu ▸ (State.word_setWord_ne _ _ (Ne.symm hphi)).trans (State.word_setWord_ne _ _ (Ne.symm hplo)))))
  · rw [hlast, hwrest]

theorem xlatCtx_ne_fulStatus {ctx : Nat} (h : ctx < 64) (n : Nat) : R.XLAT_CTX ctx ≠ R.FUL_STATUS n := by
  unfold R.XLAT_CTX R.FUL_STATUS
  omega

/-- The save area of a context whose work resumes. -/
theorem resumeSave_ok {ctx point off : Nat} {q : PoolRec} {s : State} (hok : s.saveOk ctx = true) (hoff : saveOffset ctx = some off)
    (hpool : s.lowestPool 5 = some q) :
    let t := (resumeSave ctx point s).2
    let base := poolBase q + off
    (resumeSave ctx point s).1 = true ∧ tabGet none t.xlat.parked ctx = none ∧ t.get (F.XLAT_CTX_STATE ctx) = 0 ∧
    t.hbmRead (base + 5) 1 = [0] ∧ leAt (t.hbmRead base 64) 0x3C 4 = crc32c (t.hbmRead base 60) ∧
    (∀ a, a < base ∨ (base ≤ a ∧ a < base + 60 ∧ a ≠ base + 5) ∨ base + 64 ≤ a →
      cellGet ramBlank t.hbm a = cellGet ramBlank s.hbm a) ∧
    t = { s with regs := t.regs, xlat := t.xlat, hbm := t.hbm, poison := t.poison } := by
  obtain ⟨u, hu⟩ : ∃ u, u = setCtxState ctx 0 { s with xlat := { s.xlat with parked := tabErase s.xlat.parked ctx } } := ⟨_, rfl⟩
  have hurest : u = { s with regs := u.regs, xlat := { s.xlat with parked := tabErase s.xlat.parked ctx } } := by
    rw [hu]
    exact OnRegs.set { s with xlat := { s.xlat with parked := tabErase s.xlat.parked ctx } } _ 0
  have hustate : u.get (F.XLAT_CTX_STATE ctx) = 0 := hu ▸ State.get_set_fits _ (Nat.two_pow_pos _)
  have hread (a n : Nat) : u.hbmRead a n = s.hbmRead a n := by rw [hurest]; rfl
  have hupool : u.lowestPool 5 = some q := by rw [hurest]; exact hpool
  have hmagic : u.poolRead q off 4 = [0x53, 0x41, 0x56, 0x45] := (hread _ _).trans (magic_of_saveOk hoff hpool hok)
  have hsave : resumeSave ctx point s = (true, u.hbmWrite (poolBase q + off) (idleArea (u.hbmRead (poolBase q + off) 60))) := by
    unfold resumeSave
    dsimp only
    rw [← hu, emptySave_writes hoff hupool hmagic]
    exact if_pos hok
  have hcells (a : Nat) : cellGet ramBlank u.hbm a = cellGet ramBlank s.hbm a := by rw [hurest]
  obtain ⟨hzero, hcrc, hkeep⟩ := idleArea_shows u (poolBase q + off)
  rw [hsave]
  refine ⟨rfl, ?_, hustate, hzero, hcrc, fun a ha => (hkeep a ha).trans (hcells a), ?_⟩
  · show tabGet none u.xlat.parked ctx = none
    rw [hurest]
    exact (tabGet_tabErase none s.xlat.parked ctx ctx).trans (if_pos rfl)
  · show ({ u with hbm := _, poison := _ } : State) = _
    rw [hurest]
    rfl

theorem engineResume_notParked {ctx : Nat} {s : State} (h : tabGet none s.xlat.parked ctx = none) : engineResume ctx s = s := by
  unfold engineResume
  rw [h]

theorem engineResume_other {ctx : Nat} {s : State} (h10 : ctx ≠ 10) (h11 : ctx ≠ 11) : engineResume ctx s = s := by
  unfold engineResume
  split
  · rfl
  · exact if_neg (by omega)

theorem engineResume_fuller {ctx point : Nat} {s : State} (hp : tabGet none s.xlat.parked ctx = some point)
    (hctx : ctx = 10 ∨ ctx = 11) (hok : (resumeSave ctx point s).1 = true) :
    engineResume ctx s = fullerResume (ctx - 10) (resumeSave ctx point s).2 := by
  unfold engineResume
  rw [hp]
  exact (if_pos hctx).trans (if_pos hok)

theorem probeAndResume : Claims.ProbeAndResume := by
  intro who v ctx off point q j s
  refine ⟨fun hperm => ?_, fun hlive => ⟨fun hno => ?_, fun hp hok hoff hpool hctx => ?_, fun h10 h11 => ?_⟩⟩
  · obtain ⟨t, hprobe, hlo, hhi, hword, hrest⟩ := xlatProbe_shows s.probeLo v s
    refine ⟨_, whenLive_answers (f := fun s => xlatProbe s.probeLo v s) hperm hprobe, (State.word_emit _ _ _).trans hlo,
      (State.word_emit _ _ _).trans hhi, fun a ha => (State.word_emit _ _ _).trans (hword a ha), ?_⟩
    exact congrArg (fun u : State => u.emit (.status who R.XLAT_PROBE_HI .ok)) hrest
  · exact (whenLive_next _ (engineResume ctx.val) hlive).trans (congrArg _ (engineResume_notParked hno))
  · obtain ⟨hyes, hparked, hstate, hzero, hcrc, hkeep, hrest⟩ := resumeSave_ok (point := point) hok hoff hpool
    have hstep := engineResume_fuller hp hctx hyes
    obtain ⟨u, hu⟩ : ∃ u, u = (resumeSave ctx.val point s).2 := ⟨_, rfl⟩
    rw [← hu] at hparked hstate hzero hcrc hkeep hrest hstep
    obtain ⟨hres, hword⟩ := fullerResume_rest (ctx.val - 10) u
    have hjobs (n : Nat) : u.fulJob n = s.fulJob n := by rw [hrest]; rfl
    have hrun (n : Nat) (hn : ctx.val = 10 + n) (hj : s.fulJob n = some j) (h3 : j.state = 3) :=
      fullerResume_parked ((hjobs n).trans hj) h3
    refine ⟨_, (whenLive_next _ (engineResume ctx.val) hlive).trans (congrArg _ hstep), ?_⟩
    generalize ht : fullerResume (ctx.val - 10) u = t at *
    have hhbm : t.hbm = u.hbm := by rw [hres]
    have hread (a n : Nat) : t.hbmRead a n = u.hbmRead a n := congrArg (fun m => cellRead ramBlank m a n) hhbm
    refine ⟨?_, ?_, (hread _ _).trans hzero, ?_, fun a ha => hhbm ▸ hkeep a ha, ?_, ?_, ?_, fun n _ hn hj h3 => ?_, ?_⟩
    · rw [hres]
      exact hparked
    · exact (State.get_of_word (hword _ (xlatCtx_ne_fulStatus ctx.isLt _))).trans hstate
    · rw [hread, hread]
      exact hcrc
    · rw [hres, hrest]
    · rw [hres, hrest]
    · rw [hres, hrest]
    · have hn' : ctx.val - 10 = n := by omega
      rw [← ht, hn']
      exact hrun n hn hj h3
    · rw [hres, hrest]
  · exact (whenLive_next _ (engineResume ctx.val) hlive).trans (congrArg _ (engineResume_other h10 h11))

/-- Settles O55: releases complete or drain, a probe reads the tables, and a parked fuller engine resumes. -/
theorem releasesProbesAndResumes : Obligations.ReleasesProbesAndResumes := ⟨releasesComplete, probeAndResume⟩

end Sys2Proof.Machine
end

section
/-! SUPPORT. How a job of a fuller engine starts and ends (spec/16_fuller.md R484, R487, R488). -/

namespace Sys2Proof.Machine

/-! ## Registers of an engine -/

/-- RESULT, ERR and REFUSE of a fuller engine, and what else they leave. -/
theorem fulResult_shows (s : State) (n : Nat) {result err refuse : Nat} (hr : result < 8) (he : err < 16) (hf : refuse < 65536) :
    let t := s.fulResult n result err refuse
    t.get (F.FUL_STATUS_RESULT n) = result ∧ t.get (F.FUL_STATUS_ERR n) = err ∧ t.get (F.FUL_STATUS_REFUSE n) = refuse ∧
    (∀ a, a ≠ R.FUL_STATUS n → t.word a = s.word a) ∧ OnRegs s t := by
  have hresult : result < 2 ^ ((F.FUL_STATUS_RESULT n).hi + 1 - (F.FUL_STATUS_RESULT n).lo) := hr
  have herr : err < 2 ^ ((F.FUL_STATUS_ERR n).hi + 1 - (F.FUL_STATUS_ERR n).lo) := he
  have hrefuse : refuse < 2 ^ ((F.FUL_STATUS_REFUSE n).hi + 1 - (F.FUL_STATUS_REFUSE n).lo) := hf
  have herrRefuse : (F.FUL_STATUS_REFUSE n).Apart (F.FUL_STATUS_ERR n) := .inr (.inr (Nat.le_of_ble_eq_true rfl))
  have hresultRefuse : (F.FUL_STATUS_REFUSE n).Apart (F.FUL_STATUS_RESULT n) := .inr (.inr (Nat.le_of_ble_eq_true rfl))
  have hresultErr : (F.FUL_STATUS_ERR n).Apart (F.FUL_STATUS_RESULT n) := .inr (.inr (Nat.le_of_ble_eq_true rfl))
  refine ⟨?_, ?_, State.get_set_fits _ hrefuse, fun a ha => ?_, ((OnRegs.set _ _ _).trans (.set _ _ _)).trans (.set _ _ _)⟩
  · exact (State.get_set_apart _ _ hresultRefuse).trans ((State.get_set_apart _ _ hresultErr).trans (State.get_set_fits s hresult))
  · exact (State.get_set_apart _ _ herrRefuse).trans (State.get_set_fits _ herr)
  · exact (State.word_set_ne _ _ _ (Ne.symm ha)).trans ((State.word_set_ne _ _ _ (Ne.symm ha)).trans
      (State.word_set_ne _ _ _ (Ne.symm ha)))

/-- BUSY stays and STATE is set apart from the result fields. -/
theorem fulState_keeps (s : State) (n st : Nat) {f : Field} (hs : (F.FUL_STATUS_STATE n).Apart f)
    (hb : (F.FUL_STATUS_BUSY n).Apart f) : (s.fulState n st).get f = s.get f :=
  (State.get_set_apart _ _ hb).trans (State.get_set_apart s _ hs)

theorem fulOutlen_ne_fulStatus (n m : Nat) : R.FUL_OUTLEN n ≠ R.FUL_STATUS m := by
  unfold R.FUL_OUTLEN R.FUL_STATUS
  omega

theorem fulCnt_ne (n m : Nat) : R.FUL_CNT0 n ≠ R.FUL_STATUS m ∧ R.FUL_CNT0 n ≠ R.FUL_OUTLEN m := by
  unfold R.FUL_CNT0 R.FUL_STATUS R.FUL_OUTLEN
  omega

/-- A job is over: its result, the engine idle, and what stays. -/
structure JobOver (n result err out : Nat) (s t : State) : Prop where
  job : t.fulJob n = none
  other : ∀ m, m ≠ n → t.fulJob m = s.fulJob m
  result : t.get (F.FUL_STATUS_RESULT n) = result
  err : t.get (F.FUL_STATUS_ERR n) = err
  busy : t.get (F.FUL_STATUS_BUSY n) = 0
  outlen : t.get (F.FUL_OUTLEN_BYTES n) = out
  count : t.get (F.FUL_CNT0_COUNT n) = s.get (F.FUL_CNT0_COUNT n)
  hbm : t.hbm = s.hbm
  out : t.out = s.out

theorem fulOver_over {n result err out : Nat} (s : State) (hr : result < 8) (he : err < 16) (ho : out < 2 ^ 32) :
    JobOver n result err out s (fulOver n result err out s) := by
  obtain ⟨u, hu⟩ : ∃ u, u = s.setFulJob n none := ⟨_, rfl⟩
  obtain ⟨v, hv⟩ : ∃ v, v = u.fulResult n result err 0 := ⟨_, rfl⟩
  obtain ⟨w, hw⟩ : ∃ w, w = v.fulState n 0 := ⟨_, rfl⟩
  obtain ⟨t, ht⟩ : ∃ t, t = w.set (F.FUL_OUTLEN_BYTES n) out := ⟨_, rfl⟩
  have hover : fulOver n result err out s = settlePower t := by
    rw [ht, hw, hv, hu]
    rfl
  obtain ⟨hres, herr, -, hvword, hvregs⟩ := hv ▸ fulResult_shows u n hr he (show 0 < 65536 by decide)
  obtain ⟨-, hbusy, hwword, hwregs⟩ := hw ▸ fulState_shows v n (show 0 < 4 by decide)
  have hregs : OnRegs u t := (hvregs.trans hwregs).trans (ht ▸ OnRegs.set w _ _)
  have hout : t.get (F.FUL_OUTLEN_BYTES n) = out := ht ▸ State.get_set_fits w ho
  have hkeep (f : Field) (hf : f.addr ≠ R.FUL_OUTLEN n) : t.get f = w.get f := ht ▸ State.get_set_apart w out (.inl (Ne.symm hf))
  have hstatus (f : Field) (hf : f.addr = R.FUL_STATUS n) : t.get f = w.get f :=
    hkeep f fun e => fulOutlen_ne_fulStatus n n (e.symm.trans hf)
  have hwres : w.get (F.FUL_STATUS_RESULT n) = result := by
    rw [hw]
    exact (fulState_keeps v n 0 (.inr (.inr (Nat.le_of_ble_eq_true rfl))) (.inr (.inr (Nat.le_of_ble_eq_true rfl)))).trans hres
  have hwerr : w.get (F.FUL_STATUS_ERR n) = err := by
    rw [hw]
    exact (fulState_keeps v n 0 (.inr (.inl (Nat.le_of_ble_eq_true rfl))) (.inr (.inl (Nat.le_of_ble_eq_true rfl)))).trans herr
  have hcount : t.get (F.FUL_CNT0_COUNT n) = s.get (F.FUL_CNT0_COUNT n) := by
    obtain ⟨hstat, hlen⟩ := fulCnt_ne n n
    refine (hkeep (F.FUL_CNT0_COUNT n) hlen).trans (State.get_of_word (f := F.FUL_CNT0_COUNT n) ?_)
    exact (hwword _ hstat).trans ((hvword _ hstat).trans (by rw [hu]; rfl))
  rw [hover]
  refine ⟨?_, fun m hm => ?_, (hstatus _ rfl).trans hwres, (hstatus _ rfl).trans hwerr, (hstatus _ rfl).trans hbusy, hout, hcount,
    ?_, ?_⟩
  · exact (hregs.fulJob n).trans (by rw [hu, fulJob_setFulJob, if_pos rfl])
  · exact (hregs.fulJob m).trans (by rw [hu, fulJob_setFulJob, if_neg (Ne.symm hm)])
  · show t.hbm = s.hbm
    rw [hregs, hu]
    rfl
  · show t.out = s.out
    rw [hregs, hu]
    rfl

/-! ## The destination (R487) -/

/-- From s to t memory, its poison and the free values alone differ, and memory only from base for n bytes. -/
structure Scrambled (base n : Nat) (s t : State) : Prop where
  rest : t = { s with free := t.free, hbm := t.hbm, poison := t.poison }
  apart : ∀ a, a < base ∨ base + n ≤ a → cellGet ramBlank t.hbm a = cellGet ramBlank s.hbm a

theorem Scrambled.refl (base n : Nat) (s : State) : Scrambled base n s s := ⟨rfl, fun _ _ => rfl⟩

theorem Scrambled.trans {base n : Nat} {s t u : State} (h : Scrambled base n s t) (k : Scrambled base n t u) : Scrambled base n s u :=
  ⟨by rw [k.rest, h.rest], fun a ha => (k.apart a ha).trans (h.apart a ha)⟩

theorem Scrambled.write (s : State) {base n : Nat} {bs : List Byte} (h : bs.length ≤ n) : Scrambled base n s (s.hbmWrite base bs) :=
  ⟨rfl, fun _ ha => cellGet_hbmWrite_apart s (by omega)⟩

theorem fulScramble_scrambled {p : FulParams} {q : PoolRec} {s : State} (h : s.pool p.dstPool = some q) :
    Scrambled (poolBase q + p.dstOff) p.dstCap s (fulScramble p s) := by
  unfold fulScramble
  rw [h]
  refine ⟨rfl, fun a ha => cellGet_hbmWrite_apart (s.drawBytes p.dstCap).2 ?_⟩
  rw [List.length_map, upto_eq_range', List.length_range']
  exact ha

theorem fulWrite_eq {p : FulParams} {q : PoolRec} {s : State} (h : s.pool p.dstPool = some q) (off : Nat) (bs : List Byte) :
    fulWrite p off bs s = s.hbmWrite (poolBase q + (p.dstOff + off)) bs := by
  unfold fulWrite
  rw [h]
  rfl

/-! ## How a job ends (R487, R488) -/

/-- A source that an ending raises does not show in the engine's registers. -/
theorem JobOver.raise {n result err out src : Nat} {s t : State} (h : JobOver n result err out s t) (hsrc : src < 1024) :
    JobOver n result err out s (raise src t) := by
  have hraise := raise_raiseOnly hsrc t
  have hstatus : raiseAddr (R.FUL_STATUS n) = false := by
    rw [Bool.eq_false_iff, Ne, raiseAddr_iff]
    unfold R.FUL_STATUS
    omega
  have houtlen : raiseAddr (R.FUL_OUTLEN n) = false := by
    rw [Bool.eq_false_iff, Ne, raiseAddr_iff]
    unfold R.FUL_OUTLEN
    omega
  have hcnt : raiseAddr (R.FUL_CNT0 n) = false := by
    rw [Bool.eq_false_iff, Ne, raiseAddr_iff]
    unfold R.FUL_CNT0
    omega
  have hjob (m : Nat) : (Machine.raise src t).fulJob m = t.fulJob m := by
    unfold State.fulJob
    rw [hraise.rest]
  exact ⟨(hjob n).trans h.job, fun m hm => (hjob m).trans (h.other m hm), (hraise.get hstatus).trans h.result,
    (hraise.get hstatus).trans h.err, (hraise.get hstatus).trans h.busy, (hraise.get houtlen).trans h.outlen,
    (hraise.get hcnt).trans h.count, (by rw [hraise.rest]; exact h.hbm), (by rw [hraise.rest]; exact h.out)⟩

theorem fulSource_lt {n : Nat} (h : n < 2) {off : Nat} (ho : off < 8) : fulSource n off < 1024 ∧ fulSource n off ≠ 960 := by
  unfold fulSource
  omega

/-- A job completes. -/
theorem fulDone_over {n out : Nat} (hn : n < 2) (ho : out < 2 ^ 32) (s : State) :
    JobOver n 1 0 out s (fulDone n out s) ∧ (fulDone n out s).isPending (fulSource n 0) = true := by
  obtain ⟨hlt, hne⟩ := fulSource_lt hn (show 0 < 8 by decide)
  exact ⟨(fulOver_over s (by decide) (by decide) ho).raise hlt, isPending_raise_same hlt hne _⟩

/-- A job fails as a whole. -/
theorem fulFail_over {n code : Nat} {p : FulParams} {q : PoolRec} {s : State} (hn : n < 2) (hc : code < 16)
    (hpool : s.pool p.dstPool = some q) :
    let t := fulFail n p code s
    t.fulJob n = none ∧ t.get (F.FUL_STATUS_RESULT n) = 2 ∧ t.get (F.FUL_STATUS_ERR n) = code ∧
    t.get (F.FUL_STATUS_BUSY n) = 0 ∧ t.get (F.FUL_OUTLEN_BYTES n) = 0 ∧ t.isPending (fulSource n 1) = true ∧
    t.get (F.FUL_CNT0_COUNT n) = min 0xFFFFFFFF (s.get (F.FUL_CNT0_COUNT n) + 1) ∧
    (∀ a, a < poolBase q + p.dstOff ∨ poolBase q + p.dstOff + p.dstCap ≤ a →
      cellGet ramBlank t.hbm a = cellGet ramBlank s.hbm a) ∧ t.out = s.out := by
  obtain ⟨hlt, hne⟩ := fulSource_lt hn (show 1 < 8 by decide)
  obtain ⟨u, hu⟩ : ∃ u, u = fulScramble p s := ⟨_, rfl⟩
  have hscr : Scrambled (poolBase q + p.dstOff) p.dstCap s u := hu ▸ fulScramble_scrambled hpool
  have hover := fulOver_over (n := n) (result := 2) u (by decide) hc (show 0 < 2 ^ 32 by decide)
  obtain ⟨v, hv⟩ : ∃ v, v = fulOver n 2 code 0 u := ⟨_, rfl⟩
  obtain ⟨w, hw⟩ : ∃ w, w = v.bump (F.FUL_CNT0_COUNT n) := ⟨_, rfl⟩
  rw [← hv] at hover
  obtain ⟨hstat, hlen⟩ := fulCnt_ne n n
  have hcount : w.get (F.FUL_CNT0_COUNT n) = min 0xFFFFFFFF (s.get (F.FUL_CNT0_COUNT n) + 1) := by
    rw [hw, State.get_bump_same, hover.count, hscr.rest]
    rfl
  have hbump (a : Nat) (ha : R.FUL_CNT0 n ≠ a) : w.word a = v.word a := hw ▸ State.word_bump_ne v ha
  have hregs : OnRegs v w := hw ▸ OnRegs.bump v _
  have hlast : fulFail n p code s = raise (fulSource n 1) w := by
    rw [hw, hv, hu]
    rfl
  have hends : JobOver n 2 code 0 w (raise (fulSource n 1) w) := by
    refine JobOver.raise ⟨(hregs.fulJob n).trans hover.job, fun _ _ => rfl, ?_, ?_, ?_, ?_, rfl, rfl, rfl⟩ hlt
    · exact (State.get_of_word (hbump _ hstat)).trans hover.result
    · exact (State.get_of_word (hbump _ hstat)).trans hover.err
    · exact (State.get_of_word (hbump _ hstat)).trans hover.busy
    · exact (State.get_of_word (hbump _ hlen)).trans hover.outlen
  rw [hlast]
  refine ⟨hends.job, hends.result, hends.err, hends.busy, hends.outlen, isPending_raise_same hlt hne w, hends.count.trans hcount,
    fun a ha => ?_, ?_⟩
  · rw [hends.hbm, hregs, hover.hbm]
    exact hscr.apart a ha
  · rw [hends.out, hregs, hover.out, hscr.rest]

end Sys2Proof.Machine
end

section
/-! SUPPORT. A job on one block of raw data (spec/16_fuller.md R485, R487, R489). -/

namespace Sys2Proof.Machine

/-! ## The source -/

theorem fulPoison_part {s : State} {p : FulParams} {m off n : Nat} (h : s.fulPoison p 0 m = false) (hn : n = 0 ∨ off + n ≤ m) :
    s.fulPoison p off n = false := by
  unfold State.fulPoison at h ⊢
  cases hpool : s.pool p.srcPool with
  | none => rfl
  | some q =>
    rw [hpool] at h
    rcases hn with rfl | hn
    · rfl
    · by_cases h0 : n = 0
      · rw [h0]
        rfl
      · have hm : (m != 0) = true := bne_iff_ne.mpr (by omega)
        dsimp only at h
        rw [hm, Bool.true_and] at h
        have hclean : s.hbmPoisoned (poolBase q + p.srcOff + off) n = false := by
          unfold State.hbmPoisoned at h ⊢
          rw [List.any_eq_false] at h ⊢
          intro w hw
          have hw' := h w hw
          simp only [Bool.and_eq_true, decide_eq_true_eq] at hw' ⊢
          omega
        simp only [hclean, Bool.and_false]

theorem length_fulRead {s : State} {p : FulParams} {q : PoolRec} (h : s.pool p.srcPool = some q) (off n : Nat) :
    (s.fulRead p off n).length = n := by
  unfold State.fulRead
  rw [h]
  exact length_hbmRead _ _ _

/-! ## A compression of one block -/

/-- The stream of at most one block. -/
theorem fullerCompress_short {w : Nat} {raw : List Byte} (h : raw.length ≤ 65536) :
    fullerCompress w raw = fullerHeader w raw.length ++ (if raw.length = 0 then [] else (encodeBlock w [] raw).1) ++
      fullerTrailer (crc32c raw) := by
  unfold fullerCompress
  by_cases h0 : raw.length = 0
  · rw [if_pos h0, h0]
    rfl
  · have hone : ceilDiv raw.length 65536 = 1 := by
      unfold ceilDiv
      omega
    have hne : raw.isEmpty = false := by
      cases raw with
      | nil => exact absurd rfl h0
      | cons => rfl
    rw [if_neg h0, hone, encodeBlocks, hne, List.take_of_length_le h, List.drop_of_length_le h]
    simp only [Bool.false_eq_true, if_false, encodeBlocks, List.append_nil]

/-- The first block of a compression of at most one block completes it. -/
theorem fulCompress_short {n : Nat} {j : FulJob} {p : FulParams} {src : PoolRec} {s : State} (hrun : j.run = none)
    (hsrc : s.pool p.srcPool = some src) (hlen : p.srcLen ≤ 65536) (hclean : s.fulPoison p 0 p.srcLen = false)
    (hfit : (fullerCompress p.width (s.fulRead p 0 p.srcLen)).length ≤ p.dstCap) :
    ∃ blocks stored, fulCompress n j p s = fulDone n (fullerCompress p.width (s.fulRead p 0 p.srcLen)).length
      (((fulWrite p 0 (fullerCompress p.width (s.fulRead p 0 p.srcLen)) s).set (F.FUL_PROGRESS_BLOCKS n) blocks).set
        (F.FUL_STORED_BLOCKS n) stored) := by
  have hraw := length_fulRead hsrc 0 p.srcLen
  obtain ⟨raw, hr⟩ : ∃ raw, raw = s.fulRead p 0 p.srcLen := ⟨_, rfl⟩
  rw [← hr] at hfit hraw ⊢
  have hmin : min 65536 (p.srcLen - 0) = p.srcLen := by omega
  have hshort := fullerCompress_short (w := p.width) (Nat.le_trans (Nat.le_of_eq hraw) hlen)
  rw [hraw] at hshort
  unfold fulCompress
  by_cases h0 : p.srcLen = 0
  · have hnil : raw = [] := List.eq_nil_of_length_eq_zero (hraw.trans h0)
    have hsum : crc32c raw = 0 := by rw [hnil]; decide
    have hstream : fullerCompress p.width raw = fullerHeader p.width p.srcLen ++ [] ++ fullerTrailer 0 := by
      rw [hshort, if_pos h0, hsum]
    rw [hstream] at hfit ⊢
    simp only [hrun, Option.getD_none, hmin, ← hr, Option.isNone_none, if_true, Nat.zero_add, beq_self_eq_true, hclean,
      Bool.false_eq_true, if_false]
    simp only [h0, if_true] at hfit ⊢
    exact ⟨_, _, if_neg (Nat.not_lt.mpr hfit)⟩
  · have hsum : crcRun 0xFFFFFFFF raw ^^^ 0xFFFFFFFF = crc32c raw := rfl
    have hstream : fullerCompress p.width raw = fullerHeader p.width p.srcLen ++ (encodeBlock p.width [] raw).1 ++
        fullerTrailer (crc32c raw) := by
      rw [hshort, if_neg h0]
    rw [hstream] at hfit ⊢
    simp only [hrun, Option.getD_none, hmin, ← hr, h0, Option.isNone_none, if_true, if_false, Nat.zero_add, beq_self_eq_true,
      hsum, hclean, Bool.false_eq_true]
    exact ⟨_, _, if_neg (Nat.not_lt.mpr hfit)⟩

/-! ## A decompression of one block -/

/-- What a step that reads a block says of it. -/
theorem fullerStep_block {src : List Byte} {r r' : FullerRun} {o : List Byte} (h : fullerStep src r = .ok (.block r' o)) :
    r'.rawLength = r.rawLength ∧ r'.outLen = r.outLen + o.length ∧ 0 < o.length ∧ r'.outLen ≤ r.rawLength ∧
    (o.length = 65536 ∨ r'.outLen = r.rawLength) := by
  unfold fullerStep at h
  dsimp only at h
  split at h
  · cases h
  · split at h
    · split at h
      · cases h
      · split at h
        · cases h
        · split at h <;> cases h
    · split at h
      · cases h
      next hgood =>
        split at h
        · cases h
        next hlen =>
          have hpos : 0 < leAt (src.drop r.pos) 2 2 + 1 := Nat.succ_pos _
          split at h
          next hty =>
            have hpay : (((src.drop r.pos).drop 8).take (leAt (src.drop r.pos) 4 4)).length = leAt (src.drop r.pos) 4 4 := by
              rw [List.length_take, List.length_drop]
              omega
            cases h
            refine ⟨rfl, ?_, ?_, ?_, ?_⟩ <;> simp only [hpay] <;> omega
          next =>
            split at h
            · cases h
            next out d hdec =>
              split at h
              next hout =>
                cases h
                refine ⟨rfl, ?_, ?_, ?_, ?_⟩ <;> simp only [hout] <;> omega
              next => cases h

theorem decodeCodes_error {w n len : Nat} (fuel : Nat) {i : Nat} {d : FullerDict} {prev : Option (List Byte)} {out : List (List Byte)}
    {e : Nat} (h : decodeCodes w n len fuel i d prev out = .error e) : e < 16 := by
  induction fuel generalizing i d prev out with
  | zero =>
    cases h
    decide
  | succ fuel ih =>
    unfold decodeCodes at h
    dsimp only at h
    split at h
    · split at h
      · cases h
      · cases h
        decide
    · split at h
      · exact ih h
      · split at h
        · cases h
          decide
        · exact ih h

theorem fullerStep_error {src : List Byte} {r : FullerRun} {e : Nat} (h : fullerStep src r = .error e) : e < 16 := by
  unfold fullerStep at h
  dsimp only at h
  split at h
  · cases h
    decide
  · split at h
    · split at h
      · cases h
        decide
      · split at h
        · cases h
          decide
        · split at h <;> cases h
          decide
    · split at h
      · cases h
        decide
      · split at h
        · cases h
          decide
        · split at h
          · cases h
          · split at h
            next hdec =>
              cases h
              unfold decodeBlock at hdec
              split at hdec
              · cases hdec
              next hcodes =>
                cases hdec
                exact decodeCodes_error _ hcodes
            · split at h <;> cases h
              decide

theorem fullerOpen_error {src : List Byte} {cap e : Nat} (h : fullerOpen src cap = .error e) : e < 16 := by
  unfold fullerOpen at h
  split at h
  · cases h
    decide
  · split at h
    · cases h
      decide
    · split at h <;> cases h
      decide

/-- A header that opens a run. -/
theorem fullerOpen_ok {src : List Byte} {cap : Nat} {r : FullerRun} (h : fullerOpen src cap = .ok r) :
    r.outLen = 0 ∧ r.rawLength ≤ cap ∧ 16 ≤ src.length := by
  unfold fullerOpen at h
  split at h
  · cases h
  · split at h
    · cases h
    · split at h
      · cases h
      · cases h
        exact ⟨rfl, by dsimp only; omega, by omega⟩

/-- How a stream of at most one block decompresses: its header, its block and its trailer. -/
inductive ShortStream (src : List Byte) (cap : Nat) : Except Nat (List Byte) → Prop
  | header (e : Nat) (h : fullerOpen src cap = .error e) : ShortStream src cap (.error e)
  | first (r : FullerRun) (e : Nat) (h : fullerOpen src cap = .ok r) (hs : fullerStep src r = .error e) : ShortStream src cap (.error e)
  | empty (r : FullerRun) (h : fullerOpen src cap = .ok r) (hs : fullerStep src r = .ok .finished) : ShortStream src cap (.ok [])
  | trailer (r r' : FullerRun) (o : List Byte) (e : Nat) (h : fullerOpen src cap = .ok r)
      (hs : fullerStep src r = .ok (.block r' o)) (ht : fullerStep src r' = .error e) : ShortStream src cap (.error e)
  | whole (r r' : FullerRun) (o : List Byte) (h : fullerOpen src cap = .ok r)
      (hs : fullerStep src r = .ok (.block r' o)) (ht : fullerStep src r' = .ok .finished) : ShortStream src cap (.ok o)

theorem shortStream_fullerDecompress {src : List Byte} {cap : Nat} (hraw : ∀ r, fullerOpen src cap = .ok r → r.rawLength ≤ 65536) :
    ShortStream src cap (fullerDecompress src cap) := by
  unfold fullerDecompress
  cases hopen : fullerOpen src cap with
  | error e => exact .header e hopen
  | ok r =>
    show ShortStream src cap (fullerLoop src (ceilDiv r.rawLength 65536 + 1) r [])
    rw [fullerLoop]
    cases hs : fullerStep src r with
    | error e => exact .first r e hopen hs
    | ok x =>
      cases x with
      | finished => exact .empty r hopen hs
      | block r' o =>
        obtain ⟨hrawLen, houtLen, hpos, hle, hfull⟩ := fullerStep_block hs
        have h0 := (fullerOpen_ok hopen).1
        have hsmall := hraw r hopen
        have hone : ceilDiv r.rawLength 65536 = 1 := by
          unfold ceilDiv
          omega
        rw [hone]
        show ShortStream src cap (fullerLoop src 1 r' [o])
        rw [fullerLoop]
        cases ht : fullerStep src r' with
        | error e => exact .trailer r r' o e hopen hs ht
        | ok y =>
          cases y with
          | finished =>
            show ShortStream src cap (.ok ([o].reverse.flatten))
            rw [List.reverse_singleton, List.flatten_singleton]
            exact .whole r r' o hopen hs ht
          | block r'' o' =>
            obtain ⟨hraw', hout', hpos', hle', -⟩ := fullerStep_block ht
            omega

end Sys2Proof.Machine
end

section
/-! SUPPORT. Jobs of the fuller engines as commands (spec/16_fuller.md R484 to R489). -/

namespace Sys2Proof.Machine

/-! ## START (R484) -/

theorem statusCode_lt (st : Status) : statusCode st < 65536 := by cases st <;> decide

/-- The marks of a job that starts: no block done. -/
def clearProgress (n : Nat) (s : State) : State := (s.set (F.FUL_PROGRESS_BLOCKS n) 0).set (F.FUL_STORED_BLOCKS n) 0

theorem clearProgress_shows (n : Nat) (s : State) : (clearProgress n s).get (F.FUL_PROGRESS_BLOCKS n) = 0 ∧
    (clearProgress n s).get (F.FUL_STORED_BLOCKS n) = 0 ∧
    (∀ a, a ≠ R.FUL_PROGRESS n → a ≠ R.FUL_STORED n → (clearProgress n s).word a = s.word a) ∧ OnRegs s (clearProgress n s) := by
  have hne : R.FUL_STORED n ≠ R.FUL_PROGRESS n := by
    unfold R.FUL_STORED R.FUL_PROGRESS
    omega
  exact ⟨(State.get_set_apart _ _ (.inl hne)).trans (State.get_set_fits s (Nat.two_pow_pos _)), State.get_set_fits _ (Nat.two_pow_pos _),
    fun a hp hs => (State.word_set_ne _ _ _ (Ne.symm hs)).trans (State.word_set_ne _ _ _ (Ne.symm hp)),
    (OnRegs.set _ _ _).trans (.set _ _ _)⟩

/-- What a job that starts shows. -/
theorem fullerStart_shows {n : Nat} {s : State} (hidle : s.flag (F.FUL_STATUS_BUSY n) = false)
    (hcheck : s.fulCheck n (fulParams ((fulAddrs n).map fun a => (s.word a).toNat)) = none) :
    ∃ t x, fullerStart n s = (.ok, t) ∧ (x = 1 ∨ x = 2) ∧
      t.fulJob n = some ⟨(fulAddrs n).map fun a => (s.word a).toNat, false, x, none⟩ ∧ t.get (F.FUL_STATUS_STATE n) = x ∧
      t.get (F.FUL_STATUS_BUSY n) = 1 ∧ t.get (F.FUL_PROGRESS_BLOCKS n) = 0 ∧ t.get (F.FUL_STORED_BLOCKS n) = 0 ∧
      (∀ a, a ∉ [R.FUL_STATUS n, R.FUL_PROGRESS n, R.FUL_STORED n] → t.word a = s.word a) ∧
      t = { s with regs := t.regs, fuller := t.fuller } := by
  obtain ⟨ws, hws⟩ : ∃ ws, ws = (fulAddrs n).map fun a => (s.word a).toNat := ⟨_, rfl⟩
  obtain ⟨u, hu⟩ : ∃ u, u = clearProgress n s := ⟨_, rfl⟩
  obtain ⟨v, hv⟩ : ∃ v, v = u.setFulJob n (some ⟨ws, false, 1, none⟩) := ⟨_, rfl⟩
  obtain ⟨x, hx⟩ : ∃ x, x = if v.domainOn (91 + n) then 2 else 1 := ⟨_, rfl⟩
  obtain ⟨w, hw⟩ : ∃ w, w = v.setFulJob n (some ⟨ws, false, x, none⟩) := ⟨_, rfl⟩
  have hstart : fullerStart n s = (.ok, w.fulState n x) := by
    unfold fullerStart
    rw [← hws] at hcheck ⊢
    dsimp only
    rw [hcheck, hw, hx, hv, hu]
    exact if_neg (by rw [hidle]; decide)
  have hx12 : x = 1 ∨ x = 2 := by
    rw [hx]
    split
    · exact .inr rfl
    · exact .inl rfl
  obtain ⟨hprog, hstored, huword, huregs⟩ := hu ▸ clearProgress_shows n s
  obtain ⟨hstate, hbusy, hword, hregs⟩ := fulState_shows w n (show x < 4 by omega)
  have hww (a : Nat) : w.word a = u.word a := by rw [hw, hv]; rfl
  have hwrest : w = { u with fuller := w.fuller } := by rw [hw, hv]; rfl
  have hp : R.FUL_PROGRESS n ≠ R.FUL_STATUS n := by
    unfold R.FUL_PROGRESS R.FUL_STATUS
    omega
  have hs : R.FUL_STORED n ≠ R.FUL_STATUS n := by
    unfold R.FUL_STORED R.FUL_STATUS
    omega
  refine ⟨w.fulState n x, x, hstart, hx12, ?_, hstate, hbusy.trans ?_, ?_, ?_, fun a ha => ?_, ?_⟩
  · rw [hregs.fulJob, hw, fulJob_setFulJob, if_pos rfl, hws]
  · rcases hx12 with h | h <;> rw [h] <;> rfl
  · exact (State.get_of_word (f := F.FUL_PROGRESS_BLOCKS n) ((hword _ hp).trans (hww _))).trans hprog
  · exact (State.get_of_word (f := F.FUL_STORED_BLOCKS n) ((hword _ hs).trans (hww _))).trans hstored
  · simp only [List.mem_cons, List.not_mem_nil, or_false, not_or] at ha
    exact (hword a ha.1).trans ((hww a).trans (huword a ha.2.1 ha.2.2))
  · rw [hregs, hwrest, huregs]

theorem fullerStart_refused {n : Nat} {st : Status} {s : State} (hidle : s.flag (F.FUL_STATUS_BUSY n) = false)
    (hcheck : s.fulCheck n (fulParams ((fulAddrs n).map fun a => (s.word a).toNat)) = some st) :
    fullerStart n s = (st, raise (fulSource n 2) (s.fulResult n 4 0 (statusCode st))) := by
  unfold fullerStart
  dsimp only
  rw [hcheck]
  exact if_neg (by rw [hidle]; decide)

/-- What a refused start shows. -/
theorem raise_refused_shows {n : Nat} (hn : n < 2) (st : Status) (s : State) :
    let t := raise (fulSource n 2) (s.fulResult n 4 0 (statusCode st))
    t.get (F.FUL_STATUS_RESULT n) = 4 ∧ t.get (F.FUL_STATUS_REFUSE n) = statusCode st ∧ t.isPending (fulSource n 2) = true ∧
    (∀ a, evtAddr a = false → a ≠ R.FUL_STATUS n → t.word a = s.word a) ∧ t = { s with regs := t.regs, evt := t.evt } := by
  obtain ⟨hlt, hne⟩ := fulSource_lt hn (show 2 < 8 by decide)
  obtain ⟨hres, -, href, hword, hregs⟩ := fulResult_shows s n (show 4 < 8 by decide) (show 0 < 16 by decide) (statusCode_lt st)
  generalize s.fulResult n 4 0 (statusCode st) = u at *
  have hraise := raise_raiseOnly hlt u
  have hstatus : raiseAddr (R.FUL_STATUS n) = false := by
    rw [Bool.eq_false_iff, Ne, raiseAddr_iff]
    unfold R.FUL_STATUS
    omega
  refine ⟨(hraise.get hstatus).trans hres, (hraise.get hstatus).trans href, isPending_raise_same hlt hne u,
    fun a ha hs => (hraise.evtOnly.word a ha).trans (hword a hs), ?_⟩
  rw [hraise.rest, hregs]

theorem fullerJobsStartAndAbort : Claims.FullerJobsStartAndAbort := by
  intro who n st j q s hperm
  refine ⟨fun hidle hcheck => ?_, fun hidle hcheck => ?_, fun hbusy => ?_, fun hj hpool => ?_, fun hj => ?_⟩
  · obtain ⟨t, x, hstart, hx, hjob, hstate, hbusy, hprog, hstored, hword, hrest⟩ := fullerStart_shows hidle hcheck
    refine ⟨_, whenLive_answers (f := fullerStart n.val) hperm hstart, ⟨x, hx, hjob, (State.get_emit _ _ _).trans hstate⟩,
      (State.get_emit _ _ _).trans hbusy, (State.get_emit _ _ _).trans hprog, (State.get_emit _ _ _).trans hstored,
      fun a ha => (State.word_emit _ _ _).trans (hword a ha), ?_⟩
    exact congrArg (fun u : State => u.emit (.status who (R.FUL_CTRL n.val) .ok)) hrest
  · obtain ⟨hres, href, hpend, hword, hrest⟩ := raise_refused_shows n.isLt st s
    refine ⟨_, whenLive_answers (f := fullerStart n.val) hperm (fullerStart_refused hidle hcheck), ?_⟩
    generalize raise (fulSource n.val 2) (s.fulResult n.val 4 0 (statusCode st)) = t at *
    refine ⟨(State.get_emit _ _ _).trans hres, (State.get_emit _ _ _).trans href, hpend,
      fun a ha hs => (State.word_emit _ _ _).trans (hword a ha hs), ?_⟩
    exact congrArg (fun u : State => u.emit (.status who (R.FUL_CTRL n.val) st)) hrest
  · exact whenLive_answers (f := fullerStart n.val) hperm (if_pos (Bool.not_eq_false _ ▸ hbusy))
  · have habort : fullerAbort n.val s = (.ok, fulOver n.val 3 0 0 (fulScramble (fulParams j.words) s)) := by
      unfold fullerAbort fulAborted
      rw [hj]
      rfl
    have hscr := fulScramble_scrambled hpool
    have hover := fulOver_over (n := n.val) (result := 3) (err := 0) (out := 0) (fulScramble (fulParams j.words) s) (by decide)
      (by decide) (by decide)
    refine ⟨_, whenLive_answers (f := fullerAbort n.val) hperm habort, ?_⟩
    generalize fulScramble (fulParams j.words) s = u at *
    generalize fulOver n.val 3 0 0 u = t at *
    have hother : t.fulJob (1 - n.val) = s.fulJob (1 - n.val) :=
      (hover.other _ (by omega)).trans (by unfold State.fulJob; rw [hscr.rest])
    refine ⟨hover.job, (State.get_emit _ _ _).trans hover.result, (State.get_emit _ _ _).trans hover.busy,
      (State.get_emit _ _ _).trans hover.outlen, hother, fun a ha => ?_, ?_⟩
    · show cellGet ramBlank t.hbm a = _
      rw [hover.hbm]
      exact hscr.apart a ha
    · show _ :: t.out = _
      rw [hover.out, hscr.rest]
  · have habort : fullerAbort n.val s = (.ok, s) := by
      unfold fullerAbort fulAborted
      rw [hj]
      rfl
    exact whenLive_answers (f := fullerAbort n.val) hperm habort

/-! ## FULLER_BLOCK_DONE (R485, R487, R489) -/

/-- From s to t memory holds some bytes from base on, and no other byte of it, and no output, has changed. -/
structure HoldsBytes (base : Nat) (bs : List Byte) (s t : State) : Prop where
  read : t.hbmRead base bs.length = bs
  keep : ∀ a, a < base ∨ base + bs.length ≤ a → cellGet ramBlank t.hbm a = cellGet ramBlank s.hbm a
  out : t.out = s.out

theorem HoldsBytes.nil (base : Nat) (s : State) : HoldsBytes base [] s s := ⟨rfl, fun _ _ => rfl, rfl⟩

/-- Bytes written from the destination's start, with the progress shown. -/
def writeBlock (n : Nat) (p : FulParams) (bs : List Byte) (blocks stored : Nat) (s : State) : State :=
  ((fulWrite p 0 bs s).set (F.FUL_PROGRESS_BLOCKS n) blocks).set (F.FUL_STORED_BLOCKS n) stored

theorem writeBlock_onRegs {n : Nat} {p : FulParams} {q : PoolRec} {bs : List Byte} {s : State} (hpool : s.pool p.dstPool = some q)
    (blocks stored : Nat) : OnRegs (s.hbmWrite (poolBase q + p.dstOff) bs) (writeBlock n p bs blocks stored s) := by
  unfold writeBlock
  rw [fulWrite_eq hpool, Nat.add_zero]
  exact (OnRegs.set _ _ _).trans (.set _ _ _)

theorem writeBlock_holds {n : Nat} {p : FulParams} {q : PoolRec} {bs : List Byte} {s : State} (hpool : s.pool p.dstPool = some q)
    (blocks stored : Nat) : HoldsBytes (poolBase q + p.dstOff) bs s (writeBlock n p bs blocks stored s) := by
  have hregs := writeBlock_onRegs (n := n) (bs := bs) hpool blocks stored
  have hhbm : (writeBlock n p bs blocks stored s).hbm = (s.hbmWrite (poolBase q + p.dstOff) bs).hbm := by rw [hregs]
  refine ⟨?_, fun a ha => ?_, ?_⟩
  · exact (hregs.hbmRead _ _).trans (hbmRead_hbmWrite_same s _ bs)
  · rw [hhbm]
    exact cellGet_hbmWrite_apart s ha
  · rw [hregs]
    rfl

/-- A job whose stream or data stands in memory completes. -/
theorem fulDone_wrote {n base : Nat} (hn : n < 2) {s u : State} {bs : List Byte} (h : HoldsBytes base bs s u)
    (hlen : bs.length < 2 ^ 32) :
    let t := fulDone n bs.length u
    t.hbmRead base bs.length = bs ∧
    (∀ a, a < base ∨ base + bs.length ≤ a → cellGet ramBlank t.hbm a = cellGet ramBlank s.hbm a) ∧
    t.fulJob n = none ∧ t.get (F.FUL_STATUS_RESULT n) = 1 ∧ t.get (F.FUL_STATUS_BUSY n) = 0 ∧
    t.get (F.FUL_OUTLEN_BYTES n) = bs.length ∧ t.isPending (fulSource n 0) = true ∧ t.out = s.out := by
  obtain ⟨hover, hpend⟩ := fulDone_over hn hlen u
  refine ⟨?_, fun a ha => ?_, hover.job, hover.result, hover.busy, hover.outlen, hpend, hover.out.trans h.out⟩
  · unfold State.hbmRead
    rw [hover.hbm]
    exact h.read
  · rw [hover.hbm]
    exact h.keep a ha

theorem fullerBlock_idle {n : Nat} {j : FulJob} {s : State} (hj : s.fulJob n = some j) (h : j.state ≠ 2) : fullerBlock n s = s := by
  unfold fullerBlock
  rw [hj]
  exact if_pos h

theorem fullerBlock_runs {n : Nat} {j : FulJob} {s : State} (hj : s.fulJob n = some j) (h : j.state = 2) :
    fullerBlock n s = if (fulParams j.words).op = 0 then fulCompress n j (fulParams j.words) s
      else fulExpand n j (fulParams j.words) s := by
  unfold fullerBlock
  rw [hj]
  exact if_neg (not_not.mpr h)

section
variable {n : Nat} {j : FulJob} {p : FulParams} {src : List Byte} {s : State} {r r' : FullerRun} {o : List Byte} {e : Nat}

/-- The first block of a decompression whose source is good reads no poison. -/
theorem fulPoison_first (hclean : s.fulPoison p 0 (p.srcLen + 8) = false) (hlen : (s.fulRead p 0 p.srcLen).length = p.srcLen) :
    ¬ s.fulPoison p 0 (fulReadEnd (s.fulRead p 0 p.srcLen) (max 16 0) - 0) = true := by
  have hpart : s.fulPoison p 0 (fulReadEnd (s.fulRead p 0 p.srcLen) (max 16 0) - 0) = false := by
    refine fulPoison_part hclean (.inr ?_)
    unfold fulReadEnd
    rw [hlen]
    omega
  rw [hpart]
  decide

theorem fulPoison_trailer (hclean : s.fulPoison p 0 (p.srcLen + 8) = false) (pos : Nat) :
    s.fulPoison p pos (min 8 (p.srcLen - pos)) = false := by
  refine fulPoison_part hclean ?_
  omega

variable (hrun : j.run = none) (hclean : s.fulPoison p 0 (p.srcLen + 8) = false)
  (hlen : (s.fulRead p 0 p.srcLen).length = p.srcLen)
include hrun hclean hlen

theorem fulExpand_header (ho : fullerOpen (s.fulRead p 0 p.srcLen) p.dstCap = .error e) : fulExpand n j p s = fulFail n p e s := by
  unfold fulExpand
  rw [hrun]
  dsimp only
  rw [if_neg (fulPoison_first hclean hlen), ho]

theorem fulExpand_first (ho : fullerOpen (s.fulRead p 0 p.srcLen) p.dstCap = .ok r)
    (hs : fullerStep (s.fulRead p 0 p.srcLen) r = .error e) : fulExpand n j p s = fulFail n p e s := by
  unfold fulExpand
  rw [hrun]
  dsimp only
  rw [if_neg (fulPoison_first hclean hlen), ho]
  dsimp only
  rw [hs]

theorem fulExpand_empty (ho : fullerOpen (s.fulRead p 0 p.srcLen) p.dstCap = .ok r)
    (hs : fullerStep (s.fulRead p 0 p.srcLen) r = .ok .finished) : fulExpand n j p s = fulDone n r.outLen s := by
  unfold fulExpand
  rw [hrun]
  dsimp only
  rw [if_neg (fulPoison_first hclean hlen), ho]
  dsimp only
  rw [hs]

theorem fulExpand_trailer (ho : fullerOpen (s.fulRead p 0 p.srcLen) p.dstCap = .ok r) (h0 : r.outLen = 0)
    (hs : fullerStep (s.fulRead p 0 p.srcLen) r = .ok (.block r' o)) (hall : r'.outLen = r'.rawLength)
    (ht : fullerStep (s.fulRead p 0 p.srcLen) r' = .error e) : fulExpand n j p s = fulFail n p e (writeBlock n p o r'.blocks r'.stored s) := by
  unfold fulExpand
  rw [hrun]
  dsimp only
  rw [if_neg (fulPoison_first hclean hlen), ho]
  dsimp only
  rw [hs]
  dsimp only
  rw [if_neg (not_not.mpr hall), fulPoison_trailer hclean, ht, h0]
  rfl

theorem fulExpand_whole (ho : fullerOpen (s.fulRead p 0 p.srcLen) p.dstCap = .ok r) (h0 : r.outLen = 0)
    (hs : fullerStep (s.fulRead p 0 p.srcLen) r = .ok (.block r' o)) (hall : r'.outLen = r'.rawLength)
    (ht : fullerStep (s.fulRead p 0 p.srcLen) r' = .ok .finished) :
    fulExpand n j p s = fulDone n r'.outLen (writeBlock n p o r'.blocks r'.stored s) := by
  unfold fulExpand
  rw [hrun]
  dsimp only
  rw [if_neg (fulPoison_first hclean hlen), ho]
  dsimp only
  rw [hs]
  dsimp only
  rw [if_neg (not_not.mpr hall), fulPoison_trailer hclean, ht, h0]
  rfl

end

/-- A stream ends where all its data has come. -/
theorem fullerStep_finished {src : List Byte} {r : FullerRun} (h : fullerStep src r = .ok .finished) : r.outLen = r.rawLength := by
  unfold fullerStep at h
  dsimp only at h
  split at h
  · cases h
  · split at h
    · split at h
      · cases h
      next hgood => exact not_not.mp fun hne => hgood (.inr hne)
    · split at h
      · cases h
      · split at h
        · cases h
        · split at h
          · cases h
          · split at h
            · cases h
            · split at h <;> cases h

/-- The data that a stream holds has the length that its header names. -/
theorem length_fullerLoop {src : List Byte} (fuel : Nat) {r : FullerRun} {acc : List (List Byte)} {out : List Byte}
    (h : fullerLoop src fuel r acc = .ok out) : out.length + r.outLen = acc.flatten.length + r.rawLength := by
  induction fuel generalizing r acc with
  | zero => cases h
  | succ fuel ih =>
    rw [fullerLoop] at h
    cases hs : fullerStep src r with
    | error e =>
      rw [hs] at h
      cases h
    | ok x =>
      rw [hs] at h
      cases x with
      | finished =>
        cases h
        rw [fullerStep_finished hs, List.length_flatten, List.length_flatten, List.map_reverse, List.sum_reverse]
      | block r' o =>
        obtain ⟨hraw, hout, -⟩ := fullerStep_block hs
        have hrest := ih h
        rw [List.flatten_cons, List.length_append] at hrest
        omega

theorem rawLength_of_fullerDecompress {src out : List Byte} {cap : Nat} {r : FullerRun} (h : fullerDecompress src cap = .ok out)
    (ho : fullerOpen src cap = .ok r) : r.rawLength = out.length := by
  unfold fullerDecompress at h
  rw [ho] at h
  have hlen := length_fullerLoop _ h
  rw [(fullerOpen_ok ho).1] at hlen
  simpa using hlen.symm

/-- All data of a stream of one block comes with it. -/
theorem fullerStep_whole {src : List Byte} {cap : Nat} {r r' : FullerRun} {o : List Byte} (ho : fullerOpen src cap = .ok r)
    (hraw : r.rawLength ≤ 65536) (hs : fullerStep src r = .ok (.block r' o)) :
    r'.outLen = r'.rawLength ∧ r'.outLen = o.length ∧ o.length ≤ cap := by
  obtain ⟨h0, hcap, -⟩ := fullerOpen_ok ho
  obtain ⟨hrawLen, houtLen, -, hle, hfull⟩ := fullerStep_block hs
  omega

section
variable {n : Nat} {j : FulJob} {p : FulParams} {q : PoolRec} {s : State} (hrun : j.run = none)
  (hclean : s.fulPoison p 0 (p.srcLen + 8) = false) (hlen : (s.fulRead p 0 p.srcLen).length = p.srcLen)
  (hpool : s.pool p.dstPool = some q)
  (hraw : ∀ r, fullerOpen (s.fulRead p 0 p.srcLen) p.dstCap = .ok r → r.rawLength ≤ 65536)
include hrun hclean hlen hpool hraw

/-- A stream that decompresses completes its job with the data. -/
theorem fulExpand_done {out : List Byte} (h : fullerDecompress (s.fulRead p 0 p.srcLen) p.dstCap = .ok out) :
    ∃ u, fulExpand n j p s = fulDone n out.length u ∧ HoldsBytes (poolBase q + p.dstOff) out s u := by
  have hshort := shortStream_fullerDecompress hraw
  rw [h] at hshort
  cases hshort with
  | empty r ho hs =>
    refine ⟨s, ?_, .nil _ s⟩
    rw [fulExpand_empty hrun hclean hlen ho hs, (fullerOpen_ok ho).1]
    rfl
  | whole r r' o ho hs ht =>
    obtain ⟨hall, hout, -⟩ := fullerStep_whole ho (hraw r ho) hs
    refine ⟨writeBlock n p out r'.blocks r'.stored s, ?_, writeBlock_holds hpool r'.blocks r'.stored⟩
    rw [fulExpand_whole hrun hclean hlen ho (fullerOpen_ok ho).1 hs hall ht, hout]

/-- A stream with a fault fails its job with its code, where at most the destination has been written. -/
theorem fulExpand_fails {code : Nat} (h : fullerDecompress (s.fulRead p 0 p.srcLen) p.dstCap = .error code) :
    code < 16 ∧ ∃ u, fulExpand n j p s = fulFail n p code u ∧ u.pool p.dstPool = some q ∧
      u.get (F.FUL_CNT0_COUNT n) = s.get (F.FUL_CNT0_COUNT n) ∧ u.out = s.out ∧
      ∀ a, a < poolBase q + p.dstOff ∨ poolBase q + p.dstOff + p.dstCap ≤ a →
        cellGet ramBlank u.hbm a = cellGet ramBlank s.hbm a := by
  have hshort := shortStream_fullerDecompress hraw
  rw [h] at hshort
  cases hshort with
  | header e ho =>
    exact ⟨fullerOpen_error ho, s, fulExpand_header hrun hclean hlen ho, hpool, rfl, rfl, fun _ _ => rfl⟩
  | first r e ho hs =>
    exact ⟨fullerStep_error hs, s, fulExpand_first hrun hclean hlen ho hs, hpool, rfl, rfl, fun _ _ => rfl⟩
  | trailer r r' o e ho hs ht =>
    obtain ⟨hall, -, hcap⟩ := fullerStep_whole ho (hraw r ho) hs
    obtain ⟨u, hu⟩ : ∃ u, u = writeBlock n p o r'.blocks r'.stored s := ⟨_, rfl⟩
    have hholds : HoldsBytes (poolBase q + p.dstOff) o s u := hu ▸ writeBlock_holds hpool _ _
    have hregs : OnRegs (s.hbmWrite (poolBase q + p.dstOff) o) u := hu ▸ writeBlock_onRegs hpool _ _
    have hcnt : u.get (F.FUL_CNT0_COUNT n) = s.get (F.FUL_CNT0_COUNT n) := by
      have hprog : R.FUL_PROGRESS n ≠ R.FUL_CNT0 n := by
        unfold R.FUL_PROGRESS R.FUL_CNT0
        omega
      have hstored : R.FUL_STORED n ≠ R.FUL_CNT0 n := by
        unfold R.FUL_STORED R.FUL_CNT0
        omega
      rw [hu]
      unfold writeBlock
      rw [fulWrite_eq hpool]
      exact (State.get_set_apart _ _ (.inl hstored)).trans (State.get_set_apart _ _ (.inl hprog))
    refine ⟨fullerStep_error ht, u, hu ▸ fulExpand_trailer hrun hclean hlen ho (fullerOpen_ok ho).1 hs hall ht,
      (hregs.pool _).trans hpool, hcnt, hholds.out, fun a ha => hholds.keep a ?_⟩
    omega

end

theorem fullerBlockRunsCodec : Claims.FullerBlockRunsCodec := by
  intro n j src dst out code s hlive hj
  refine ⟨fun h2 hrun hsrc hdst hlt hclean => ?_, fun h2 => ?_⟩
  · have hlen := length_fulRead hsrc 0 (fulParams j.words).srcLen
    have hstep := fullerBlock_runs hj h2
    refine ⟨fun hop hshort hfit hcap => ?_, fun hop hout hsmall => ?_, fun hop hcode hraw => ?_⟩
    · obtain ⟨blocks, stored, hcomp⟩ := fulCompress_short (n := n.val) hrun hsrc hshort (fulPoison_part hclean (.inr (by omega))) hfit
      rw [if_pos hop, hcomp] at hstep
      exact ⟨_, (whenLive_next _ (fullerBlock n.val) hlive).trans (congrArg _ hstep),
        fulDone_wrote n.isLt (writeBlock_holds hdst blocks stored) (Nat.lt_of_le_of_lt hfit hcap)⟩
    · obtain ⟨u, hdone, hholds⟩ := fulExpand_done (n := n.val) hrun hclean hlen hdst
        (fun r ho => (rawLength_of_fullerDecompress hout ho).trans_le hsmall) hout
      rw [if_neg (by omega), hdone] at hstep
      exact ⟨_, (whenLive_next _ (fullerBlock n.val) hlive).trans (congrArg _ hstep), fulDone_wrote n.isLt hholds (by omega)⟩
    · obtain ⟨hlt16, u, hfail, hpool, hcnt, houtput, hkeep⟩ := fulExpand_fails (n := n.val) hrun hclean hlen hdst hraw hcode
      rw [if_neg (by omega), hfail] at hstep
      obtain ⟨hjob, hres, herr, hbusy, houtlen, hpend, hcount, hapart, hsame⟩ := fulFail_over n.isLt hlt16 hpool
      exact ⟨_, (whenLive_next _ (fullerBlock n.val) hlive).trans (congrArg _ hstep), hjob, hres, herr, hbusy, houtlen, hpend,
        hcnt ▸ hcount, fun a ha => (hapart a ha).trans (hkeep a ha), hsame.trans houtput⟩
  · exact (whenLive_next _ (fullerBlock n.val) hlive).trans (congrArg _ (fullerBlock_idle hj h2))

/-- Settles O57: how a job starts and ends, and the one block of a short job. -/
theorem fullerJobsRun : Obligations.FullerJobsRun := ⟨fullerJobsStartAndAbort, fullerBlockRunsCodec⟩

end Sys2Proof.Machine
end

section
/-! SUPPORT. Sizing sets: staging, discarding and writing back (spec/19_sizing_records.md R539 to R543). -/

namespace Sys2Proof.Machine

/-! ## What the operations' state functions leave -/

/-- From s to t the sizing part and its status registers alone differ. -/
structure SizWork (s t : State) : Prop where
  rest : t = { s with regs := t.regs, siz := t.siz }
  word : ∀ a, a ≠ R.SIZ_STATUS → t.word a = s.word a

theorem SizWork.trans {s t u : State} (h : SizWork s t) (k : SizWork t u) : SizWork s u :=
  ⟨by rw [k.rest, h.rest], fun a ha => (k.word a ha).trans (h.word a ha)⟩

theorem SizWork.withSiz (s : State) (x : SizState) : SizWork s (s.withSiz x) := ⟨rfl, fun _ _ => rfl⟩

theorem SizWork.set (s : State) {f : Field} (v : Nat) (h : f.addr = R.SIZ_STATUS) : SizWork s (s.set f v) :=
  ⟨rfl, fun _ ha => s.word_set_ne f v fun e => ha (e.symm.trans h)⟩

theorem siz_set (s : State) (f : Field) (v : Nat) : (s.set f v).siz = s.siz := by rw [OnRegs.set s f v]

/-! ## STAGE and DISCARD (R543) -/

section
variable {s : State}

theorem sizStage_mode (h : s.modeNow ≠ 0x4) : sizStage s = (.mode, s) := if_pos h

theorem sizStage_busy (hm : s.modeNow = 0x4)
    (h : s.flag F.SIZ_STATUS_BUSY = true ∨ s.flag F.SIZ_STATUS_PEND_FENCE = true ∨ s.flag F.SIZ_STATUS_PEND_EPOCH = true) :
    sizStage s = (.busy, s) := (if_neg (not_not.mpr hm)).trans (if_pos h)

theorem sizStage_empty (hm : s.modeNow = 0x4)
    (h : ¬ (s.flag F.SIZ_STATUS_BUSY = true ∨ s.flag F.SIZ_STATUS_PEND_FENCE = true ∨ s.flag F.SIZ_STATUS_PEND_EPOCH = true))
    (hl : s.word R.SIZ_LEN = 0) : sizStage s = (.value, s) :=
  (if_neg (not_not.mpr hm)).trans ((if_neg h).trans (if_pos hl))

theorem sizStage_takes (hm : s.modeNow = 0x4)
    (h : ¬ (s.flag F.SIZ_STATUS_BUSY = true ∨ s.flag F.SIZ_STATUS_PEND_FENCE = true ∨ s.flag F.SIZ_STATUS_PEND_EPOCH = true))
    (hl : s.word R.SIZ_LEN ≠ 0) :
    sizStage s = (.ok, (s.withSiz { s.siz with op := 1, bytes := s.sizSource }).set F.SIZ_STATUS_BUSY 1) :=
  (if_neg (not_not.mpr hm)).trans ((if_neg h).trans (if_neg hl))

/-- An operation that starts. -/
theorem sizBegin_shows (x : SizState) (s : State) :
    let t := (s.withSiz x).set F.SIZ_STATUS_BUSY 1
    t.siz = x ∧ t.get F.SIZ_STATUS_BUSY = 1 ∧ SizWork s t :=
  ⟨siz_set _ _ _, State.get_set_fits _ (by decide), (SizWork.withSiz s x).trans (.set _ 1 rfl)⟩

/-- The state after a DISCARD. -/
def sizDropped (s : State) : State :=
  ((s.withSiz { s.siz with fence := [], epoch := [], ready := false }).set F.SIZ_STATUS_PEND_FENCE 0).set F.SIZ_STATUS_PEND_EPOCH 0

theorem sizDropped_shows (s : State) : (sizDropped s).siz = { s.siz with fence := [], epoch := [], ready := false } ∧
    (sizDropped s).get F.SIZ_STATUS_PEND_FENCE = 0 ∧ (sizDropped s).get F.SIZ_STATUS_PEND_EPOCH = 0 ∧ SizWork s (sizDropped s) := by
  refine ⟨(siz_set _ _ _).trans (siz_set _ _ _), ?_, State.get_set_fits _ (by decide),
    ((SizWork.withSiz s _).trans (.set _ 0 rfl)).trans (.set _ 0 rfl)⟩
  exact (State.get_set_apart _ _ (by decide)).trans (State.get_set_fits _ (by decide))

end

/-! ## The end of STAGE (R539, R541) -/

/-- The state at the end of an operation, before its result is shown. -/
theorem sizEnd_shows (s : State) : (sizEnd s).siz = { s.siz with op := 0, bytes := none } ∧ (sizEnd s).get F.SIZ_STATUS_BUSY = 0 ∧
    SizWork s (sizEnd s) :=
  ⟨siz_set _ _ _, State.get_set_fits _ (by decide), (SizWork.withSiz s _).trans (.set _ 0 rfl)⟩

theorem sizResult_shows (code type entry : Nat) (s : State) :
    (sizResult code type entry s).get F.SIZ_STATUS_ERR = code % 16 ∧
    (∀ f, f.addr = R.SIZ_STATUS → f.hi < 12 → (sizResult code type entry s).get f = s.get f) ∧
    (∀ a, a ≠ R.SIZ_STATUS → a ≠ R.SIZ_ENTRY → (sizResult code type entry s).word a = s.word a) ∧
    OnRegs s (sizResult code type entry s) := by
  unfold sizResult
  refine ⟨?_, fun f hf hhi => ?_, fun a hs he => ?_, ((OnRegs.set _ _ _).trans (.set _ _ _)).trans (.set _ _ _)⟩
  · exact (State.get_set_apart _ _ (by decide)).trans ((State.get_set_apart _ _ (by decide)).trans (State.get_set_same _ _ _ ⟨by decide, by decide⟩))
  · have hentry : F.SIZ_ENTRY_ENTRY.addr ≠ f.addr := by rw [hf]; decide
    have htype : F.SIZ_STATUS_FAIL_TYPE.Apart f := .inr (.inr (Nat.lt_trans hhi (by decide)))
    have herr : F.SIZ_STATUS_ERR.Apart f := .inr (.inr hhi)
    exact (State.get_set_apart _ _ (.inl hentry)).trans ((State.get_set_apart _ _ htype).trans (State.get_set_apart _ _ herr))
  · exact (State.word_set_ne _ _ _ (Ne.symm he)).trans ((State.word_set_ne _ _ _ (Ne.symm hs)).trans
      (State.word_set_ne _ _ _ (Ne.symm hs)))

/-- A failed check of a set is reported under a source that the manual leaves open. -/
theorem sizReject_raiseOnly (code entry : Nat) (s : State) : RaiseOnly { s with free := s.free + 1 } (sizReject code 0 entry s) :=
  report_raiseOnly _ _ _ _

/-- What an operation that fails shows: u is the state that its end has brought. -/
theorem sizFails_shows (code : Nat) (u : State) :
    let t := sizReject code 0 0 (sizResult code 0 0 u)
    t.siz = u.siz ∧ t.get F.SIZ_STATUS_ERR = code % 16 ∧ (∀ f, f.addr = R.SIZ_STATUS → f.hi < 12 → t.get f = u.get f) ∧
    t.word R.SIZ_SEQ = u.word R.SIZ_SEQ ∧ t = { u with regs := t.regs, evt := t.evt, free := t.free } := by
  obtain ⟨herr, hkeep, hword, hregs⟩ := sizResult_shows code 0 0 u
  generalize sizResult code 0 0 u = v at *
  have hraise := sizReject_raiseOnly code 0 v
  have hget (f : Field) (hf : f.addr = R.SIZ_STATUS) : (sizReject code 0 0 v).get f = v.get f :=
    State.get_of_word (hraise.word _ (by rw [hf]; decide))
  refine ⟨?_, (hget _ rfl).trans herr, fun f hf hhi => (hget f hf).trans (hkeep f hf hhi),
    (hraise.word _ (by decide)).trans (hword _ (by decide) (by decide)), ?_⟩
  · rw [hraise.rest, hregs]
  · rw [hraise.rest, hregs]

theorem sizStageDone_idle {s : State} (h : s.siz.op ≠ 1) : sizStageDone s = s := if_pos h

theorem sizStageDone_none {s : State} (h : s.siz.op = 1) (hb : s.siz.bytes = none) :
    sizStageDone s = sizReject 8 0 0 (sizResult 8 0 0 (sizEnd s)) := by
  unfold sizStageDone
  rw [hb]
  exact if_neg (not_not.mpr h)

theorem sizStageDone_bad {s : State} {bs : List Byte} {code : Nat} (h : s.siz.op = 1) (hb : s.siz.bytes = some bs)
    (hc : (sizSetCheck bs).1 = code) (h0 : code ≠ 0) : sizStageDone s = sizReject code 0 0 (sizResult code 0 0 (sizEnd s)) := by
  unfold sizStageDone
  rw [hb]
  dsimp only
  cases hcheck : sizSetCheck bs with
  | mk c set =>
    rw [hcheck] at hc
    subst hc
    cases c with
    | zero => exact absurd rfl h0
    | succ c => exact (if_neg (not_not.mpr h)).trans (if_neg h0)

/-- The state in which a good set is taken: fuller gives way to a map. -/
def sizReady (rs : List SizRecord) (s : State) : State :=
  if rs.any (fun r => r.type == 6) then yieldFuller (sizResult 0 0 0 (sizEnd s)) else sizResult 0 0 0 (sizEnd s)

theorem sizStageDone_good {s : State} {bs set : List Byte} (h : s.siz.op = 1) (hb : s.siz.bytes = some bs)
    (hc : sizSetCheck bs = (0, set))
    (hr : sizCheckRecords s.sizLimits presetWordOk (leAt set 6 2) (sizSetRecords set) = (0, 0, 0)) :
    sizStageDone s = sizTake (sizSetRecords set) (sizReady (sizSetRecords set) s) := by
  unfold sizStageDone
  rw [hb]
  dsimp only
  rw [hc]
  simp only [hr]
  exact (if_neg (not_not.mpr h)).trans (if_pos trivial)

theorem yieldFuller_rest (s : State) : yieldFuller s = { s with fuller := (yieldFuller s).fuller } := by
  unfold yieldFuller
  split
  · split <;> rfl
  · rfl

theorem sizReady_shows (rs : List SizRecord) (s : State) :
    (sizReady rs s).siz = { s.siz with op := 0, bytes := none } ∧ (sizReady rs s).get F.SIZ_STATUS_ERR = 0 ∧
    (sizReady rs s).get F.SIZ_STATUS_BUSY = 0 ∧
    sizReady rs s = { s with regs := (sizReady rs s).regs, siz := (sizReady rs s).siz, fuller := (sizReady rs s).fuller } := by
  obtain ⟨hsiz, hbusy, hend⟩ := sizEnd_shows s
  obtain ⟨herr, hkeep, -, hregs⟩ := sizResult_shows 0 0 0 (sizEnd s)
  have hbusy' := (hkeep F.SIZ_STATUS_BUSY rfl (by decide)).trans hbusy
  unfold sizReady
  generalize sizEnd s = u at *
  generalize sizResult 0 0 0 u = v at *
  have hvsiz : v.siz = { s.siz with op := 0, bytes := none } := by rw [hregs]; exact hsiz
  split
  · have hyield := yieldFuller_rest v
    generalize yieldFuller v = w at *
    refine ⟨?_, ?_, ?_, ?_⟩
    · rw [hyield]
      exact hvsiz
    · rw [hyield]
      exact herr
    · rw [hyield]
      exact hbusy'
    · rw [hyield, hregs, hend.rest]
  · exact ⟨hvsiz, herr, hbusy', by rw [hregs, hend.rest]⟩

/-- The keys of a table after some records have been put in it. -/
theorem isSome_tabFind_foldl {α β : Type} (key : α → Nat) (val : α → β) (l : List α) (t : Tab β) (k : Nat) :
    (tabFind (l.foldl (fun t r => tabInsert t (key r) (val r)) t) k).isSome = true ↔
      (∃ r ∈ l, key r = k) ∨ (tabFind t k).isSome = true := by
  induction l generalizing t with
  | nil => simp
  | cons r l ih =>
    rw [List.foldl_cons, ih, tabFind_tabInsert]
    by_cases h : key r = k
    · simp [h]
    · simp [h]

/-- What staging the records of a set shows. -/
theorem sizTake_shows (rs : List SizRecord) {s : State} (hf : s.siz.fence = []) (he : s.siz.epoch = []) :
    let t := sizTake rs s
    t.siz.op = s.siz.op ∧ t.siz.inForce = s.siz.inForce ∧ t.get F.SIZ_STATUS_ERR = s.get F.SIZ_STATUS_ERR ∧
    t.get F.SIZ_STATUS_BUSY = s.get F.SIZ_STATUS_BUSY ∧
    (∀ k, (tabFind t.siz.fence k).isSome = true ↔ ∃ r ∈ rs, sizKey r.type r.instance_ = k ∧ 5 ≤ r.type) ∧
    (∀ k, (tabFind t.siz.epoch k).isSome = true ↔ ∃ r ∈ rs, sizKey r.type r.instance_ = k ∧ r.type < 5) ∧
    (t.flag F.SIZ_STATUS_PEND_FENCE = true ↔ t.siz.fence ≠ []) ∧ (t.flag F.SIZ_STATUS_PEND_EPOCH = true ↔ t.siz.epoch ≠ []) ∧
    SizWork s t := by
  obtain ⟨u, hu⟩ : ∃ u, u = s.withSiz { s.siz with
    fence := (rs.filter (fun r => decide (5 ≤ r.type))).foldl (fun t r => tabInsert t (sizKey r.type r.instance_) r.body) s.siz.fence
    epoch := (rs.filter (fun r => decide (r.type < 5))).foldl (fun t r => tabInsert t (sizKey r.type r.instance_) r.body) s.siz.epoch
    ready := rs.any (fun r => r.type == 6) && !s.flag F.CONF_MAPSTATUS_PENDING } := ⟨_, rfl⟩
  have htake : sizTake rs s = (u.set F.SIZ_STATUS_PEND_FENCE (bit (!u.siz.fence.isEmpty))).set F.SIZ_STATUS_PEND_EPOCH
      (bit (!u.siz.epoch.isEmpty)) := by
    rw [hu]
    rfl
  have hwork : SizWork s u := hu ▸ SizWork.withSiz s _
  have hsiz : (sizTake rs s).siz = u.siz := by rw [htake, siz_set, siz_set]
  have hget (f : Field) (h1 : F.SIZ_STATUS_PEND_FENCE.Apart f) (h2 : F.SIZ_STATUS_PEND_EPOCH.Apart f) :
      (sizTake rs s).get f = s.get f := by
    rw [htake, State.get_set_apart _ _ h2, State.get_set_apart _ _ h1, hu]
    rfl
  have hfence (k : Nat) : (tabFind u.siz.fence k).isSome = true ↔ ∃ r ∈ rs, sizKey r.type r.instance_ = k ∧ 5 ≤ r.type := by
    rw [hu]
    refine (isSome_tabFind_foldl (fun r : SizRecord => sizKey r.type r.instance_) (fun r => r.body) _ _ k).trans ?_
    rw [hf]
    simp only [List.mem_filter, decide_eq_true_eq, tabFind, Option.isSome_none, Bool.false_eq_true, or_false, and_assoc,
      and_comm (a := (5 ≤ _))]
  have hepoch (k : Nat) : (tabFind u.siz.epoch k).isSome = true ↔ ∃ r ∈ rs, sizKey r.type r.instance_ = k ∧ r.type < 5 := by
    rw [hu]
    refine (isSome_tabFind_foldl (fun r : SizRecord => sizKey r.type r.instance_) (fun r => r.body) _ _ k).trans ?_
    rw [he]
    simp only [List.mem_filter, decide_eq_true_eq, tabFind, Option.isSome_none, Bool.false_eq_true, or_false, and_assoc,
      and_comm (a := (_ < 5))]
  have hflag (t : Tab (List Byte)) : (!t.isEmpty) = true ↔ t ≠ [] := by cases t <;> simp
  dsimp only
  rw [hsiz]
  refine ⟨?_, ?_, hget _ (by decide) (by decide), hget _ (by decide) (by decide), hfence, hepoch, ?_, ?_, ?_⟩
  · rw [hu]
    rfl
  · rw [hu]
    rfl
  · rw [htake, State.flag_set_apart _ _ (by decide), flag_set_bit _ _ _ ⟨by decide, by decide⟩ rfl]
    exact hflag _
  · rw [htake, flag_set_bit _ _ _ ⟨by decide, by decide⟩ rfl]
    exact hflag _
  · rw [htake]
    exact (hwork.trans (.set _ _ rfl)).trans (.set _ _ rfl)

end Sys2Proof.Machine
end

section
/-! SUPPORT. Sizing sets as commands, and the copies in flash (spec/19_sizing_records.md R541, R543). -/

namespace Sys2Proof.Machine

/-! ## Flash -/

section
variable {s : State}

theorem flashWrite_eq (h : s.pins.flashAbsent = false) (a : Nat) (bs : List Byte) :
    s.flashWrite a bs = { s with flash := cellWrite flashBlank s.flash a bs } := by
  unfold State.flashWrite
  exact if_neg (by rw [h]; decide)

theorem flashErase_eq (h : s.pins.flashAbsent = false) (a n : Nat) : s.flashErase a n = { s with flash := cellClear s.flash a n } := by
  unfold State.flashErase
  exact if_neg (by rw [h]; decide)

/-- What a write of flash that is there brings. -/
theorem flashWrite_shows (h : s.pins.flashAbsent = false) (a : Nat) (bs : List Byte) :
    (s.flashWrite a bs).flashRead a bs.length = bs ∧
    (∀ k, k < a ∨ a + bs.length ≤ k → cellGet flashBlank (s.flashWrite a bs).flash k = cellGet flashBlank s.flash k) ∧
    s.flashWrite a bs = { s with flash := (s.flashWrite a bs).flash } := by
  rw [flashWrite_eq h]
  refine ⟨?_, fun k hk => ?_, rfl⟩
  · unfold State.flashRead
    exact (if_neg (by rw [h]; decide)).trans (cellRead_cellWrite flashBlank s.flash a bs)
  · show cellGet flashBlank (cellWrite flashBlank s.flash a bs) k = _
    rw [cellGet_cellWrite, runByte, if_neg (by omega)]

end

/-! ## The commands of staging -/

theorem sizingSetIsStaged : Claims.SizingSetIsStaged := by
  intro who bs set code s
  refine ⟨fun hperm => ⟨fun hm hb hw hl => ?_, fun hm => ?_, fun hm hbw => ?_, fun hm hb hw hl => ?_, fun hb => ?_, fun hb => ?_⟩,
    fun hlive hop => ⟨fun hbad => ?_, fun hbs hcheck hrec hf he => ?_⟩, fun hlive hop => ?_⟩
  · obtain ⟨hsiz, hbusy, hwork⟩ := sizBegin_shows { s.siz with op := 1, bytes := s.sizSource } s
    refine ⟨_, whenLive_answers (f := sizStage) hperm (sizStage_takes hm (not_or.mpr ⟨hb, hw⟩) hl), ?_⟩
    generalize State.set _ F.SIZ_STATUS_BUSY 1 = t at *
    exact ⟨hsiz, (State.get_emit _ _ _).trans hbusy, fun a ha => (State.word_emit _ _ _).trans (hwork.word a ha),
      congrArg (fun u : State => u.emit (.status who R.SIZ_CTRL .ok)) hwork.rest⟩
  · exact whenLive_answers (f := sizStage) hperm (sizStage_mode hm)
  · exact whenLive_answers (f := sizStage) hperm (sizStage_busy hm hbw)
  · exact whenLive_answers (f := sizStage) hperm (sizStage_empty hm (not_or.mpr ⟨hb, hw⟩) hl)
  · obtain ⟨hsiz, hfence, hepoch, hwork⟩ := sizDropped_shows s
    have hdrop : sizDiscard s = (.ok, sizDropped s) := if_neg hb
    refine ⟨_, whenLive_answers (f := sizDiscard) hperm hdrop, ?_⟩
    generalize sizDropped s = t at *
    exact ⟨hsiz, (State.get_emit _ _ _).trans hfence, (State.get_emit _ _ _).trans hepoch,
      fun a ha => (State.word_emit _ _ _).trans (hwork.word a ha),
      congrArg (fun u : State => u.emit (.status who R.SIZ_CTRL .ok)) hwork.rest⟩
  · exact whenLive_answers (f := sizDiscard) hperm (if_pos hb)
  · obtain ⟨hsiz, hbusy, hend⟩ := sizEnd_shows s
    have hfail (c : Nat) (hstep : sizStageDone s = sizReject c 0 0 (sizResult c 0 0 (sizEnd s))) :
        Completes (exec .sizingStageDone s) (fun t => t.siz = { s.siz with op := 0, bytes := none } ∧
          t.get F.SIZ_STATUS_BUSY = 0 ∧ t.get F.SIZ_STATUS_ERR = c % 16 ∧ t.out = s.out ∧ SameMemory s t) := by
      obtain ⟨hsiz', herr, hkeep, -, hrest⟩ := sizFails_shows c (sizEnd s)
      rw [← hstep] at hsiz' herr hkeep hrest
      refine ⟨_, whenLive_next _ sizStageDone hlive, hsiz'.trans hsiz, (hkeep _ rfl (by decide)).trans hbusy, herr, ?_, ?_⟩
      · rw [hrest, hend.rest]
      · rw [hrest, hend.rest]
        exact sameMemory_of_eq rfl rfl rfl rfl
    rcases hbad with hnone | ⟨hsome, hcode, h0⟩
    · rw [if_pos hnone]
      exact hfail 8 (sizStageDone_none hop hnone)
    · rw [if_neg (by rw [hsome]; exact Option.some_ne_none _)]
      exact hfail code (sizStageDone_bad hop hsome hcode h0)
  · obtain ⟨hsiz, herr, hbusy, hrest⟩ := sizReady_shows (sizSetRecords set) s
    have hstep := sizStageDone_good hop hbs hcheck hrec
    generalize sizReady (sizSetRecords set) s = u at *
    obtain ⟨hop', hforce, herr', hbusy', hfence, hepoch, hpf, hpe, hwork⟩ := sizTake_shows (sizSetRecords set) (s := u)
      (by rw [hsiz]; exact hf) (by rw [hsiz]; exact he)
    refine ⟨_, (whenLive_next _ sizStageDone hlive).trans (congrArg _ hstep), hop'.trans (by rw [hsiz]), hforce.trans (by rw [hsiz]),
      herr'.trans herr, hbusy'.trans hbusy, hfence, hepoch, hpf, hpe, ?_, ?_⟩
    · rw [hwork.rest, hrest]
    · rw [hwork.rest, hrest]
      exact sameMemory_of_eq rfl rfl rfl rfl
  · exact (whenLive_next _ sizStageDone hlive).trans (congrArg _ (sizStageDone_idle hop))

/-! ## WRITE (R543) -/

/-- The set in force as a WRITE programs it. -/
def State.sizImage (s : State) : List Byte :=
  sizBuild (((s.word R.SIZ_SEQ).toNat + 1) % 2 ^ 32) (s.siz.inForce.map (fun e => (e.1 / 16, e.1 % 16, e.2)))

/-- The state in which a WRITE begins: the other copy erased, the set built. -/
def sizErased (s : State) : State :=
  (((s.flashErase (s.sizOther * 0x800000) 0x800000).withSiz { (s.flashErase (s.sizOther * 0x800000) 0x800000).siz with
    op := 2, bytes := some s.sizImage }).set F.SIZ_STATUS_BUSY 1)

section
variable {who : Requester} {s : State}

theorem sizWrite_privilege (h : s.privilege who < 3) : sizWrite who s = (.privilege, s) := if_pos h

theorem sizWrite_mode (hp : 3 ≤ s.privilege who) (h : ¬ (s.modeNow = 0x4 ∨ s.modeNow = 0x5)) : sizWrite who s = (.mode, s) :=
  (if_neg (Nat.not_lt.mpr hp)).trans (if_pos (not_or.mp h))

theorem sizWrite_busy (hp : 3 ≤ s.privilege who) (h : s.modeNow = 0x4 ∨ s.modeNow = 0x5) (hb : s.flag F.SIZ_STATUS_BUSY = true) :
    sizWrite who s = (.busy, s) :=
  (if_neg (Nat.not_lt.mpr hp)).trans ((if_neg fun hn => h.elim hn.1 hn.2).trans (if_pos hb))

theorem sizWrite_takes (hp : 3 ≤ s.privilege who) (h : s.modeNow = 0x4 ∨ s.modeNow = 0x5)
    (hb : s.flag F.SIZ_STATUS_BUSY = false) : sizWrite who s = (.ok, sizErased s) := by
  unfold sizWrite
  rw [if_neg (Nat.not_lt.mpr hp), if_neg fun hn => h.elim hn.1 hn.2, hb]
  rfl

/-- What the begin of a WRITE shows. -/
theorem sizErased_shows (hf : s.pins.flashAbsent = false) :
    (sizErased s).siz = { s.siz with op := 2, bytes := some s.sizImage } ∧ (sizErased s).get F.SIZ_STATUS_BUSY = 1 ∧
    (∀ a, a ≠ R.SIZ_STATUS → (sizErased s).word a = s.word a) ∧
    (∀ a, cellGet flashBlank (sizErased s).flash a =
      if s.sizOther * 0x800000 ≤ a ∧ a < s.sizOther * 0x800000 + 0x800000 then 0xFF else cellGet flashBlank s.flash a) ∧
    sizErased s = { s with regs := (sizErased s).regs, siz := (sizErased s).siz, flash := (sizErased s).flash } := by
  obtain ⟨base, hbase⟩ : ∃ base, base = s.sizOther * 0x800000 := ⟨_, rfl⟩
  obtain ⟨size, hsize⟩ : ∃ size, size = 0x800000 := ⟨_, rfl⟩
  obtain ⟨u, hu⟩ : ∃ u : State, u = { s with flash := cellClear s.flash base size } := ⟨_, rfl⟩
  have herased : sizErased s = (u.withSiz { u.siz with op := 2, bytes := some s.sizImage }).set F.SIZ_STATUS_BUSY 1 := by
    unfold sizErased
    rw [flashErase_eq hf, ← hbase, ← hsize, ← hu]
  have hsiz : u.siz = s.siz := by rw [hu]
  obtain ⟨hnew, hbusy, hwork⟩ := sizBegin_shows { u.siz with op := 2, bytes := some s.sizImage } u
  rw [← herased, hsiz] at *
  rw [← hbase, ← hsize]
  refine ⟨hnew, hbusy, fun a ha => (hwork.word a ha).trans (by rw [hu]; rfl), fun a => ?_, ?_⟩
  · have hflash : (sizErased s).flash = cellClear s.flash base size := by rw [hwork.rest, hu]
    rw [hflash]
    exact cellGet_cellClear flashBlank s.flash base size a
  · rw [hwork.rest, hu]

end

/-! ## The end of WRITE (R539, R543) -/

theorem sizWriteDone_idle {agrees : Bool} {s : State} (h : s.siz.op ≠ 2) : sizWriteDone agrees s = s := by
  unfold sizWriteDone
  split
  next hop _ => exact absurd hop h
  next => rfl

/-- A copy that reads back right takes force. -/
def sizProgrammed (copy : Nat) (bs : List Byte) (s : State) : State :=
  sizResult 0 0 0 (((s.flashWrite (copy * 0x800000) bs).set F.SIZ_STATUS_COPY (copy + 1)).setWord R.SIZ_SEQ
    (BitVec.ofNat 32 (leAt bs 8 4)))

theorem sizWriteDone_agrees {s : State} {bs : List Byte} (h : s.siz.op = 2) (hb : s.siz.bytes = some bs) :
    sizWriteDone true s = sizProgrammed s.sizOther bs (sizEnd s) := by
  unfold sizWriteDone
  rw [h, hb]
  rfl

theorem sizWriteDone_differs {s : State} {bs : List Byte} (h : s.siz.op = 2) (hb : s.siz.bytes = some bs) :
    sizWriteDone false s = sizReject 9 0 0 (sizResult 9 0 0 (((sizEnd s).drawBytes bs.length).2.flashWrite (s.sizOther * 0x800000)
      ((sizEnd s).drawBytes bs.length).1)) := by
  unfold sizWriteDone
  rw [h, hb]
  rfl

theorem sizOther_lt (s : State) : s.sizOther < 2 := by
  unfold State.sizOther
  split <;> decide

/-- What a copy that takes force shows: u is the state at the end of the operation. -/
theorem sizProgrammed_shows {copy : Nat} (hc : copy < 2) (bs : List Byte) {u : State} (hf : u.pins.flashAbsent = false) :
    let t := sizProgrammed copy bs u
    t.siz = u.siz ∧ t.get F.SIZ_STATUS_BUSY = u.get F.SIZ_STATUS_BUSY ∧
    (∀ a, a < copy * 0x800000 ∨ copy * 0x800000 + bs.length ≤ a → cellGet flashBlank t.flash a = cellGet flashBlank u.flash a) ∧
    t.hbm = u.hbm ∧ t.sram = u.sram ∧ t.out = u.out ∧ t.flashRead (copy * 0x800000) bs.length = bs ∧
    t.get F.SIZ_STATUS_COPY = copy + 1 ∧ t.word R.SIZ_SEQ = BitVec.ofNat 32 (leAt bs 8 4) ∧ t.get F.SIZ_STATUS_ERR = 0 := by
  obtain ⟨base, hbase⟩ : ∃ base, base = copy * 0x800000 := ⟨_, rfl⟩
  obtain ⟨v, hv⟩ : ∃ v, v = u.flashWrite base bs := ⟨_, rfl⟩
  obtain ⟨w, hw⟩ : ∃ w, w = (v.set F.SIZ_STATUS_COPY (copy + 1)).setWord R.SIZ_SEQ (BitVec.ofNat 32 (leAt bs 8 4)) := ⟨_, rfl⟩
  obtain ⟨hread, hkeep, hrest⟩ := flashWrite_shows hf base bs
  rw [← hv] at hread hkeep hrest
  have hwregs : OnRegs v w := hw ▸ (OnRegs.set _ _ _).trans (.setWord _ _ _)
  obtain ⟨herr, hfields, hword, hregs⟩ := sizResult_shows 0 0 0 w
  have hprog : sizProgrammed copy bs u = sizResult 0 0 0 w := by
    unfold sizProgrammed
    rw [← hbase, ← hv, ← hw]
  rw [← hprog] at herr hfields hword hregs
  have hall := hwregs.trans hregs
  have hstatus (f : Field) (h : f.addr = R.SIZ_STATUS) : w.get f = (v.set F.SIZ_STATUS_COPY (copy + 1)).get f := by
    rw [hw]
    exact State.get_of_word (State.word_setWord_ne _ _ (by rw [h]; decide))
  have hvword (a : Nat) : v.word a = u.word a := by rw [hrest]; rfl
  dsimp only
  rw [← hbase]
  refine ⟨?_, ?_, fun a ha => ?_, ?_, ?_, ?_, ?_, ?_, ?_, herr⟩
  · rw [hall, hrest]
  · exact (hfields _ rfl (by decide)).trans ((hstatus _ rfl).trans ((State.get_set_apart _ _ (by decide)).trans
      (State.get_of_word (hvword _))))
  · rw [hall]
    exact hkeep a ha
  · rw [hall, hrest]
  · rw [hall, hrest]
  · rw [hall, hrest]
  · rw [hall]
    exact hread
  · exact (hfields _ rfl (by decide)).trans ((hstatus _ rfl).trans (State.get_set_fits _ (show copy + 1 < 2 ^ 2 by omega)))
  · exact (hword _ (by decide) (by decide)).trans (hw ▸ State.word_setWord_same _ _ _)

/-- What a copy that does not read back right shows: u is the state at the end of the operation. -/
theorem sizSpoilt_shows (copy : Nat) (bs : List Byte) {u : State} (hf : u.pins.flashAbsent = false) :
    let t := sizReject 9 0 0 (sizResult 9 0 0 ((u.drawBytes bs.length).2.flashWrite (copy * 0x800000) (u.drawBytes bs.length).1))
    t.siz = u.siz ∧ t.get F.SIZ_STATUS_BUSY = u.get F.SIZ_STATUS_BUSY ∧
    (∀ a, a < copy * 0x800000 ∨ copy * 0x800000 + bs.length ≤ a → cellGet flashBlank t.flash a = cellGet flashBlank u.flash a) ∧
    t.hbm = u.hbm ∧ t.sram = u.sram ∧ t.out = u.out ∧ t.get F.SIZ_STATUS_COPY = u.get F.SIZ_STATUS_COPY ∧
    t.word R.SIZ_SEQ = u.word R.SIZ_SEQ ∧ t.get F.SIZ_STATUS_ERR = 9 := by
  obtain ⟨base, hbase⟩ : ∃ base, base = copy * 0x800000 := ⟨_, rfl⟩
  obtain ⟨free, hfree⟩ : ∃ free, free = (u.drawBytes bs.length).1 := ⟨_, rfl⟩
  have hlen : free.length = bs.length := by
    rw [hfree]
    show ((upto u.free bs.length).map Config.freeByte).length = _
    rw [List.length_map, upto_eq_range', List.length_range']
  obtain ⟨v, hv⟩ : ∃ v : State, v = { u with free := u.free + bs.length } := ⟨_, rfl⟩
  have hdraw : (u.drawBytes bs.length).2 = v := by rw [hv]; rfl
  obtain ⟨-, hkeep, hrest⟩ := flashWrite_shows (s := v) (by rw [hv]; exact hf) base free
  rw [← hbase, hdraw, ← hfree]
  obtain ⟨w, hw⟩ : ∃ w, w = v.flashWrite base free := ⟨_, rfl⟩
  rw [← hw] at hkeep hrest ⊢
  obtain ⟨hsiz, herr, hfields, hseq, htrest⟩ := sizFails_shows 9 w
  generalize sizReject 9 0 0 (sizResult 9 0 0 w) = t at *
  have hwword (a : Nat) : w.word a = u.word a := by rw [hrest, hv]; rfl
  refine ⟨?_, ?_, fun a ha => ?_, ?_, ?_, ?_, ?_, hseq.trans (hwword _), herr⟩
  · rw [hsiz, hrest, hv]
  · exact (hfields _ rfl (by decide)).trans (State.get_of_word (hwword _))
  · have hflash : t.flash = w.flash := by rw [htrest]
    rw [hflash, hkeep a (by omega), hv]
  · rw [htrest, hrest, hv]
  · rw [htrest, hrest, hv]
  · rw [htrest, hrest, hv]
  · exact (hfields _ rfl (by decide)).trans (State.get_of_word (hwword _))

theorem sizingSetIsWritten : Claims.SizingSetIsWritten := by
  intro who bs agrees s
  refine ⟨fun hperm => ⟨fun hp hm hb hf => ?_, fun hp => ?_, fun hp hm => ?_, fun hp hm hb => ?_⟩, fun hlive hop hbs hf => ?_,
    fun hlive hop => ?_⟩
  · obtain ⟨hsiz, hbusy, hword, hflash, hrest⟩ := sizErased_shows (s := s) hf
    refine ⟨_, whenLive_answers (f := sizWrite who) hperm (sizWrite_takes hp hm hb), ?_⟩
    generalize sizErased s = t at *
    exact ⟨hsiz, (State.get_emit _ _ _).trans hbusy, fun a ha => (State.word_emit _ _ _).trans (hword a ha), hflash,
      congrArg (fun u : State => u.emit (.status who R.SIZ_CTRL .ok)) hrest⟩
  · exact whenLive_answers (f := sizWrite who) hperm (sizWrite_privilege hp)
  · exact whenLive_answers (f := sizWrite who) hperm (sizWrite_mode hp hm)
  · exact whenLive_answers (f := sizWrite who) hperm (sizWrite_busy hp hm hb)
  · obtain ⟨hsiz, hbusy, hend⟩ := sizEnd_shows s
    have hpins : (sizEnd s).pins.flashAbsent = false := by rw [hend.rest]; exact hf
    have hflash (a : Nat) : cellGet flashBlank (sizEnd s).flash a = cellGet flashBlank s.flash a := by rw [hend.rest]
    have hhbm : (sizEnd s).hbm = s.hbm := by rw [hend.rest]
    have hsram : (sizEnd s).sram = s.sram := by rw [hend.rest]
    have hout : (sizEnd s).out = s.out := by rw [hend.rest]
    have hcopy : (sizEnd s).get F.SIZ_STATUS_COPY = s.get F.SIZ_STATUS_COPY := State.get_set_apart _ _ (by decide)
    have hseq := hend.word R.SIZ_SEQ (by decide)
    cases agrees with
    | true =>
      have hstep := sizWriteDone_agrees hop hbs
      generalize sizEnd s = u at *
      obtain ⟨hs, hb, hk, hh, hr, ho, hread, hc, hq, he⟩ := sizProgrammed_shows (sizOther_lt s) bs hpins
      exact ⟨_, (whenLive_next _ (sizWriteDone true) hlive).trans (congrArg _ hstep), hs.trans hsiz, hb.trans hbusy,
        fun a ha => (hk a ha).trans (hflash a), hh.trans hhbm, hr.trans hsram, ho.trans hout, fun _ => ⟨hread, hc, hq, he⟩,
        fun h => absurd h (by decide)⟩
    | false =>
      have hstep := sizWriteDone_differs hop hbs
      generalize sizEnd s = u at *
      obtain ⟨hs, hb, hk, hh, hr, ho, hc, hq, he⟩ := sizSpoilt_shows s.sizOther bs hpins
      exact ⟨_, (whenLive_next _ (sizWriteDone false) hlive).trans (congrArg _ hstep), hs.trans hsiz, hb.trans hbusy,
        fun a ha => (hk a ha).trans (hflash a), hh.trans hhbm, hr.trans hsram, ho.trans hout, fun h => absurd h (by decide),
        fun _ => ⟨hc.trans hcopy, hq.trans hseq, he⟩⟩
  · exact (whenLive_next _ (sizWriteDone agrees) hlive).trans (congrArg _ (sizWriteDone_idle hop))

/-- Settles O58: the staging, discarding and writing of sizing sets. -/
theorem sizingSetsStageAndWrite : Obligations.SizingSetsStageAndWrite := ⟨sizingSetIsStaged, sizingSetIsWritten⟩

end Sys2Proof.Machine
end

section
/-! SUPPORT. What frames on the Afloth links change: the links' queues and a count of dropped frames
(spec/13_afloth_tiling.md R416 to R419). -/

namespace Sys2Proof.Machine

/-! ## Link traffic -/

/-- The registers that count the frames dropped on an Afloth link that is not UP. -/
def linkDropAddr (a : Nat) : Bool := decide (0x700000 ≤ a ∧ a < 0x700100 ∧ a % 0x40 = 0xC)

/-- Frames have been heard, sent or dropped on the Afloth links, and nothing else has happened. -/
structure LinkTraffic (s t : State) : Prop where
  rest : t = { s with links := t.links, out := t.out, regs := t.regs, free := t.free,
                      afl := { s.afl with sent := t.afl.sent, seen := t.afl.seen } }
  word : ∀ a, linkDropAddr a = false → t.word a = s.word a
  out : s.out ⊆ t.out

theorem LinkTraffic.refl (s : State) : LinkTraffic s s := ⟨rfl, fun _ _ => rfl, List.Subset.refl _⟩

theorem LinkTraffic.trans {s t u : State} (h : LinkTraffic s t) (k : LinkTraffic t u) : LinkTraffic s u :=
  ⟨by rw [k.rest, h.rest], fun a ha => (k.word a ha).trans (h.word a ha), List.Subset.trans h.out k.out⟩

theorem LinkTraffic.ite {s t u : State} {p : Prop} [Decidable p] (h : LinkTraffic s t) (k : LinkTraffic s u) :
    LinkTraffic s (if p then t else u) := by split <;> assumption

theorem LinkTraffic.foldl {s t : State} (f : State → Nat → State) (l : List Nat) (h : LinkTraffic s t)
    (hf : ∀ u, ∀ k ∈ l, LinkTraffic u (f u k)) : LinkTraffic s (l.foldl f t) := by
  induction l generalizing t with
  | nil => exact h
  | cons k l ih => exact ih (h.trans (hf t k (.head _))) fun u j hj => hf u j (.tail _ hj)

section
variable {s t : State} (h : LinkTraffic s t)
include h

theorem LinkTraffic.get {f : Field} (hf : linkDropAddr f.addr = false) : t.get f = s.get f := State.get_of_word (h.word _ hf)

theorem LinkTraffic.flag {f : Field} (hf : linkDropAddr f.addr = false) : t.flag f = s.flag f := State.flag_of_word (h.word _ hf)

theorem LinkTraffic.panel : t.panel = s.panel := by rw [h.rest]

theorem LinkTraffic.conf : t.conf = s.conf := by rw [h.rest]

theorem LinkTraffic.frame (n : Nat) : t.frame n = s.frame n := by
  unfold State.frame
  rw [h.conf]

theorem LinkTraffic.evt : t.evt = s.evt := by rw [h.rest]

theorem LinkTraffic.now : t.now = s.now := by rw [h.rest]

theorem LinkTraffic.q9 : t.q9 = s.q9 := by rw [h.rest]; rfl

theorem LinkTraffic.afl : t.afl = { s.afl with sent := t.afl.sent, seen := t.afl.seen } := by
  conv_lhs => rw [h.rest]

theorem LinkTraffic.linkUp {n : Nat} (hn : n < 5) : t.linkUp n = s.linkUp n := by
  have hf : ∀ n, n < 5 → linkDropAddr (F.LNK_STATUS_STATE n).addr = false := by decide
  unfold State.linkUp
  rw [h.get (hf n hn)]

theorem LinkTraffic.tileId : t.tileId = s.tileId := h.get (by decide)

theorem LinkTraffic.topo : t.topo = s.topo := h.get (by decide)

theorem LinkTraffic.leader : t.leader = s.leader := congrArg (· == 0) h.tileId

theorem LinkTraffic.tiled : t.tiled = s.tiled := congrArg (· != 0) h.topo

theorem LinkTraffic.edgeNear (n : Nat) : t.edgeNear n = s.edgeNear n := by
  unfold State.edgeNear State.tePeriod
  rw [h.panel, h.word R.PANEL_TEPER (by decide)]

theorem LinkTraffic.isPending {x : Nat} (hx : x < 1024) : t.isPending x = s.isPending x := by
  unfold State.isPending
  rw [h.evt, h.flag]
  unfold linkDropAddr sourceField R.EVT_PEND
  exact decide_eq_false (by dsimp only; omega)

end

/-! ## Hearing and sending -/

theorem setLink_traffic (s : State) (n : Nat) (u : LinkUnit) : LinkTraffic s (s.setLink n u) :=
  ⟨rfl, fun _ _ => rfl, List.Subset.refl _⟩

theorem emit_traffic (s : State) (o : Output) : LinkTraffic s (s.emit o) := ⟨rfl, fun _ _ => rfl, List.subset_cons_self _ _⟩

theorem aflEmit_up {k : Nat} (bytes : List Byte) {s : State} (h : s.linkUp (k + 1) = true) :
    ∃ links, aflEmit k bytes s = { s with links := links, out := .afloth k bytes :: s.out } := by
  unfold aflEmit
  rw [if_pos h]
  exact ⟨_, rfl⟩

theorem aflEmit_traffic {k : Nat} (hk : k < 4) (bytes : List Byte) (s : State) : LinkTraffic s (aflEmit k bytes s) := by
  by_cases hup : s.linkUp (k + 1) = true
  · obtain ⟨links, hemit⟩ := aflEmit_up bytes hup
    rw [hemit]
    exact ⟨rfl, fun _ _ => rfl, List.subset_cons_self _ _⟩
  · have hdrop : ∀ k, k < 4 → linkDropAddr (F.LNK_DROP_COUNT (k + 1)).addr = true := by decide
    unfold aflEmit
    rw [if_neg hup]
    refine ⟨rfl, fun a ha => s.word_bump_ne fun e => ?_, List.Subset.refl _⟩
    rw [← e, hdrop k hk] at ha
    cases ha

theorem nextSeq_traffic (type : Nat) (s : State) : LinkTraffic s (nextSeq type s).2 := by
  unfold nextSeq
  split <;> exact ⟨rfl, fun _ _ => rfl, List.Subset.refl _⟩

theorem nextSeq_regs (type : Nat) (s : State) : (nextSeq type s).2.regs = s.regs := by
  unfold nextSeq
  split <;> rfl

theorem nextSeq_out (type : Nat) (s : State) : (nextSeq type s).2.out = s.out := by
  unfold nextSeq
  split <;> rfl

/-- A frame on a list of links, as `aflSend` sends it on each. -/
def sendOne (type : Nat) (bytes : List Byte) (s : State) (k : Nat) : State :=
  if type ≠ 6 ∧ (s.get F.AFL_TILE_STATUS_WIRING).testBit k then s else aflEmit k bytes s

theorem aflSend_eq (type param : Nat) (data : List Byte) (links : List Nat) (s : State) :
    aflSend type param data links s =
      links.foldl (sendOne type (aflFrame type s.tileId 0 (nextSeq type s).1 param data)) (nextSeq type s).2 := by
  rw [← (nextSeq_traffic type s).tileId]
  rfl

theorem sendOne_traffic (type : Nat) (bytes : List Byte) (s : State) {k : Nat} (hk : k < 4) :
    LinkTraffic s (sendOne type bytes s k) := .ite (.refl s) (aflEmit_traffic hk bytes s)

/-- Each link that may carry the frame carries it. -/
theorem foldl_sendOne (type : Nat) (bytes : List Byte) {links : List Nat} (hl : ∀ k ∈ links, k < 4) (s : State) :
    LinkTraffic s (links.foldl (sendOne type bytes) s) ∧
    ∀ k ∈ links, s.linkUp (k + 1) = true → (type = 6 ∨ (s.get F.AFL_TILE_STATUS_WIRING).testBit k = false) →
      .afloth k bytes ∈ (links.foldl (sendOne type bytes) s).out := by
  induction links generalizing s with
  | nil => exact ⟨.refl s, fun k hk => absurd hk List.not_mem_nil⟩
  | cons j links ih =>
    have hone := sendOne_traffic type bytes s (hl j (.head _))
    obtain ⟨hwork, hsent⟩ := ih (fun k hk => hl k (.tail _ hk)) (sendOne type bytes s j)
    refine ⟨hone.trans hwork, fun k hk hup hfree => ?_⟩
    rcases List.mem_cons.mp hk with rfl | hk
    · refine hwork.out ?_
      obtain ⟨u, hemit⟩ := aflEmit_up bytes hup
      unfold sendOne
      rw [if_neg (by rintro ⟨h6, hw⟩; exact hfree.elim h6 (by rw [hw]; decide)), hemit]
      exact .head _
    · have hk4 := hl k (.tail _ hk)
      exact hsent k hk ((hone.linkUp (by omega)).trans hup) (by rwa [hone.get (by decide)])

theorem aflSend_traffic (type param : Nat) (data : List Byte) {links : List Nat} (hl : ∀ k ∈ links, k < 4) (s : State) :
    LinkTraffic s (aflSend type param data links s) := by
  rw [aflSend_eq]
  exact (nextSeq_traffic type s).trans (foldl_sendOne type _ hl _).1

theorem aflSend_sends (type param : Nat) (data : List Byte) {links : List Nat} (hl : ∀ k ∈ links, k < 4) {s : State} :
    ∃ seq, ∀ k ∈ links, s.linkUp (k + 1) = true → (type = 6 ∨ (s.get F.AFL_TILE_STATUS_WIRING).testBit k = false) →
      .afloth k (aflFrame type s.tileId 0 seq param data) ∈ (aflSend type param data links s).out := by
  rw [aflSend_eq]
  refine ⟨(nextSeq type s).1, fun k hk hup hfree => ?_⟩
  have hseq := nextSeq_traffic type s
  have hk4 := hl k hk
  exact (foldl_sendOne type _ hl _).2 k hk ((hseq.linkUp (by omega)).trans hup) (by rwa [hseq.get (by decide)])

/-- A frame on links that are UP is counted as dropped on none. -/
theorem foldl_sendOne_regs (type : Nat) (bytes : List Byte) {links : List Nat} {s : State}
    (hl : ∀ k ∈ links, k < 4 ∧ s.linkUp (k + 1) = true) : (links.foldl (sendOne type bytes) s).regs = s.regs := by
  induction links generalizing s with
  | nil => rfl
  | cons j links ih =>
    obtain ⟨hj4, hup⟩ := hl j (.head _)
    have hone := sendOne_traffic type bytes s hj4
    have hregs : (sendOne type bytes s j).regs = s.regs := by
      obtain ⟨u, hemit⟩ := aflEmit_up bytes hup
      unfold sendOne
      split
      · rfl
      · rw [hemit]
    refine (ih fun k hk => ?_).trans hregs
    obtain ⟨hk4, hkup⟩ := hl k (.tail _ hk)
    exact ⟨hk4, (hone.linkUp (by omega)).trans hkup⟩

theorem aflSend_regs (type param : Nat) (data : List Byte) {links : List Nat} {s : State}
    (hl : ∀ k ∈ links, k < 4 ∧ s.linkUp (k + 1) = true) : (aflSend type param data links s).regs = s.regs := by
  have hseq := nextSeq_traffic type s
  rw [aflSend_eq]
  refine (foldl_sendOne_regs type _ fun k hk => ?_).trans (nextSeq_regs type s)
  obtain ⟨hk4, hup⟩ := hl k hk
  exact ⟨hk4, (hseq.linkUp (by omega)).trans hup⟩

theorem outward_lt (s : State) : ∀ k ∈ s.outward, k < 4 := by
  intro k hk
  have hlinks : k ∈ outwardLinks s.topo s.tileId := List.mem_of_mem_filter hk
  unfold outwardLinks at hlinks
  split_ifs at hlinks <;> simp at hlinks <;> omega

theorem inwardLink_lt (s : State) : s.inwardLink < 4 := by
  unfold State.inwardLink
  split_ifs <;> decide

theorem aflRelay_traffic (type origin hops seq : Nat) (data : List Byte) (s : State) :
    LinkTraffic s (aflRelay type origin hops seq data s) := by
  have hlinks : ∀ k ∈ (if origin = 0 then s.outward else [s.inwardLink]), k < 4 := by
    split
    · exact outward_lt s
    · intro k hk
      rw [List.mem_singleton.mp hk]
      exact inwardLink_lt s
  unfold aflRelay
  exact .ite (.refl s) (.foldl _ _ (.refl s) fun u k hk => .ite (aflEmit_traffic (hlinks k hk) _ u) (.refl u))

/-! ## Frames that are accepted -/

/-- A frame of link k has been heard and accepted. -/
def acceptFrame (k : Nat) (x : AflFrame) (s : State) : State :=
  { linkHeard (k + 1) s with afl := { s.afl with seen := tabInsert s.afl.seen (16 * x.origin + x.type) (some x.seq) } }

theorem acceptFrame_traffic (k : Nat) (x : AflFrame) (s : State) : LinkTraffic s (acceptFrame k x s) :=
  ⟨rfl, fun _ _ => rfl, List.Subset.refl _⟩

section
variable {s : State} {k : Fin 4} {frame : List Byte} {x : AflFrame} {want : AflFrame → Bool}

/-- A good frame of a kind that a command takes reaches the command's effect, unless it is an old one. -/
theorem aflTake_good (f : AflFrame → State → State) (hup : s.linkUp (k.val + 1) = true)
    (hwired : (s.get F.AFL_TILE_STATUS_WIRING).testBit k.val = false) (hgood : aflParse frame = some x) (hwant : want x = true)
    (hnew : x.type = 4 ∨ ∀ n, tabGet none s.afl.seen (16 * x.origin + x.type) = some n → newerThan x.seq n = true) :
    aflTake k.val false frame want f s = f x (acceptFrame k.val x s) := by
  unfold aflTake
  rw [if_neg (by simp [hup]), hgood]
  dsimp only
  have hold : tabGet none (linkHeard (k.val + 1) s).afl.seen (16 * x.origin + x.type) =
      tabGet none s.afl.seen (16 * x.origin + x.type) := rfl
  have hw : (linkHeard (k.val + 1) s).get F.AFL_TILE_STATUS_WIRING = s.get F.AFL_TILE_STATUS_WIRING := rfl
  rw [hold, hw, hwired, hwant]
  refine if_neg ?_
  rintro (h | ⟨-, h⟩ | ⟨h4, h⟩)
  · exact h rfl
  · cases h
  · cases hlast : tabGet none s.afl.seen (16 * x.origin + x.type) with
    | none =>
      rw [hlast] at h
      cases h
    | some n =>
      rw [hlast] at h
      dsimp only at h
      rw [hnew.resolve_left h4 n hlast] at h
      cases h

theorem AflHeard.take (h : AflHeard s k frame x) (f : AflFrame → State → State) (hwant : want x = true) :
    whenLive s (aflTake k.val false frame want f) = .next (f x (acceptFrame k.val x s)) :=
  (whenLive_next s _ h.running).trans (congrArg _ (aflTake_good f h.up h.wired h.good hwant (.inr h.newer)))

/-- A frame that is relayed has its effect first; f keeps the wiring. -/
theorem AflHeard.relayed (h : AflHeard s k frame x) (f : AflFrame → State → State) (hwant : want x = true) :
    ∃ t, LinkTraffic (f x (acceptFrame k.val x s)) t ∧
      whenLive s (aflTake k.val false frame want (aflRelayed f)) = .next t := by
  refine ⟨_, ?_, h.take (aflRelayed f) hwant⟩
  unfold aflRelayed
  rw [if_neg (by rw [(acceptFrame_traffic k.val x s).tiled, h.tiled]; decide)]
  exact aflRelay_traffic _ _ _ _ _ _

end

end Sys2Proof.Machine
end

section
/-! SUPPORT. Membership and seam strips (spec/13_afloth_tiling.md R418, R420, R421, R429, R431). -/

namespace Sys2Proof.Machine

/-! ## HELLO and EVENT as they are sent -/

section
variable {s : State}

theorem aflEventSend_shows (htiled : s.tiled = true) (hlead : s.leader = false) (hnew : s.pendingWords ≠ s.afl.sentWords)
    (hok : s.aflLinkOk s.inwardLink = true) :
    (eventSend s).afl.sentWords = s.pendingWords ∧ (eventSend s).afl.sentAt = some s.now ∧ (eventSend s).regs = s.regs ∧
    ∃ seq, (eventSend s).out = .afloth s.inwardLink (aflFrame 5 s.tileId 0 seq 0
      (s.pendingWords.flatMap (fun w => leBytes w.toNat 4))) :: s.out := by
  obtain ⟨hup, hwired⟩ : s.linkUp (s.inwardLink + 1) = true ∧ (s.get F.AFL_TILE_STATUS_WIRING).testBit s.inwardLink = false := by
    simpa [State.aflLinkOk] using hok
  have hsend : eventSend s = aflSend 5 0 (s.pendingWords.flatMap fun w => leBytes w.toNat 4) [s.inwardLink]
      { s with afl := { s.afl with sentWords := s.pendingWords, sentAt := some s.now } } := by
    unfold eventSend
    dsimp only
    refine if_neg ?_
    rintro (h | h | h)
    · exact h htiled
    · rw [hlead] at h
      cases h
    · refine h ?_
      cases s.afl.sentAt with
      | none => rfl
      | some t => simp [hnew]
  rw [hsend]
  obtain ⟨u, hu⟩ : ∃ u : State, { s with afl := { s.afl with sentWords := s.pendingWords, sentAt := some s.now } } = u := ⟨_, rfl⟩
  have huregs : u.regs = s.regs := by rw [← hu]
  have huout : u.out = s.out := by rw [← hu]
  have huafl : u.afl.sentWords = s.pendingWords ∧ u.afl.sentAt = some s.now := by rw [← hu]; exact ⟨rfl, rfl⟩
  have huup : u.linkUp (s.inwardLink + 1) = true := by rw [← hu]; exact hup
  have huwired : (u.get F.AFL_TILE_STATUS_WIRING).testBit s.inwardLink = false := by rw [← hu]; exact hwired
  have hutile : u.tileId = s.tileId := by rw [← hu]; rfl
  rw [hu]
  have hlt := inwardLink_lt s
  have hone : ∀ k ∈ [s.inwardLink], k < 4 ∧ u.linkUp (k + 1) = true := by
    intro k hk
    rw [List.mem_singleton.mp hk]
    exact ⟨hlt, huup⟩
  have hwork := aflSend_traffic 5 0 (s.pendingWords.flatMap fun w => leBytes w.toNat 4) (fun k hk => (hone k hk).1) u
  refine ⟨by rw [hwork.afl]; exact huafl.1, by rw [hwork.afl]; exact huafl.2, (aflSend_regs 5 0 _ hone).trans huregs, ?_⟩
  have hseq := nextSeq_traffic 5 u
  rw [aflSend_eq, List.foldl_cons, List.foldl_nil, hutile]
  refine ⟨(nextSeq 5 u).1, ?_⟩
  obtain ⟨links, hemit⟩ := aflEmit_up (s := (nextSeq 5 u).2)
    (aflFrame 5 s.tileId 0 (nextSeq 5 u).1 0 (s.pendingWords.flatMap fun w => leBytes w.toNat 4))
    ((hseq.linkUp (by omega)).trans huup)
  unfold sendOne
  rw [if_neg (by rw [hseq.get (by decide), huwired]; rintro ⟨-, h⟩; cases h), hemit]
  dsimp only
  rw [nextSeq_out, huout]

theorem aflHelloSend_shows (htiled : s.tiled = true) (hdue : s.afl.helloAt + 1000000 ≤ s.now) :
    (helloSend s).afl.helloAt = s.now ∧ (helloSend s).regs = s.regs ∧
    ∃ seq, ∀ l, l < 4 → s.linkUp (l + 1) = true →
      .afloth l (aflFrame 6 s.tileId 0 seq 0 (helloBytes s)) ∈ (helloSend s).out := by
  obtain ⟨u, hu⟩ : ∃ u : State, { s with afl := { s.afl with helloAt := s.now } } = u := ⟨_, rfl⟩
  obtain ⟨links, hlinks⟩ : ∃ l, l = (upto 0 4).filter (fun k => s.linkUp (k + 1)) := ⟨_, rfl⟩
  have hsend : helloSend s = aflSend 6 0 (helloBytes s) links u := by
    rw [hlinks, ← hu]
    exact if_neg (by simp [htiled]; omega)
  have huregs : u.regs = s.regs := by rw [← hu]
  have huafl : u.afl.helloAt = s.now := by rw [← hu]
  have huup (n : Nat) : u.linkUp n = s.linkUp n := by rw [← hu]; rfl
  have hutile : u.tileId = s.tileId := by rw [← hu]; rfl
  have hmem (k : Nat) : k ∈ links ↔ k < 4 ∧ s.linkUp (k + 1) = true := by
    rw [hlinks, List.mem_filter, mem_upto]
    simp
  have hall : ∀ k ∈ links, k < 4 ∧ u.linkUp (k + 1) = true := fun k hk => by
    rw [huup]
    exact (hmem k).mp hk
  have hfour : ∀ k ∈ links, k < 4 := fun k hk => (hall k hk).1
  rw [hsend]
  refine ⟨?_, (aflSend_regs 6 0 _ hall).trans huregs, ?_⟩
  · rw [(aflSend_traffic 6 0 (helloBytes s) hfour u).afl]
    exact huafl
  · obtain ⟨seq, hseq⟩ := aflSend_sends 6 0 (helloBytes s) hfour (s := u)
    rw [hutile] at hseq
    exact ⟨seq, fun l hl hup => hseq l ((hmem l).mpr ⟨hl, hup⟩) ((huup _).trans hup) (.inl rfl)⟩

theorem aflHelloSend_early (h : s.now < s.afl.helloAt + 1000000) : helloSend s = s := if_pos (.inr h)

/-! ## HELLO as it is received -/

/-- The HELLO on link k comes from the device that the topology puts there, with the topology and count in force (R421). -/
def helloFits (k : Nat) (x : AflFrame) (s : State) : Prop :=
  neighbour s.topo s.devices s.tileId k = some (leAt x.data 0 1) ∧ leAt x.data 1 1 = s.topo ∧
    leAt x.data 2 1 = s.get F.AFL_TILE_CFG_COUNT

theorem helloReceive_misfit {k : Nat} {x : AflFrame} (hhops : x.hops = 0) (hfit : ¬ helloFits k x s) :
    helloReceive k x s = raise 793 (s.set F.AFL_TILE_STATUS_WIRING
      (if (s.get F.AFL_TILE_STATUS_WIRING).testBit k then s.get F.AFL_TILE_STATUS_WIRING
        else s.get F.AFL_TILE_STATUS_WIRING + 2 ^ k)) := by
  refine if_pos ⟨hhops, ?_⟩
  simpa [helloFits, and_assoc] using hfit

/-- Bit k is set in a number of four bits that gains it, and the number still has four bits. -/
theorem gainBit {w k : Nat} (hw : w < 16) (hk : k < 4) :
    (if w.testBit k then w else w + 2 ^ k) < 16 ∧ (if w.testBit k then w else w + 2 ^ k).testBit k = true := by
  have hall : ∀ w, w < 16 → ∀ k, k < 4 →
    (if w.testBit k then w else w + 2 ^ k) < 16 ∧ (if w.testBit k then w else w + 2 ^ k).testBit k = true := by decide
  exact hall w hw k hk

theorem helloReceive_misfit_shows {k : Fin 4} {x : AflFrame} (hhops : x.hops = 0) (hfit : ¬ helloFits k.val x s) :
    ((helloReceive k.val x s).get F.AFL_TILE_STATUS_WIRING).testBit k.val = true ∧
    (helloReceive k.val x s).isPending 793 = true ∧ (helloReceive k.val x s).afl = s.afl := by
  rw [helloReceive_misfit hhops hfit]
  have hw : s.get F.AFL_TILE_STATUS_WIRING < 16 := slice_lt _ _ _
  obtain ⟨hlt, hbit⟩ := gainBit hw k.isLt
  generalize (if (s.get F.AFL_TILE_STATUS_WIRING).testBit k.val then s.get F.AFL_TILE_STATUS_WIRING
        else s.get F.AFL_TILE_STATUS_WIRING + 2 ^ k.val) = w at *
  have honly := raise_raiseOnly (src := 793) (by decide) (s.set F.AFL_TILE_STATUS_WIRING w)
  refine ⟨?_, isPending_raise_same (by decide) (by decide) _, ?_⟩
  · rw [honly.get (by decide), State.get_set_fits (f := F.AFL_TILE_STATUS_WIRING) _ hlt]
    exact hbit
  · rw [honly.rest]
    rfl

/-- The state that a HELLO leaves at the leader. -/
theorem helloFrom_leader {x : AflFrame} (hlead : s.leader = true) :
    helloFrom x s = if s.afl.lost.contains x.origin
      then raise 785 { s with afl := { s.afl with
        hello := tabInsert s.afl.hello x.origin (some s.now), lost := setErase x.origin s.afl.lost } }
      else { s with afl := { s.afl with
        hello := tabInsert s.afl.hello x.origin (some s.now), lost := setErase x.origin s.afl.lost } } := by
  unfold helloFrom
  dsimp only
  exact if_pos hlead

theorem helloFrom_leader_shows {x : AflFrame} (hlead : s.leader = true) :
    RaiseOnly { s with afl := { s.afl with
        hello := tabInsert s.afl.hello x.origin (some s.now), lost := setErase x.origin s.afl.lost } } (helloFrom x s) ∧
    (x.origin ∈ s.afl.lost → (helloFrom x s).isPending 785 = true) := by
  rw [helloFrom_leader hlead]
  refine ⟨.ite (raise_raiseOnly (by decide) _) (.refl _), fun hlost => ?_⟩
  rw [if_pos (List.contains_iff_mem.mpr hlost)]
  exact isPending_raise_same (by decide) (by decide) _

theorem helloReceive_fit {k : Nat} {x : AflFrame} (hfit : helloFits k x s)
    (hwired : (s.get F.AFL_TILE_STATUS_WIRING).testBit k = false) :
    helloReceive k x s = aflRelay x.type x.origin x.hops x.seq x.data (helloFrom x s) := by
  obtain ⟨hplace, htopo, hcount⟩ := hfit
  unfold helloReceive
  dsimp only
  rw [if_neg (by simp [hplace, htopo, hcount]), if_neg (by simp [hwired])]

theorem helloReceive_fit_shows {k : Nat} {x : AflFrame} (hfit : helloFits k x s)
    (hwired : (s.get F.AFL_TILE_STATUS_WIRING).testBit k = false) (hlead : s.leader = true) {t : State}
    (ht : t = helloReceive k x s) :
    tabGet none t.afl.hello x.origin = some s.now ∧ x.origin ∉ t.afl.lost ∧
    (x.origin ∈ s.afl.lost → t.isPending 785 = true) ∧
    (∀ d, d ≠ x.origin → tabGet none t.afl.hello d = tabGet none s.afl.hello d) ∧ t.panel = s.panel := by
  obtain ⟨honly, hpend⟩ := helloFrom_leader_shows (x := x) hlead
  have hwork := aflRelay_traffic x.type x.origin x.hops x.seq x.data (helloFrom x s)
  rw [← helloReceive_fit hfit hwired, ← ht] at hwork
  have hafl : (helloFrom x s).afl = { s.afl with
      hello := tabInsert s.afl.hello x.origin (some s.now), lost := setErase x.origin s.afl.lost } := by rw [honly.rest]
  have hpanel : (helloFrom x s).panel = s.panel := by rw [honly.rest]
  rw [hwork.afl, hafl]
  refine ⟨(tabGet_tabInsert _ _ _ _ _).trans (if_pos rfl), fun h => ?_, fun h => ?_, fun d hd => ?_, hwork.panel.trans hpanel⟩
  · exact ((mem_setErase _ _ _).mp h).2 rfl
  · exact (hwork.isPending (by decide)).trans (hpend h)
  · exact (tabGet_tabInsert _ _ _ _ _).trans (if_neg (Ne.symm hd))

end

/-- A HELLO reaches its effect in the state that has heard it, where the topology reads as before. -/
theorem AflHeard.hello {s : State} {k : Fin 4} {frame : List Byte} {x : AflFrame} (h : AflHeard s k frame x) (htype : x.type = 6) :
    exec (.aflHelloReceive k false frame) s = .next (helloReceive k.val x (acceptFrame k.val x s)) := by
  refine (h.take (want := fun x => x.type == 6) _ (beq_iff_eq.mpr htype)).trans (congrArg Host.Outcome.next (if_pos ?_))
  rw [(acceptFrame_traffic k.val x s).tiled]
  exact h.tiled

/-- The first part of O51. -/
theorem membershipIsKept : Claims.MembershipIsKept := by
  intro k frame x s
  refine ⟨fun hlive htiled => ⟨fun hdue => ?_, fun hearly => ?_, fun hlead hnew hok => ?_⟩, fun heard htype hhops => ?_⟩
  · exact ⟨_, whenLive_next s helloSend hlive, aflHelloSend_shows htiled hdue⟩
  · exact (whenLive_next s helloSend hlive).trans (congrArg _ (aflHelloSend_early hearly))
  · exact ⟨_, whenLive_next s eventSend hlive, aflEventSend_shows htiled hlead hnew hok⟩
  · dsimp only
    refine ⟨fun hfit => ⟨_, heard.hello htype, ?_⟩, fun hfit hlead => ⟨_, heard.hello htype, ?_⟩⟩
    · obtain ⟨hbit, hpend, hafl⟩ := helloReceive_misfit_shows (s := acceptFrame k.val x s) hhops hfit
      exact ⟨hbit, hpend, by rw [hafl]; rfl⟩
    · exact helloReceive_fit_shows (s := acceptFrame k.val x s) hfit heard.wired hlead rfl

/-! ## Seam strips -/

/-- The samples that a SEAM frame's body adds: each whose index the limit admits. -/
def joinSamples (first limit : Nat) (body : List Byte) (n : Nat) (t : Tab (Option Nat)) : Tab (Option Nat) :=
  (upto 0 n).foldl (fun t i => if first + i < limit then tabInsert t (first + i) (some (leAt body (8 * i) 8)) else t) t

theorem upto_succ (n : Nat) : upto 0 (n + 1) = upto 0 n ++ [n] := by
  rw [upto_append 0 n 1, Nat.zero_add]
  rfl

theorem joinSamples_get (first limit : Nat) (body : List Byte) (n : Nat) (t : Tab (Option Nat)) {i : Nat} (hi : i < n)
    (hl : first + i < limit) : tabGet none (joinSamples first limit body n t) (first + i) = some (leAt body (8 * i) 8) := by
  induction n with
  | zero => exact absurd hi (by omega)
  | succ n ih =>
    have hstep : joinSamples first limit body (n + 1) t =
        if first + n < limit then tabInsert (joinSamples first limit body n t) (first + n) (some (leAt body (8 * n) 8))
        else joinSamples first limit body n t := by
      unfold joinSamples
      rw [upto_succ, List.foldl_append]
      rfl
    rw [hstep]
    by_cases hin : i = n
    · rw [← hin, if_pos hl, tabGet_tabInsert, if_pos rfl]
    · split
      · rw [tabGet_tabInsert, if_neg (by omega), ih (by omega)]
      · exact ih (by omega)

theorem leAt_drop (bs : List Byte) (d a n : Nat) : leAt (bs.drop d) a n = leAt bs (d + a) n := by
  unfold leAt
  rw [List.drop_drop]

section
variable {s : State} {e : Nat} {x : AflFrame}

/-- The launch time that a SEAM frame names; none for the next instant. -/
def seamLaunch (x : AflFrame) : Option Nat :=
  if leAt x.data 0 12 = 0 then none else some (leAt x.data 0 8 * 1000000000 + leAt x.data 8 4)

/-- The layer of a SEAM frame. -/
def seamLayer (x : AflFrame) : Nat := x.param % 256 % 64

/-- Depth, extent and source of a SEAM frame agree with those of its layer (R429). -/
def seamAgrees (e : Nat) (x : AflFrame) (s : State) : Prop :=
  slice x.param 23 16 = lyrS s.regs (seamLayer x) ∧ slice x.param 63 48 = edgeExtent s.regs (seamLayer x) e ∧
    slice x.param 39 32 = lyrSrc s (seamLayer x)

theorem seamReceive_bad (h : ¬ seamAgrees e x s) : seamReceive e x s = seamBad s := by
  refine if_pos ?_
  unfold seamAgrees seamLayer at h
  tauto

theorem seamReceive_joins (h : seamAgrees e x s) (hlayout : leAt x.data 12 4 = kvdCrc s.regs (seamLayer x))
    (htime : s.stripLate (seamLayer x) (seamLaunch x) = false) :
    seamReceive e x s = addSamples (seamLayer x) e (slice x.param 31 24) (leAt x.data 12 4) (seamLaunch x) (leAt x.data 16 4)
      (lyrS s.regs (seamLayer x) * edgeExtent s.regs (seamLayer x) e) (x.data.drop 24) s := by
  obtain ⟨hdepth, hextent, hsrc⟩ := h
  refine (if_neg ?_).trans ((if_neg (not_not_intro hlayout)).trans (if_neg ?_))
  · rintro (h | h | h)
    · exact h hdepth
    · exact h hextent
    · exact h hsrc
  · intro h
    exact absurd (htime.symm.trans h) (by decide)

/-- The strip that the samples join holds each of them at its index. -/
theorem addSamples_shows (l kv crc first limit : Nat) (launch : Option Nat) (body : List Byte) :
    ∃ r ∈ (addSamples l e kv crc launch first limit body s).afl.strips, r.layer = l ∧ r.edge = e ∧ r.launch = launch ∧ r.kv = kv ∧
      ∀ i, i < body.length / 8 → first + i < limit → tabGet none r.samples (first + i) = some (leAt body (8 * i) 8) := by
  unfold addSamples
  dsimp only
  refine ⟨_, .head _, ?_⟩
  cases hold : s.afl.strips.find? (fun r => r.layer == l && r.edge == e && r.kv == kv && r.launch == launch) with
  | none =>
    exact ⟨rfl, rfl, rfl, rfl, fun i hi hl => joinSamples_get first limit body _ _ hi hl⟩
  | some r =>
    have hmine := List.find?_some hold
    simp only [Bool.and_eq_true, beq_iff_eq] at hmine
    obtain ⟨⟨⟨hlayer, hedge⟩, hkv⟩, hlaunch⟩ := hmine
    exact ⟨hlayer, hedge, hlaunch, hkv, fun i hi hl => joinSamples_get first limit body _ _ hi hl⟩

theorem seamBad_shows : (seamBad s).get (F.AFL_CNT_COUNT 4) = min 0xFFFFFFFF (s.get (F.AFL_CNT_COUNT 4) + 1) ∧
    (seamBad s).isPending 792 = true ∧ (seamBad s).afl = s.afl := by
  have honly := raise_raiseOnly (src := 792) (by decide) (s.bump (F.AFL_CNT_COUNT 4))
  refine ⟨?_, isPending_raise_same (by decide) (by decide) _, ?_⟩
  · exact (honly.get (by decide)).trans (State.get_bump_same s)
  · unfold seamBad
    rw [honly.rest]
    rfl

theorem raiseQuiet_raiseOnly {src : Nat} (h : src < 1024) (code detail : Nat) (s : State) :
    RaiseOnly s (raiseQuiet src code detail s) := by
  unfold raiseQuiet
  exact .ite ((raiseWith_raiseOnly h code detail s).trans (.evt _ _)) (.refl s)

theorem aflDiscard_shows : (aflDiscard s).get (F.AFL_CNT_COUNT 0) = min 0xFFFFFFFF (s.get (F.AFL_CNT_COUNT 0) + 1) ∧
    (aflDiscard s).afl = s.afl := by
  have honly := raiseQuiet_raiseOnly (src := 795) (by decide) 0 0 (s.bump (F.AFL_CNT_COUNT 0))
  refine ⟨(honly.get (by decide)).trans (State.get_bump_same s), ?_⟩
  unfold aflDiscard
  rw [honly.rest]
  rfl

/-- A frame that fails its checks, or holds a code error, is discarded. -/
theorem aflTake_bad {k : Nat} {code : Bool} {frame : List Byte} (want : AflFrame → Bool) (f : AflFrame → State → State)
    (hup : s.linkUp (k + 1) = true) (hbad : code = true ∨ aflParse frame = none) :
    aflTake k code frame want f s = aflDiscard (linkHeard (k + 1) s) := by
  unfold aflTake
  rw [if_neg (by simp [hup])]
  dsimp only
  rcases hbad with rfl | hnone
  · rfl
  · rw [hnone]
    cases code <;> rfl

end

/-- The second part of O51. -/
theorem seamFramesBuildStrips : Claims.SeamFramesBuildStrips := by
  intro k code frame x s hlive hup hwired
  refine ⟨fun hgood htype => ?_, fun hbad => ?_⟩
  · have htake : exec (.aflSeamReceive k false frame) s = .next (seamReceive k.val x (acceptFrame k.val x s)) :=
      (whenLive_next s _ hlive).trans
        (congrArg _ (aflTake_good (seamReceive k.val) hup hwired hgood (beq_iff_eq.mpr htype) (.inl htype)))
    dsimp only
    refine ⟨fun hagrees hlayout hlate => ⟨_, htake, ?_⟩, fun hagrees => ⟨_, htake, ?_⟩⟩
    · rw [seamReceive_joins (s := acceptFrame k.val x s) hagrees hlayout hlate]
      obtain ⟨r, hr, hlayer, hedge, hlaunch, hkv, hsamples⟩ := addSamples_shows (s := acceptFrame k.val x s) (e := k.val)
        (seamLayer x) (slice x.param 31 24) (leAt x.data 12 4) (leAt x.data 16 4)
        (lyrS s.regs (seamLayer x) * edgeExtent s.regs (seamLayer x) k.val) (seamLaunch x) (x.data.drop 24)
      refine ⟨⟨r, hr, hlayer, hedge, hlaunch, hkv, fun i hi hl => ?_⟩, rfl, rfl⟩
      rw [hsamples i (by rw [List.length_drop]; exact hi) hl, leAt_drop]
    · rw [seamReceive_bad (s := acceptFrame k.val x s) hagrees]
      obtain ⟨hcount, hpend, hafl⟩ := seamBad_shows (s := acceptFrame k.val x s)
      exact ⟨hcount, hpend, by rw [hafl]; rfl⟩
  · refine ⟨_, (whenLive_next s _ hlive).trans (congrArg _ (aflTake_bad _ _ hup hbad)), ?_⟩
    obtain ⟨hcount, hafl⟩ := aflDiscard_shows (s := linkHeard (k.val + 1) s)
    exact ⟨hcount, hafl⟩

/-- Settles O51: HELLO and EVENT frames keep the membership, SEAM frames build strips. -/
theorem membershipAndSeams : Obligations.MembershipAndSeams := ⟨membershipIsKept, seamFramesBuildStrips⟩

end Sys2Proof.Machine
end

section
/-! SUPPORT. What discards and commits a frame of the panel (spec/10_panel_protocol.md R336, R344; spec/08_confidence.md R264,
R282). -/

namespace Sys2Proof.Machine

/-! ## Owing a frame's tiles to another -/

/-- Pixels and tiles of frames other than n are owed and filled: no register from 0x600000 on changes, nor the panel's state. -/
structure TilesOwed (n : Nat) (s t : State) : Prop where
  rest : t = { s with regs := t.regs, evt := t.evt, hbm := t.hbm, poison := t.poison, conf := t.conf, free := t.free }
  word : ∀ a, 0x600000 ≤ a → t.word a = s.word a
  frame : t.frame n = s.frame n

namespace TilesOwed
variable {n : Nat}

theorem refl (s : State) : TilesOwed n s s := ⟨rfl, fun _ _ => rfl, rfl⟩

theorem trans {s t u : State} (h : TilesOwed n s t) (k : TilesOwed n t u) : TilesOwed n s u :=
  ⟨by rw [k.rest, h.rest], fun a ha => (k.word a ha).trans (h.word a ha), k.frame.trans h.frame⟩

theorem ite {s t u : State} {p : Prop} [Decidable p] (h : TilesOwed n s t) (k : TilesOwed n s u) :
    TilesOwed n s (if p then t else u) := by split <;> assumption

theorem foldl {α : Type} {s t : State} (f : State → α → State) (l : List α) (h : TilesOwed n s t)
    (hf : ∀ u, ∀ x ∈ l, TilesOwed n u (f u x)) : TilesOwed n s (l.foldl f t) := by
  induction l generalizing t with
  | nil => exact h
  | cons x l ih => exact ih (h.trans (hf t x (.head _))) fun u y hy => hf u y (.tail _ hy)

theorem set (s : State) {f : Field} (v : Nat) (h : f.addr < 0x600000) : TilesOwed n s (s.set f v) :=
  ⟨rfl, fun _ ha => s.word_set_ne f v (by omega), rfl⟩

theorem raise {src : Nat} (h : src < 1024) (s : State) : TilesOwed n s (Machine.raise src s) := by
  have honly := raise_raiseOnly h s
  generalize Machine.raise src s = t at *
  have hconf : t.conf = s.conf := by rw [honly.rest]
  refine ⟨?_, fun a ha => honly.word a ?_, ?_⟩
  · conv_lhs => rw [honly.rest]
    conv_rhs => rw [honly.rest]
  · rw [← Bool.not_eq_true, raiseAddr_iff]
    omega
  · unfold State.frame
    rw [hconf]

theorem refPixel (g : Geom) (px py : Nat) (s : State) : TilesOwed n s (Machine.refPixel g px py s).2 := by
  unfold Machine.refPixel
  split
  · dsimp only
    exact refl s
  · dsimp only
    exact ⟨rfl, fun _ _ => rfl, rfl⟩

theorem setFramePixel (g : Geom) (h px py v : Nat) (s : State) : TilesOwed n s (Machine.setFramePixel g h px py v s) := by
  unfold Machine.setFramePixel
  split <;> exact ⟨rfl, fun _ _ => rfl, rfl⟩

theorem poisonWord (w : Nat) (s : State) : TilesOwed n s (s.poisonWord w) := ⟨rfl, fun _ _ => rfl, rfl⟩

theorem poisonPixel (g : Geom) (h px py : Nat) (s : State) : TilesOwed n s (Machine.poisonPixel g h px py s) := by
  unfold Machine.poisonPixel
  split
  · exact (poisonWord _ s).trans (poisonWord _ _)
  · exact refl s

theorem fillPixel (g : Geom) (h : Nat) (f : FrameEntry) (s : State) (p : Nat × Nat) :
    TilesOwed n s (Machine.fillPixel g h f s p) := by
  unfold Machine.fillPixel
  dsimp only
  have hset (v : Nat) : TilesOwed n s (Machine.setFramePixel g h p.1 p.2 v (Machine.refPixel g p.1 p.2 s).2) :=
    (refPixel g p.1 p.2 s).trans (setFramePixel g h p.1 p.2 v _)
  exact .ite ((hset _).trans (poisonPixel g h p.1 p.2 _)) (hset _)

theorem writeNapMap (g : Geom) (h : Nat) (dirty : List Nat) (s : State) : TilesOwed n s (Machine.writeNapMap g h dirty s) := by
  unfold Machine.writeNapMap
  split <;> exact ⟨rfl, fun _ _ => rfl, rfl⟩

theorem setFrame {h : Nat} (hn : h ≠ n) (f : FrameEntry) (s : State) : TilesOwed n s (s.setFrame h f) := by
  refine ⟨rfl, fun _ _ => rfl, ?_⟩
  show tabGet {} (tabPut {} s.conf.frames h f) n = tabGet {} s.conf.frames n
  rw [tabGet_tabPut, if_neg hn]

theorem dirtyTiles {h : Nat} (hn : h ≠ n) (ts : List Nat) (s : State) : TilesOwed n s (Machine.dirtyTiles h ts s) := by
  unfold Machine.dirtyTiles
  dsimp only
  refine trans (.trans ?_ (setFrame hn _ _)) (writeNapMap _ _ _ _)
  have hfill : TilesOwed n s ((ts.filter fun t => !(s.frame h).dirty.contains t).foldl
      (fun s' t => (tilePixels s.geom t).foldl (Machine.fillPixel s.geom h (s.frame h)) s') s) :=
    .foldl _ _ (.refl s) fun u t _ => .foldl _ _ (.refl u) fun v p _ => fillPixel s.geom h (s.frame h) v p
  exact .ite (hfill.trans (.set _ _ (by decide))) hfill

theorem oweTilesTo {dest : Option Nat} (hdest : ∀ h, dest = some h → h ≠ n) (ts : List Nat) (s : State) :
    TilesOwed n s (Machine.oweTilesTo dest ts s) := by
  unfold Machine.oweTilesTo
  split
  next h => exact dirtyTiles (hdest h rfl) ts s
  next => exact ⟨rfl, fun _ _ => rfl, rfl⟩

end TilesOwed

/-- A choice between the best so far and the next of a list is one of the list. -/
theorem foldl_choice {α : Type} (f : Option α → α → Option α) (hf : ∀ b x, f b x = b ∨ f b x = some x) (l : List α)
    (b : Option α) : l.foldl f b = b ∨ ∃ x ∈ l, l.foldl f b = some x := by
  induction l generalizing b with
  | nil => exact .inl rfl
  | cons x l ih =>
    rw [List.foldl_cons]
    rcases ih (f b x) with h | ⟨y, hy, h⟩
    · rw [h]
      exact (hf b x).imp_right fun hx => ⟨x, .head _, hx⟩
    · exact .inr ⟨y, .tail _ hy, h⟩

/-- The next ready frame is in the state READY. -/
theorem nextReady_state {s : State} {h : Nat} (hr : s.nextReady = some h) : (s.frame h).state = 2 := by
  have hmem : s.nextReady = none ∨ ∃ x ∈ s.framesIn 2, s.nextReady = some x := by
    unfold State.nextReady
    refine foldl_choice _ (fun b x => ?_) (s.framesIn 2) none
    cases b with
    | none => exact .inr rfl
    | some b =>
      dsimp only
      split
      · split
        · exact .inr rfl
        · exact .inl rfl
      · exact .inr rfl
      · exact .inl rfl
  rcases hmem with hnone | ⟨x, hx, hsome⟩
  · rw [hnone] at hr
    cases hr
  · rw [hsome] at hr
    cases hr
    exact beq_iff_eq.mp (List.mem_filter.mp hx).2

/-! ## A frame is discarded -/

/-- Frame h is empty, and what follows from its discard changes no register from 0x600000 on and no state of the panel. -/
structure FrameGone (h : Nat) (s t : State) : Prop where
  rest : t = { s with regs := t.regs, evt := t.evt, hbm := t.hbm, poison := t.poison, conf := t.conf, free := t.free,
                      struct := t.struct }
  word : ∀ a, 0x600000 ≤ a → t.word a = s.word a
  gone : (t.frame h).state = 0

theorem releaseFrame_gone (h : Nat) (s : State) : FrameGone h s (releaseFrame h s) := by
  refine ⟨rfl, fun _ _ => rfl, ?_⟩
  show (tabGet {} (tabErase s.conf.frames h) h : FrameEntry).state = 0
  rw [tabGet_tabErase, if_pos rfl]

theorem FrameGone.owed {h : Nat} {s t u : State} (k : FrameGone h s t) (o : TilesOwed h t u) : FrameGone h s u :=
  ⟨by rw [o.rest, k.rest], fun a ha => (o.word a ha).trans (k.word a ha), by rw [o.frame]; exact k.gone⟩

theorem discardFrame_gone (h : Nat) (s : State) : FrameGone h s (discardFrame h s) := by
  unfold discardFrame discardFor
  dsimp only
  split
  next hempty => exact ⟨rfl, fun _ _ => rfl, hempty⟩
  next =>
    have hrel := releaseFrame_gone h s
    generalize releaseFrame h s = u at *
    have hdest (d : Nat) (hd : u.nextReady = some d) : d ≠ h := by
      rintro rfl
      have hgone := hrel.gone
      rw [nextReady_state hd] at hgone
      cases hgone
    split
    · refine hrel.owed (.trans (.trans (.set u _ (by decide)) (.raise (by decide) _)) (.oweTilesTo hdest _ _))
    · exact hrel

/-! ## What is sent on the panel link -/

theorem setTx_traffic (s : State) (n : Nat) (t : TxState) : LinkTraffic s (s.setTx n t) := setLink_traffic s n _

theorem sendRows_traffic (n start : Nat) (push : Bool) (rows : List (List Symbol)) (s : State) :
    LinkTraffic s (sendRows n start push rows s) := setTx_traffic s n _

theorem layTo_traffic (n limit : Nat) (s : State) : LinkTraffic s (layTo n limit s) := by
  obtain h | ⟨t, runs, h⟩ := layTo_cases n limit s <;> rw [h]
  · exact .refl s
  · exact (setTx_traffic s n t).trans (emit_traffic _ _)

theorem cutPush_traffic (s : State) : LinkTraffic s (cutPush s) := (layTo_traffic 0 _ s).trans (setTx_traffic _ _ _)

/-- An abort leaves on the panel link, which is busy until it has. -/
theorem sendAbort_eq (frame reason : Nat) (s : State) :
    ∃ u busy, LinkTraffic s u ∧
      sendAbort frame reason s = (u.withPanel { u.panel with busyUntil := busy }).emit (.panelAbort frame reason) :=
  ⟨_, _, (cutPush_traffic s).trans (sendRows_traffic 0 _ _ _ _), rfl⟩

/-- A packet leaves on the panel link, which is busy until it has. -/
theorem sendPacket_traffic (header data : List Byte) (d : Nat) (s : State) :
    ∃ busy, LinkTraffic (s.withPanel { s.panel with busyUntil := busy }) (sendPacket header data d s) :=
  ⟨_, (sendRows_traffic 0 _ _ _ _).trans (emit_traffic _ _)⟩

/-! ## A frame is committed -/

/-- Frame o has been committed: it is BUSY, and the other frames stay. -/
structure Committed (o : OpenFrame) (s t : State) : Prop where
  opened : t.panel.opened = some { o with committed := true, busy := none, go := true }
  state : (t.frame o.handle).state = 4
  frame : ∀ h, h ≠ o.handle → t.frame h = s.frame h
  out : s.out ⊆ t.out

theorem Committed.after {o : OpenFrame} {s t u : State} (h : LinkTraffic s t) (k : Committed o t u) : Committed o s u :=
  ⟨k.opened, k.state, fun n hn => (k.frame n hn).trans (h.frame n), List.Subset.trans h.out k.out⟩

theorem Committed.before {o : OpenFrame} {s t u : State} (k : Committed o s t) (h : LinkTraffic t u) : Committed o s u :=
  ⟨by rw [h.panel]; exact k.opened, by rw [h.frame]; exact k.state, fun n hn => (h.frame n).trans (k.frame n hn),
    List.Subset.trans k.out h.out⟩

theorem frame_setFrame (s : State) (h n : Nat) (f : FrameEntry) :
    (s.setFrame h f).frame n = if h = n then f else s.frame n := by
  show tabGet {} (tabPut {} s.conf.frames h f) n = if h = n then f else tabGet {} s.conf.frames n
  exact tabGet_tabPut _ _ _ _ _

theorem commitFrame_commits {o : OpenFrame} {s : State} (ho : s.panel.opened = some { o with go := true }) :
    Committed o s (commitFrame s) := by
  obtain ⟨u, hu⟩ : ∃ u, u = (s.withOpen (some { o with committed := true, busy := none, go := true })).setFrame o.handle
    { s.frame o.handle with state := 4 } := ⟨_, rfl⟩
  have hcommit : commitFrame s = sendPacket (panelHeader 3 0 o.frameNo o.pushes.length 0 0 0 (packetFormat s.geom) 0 0) [] 0
      (u.set F.PANEL_PUSHES_COUNT o.pushes.length) := by
    rw [hu]
    unfold commitFrame
    rw [ho]
    rfl
  have huframe (n : Nat) : u.frame n = if o.handle = n then { s.frame o.handle with state := 4 } else s.frame n := by
    rw [hu]
    exact frame_setFrame _ _ _ _
  have huopen : u.panel.opened = some { o with committed := true, busy := none, go := true } := by rw [hu]; rfl
  have huout : u.out = s.out := by rw [hu]; rfl
  obtain ⟨busy, hsend⟩ := sendPacket_traffic (panelHeader 3 0 o.frameNo o.pushes.length 0 0 0 (packetFormat s.geom) 0 0) [] 0
    (u.set F.PANEL_PUSHES_COUNT o.pushes.length)
  rw [hcommit]
  refine Committed.before (t := (u.set F.PANEL_PUSHES_COUNT o.pushes.length).withPanel { u.panel with busyUntil := busy })
    ⟨huopen, ?_, fun h hh => ?_, ?_⟩ hsend
  · show (u.frame o.handle).state = 4
    rw [huframe, if_pos rfl]
  · show u.frame h = s.frame h
    rw [huframe, if_neg (Ne.symm hh)]
  · show s.out ⊆ u.out
    rw [huout]
    exact List.Subset.refl _

theorem letCommit_commits {o : OpenFrame} {s : State} (hcan : s.canCommit o = true) :
    Committed o s (letCommit o s) := by
  have hcommit : letCommit o s = commitFrame (s.withOpen (some { o with go := true })) := by
    refine if_pos ?_
    have hsame : (s.withOpen (some { o with go := true })).canCommit { o with go := true } = s.canCommit o := rfl
    rw [hsame, hcan]
    simp
  rw [hcommit]
  obtain ⟨hopen, hstate, hframe, hout⟩ := commitFrame_commits (s := s.withOpen (some { o with go := true })) rfl
  exact ⟨hopen, hstate, hframe, hout⟩

theorem LinkTraffic.canCommit {s t : State} (h : LinkTraffic s t) (o : OpenFrame) : t.canCommit o = s.canCommit o := by
  have hrate : t.panelRate = s.panelRate := by
    unfold State.panelRate
    rw [h.get (by decide), h.get (by decide), h.get (by decide)]
  have hguard : t.guardNs = s.guardNs := by
    unfold State.guardNs State.rowNs
    rw [h.get (by decide), h.word (R.PANEL_CAP 5) (by decide)]
  have hpins : t.pins = s.pins := by rw [h.rest]
  have hte : t.teOk = s.teOk := h.flag (by decide)
  unfold State.canCommit State.canSend State.commitWindow State.positionsNs State.sampleAt State.tePeriod
  rw [h.linkUp (by decide), h.now, h.panel, hte, hpins, h.q9, hrate, hguard, h.word R.PANEL_TEPER (by decide)]

end Sys2Proof.Machine
end

section
/-! SUPPORT. Fence tokens at members and at the leader (spec/13_afloth_tiling.md R422 to R425, R431). -/

namespace Sys2Proof.Machine

/-! ## The tokens and what awaits them -/

theorem awaitedLevel_rest (s : State) : awaitedLevel s = { s with regs := (awaitedLevel s).regs } := rfl

theorem awaitedLevel_word {a : Nat} (s : State) (h : R.AFL_TILE_STATUS ≠ a) : (awaitedLevel s).word a = s.word a :=
  s.word_set_ne F.AFL_TILE_STATUS_AWAITED _ h

theorem awaitedLevel_isPending (s : State) {x : Nat} (hx : x < 1024) : (awaitedLevel s).isPending x = s.isPending x := by
  refine isPending_set s F.AFL_TILE_STATUS_AWAITED _ x ?_
  show 0x701004 ≠ 0x20000 + 0x4 * (x / 32)
  omega

theorem awaitedLevel_afl (s : State) : (awaitedLevel s).afl = s.afl := rfl

theorem awaitedLevel_panel (s : State) : (awaitedLevel s).panel = s.panel := rfl

theorem awaitedLevel_conf (s : State) : (awaitedLevel s).conf = s.conf := rfl

theorem awaitedLevel_out (s : State) : (awaitedLevel s).out = s.out := rfl

theorem dropToken_panel (s : State) : (dropToken s).panel = s.panel := by
  unfold dropToken
  rw [awaitedLevel_panel]

theorem dropToken_conf (s : State) : (dropToken s).conf = s.conf := by
  unfold dropToken
  rw [awaitedLevel_conf]

theorem dropToken_out (s : State) : (dropToken s).out = s.out := by
  unfold dropToken
  rw [awaitedLevel_out]

theorem dropToken_frame (s : State) (h : Nat) : (dropToken s).frame h = s.frame h := by
  unfold State.frame
  rw [dropToken_conf]

/-- A committed frame stays committed when its token is spent. -/
theorem Committed.dropToken {o : OpenFrame} {s t : State} (k : Committed o s t) : Committed o s (Machine.dropToken t) :=
  ⟨by rw [dropToken_panel]; exact k.opened, by rw [dropToken_frame]; exact k.state,
    fun h hh => (dropToken_frame t h).trans (k.frame h hh), by rw [dropToken_out]; exact k.out⟩

theorem dropToken_token (s : State) : (dropToken s).afl.token = none := by
  unfold dropToken
  rw [awaitedLevel_afl]

theorem localEdge_near {named e : Nat} {s : State} (he : s.edgeNear named = some e) (hd : ((e : Int) - named).natAbs ≤ 2000) :
    localEdge named s = (e, s) := by
  unfold localEdge
  rw [he]
  exact if_neg (by omega)

/-! ## The actions of a GO -/

section
variable {s : State} {o : OpenFrame}

theorem goCommit_commits (ho : s.panel.opened = some o) (hnew : o.committed = false) (hframe : s.afl.noFrame = false)
    (hcan : s.canCommit o = true) : Committed o s (goCommit s) ∧ (goCommit s).afl.token = none := by
  have hgo : goCommit s = dropToken (letCommit o s) := by
    unfold goCommit
    rw [if_neg (by rw [hframe]; decide), ho]
    dsimp only
    exact if_neg (by rw [hnew]; decide)
  rw [hgo]
  exact ⟨(letCommit_commits hcan).dropToken, dropToken_token _⟩

/-- The frame and its token as a deferral to an edge leaves them. -/
structure Deferred (o : OpenFrame) (r : TokenRec) (s t : State) : Prop where
  token : t.afl.token = some r
  opened : t.panel.opened = some { o with target := some r.edge }
  late : (t.frame o.handle).late = true
  waits : t.get (F.PQ_CNT_COUNT 0) = min 0xFFFFFFFF (s.get (F.PQ_CNT_COUNT 0) + 1)
  defers : t.get (F.AFL_CNT_COUNT 1) = min 0xFFFFFFFF (s.get (F.AFL_CNT_COUNT 1) + 1)
  pending : t.isPending 144 = true

theorem goDefer_defers {t0 : TokenRec} (hlead : s.leader = false) (ho : s.panel.opened = some o)
    (ht : s.afl.token = some t0) (edge named defers : Nat) :
    Deferred o { t0 with edge := edge, named := named, defers := defers } s (goDefer edge named defers s) := by
  obtain ⟨u, hu⟩ : ∃ u : State, u = { s with afl := { s.afl with
    token := some { t0 with edge := edge, named := named, defers := defers }, noFrame := false } } := ⟨_, rfl⟩
  have huget (f : Field) : u.get f = s.get f := by rw [hu]; rfl
  have hutoken : u.afl.token = some { t0 with edge := edge, named := named, defers := defers } := by rw [hu]
  have huopen : u.panel.opened = some o := by rw [hu]; exact ho
  obtain ⟨v, hv⟩ : ∃ v, v = raise 144 (u.bump (F.PQ_CNT_COUNT 0)) := ⟨_, rfl⟩
  have honly : RaiseOnly (u.bump (F.PQ_CNT_COUNT 0)) v := hv ▸ raise_raiseOnly (by decide) _
  have hvpq : v.get (F.PQ_CNT_COUNT 0) = min 0xFFFFFFFF (s.get (F.PQ_CNT_COUNT 0) + 1) := by
    rw [honly.get (by decide), ← huget]
    exact u.get_bump_same
  have hvafl : v.get (F.AFL_CNT_COUNT 1) = s.get (F.AFL_CNT_COUNT 1) := by
    rw [honly.get (by decide), ← huget]
    exact State.get_of_word (u.word_bump_ne (by decide))
  have hvlead : v.leader = false := by
    refine Eq.trans ?_ hlead
    show (v.get F.AFL_TILE_STATUS_TILE_ID == 0) = (s.get F.AFL_TILE_STATUS_TILE_ID == 0)
    rw [honly.get (by decide), ← huget]
    exact congrArg (· == 0) (State.get_of_word (u.word_bump_ne (by decide)))
  have hvpend : v.isPending 144 = true := hv ▸ isPending_raise_same (by decide) (by decide) _
  have hvtoken : v.afl.token = some { t0 with edge := edge, named := named, defers := defers } := by
    rw [honly.rest]
    exact hutoken
  obtain ⟨w, hw⟩ : ∃ w, w = (v.setFrame o.handle { v.frame o.handle with late := true }).withOpen
    (some { o with target := some edge }) := ⟨_, rfl⟩
  have hwget (f : Field) : w.get f = v.get f := by rw [hw]; rfl
  have hwlead : (w.bump (F.AFL_CNT_COUNT 1)).leader = false := by
    refine Eq.trans ?_ hvlead
    show ((w.bump (F.AFL_CNT_COUNT 1)).get F.AFL_TILE_STATUS_TILE_ID == 0) = (v.get F.AFL_TILE_STATUS_TILE_ID == 0)
    rw [← hwget]
    exact congrArg (· == 0) (State.get_of_word (w.word_bump_ne (by decide)))
  have hdefer : goDefer edge named defers s = awaitedLevel (w.bump (F.AFL_CNT_COUNT 1)) := by
    unfold goDefer
    simp only [ht, ← hu, huopen, ← hv, ← hw]
    rw [if_neg (by rw [hwlead]; decide)]
  have hwtoken : w.afl.token = some { t0 with edge := edge, named := named, defers := defers } := by
    rw [hw]
    exact hvtoken
  have hwopen : w.panel.opened = some { o with target := some edge } := by rw [hw]; rfl
  have hwlate : (w.frame o.handle).late = true := by
    have hframe : w.frame o.handle = (v.setFrame o.handle { v.frame o.handle with late := true }).frame o.handle := by rw [hw]; rfl
    rw [hframe, frame_setFrame, if_pos rfl]
  have hwpend : w.isPending 144 = true := by rw [hw]; exact hvpend
  rw [hdefer]
  refine ⟨hwtoken, hwopen, hwlate, ?_, ?_, ?_⟩
  · rw [State.get_of_word (awaitedLevel_word _ (by decide)), State.get_of_word (w.word_bump_ne (by decide)), hwget]
    exact hvpq
  · rw [State.get_of_word (awaitedLevel_word _ (by decide)), ← hvafl, ← hwget]
    exact w.get_bump_same
  · rw [awaitedLevel_isPending _ (by decide)]
    exact (isPending_set w _ _ _ (by decide)).trans hwpend

/-- The frame and its token as an abort on the token's behalf leaves them. -/
structure ForcedOut (o : OpenFrame) (s t : State) : Prop where
  opened : t.panel.opened = none
  gone : (t.frame o.handle).state = 0
  token : t.afl.token = none
  sent : .panelAbort o.frameNo 3 ∈ t.out
  drops : t.get (F.AFL_CNT_COUNT 2) = min 0xFFFFFFFF (s.get (F.AFL_CNT_COUNT 2) + 1)
  pending : t.isPending 790 = true

theorem goForce_forces (ho : s.panel.opened = some o) (hnew : o.committed = false) (hdone : o.doneSent = false) :
    ForcedOut o s (goForce s) := by
  obtain ⟨u, busy, hwork, habort⟩ := sendAbort_eq o.frameNo 3 s
  obtain ⟨v, hv⟩ : ∃ v, v = (u.withPanel { u.panel with busyUntil := busy }).emit (.panelAbort o.frameNo 3) := ⟨_, rfl⟩
  have hvopen : v.panel.opened = some o := by
    rw [hv, ← ho, ← hwork.panel]
    rfl
  have hvget (f : Field) : v.get f = u.get f := by rw [hv]; rfl
  have hvout : .panelAbort o.frameNo 3 ∈ v.out := by
    rw [hv]
    exact .head _
  have hgone := discardFrame_gone o.handle (v.withOpen none)
  obtain ⟨w, hw⟩ : ∃ w, w = discardFrame o.handle (v.withOpen none) := ⟨_, rfl⟩
  rw [← hw] at hgone
  have hdrop : dropOpen (sendAbort o.frameNo 3 s) = w := by
    unfold dropOpen
    rw [habort, ← hv, hvopen, hw]
  have hforce : goForce s = dropToken (raise 790 (w.bump (F.AFL_CNT_COUNT 2))) := by
    unfold goForce
    rw [ho]
    dsimp only
    rw [if_neg (by rw [hnew]; decide), if_neg (by rw [hdone]; decide), hdrop]
  have hwcount : w.get (F.AFL_CNT_COUNT 2) = s.get (F.AFL_CNT_COUNT 2) := by
    rw [State.get_of_word (hgone.word _ (by decide))]
    exact (hvget _).trans (hwork.get (by decide))
  have hwopen : w.panel.opened = none := by rw [hgone.rest]; rfl
  have hwout : .panelAbort o.frameNo 3 ∈ w.out := by rw [hgone.rest]; exact hvout
  obtain ⟨x, hx⟩ : ∃ x, x = raise 790 (w.bump (F.AFL_CNT_COUNT 2)) := ⟨_, rfl⟩
  have honly : RaiseOnly (w.bump (F.AFL_CNT_COUNT 2)) x := hx ▸ raise_raiseOnly (by decide) _
  have hxpend : x.isPending 790 = true := hx ▸ isPending_raise_same (by decide) (by decide) _
  have hxopen : x.panel.opened = none := by rw [honly.rest]; exact hwopen
  have hxconf : x.conf = w.conf := by rw [honly.rest]; rfl
  have hxout : .panelAbort o.frameNo 3 ∈ x.out := by rw [honly.rest]; exact hwout
  rw [hforce, ← hx]
  refine ⟨by rw [dropToken_panel]; exact hxopen, ?_, dropToken_token x, by rw [dropToken_out]; exact hxout, ?_, ?_⟩
  · have hframe : (dropToken x).frame o.handle = w.frame o.handle := by
      unfold State.frame
      rw [dropToken_conf, hxconf]
    rw [hframe]
    exact hgone.gone
  · refine (State.get_of_word (awaitedLevel_word _ (by decide))).trans ((honly.get (by decide)).trans ?_)
    rw [w.get_bump_same, hwcount]
    rfl
  · exact (awaitedLevel_isPending _ (by decide)).trans hxpend

end

/-! ## GO frames at a member -/

theorem Deferred.before {o : OpenFrame} {token : TokenRec} {s t u : State} (k : Deferred o token s t) (h : LinkTraffic t u) :
    Deferred o token s u :=
  ⟨by rw [h.afl]; exact k.token, by rw [h.panel]; exact k.opened, by rw [h.frame]; exact k.late,
    (h.get (by decide)).trans k.waits, (h.get (by decide)).trans k.defers, (h.isPending (by decide)).trans k.pending⟩

theorem ForcedOut.before {o : OpenFrame} {s t u : State} (k : ForcedOut o s t) (h : LinkTraffic t u) : ForcedOut o s u :=
  ⟨by rw [h.panel]; exact k.opened, by rw [h.frame]; exact k.gone, by rw [h.afl]; exact k.token, h.out k.sent,
    (h.get (by decide)).trans k.drops, (h.isPending (by decide)).trans k.pending⟩

theorem acceptFrame_afl (k : Nat) (x : AflFrame) (s : State) :
    (acceptFrame k x s).afl = { s.afl with seen := tabInsert s.afl.seen (16 * x.origin + x.type) (some x.seq) } := rfl

section
variable {s : State} {e : Nat} {x : AflFrame}

theorem planReceive_shows (hlead : s.leader = false) (he : s.edgeNear (tokenEdge x) = some e)
    (hd : ((e : Int) - tokenEdge x).natAbs ≤ 2000) :
    (planReceive x s).afl = { s.afl with
      token := some ⟨e, tokenEdge x, tokenLaunch x, leAt x.data 0x18 2, leAt x.data 0x1C 1, tokenEdge x⟩, done := []
      noFrame := false, leaderHold := false, awaited := [] } ∧
    (planReceive x s).panel = s.panel ∧ (planReceive x s).conf = s.conf := by
  have hplan : planReceive x s = newToken ⟨e, tokenEdge x, tokenLaunch x, leAt x.data 0x18 2, leAt x.data 0x1C 1, tokenEdge x⟩
      { s with afl := { s.afl with leaderHold := false } } := by
    unfold planReceive
    rw [localEdge_near he hd]
  rw [hplan]
  refine ⟨?_, rfl, rfl⟩
  unfold newToken
  have hno : ({ s with afl := { s.afl with leaderHold := false } } : State).leader = false := hlead
  rw [awaitedLevel_afl, hno]
  rfl

theorem goCommitReceive_near (he : s.edgeNear (tokenEdge x) = some e) (hd : ((e : Int) - tokenEdge x).natAbs ≤ 2000) :
    goCommitReceive x s = goCommit s := by
  unfold goCommitReceive
  rw [localEdge_near he hd]

theorem goForceReceive_near (he : s.edgeNear (tokenEdge x) = some e) (hd : ((e : Int) - tokenEdge x).natAbs ≤ 2000) :
    goForceReceive x s = goForce s := by
  unfold goForceReceive
  rw [localEdge_near he hd]

theorem goDeferReceive_near {t0 : TokenRec} (he : s.edgeNear (tokenEdge x) = some e)
    (hd : ((e : Int) - tokenEdge x).natAbs ≤ 2000) (ht : s.afl.token = some t0) :
    goDeferReceive x s = goDefer e (tokenEdge x) (leAt x.data 0x1C 1) { s with afl := { s.afl with leaderHold := false } } := by
  unfold goDeferReceive
  rw [localEdge_near he hd]
  dsimp only
  rw [if_neg (by simp [ht])]

end

/-- The first part of O50. -/
theorem membersFollowTokens : Claims.MembersFollowTokens := by
  intro k frame x o t0 e s heard hlead horigin hnear hskew
  have hacc := acceptFrame_traffic k.val x s
  have hnear' : (acceptFrame k.val x s).edgeNear (tokenEdge x) = some e := (hacc.edgeNear _).trans hnear
  have hlead' : (acceptFrame k.val x s).leader = false := hacc.leader.trans hlead
  refine ⟨fun htype => ?_, fun htype ho hnew htoken => ⟨fun haction hframe hcan => ?_, fun haction => ?_, fun haction hdone => ?_⟩⟩
  · obtain ⟨t, hwork, ht⟩ := heard.relayed (want := fun x => x.type == 1 && x.origin == 0) planReceive (by simp [htype, horigin])
    obtain ⟨hafl, hpanel, hconf⟩ := planReceive_shows hlead' hnear' hskew
    refine ⟨t, ht, ?_⟩
    dsimp only
    rw [hwork.afl, hwork.panel, hwork.conf, hafl]
    exact ⟨rfl, rfl, rfl, rfl, hpanel, hconf⟩
  · obtain ⟨t, hwork, ht⟩ := heard.relayed (want := fun x => x.type == 3 && x.origin == 0 && leAt x.data 0x1B 1 == 0)
      goCommitReceive (by simp [htype, horigin, haction])
    rw [goCommitReceive_near hnear' hskew] at hwork
    obtain ⟨hcommit, hnone⟩ := goCommit_commits (s := acceptFrame k.val x s) ho hnew hframe ((hacc.canCommit o).trans hcan)
    obtain ⟨hopen, hstate, hothers, -⟩ := (hcommit.before hwork).after hacc
    exact ⟨t, ht, hopen, hstate, by rw [hwork.afl]; exact hnone, hothers⟩
  · obtain ⟨t, hwork, ht⟩ := heard.relayed (want := fun x => x.type == 3 && x.origin == 0 && leAt x.data 0x1B 1 == 1)
      goDeferReceive (by simp [htype, horigin, haction])
    rw [goDeferReceive_near hnear' hskew htoken] at hwork
    obtain ⟨htok, hopen, hlate, hwaits, hdefers, hpend⟩ := (goDefer_defers
      (s := { acceptFrame k.val x s with afl := { (acceptFrame k.val x s).afl with leaderHold := false } }) hlead' ho htoken
      e (tokenEdge x) (leAt x.data 0x1C 1)).before hwork
    exact ⟨t, ht, htok, hopen, hlate, hwaits, hdefers, hpend⟩
  · obtain ⟨t, hwork, ht⟩ := heard.relayed (want := fun x => x.type == 3 && x.origin == 0 && leAt x.data 0x1B 1 == 2)
      goForceReceive (by simp [htype, horigin, haction])
    rw [goForceReceive_near hnear' hskew] at hwork
    obtain ⟨hopen, hgone, hnone, hsent, hdrops, hpend⟩ := (goForce_forces (s := acceptFrame k.val x s) ho hnew hdone).before hwork
    exact ⟨t, ht, hopen, hgone, hnone, hsent, hdrops, hpend⟩

end Sys2Proof.Machine
end

section
/-! SUPPORT. The leader of a tiled panel (spec/13_afloth_tiling.md R422, R425, R431). -/

namespace Sys2Proof.Machine

/-! ## A member's snapshot of pending words -/

/-- n words put in a row of a table from a key on. -/
def putWords (base : Nat) (v : Nat → Word) (n : Nat) (t : Tab Word) : Tab Word :=
  (upto 0 n).foldl (fun t i => tabPut 0 t (base + i) (v i)) t

theorem putWords_succ (base : Nat) (v : Nat → Word) (n : Nat) (t : Tab Word) :
    putWords base v (n + 1) t = tabPut 0 (putWords base v n t) (base + n) (v n) := by
  unfold putWords
  rw [upto_succ, List.foldl_append]
  rfl

theorem tabGet_putWords (base : Nat) (v : Nat → Word) (n : Nat) (t : Tab Word) {i : Nat} (hi : i < n) :
    tabGet 0 (putWords base v n t) (base + i) = v i := by
  induction n with
  | zero => exact absurd hi (by omega)
  | succ n ih =>
    rw [putWords_succ, tabGet_tabPut]
    by_cases hin : i = n
    · rw [hin, if_pos rfl]
    · rw [if_neg (by omega), ih (by omega)]

theorem tabGet_putWords_apart (base : Nat) (v : Nat → Word) (n : Nat) (t : Tab Word) {m : Nat} (hm : m < base ∨ base + n ≤ m) :
    tabGet 0 (putWords base v n t) m = tabGet 0 t m := by
  induction n with
  | zero => rfl
  | succ n ih => rw [putWords_succ, tabGet_tabPut, if_neg (by omega), ih (by omega)]

/-- The pending words that an EVENT frame carries. -/
def eventWord (x : AflFrame) (n : Nat) : Word := BitVec.ofNat 32 (leAt x.data (4 * n) 4)

/-- The leader with the snapshot that an EVENT frame brings. -/
def withSnapshot (x : AflFrame) (s : State) : State :=
  { s with afl := { s.afl with remote := putWords (32 * x.origin) (eventWord x) 32 s.afl.remote } }

/-- A bit is new in the snapshot. -/
def newBits (x : AflFrame) (s : State) : Bool :=
  (upto 0 32).any fun n => (eventWord x n &&& ~~~ (tabGet 0 s.afl.remote (32 * x.origin + n) : Word)) != 0

section
variable {s : State} {x : AflFrame}

theorem eventReceive_leader (hlead : s.leader = true) :
    eventReceive x s = if newBits x s then raise 794 (withSnapshot x s) else withSnapshot x s := by
  unfold eventReceive
  rw [if_neg (not_not_intro hlead)]
  dsimp only
  rw [List.any_map, List.foldl_map]
  rfl

theorem eventReceive_shows (hlead : s.leader = true) :
    (∀ n, n < 32 → tabGet 0 (eventReceive x s).afl.remote (32 * x.origin + n) = eventWord x n) ∧
    (∀ m, m < 32 * x.origin ∨ 32 * x.origin + 32 ≤ m →
      tabGet 0 (eventReceive x s).afl.remote m = tabGet 0 s.afl.remote m) ∧
    ((∃ n, n < 32 ∧ eventWord x n &&& ~~~ (tabGet 0 s.afl.remote (32 * x.origin + n) : Word) ≠ 0) →
      (eventReceive x s).isPending 794 = true) := by
  have honly : RaiseOnly (withSnapshot x s) (eventReceive x s) := by
    rw [eventReceive_leader hlead]
    exact .ite (raise_raiseOnly (by decide) _) (.refl _)
  have hremote : (eventReceive x s).afl.remote = putWords (32 * x.origin) (eventWord x) 32 s.afl.remote := by
    rw [honly.rest]
    rfl
  rw [hremote]
  refine ⟨fun n hn => tabGet_putWords _ _ _ _ hn, fun m hm => tabGet_putWords_apart _ _ _ _ hm, ?_⟩
  rintro ⟨n, hn, hbits⟩
  have hnew : newBits x s = true :=
    List.any_eq_true.mpr ⟨n, by rw [mem_upto]; omega, bne_iff_ne.mpr hbits⟩
  rw [eventReceive_leader hlead, if_pos hnew]
  exact isPending_raise_same (by decide) (by decide) _

/-! ## DONE frames -/

theorem doneReceive_leader {t0 : TokenRec} (hlead : s.leader = true) (ht : s.afl.token = some t0)
    (hfrom : t0.planned ≤ tokenEdge x) (hto : tokenEdge x ≤ t0.named) : doneReceive x s = recordDone x.origin s := by
  unfold doneReceive
  rw [hlead, ht]
  exact if_pos ⟨hfrom, hto⟩

theorem recordDone_afl (d : Nat) (s : State) : (recordDone d s).afl = { s.afl with done := setInsert d s.afl.done } := by
  unfold recordDone
  rw [awaitedLevel_afl]

theorem recordDone_panel (d : Nat) (s : State) : (recordDone d s).panel = s.panel := by
  unfold recordDone
  rw [awaitedLevel_panel]

/-! ## Lost members -/

theorem lossTimeout_early {d : Nat} (h : s.helloLate d = false) : lossTimeout d s = s := by
  refine if_pos (.inr (.inr ?_))
  rw [h]
  decide

/-- The leader with device d declared lost. -/
def withLost (d : Nat) (s : State) : State :=
  { s with afl := { s.afl with lost := setInsert d s.afl.lost, awaited := setErase d s.afl.awaited } }

theorem lossTimeout_leader {d : Nat} (hlead : s.leader = true) (hwatch : s.watches d = true) (hnew : d ∉ s.afl.lost)
    (hlate : s.helloLate d = true) : lossTimeout d s = awaitedLevel (raise 784 (withLost d s)) := by
  unfold lossTimeout
  rw [if_neg (by simp [hwatch, hnew, hlate])]
  dsimp only
  exact if_pos hlead

theorem lossTimeout_shows {d : Nat} (hlead : s.leader = true) (hwatch : s.watches d = true) (hnew : d ∉ s.afl.lost)
    (hlate : s.helloLate d = true) {t : State} (ht : t = lossTimeout d s) :
    d ∈ t.afl.lost ∧ d ∉ t.afl.awaited ∧ t.isPending 784 = true ∧ t.panel = s.panel ∧
    EvtOnly { s with afl := t.afl, regs := (s.setWord R.AFL_TILE_STATUS (t.word R.AFL_TILE_STATUS)).regs } t := by
  rw [lossTimeout_leader hlead hwatch hnew hlate] at ht
  obtain ⟨u, hu⟩ : ∃ u, u = raise 784 (withLost d s) := ⟨_, rfl⟩
  have honly : RaiseOnly (withLost d s) u := hu ▸ raise_raiseOnly (by decide) _
  have hpend : u.isPending 784 = true := hu ▸ isPending_raise_same (by decide) (by decide) _
  have hafl : u.afl = { s.afl with lost := setInsert d s.afl.lost, awaited := setErase d s.afl.awaited } := by
    rw [honly.rest]
    rfl
  have hpanel : u.panel = s.panel := by rw [honly.rest]; rfl
  rw [← hu] at ht
  have htafl : t.afl = u.afl := by rw [ht, awaitedLevel_afl]
  refine ⟨?_, ?_, ?_, ?_, ?_, fun a ha => ?_⟩
  · rw [htafl, hafl]
    exact (mem_setInsert _ _ _).mpr (.inl rfl)
  · rw [htafl, hafl]
    exact fun h => ((mem_setErase _ _ _).mp h).2 rfl
  · rw [ht, awaitedLevel_isPending u (by decide)]
    exact hpend
  · rw [ht, awaitedLevel_panel, hpanel]
  · have htu : t = { u with regs := t.regs } := by
      rw [ht]
      exact awaitedLevel_rest u
    have hevt : t.evt = u.evt := by rw [htu]
    have hsame : withLost d s = { s with afl := t.afl } := by
      rw [htafl, hafl]
      rfl
    conv_lhs => rw [htu, honly.rest, ← hevt, hsame]
  · show t.word a = (s.setWord R.AFL_TILE_STATUS (t.word R.AFL_TILE_STATUS)).word a
    rw [State.word_setWord]
    split
    next heq => rw [heq]
    next hne =>
      rw [ht, awaitedLevel_word u hne]
      refine honly.word a ?_
      rw [← Bool.not_eq_true, evtAddr_iff] at ha
      rw [← Bool.not_eq_true, raiseAddr_iff]
      omega

/-! ## GO -/

theorem goSend_commits {t0 : TokenRec} (htiled : s.tiled = true) (hlead : s.leader = true) (ht : s.afl.token = some t0)
    (hall : s.allDone = true) (hdue : s.sampleAt t0.edge ≤ s.q9 + 1000 * s.get F.AFL_TILE_CFG_GO_US) :
    goSend s = goCommit (aflSend 3 0 (tokenBytes t0.edge t0.launch t0.lframe 0 t0.defers) s.outward s) := by
  unfold goSend
  rw [ht]
  dsimp only
  rw [if_neg (by simp [htiled, hlead]; omega), if_pos hall]

theorem goSend_shows {t0 : TokenRec} {o : OpenFrame} (htiled : s.tiled = true) (hlead : s.leader = true)
    (ht : s.afl.token = some t0) (hall : s.allDone = true) (ho : s.panel.opened = some o) (hnew : o.committed = false)
    (hcan : s.canCommit o = true) (hframe : s.afl.noFrame = false)
    (hdue : s.sampleAt t0.edge ≤ s.q9 + 1000 * s.get F.AFL_TILE_CFG_GO_US) :
    (goSend s).afl.token = none ∧ (goSend s).panel.opened = some { o with committed := true, busy := none, go := true } ∧
    ((goSend s).frame o.handle).state = 4 ∧
    ∃ seq, ∀ l ∈ s.outward, s.aflLinkOk l = true →
      .afloth l (aflFrame 3 s.tileId 0 seq 0 (tokenBytes t0.edge t0.launch t0.lframe 0 t0.defers)) ∈ (goSend s).out := by
  rw [goSend_commits htiled hlead ht hall hdue]
  have hwork := aflSend_traffic 3 0 (tokenBytes t0.edge t0.launch t0.lframe 0 t0.defers) (outward_lt s) s
  obtain ⟨seq, hsent⟩ := aflSend_sends 3 0 (tokenBytes t0.edge t0.launch t0.lframe 0 t0.defers) (outward_lt s) (s := s)
  generalize aflSend 3 0 (tokenBytes t0.edge t0.launch t0.lframe 0 t0.defers) s.outward s = u at *
  have hframe' : u.afl.noFrame = false := by rw [hwork.afl]; exact hframe
  obtain ⟨hcommit, hnone⟩ := goCommit_commits (by rw [hwork.panel]; exact ho) hnew hframe' ((hwork.canCommit o).trans hcan)
  refine ⟨hnone, hcommit.opened, hcommit.state, seq, fun l hl hok => hcommit.out (hsent l hl ?_ (.inr ?_))⟩
  · simp only [State.aflLinkOk, Bool.and_eq_true] at hok
    exact hok.1
  · simp only [State.aflLinkOk, Bool.and_eq_true, Bool.not_eq_true'] at hok
    exact hok.2

end

/-- The second part of O50. -/
theorem leaderCollectsMembers : Claims.LeaderCollectsMembers := by
  intro k d frame x o t0 s hlead
  have hacc := acceptFrame_traffic k.val x s
  have hlead' : (acceptFrame k.val x s).leader = true := hacc.leader.trans hlead
  refine ⟨fun heard htype htoken hfrom hto => ?_, fun heard htype _ _ => ?_, fun hlive hwatch hnew => ⟨fun hlate => ?_, fun hlate => ?_⟩,
    fun hlive htiled htoken hall ho hnew hcan hframe hdue => ?_⟩
  · obtain ⟨t, hwork, ht⟩ := heard.relayed (want := fun x => x.type == 2) doneReceive (by simp [htype])
    rw [doneReceive_leader hlead' htoken hfrom hto] at hwork
    refine ⟨t, ht, ?_⟩
    dsimp only
    rw [hwork.afl, hwork.panel, recordDone_panel, recordDone_afl]
    exact ⟨(mem_setInsert _ _ _).mpr (.inl rfl), fun n hn => (mem_setInsert _ _ _).trans (or_iff_right hn), htoken, hacc.panel⟩
  · obtain ⟨t, hwork, ht⟩ := heard.relayed (want := fun x => x.type == 5) eventReceive (by simp [htype])
    obtain ⟨hmine, hothers, hnew⟩ := eventReceive_shows (x := x) hlead'
    refine ⟨t, ht, ?_⟩
    dsimp only
    rw [hwork.isPending (by decide), hwork.afl]
    exact ⟨hmine, hothers, hnew⟩
  · exact ⟨_, whenLive_next s (lossTimeout d.val) hlive, lossTimeout_shows hlead hwatch hnew hlate rfl⟩
  · exact (whenLive_next s (lossTimeout d.val) hlive).trans (congrArg _ (lossTimeout_early hlate))
  · exact ⟨_, whenLive_next s goSend hlive, goSend_shows htiled hlead htoken hall ho hnew hcan hframe hdue⟩

/-- Settles O50: members follow the leader's tokens, and the leader collects its members. -/
theorem tilesFollowTheLeader : Obligations.TilesFollowTheLeader := ⟨membersFollowTokens, leaderCollectsMembers⟩

end Sys2Proof.Machine
end

section
/-! SUPPORT. The canonical form as an inequality, the shape that the tag `bound` takes. The lemmas below and in the files after
it say of each operation of the model that it keeps the form; an operation's proof names those of the operations that it is
built of, or leaves a long one to a search among the tagged lemmas. -/

namespace Sys2Proof.Machine

/-- 1 where the register file and the memories given are in canonical form. -/
@[irreducible] def partsCanon (regs : Tab Word) (hbm flash sram : List Host.Cell) : Nat :=
  bit (tabWf regReset regs && (Memory.wf ramBlank hbm && Memory.wf flashBlank flash && Memory.wf ramBlank sram))

/-- 1 where the state is in canonical form. -/
@[irreducible] def State.canon (s : State) : Nat := partsCanon s.regs s.hbm s.flash s.sram

theorem partsCanon_pos {regs : Tab Word} {hbm flash sram : List Host.Cell} : 0 < partsCanon regs hbm flash sram ↔
    tabWf regReset regs = true ∧ Memory.wf ramBlank hbm = true ∧ Memory.wf flashBlank flash = true ∧
      Memory.wf ramBlank sram = true := by
  unfold partsCanon bit
  split <;> simp_all

theorem State.canon_pos {s : State} : 0 < s.canon ↔ s.wf = true := by
  unfold State.canon partsCanon
  show 0 < bit s.wf ↔ _
  unfold bit
  split <;> simp_all

/-- The search that takes a goal `0 < s.canon` apart by the lemmas tagged `bound`, along the state's structure: a hypothesis
closes a goal only where it is the goal as it stands. -/
def alongState : Aesop.Options := { enableSimp := false, terminal := true, assumptionTransparency := .reducible }

/-! ## States that are put together -/

section
variable {s t : State}

/-- A state is as canonical as its register file and its memories. -/
@[bound] theorem canon_mk {pins now free regs staged heldLo captured hbm poison flash sram fuses evt struct kcp card conf plank
    panel afl links time mem xlat ingest dec siz enc fuller mode tap out pending} (h : 0 < partsCanon regs hbm flash sram) :
    0 < (State.mk pins now free regs staged heldLo captured hbm poison flash sram fuses evt struct kcp card conf plank
      panel afl links time mem xlat ingest dec siz enc fuller mode tap out pending).canon := by
  unfold State.canon
  exact h

@[bound] theorem partsCanon_of_canon (h : 0 < s.canon) : 0 < partsCanon s.regs s.hbm s.flash s.sram := by
  unfold State.canon at h
  exact h

@[bound] theorem canon_ite {p : Prop} [Decidable p] (h : 0 < s.canon) (k : 0 < t.canon) :
    0 < (if p then s else t).canon := by split <;> assumption

@[bound] theorem canon_foldl {α : Type} {f : State → α → State} {l : List α} (h : 0 < s.canon)
    (hf : ∀ u x, 0 < u.canon → 0 < (f u x).canon) : 0 < (l.foldl f s).canon :=
  foldl_keeps (fun u => 0 < u.canon) f l h fun u x hu => hf u x hu

end

/-! ## Answers with a state -/

/-- 1 where the state that comes with an answer is in canonical form. -/
def pairCanon {α : Type} (p : α × State) : Nat := p.2.canon

/-- 1 where the state that comes with two answers is in canonical form. -/
def tripleCanon {α β : Type} (p : α × β × State) : Nat := p.2.2.canon

section
variable {α β : Type} {s : State}

@[bound] theorem canon_pair {a : α} (h : 0 < s.canon) : 0 < pairCanon (a, s) := h

@[bound] theorem canon_snd {p : α × State} (h : 0 < pairCanon p) : 0 < p.2.canon := h

@[bound] theorem pairCanon_ite {a b : α × State} {p : Prop} [Decidable p] (h : 0 < pairCanon a) (k : 0 < pairCanon b) :
    0 < pairCanon (if p then a else b) := by split <;> assumption

@[bound] theorem pairCanon_foldl {γ : Type} {f : α × State → γ → α × State} {l : List γ} {p : α × State}
    (h : 0 < pairCanon p) (hf : ∀ u x, 0 < pairCanon u → 0 < pairCanon (f u x)) : 0 < pairCanon (l.foldl f p) :=
  foldl_keeps (fun u => 0 < pairCanon u) f l h fun u x hu => hf u x hu

@[bound] theorem canon_triple {a : α} {b : β} (h : 0 < s.canon) : 0 < tripleCanon (a, b, s) := h

@[bound] theorem canon_thd {p : α × β × State} (h : 0 < tripleCanon p) : 0 < p.2.2.canon := h

@[bound] theorem tripleCanon_ite {a b : α × β × State} {p : Prop} [Decidable p] (h : 0 < tripleCanon a)
    (k : 0 < tripleCanon b) : 0 < tripleCanon (if p then a else b) := by split <;> assumption

end

section
variable {s : State}

/-! ## What writes registers and memories -/

@[bound] theorem canon_setWord (a : Nat) (w : Word) (hs : 0 < s.canon) : 0 < (s.setWord a w).canon := by
  obtain ⟨hregs, hmem⟩ := partsCanon_pos.mp (partsCanon_of_canon hs)
  refine canon_mk (partsCanon_pos.mpr ⟨?_, hmem⟩)
  exact s.regs_setWord_wf a w hregs

@[bound] theorem canon_hbmWrite (a : Nat) (bs : List Byte) (hs : 0 < s.canon) : 0 < (s.hbmWrite a bs).canon := by
  obtain ⟨hregs, hhbm, hflash, hsram⟩ := partsCanon_pos.mp (partsCanon_of_canon hs)
  exact canon_mk (partsCanon_pos.mpr ⟨hregs, wf_cellWrite _ _ _ _ hhbm, hflash, hsram⟩)

@[bound] theorem canon_flashWrite (a : Nat) (bs : List Byte) (hs : 0 < s.canon) : 0 < (s.flashWrite a bs).canon := by
  obtain ⟨hregs, hhbm, hflash, hsram⟩ := partsCanon_pos.mp (partsCanon_of_canon hs)
  exact canon_ite hs (canon_mk (partsCanon_pos.mpr ⟨hregs, hhbm, wf_cellWrite _ _ _ _ hflash, hsram⟩))

@[bound] theorem canon_flashErase (a n : Nat) (hs : 0 < s.canon) : 0 < (s.flashErase a n).canon := by
  obtain ⟨hregs, hhbm, hflash, hsram⟩ := partsCanon_pos.mp (partsCanon_of_canon hs)
  exact canon_ite hs (canon_mk (partsCanon_pos.mpr ⟨hregs, hhbm, wf_cellClear _ _ _ _ hflash, hsram⟩))

@[bound] theorem canon_sramWrite (a : Nat) (bs : List Byte) (hs : 0 < s.canon) : 0 < (s.sramWrite a bs).canon := by
  obtain ⟨hregs, hhbm, hflash, hsram⟩ := partsCanon_pos.mp (partsCanon_of_canon hs)
  exact canon_mk (partsCanon_pos.mpr ⟨hregs, hhbm, hflash, wf_cellWrite _ _ _ _ hsram⟩)

@[bound] theorem canon_reset : 0 < State.reset.canon := State.canon_pos.mpr resetCanonical

/-! ## Outcomes -/

/-- 1 unless the outcome is a next state that is not in canonical form. -/
def outcomeCanon : Host.Outcome State Fault Refusal → Nat
  | .next t => t.canon
  | _ => 1

@[bound] theorem canon_whenLive {f : State → State} (hs : 0 < s.canon) (hf : 0 < (f s).canon) :
    0 < outcomeCanon (whenLive s f) := by
  unfold whenLive outcomeCanon
  exact canon_ite hf hs

@[bound] theorem canon_heard {n : Nat} {f : State → State} (hs : 0 < s.canon) (hf : 0 < (f s).canon) :
    0 < (heard n f s).canon := canon_ite hs hf

@[bound] theorem canon_permit {who : Requester} {addr : Nat} {f : State → Res} (hs : 0 < s.canon) (hf : 0 < pairCanon (f s)) :
    0 < pairCanon (permit who addr f s) := pairCanon_ite hs (pairCanon_ite hs hf)

@[bound] theorem canon_request {who : Requester} {addr : Nat} {f : State → Res} (hs : 0 < s.canon) (hf : 0 < pairCanon (f s)) :
    0 < (request who addr f s).canon := by
  unfold request State.emit
  exact canon_mk (partsCanon_of_canon (canon_permit hs hf))

end
end Sys2Proof.Machine
end

section
/-! SUPPORT. The canonical form is kept by what the model is built of:
the operations that all blocks share. -/

namespace Sys2Proof.Machine

section
variable {s : State}

/-! ## Registers, memories and requests -/

@[bound] theorem canon_set (f : Field) (v : Nat) (hs : 0 < s.canon) : 0 < (s.set f v).canon := canon_setWord _ _ hs

@[bound] theorem canon_bumpBy (f : Field) (n : Nat) (hs : 0 < s.canon) : 0 < (s.bumpBy f n).canon := canon_set _ _ hs

@[bound] theorem canon_bump (f : Field) (hs : 0 < s.canon) : 0 < (s.bump f).canon := canon_bumpBy _ _ hs

@[bound] theorem canon_stage (a : Nat) (w : Word) (hs : 0 < s.canon) : 0 < (s.stage a w).canon :=
  canon_mk (partsCanon_of_canon hs)

@[bound] theorem canon_unstage (a : Nat) (hs : 0 < s.canon) : 0 < (s.unstage a).canon := canon_mk (partsCanon_of_canon hs)

@[bound] theorem canon_commit (a : Nat) (hs : 0 < s.canon) : 0 < (s.commit a).canon := by
  unfold State.commit
  split
  · exact canon_unstage _ (canon_setWord _ _ hs)
  · exact hs

@[bound] theorem canon_commitAll (as : List Nat) (hs : 0 < s.canon) : 0 < (s.commitAll as).canon :=
  canon_foldl hs fun _ _ hu => canon_commit _ hu

@[bound] theorem canon_unstageAll (as : List Nat) (hs : 0 < s.canon) : 0 < (s.unstageAll as).canon :=
  canon_foldl hs fun _ _ hu => canon_unstage _ hu

@[bound] theorem canon_resetWords (as : List Nat) (hs : 0 < s.canon) : 0 < (s.resetWords as).canon :=
  canon_foldl hs fun _ _ hu => canon_unstage _ (canon_setWord _ _ hu)

@[bound] theorem canon_draw (hs : 0 < s.canon) : 0 < pairCanon (s.draw) := canon_pair (canon_mk (partsCanon_of_canon hs))

@[bound] theorem canon_drawBytes (n : Nat) (hs : 0 < s.canon) : 0 < pairCanon (s.drawBytes n) :=
  canon_pair (canon_mk (partsCanon_of_canon hs))

@[bound] theorem canon_drawRandom (n : Nat) (hs : 0 < s.canon) : 0 < pairCanon (s.drawRandom n) :=
  canon_pair (canon_mk (partsCanon_of_canon hs))

@[bound] theorem canon_emit (o : Output) (hs : 0 < s.canon) : 0 < (s.emit o).canon := canon_mk (partsCanon_of_canon hs)

@[bound] theorem canon_poisonWord (w : Nat) (hs : 0 < s.canon) : 0 < (s.poisonWord w).canon :=
  canon_mk (partsCanon_of_canon hs)

@[bound] theorem canon_poolWrite (p : PoolRec) (off : Nat) (bs : List Byte) (hs : 0 < s.canon) :
    0 < (s.poolWrite p off bs).canon :=
  canon_hbmWrite _ _ hs

@[bound] theorem canon_setPath (kind id : Nat) (p : PathObj) (hs : 0 < s.canon) : 0 < (s.setPath kind id p).canon :=
  canon_mk (partsCanon_of_canon hs)

@[bound] theorem canon_yieldFuller (hs : 0 < s.canon) : 0 < (yieldFuller s).canon := by
  unfold yieldFuller
  refine canon_ite ?_ hs
  split
  · exact canon_mk (partsCanon_of_canon hs)
  · exact hs

@[bound] theorem canon_okay (hs : 0 < s.canon) : 0 < pairCanon (okay s) := canon_pair hs

@[bound] theorem canon_refuse (st : Status) (hs : 0 < s.canon) : 0 < pairCanon (refuse st s) := canon_pair hs

@[bound] theorem canon_stageWrite (a : Nat) (w : Word) (hs : 0 < s.canon) : 0 < (s.stageWrite a w).canon := by
  unfold State.stageWrite
  split
  · exact canon_mk (partsCanon_of_canon hs)
  · exact canon_stage _ _ hs

/-! ## Events -/

@[bound] theorem canon_startWindow (src : Nat) (hs : 0 < s.canon) : 0 < (startWindow src s).canon :=
  canon_ite (canon_set _ _ (canon_mk (partsCanon_of_canon hs))) hs

@[bound] theorem canon_startNewWindows {before : State} (srcs : List Nat) (hs : 0 < s.canon) :
    0 < (startNewWindows before srcs s).canon :=
  canon_foldl hs fun _ _ hu => canon_ite (canon_startWindow _ hu) hu

@[bound] theorem canon_holdSource (src : Nat) (hs : 0 < s.canon) : 0 < (holdSource src s).canon :=
  canon_ite (canon_mk (partsCanon_of_canon hs)) hs

@[bound] theorem canon_countSource (src : Nat) (hs : 0 < s.canon) : 0 < (countSource src s).canon := canon_bump _ hs

@[bound] theorem canon_arrive (src : Nat) (hs : 0 < s.canon) : 0 < (arrive src s).canon :=
  canon_startNewWindows _ (canon_holdSource _ (canon_countSource _ (canon_ite (canon_mk (partsCanon_of_canon hs))
    (canon_set _ _ hs))))

@[bound] theorem canon_noteRaise (src : Nat) (hs : 0 < s.canon) : 0 < (noteRaise src s).canon :=
  canon_mk (partsCanon_of_canon hs)

@[bound] theorem canon_logDrop (src n : Nat) (hs : 0 < s.canon) : 0 < (logDrop src n s).canon :=
  canon_ite (canon_noteRaise _ (canon_arrive _ (canon_bumpBy _ _ hs))) (canon_bumpBy _ _ hs)

@[bound] theorem canon_report (src code detail : Nat) (hs : 0 < s.canon) : 0 < (report src code detail s).canon :=
  canon_ite hs (canon_ite (canon_bump _ (canon_mk (partsCanon_of_canon hs))) (canon_ite (canon_logDrop _ _ hs) (canon_set _
    _ (canon_mk (partsCanon_of_canon hs)))))

@[bound] theorem canon_raiseWith (src code detail : Nat) (hs : 0 < s.canon) : 0 < (raiseWith src code detail s).canon :=
  canon_report _ _ _ (canon_arrive _ hs)

@[bound] theorem canon_raise (src : Nat) (hs : 0 < s.canon) : 0 < (raise src s).canon := canon_raiseWith _ _ _ hs

@[bound] theorem canon_raiseQuiet (src code detail : Nat) (hs : 0 < s.canon) : 0 < (raiseQuiet src code detail s).canon :=
  canon_ite (canon_noteRaise _ (canon_raiseWith _ _ _ hs)) hs

@[bound] theorem canon_raisePerMs (src code detail : Nat) (hs : 0 < s.canon) : 0 < (raisePerMs src code detail s).canon :=
  canon_ite (canon_noteRaise _ (canon_raiseWith _ _ _ hs)) (canon_report _ _ _ hs)

@[bound] theorem canon_setCond (src : Nat) (on : Bool) (hs : 0 < s.canon) : 0 < (setCond src on s).canon :=
  canon_ite (canon_ite hs (canon_raise _ hs)) (canon_mk (partsCanon_of_canon hs))

@[bound] theorem canon_logLevels (hs : 0 < s.canon) : 0 < (logLevels s).canon :=
  canon_setCond _ _ (canon_setCond _ _ (canon_set _ _ (canon_set _ _ hs)))

/-! ## Work items -/

@[bound] theorem canon_setRole (k r : Nat) (hs : 0 < s.canon) : 0 < (s.setRole k r).canon := canon_set _ _ hs

@[bound] theorem canon_setBlockState (k v : Nat) (hs : 0 < s.canon) : 0 < (s.setBlockState k v).canon := canon_set _ _ hs

@[bound] theorem canon_setBlock (k : Nat) (b : BlockState) (hs : 0 < s.canon) : 0 < (s.setBlock k b).canon :=
  canon_mk (partsCanon_of_canon hs)

@[bound] theorem canon_dropWork (keep : WorkItem → Bool) (hs : 0 < s.canon) : 0 < (dropWork keep s).canon :=
  canon_mk (partsCanon_of_canon hs)

@[bound] theorem canon_clearCell (k c : Nat) (hs : 0 < s.canon) : 0 < (clearCell k c s).canon := canon_setBlock _ _ hs

@[bound] theorem canon_setStream (st : Nat) (x : StreamState) (hs : 0 < s.canon) : 0 < (s.setStream st x).canon :=
  canon_mk (partsCanon_of_canon hs)

@[bound] theorem canon_setPort (n : Nat) (p : PortState) (hs : 0 < s.canon) : 0 < (s.setPort n p).canon :=
  canon_mk (partsCanon_of_canon hs)

@[bound] theorem canon_sendOn (n : Nat) (o : Output) (hs : 0 < s.canon) : 0 < (sendOn n o s).canon :=
  canon_ite (canon_emit _ hs) (canon_setPort _ _ hs)

@[bound] theorem canon_flushPort (n : Nat) (hs : 0 < s.canon) : 0 < (flushPort n s).canon :=
  canon_ite hs (canon_mk (partsCanon_of_canon (canon_setPort _ _ hs)))

@[bound] theorem canon_setLink (n : Nat) (u : LinkUnit) (hs : 0 < s.canon) : 0 < (s.setLink n u).canon :=
  canon_mk (partsCanon_of_canon hs)

@[bound] theorem canon_linkHeard (n : Nat) (hs : 0 < s.canon) : 0 < (linkHeard n s).canon := canon_setLink _ _ hs

@[bound] theorem canon_linkSent (n : Nat) (hs : 0 < s.canon) : 0 < (linkSent n s).canon := canon_setLink _ _ hs

/-! ## The network on chip -/

@[bound] theorem canon_withNet (n : NetState) (hs : 0 < s.canon) : 0 < (s.withNet n).canon :=
  canon_mk (partsCanon_of_canon hs)

@[bound] theorem canon_carry (t : Transfer) (hs : 0 < s.canon) : 0 < (carry t s).canon := canon_withNet _ hs

@[bound] theorem canon_carryFrom (k dst : Nat) (hs : 0 < s.canon) : 0 < (carryFrom k dst s).canon := canon_carry _ hs

@[bound] theorem canon_carryControl (dst : Nat) (hs : 0 < s.canon) : 0 < (carryControl dst s).canon := canon_carry _ hs

@[bound] theorem canon_routerServe (n : Nat) (hs : 0 < s.canon) : 0 < (routerServe n s).canon := by
  unfold routerServe
  dsimp only
  aesop (rule_sets := [Bound, -default]) (config := alongState)

@[bound] theorem canon_channelServe (dst vc : Nat) (hs : 0 < s.canon) : 0 < (channelServe dst vc s).canon := by
  unfold channelServe
  dsimp only
  aesop (rule_sets := [Bound, -default]) (config := alongState)

@[bound] theorem canon_endpointServe (dst : Nat) (hs : 0 < s.canon) : 0 < (endpointServe s dst).canon := by
  unfold endpointServe
  split
  · exact canon_withNet _ hs
  · exact canon_foldl hs fun _ _ hu => canon_channelServe _ _ hu

@[bound] theorem canon_netTick (hs : 0 < s.canon) : 0 < (netTick s).canon :=
  canon_ite hs (canon_foldl (canon_foldl hs (fun _ _ hu => canon_routerServe _ hu)) (fun _ _ hu => canon_endpointServe _ hu))

/-! ## Leases and faults -/

@[bound] theorem canon_setLease (e : Nat) (l : Lease) (hs : 0 < s.canon) : 0 < (s.setLease e l).canon :=
  canon_mk (partsCanon_of_canon hs)

theorem canon_takeLease (kind owner part pool base len : Nat) {s t : State} (hs : 0 < s.canon)
    (h : takeLease kind owner part pool base len s = some t) : 0 < t.canon := by
  obtain ⟨e, -, rfl⟩ := Option.map_eq_some_iff.mp h
  exact canon_setLease _ _ hs

@[bound] theorem canon_dropLease (e : Nat) (hs : 0 < s.canon) : 0 < (dropLease e s).canon := canon_setLease _ _ hs

@[bound] theorem canon_completeRelease (e : Nat) (hs : 0 < s.canon) : 0 < (completeRelease e s).canon :=
  canon_raiseWith _ _ _ (canon_dropLease _ hs)

@[bound] theorem canon_releaseObject (kind owner : Nat) (hs : 0 < s.canon) : 0 < (releaseObject kind owner s).canon :=
  canon_ite (canon_raiseWith _ _ _ (canon_foldl hs (fun _ _ hu => canon_setLease _ _ hu))) (canon_foldl hs (fun _ _ hu =>
    canon_setLease _ _ hu))

@[bound] theorem canon_fenceLeases (hs : 0 < s.canon) : 0 < (fenceLeases s).canon :=
  canon_foldl hs fun _ _ hu => canon_ite (canon_setLease _ _ hu) hu

@[bound] theorem canon_setCtxState (ctx v : Nat) (hs : 0 < s.canon) : 0 < (setCtxState ctx v s).canon := canon_set _ _ hs

@[bound] theorem canon_writeSave (ctx st point code : Nat) (lease : Option Nat) (addr : Nat) (hs : 0 < s.canon) :
    0 < (writeSave ctx st point code lease addr s).canon := by
  unfold writeSave
  split
  · exact canon_poolWrite _ _ _ (canon_mk (partsCanon_of_canon (canon_mk (partsCanon_of_canon hs))))
  · exact hs

@[bound] theorem canon_countPark (ctx : Nat) (hs : 0 < s.canon) : 0 < (countPark ctx s).canon :=
  canon_set _ _ (canon_mk (partsCanon_of_canon hs))

@[bound] theorem canon_clearParks (hs : 0 < s.canon) : 0 < (clearParks s).canon :=
  canon_foldl (canon_mk (partsCanon_of_canon hs)) fun _ _ hu => canon_set _ _ hu

@[bound] theorem canon_parkEngine (ctx point : Nat) (hs : 0 < s.canon) : 0 < (parkEngine ctx point s).canon :=
  canon_mk (partsCanon_of_canon (canon_setCtxState _ _ (canon_writeSave _ _ _ _ _ _ (canon_countPark _ hs))))

@[bound] theorem canon_emptySave (ctx : Nat) (hs : 0 < s.canon) : 0 < (emptySave ctx s).canon := by
  unfold emptySave
  split
  · exact canon_ite (canon_poolWrite _ _ _ hs) hs
  · exact hs

@[bound] theorem canon_clearSaves (hs : 0 < s.canon) : 0 < (clearSaves s).canon :=
  canon_foldl (canon_mk (partsCanon_of_canon (canon_foldl hs (fun _ _ hu => canon_emptySave _ hu)))) fun _ _ hu =>
    canon_setCtxState _ _ hu

@[bound] theorem canon_xlatFault (ctx code : Nat) (lease : Option Nat) (addr point : Nat) (hs : 0 < s.canon) :
    0 < (xlatFault ctx code lease addr point s).canon :=
  canon_ite (canon_writeSave _ _ _ _ _ _ (canon_countPark _ (canon_raisePerMs _ _ _ (canon_bump _ (canon_setWord _ _
    (canon_setWord _ _ (canon_setWord _ _ hs))))))) (canon_raisePerMs _ _ _ (canon_bump _ (canon_setWord _ _ (canon_setWord
    _ _ (canon_setWord _ _ hs)))))

@[bound] theorem canon_resumeSave (ctx point : Nat) (hs : 0 < s.canon) : 0 < pairCanon (resumeSave ctx point s) :=
  pairCanon_ite (canon_pair (canon_emptySave _ (canon_setCtxState _ _ (canon_mk (partsCanon_of_canon hs))))) (canon_pair
    (canon_raiseWith _ _ _ (canon_xlatFault _ _ _ _ _ (canon_setCtxState _ _ (canon_mk (partsCanon_of_canon hs))))))

@[bound] theorem canon_resumeAt (ctx point : Nat) (hs : 0 < s.canon) : 0 < pairCanon (resumeAt ctx point s) :=
  pairCanon_ite (canon_resumeSave _ _ hs) (canon_pair hs)

/-! ## Power -/

@[bound] theorem canon_settlePower (hs : 0 < s.canon) : 0 < (settlePower s).canon := canon_mk (partsCanon_of_canon hs)

@[bound] theorem canon_enqueueItem (role : Nat) (q : QueuedItem) (hs : 0 < s.canon) : 0 < (enqueueItem role q s).canon := by
  unfold enqueueItem
  dsimp only
  aesop (rule_sets := [Bound, -default]) (config := alongState)

@[bound] theorem canon_enqueueAll (role : Nat) (items : List WorkItem) (hs : 0 < s.canon) :
    0 < (enqueueAll role items s).canon :=
  canon_foldl (canon_foldl hs (fun _ _ hu => canon_setBlock _ _ hu)) fun _ _ hu => canon_enqueueItem _ _ hu

@[bound] theorem canon_updateCapped (hs : 0 < s.canon) : 0 < (updateCapped s).canon := canon_setCond _ _ hs

@[bound] theorem canon_beginDvfs {before s : State} (hs : 0 < s.canon) : 0 < (beginDvfs before s).canon :=
  canon_updateCapped (canon_foldl hs (fun _ _ hu => canon_mk (partsCanon_of_canon hu)))

@[bound] theorem canon_dvfsDone (k : Nat) (hs : 0 < s.canon) : 0 < (dvfsDone k s).canon := canon_mk (partsCanon_of_canon hs)

/-! ## The plank -/

@[bound] theorem canon_plankStatus (n result busy refuse : Nat) (hs : 0 < s.canon) :
    0 < (s.plankStatus n result busy refuse).canon :=
  canon_set _ _ (canon_set _ _ (canon_set _ _ hs))

@[bound] theorem canon_stageBand (n : Nat) (o : PlankOp) (hs : 0 < s.canon) : 0 < (stageBand n o s).canon := by
  unfold stageBand
  dsimp only
  aesop (rule_sets := [Bound, -default]) (config := alongState)

@[bound] theorem canon_plankStart (n : Nat) (hs : 0 < s.canon) : 0 < pairCanon (plankStart n s) := by
  unfold plankStart
  dsimp only
  aesop (rule_sets := [Bound, -default]) (config := alongState)

@[bound] theorem canon_pixelWrite (f : Surface) (x y v : Nat) (hs : 0 < s.canon) : 0 < (s.pixelWrite f x y v).canon := by
  unfold State.pixelWrite
  split
  · exact hs
  · exact canon_poolWrite _ _ _ hs

@[bound] theorem canon_plankRow {before : State} (p : PlankParams) (r : Nat) (hs : 0 < s.canon) :
    0 < (plankRow before p s r).canon := by
  unfold plankRow
  refine canon_foldl hs fun _ _ hu => ?_
  split
  · exact canon_pixelWrite _ _ _ _ hu
  · exact hu

@[bound] theorem canon_plankEnd (n result : Nat) (hs : 0 < s.canon) : 0 < (plankEnd n result s).canon :=
  canon_settlePower (canon_raise _ (canon_plankStatus _ _ _ _ (canon_mk (partsCanon_of_canon hs))))

@[bound] theorem canon_plankScramble (o : PlankOp) (hs : 0 < s.canon) : 0 < (plankScramble o s).canon := by
  unfold plankScramble
  refine canon_ite hs (canon_foldl hs (fun _ _ hu => ?_))
  split
  · exact hu
  · exact canon_poolWrite _ _ _ (canon_mk (partsCanon_of_canon hu))

@[bound] theorem canon_plankFault (n : Nat) (hs : 0 < s.canon) : 0 < (plankFault n s).canon := by
  unfold plankFault
  split
  · exact hs
  · exact canon_plankEnd _ _ (canon_raise _ (canon_plankScramble _ hs))

@[bound] theorem canon_plankBand (n : Nat) (hs : 0 < s.canon) : 0 < (plankBand n s).canon := by
  unfold plankBand
  aesop (rule_sets := [Bound, -default]) (config := alongState)

@[bound] theorem canon_plankAbort (n : Nat) (hs : 0 < s.canon) : 0 < pairCanon (plankAbort n s) := by
  unfold plankAbort
  split
  · exact canon_okay hs
  · exact canon_okay (canon_plankEnd _ _ (canon_plankScramble _ hs))

@[bound] theorem canon_plankCtrl (n : Nat) (v : Word) (hs : 0 < s.canon) : 0 < pairCanon (plankCtrl n v s) :=
  pairCanon_ite (canon_plankStart _ (canon_ite (canon_snd (canon_plankAbort _ hs)) hs)) (canon_okay (canon_ite (canon_snd
    (canon_plankAbort _ hs)) hs))

@[bound] theorem canon_plankPowered (n : Nat) (hs : 0 < s.canon) : 0 < (plankPowered n s).canon := by
  unfold plankPowered
  split
  · exact hs
  · exact canon_mk (partsCanon_of_canon (canon_ite (canon_stageBand _ _ hs) hs))

@[bound] theorem canon_ovFrontWrite (o : Nat) (v : Word) (hs : 0 < s.canon) : 0 < pairCanon (ovFrontWrite o v s) :=
  pairCanon_ite (canon_refuse _ hs) (pairCanon_ite (canon_refuse _ hs) (pairCanon_ite (canon_refuse _ hs) (canon_okay
    (canon_stageWrite _ _ hs))))

@[bound] theorem canon_overlayUnit (st : Nat) (data : Tab (Option Nat)) (hs : 0 < s.canon) :
    0 < (overlayUnit st data s).canon := by
  unfold overlayUnit
  dsimp only
  aesop (rule_sets := [Bound, -default]) (config := alongState)

@[bound] theorem canon_takeFronts (hs : 0 < s.canon) : 0 < (takeFronts s).canon := by
  unfold takeFronts
  refine canon_foldl hs fun _ _ hu => ?_
  split
  · exact hu
  · exact canon_ite (canon_commit _ hu) (canon_raiseWith _ _ _ (canon_commit _ hu))

end

end Sys2Proof.Machine
end

section
/-! SUPPORT. The canonical form is kept by what the model is built of:
geometry, the conformer, the panel and the encoder. -/

namespace Sys2Proof.Machine

section
variable {s : State}

/-! ## Geometry -/

@[bound] theorem canon_geomWordWrite (n : Nat) (v : Word) (hs : 0 < s.canon) : 0 < pairCanon (geomWordWrite n v s) :=
  pairCanon_ite (canon_refuse _ hs) (canon_okay (canon_stageWrite _ _ hs))

@[bound] theorem canon_geomDrop (hs : 0 < s.canon) : 0 < (geomDrop s).canon := canon_set _ _ (canon_unstageAll _ hs)

@[bound] theorem canon_geomArm (hs : 0 < s.canon) : 0 < pairCanon (geomArm s) :=
  pairCanon_ite (canon_refuse _ hs) (pairCanon_ite (canon_okay hs) (canon_okay (canon_set _ _ hs)))

@[bound] theorem canon_geomDiscard (hs : 0 < s.canon) : 0 < pairCanon (geomDiscard s) := canon_okay (canon_geomDrop hs)

@[bound] theorem canon_geomCtrlWrite (v : Word) (hs : 0 < s.canon) : 0 < pairCanon (geomCtrlWrite v s) :=
  pairCanon_ite (canon_refuse _ hs) (pairCanon_ite (canon_geomArm hs) (pairCanon_ite (canon_geomDiscard hs) (canon_okay hs)))

@[bound] theorem canon_newMapping (hs : 0 < s.canon) : 0 < (newMapping s).canon :=
  canon_ite (canon_set _ _ hs) (canon_raise _ (canon_set _ _ hs))

@[bound] theorem canon_napLimited (hs : 0 < s.canon) : 0 < (napLimited s).canon := canon_ite (canon_set _ _ hs) hs

@[bound] theorem canon_writeMapCopy (copy : Nat) (bs : List Byte) (hs : 0 < s.canon) : 0 < (writeMapCopy copy bs s).canon := by
  unfold writeMapCopy
  split
  · exact hs
  · exact canon_poolWrite _ _ _ hs

@[bound] theorem canon_storeMap (hs : 0 < s.canon) : 0 < (storeMap s).canon := canon_writeMapCopy _ _ hs

@[bound] theorem canon_installGeom (bs : List Byte) (hs : 0 < s.canon) : 0 < (installGeom bs s).canon := by
  unfold installGeom
  aesop (rule_sets := [Bound, -default]) (config := alongState)

@[bound] theorem canon_geomTake (hs : 0 < s.canon) : 0 < pairCanon (geomTake s) :=
  pairCanon_ite (canon_pair hs) (pairCanon_ite (canon_pair (canon_newMapping (canon_set _ _ (canon_installGeom _ (canon_set
    _ _ (canon_geomDrop hs)))))) (canon_pair (canon_raise _ (canon_set _ _ (canon_geomDrop hs)))))

/-! ## The conformer -/

@[bound] theorem canon_withConf (c : ConfState) (hs : 0 < s.canon) : 0 < (s.withConf c).canon :=
  canon_mk (partsCanon_of_canon hs)

@[bound] theorem canon_setFrame (h : Nat) (f : FrameEntry) (hs : 0 < s.canon) : 0 < (s.setFrame h f).canon :=
  canon_withConf _ hs

@[bound] theorem canon_mapReject (code entry : Nat) (hs : 0 < s.canon) : 0 < (mapReject code entry s).canon :=
  canon_raise _ (canon_set _ _ (canon_set _ _ (canon_set _ _ (canon_set _ _ (canon_withConf _ hs)))))

@[bound] theorem canon_mapArm (hs : 0 < s.canon) : 0 < pairCanon (mapArm s) := by
  unfold mapArm
  aesop (rule_sets := [Bound, -default]) (config := alongState)

@[bound] theorem canon_mapDrop (hs : 0 < s.canon) : 0 < (mapDrop s).canon :=
  canon_set _ _ (canon_set _ _ (canon_withConf _ hs))

@[bound] theorem canon_mapDiscard (hs : 0 < s.canon) : 0 < pairCanon (mapDiscard s) := canon_okay (canon_mapDrop hs)

@[bound] theorem canon_mapCtrlWrite (v : Word) (hs : 0 < s.canon) : 0 < pairCanon (mapCtrlWrite v s) :=
  pairCanon_ite (canon_refuse _ hs) (pairCanon_ite (canon_mapArm hs) (pairCanon_ite (canon_mapDiscard hs) (canon_okay hs)))

@[bound] theorem canon_mapSrcWrite (a : Nat) (v : Word) (hs : 0 < s.canon) : 0 < pairCanon (mapSrcWrite a v s) :=
  pairCanon_ite (canon_refuse _ hs) (pairCanon_ite (pairCanon_ite (canon_refuse _ hs) (canon_okay (canon_setWord _ _ hs)))
    (canon_okay (canon_set _ _ (canon_set _ _ hs))))

@[bound] theorem canon_mapCheckDone (hs : 0 < s.canon) : 0 < (mapCheckDone s).canon := by
  unfold mapCheckDone
  split
  · exact hs
  · refine canon_ite hs (canon_ite (canon_mapReject _ _ hs) ?_)
    split
    · exact canon_set _ _ (canon_set _ _ (canon_set _ _ hs))
    · exact canon_mapReject _ _ hs

@[bound] theorem canon_mapTakeBytes (bs : List Byte) (source : Nat) (hs : 0 < s.canon) :
    0 < (mapTakeBytes bs source s).canon := by
  unfold mapTakeBytes
  exact canon_newMapping (canon_raise _ (canon_set _ _ (canon_withConf _ hs)))

@[bound] theorem canon_mapTake (hs : 0 < s.canon) : 0 < (mapTake s).canon := by
  unfold mapTake
  split
  · exact canon_ite (canon_mapReject _ _ hs) (canon_mapDrop (canon_mapTakeBytes _ _ hs))
  · exact hs

@[bound] theorem canon_colourWrite (a : Nat) (v : Word) (hs : 0 < s.canon) : 0 < pairCanon (colourWrite a v s) :=
  pairCanon_ite (canon_refuse _ hs) (pairCanon_ite (pairCanon_ite (canon_refuse _ hs) (canon_okay (canon_stageWrite _ _
    hs))) (pairCanon_ite (pairCanon_ite (canon_refuse _ hs) (canon_okay (canon_stageWrite _ _ hs))) (pairCanon_ite
    (canon_okay (canon_stageWrite _ _ hs)) (canon_okay (canon_stageWrite _ _ hs)))))

@[bound] theorem canon_colourDrop (hs : 0 < s.canon) : 0 < (colourDrop s).canon := canon_set _ _ (canon_unstageAll _ hs)

@[bound] theorem canon_stageMatrix (hs : 0 < s.canon) : 0 < (stageMatrix s).canon :=
  canon_foldl hs fun _ _ hu => canon_stage _ _ hu

@[bound] theorem canon_colourArm (hs : 0 < s.canon) : 0 < pairCanon (colourArm s) :=
  pairCanon_ite (canon_refuse _ hs) (canon_okay (canon_set _ _ (canon_stageMatrix hs)))

@[bound] theorem canon_colourDiscard (hs : 0 < s.canon) : 0 < pairCanon (colourDiscard s) := canon_okay (canon_colourDrop hs)

@[bound] theorem canon_colCtrlWrite (v : Word) (hs : 0 < s.canon) : 0 < pairCanon (colCtrlWrite v s) :=
  pairCanon_ite (canon_refuse _ hs) (pairCanon_ite (canon_colourArm hs) (pairCanon_ite (canon_colourDiscard hs) (canon_okay
    hs)))

@[bound] theorem canon_colourTake (hs : 0 < s.canon) : 0 < (colourTake s).canon :=
  canon_ite hs (canon_raise _ (canon_set _ _ (canon_set _ _ (canon_commitAll _ hs))))

@[bound] theorem canon_stagePoolWrite (v : Word) (hs : 0 < s.canon) : 0 < pairCanon (stagePoolWrite v s) := by
  unfold stagePoolWrite
  refine pairCanon_ite (canon_refuse _ hs) (pairCanon_ite (canon_refuse _ hs) ?_)
  split
  · exact canon_refuse _ hs
  · exact pairCanon_ite (canon_refuse _ hs) (canon_okay (canon_storeMap (canon_withConf _ (canon_set _ _ (canon_set _ _
      (canon_set _ _ hs))))))

@[bound] theorem canon_refPixel (g : Geom) (px py : Nat) (hs : 0 < s.canon) : 0 < pairCanon (refPixel g px py s) := by
  unfold refPixel
  split
  · exact canon_pair hs
  · exact canon_pair (canon_mk (partsCanon_of_canon hs))

@[bound] theorem canon_setRefPixel (g : Geom) (px py v : Nat) (hs : 0 < s.canon) : 0 < (setRefPixel g px py v s).canon := by
  unfold setRefPixel
  split
  · exact canon_poolWrite _ _ _ hs
  · exact hs

@[bound] theorem canon_setFramePixel (g : Geom) (h px py v : Nat) (hs : 0 < s.canon) :
    0 < (setFramePixel g h px py v s).canon := by
  unfold setFramePixel
  split
  · exact canon_poolWrite _ _ _ hs
  · exact hs

@[bound] theorem canon_writeNapMap (g : Geom) (h : Nat) (dirty : List Nat) (hs : 0 < s.canon) :
    0 < (writeNapMap g h dirty s).canon := by
  unfold writeNapMap
  split
  · exact canon_poolWrite _ _ _ hs
  · exact hs

@[bound] theorem canon_poisonPixel (g : Geom) (h px py : Nat) (hs : 0 < s.canon) : 0 < (poisonPixel g h px py s).canon := by
  unfold poisonPixel
  split
  · exact canon_poisonWord _ (canon_poisonWord _ hs)
  · exact hs

@[bound] theorem canon_fillPixel (g : Geom) (h : Nat) (f : FrameEntry) (p : Nat × Nat) (hs : 0 < s.canon) :
    0 < (fillPixel g h f s p).canon := by
  unfold fillPixel
  refine canon_ite (canon_poisonPixel _ _ _ _ (canon_setFramePixel _ _ _ _ _ (canon_snd ?_))) (canon_setFramePixel _ _ _ _
    _ (canon_snd ?_))
  · split
    · exact canon_pair hs
    · exact canon_pair (canon_mk (partsCanon_of_canon hs))
  · split
    · exact canon_pair hs
    · exact canon_pair (canon_mk (partsCanon_of_canon hs))

@[bound] theorem canon_dirtyTiles (h : Nat) (ts : List Nat) (hs : 0 < s.canon) : 0 < (dirtyTiles h ts s).canon :=
  canon_writeNapMap _ _ _ (canon_setFrame _ _ (canon_ite (canon_set _ _ (canon_foldl hs (fun _ _ hu => canon_foldl hu (fun
    _ _ hu => canon_fillPixel _ _ _ _ hu)))) (canon_foldl hs (fun _ _ hu => canon_foldl hu (fun _ _ hu => canon_fillPixel _
    _ _ _ hu)))))

@[bound] theorem canon_oweTilesTo (dest : Option Nat) (ts : List Nat) (hs : 0 < s.canon) :
    0 < (oweTilesTo dest ts s).canon := by
  unfold oweTilesTo
  split
  · exact canon_dirtyTiles _ _ hs
  · exact canon_withConf _ hs

@[bound] theorem canon_oweTiles (ts : List Nat) (hs : 0 < s.canon) : 0 < (oweTiles ts s).canon := canon_oweTilesTo _ _ hs

@[bound] theorem canon_stageWait (hs : 0 < s.canon) : 0 < (stageWait s).canon :=
  canon_ite hs (canon_raise _ (canon_bump _ (canon_withConf _ hs)))

@[bound] theorem canon_startFrame (h : Nat) (launch target : Option Nat) (late : Bool) (insts : List Instant)
    (hs : 0 < s.canon) : 0 < (startFrame h launch target late insts s).canon :=
  canon_enqueueAll _ _ (canon_withConf _ (canon_setFrame _ _ hs))

@[bound] theorem canon_pixelDone (g : Geom) (h : Nat) (f : FrameEntry) (dirty : Bool) (p : Nat × Nat) (hs : 0 < s.canon) :
    0 < (pixelDone g h f dirty s p).canon := by
  unfold pixelDone
  aesop (rule_sets := [Bound, -default]) (config := alongState)

@[bound] theorem canon_frameComplete (h : Nat) (hs : 0 < s.canon) : 0 < (frameComplete h s).canon := by
  unfold frameComplete
  aesop (rule_sets := [Bound, -default]) (config := alongState)

@[bound] theorem canon_confItemDone (h tile : Nat) (withheld : Bool) (hs : 0 < s.canon) :
    0 < pairCanon (confItemDone h tile withheld s) := by
  unfold confItemDone
  dsimp only
  aesop (rule_sets := [Bound, -default]) (config := alongState)

@[bound] theorem canon_releaseFrame (h : Nat) (hs : 0 < s.canon) : 0 < (releaseFrame h s).canon :=
  canon_withConf _ (canon_dropWork _ hs)

@[bound] theorem canon_discardFor (dest : Option Nat) (h : Nat) (hs : 0 < s.canon) : 0 < (discardFor dest h s).canon :=
  canon_ite hs (canon_ite (canon_oweTilesTo _ _ (canon_raise _ (canon_bump _ (canon_releaseFrame _ hs))))
    (canon_releaseFrame _ hs))

@[bound] theorem canon_discardFrame (h : Nat) (hs : 0 < s.canon) : 0 < (discardFrame h s).canon := canon_discardFor _ _ hs

/-! ## Lanes -/

@[bound] theorem canon_setTx (n : Nat) (t : TxState) (hs : 0 < s.canon) : 0 < (s.setTx n t).canon := canon_setLink _ _ hs

@[bound] theorem canon_layTo (n limit : Nat) (hs : 0 < s.canon) : 0 < (layTo n limit s).canon :=
  canon_ite hs (canon_emit _ (canon_setTx _ _ hs))

@[bound] theorem canon_layNow (n : Nat) (hs : 0 < s.canon) : 0 < (layNow n s).canon := canon_layTo _ _ hs

@[bound] theorem canon_setBursts (n : Nat) (on : Bool) (hs : 0 < s.canon) : 0 < (setBursts n on s).canon :=
  canon_setLink _ _ (canon_layNow _ hs)

@[bound] theorem canon_freshTx (n : Nat) (on : Bool) (hs : 0 < s.canon) : 0 < (freshTx n on s).canon :=
  canon_setLink _ _ (canon_layNow _ hs)

@[bound] theorem canon_sendRows (n start : Nat) (push : Bool) (rows : List (List Symbol)) (hs : 0 < s.canon) :
    0 < (sendRows n start push rows s).canon :=
  canon_setTx _ _ hs

@[bound] theorem canon_cutPush (hs : 0 < s.canon) : 0 < (cutPush s).canon := canon_setTx _ _ (canon_layNow _ hs)

@[bound] theorem canon_beginPeriod (n aseq flags : Nat) (hold : Option Nat) (hs : 0 < s.canon) :
    0 < (beginPeriod n aseq flags hold s).canon :=
  canon_layTo _ _ (canon_setLink _ _ (canon_layTo _ _ hs))

/-! ## The panel -/

@[bound] theorem canon_withPanel (p : PanelState) (hs : 0 < s.canon) : 0 < (s.withPanel p).canon :=
  canon_mk (partsCanon_of_canon hs)

@[bound] theorem canon_withOpen (o : Option OpenFrame) (hs : 0 < s.canon) : 0 < (s.withOpen o).canon := canon_withPanel _ hs

@[bound] theorem canon_sendPacket (header data : List Byte) (d : Nat) (hs : 0 < s.canon) :
    0 < (sendPacket header data d s).canon :=
  canon_emit _ (canon_sendRows _ _ _ _ (canon_withPanel _ hs))

@[bound] theorem canon_sendAbort (frame reason : Nat) (hs : 0 < s.canon) : 0 < (sendAbort frame reason s).canon :=
  canon_emit _ (canon_withPanel _ (canon_sendRows _ _ _ _ (canon_cutPush hs)))

@[bound] theorem canon_compLevel (hs : 0 < s.canon) : 0 < (compLevel s).canon := canon_set _ _ hs

@[bound] theorem canon_backInvalid (hs : 0 < s.canon) : 0 < (backInvalid s).canon := canon_raise _ (canon_set _ _ hs)

@[bound] theorem canon_dropOpen (hs : 0 < s.canon) : 0 < (dropOpen s).canon := by
  unfold dropOpen
  split
  · exact hs
  · exact canon_discardFrame _ (canon_withOpen _ hs)

@[bound] theorem canon_dropEntries (hs : 0 < s.canon) : 0 < (dropEntries s).canon := by
  unfold dropEntries
  refine canon_foldl ?_ fun _ _ hu => canon_ite (canon_discardFrame _ hu) hu
  split
  · exact canon_ite hs (canon_dropOpen (canon_sendAbort _ _ hs))
  · exact hs

@[bound] theorem canon_panelHold (hs : 0 < s.canon) : 0 < (panelHold s).canon := by
  unfold panelHold
  refine canon_ite hs (canon_emit _ (canon_withPanel _ ?_))
  split
  · exact canon_dropOpen (canon_ite (canon_sendAbort _ _ hs) hs)
  · exact hs

@[bound] theorem canon_sendBegin (restart : Bool) (o : OpenFrame) (hs : 0 < s.canon) : 0 < (sendBegin restart o s).canon :=
  canon_sendPacket _ _ _ (canon_withPanel _ hs)

@[bound] theorem canon_restartFrame (hs : 0 < s.canon) : 0 < (restartFrame s).canon := by
  unfold restartFrame
  split
  · exact hs
  · exact canon_ite (canon_raise _ (canon_bump _ (canon_dropOpen (canon_sendAbort _ _ hs)))) (canon_sendBegin _ _
      (canon_set _ _ (canon_raise _ (canon_bump _ (canon_setFrame _ _ (canon_withOpen _ (canon_ite (canon_dirtyTiles _ _
      hs) hs)))))))

@[bound] theorem canon_abortFrame (reason : Nat) (hs : 0 < s.canon) : 0 < (abortFrame reason s).canon := by
  unfold abortFrame
  split
  · exact hs
  · exact canon_withOpen _ (canon_sendAbort _ _ hs)

@[bound] theorem canon_capsFail (hs : 0 < s.canon) : 0 < (capsFail s).canon :=
  canon_raise _ (canon_set _ _ (canon_set _ _ hs))

@[bound] theorem canon_capsCheck (b : List Byte) (hs : 0 < s.canon) : 0 < (capsCheck b s).canon :=
  canon_ite (canon_raise _ (canon_compLevel (canon_set _ _ (canon_set _ _ (canon_foldl hs (fun _ _ hu => canon_setWord _ _
    hu)))))) (canon_capsFail hs)

@[bound] theorem canon_capsRecheck (hs : 0 < s.canon) : 0 < (capsRecheck s).canon := by
  unfold capsRecheck
  split
  · exact canon_capsCheck _ hs
  · exact hs

@[bound] theorem canon_sendQuery (hs : 0 < s.canon) : 0 < (sendQuery s).canon := canon_withPanel _ (canon_sendPacket _ _ _ hs)

@[bound] theorem canon_discover (hs : 0 < s.canon) : 0 < (discover s).canon :=
  canon_ite (canon_sendQuery (canon_withPanel _ hs)) hs

@[bound] theorem canon_panelCtrlWrite (v : Word) (hs : 0 < s.canon) : 0 < pairCanon (panelCtrlWrite v s) :=
  canon_okay (canon_ite (canon_discover hs) hs)

@[bound] theorem canon_panelCfgWrite (v : Word) (hs : 0 < s.canon) : 0 < pairCanon (panelCfgWrite v s) :=
  pairCanon_ite (canon_refuse _ hs) (pairCanon_ite (canon_refuse _ hs) (canon_okay (canon_compLevel (canon_set _ _
    (canon_set _ _ (canon_set _ _ (canon_set _ _ hs)))))))

@[bound] theorem canon_panelLinkUp (hs : 0 < s.canon) : 0 < (panelLinkUp s).canon := canon_discover (canon_withPanel _ hs)

@[bound] theorem canon_panelLinkLost (hs : 0 < s.canon) : 0 < (panelLinkLost s).canon := canon_dropOpen (canon_withPanel _ hs)

/-! ## Afloth frames as they are sent -/

@[bound] theorem canon_aflEmit (k : Nat) (bytes : List Byte) (hs : 0 < s.canon) : 0 < (aflEmit k bytes s).canon :=
  canon_ite (canon_emit _ (canon_setLink _ _ (canon_sendRows _ _ _ _ hs))) (canon_bump _ hs)

@[bound] theorem canon_nextSeq (type : Nat) (hs : 0 < s.canon) : 0 < pairCanon (nextSeq type s) := by
  unfold nextSeq
  split
  · exact canon_pair (canon_mk (partsCanon_of_canon hs))
  · exact canon_pair (canon_mk (partsCanon_of_canon (canon_mk (partsCanon_of_canon hs))))

@[bound] theorem canon_aflSend (type param : Nat) (data : List Byte) (links : List Nat) (hs : 0 < s.canon) :
    0 < (aflSend type param data links s).canon := by
  unfold aflSend
  refine canon_foldl (canon_snd ?_) fun _ _ hu => canon_ite hu (canon_aflEmit _ _ hu)
  split
  · exact canon_pair (canon_mk (partsCanon_of_canon hs))
  · exact canon_pair (canon_mk (partsCanon_of_canon (canon_mk (partsCanon_of_canon hs))))

@[bound] theorem canon_aflRelay (type origin hops seq : Nat) (data : List Byte) (hs : 0 < s.canon) :
    0 < (aflRelay type origin hops seq data s).canon :=
  canon_ite hs (canon_foldl hs (fun _ _ hu => canon_ite (canon_aflEmit _ _ hu) hu))

@[bound] theorem canon_awaitedLevel (hs : 0 < s.canon) : 0 < (awaitedLevel s).canon := canon_set _ _ hs

@[bound] theorem canon_newToken (t : TokenRec) (hs : 0 < s.canon) : 0 < (newToken t s).canon :=
  canon_awaitedLevel (canon_mk (partsCanon_of_canon hs))

@[bound] theorem canon_sendPlan (edge : Nat) (launch : Option Nat) (lframe : Nat) (hs : 0 < s.canon) :
    0 < (sendPlan edge launch lframe s).canon :=
  canon_aflSend _ _ _ _ (canon_newToken _ hs)

@[bound] theorem canon_recordDone (d : Nat) (hs : 0 < s.canon) : 0 < (recordDone d s).canon :=
  canon_awaitedLevel (canon_mk (partsCanon_of_canon hs))

@[bound] theorem canon_sendDone (status : Nat) (hs : 0 < s.canon) : 0 < (sendDone status s).canon := by
  unfold sendDone
  split
  · exact hs
  · exact canon_ite (canon_recordDone _ (canon_mk (partsCanon_of_canon hs))) (canon_aflSend _ _ _ _ (canon_mk
      (partsCanon_of_canon hs)))

/-! ## The confidence encoder -/

@[bound] theorem canon_withEnc (e : EncState) (hs : 0 < s.canon) : 0 < (s.withEnc e).canon :=
  canon_mk (partsCanon_of_canon hs)

@[bound] theorem canon_dropAssist (p : Nat → Bool) (hs : 0 < s.canon) : 0 < (dropAssist p s).canon := canon_dropWork _ hs

@[bound] theorem canon_encTrigger (regs : Tab Word) (hs : 0 < s.canon) : 0 < (encTrigger regs s).canon :=
  canon_ite (canon_set _ _ (canon_withEnc _ (canon_enqueueAll _ _ (canon_dropAssist _ hs)))) hs

@[bound] theorem canon_sampleMapBuilt (hs : 0 < s.canon) : 0 < (sampleMapBuilt s).canon := by
  unfold sampleMapBuilt
  split
  · exact hs
  · exact canon_raise _ (canon_bumpBy _ _ (canon_withConf _ (canon_set _ _ (canon_set _ _ (canon_withEnc _
      (canon_dropAssist _ hs))))))

@[bound] theorem canon_encFlip (h : Nat) (hs : 0 < s.canon) : 0 < (encFlip h s).canon := by
  unfold encFlip
  dsimp only
  aesop (rule_sets := [Bound, -default]) (config := alongState)

@[bound] theorem canon_encStart (time : Nat) (hs : 0 < s.canon) : 0 < (encStart time s).canon :=
  canon_withEnc _ (canon_enqueueAll _ _ (canon_set _ _ (canon_set _ _ (canon_mk (partsCanon_of_canon (canon_snd
    (pairCanon_foldl (canon_pair hs) (fun _ _ hu => canon_pair (canon_mk (partsCanon_of_canon (canon_snd hu)))))))))))

@[bound] theorem canon_encFence (time : Nat) (hs : 0 < s.canon) : 0 < (encFence time s).canon :=
  canon_ite hs (canon_ite (canon_withEnc _ hs) (canon_ite (canon_raise _ (canon_bump _ (canon_withEnc _ hs)))
    (canon_encStart _ (canon_withEnc _ hs))))

@[bound] theorem canon_encEnd (p : EncPicture) (hs : 0 < s.canon) : 0 < (encEnd p s).canon := by
  unfold encEnd
  refine canon_set _ _ (canon_withEnc _ (canon_snd ?_))
  split
  · exact canon_pair (canon_ite (canon_raise _ (canon_bump _ (canon_set _ _ hs))) hs)
  · exact canon_pair (canon_mk (partsCanon_of_canon (canon_ite (canon_raise _ (canon_bump _ (canon_set _ _ hs))) hs)))

@[bound] theorem canon_encRowDone (bits : Nat) (bytes : List Byte) (hs : 0 < s.canon) :
    0 < (encRowDone bits bytes s).canon := by
  unfold encRowDone
  dsimp only
  aesop (rule_sets := [Bound, -default]) (config := alongState)

@[bound] theorem canon_encSend (hs : 0 < s.canon) : 0 < (encSend s).canon := by
  unfold encSend
  split
  · exact hs
  · exact canon_ite hs (canon_ite (canon_bump _ (canon_withEnc _ hs)) (canon_emit _ (canon_ite (canon_raise _ (canon_bump _
      (canon_withEnc _ hs))) (canon_withEnc _ hs))))

@[bound] theorem canon_encArm (regs : Tab Word) (hs : 0 < s.canon) : 0 < (encArm regs s).canon :=
  canon_encTrigger _ (canon_set _ _ (canon_set _ _ (canon_withEnc _ (canon_dropAssist _ hs))))

@[bound] theorem canon_encDisarm (hs : 0 < s.canon) : 0 < (encDisarm s).canon :=
  canon_set _ _ (canon_set _ _ (canon_withEnc _ (canon_dropAssist _ hs)))

@[bound] theorem canon_encWrite (a : Nat) (v : Word) (hs : 0 < s.canon) : 0 < pairCanon (encWrite a v s) :=
  pairCanon_ite (canon_refuse _ hs) (pairCanon_ite (canon_refuse _ hs) (pairCanon_ite (canon_refuse _ hs) (pairCanon_ite
    (canon_refuse _ hs) (canon_okay (canon_stageWrite _ _ hs)))))

/-! ## Presentation -/

@[bound] theorem canon_withCard (c : CardState) (hs : 0 < s.canon) : 0 < (s.withCard c).canon :=
  canon_mk (partsCanon_of_canon hs)

@[bound] theorem canon_dropInstants (keep : Instant → Bool) (hs : 0 < s.canon) : 0 < (dropInstants keep s).canon :=
  canon_withCard _ hs

@[bound] theorem canon_dropCarried (t : Option Nat) (hs : 0 < s.canon) : 0 < (dropCarried t s).canon :=
  canon_dropInstants _ hs

@[bound] theorem canon_forgetLaunches (t : Nat) (hs : 0 < s.canon) : 0 < (forgetLaunches t s).canon :=
  canon_mk (partsCanon_of_canon hs)

@[bound] theorem canon_startLaunch (t : Option Nat) (hs : 0 < s.canon) : 0 < (startLaunch t s).canon := by
  unfold startLaunch
  split
  · exact canon_stageWait hs
  · refine canon_setFrame _ _ ?_
    split
    · exact canon_withConf _ (canon_forgetLaunches _ (canon_startFrame _ _ _ _ _ (canon_dropCarried _ hs)))
    · exact canon_startFrame _ _ _ _ _ (canon_dropCarried _ hs)

@[bound] theorem canon_startFree (hs : 0 < s.canon) : 0 < (startFree s).canon := canon_ite (canon_startLaunch _ hs) hs

@[bound] theorem canon_rayFrameStart (hs : 0 < s.canon) : 0 < (rayFrameStart s).canon := by
  unfold rayFrameStart
  refine canon_ite hs ?_
  split
  · exact canon_ite (canon_startLaunch _ hs) (canon_startFree hs)
  · exact canon_startFree hs

@[bound] theorem canon_markLate (t : Nat) (hs : 0 < s.canon) : 0 < (markLate t s).canon :=
  canon_withConf _ (canon_withCard _ (canon_foldl hs (fun _ _ hu => canon_raise _ (canon_bump _ hu))))

@[bound] theorem canon_memberNoFrame (hs : 0 < s.canon) : 0 < (memberNoFrame s).canon := by
  unfold memberNoFrame
  split
  · exact canon_ite (canon_sendDone _ hs) hs
  · exact hs

@[bound] theorem canon_buildDeadline (hs : 0 < s.canon) : 0 < (buildDeadline s).canon := by
  unfold buildDeadline
  refine canon_memberNoFrame (canon_ite hs ?_)
  split
  · exact canon_ite (canon_ite (canon_markLate _ hs) (canon_startLaunch _ (canon_markLate _ hs))) hs
  · exact hs

@[bound] theorem canon_retarget (h e t : Nat) (hs : 0 < s.canon) : 0 < (retarget h e t s).canon := by
  unfold retarget
  split
  · exact canon_setFrame _ _ hs
  · exact canon_setFrame _ _ hs

@[bound] theorem canon_frameLate (h e t : Nat) (hs : 0 < s.canon) : 0 < (frameLate h e t s).canon :=
  canon_ite (canon_retarget _ _ _ hs) (canon_ite (canon_ite (canon_discardFrame _ (canon_raise _ (canon_bump _ hs)))
    (canon_setFrame _ _ (canon_raise _ (canon_bump _ hs)))) (canon_ite (canon_retarget _ _ _ (canon_raise _ (canon_bump _
    hs))) (canon_setFrame _ _ (canon_raise _ (canon_bump _ hs)))))

@[bound] theorem canon_decideLate (h : Nat) (hs : 0 < s.canon) : 0 < (decideLate h s).canon := by
  unfold decideLate
  refine canon_ite hs ?_
  split
  · exact canon_ite hs (canon_frameLate _ _ _ hs)
  · split
    · exact canon_setFrame _ _ hs
    · exact hs

@[bound] theorem canon_frameReady (h : Nat) (hs : 0 < s.canon) : 0 < (frameReady h s).canon := by
  unfold frameReady
  refine canon_ite (canon_discardFrame _ (canon_setFrame _ _ (canon_dropInstants _ hs))) ?_
  split
  · exact canon_retarget _ _ _ (canon_setFrame _ _ (canon_dropInstants _ hs))
  · exact canon_decideLate _ (canon_setFrame _ _ (canon_dropInstants _ hs))

@[bound] theorem canon_lateAtSample (hs : 0 < s.canon) : 0 < (lateAtSample s).canon := by
  unfold lateAtSample
  dsimp only
  aesop (rule_sets := [Bound, -default]) (config := alongState)

@[bound] theorem canon_supersede (h k : Nat) (hs : 0 < s.canon) : 0 < (supersede h k s).canon :=
  canon_discardFor _ _ (canon_raise _ (canon_bump _ (canon_bump _ hs)))

@[bound] theorem canon_deferTiles (h : Nat) (hs : 0 < s.canon) : 0 < (deferTiles h s).canon :=
  canon_ite hs (canon_oweTiles _ (canon_bumpBy _ _ (canon_setFrame _ _ hs)))

@[bound] theorem canon_noteRow (ps : List Push) (hs : 0 < s.canon) : 0 < (noteRow ps s).canon := by
  unfold noteRow
  split
  · exact canon_withPanel _ hs
  · exact hs

@[bound] theorem canon_beginFrame (h e : Nat) (hs : 0 < s.canon) : 0 < (beginFrame h e s).canon := by
  unfold beginFrame
  aesop (rule_sets := [Bound, -default]) (config := alongState)

@[bound] theorem canon_dropEntry (h : Nat) (hs : 0 < s.canon) : 0 < (dropEntry h s).canon :=
  canon_discardFrame _ (canon_bump _ hs)

@[bound] theorem canon_beginFor (e h : Nat) (member : Bool) (hs : 0 < s.canon) : 0 < (beginFor e h member s).canon :=
  canon_ite hs (canon_ite (canon_frameLate _ _ _ hs) (canon_ite (canon_beginFrame _ _ (canon_foldl hs (fun _ _ hu =>
    canon_supersede _ _ hu))) (canon_dropEntry _ (canon_foldl hs (fun _ _ hu => canon_supersede _ _ hu)))))

@[bound] theorem canon_seekEdge (h : Nat) (hs : 0 < s.canon) : 0 < (seekEdge h s).canon := by
  unfold seekEdge
  refine canon_ite (canon_decideLate _ hs) ?_
  split
  · exact canon_retarget _ _ _ hs
  · exact hs

@[bound] theorem canon_frameBegin (hs : 0 < s.canon) : 0 < (frameBegin s).canon := by
  unfold frameBegin
  dsimp only
  aesop (rule_sets := [Bound, -default]) (config := alongState)

@[bound] theorem canon_pushPoisoned (a : Nat) (hs : 0 < s.canon) : 0 < (pushPoisoned a s).canon :=
  canon_abortFrame _ (canon_raise _ (canon_bump _ (canon_xlatFault _ _ _ _ _ hs)))

@[bound] theorem canon_sendPush (o : OpenFrame) (k : Nat) (p : Push) (raw : Nat) (form : List Byte × Bool) (whole : Bool)
    (hs : 0 < s.canon) : 0 < (sendPush o k p raw form whole s).canon :=
  canon_sendPacket _ _ _ (canon_withPanel _ hs)

@[bound] theorem canon_regionPush (arrived : Nat) (stream : Bool) (hs : 0 < s.canon) :
    0 < (regionPush arrived stream s).canon := by
  unfold regionPush
  aesop (rule_sets := [Bound, -default]) (config := alongState)

@[bound] theorem canon_pushUnderrun (hs : 0 < s.canon) : 0 < (pushUnderrun s).canon := by
  unfold pushUnderrun
  split
  · split
    · exact canon_ite (canon_abortFrame _ (canon_raise _ (canon_bump _ hs))) hs
    · exact hs
  · exact hs

@[bound] theorem canon_commitFrame (hs : 0 < s.canon) : 0 < (commitFrame s).canon := by
  unfold commitFrame
  split
  · exact hs
  · exact canon_sendPacket _ _ _ (canon_set _ _ (canon_setFrame _ _ (canon_withOpen _ hs)))

@[bound] theorem canon_frameCommit (hs : 0 < s.canon) : 0 < (frameCommit s).canon := by
  unfold frameCommit
  split
  · exact hs
  · exact canon_ite (canon_commitFrame hs) hs

@[bound] theorem canon_letCommit (o : OpenFrame) (hs : 0 < s.canon) : 0 < (letCommit o s).canon :=
  canon_frameCommit (canon_withOpen _ hs)

@[bound] theorem canon_returnError (hs : 0 < s.canon) : 0 < (returnError s).canon := canon_bump _ hs

@[bound] theorem canon_noteReturn (hs : 0 < s.canon) : 0 < (noteReturn s).canon := canon_withPanel _ hs

@[bound] theorem canon_commitComplete (front : Nat) (hs : 0 < s.canon) : 0 < (commitComplete front s).canon := by
  unfold commitComplete
  split
  · exact hs
  · exact canon_ite hs (canon_releaseFrame _ (canon_withPanel _ (canon_withOpen _ (canon_ite (canon_bump _ (canon_encFlip _
      hs)) (canon_encFlip _ hs)))))

@[bound] theorem canon_countFailure (k : Nat) (hs : 0 < s.canon) : 0 < (countFailure k s).canon := by
  unfold countFailure
  split
  · exact canon_ite (canon_raise _ (canon_bump _ hs)) hs
  · exact hs

@[bound] theorem canon_pushFailed (k : Nat) (hs : 0 < s.canon) : 0 < (pushFailed k s).canon := by
  unfold pushFailed
  split
  · exact hs
  · exact canon_ite hs (canon_ite (canon_withOpen _ (canon_raise _ (canon_bump _ hs))) (canon_ite (canon_abortFrame _
      (canon_withOpen _ (canon_raise _ (canon_bump _ hs)))) (canon_withOpen _ (canon_raise _ (canon_bump _ hs)))))

@[bound] theorem canon_statusDone (openNo applied : Nat) (hs : 0 < s.canon) : 0 < (statusDone openNo applied s).canon := by
  unfold statusDone
  split
  · exact canon_ite (canon_sendDone _ (canon_withOpen _ hs)) hs
  · exact hs

@[bound] theorem canon_statusBody (b : List Byte) (hs : 0 < s.canon) : 0 < (statusBody b s).canon := by
  unfold statusBody
  aesop (rule_sets := [Bound, -default]) (config := alongState)

@[bound] theorem canon_statusFrame (frame : List Byte) (hs : 0 < s.canon) : 0 < (statusFrame frame s).canon := by
  unfold statusFrame
  split
  · exact canon_returnError hs
  · exact canon_ite (canon_statusBody _ hs) hs

@[bound] theorem canon_capsFrame (frame : List Byte) (hs : 0 < s.canon) : 0 < (capsFrame frame s).canon := by
  unfold capsFrame
  split
  · exact canon_returnError hs
  · exact canon_ite (canon_capsCheck _ (canon_withPanel _ (canon_noteReturn hs))) hs

@[bound] theorem canon_queryRetry (hs : 0 < s.canon) : 0 < (queryRetry s).canon :=
  canon_ite hs (canon_ite (canon_sendQuery hs) (canon_capsFail (canon_withPanel _ hs)))

@[bound] theorem canon_statusLost (hs : 0 < s.canon) : 0 < (statusLost s).canon :=
  canon_ite (canon_backInvalid (canon_raise _ (canon_withPanel _ hs))) hs

@[bound] theorem canon_abortTimeout (hs : 0 < s.canon) : 0 < (abortTimeout s).canon := by
  unfold abortTimeout
  split
  · split
    · exact canon_ite (canon_restartFrame (canon_backInvalid hs)) hs
    · exact hs
  · exact hs

@[bound] theorem canon_teRise (hs : 0 < s.canon) : 0 < (teRise s).canon := by
  unfold teRise
  dsimp only
  aesop (rule_sets := [Bound, -default]) (config := alongState)

@[bound] theorem canon_teFall (hs : 0 < s.canon) : 0 < (teFall s).canon := by
  unfold teFall
  dsimp only
  aesop (rule_sets := [Bound, -default]) (config := alongState)

@[bound] theorem canon_teTimeout (hs : 0 < s.canon) : 0 < (teTimeout s).canon :=
  canon_ite hs (canon_raise _ (canon_set _ _ (canon_withPanel _ hs)))

end

end Sys2Proof.Machine
end

section
/-! SUPPORT. The canonical form is kept by what the model is built of:
carding, Afloth and the decoder. -/

namespace Sys2Proof.Machine

section
variable {s : State}

/-! ## Carding -/

@[bound] theorem canon_setInstant (i : Instant) (hs : 0 < s.canon) : 0 < (setInstant i s).canon := canon_withCard _ hs

@[bound] theorem canon_beginSeamWait (l : Nat) (hs : 0 < s.canon) : 0 < (beginSeamWait l s).canon := by
  unfold beginSeamWait
  split
  · exact canon_ite (canon_setInstant _ hs) hs
  · exact hs

@[bound] theorem canon_settleLate (l n : Nat) (hs : 0 < s.canon) : 0 < (settleLate l n s).canon :=
  canon_ite hs (canon_dropInstants _ hs)

@[bound] theorem canon_newInstant (launch : Option Nat) (unit : Nat) (input : InstantInput) (rays : Tab (Option Nat))
    (l : Nat) (hs : 0 < s.canon) : 0 < (newInstant launch unit input rays l s).canon :=
  canon_ite (canon_settleLate _ _ (canon_withCard _ hs)) (canon_beginSeamWait _ (canon_withCard _ hs))

@[bound] theorem canon_newInstants (st : Nat) (launch : Option Nat) (unit : Nat) (input : InstantInput) (rays : Tab
    (Option Nat)) (hs : 0 < s.canon) : 0 < (newInstants st launch unit input rays s).canon :=
  canon_foldl hs fun _ _ hu => canon_newInstant _ _ _ _ _ hu

@[bound] theorem canon_countSeamMiss (i : Instant) (hs : 0 < s.canon) : 0 < (countSeamMiss i s).canon :=
  canon_raiseWith _ _ _ (canon_bump _ hs)

@[bound] theorem canon_seamTimeout (l : Nat) (hs : 0 < s.canon) : 0 < (seamTimeout l s).canon := by
  unfold seamTimeout
  split
  · exact hs
  · exact canon_ite hs (canon_ite (canon_countSeamMiss _ (canon_setInstant _ hs)) (canon_setInstant _ hs))

@[bound] theorem canon_sendStrip (i : Instant) (src e k : Nat) (sample : Nat → Nat → RawSample) (hs : 0 < s.canon) :
    0 < (sendStrip i src e k sample s).canon :=
  canon_foldl hs fun _ _ hu => canon_aflSend _ _ _ _ hu

@[bound] theorem canon_writeRecords (i : Instant) (views : List KeyViewRec) (hs : 0 < s.canon) :
    0 < (writeRecords i views s).canon := by
  unfold writeRecords
  split
  · exact hs
  · exact canon_foldl hs (fun _ _ hu => canon_foldl hu (fun _ _ hu => canon_hbmWrite _ _ hu))

@[bound] theorem canon_noteViews (i : Instant) (views : List KeyViewRec) (removed : List Nat) (missed : Bool)
    (hs : 0 < s.canon) : 0 < (noteViews i views removed missed s).canon := by
  unfold noteViews
  aesop (rule_sets := [Bound, -default]) (config := alongState)

@[bound] theorem canon_countNans (i : Instant) (views : List KeyViewRec) (hs : 0 < s.canon) :
    0 < (countNans i views s).canon := by
  unfold countNans
  split
  · exact canon_ite (canon_bumpBy _ _ hs) hs
  · exact hs

@[bound] theorem canon_sendSeams (i : Instant) (src : Nat) (views : List KeyViewRec) (hs : 0 < s.canon) :
    0 < (sendSeams i src views s).canon :=
  canon_foldl hs (fun _ _ hu => canon_ite (canon_foldl hu (fun _ _ hu => canon_ite (canon_sendStrip _ _ _ _ _ hu) hu)) hu)

@[bound] theorem canon_convertInstant (i : Instant) (hs : 0 < s.canon) : 0 < (convertInstant i s).canon := by
  unfold convertInstant
  aesop (rule_sets := [Bound, -default]) (config := alongState)

@[bound] theorem canon_instantStart (l : Nat) (hs : 0 < s.canon) : 0 < (instantStart l s).canon := by
  unfold instantStart
  split
  · exact hs
  · exact canon_ite (canon_convertInstant _ hs) hs

@[bound] theorem canon_instantDone (l n : Nat) (hs : 0 < s.canon) : 0 < (instantDone l n s).canon := by
  unfold instantDone
  split
  · exact hs
  · exact canon_beginSeamWait _ (canon_settleLate _ _ (canon_setInstant _ hs))

@[bound] theorem canon_instantEnds (i : Instant) (hs : 0 < s.canon) : 0 < (instantEnds i s).canon :=
  canon_beginSeamWait _ (canon_dropInstants _ (canon_dropWork _ hs))

@[bound] theorem canon_instantStale (i : Instant) (e t : Nat) (hs : 0 < s.canon) : 0 < (instantStale i e t s).canon :=
  canon_instantEnds _ (canon_foldl hs (fun _ _ hu => canon_xlatFault _ _ _ _ _ hu))

@[bound] theorem canon_cardTile (l n t : Nat) (withheld : Bool) (hs : 0 < s.canon) : 0 < (cardTile l n t withheld s).canon := by
  unfold cardTile
  dsimp only
  aesop (rule_sets := [Bound, -default]) (config := alongState)

@[bound] theorem canon_confTile (h t : Nat) (withheld : Bool) (hs : 0 < s.canon) : 0 < (confTile h t withheld s).canon := by
  unfold confTile
  dsimp only
  aesop (rule_sets := [Bound, -default]) (config := alongState)

@[bound] theorem canon_frameEndsUnit (h : Nat) (hs : 0 < s.canon) : 0 < (frameEndsUnit h s).canon :=
  canon_enqueueAll _ _ (canon_setFrame _ _ (canon_dropWork _ (canon_foldl hs (fun _ _ hu => canon_raiseWith _ _ _
    (canon_bump _ hu)))))

/-! ## Afloth frames as they are received -/

@[bound] theorem canon_aflDiscard (hs : 0 < s.canon) : 0 < (aflDiscard s).canon := canon_raiseQuiet _ _ _ (canon_bump _ hs)

@[bound] theorem canon_aflTake (k : Nat) (code : Bool) (frame : List Byte) (want : AflFrame → Bool)
    {f : AflFrame → State → State} (hs : 0 < s.canon) (hf : ∀ x u, 0 < u.canon → 0 < (f x u).canon) :
    0 < (aflTake k code frame want f s).canon := by
  unfold aflTake
  dsimp only
  split
  · exact hs
  · split
    · refine canon_ite (canon_linkHeard _ hs) (hf _ _ (canon_mk (partsCanon_of_canon (canon_linkHeard _ hs))))
    · exact canon_aflDiscard (canon_linkHeard _ hs)

@[bound] theorem canon_aflRelayed {f : AflFrame → State → State} (x : AflFrame) (hs : 0 < s.canon)
    (hf : ∀ x u, 0 < u.canon → 0 < (f x u).canon) : 0 < (aflRelayed f x s).canon :=
  canon_ite hs (canon_aflRelay _ _ _ _ _ (hf x s hs))

@[bound] theorem canon_helloFrom (x : AflFrame) (hs : 0 < s.canon) : 0 < (helloFrom x s).canon := by
  unfold helloFrom
  aesop (rule_sets := [Bound, -default]) (config := alongState)

@[bound] theorem canon_helloReceive (k : Nat) (x : AflFrame) (hs : 0 < s.canon) : 0 < (helloReceive k x s).canon :=
  canon_ite (canon_raise _ (canon_set _ _ hs)) (canon_aflRelay _ _ _ _ _ (canon_helloFrom _ (canon_ite (canon_set _ _ hs)
    hs)))

@[bound] theorem canon_lossTimeout (d : Nat) (hs : 0 < s.canon) : 0 < (lossTimeout d s).canon :=
  canon_ite hs (canon_ite (canon_awaitedLevel (canon_raise _ (canon_mk (partsCanon_of_canon (canon_mk (partsCanon_of_canon
    hs)))))) (canon_dropEntries (canon_panelHold (canon_mk (partsCanon_of_canon (canon_raise _ (canon_set _ _ (canon_mk
    (partsCanon_of_canon hs)))))))))

@[bound] theorem canon_helloSend (hs : 0 < s.canon) : 0 < (helloSend s).canon :=
  canon_ite hs (canon_aflSend _ _ _ _ (canon_mk (partsCanon_of_canon hs)))

@[bound] theorem canon_localEdge (named : Nat) (hs : 0 < s.canon) : 0 < pairCanon (localEdge named s) := by
  unfold localEdge
  split
  · exact canon_pair hs
  · exact pairCanon_ite (canon_pair (canon_raise _ (canon_bump _ (canon_setWord _ _ hs)))) (canon_pair hs)

@[bound] theorem canon_planReceive (x : AflFrame) (hs : 0 < s.canon) : 0 < (planReceive x s).canon := by
  unfold planReceive
  refine canon_newToken _ (canon_mk (partsCanon_of_canon (canon_snd ?_)))
  split
  · exact canon_pair hs
  · exact pairCanon_ite (canon_pair (canon_raise _ (canon_bump _ (canon_setWord _ _ hs)))) (canon_pair hs)

@[bound] theorem canon_dropToken (hs : 0 < s.canon) : 0 < (dropToken s).canon :=
  canon_awaitedLevel (canon_mk (partsCanon_of_canon hs))

@[bound] theorem canon_goCommit (hs : 0 < s.canon) : 0 < (goCommit s).canon := by
  unfold goCommit
  refine canon_ite (canon_dropToken (canon_raise _ (canon_bump _ hs))) ?_
  split
  · exact canon_ite (canon_dropToken hs) (canon_dropToken (canon_letCommit _ hs))
  · exact canon_dropToken hs

@[bound] theorem canon_goDefer (edge named defers : Nat) (hs : 0 < s.canon) : 0 < (goDefer edge named defers s).canon := by
  unfold goDefer
  aesop (rule_sets := [Bound, -default]) (config := alongState)

@[bound] theorem canon_goForce (hs : 0 < s.canon) : 0 < (goForce s).canon := by
  unfold goForce
  split
  · exact canon_ite (canon_dropToken hs) (canon_ite (canon_dropToken (canon_letCommit _ hs)) (canon_dropToken (canon_raise
      _ (canon_bump _ (canon_dropOpen (canon_sendAbort _ _ hs))))))
  · exact canon_dropToken (canon_raise _ (canon_bump _ hs))

@[bound] theorem canon_goCommitReceive (x : AflFrame) (hs : 0 < s.canon) : 0 < (goCommitReceive x s).canon :=
  canon_goCommit (canon_snd (canon_localEdge _ hs))

@[bound] theorem canon_goDeferReceive (x : AflFrame) (hs : 0 < s.canon) : 0 < (goDeferReceive x s).canon := by
  unfold goDeferReceive
  aesop (rule_sets := [Bound, -default]) (config := alongState)

@[bound] theorem canon_goForceReceive (x : AflFrame) (hs : 0 < s.canon) : 0 < (goForceReceive x s).canon :=
  canon_goForce (canon_snd (canon_localEdge _ hs))

@[bound] theorem canon_doneReceive (x : AflFrame) (hs : 0 < s.canon) : 0 < (doneReceive x s).canon := by
  unfold doneReceive
  split
  · exact canon_ite (canon_recordDone _ hs) hs
  · exact hs

@[bound] theorem canon_goSend (hs : 0 < s.canon) : 0 < (goSend s).canon := by
  unfold goSend
  split
  · exact hs
  · exact canon_ite hs (canon_ite (canon_goCommit (canon_aflSend _ _ _ _ hs)) (canon_ite (canon_goDefer _ _ _
      (canon_aflSend _ _ _ _ hs)) (canon_goForce (canon_aflSend _ _ _ _ hs))))

@[bound] theorem canon_eventSend (hs : 0 < s.canon) : 0 < (eventSend s).canon :=
  canon_ite hs (canon_aflSend _ _ _ _ (canon_mk (partsCanon_of_canon hs)))

@[bound] theorem canon_eventReceive (x : AflFrame) (hs : 0 < s.canon) : 0 < (eventReceive x s).canon :=
  canon_ite hs (canon_ite (canon_raise _ (canon_mk (partsCanon_of_canon hs))) (canon_mk (partsCanon_of_canon hs)))

@[bound] theorem canon_seamBad (hs : 0 < s.canon) : 0 < (seamBad s).canon := canon_raise _ (canon_bump _ hs)

@[bound] theorem canon_addSamples (l e kv crc : Nat) (launch : Option Nat) (first limit : Nat) (body : List Byte)
    (hs : 0 < s.canon) : 0 < (addSamples l e kv crc launch first limit body s).canon :=
  canon_mk (partsCanon_of_canon hs)

@[bound] theorem canon_seamReceive (e : Nat) (x : AflFrame) (hs : 0 < s.canon) : 0 < (seamReceive e x s).canon :=
  canon_ite (canon_seamBad hs) (canon_ite (canon_raiseWith _ _ _ hs) (canon_ite hs (canon_addSamples _ _ _ _ _ _ _ _ hs)))

@[bound] theorem canon_tileCfgWrite (window : Bool) (v : Word) (hs : 0 < s.canon) :
    0 < pairCanon (tileCfgWrite window v s) :=
  pairCanon_ite (canon_refuse _ hs) (pairCanon_ite (canon_refuse _ hs) (canon_okay (canon_ite (canon_mk
    (partsCanon_of_canon (canon_set _ _ (canon_set _ _ (canon_set _ _ (canon_set _ _ (canon_set _ _ hs))))))) (canon_set _
    _ (canon_set _ _ (canon_set _ _ (canon_set _ _ (canon_set _ _ hs))))))))

/-! ## The decoder -/

@[bound] theorem canon_setDctx (c : Nat) (x : DecCtx) (hs : 0 < s.canon) : 0 < (s.setDctx c x).canon :=
  canon_mk (partsCanon_of_canon hs)

@[bound] theorem canon_setSlot (c n : Nat) (p : SlotPic) (hs : 0 < s.canon) : 0 < (s.setSlot c n p).canon :=
  canon_setDctx _ _ hs

@[bound] theorem canon_setDlayer (c l : Nat) (y : DecLayer) (hs : 0 < s.canon) : 0 < (s.setDlayer c l y).canon :=
  canon_setDctx _ _ hs

@[bound] theorem canon_setAu (c : Nat) (a : AuState) (hs : 0 < s.canon) : 0 < (s.setAu c a).canon := canon_setDctx _ _ hs

@[bound] theorem canon_decRaise (src code c l : Nat) (poc : Int) (hs : 0 < s.canon) :
    0 < (decRaise src code c l poc s).canon :=
  canon_raiseWith _ _ _ hs

@[bound] theorem canon_showMode (c : Nat) (hs : 0 < s.canon) : 0 < (showMode c s).canon := canon_set _ _ (canon_set _ _ hs)

@[bound] theorem canon_headerMode (c : Nat) (hs : 0 < s.canon) : 0 < (headerMode c s).canon :=
  canon_showMode _ (canon_ite (canon_decRaise _ _ _ _ _ (canon_setDctx _ _ hs)) (canon_setDctx _ _ hs))

@[bound] theorem canon_showStarted (c : Nat) (hs : 0 < s.canon) : 0 < (showStarted c s).canon := canon_set _ _ hs

@[bound] theorem canon_decArm (c : Nat) (hs : 0 < s.canon) : 0 < (decArm c s).canon :=
  canon_decRaise _ _ _ _ _ (canon_showMode _ (canon_set _ _ (canon_set _ _ (canon_set _ _ (canon_setDctx _ _ hs)))))

@[bound] theorem canon_decDisarm (c : Nat) (hs : 0 < s.canon) : 0 < (decDisarm c s).canon :=
  canon_set _ _ (canon_set _ _ (canon_set _ _ (canon_mk (partsCanon_of_canon hs))))

@[bound] theorem canon_decodeUnit (st unit : Nat) (launch : Option Nat) (data : Tab (Option Nat)) (tail : Bool)
    (hs : 0 < s.canon) : 0 < (decodeUnit st unit launch data tail s).canon := by
  unfold decodeUnit
  split
  · exact hs
  · exact canon_mk (partsCanon_of_canon (canon_setDctx _ _ hs))

@[bound] theorem canon_unsupport (c l : Nat) (hs : 0 < s.canon) : 0 < (unsupport c l s).canon := canon_setDctx _ _ hs

@[bound] theorem canon_layerLimit (c : Nat) (hs : 0 < s.canon) : 0 < (layerLimit c s).canon :=
  canon_ite hs (canon_foldl (canon_decRaise _ _ _ _ _ hs) (fun _ _ hu => canon_unsupport _ _ hu))

@[bound] theorem canon_activateVps (c id : Nat) (vs : List VpsLayer) (hs : 0 < s.canon) :
    0 < (activateVps c id vs s).canon :=
  canon_layerLimit _ (canon_setDctx _ _ hs)

@[bound] theorem canon_paramSet (c id l : Nat) (poc : Int) (outOfRange newSequence : Bool) (content : ParamContent)
    (hs : 0 < s.canon) : 0 < (paramSet c id l poc outOfRange newSequence content s).canon :=
  canon_ite (canon_decRaise _ _ _ _ _ hs) (canon_ite hs (canon_setDctx _ _ hs))

@[bound] theorem canon_auComplete (c : Nat) (a : AuState) (hs : 0 < s.canon) : 0 < (auComplete c a s).canon :=
  canon_mk (partsCanon_of_canon (canon_setDctx _ _ (canon_foldl (canon_set _ _ (canon_ite (canon_decRaise _ _ _ _ _
    (canon_bump _ hs)) hs)) (fun _ _ hu => canon_newInstant _ _ _ _ _ hu))))

@[bound] theorem canon_auSettle (c n : Nat) (hs : 0 < s.canon) : 0 < (auSettle c n s).canon := by
  induction n generalizing s with
  | zero => exact hs
  | succ n ih =>
    unfold auSettle
    split
    · exact ih (canon_auComplete _ _ hs)
    · exact hs

@[bound] theorem canon_picSettle (c n : Nat) (hs : 0 < s.canon) : 0 < (picSettle c n s).canon := by
  unfold picSettle
  aesop (rule_sets := [Bound, -default]) (config := alongState)

@[bound] theorem canon_settle (c n : Nat) (hs : 0 < s.canon) : 0 < (settle c n s).canon :=
  canon_auSettle _ _ (canon_picSettle _ _ hs)

@[bound] theorem canon_loseCtus (c n : Nat) (ks : List Nat) (hs : 0 < s.canon) : 0 < (loseCtus c n ks s).canon :=
  canon_setSlot _ _ _ hs

@[bound] theorem canon_dropTasks (c n : Nat) (test : RowTask → Bool) (hs : 0 < s.canon) : 0 < (dropTasks c n test s).canon :=
  canon_mk (partsCanon_of_canon hs)

@[bound] theorem canon_concealRest (c n from_ : Nat) (hs : 0 < s.canon) : 0 < (concealRest c n from_ s).canon :=
  canon_setSlot _ _ _ (canon_dropTasks _ _ _ hs)

@[bound] theorem canon_depthWait (c l n from_ : Nat) (hs : 0 < s.canon) : 0 < (depthWait c l n from_ s).canon := by
  unfold depthWait
  aesop (rule_sets := [Bound, -default]) (config := alongState)

@[bound] theorem canon_segmentLost (c l n : Nat) (ks : List Nat) (hs : 0 < s.canon) : 0 < (segmentLost c l n ks s).canon := by
  unfold segmentLost
  split
  · exact hs
  · exact canon_ite (canon_depthWait _ _ _ _ (canon_loseCtus _ _ _ hs)) (canon_loseCtus _ _ _ hs)

@[bound] theorem canon_gapTo (c l n place : Nat) (hs : 0 < s.canon) : 0 < (gapTo c l n place s).canon :=
  canon_ite hs (canon_segmentLost _ _ _ _ (canon_ite (canon_setDlayer _ _ _ hs) (canon_decRaise _ _ _ _ _ (canon_setSlot _
    _ _ (canon_setDlayer _ _ _ hs)))))

@[bound] theorem canon_endPicture (c l : Nat) (hs : 0 < s.canon) : 0 < (endPicture c l s).canon := by
  unfold endPicture
  dsimp only
  aesop (rule_sets := [Bound, -default]) (config := alongState)

@[bound] theorem canon_openSlot (c n l au : Nat) (irap : Bool) (poc : Int) (mark : Nat) (f : PicFormat) (hs : 0 < s.canon) :
    0 < (openSlot c n l au irap poc mark f s).canon :=
  canon_setDlayer _ _ _ (canon_setSlot _ _ _ hs)

@[bound] theorem canon_listPic (c l : Nat) (n : Option Nat) (hs : 0 < s.canon) : 0 < (listPic c l n s).canon := by
  unfold listPic
  split
  · exact hs
  · exact canon_ite hs (canon_setAu _ _ hs)

@[bound] theorem canon_buildMissing (c l : Nat) (hs : 0 < s.canon) : 0 < (buildMissing c l s).canon := by
  unfold buildMissing
  split
  · exact canon_listPic _ _ _ (canon_setSlot _ _ _ (canon_openSlot _ _ _ _ _ _ _ _ hs))
  · exact canon_listPic _ _ _ (canon_decRaise _ _ _ _ _ hs)
  · exact canon_listPic _ _ _ hs

@[bound] theorem canon_flushErrors (c l : Nat) (hs : 0 < s.canon) : 0 < (flushErrors c l s).canon :=
  canon_bumpBy _ _ (canon_setDlayer _ _ _ hs)

@[bound] theorem canon_endAu (c : Nat) (hs : 0 < s.canon) : 0 < (endAu c s).canon := by
  unfold endAu
  aesop (rule_sets := [Bound, -default]) (config := alongState)

@[bound] theorem canon_beginAu (c : Nat) (hs : 0 < s.canon) : 0 < (beginAu c s).canon := by
  unfold beginAu
  split
  · exact hs
  · exact canon_ite hs (canon_setAu _ _ (canon_headerMode _ hs))

@[bound] theorem canon_syntaxError (code c n : Nat) (hs : 0 < s.canon) : 0 < (syntaxError code c n s).canon :=
  canon_decRaise _ _ _ _ _ (canon_setSlot _ _ _ hs)

@[bound] theorem canon_layerError (code c l : Nat) (poc : Int) (hs : 0 < s.canon) : 0 < (layerError code c l poc s).canon := by
  unfold layerError
  dsimp only
  aesop (rule_sets := [Bound, -default]) (config := alongState)

@[bound] theorem canon_headerError (code c : Nat) (x : Slice) (hs : 0 < s.canon) : 0 < (headerError code c x s).canon :=
  canon_layerError _ _ _ _ (canon_setDlayer _ _ _ hs)

@[bound] theorem canon_markSlots (c l : Nat) (rps : List (Int × Nat × Bool)) (hs : 0 < s.canon) :
    0 < (markSlots c l rps s).canon :=
  canon_setDctx _ _ hs

@[bound] theorem canon_substitutes (c l : Nat) (a : AuState) (rps : List (Int × Nat × Bool)) (f : PicFormat)
    (hs : 0 < s.canon) : 0 < (substitutes c l a rps f s).canon := by
  unfold substitutes
  dsimp only
  aesop (rule_sets := [Bound, -default]) (config := alongState)

@[bound] theorem canon_layerGate (c : Nat) (x : Slice) (f : PicFormat) (a : AuState) (hs : 0 < s.canon) :
    0 < pairCanon (layerGate c x f a s) := by
  have hshown (y : DecLayer) : 0 < (showStarted c (s.setDlayer c x.layer y)).canon :=
    canon_showStarted c (canon_setDlayer _ _ _ hs)
  unfold layerGate
  dsimp only
  refine pairCanon_ite (canon_pair (canon_decRaise _ _ _ _ _ (canon_unsupport _ _ (canon_setDlayer _ _ _ hs)))) ?_
  refine pairCanon_ite (canon_pair (hshown _)) (pairCanon_ite (canon_pair (canon_decRaise _ _ _ _ _
    (canon_bump _ (canon_setDlayer _ _ _ ?_)))) (pairCanon_ite (canon_pair ?_) (pairCanon_ite (pairCanon_ite
    (canon_pair (canon_decRaise _ _ _ _ _ (canon_setDlayer _ _ _ ?_))) (canon_pair ?_)) (canon_pair ?_))))
  all_goals
    split
    · exact canon_setAu _ _ (hshown _)
    · exact hshown _

@[bound] theorem canon_restartSkipped (c : Nat) (a : AuState) (x : Slice) (hs : 0 < s.canon) :
    0 < (restartSkipped c a x s).canon :=
  canon_ite (canon_setDctx _ _ hs) hs

@[bound] theorem canon_newPicture (c : Nat) (x : Slice) (f : PicFormat) (how : Nat) (again : Bool) (hs : 0 < s.canon) :
    0 < pairCanon (newPicture c x f how again s) := by
  unfold newPicture
  dsimp only
  aesop (rule_sets := [Bound, -default]) (config := alongState)

@[bound] theorem canon_rowTasks (c n : Nat) (a : AuState) (x : Slice) (wavefront : Bool) (hs : 0 < s.canon) :
    0 < (rowTasks c n a x wavefront s).canon :=
  canon_mk (partsCanon_of_canon (canon_setDctx _ _ (canon_setSlot _ _ _ hs)))

@[bound] theorem canon_segment (c n : Nat) (x : Slice) (wavefront : Bool) (hs : 0 < s.canon) :
    0 < (segment c n x wavefront s).canon := by
  have hnext (l place : Nat) (y : DecLayer) : 0 < ((gapTo c l n place s).setDlayer c l y).canon :=
    canon_setDlayer _ _ _ (canon_gapTo _ _ _ _ hs)
  unfold segment
  refine canon_ite (canon_headerError _ _ _ hs) (canon_ite (canon_segmentLost _ _ _ _ (canon_decRaise _ _ _ _ _ (hnext _ _ _)))
    (canon_ite (canon_segmentLost _ _ _ _ (hnext _ _ _)) (canon_ite (canon_loseCtus _ _ _ (hnext _ _ _)) ?_)))
  split
  · exact canon_rowTasks _ _ _ _ _ (hnext _ _ _)
  · exact hnext _ _ _

@[bound] theorem canon_sequenceStarts (c : Nat) (h : NalHeader) (x : Slice) (hs : 0 < s.canon) :
    0 < (sequenceStarts c h x s).canon := by
  unfold sequenceStarts
  split
  · exact hs
  · split
    · exact canon_activateVps _ _ _ hs
    · exact hs

@[bound] theorem canon_admittedSlice (c : Nat) (x : Slice) (f : PicFormat) (a : AuState) (hs : 0 < s.canon) :
    0 < pairCanon (admittedSlice c x f a s) := by
  unfold admittedSlice
  dsimp only
  have hstart : 0 < (if x.firstInPicture = true ∧ ((s.dlayer c x.layer).current.isSome = true ∨
      (s.dlayer c x.layer).absent = true) ∧ (s.dctx c).slotWait.isNone = true then endPicture c x.layer s else s).canon :=
    canon_ite (canon_endPicture _ _ hs) hs
  generalize (if x.firstInPicture = true ∧ ((s.dlayer c x.layer).current.isSome = true ∨
    (s.dlayer c x.layer).absent = true) ∧ (s.dctx c).slotWait.isNone = true then endPicture c x.layer s else s) = u at *
  split
  · exact canon_pair (canon_segment _ _ _ _ hstart)
  · refine pairCanon_ite (canon_pair hstart) ?_
    have hgate : 0 < pairCanon (if (u.dctx c).slotWait.isSome = true then
        (if (u.dlayer c x.layer).state = 3 then 2 else 1, u) else layerGate c x f a u) :=
      pairCanon_ite (canon_pair hstart) (canon_layerGate _ _ _ _ hstart)
    generalize (if (u.dctx c).slotWait.isSome = true then
      (if (u.dlayer c x.layer).state = 3 then 2 else 1, u) else layerGate c x f a u) = p at *
    obtain ⟨how, v⟩ := p
    have hnew := canon_newPicture c x f how (u.dctx c).slotWait.isSome (s := v) hgate
    refine pairCanon_ite (canon_pair (canon_listPic _ _ _ (canon_setDlayer _ _ _ hgate))) ?_
    generalize newPicture c x f how (u.dctx c).slotWait.isSome v = q at *
    obtain ⟨ok, w⟩ := q
    dsimp only
    split
    · exact canon_pair (canon_segment _ _ _ _ hnew)
    · exact hnew

@[bound] theorem canon_sliceNal (c : Nat) (h : NalHeader) (nal : SliceNal) (bad : Bool) (hs : 0 < s.canon) :
    0 < pairCanon (sliceNal c h nal bad s) := by
  unfold sliceNal
  dsimp only
  split
  · exact hs
  · refine pairCanon_ite ?_ (pairCanon_ite ?_ ?_)
    · aesop (rule_sets := [Bound, -default]) (config := alongState)
    · aesop (rule_sets := [Bound, -default]) (config := alongState)
    · split
      · refine canon_pair (canon_ite ?_ (canon_headerError _ _ _ ?_))
        all_goals aesop (rule_sets := [Bound, -default]) (config := alongState)
      · refine pairCanon_ite (canon_pair ?_) (canon_admittedSlice _ _ _ _ ?_)
        all_goals aesop (rule_sets := [Bound, -default]) (config := alongState)

@[bound] theorem canon_brokenNal (c : Nat) (h : NalHeader) (a : AuState) (hs : 0 < s.canon) :
    0 < (brokenNal c h a s).canon :=
  canon_layerError _ _ _ _ (canon_setDlayer _ _ _ hs)

@[bound] theorem canon_sequenceEnds (c : Nat) (test : Nat → Bool) (hs : 0 < s.canon) : 0 < (sequenceEnds c test s).canon :=
  canon_setDctx _ _ hs

@[bound] theorem canon_nalBody (c : Nat) (h : NalHeader) (body : NalBody) (bad : Bool) (hs : 0 < s.canon) :
    0 < pairCanon (nalBody c h body bad s) := by
  unfold nalBody
  split
  · split
    · exact canon_pair (canon_paramSet _ _ _ _ _ _ _ hs)
    · exact canon_pair hs
  · exact canon_sliceNal _ _ _ _ hs
  · split
    · exact canon_pair (canon_setSlot _ _ _ hs)
    · exact canon_pair hs
  · exact canon_pair (canon_ite (canon_sequenceEnds _ _ hs) (canon_ite (canon_sequenceEnds _ _ hs) hs))

@[bound] theorem canon_nalDone (c : Nat) (hs : 0 < s.canon) : 0 < (nalDone c s).canon := by
  unfold nalDone
  split
  · exact hs
  · exact canon_ite (canon_endAu _ (canon_setAu _ _ hs)) (canon_setAu _ _ hs)

@[bound] theorem canon_nalParse (c : Nat) (body : NalBody) (bad : Bool) (hs : 0 < s.canon) :
    0 < (nalParse c body bad s).canon := by
  unfold nalParse
  aesop (rule_sets := [Bound, -default]) (config := alongState)

@[bound] theorem canon_slotTimeout (c : Nat) (hs : 0 < s.canon) : 0 < (slotTimeout c s).canon := by
  unfold slotTimeout
  dsimp only
  aesop (rule_sets := [Bound, -default]) (config := alongState)

@[bound] theorem canon_setTask (t : RowTask) (hs : 0 < s.canon) : 0 < (setTask t s).canon := canon_mk (partsCanon_of_canon hs)

@[bound] theorem canon_rowDispatch (past2 : List (Fin 8)) (hs : 0 < s.canon) : 0 < (rowDispatch past2 s).canon := by
  unfold rowDispatch
  dsimp only
  aesop (rule_sets := [Bound, -default]) (config := alongState)

@[bound] theorem canon_segmentError (t : RowTask) (code ctu : Nat) (hs : 0 < s.canon) :
    0 < (segmentError t code ctu s).canon :=
  canon_ite (canon_depthWait _ _ _ _ (canon_dropTasks _ _ _ (canon_setSlot _ _ _ (canon_syntaxError _ _ _ hs))))
    (canon_dropTasks _ _ _ (canon_setSlot _ _ _ (canon_syntaxError _ _ _ hs)))

@[bound] theorem canon_writeSamples (c n : Nat) (samples : List Sample) (hs : 0 < s.canon) :
    0 < (writeSamples c n samples s).canon := by
  unfold writeSamples
  split
  · exact hs
  · refine canon_foldl hs fun _ _ hu => ?_
    split
    · exact canon_hbmWrite _ _ hu
    · exact hu

@[bound] theorem canon_rowComplete (e : Nat) (r : RowResult) (hs : 0 < s.canon) : 0 < (rowComplete e r s).canon := by
  unfold rowComplete
  aesop (rule_sets := [Bound, -default]) (config := alongState)

@[bound] theorem canon_decParity (e : Nat) (hs : 0 < s.canon) : 0 < (decParity e s).canon := by
  unfold decParity
  split
  · exact hs
  · exact canon_ite (canon_decRaise _ _ _ _ _ (canon_set _ _ (canon_ite (canon_ite (canon_dropTasks _ _ _ hs)
      (canon_setTask _ hs)) (canon_parkEngine _ _ (canon_ite (canon_dropTasks _ _ _ hs) (canon_setTask _ hs)))))) (canon_mk
      (partsCanon_of_canon (canon_ite (canon_dropTasks _ _ _ hs) (canon_setTask _ hs))))

@[bound] theorem canon_hpParity (hs : 0 < s.canon) : 0 < (hpParity s).canon :=
  canon_decRaise _ _ _ _ _ (canon_mk (partsCanon_of_canon hs))

@[bound] theorem canon_putSample (c n off v : Nat) (hs : 0 < s.canon) : 0 < (putSample c n off v s).canon :=
  canon_hbmWrite _ _ hs

@[bound] theorem canon_copyBlock (c n m x y : Nat) (sh ch : Int × Int) (hs : 0 < s.canon) :
    0 < (copyBlock c n m x y sh ch s).canon :=
  canon_ite (canon_foldl hs (fun _ _ hu => canon_ite (canon_putSample _ _ _ _ hu) hu)) (canon_foldl (canon_foldl hs (fun _
    _ hu => canon_ite (canon_putSample _ _ _ _ hu) hu)) (fun _ _ hu => canon_ite (canon_putSample _ _ _ _ (canon_putSample
    _ _ _ _ hu)) hu))

@[bound] theorem canon_borrowBlock (c n : Nat) (b : Borrow) (me : KvEntry) (xy : Nat × Nat) (hs : 0 < s.canon) :
    0 < (borrowBlock c n b me s xy).canon := by
  unfold borrowBlock
  exact canon_ite (canon_copyBlock _ _ _ _ _ _ _ hs) (canon_copyBlock _ _ _ _ _ _ _ hs)

@[bound] theorem canon_fillBlock (c n v : Nat) (xy : Nat × Nat) (hs : 0 < s.canon) : 0 < (fillBlock c n v s xy).canon :=
  canon_ite (canon_foldl hs (fun _ _ hu => canon_ite (canon_putSample _ _ _ _ hu) hu)) (canon_foldl (canon_foldl hs (fun _
    _ hu => canon_ite (canon_putSample _ _ _ _ hu) hu)) (fun _ _ hu => canon_ite (canon_putSample _ _ _ _ (canon_putSample
    _ _ _ _ hu)) hu))

@[bound] theorem canon_ctuConceal (c n k : Nat) (hs : 0 < s.canon) : 0 < (ctuConceal c n k s).canon := by
  unfold ctuConceal
  refine canon_ite hs (canon_settle _ _ ?_)
  split
  · exact canon_setSlot _ _ _ (canon_foldl hs (fun _ _ hu => canon_borrowBlock _ _ _ _ _ hu))
  · split
    · exact canon_setSlot _ _ _ (canon_foldl hs (fun _ _ hu => canon_copyBlock _ _ _ _ _ _ _ hu))
    · exact canon_setSlot _ _ _ (canon_foldl hs (fun _ _ hu => canon_fillBlock _ _ _ _ hu))

@[bound] theorem canon_decCfgWrite (v : Word) (hs : 0 < s.canon) : 0 < pairCanon (decCfgWrite v s) :=
  pairCanon_ite (canon_refuse _ hs) (pairCanon_ite (canon_refuse _ hs) (canon_okay (canon_set _ _ (canon_set _ _ (canon_set
    _ _ hs)))))

@[bound] theorem canon_decCtxWrite (c a : Nat) (v : Word) (hs : 0 < s.canon) : 0 < pairCanon (decCtxWrite c a v s) :=
  pairCanon_ite (canon_okay (canon_stageWrite _ _ hs)) (canon_refuse _ hs)

end

end Sys2Proof.Machine
end

section
/-! SUPPORT. The canonical form is kept by what the model is built of:
ingest, links, sizing records and images. -/

namespace Sys2Proof.Machine

section
variable {s : State}

/-! ## Ingest -/

@[bound] theorem canon_portLost (n : Nat) (hs : 0 < s.canon) : 0 < (portLost n s).canon :=
  canon_ite (canon_raise _ (canon_set _ _ hs)) hs

@[bound] theorem canon_ethLinkUp (n : Nat) (hs : 0 < s.canon) : 0 < (ethLinkUp n s).canon :=
  canon_ite hs (canon_raise _ (canon_set _ _ (canon_set _ _ hs)))

@[bound] theorem canon_ethLinkDown (n : Nat) (hs : 0 < s.canon) : 0 < (ethLinkDown n s).canon :=
  canon_ite hs (canon_portLost _ (canon_raise _ (canon_set _ _ (canon_set _ _ hs))))

@[bound] theorem canon_primaryTimeout (n : Nat) (hs : 0 < s.canon) : 0 < (primaryTimeout n s).canon :=
  canon_ite (canon_portLost _ hs) hs

@[bound] theorem canon_ethCfgWrite (n : Nat) (v : Word) (hs : 0 < s.canon) : 0 < pairCanon (ethCfgWrite n v s) :=
  pairCanon_ite (canon_refuse _ hs) (pairCanon_ite (canon_refuse _ hs) (canon_okay (canon_set _ _ (canon_set _ _ (canon_set
    _ _ (canon_set _ _ (canon_set _ _ (canon_ite (canon_ethLinkDown _ hs) hs))))))))

@[bound] theorem canon_ethRoleWrite (n : Nat) (v : Word) (hs : 0 < s.canon) : 0 < pairCanon (ethRoleWrite n v s) :=
  pairCanon_ite (canon_refuse _ hs) (pairCanon_ite (canon_refuse _ hs) (canon_okay (canon_ite (canon_set _ _ (canon_set _ _
    (canon_set _ _ hs))) (canon_set _ _ (canon_set _ _ (canon_set _ _ (canon_set _ _ hs)))))))

@[bound] theorem canon_ethIp6Write (n k : Nat) (v : Word) (hs : 0 < s.canon) : 0 < pairCanon (ethIp6Write n k v s) :=
  canon_okay (canon_ite (canon_setPort _ _ (canon_setWord _ _ hs)) (canon_setWord _ _ hs))

@[bound] theorem canon_ethReply (n : Nat) (kind : String) (dst : Nat) (body : List Byte) (hs : 0 < s.canon) :
    0 < (ethReply n kind dst body s).canon :=
  canon_ite hs (canon_sendOn _ _ hs)

@[bound] theorem canon_addressReply (n : Nat) (r : AddressRequest) (hs : 0 < s.canon) : 0 < (addressReply n r s).canon := by
  unfold addressReply
  split
  · exact canon_ite (canon_ethReply _ _ _ _ hs) hs
  · exact canon_ite (canon_ethReply _ _ _ _ hs) hs
  · exact canon_ite (canon_ethReply _ _ _ _ hs) hs
  · exact canon_ite (canon_ethReply _ _ _ _ hs) hs

@[bound] theorem canon_pfcXoff (n p fill : Nat) (hs : 0 < s.canon) : 0 < (pfcXoff n p fill s).canon :=
  canon_ite (canon_emit _ (canon_setPort _ _ hs)) hs

@[bound] theorem canon_frameReceive (n : Nat) (f : EthFrame) (hs : 0 < s.canon) : 0 < (frameReceive n f s).canon :=
  canon_ite hs (canon_ite (canon_raise _ (canon_bump _ (canon_ite (canon_raise _ hs) hs))) (canon_ite (canon_ite
    (canon_raise _ hs) hs) (canon_pfcXoff _ _ _ (canon_ite (canon_raise _ hs) hs))))

@[bound] theorem canon_pfcReceive (n mask : Nat) (quanta : List Nat) (hs : 0 < s.canon) :
    0 < (pfcReceive n mask quanta s).canon :=
  canon_setPort _ _ hs

@[bound] theorem canon_pfcXon (n p fill : Nat) (hs : 0 < s.canon) : 0 < (pfcXon n p fill s).canon :=
  canon_ite (canon_emit _ (canon_setPort _ _ hs)) hs

@[bound] theorem canon_battError (n : Nat) (refused : Bool) (hs : 0 < s.canon) : 0 < (battError n refused s).canon :=
  canon_raise _ (canon_bump _ hs)

@[bound] theorem canon_unitRaise (st off unit : Nat) (hs : 0 < s.canon) : 0 < (unitRaise st off unit s).canon :=
  canon_raiseWith _ _ _ hs

@[bound] theorem canon_rawBytes (data : Tab (Option Nat)) (holes : List Nat) (hs : 0 < s.canon) :
    0 < pairCanon (rawBytes data holes s) :=
  pairCanon_foldl (canon_pair hs) fun _ _ hu => canon_pair (canon_mk (partsCanon_of_canon (canon_snd hu)))

@[bound] theorem canon_seamFrames (n : Nat) (bs : List Byte) (hs : 0 < s.canon) : 0 < (seamFrames n bs s).canon := by
  induction n generalizing bs s with
  | zero => exact hs
  | succ n ih =>
    have hseam := canon_seamReceive (s := s)
    exact canon_ite (canon_aflDiscard hs) (canon_ite (hseam _ _ hs) (ih _ (hseam _ _ hs)))

@[bound] theorem canon_unitDrop (st unit : Nat) (hs : 0 < s.canon) : 0 < (unitDrop st unit s).canon :=
  canon_unitRaise _ _ _ (canon_bump _ hs)

@[bound] theorem canon_unitPass (st : Nat) (u : JbUnit) (whole : Bool) (hs : 0 < s.canon) :
    0 < (unitPass st u whole s).canon := by
  unfold unitPass
  dsimp only
  aesop (rule_sets := [Bound, -default]) (config := alongState)

@[bound] theorem canon_unitRelease (st : Nat) (u : JbUnit) (hs : 0 < s.canon) : 0 < (unitRelease st u s).canon :=
  canon_unitPass _ _ _ (canon_setStream _ _ (canon_bumpBy _ _ hs))

@[bound] theorem canon_unitPump (st n : Nat) (hs : 0 < s.canon) : 0 < (unitPump st n s).canon := by
  induction n generalizing s with
  | zero => exact hs
  | succ n ih =>
    unfold unitPump
    split
    · exact canon_ite (ih (canon_unitRelease _ _ hs)) hs
    · exact hs

@[bound] theorem canon_unitsRelease (st : Nat) (hs : 0 < s.canon) : 0 < (unitsRelease st s).canon := canon_unitPump _ _ hs

@[bound] theorem canon_releaseOldest (st : Nat) (hs : 0 < s.canon) : 0 < (releaseOldest st s).canon := by
  unfold releaseOldest
  split
  · exact canon_unitRelease _ _ hs
  · exact hs

@[bound] theorem canon_releaseOlder (st unit n : Nat) (hs : 0 < s.canon) : 0 < (releaseOlder st unit n s).canon := by
  induction n generalizing s with
  | zero => exact hs
  | succ n ih =>
    unfold releaseOlder
    split
    · exact canon_ite (ih (canon_unitRelease _ _ hs)) hs
    · exact hs

@[bound] theorem canon_setUnit (st : Nat) (u : JbUnit) (hs : 0 < s.canon) : 0 < (setUnit st u s).canon :=
  canon_setStream _ _ hs

@[bound] theorem canon_makeRoom (st n : Nat) (hs : 0 < s.canon) : 0 < (makeRoom st n s).canon := by
  induction n generalizing s with
  | zero => exact hs
  | succ n ih => exact canon_ite hs (ih (canon_releaseOldest _ hs))

@[bound] theorem canon_makeSpace (st unit n k : Nat) (hs : 0 < s.canon) : 0 < pairCanon (makeSpace st unit n k s) := by
  induction k generalizing s with
  | zero => exact hs
  | succ k ih =>
    unfold makeSpace
    split
    · exact hs
    · split
      · exact pairCanon_ite hs (ih (canon_unitRelease _ _ hs))
      · exact hs

@[bound] theorem canon_battPlace (lane : Nat) (b : Batt) (hs : 0 < s.canon) : 0 < (battPlace lane b s).canon := by
  unfold battPlace
  dsimp only
  aesop (rule_sets := [Bound, -default]) (config := alongState)

@[bound] theorem canon_unitOpen (b : Batt) (hs : 0 < s.canon) : 0 < pairCanon (unitOpen b s) := by
  unfold unitOpen
  dsimp only
  aesop (rule_sets := [Bound, -default]) (config := alongState)

@[bound] theorem canon_unitHold (b : Batt) (hs : 0 < s.canon) : 0 < (unitHold b s).canon :=
  canon_setStream _ _ (canon_setUnit _ _ hs)

@[bound] theorem canon_laneNote (st lane : Nat) (kept : Bool) (b : Batt) (hs : 0 < s.canon) :
    0 < (laneNote st lane kept b s).canon :=
  canon_setStream _ _ hs

@[bound] theorem canon_laneReset (st lane : Nat) (b : Batt) (hs : 0 < s.canon) : 0 < (laneReset st lane b s).canon :=
  canon_releaseOlder _ _ _ (canon_setStream _ _ hs)

@[bound] theorem canon_battArrival (n : Nat) (hs : 0 < s.canon) : 0 < (battArrival n s).canon :=
  canon_ite (canon_raise _ (canon_set _ _ (canon_setPort _ _ hs))) (canon_setPort _ _ hs)

@[bound] theorem canon_battTake (lane : Nat) (b : Batt) (hs : 0 < s.canon) : 0 < (battTake lane b s).canon := by
  unfold battTake
  dsimp only
  aesop (rule_sets := [Bound, -default]) (config := alongState)

@[bound] theorem canon_battReceive (n : Nat) (b : Batt) (hs : 0 < s.canon) : 0 < (battReceive n b s).canon := by
  unfold battReceive
  aesop (rule_sets := [Bound, -default]) (config := alongState)

@[bound] theorem canon_datagramReceive (n : Nat) (d : BattDatagram) (hs : 0 < s.canon) : 0 < (datagramReceive n d s).canon :=
  canon_ite (canon_battReceive _ _ hs) hs

@[bound] theorem canon_unitDeadline (st : Nat) (hs : 0 < s.canon) : 0 < (unitDeadline st s).canon :=
  canon_ite (canon_unitsRelease _ hs) hs

@[bound] theorem canon_unitRequest (st : Nat) (hs : 0 < s.canon) : 0 < (unitRequest st s).canon :=
  canon_ite hs (canon_unitsRelease _ (canon_setStream _ _ hs))

@[bound] theorem canon_streamArm (st : Nat) (hs : 0 < s.canon) : 0 < (streamArm st s).canon :=
  canon_foldl (canon_setStream _ _ hs) fun _ _ hu => canon_ite (canon_setPort _ _ hu) hu

@[bound] theorem canon_streamDisarm (st : Nat) (hs : 0 < s.canon) : 0 < (streamDisarm st s).canon := canon_setStream _ _ hs

@[bound] theorem canon_farEnd (n : Nat) (hs : 0 < s.canon) : 0 < (farEnd n s).canon := canon_ite (canon_emit _ hs) hs

/-! ## Links -/

@[bound] theorem canon_setLane (n i : Nat) (x : LinkLane) (hs : 0 < s.canon) : 0 < (s.setLane n i x).canon :=
  canon_setLink _ _ hs

@[bound] theorem canon_resetLanes (n : Nat) (hs : 0 < s.canon) : 0 < (resetLanes n s).canon := canon_setLink _ _ hs

@[bound] theorem canon_rateMoved (n : Nat) (hs : 0 < s.canon) : 0 < (rateMoved n s).canon :=
  canon_ite (canon_napLimited hs) hs

@[bound] theorem canon_beginAttempt (n attempt rate : Nat) (step : Bool) (hs : 0 < s.canon) :
    0 < (beginAttempt n attempt rate step s).canon :=
  canon_rateMoved _ (canon_set _ _ (canon_set _ _ (canon_set _ _ (canon_setLink _ _ (canon_freshTx _ _ (canon_resetLanes _
    hs))))))

@[bound] theorem canon_firstAttempt (n : Nat) (hs : 0 < s.canon) : 0 < (firstAttempt n s).canon :=
  canon_beginAttempt _ _ _ _ hs

@[bound] theorem canon_leaveUp (n : Nat) (hs : 0 < s.canon) : 0 < (leaveUp n s).canon := by
  unfold leaveUp
  refine canon_ite hs (canon_panelLinkLost ?_)
  split
  · exact canon_ite hs (canon_bump _ hs)
  · exact hs

@[bound] theorem canon_linkOff (n : Nat) (hs : 0 < s.canon) : 0 < (linkOff n s).canon :=
  canon_rateMoved _ (canon_emit _ (canon_set _ _ (canon_setLink _ _ (canon_freshTx _ _ (canon_resetLanes _ (canon_leaveUp _
    hs))))))

@[bound] theorem canon_retrain (n : Nat) (hs : 0 < s.canon) : 0 < (retrain n s).canon :=
  canon_firstAttempt _ (canon_leaveUp _ hs)

@[bound] theorem canon_linkStop (n : Nat) (hs : 0 < s.canon) : 0 < (linkStop n s).canon :=
  canon_ite hs (canon_setLink _ _ (canon_linkOff _ hs))

@[bound] theorem canon_linkStart (n : Nat) (hs : 0 < s.canon) : 0 < (linkStart n s).canon :=
  canon_ite hs (canon_ite (canon_firstAttempt _ (canon_setLink _ _ hs)) (canon_setLink _ _ hs))

@[bound] theorem canon_reachUp (n : Nat) (hs : 0 < s.canon) : 0 < (reachUp n s).canon :=
  canon_ite (canon_panelLinkUp (canon_raise _ (canon_rateMoved _ (canon_set _ _ (canon_setLink _ _ hs))))) (canon_raise _
    (canon_rateMoved _ (canon_set _ _ (canon_setLink _ _ hs))))

@[bound] theorem canon_linkLost (n : Nat) (hs : 0 < s.canon) : 0 < (linkLost n s).canon :=
  canon_ite (canon_raise _ (canon_firstAttempt _ (canon_leaveUp _ hs))) hs

@[bound] theorem canon_negotiate (hs : 0 < s.canon) : 0 < (negotiate s).canon :=
  canon_ite (canon_reachUp _ (canon_set _ _ hs)) (canon_setLink _ _ (canon_set _ _ hs))

@[bound] theorem canon_attemptDone (n : Nat) (hs : 0 < s.canon) : 0 < (attemptDone n s).canon :=
  canon_ite (canon_reachUp _ (canon_raise _ hs)) (canon_ite (canon_negotiate hs) (canon_reachUp _ hs))

@[bound] theorem canon_stepFailed (hs : 0 < s.canon) : 0 < (stepFailed s).canon :=
  canon_raise _ (canon_firstAttempt _ (canon_set _ _ hs))

@[bound] theorem canon_attemptTimeout (n : Nat) (hs : 0 < s.canon) : 0 < (attemptTimeout n s).canon :=
  canon_ite hs (canon_ite (canon_stepFailed hs) (canon_ite (canon_set _ _ (canon_setBursts _ _ (canon_setLink _ _
    (canon_resetLanes _ hs)))) (canon_raise _ (canon_set _ _ (canon_setBursts _ _ (canon_setLink _ _ (canon_resetLanes _
    hs)))))))

@[bound] theorem canon_backoffEnd (n : Nat) (hs : 0 < s.canon) : 0 < (backoffEnd n s).canon :=
  canon_ite (canon_beginAttempt _ _ _ _ hs) hs

@[bound] theorem canon_stepEchoTimeout (n : Nat) (hs : 0 < s.canon) : 0 < (stepEchoTimeout n s).canon := by
  unfold stepEchoTimeout
  dsimp only
  aesop (rule_sets := [Bound, -default]) (config := alongState)

@[bound] theorem canon_silentEnd (n : Nat) (hs : 0 < s.canon) : 0 < (silentEnd n s).canon :=
  canon_ite (canon_beginAttempt _ _ _ _ hs) hs

@[bound] theorem canon_trainingPhaseEnd (n : Nat) (hs : 0 < s.canon) : 0 < (trainingPhaseEnd n s).canon :=
  canon_ite (canon_linkHeard _ (canon_linkSent _ (canon_setBursts _ _ hs))) hs

@[bound] theorem canon_sendTrain (n : Nat) (hs : 0 < s.canon) : 0 < (sendTrain n s).canon :=
  canon_ite (canon_withPanel _ (canon_setLink _ _ hs)) (canon_setLink _ _ hs)

@[bound] theorem canon_applyPreset (hs : 0 < s.canon) : 0 < (applyPreset s).canon :=
  canon_ite (canon_raise _ (canon_sendTrain _ (canon_emit _ (canon_setLink _ _ (canon_set _ _ hs))))) hs

@[bound] theorem canon_stepPeriod (n : Nat) (hs : 0 < s.canon) : 0 < (stepPeriod n s).canon :=
  canon_ite hs (canon_ite (canon_emit _ (canon_resetLanes _ (canon_set _ _ (canon_freshTx _ _ (canon_setLink _ _ hs)))))
    (canon_ite (canon_setLink _ _ hs) hs))

@[bound] theorem canon_patternPeriod (n : Nat) (hs : 0 < s.canon) : 0 < (patternPeriod n s).canon :=
  canon_ite hs (canon_setLink _ _ (canon_ite (canon_beginPeriod _ _ _ _ hs) hs))

@[bound] theorem canon_lanePeriod (n : Nat) (hs : 0 < s.canon) : 0 < (lanePeriod n s).canon := by
  unfold lanePeriod
  aesop (rule_sets := [Bound, -default]) (config := alongState)

@[bound] theorem canon_idleTrainDue (n : Nat) (hs : 0 < s.canon) : 0 < (idleTrainDue n s).canon :=
  canon_ite hs (canon_setLink _ _ hs)

@[bound] theorem canon_adaptFreeze (n i : Nat) (hs : 0 < s.canon) : 0 < (adaptFreeze n i s).canon :=
  canon_ite (canon_setLane _ _ _ hs) hs

@[bound] theorem canon_idleReceive (n i alignment : Nat) (inverted : Bool) (hs : 0 < s.canon) :
    0 < (idleReceive n i alignment inverted s).canon :=
  canon_ite hs (canon_ite (canon_mk (partsCanon_of_canon hs)) (canon_setLane _ _ _ (canon_mk (partsCanon_of_canon hs))))

@[bound] theorem canon_deskewLane (n i : Nat) (hs : 0 < s.canon) : 0 < (deskewLane n i s).canon :=
  canon_ite (canon_setLane _ _ _ hs) hs

@[bound] theorem canon_afterAlign (n i : Nat) (hs : 0 < s.canon) : 0 < (afterAlign n i s).canon := by
  unfold afterAlign
  refine canon_ite (canon_ite (canon_attemptDone _ hs) hs) (canon_ite ?_ (canon_ite (canon_linkLost _ hs) hs))
  split
  · exact canon_ite (canon_setLink _ _ hs) hs
  · exact hs

@[bound] theorem canon_alignReceive (n i : Nat) (ordered : AlignSet) (skew : Nat) (train : Bool) (hs : 0 < s.canon) :
    0 < (alignReceive n i ordered skew train s).canon :=
  canon_ite hs (canon_afterAlign _ _ (canon_deskewLane _ _ (canon_ite (canon_linkHeard _ (canon_set _ _ (canon_setLane _ _
    _ hs))) (canon_set _ _ (canon_setLane _ _ _ hs)))))

@[bound] theorem canon_skipReceive (n inserted deleted : Nat) (hs : 0 < s.canon) :
    0 < (skipReceive n inserted deleted s).canon :=
  canon_ite (canon_foldl (canon_setLink _ _ hs) (fun _ _ hu => canon_deskewLane _ _ hu)) hs

@[bound] theorem canon_alignMissing (n i : Nat) (hs : 0 < s.canon) : 0 < (alignMissing n i s).canon :=
  canon_ite hs (canon_ite (canon_setLane _ _ _ hs) (canon_linkLost _ (canon_setLink _ _ (canon_setLane _ _ _ hs))))

@[bound] theorem canon_loseLock (n i : Nat) (hs : 0 < s.canon) : 0 < (loseLock n i s).canon :=
  canon_linkLost _ (canon_setLane _ _ _ hs)

@[bound] theorem canon_codeGroupError (n i group : Nat) (rd : Bool) (hs : 0 < s.canon) :
    0 < (codeGroupError n i group rd s).canon :=
  canon_ite hs (canon_ite (canon_loseLock _ _ (canon_ite (canon_setLane _ _ _ hs) (canon_raise _ (canon_setLink _ _
    (canon_setLane _ _ _ hs))))) (canon_ite (canon_setLane _ _ _ hs) (canon_raise _ (canon_setLink _ _ (canon_setLane _ _ _
    hs)))))

@[bound] theorem canon_signalRise (n i : Nat) (hs : 0 < s.canon) : 0 < (signalRise n i s).canon :=
  canon_ite hs (canon_ite (canon_firstAttempt _ (canon_setLane _ _ _ hs)) (canon_setLane _ _ _ hs))

@[bound] theorem canon_signalFall (n i : Nat) (hs : 0 < s.canon) : 0 < (signalFall n i s).canon :=
  canon_ite hs (canon_loseLock _ _ (canon_setLane _ _ _ hs))

@[bound] theorem canon_laneClockLost (hs : 0 < s.canon) : 0 < (laneClockLost s).canon :=
  canon_foldl (canon_mk (partsCanon_of_canon hs)) fun _ _ hu => canon_linkLost _ (canon_setLink _ _ hu)

@[bound] theorem canon_linkCfgWrite (n : Nat) (v : Word) (hs : 0 < s.canon) : 0 < pairCanon (linkCfgWrite n v s) := by
  unfold linkCfgWrite
  aesop (rule_sets := [Bound, -default]) (config := alongState)

@[bound] theorem canon_linkCtrlWrite (n : Nat) (v : Word) (hs : 0 < s.canon) : 0 < pairCanon (linkCtrlWrite n v s) :=
  pairCanon_ite (canon_okay hs) (canon_okay (canon_ite (canon_set _ _ hs) (canon_retrain _ (canon_set _ _ hs))))

@[bound] theorem canon_laneSelWrite (n : Nat) (v : Word) (hs : 0 < s.canon) : 0 < pairCanon (laneSelWrite n v s) :=
  pairCanon_ite (canon_refuse _ hs) (canon_okay (canon_set _ _ hs))

@[bound] theorem canon_presetChanged (hs : 0 < s.canon) : 0 < (presetChanged s).canon := canon_setLink _ _ hs

@[bound] theorem canon_presetWrite (n : Nat) (v : Word) (hs : 0 < s.canon) : 0 < pairCanon (presetWrite n v s) :=
  pairCanon_ite (canon_refuse _ hs) (canon_okay (canon_ite (canon_presetChanged (canon_set _ _ (canon_set _ _ (canon_set _
    _ hs)))) (canon_set _ _ (canon_set _ _ (canon_set _ _ hs)))))

@[bound] theorem canon_laneErrClear (n : Nat) (hs : 0 < s.canon) : 0 < (laneErrClear n s).canon := canon_setLane _ _ _ hs

/-! ## Rates of the memory -/

@[bound] theorem canon_setPc (p : Nat) (x : PcState) (hs : 0 < s.canon) : 0 < (s.setPc p x).canon :=
  canon_mk (partsCanon_of_canon hs)

@[bound] theorem canon_setStack (k : Nat) (x : StackState) (hs : 0 < s.canon) : 0 < (s.setStack k x).canon :=
  canon_mk (partsCanon_of_canon hs)

@[bound] theorem canon_orderLevel (c : Nat) (hs : 0 < s.canon) : 0 < (orderLevel c s).canon := canon_set _ _ hs

@[bound] theorem canon_takeInput (p : Nat) (hs : 0 < s.canon) : 0 < (takeInput p s).canon :=
  canon_ite hs (canon_orderLevel _ (canon_setPc _ _ hs))

@[bound] theorem canon_refiLevel (c : Nat) (hs : 0 < s.canon) : 0 < (refiLevel c s).canon := canon_set _ _ hs

@[bound] theorem canon_countNeighbours (p : Nat) (banks : List BankState) (hs : 0 < s.canon) :
    0 < (countNeighbours p banks s).canon :=
  canon_bumpBy _ _ hs

@[bound] theorem canon_prechargeAll (p : Nat) (hs : 0 < s.canon) : 0 < (prechargeAll p s).canon :=
  canon_countNeighbours _ _ (canon_setPc _ _ hs)

@[bound] theorem canon_refreshPc (p : Nat) (hs : 0 < s.canon) : 0 < (refreshPc p s).canon :=
  canon_refiLevel _ (canon_setPc _ _ (canon_prechargeAll _ hs))

@[bound] theorem canon_stackRefi (k band : Nat) (hs : 0 < s.canon) : 0 < (stackRefi k band s).canon :=
  canon_foldl hs fun _ _ hu => canon_ite (canon_ite (canon_refreshPc _ (canon_refiLevel _ (canon_setPc _ _ hu)))
    (canon_refiLevel _ (canon_setPc _ _ hu))) (canon_setPc _ _ hu)

@[bound] theorem canon_startRefresh (k : Nat) (hs : 0 < s.canon) : 0 < (startRefresh k s).canon :=
  canon_foldl hs fun _ _ hu => canon_setPc _ _ hu

@[bound] theorem canon_rateCheck (k : Nat) (hs : 0 < s.canon) : 0 < (rateCheck k s).canon := canon_set _ _ hs

@[bound] theorem canon_setMemCeiling (k c : Nat) (hs : 0 < s.canon) : 0 < (setMemCeiling k c s).canon :=
  canon_rateCheck _ (canon_set _ _ hs)

@[bound] theorem canon_memCeilings (hs : 0 < s.canon) : 0 < (memCeilings s).canon :=
  canon_foldl hs fun _ _ hu => canon_ite hu (canon_setMemCeiling _ _ hu)

@[bound] theorem canon_setMasks (k : Nat) (m : Option (Nat × Nat)) (hs : 0 < s.canon) : 0 < (setMasks k m s).canon :=
  canon_foldl (canon_setStack _ _ hs) fun _ _ hu => canon_ite (canon_set _ _ hu) (canon_report _ _ _ (canon_mk
    (partsCanon_of_canon (canon_set _ _ hu))))

/-! ## Sizing records -/

@[bound] theorem canon_withSiz (x : SizState) (hs : 0 < s.canon) : 0 < (s.withSiz x).canon :=
  canon_mk (partsCanon_of_canon hs)

@[bound] theorem canon_showTypes (hs : 0 < s.canon) : 0 < (showTypes s).canon := canon_set _ _ hs

@[bound] theorem canon_sizReject (code type entry : Nat) (hs : 0 < s.canon) : 0 < (sizReject code type entry s).canon :=
  canon_ite (canon_raise _ (canon_set _ _ (canon_report _ _ _ (canon_mk (partsCanon_of_canon hs))))) (canon_report _ _ _
    (canon_mk (partsCanon_of_canon hs)))

@[bound] theorem canon_sizResult (code type entry : Nat) (hs : 0 < s.canon) : 0 < (sizResult code type entry s).canon :=
  canon_set _ _ (canon_set _ _ (canon_set _ _ hs))

@[bound] theorem canon_sizEnd (hs : 0 < s.canon) : 0 < (sizEnd s).canon := canon_set _ _ (canon_withSiz _ hs)

@[bound] theorem canon_applyRecord (type inst : Nat) (body : List Byte) (hs : 0 < s.canon) :
    0 < (applyRecord type inst body s).canon :=
  canon_ite (canon_presetChanged (canon_foldl hs (fun _ _ hu => canon_setWord _ _ hu))) (canon_ite (canon_set _ _
    (canon_setStack _ _ hs)) (canon_ite (canon_setMasks _ _ hs) hs))

@[bound] theorem canon_takeEpochRecords (hs : 0 < s.canon) : 0 < (takeEpochRecords s).canon :=
  canon_ite hs (canon_showTypes (canon_set _ _ (canon_foldl (canon_withSiz _ hs) (fun _ _ hu => canon_applyRecord _ _ _ hu))))

@[bound] theorem canon_setMatrix (body : List Byte) (hs : 0 < s.canon) : 0 < (setMatrix body s).canon :=
  canon_foldl hs fun _ _ hu => canon_set _ _ hu

@[bound] theorem canon_showFence (hs : 0 < s.canon) : 0 < (showFence s).canon := canon_set _ _ hs

@[bound] theorem canon_takeMatrixRecord (hs : 0 < s.canon) : 0 < (takeMatrixRecord s).canon := by
  unfold takeMatrixRecord
  split
  · exact hs
  · exact canon_showTypes (canon_showFence (canon_setMatrix _ (canon_withSiz _ hs)))

@[bound] theorem canon_mapRecordFails (r : SizRecord) (code entry : Nat) (hs : 0 < s.canon) :
    0 < (mapRecordFails r code entry s).canon :=
  canon_set _ _ (canon_sizReject _ _ _ (canon_sizResult _ _ _ hs))

@[bound] theorem canon_mapRecordTakes (m : List Byte) (hs : 0 < s.canon) : 0 < (mapRecordTakes m s).canon :=
  canon_mapTakeBytes _ _ (canon_writeMapCopy _ _ (canon_set _ _ hs))

@[bound] theorem canon_takeMapRecord (hs : 0 < s.canon) : 0 < (takeMapRecord s).canon := by
  unfold takeMapRecord
  dsimp only
  aesop (rule_sets := [Bound, -default]) (config := alongState)

@[bound] theorem canon_offerMap (hs : 0 < s.canon) : 0 < (offerMap s).canon := canon_ite (canon_withSiz _ hs) hs

@[bound] theorem canon_readRecord (r : SizRecord) (hs : 0 < s.canon) : 0 < (readRecord s r).canon :=
  canon_ite (canon_sizReject _ _ _ hs) (canon_ite (canon_setMatrix _ (canon_withSiz _ hs)) (canon_ite (canon_withSiz _
    (canon_withSiz _ hs)) (canon_applyRecord _ _ _ (canon_withSiz _ hs))))

@[bound] theorem canon_sizBoot (hs : 0 < s.canon) : 0 < (sizBoot s).canon := by
  unfold sizBoot
  dsimp only
  aesop (rule_sets := [Bound, -default]) (config := alongState)

@[bound] theorem canon_sizStage (hs : 0 < s.canon) : 0 < pairCanon (sizStage s) :=
  pairCanon_ite (canon_refuse _ hs) (pairCanon_ite (canon_refuse _ hs) (pairCanon_ite (canon_refuse _ hs) (canon_okay
    (canon_set _ _ (canon_withSiz _ hs)))))

@[bound] theorem canon_sizTake (rs : List SizRecord) (hs : 0 < s.canon) : 0 < (sizTake rs s).canon :=
  canon_set _ _ (canon_showFence (canon_withSiz _ hs))

@[bound] theorem canon_sizStageDone (hs : 0 < s.canon) : 0 < (sizStageDone s).canon :=
  canon_ite hs (canon_ite (canon_sizTake _ (canon_ite (canon_yieldFuller (canon_sizResult _ _ _ (canon_sizEnd hs)))
    (canon_sizResult _ _ _ (canon_sizEnd hs)))) (canon_sizReject _ _ _ (canon_ite (canon_yieldFuller (canon_sizResult _ _ _
    (canon_sizEnd hs))) (canon_sizResult _ _ _ (canon_sizEnd hs)))))

@[bound] theorem canon_sizWrite (who : Requester) (hs : 0 < s.canon) : 0 < pairCanon (sizWrite who s) :=
  pairCanon_ite (canon_refuse _ hs) (pairCanon_ite (canon_refuse _ hs) (pairCanon_ite (canon_refuse _ hs) (canon_okay
    (canon_set _ _ (canon_withSiz _ (canon_flashErase _ _ hs))))))

@[bound] theorem canon_sizWriteDone (agrees : Bool) (hs : 0 < s.canon) : 0 < (sizWriteDone agrees s).canon := by
  unfold sizWriteDone
  split
  · exact canon_ite (canon_sizResult _ _ _ (canon_setWord _ _ (canon_set _ _ (canon_flashWrite _ _ (canon_sizEnd hs)))))
      (canon_sizReject _ _ _ (canon_sizResult _ _ _ (canon_flashWrite _ _ (canon_mk (partsCanon_of_canon (canon_sizEnd
      hs))))))
  · exact hs

@[bound] theorem canon_sizDiscard (hs : 0 < s.canon) : 0 < pairCanon (sizDiscard s) :=
  pairCanon_ite (canon_refuse _ hs) (canon_okay (canon_set _ _ (canon_set _ _ (canon_withSiz _ hs))))

@[bound] theorem canon_sizCtrlWrite (who : Requester) (v : Word) (hs : 0 < s.canon) : 0 < pairCanon (sizCtrlWrite who v s) :=
  pairCanon_ite (canon_sizStage hs) (pairCanon_ite (canon_sizWrite _ hs) (pairCanon_ite (canon_sizDiscard hs) (canon_okay
    hs)))

@[bound] theorem canon_sizLenWrite (v : Word) (hs : 0 < s.canon) : 0 < pairCanon (sizLenWrite v s) :=
  pairCanon_ite (canon_refuse _ hs) (canon_okay (canon_setWord _ _ hs))

/-! ## The event controller -/

@[bound] theorem canon_evtClaim (v : Word) (hs : 0 < s.canon) : 0 < pairCanon (evtClaim v s) :=
  pairCanon_ite (canon_refuse _ hs) (pairCanon_ite (canon_refuse _ hs) (canon_okay (canon_ite (canon_mk
    (partsCanon_of_canon (canon_set _ _ hs))) (canon_set _ _ (canon_mk (partsCanon_of_canon (canon_set _ _ hs)))))))

@[bound] theorem canon_evtDone (v : Word) (hs : 0 < s.canon) : 0 < pairCanon (evtDone v s) :=
  pairCanon_ite (canon_okay (canon_startNewWindows _ (canon_mk (partsCanon_of_canon (canon_set _ _ hs))))) (canon_okay
    (canon_set _ _ (canon_bump _ hs)))

@[bound] theorem canon_evtPendClear (n : Nat) (v : Word) (hs : 0 < s.canon) : 0 < pairCanon (evtPendClear n v s) :=
  canon_okay (canon_foldl hs (fun _ _ hu => canon_ite (canon_set _ _ hu) hu))

@[bound] theorem canon_evtSwset (v : Word) (hs : 0 < s.canon) : 0 < pairCanon (evtSwset v s) :=
  canon_okay (canon_foldl hs (fun _ _ hu => canon_ite (canon_raise _ hu) hu))

@[bound] theorem canon_evtSwlevel (v : Word) (hs : 0 < s.canon) : 0 < pairCanon (evtSwlevel v s) :=
  canon_okay (canon_foldl (canon_set _ _ hs) (fun _ _ hu => canon_setCond _ _ hu))

@[bound] theorem canon_evtEnable (n : Nat) (v : Word) (hs : 0 < s.canon) : 0 < pairCanon (evtEnable n v s) :=
  canon_okay (canon_startNewWindows _ (canon_foldl hs (fun _ _ hu => canon_ite (canon_set _ _ hu) hu)))

@[bound] theorem canon_evtGroup (g : Nat) (v : Word) (hs : 0 < s.canon) : 0 < pairCanon (evtGroup g v s) :=
  canon_okay (canon_startNewWindows _ (canon_set _ _ (canon_set _ _ (canon_set _ _ hs))))

@[bound] theorem canon_dropChannel (t : Nat) (hs : 0 < s.canon) : 0 < (dropChannel t s).canon :=
  canon_mk (partsCanon_of_canon hs)

@[bound] theorem canon_unbindChannel (t : Nat) (hs : 0 < s.canon) : 0 < (unbindChannel t s).canon :=
  canon_set _ _ (canon_set _ _ (canon_dropChannel _ hs))

@[bound] theorem canon_evtHost (who : Requester) (t : Nat) (v : Word) (hs : 0 < s.canon) :
    0 < pairCanon (evtHost who t v s) := by
  unfold evtHost
  refine pairCanon_ite (canon_refuse _ hs) (pairCanon_ite (canon_okay (canon_set _ _ (canon_ite (canon_unbindChannel _ hs)
    hs))) ?_)
  split
  · exact canon_refuse _ hs
  · exact pairCanon_ite (canon_okay (canon_set _ _ hs)) (canon_okay (canon_set _ _ (canon_set _ _ (canon_set _ _
      (canon_dropChannel _ hs)))))

@[bound] theorem canon_endWindow (g : Nat) (hs : 0 < s.canon) : 0 < (endWindow g s).canon :=
  canon_startNewWindows _ (canon_set _ _ (canon_mk (partsCanon_of_canon hs)))

@[bound] theorem canon_windowEndDue (g : Nat) (hs : 0 < s.canon) : 0 < (windowEndDue g s).canon := by
  unfold windowEndDue
  split
  · exact canon_ite (canon_endWindow _ hs) hs
  · exact hs

@[bound] theorem canon_loadEvents (groups : List (Nat × Nat × Nat)) (hs : 0 < s.canon) : 0 < (loadEvents groups s).canon :=
  canon_foldl (canon_startNewWindows _ (canon_foldl hs (fun _ _ hu => canon_foldl (canon_set _ _ (canon_set _ _ (canon_set
    _ _ hu))) (fun _ _ hu => canon_set _ _ hu)))) fun _ _ hu => canon_endWindow _ hu

@[bound] theorem canon_writeEntry (hs : 0 < s.canon) : 0 < (writeEntry s).canon := by
  unfold writeEntry
  split
  · exact canon_ite hs (canon_ite (canon_logDrop _ _ (canon_set _ _ (canon_mk (partsCanon_of_canon hs)))) (canon_logLevels
      (canon_setWord _ _ (canon_poolWrite _ _ _ (canon_set _ _ (canon_mk (partsCanon_of_canon hs)))))))
  · exact hs

@[bound] theorem canon_errlogRd (v : Word) (hs : 0 < s.canon) : 0 < pairCanon (errlogRd v s) :=
  pairCanon_ite (canon_okay (canon_logLevels (canon_setWord _ _ hs))) (canon_refuse _ hs)

@[bound] theorem canon_errlogCfg (v : Word) (hs : 0 < s.canon) : 0 < pairCanon (errlogCfg v s) :=
  pairCanon_ite (canon_refuse _ hs) (canon_okay (canon_logLevels (canon_set _ _ hs)))

@[bound] theorem canon_emptyLog (hs : 0 < s.canon) : 0 < (emptyLog s).canon :=
  canon_logLevels (canon_setWord _ _ (canon_setWord _ _ (canon_set _ _ (canon_mk (partsCanon_of_canon hs)))))

end

end Sys2Proof.Machine
end

section
/-! SUPPORT. The canonical form is kept by what the model is built of:
paths, time, modes, blocks and boot. -/

namespace Sys2Proof.Machine

section
variable {s : State}

/-! ## Fuller -/

@[bound] theorem canon_setFulJob (n : Nat) (j : Option FulJob) (hs : 0 < s.canon) : 0 < (s.setFulJob n j).canon :=
  canon_mk (partsCanon_of_canon hs)

@[bound] theorem canon_fulResult (n result err refuse : Nat) (hs : 0 < s.canon) :
    0 < (s.fulResult n result err refuse).canon :=
  canon_set _ _ (canon_set _ _ (canon_set _ _ hs))

@[bound] theorem canon_fulState (n st : Nat) (hs : 0 < s.canon) : 0 < (s.fulState n st).canon :=
  canon_set _ _ (canon_set _ _ hs)

@[bound] theorem canon_fullerStart (n : Nat) (hs : 0 < s.canon) : 0 < pairCanon (fullerStart n s) := by
  unfold fullerStart
  dsimp only
  aesop (rule_sets := [Bound, -default]) (config := alongState)

@[bound] theorem canon_fulScramble (p : FulParams) (hs : 0 < s.canon) : 0 < (fulScramble p s).canon := by
  unfold fulScramble
  split
  · exact hs
  · exact canon_poolWrite _ _ _ (canon_mk (partsCanon_of_canon hs))

@[bound] theorem canon_fulOver (n result err out : Nat) (hs : 0 < s.canon) : 0 < (fulOver n result err out s).canon :=
  canon_settlePower (canon_set _ _ (canon_fulState _ _ (canon_fulResult _ _ _ _ (canon_setFulJob _ _ hs))))

@[bound] theorem canon_fulFail (n : Nat) (p : FulParams) (code : Nat) (hs : 0 < s.canon) : 0 < (fulFail n p code s).canon :=
  canon_raise _ (canon_bump _ (canon_fulOver _ _ _ _ (canon_fulScramble _ hs)))

@[bound] theorem canon_fulDone (n out : Nat) (hs : 0 < s.canon) : 0 < (fulDone n out s).canon :=
  canon_raise _ (canon_fulOver _ _ _ _ hs)

@[bound] theorem canon_fulAborted (n : Nat) (hs : 0 < s.canon) : 0 < (fulAborted n s).canon := by
  unfold fulAborted
  split
  · exact hs
  · exact canon_fulOver _ _ _ _ (canon_fulScramble _ hs)

@[bound] theorem canon_fullerAbort (n : Nat) (hs : 0 < s.canon) : 0 < pairCanon (fullerAbort n s) :=
  canon_okay (canon_fulAborted _ hs)

@[bound] theorem canon_fullerCtrl (n : Nat) (v : Word) (hs : 0 < s.canon) : 0 < pairCanon (fullerCtrl n v s) :=
  pairCanon_ite (canon_fullerStart _ (canon_ite (canon_snd (canon_fullerAbort _ hs)) hs)) (canon_okay (canon_ite (canon_snd
    (canon_fullerAbort _ hs)) hs))

@[bound] theorem canon_fulJobWrite (n a : Nat) (v : Word) (hs : 0 < s.canon) : 0 < pairCanon (fulJobWrite n a v s) :=
  pairCanon_ite (canon_refuse _ hs) (canon_okay (canon_setWord _ _ hs))

@[bound] theorem canon_fulWrite (p : FulParams) (off : Nat) (bs : List Byte) (hs : 0 < s.canon) :
    0 < (fulWrite p off bs s).canon := by
  unfold fulWrite
  split
  · exact hs
  · exact canon_poolWrite _ _ _ hs

@[bound] theorem canon_fulPoisoned (n : Nat) (p : FulParams) (r : FullerRun) (hs : 0 < s.canon) :
    0 < (fulPoisoned n p r s).canon :=
  canon_fulFail _ _ _ (canon_xlatFault _ _ _ _ _ hs)

@[bound] theorem canon_fulNext (n : Nat) (j : FulJob) (r : FullerRun) (hs : 0 < s.canon) : 0 < (fulNext n j r s).canon :=
  canon_ite (canon_raise _ (canon_parkEngine _ _ (canon_bump _ (canon_fulState _ _ (canon_setFulJob _ _ (canon_set _ _
    (canon_set _ _ hs))))))) (canon_setFulJob _ _ (canon_set _ _ (canon_set _ _ hs)))

@[bound] theorem canon_fulCompress (n : Nat) (j : FulJob) (p : FulParams) (hs : 0 < s.canon) :
    0 < (fulCompress n j p s).canon :=
  canon_ite (canon_fulPoisoned _ _ _ hs) (canon_ite (canon_fulFail _ _ _ hs) (canon_ite (canon_fulDone _ _ (canon_set _ _
    (canon_set _ _ (canon_fulWrite _ _ _ hs)))) (canon_fulNext _ _ _ (canon_fulWrite _ _ _ hs))))

@[bound] theorem canon_fulExpand (n : Nat) (j : FulJob) (p : FulParams) (hs : 0 < s.canon) : 0 < (fulExpand n j p s).canon := by
  unfold fulExpand
  aesop (rule_sets := [Bound, -default]) (config := alongState)

@[bound] theorem canon_fullerBlock (n : Nat) (hs : 0 < s.canon) : 0 < (fullerBlock n s).canon := by
  unfold fullerBlock
  split
  · exact hs
  · exact canon_ite hs (canon_ite (canon_fulCompress _ _ _ hs) (canon_fulExpand _ _ _ hs))

@[bound] theorem canon_fullerPowered (n : Nat) (hs : 0 < s.canon) : 0 < (fullerPowered n s).canon := by
  unfold fullerPowered
  split
  · exact hs
  · exact canon_ite (canon_fulState _ _ (canon_setFulJob _ _ hs)) hs

@[bound] theorem canon_fullerResume (n : Nat) (hs : 0 < s.canon) : 0 < (fullerResume n s).canon := by
  unfold fullerResume
  split
  · exact hs
  · exact canon_ite (canon_fulState _ _ (canon_setFulJob _ _ hs)) hs

@[bound] theorem canon_fullerLost (n : Nat) (hs : 0 < s.canon) : 0 < (fullerLost n s).canon := by
  unfold fullerLost
  split
  · exact hs
  · exact canon_ite (canon_fulFail _ _ _ hs) hs

/-! ## Paths -/

@[bound] theorem canon_noteWritten (a : Nat) (hs : 0 < s.canon) : 0 < (noteWritten a s).canon :=
  canon_foldl hs fun _ _ hu => canon_ite hu (canon_setPath _ _ _ hu)

theorem canon_leaseRange (kind id : Nat) (r : Nat × Nat × Option Nat × Nat) {s t : State} (hs : 0 < s.canon)
    (h : leaseRange kind id r s = .ok t) : 0 < t.canon := by
  unfold leaseRange at h
  dsimp only at h
  repeat' split at h
  all_goals cases h
  all_goals exact canon_takeLease _ _ _ _ _ _ hs (by assumption)

theorem canon_leaseRanges (kind id : Nat) (rs : List (Nat × Nat × Option Nat × Nat)) {s t : State} (hs : 0 < s.canon)
    (h : leaseRanges kind id rs s = .ok t) : 0 < t.canon := by
  induction rs generalizing s with
  | nil =>
    cases h
    exact hs
  | cons r rs ih =>
    unfold leaseRanges at h
    split at h
    next u hu => exact ih (canon_leaseRange kind id r hs hu) h
    next => cases h

@[bound] theorem canon_dropLeases (kind id : Nat) (hs : 0 < s.canon) : 0 < (dropLeases kind id s).canon :=
  canon_foldl hs fun _ _ hu => canon_dropLease _ hu

@[bound] theorem canon_bindObject (kind id : Nat) (hs : 0 < s.canon) : 0 < pairCanon (bindObject kind id s) := by
  unfold bindObject
  split
  · exact hs
  · split
    · exact hs
    · split
      · exact hs
      next t ht =>
        have hleased := canon_leaseRanges kind id _ (canon_dropLeases kind id hs) ht
        aesop (rule_sets := [Bound, -default]) (config := alongState)

@[bound] theorem canon_startStream (st : Nat) (hs : 0 < s.canon) : 0 < (startStream st s).canon := by
  unfold startStream
  dsimp only
  aesop (rule_sets := [Bound, -default]) (config := alongState)

@[bound] theorem canon_armEffect (kind id : Nat) (hs : 0 < s.canon) : 0 < (armEffect kind id s).canon :=
  canon_ite (canon_startStream _ (canon_mk (partsCanon_of_canon (canon_setPath _ _ _ hs)))) (canon_ite (canon_encArm _
    (canon_mk (partsCanon_of_canon (canon_setPath _ _ _ hs)))) (canon_mk (partsCanon_of_canon (canon_setPath _ _ _ hs))))

@[bound] theorem canon_disarmObject (kind id : Nat) (hs : 0 < s.canon) : 0 < (disarmObject kind id s).canon := by
  unfold disarmObject
  aesop (rule_sets := [Bound, -default]) (config := alongState)

@[bound] theorem canon_cascade (n kind id : Nat) (hs : 0 < s.canon) : 0 < (cascade n kind id s).canon := by
  induction n generalizing kind id s with
  | zero => exact canon_ite (canon_disarmObject _ _ hs) hs
  | succ n ih =>
    have hnamers := canon_foldl (l := s.byArming ((s.namers kind id).filter fun o => s.armed o.1 o.2)) hs
      (f := fun s o => cascade n o.1 o.2 s) fun u o hu => ih o.1 o.2 hu
    exact canon_ite (canon_disarmObject _ _ hnamers) hnamers

@[bound] theorem canon_disarmForbidden (mode : Nat) (hs : 0 < s.canon) : 0 < (disarmForbidden mode s).canon :=
  canon_foldl hs fun _ _ hu => canon_cascade _ _ _ hu

@[bound] theorem canon_declareObject (kind id : Nat) (hs : 0 < s.canon) : 0 < pairCanon (declareObject kind id s) :=
  pairCanon_ite (canon_refuse _ hs) (pairCanon_ite (canon_refuse _ hs) (canon_okay (canon_setPath _ _ _ (canon_resetWords _
    hs))))

@[bound] theorem canon_bindAction (kind id : Nat) (hs : 0 < s.canon) : 0 < pairCanon (bindAction kind id s) :=
  pairCanon_ite (canon_refuse _ hs) (pairCanon_ite (canon_refuse _ hs) (canon_bindObject _ _ hs))

@[bound] theorem canon_armAction (kind id : Nat) (hs : 0 < s.canon) : 0 < pairCanon (armAction kind id s) := by
  unfold armAction
  aesop (rule_sets := [Bound, -default]) (config := alongState)

@[bound] theorem canon_disarmAction (kind id : Nat) (withCascade : Bool) (hs : 0 < s.canon) :
    0 < pairCanon (disarmAction kind id withCascade s) :=
  pairCanon_ite (canon_refuse _ hs) (pairCanon_ite (canon_okay (canon_cascade _ _ _ hs)) (pairCanon_ite (canon_refuse _ hs)
    (canon_okay (canon_disarmObject _ _ hs))))

@[bound] theorem canon_unbindAction (kind id : Nat) (hs : 0 < s.canon) : 0 < pairCanon (unbindAction kind id s) :=
  pairCanon_ite (canon_refuse _ hs) (pairCanon_ite (canon_refuse _ hs) (canon_okay (canon_setPath _ _ _
    (canon_releaseObject _ _ hs))))

@[bound] theorem canon_undeclareAction (kind id : Nat) (hs : 0 < s.canon) : 0 < pairCanon (undeclareAction kind id s) :=
  pairCanon_ite (canon_refuse _ hs) (pairCanon_ite (canon_refuse _ hs) (canon_okay (canon_setPath _ _ _ hs)))

@[bound] theorem canon_pathAction (action kind id : Nat) (withCascade : Bool) (hs : 0 < s.canon) :
    0 < pairCanon (pathAction action kind id withCascade s) :=
  pairCanon_ite (canon_refuse _ hs) (pairCanon_ite (canon_declareObject _ _ hs) (pairCanon_ite (canon_bindAction _ _ hs)
    (pairCanon_ite (canon_armAction _ _ hs) (pairCanon_ite (canon_disarmAction _ _ _ hs) (pairCanon_ite (canon_unbindAction
    _ _ hs) (pairCanon_ite (canon_undeclareAction _ _ hs) (canon_refuse _ hs)))))))

@[bound] theorem canon_pathCmdWrite (v : Word) (hs : 0 < s.canon) : 0 < pairCanon (pathCmdWrite v s) :=
  canon_pathAction _ _ _ _ hs

@[bound] theorem canon_takeStaged (hs : 0 < s.canon) : 0 < (takeStaged s).canon :=
  canon_foldl hs (fun _ _ hu => canon_foldl hu (fun _ _ hu => canon_setPath _ _ _ (canon_commitAll _ hu)))

@[bound] theorem canon_pathsReset (hs : 0 < s.canon) : 0 < (pathsReset s).canon :=
  canon_mk (partsCanon_of_canon (canon_foldl (canon_foldl hs (fun _ _ hu => canon_disarmObject _ _ hu)) (fun _ _ hu =>
    canon_ite hu (canon_dropLease _ hu))))

/-! ## Time -/

@[bound] theorem canon_withTime (t : TimeState) (hs : 0 < s.canon) : 0 < (s.withTime t).canon :=
  canon_mk (partsCanon_of_canon hs)

@[bound] theorem canon_setPair (lo hi : Nat) (v : Int) (hs : 0 < s.canon) : 0 < (s.setPair lo hi v).canon :=
  canon_setWord _ _ (canon_setWord _ _ hs)

@[bound] theorem canon_loopSend (n before : Nat) (hs : 0 < s.canon) : 0 < (loopSend n before s).canon :=
  canon_ite hs (canon_foldl hs (fun _ _ hu => canon_emit _ hu))

@[bound] theorem canon_tick (hs : 0 < s.canon) : 0 < (tick s).canon :=
  canon_ite hs (canon_foldl (canon_netTick (canon_mk (partsCanon_of_canon hs))) (fun _ _ hu => canon_loopSend _ _
    (canon_flushPort _ hu)))

@[bound] theorem canon_setTimeState (v : Nat) (hs : 0 < s.canon) : 0 < (setTimeState v s).canon :=
  canon_ite (canon_raise _ (canon_set _ _ hs)) (canon_set _ _ hs)

@[bound] theorem canon_setMaster (m : Option MasterRec) (hs : 0 < s.canon) : 0 < (setMaster m s).canon := by
  unfold setMaster
  refine canon_withTime _ ?_
  split
  · exact canon_set _ _ (canon_setWord _ _ (canon_setWord _ _ hs))
  · exact canon_setWord _ _ (canon_setWord _ _ hs)

@[bound] theorem canon_chooseMaster (hs : 0 < s.canon) : 0 < (chooseMaster s).canon := by
  unfold chooseMaster
  refine canon_ite hs ?_
  split
  · exact canon_raise _ (canon_setTimeState _ (canon_setMaster _ hs))
  · exact canon_ite (canon_raise _ (canon_ite (canon_setTimeState _ (canon_withTime _ (canon_setMaster _ hs)))
      (canon_setMaster _ hs))) (canon_ite (canon_setTimeState _ (canon_withTime _ (canon_setMaster _ hs))) (canon_setMaster
      _ hs))

@[bound] theorem canon_ptpAnnounce (h : PtpHeader) (quality : List Nat) (hs : 0 < s.canon) :
    0 < (ptpAnnounce h quality s).canon :=
  canon_ite hs (canon_chooseMaster (canon_withTime _ hs))

@[bound] theorem canon_announceTimeout (hs : 0 < s.canon) : 0 < (announceTimeout s).canon :=
  canon_chooseMaster (canon_withTime _ hs)

@[bound] theorem canon_ptpSync (h : PtpHeader) (twoStep : Bool) (seconds ns : Nat) (correction : Int) (hs : 0 < s.canon) :
    0 < (ptpSync h twoStep seconds ns correction s).canon :=
  canon_ite hs (canon_withTime _ (canon_set _ _ hs))

@[bound] theorem canon_ptpFollowUp (h : PtpHeader) (seconds ns : Nat) (correction : Int) (hs : 0 < s.canon) :
    0 < (ptpFollowUp h seconds ns correction s).canon :=
  canon_ite hs (canon_withTime _ hs)

@[bound] theorem canon_delayReqSend (hs : 0 < s.canon) : 0 < (delayReqSend s).canon := by
  unfold delayReqSend
  split
  · exact hs
  · exact canon_ite hs (canon_emit _ (canon_withTime _ hs))

@[bound] theorem canon_timeStep (hs : 0 < s.canon) : 0 < (timeStep s).canon :=
  canon_raise _ (canon_set _ _ (canon_set _ _ (canon_setPair _ _ _ (canon_withTime _ hs))))

@[bound] theorem canon_servo (hs : 0 < s.canon) : 0 < (servo s).canon :=
  canon_setPair _ _ _ (canon_mk (partsCanon_of_canon hs))

@[bound] theorem canon_settleTime (o : Int) (hs : 0 < s.canon) : 0 < (settleTime o s).canon := by
  unfold settleTime
  aesop (rule_sets := [Bound, -default]) (config := alongState)

@[bound] theorem canon_takeOffset (o : Int) (hs : 0 < s.canon) : 0 < (takeOffset o s).canon :=
  canon_ite (canon_ite (canon_timeStep (canon_withTime _ (canon_setWord _ _ hs))) (canon_withTime _ (canon_setWord _ _
    hs))) (canon_settleTime _ (canon_setWord _ _ hs))

@[bound] theorem canon_ptpDelayResp (h : PtpHeader) (requester : List Byte) (seconds ns : Nat) (correction : Int)
    (hs : 0 < s.canon) : 0 < (ptpDelayResp h requester seconds ns correction s).canon := by
  unfold ptpDelayResp
  refine canon_ite hs ?_
  split
  · split
    · exact canon_takeOffset _ (canon_withTime _ (canon_withTime _ hs))
    · exact canon_withTime _ hs
  · split
    · exact canon_takeOffset _ (canon_withTime _ hs)
    · exact hs

@[bound] theorem canon_timeStandby (hs : 0 < s.canon) : 0 < (timeStandby s).canon :=
  canon_ite (canon_setTimeState _ (canon_withTime _ (canon_set _ _ (canon_set _ _ hs)))) (canon_withTime _ (canon_set _ _
    (canon_set _ _ hs)))

@[bound] theorem canon_timeCfgWrite (v : Word) (hs : 0 < s.canon) : 0 < pairCanon (timeCfgWrite v s) := by
  unfold timeCfgWrite
  aesop (rule_sets := [Bound, -default]) (config := alongState)

@[bound] theorem canon_timeAsymWrite (v : Word) (hs : 0 < s.canon) : 0 < pairCanon (timeAsymWrite v s) :=
  pairCanon_ite (canon_refuse _ hs) (pairCanon_ite (canon_refuse _ hs) (canon_okay (canon_setWord _ _ hs)))

/-! ## Modes -/

@[bound] theorem canon_loadAbort (hs : 0 < s.canon) : 0 < (loadAbort s).canon := by
  unfold loadAbort
  split
  · exact hs
  · exact canon_ite hs (canon_raise _ (canon_set _ _ (canon_set _ _ (canon_set _ _ (canon_mk (partsCanon_of_canon hs))))))

@[bound] theorem canon_beginTransition (target : Nat) (hs : 0 < s.canon) : 0 < (beginTransition target s).canon :=
  canon_disarmForbidden _ (canon_ite (canon_panelHold (canon_set _ _ (canon_set _ _ hs))) (canon_set _ _ (canon_set _ _ hs)))

@[bound] theorem canon_modeRequest (who : Requester) (target : Nat) (hs : 0 < s.canon) :
    0 < pairCanon (modeRequest who target s) :=
  pairCanon_ite (canon_refuse _ hs) (pairCanon_ite (canon_refuse _ hs) (pairCanon_ite (canon_refuse _ hs) (pairCanon_ite
    (canon_refuse _ hs) (pairCanon_ite (canon_okay hs) (pairCanon_ite (canon_refuse _ hs) (pairCanon_ite (canon_okay
    (canon_set _ _ hs)) (canon_okay (canon_beginTransition _ (canon_loadAbort hs)))))))))

@[bound] theorem canon_ethLoopEnd (n : Nat) (hs : 0 < s.canon) : 0 < (ethLoopEnd n s).canon :=
  canon_set _ _ (canon_ite hs (canon_set _ _ (canon_set _ _ hs)))

@[bound] theorem canon_leaveLoopback (hs : 0 < s.canon) : 0 < (leaveLoopback s).canon :=
  canon_foldl (canon_foldl hs (fun _ _ hu => canon_ethLoopEnd _ hu)) fun _ _ hu => canon_ite (canon_retrain _
    (canon_setLink _ _ (canon_set _ _ (canon_set _ _ hu)))) (canon_setLink _ _ (canon_set _ _ (canon_set _ _ hu)))

@[bound] theorem canon_panelStop (hs : 0 < s.canon) : 0 < (panelStop s).canon :=
  canon_ite (canon_mk (partsCanon_of_canon (canon_linkStop _ hs))) hs

@[bound] theorem canon_endWork (hs : 0 < s.canon) : 0 < (endWork s).canon := by
  unfold endWork
  exact canon_clearSaves (canon_dropWork _ (canon_mk (partsCanon_of_canon (canon_withEnc _ (canon_dropInstants _
    (canon_foldl (canon_foldl hs (fun _ _ hu => canon_snd (canon_plankAbort _ hu))) (fun _ _ hu => canon_fulAborted _
    hu)))))))

@[bound] theorem canon_leaveMode (old new : Nat) (hs : 0 < s.canon) : 0 < (leaveMode old new s).canon := by
  unfold leaveMode
  aesop (rule_sets := [Bound, -default]) (config := alongState)

@[bound] theorem canon_enterEffects (new : Nat) (hs : 0 < s.canon) : 0 < (enterEffects new s).canon := by
  unfold enterEffects
  aesop (rule_sets := [Bound, -default]) (config := alongState)

@[bound] theorem canon_takeMode (base : Nat) (hs : 0 < s.canon) : 0 < (takeMode base s).canon := by
  unfold takeMode
  aesop (rule_sets := [Bound, -default]) (config := alongState)

@[bound] theorem canon_enterSafe (cause : Nat) (hs : 0 < s.canon) : 0 < (enterSafe cause s).canon :=
  canon_ite hs (canon_beginTransition _ (canon_loadAbort (canon_ite (canon_mk (partsCanon_of_canon hs)) (canon_raiseWith _
    _ _ (canon_mk (partsCanon_of_canon hs))))))

@[bound] theorem canon_safeDone (hs : 0 < s.canon) : 0 < (safeDone s).canon := by
  unfold safeDone
  split
  · exact hs
  · exact canon_ite (canon_raise _ (canon_takeMode _ (canon_mk (partsCanon_of_canon (canon_set _ _ hs))))) hs

@[bound] theorem canon_settleThrottle (hs : 0 < s.canon) : 0 < (settleThrottle s).canon :=
  canon_ite hs (canon_ite (canon_takeMode _ hs) (canon_ite (canon_takeMode _ hs) hs))

@[bound] theorem canon_transitionDone (hs : 0 < s.canon) : 0 < (transitionDone s).canon :=
  canon_ite hs (canon_ite (canon_safeDone hs) (canon_takeMode _ hs))

@[bound] theorem canon_readRails (warn fault : Nat) (hs : 0 < s.canon) : 0 < (readRails warn fault s).canon :=
  canon_foldl (canon_setCond _ _ (canon_set _ _ (canon_set _ _ hs))) fun _ _ hu => canon_ite (canon_enterSafe _
    (canon_raise _ (canon_mk (partsCanon_of_canon hu)))) (canon_mk (partsCanon_of_canon hu))

@[bound] theorem canon_takeReading (n : Nat) (v : Option Int) (hs : 0 < s.canon) : 0 < (takeReading n v s).canon := by
  unfold takeReading
  split
  · exact canon_set _ _ (canon_mk (partsCanon_of_canon hs))
  · exact canon_mk (partsCanon_of_canon hs)

@[bound] theorem canon_crossCheck {before : State} (n : Nat) (hs : 0 < s.canon) : 0 < (crossCheck before s n).canon := by
  unfold crossCheck
  dsimp only
  aesop (rule_sets := [Bound, -default]) (config := alongState)

@[bound] theorem canon_applyThrottle (on : Bool) (hs : 0 < s.canon) : 0 < (applyThrottle on s).canon :=
  canon_ite hs (canon_settleThrottle (canon_beginDvfs (canon_setCond _ _ (canon_set _ _ (canon_mk (partsCanon_of_canon
    hs))))))

@[bound] theorem canon_applyWarn (on : Bool) (hs : 0 < s.canon) : 0 < (applyWarn on s).canon :=
  canon_setCond _ _ (canon_set _ _ (canon_mk (partsCanon_of_canon hs)))

@[bound] theorem canon_applyDieBand (b : Nat) (hs : 0 < s.canon) : 0 < (applyDieBand b s).canon :=
  canon_ite hs (canon_raise _ (canon_set _ _ (canon_ite (canon_presetChanged (canon_beginDvfs (canon_mk
    (partsCanon_of_canon hs)))) (canon_beginDvfs (canon_mk (partsCanon_of_canon (canon_presetChanged hs)))))))

@[bound] theorem canon_applyStackBand (k b : Nat) (hs : 0 < s.canon) : 0 < (applyStackBand k b s).canon :=
  canon_ite hs (canon_raise _ (canon_memCeilings (canon_stackRefi _ _ (canon_set _ _ (canon_mk (partsCanon_of_canon hs))))))

@[bound] theorem canon_decideThermal (hs : 0 < s.canon) : 0 < (decideThermal s).canon := by
  unfold decideThermal
  aesop (rule_sets := [Bound, -default]) (config := alongState)

@[bound] theorem canon_housekeeping (readings : List (Option Int)) (warn fault : Nat) (hs : 0 < s.canon) :
    0 < (housekeeping readings warn fault s).canon :=
  canon_readRails _ _ (canon_decideThermal (canon_foldl (canon_foldl hs (fun _ _ hu => canon_takeReading _ _ hu)) (fun _ _
    hu => canon_crossCheck _ hu)))

@[bound] theorem canon_fastRead (readings : List (Option Int)) (hs : 0 < s.canon) : 0 < (fastRead readings s).canon :=
  canon_ite hs (canon_decideThermal (canon_foldl hs (fun _ _ hu => canon_takeReading _ _ hu)))

@[bound] theorem canon_thermCfgWrite (v : Word) (hs : 0 < s.canon) : 0 < pairCanon (thermCfgWrite v s) :=
  pairCanon_ite (canon_refuse _ hs) (canon_okay (canon_set _ _ (canon_set _ _ (canon_set _ _ hs))))

@[bound] theorem canon_thermThrotWrite (v : Word) (hs : 0 < s.canon) : 0 < pairCanon (thermThrotWrite v s) :=
  pairCanon_ite (canon_refuse _ hs) (canon_okay (canon_beginDvfs (canon_set _ _ (canon_set _ _ hs))))

/-! ## Blocks, regions and images -/

@[bound] theorem canon_setCell (k c : Nat) (x : CellState) (hs : 0 < s.canon) : 0 < (s.setCell k c x).canon :=
  canon_setBlock _ _ hs

@[bound] theorem canon_powerSpare (sp k : Nat) (hs : 0 < s.canon) : 0 < (powerSpare sp k s).canon :=
  canon_setBlockState _ _ (canon_setBlock _ _ hs)

@[bound] theorem canon_parkBlock (k : Nat) (hs : 0 < s.canon) : 0 < (parkBlock k s).canon := by
  unfold parkBlock
  refine canon_foldl hs fun _ _ hu => ?_
  split
  · exact canon_parkEngine _ _ hu
  · exact hu

@[bound] theorem canon_withholdItem (w : WorkItem) (hs : 0 < s.canon) : 0 < (withholdItem w s).canon := by
  unfold withholdItem
  split
  · exact canon_cardTile _ _ _ _ hs
  · exact canon_confTile _ _ _ hs
  · exact hs

@[bound] theorem canon_loseItem (w : WorkItem) (hs : 0 < s.canon) : 0 < (loseItem w s).canon := by
  unfold loseItem
  split
  · exact canon_withEnc _ hs
  · exact canon_withholdItem _ hs

@[bound] theorem canon_declareFailed (k : Nat) (hs : 0 < s.canon) : 0 < (declareFailed k s).canon := by
  unfold declareFailed
  aesop (rule_sets := [Bound, -default]) (config := alongState)

@[bound] theorem canon_requeue (k c : Nat) (q : QueuedItem) (hs : 0 < s.canon) : 0 < (requeue k c q s).canon :=
  canon_setBlock _ _ (canon_clearCell _ _ hs)

@[bound] theorem canon_retireCell (k c : Nat) (hs : 0 < s.canon) : 0 < (retireCell k c s).canon := by
  unfold retireCell
  refine canon_ite (canon_declareFailed _ (canon_raiseWith _ _ _ (canon_set _ _ (canon_setCell _ _ _ ?_))))
    (canon_raiseWith _ _ _ (canon_set _ _ (canon_setCell _ _ _ ?_)))
  · split
    · exact canon_requeue _ _ _ hs
    · exact hs
  · split
    · exact canon_requeue _ _ _ hs
    · exact hs

@[bound] theorem canon_cellParity (k c : Nat) (inReplay : Bool) (hs : 0 < s.canon) : 0 < (cellParity k c inReplay s).canon :=
  canon_ite hs (canon_ite (canon_retireCell _ _ hs) (canon_raiseWith _ _ _ (canon_setCell _ _ _ hs)))

@[bound] theorem canon_itemWatchdog (k c : Nat) (hs : 0 < s.canon) : 0 < (itemWatchdog k c s).canon :=
  canon_ite hs (canon_retireCell _ _ (canon_raiseWith _ _ _ hs))

@[bound] theorem canon_noteIssued (n : Nat) (w : WorkItem) (hs : 0 < s.canon) : 0 < (noteIssued n w s).canon := by
  unfold noteIssued
  split
  · exact hs
  · exact canon_ite hs (canon_foldl (canon_mk (partsCanon_of_canon hs)) (fun _ _ hu => canon_ite (canon_setBlock _ _ hu) hu))

@[bound] theorem canon_itemDispatch (k : Nat) (accesses : List (List StoreAccess)) (hs : 0 < s.canon) :
    0 < (itemDispatch k accesses s).canon := by
  unfold itemDispatch
  split
  · refine canon_ite (canon_loseItem _ (canon_setBlock _ _ (canon_snd ?_))) (canon_noteIssued _ _ (canon_setBlock _ _
      (canon_setCell _ _ _ (canon_snd ?_))))
    · split
      · exact canon_resumeAt _ _ hs
      · exact canon_pair hs
    · split
      · exact canon_resumeAt _ _ hs
      · exact canon_pair hs
  · exact hs

@[bound] theorem canon_poisonItem (k c : Nat) (hs : 0 < s.canon) : 0 < (poisonItem k c s).canon := by
  unfold poisonItem
  split
  · exact hs
  · exact canon_ite (canon_requeue _ _ _ hs) (canon_ite (canon_declareFailed _ (canon_withholdItem _ (canon_raiseWith _ _ _
      (canon_setBlock _ _ (canon_clearCell _ _ hs))))) (canon_withholdItem _ (canon_raiseWith _ _ _ (canon_setBlock _ _
      (canon_clearCell _ _ hs)))))

@[bound] theorem canon_carryToPool (k pool : Nat) (hs : 0 < s.canon) : 0 < (carryToPool k pool s).canon := by
  unfold carryToPool
  split
  · exact canon_carryFrom _ _ hs
  · exact hs

@[bound] theorem canon_cardTileComplete (k c : Nat) (hs : 0 < s.canon) : 0 < (cardTileComplete k c s).canon := by
  unfold cardTileComplete
  split
  · split
    · exact canon_ite (canon_poisonItem _ _ (canon_xlatFault _ _ _ _ _ hs)) (canon_cardTile _ _ _ _ (canon_carryToPool _ _
        (canon_clearCell _ _ hs)))
    · exact canon_clearCell _ _ hs
  · exact hs

@[bound] theorem canon_confItemComplete (k c : Nat) (hs : 0 < s.canon) : 0 < (confItemComplete k c s).canon := by
  unfold confItemComplete
  split
  · split
    · exact canon_ite (canon_frameEndsUnit _ (canon_xlatFault _ _ _ _ _ (canon_clearCell _ _ hs))) (canon_clearCell _ _ hs)
    · split
      · exact canon_poisonItem _ _ (canon_xlatFault _ _ _ _ _ hs)
      · exact canon_confTile _ _ _ (canon_carryToPool _ _ (canon_clearCell _ _ hs))
  · exact hs

@[bound] theorem canon_blockEcc (k c : Nat) (double : Bool) (hs : 0 < s.canon) : 0 < (blockEcc k c double s).canon :=
  canon_ite hs (canon_ite (canon_poisonItem _ _ hs) (canon_raiseWith _ _ _ hs))

/-- Cells from src on, moved to dst on, stay in order. -/
theorem wf_moveCells (d : Byte) (src dst : Nat) {m : List Host.Cell} (hwf : Memory.wf d m = true)
    (hfrom : ∀ e ∈ m, src ≤ e.1) :
    Memory.wf d (m.map fun e => (e.1 - src + dst, e.2)) = true := by
  induction m with
  | nil => rfl
  | cons e m ih =>
    obtain ⟨a, v⟩ := e
    simp only [Memory.wf, tabWf, Bool.and_eq_true] at hwf
    obtain ⟨⟨hv, habove⟩, htail⟩ := hwf
    have hmoved := ih htail fun e he => hfrom e (.tail _ he)
    simp only [List.map_cons, Memory.wf, tabWf, Bool.and_eq_true]
    refine ⟨⟨hv, List.all_eq_true.mpr fun e he => ?_⟩, hmoved⟩
    obtain ⟨x, hx, rfl⟩ := List.mem_map.mp he
    have hax := of_decide_eq_true (List.all_eq_true.mp habove x hx)
    have hsrc : src ≤ a := hfrom (a, v) (.head _)
    exact decide_eq_true (by dsimp only; omega)

@[bound] theorem canon_sramCopy (src dst n : Nat) (hs : 0 < s.canon) : 0 < (sramCopy src dst n s).canon := by
  obtain ⟨hregs, hhbm, hflash, hsram⟩ := partsCanon_pos.mp (partsCanon_of_canon hs)
  refine canon_mk (partsCanon_pos.mpr ⟨hregs, hhbm, hflash, ?_⟩)
  have hpart : ∀ e ∈ s.sram.filter (fun e => decide (src ≤ e.1) && decide (e.1 < src + n)),
      src ≤ e.1 ∧ e.1 < src + n := by
    intro e he
    simpa using (List.mem_filter.mp he).2
  have hmoved := wf_moveCells ramBlank src dst (tabWf_filter _ _ _ hsram) fun e he => (hpart e he).1
  refine tabWf_append _ _ _ (dst + n) (tabWf_append _ _ _ dst (tabWf_filter _ _ _ hsram) hmoved ?_ ?_)
    (tabWf_filter _ _ _ hsram) ?_ ?_
  · exact fun e he => of_decide_eq_true (List.mem_filter.mp he).2
  · intro e he
    obtain ⟨x, -, rfl⟩ := List.mem_map.mp he
    exact Nat.le_add_left _ _
  · intro e he
    rcases List.mem_append.mp he with he | he
    · have := of_decide_eq_true (List.mem_filter.mp he).2
      omega
    · obtain ⟨x, hx, rfl⟩ := List.mem_map.mp he
      have := hpart x hx
      dsimp only
      omega
  · exact fun e he => of_decide_eq_true (List.mem_filter.mp he).2

@[bound] theorem canon_reissueRegion (n : Nat) (hs : 0 < s.canon) : 0 < (reissueRegion n s).canon := by
  unfold reissueRegion
  refine canon_foldl hs (fun _ _ hu => canon_foldl hu (fun _ _ hu => ?_))
  split
  · exact canon_requeue _ _ _ hu
  · exact hu

@[bound] theorem canon_sramEcc (n : Nat) (kernels double : Bool) (k c : Nat) (hs : 0 < s.canon) :
    0 < (sramEcc n kernels double k c s).canon := by
  unfold sramEcc
  refine canon_ite (canon_raise _ hs) (canon_ite (canon_ite hs ?_) (canon_ite (canon_poisonItem _ _ (canon_raise _ hs))
    (canon_raise _ hs)))
  split
  · exact canon_reissueRegion _ (canon_raise _ (canon_sramCopy _ _ _ hs))
  · exact canon_enterSafe _ hs

@[bound] theorem canon_takeRole (k : Nat) (hs : 0 < s.canon) : 0 < (takeRole k s).canon := by
  unfold takeRole
  split
  · exact canon_updateCapped (canon_raiseWith _ _ _ (canon_bump _ (canon_setBlockState _ _ (canon_setRole _ _ hs))))
  · exact hs

@[bound] theorem canon_swapSpare (k : Nat) (hs : 0 < s.canon) : 0 < (swapSpare k s).canon :=
  canon_ite (canon_takeRole _ hs) hs

@[bound] theorem canon_spareReady (k : Nat) (hs : 0 < s.canon) : 0 < (spareReady k s).canon :=
  canon_ite hs (canon_swapSpare _ (canon_raiseWith _ _ _ (canon_setBlockState _ _ (canon_setBlock _ _ hs))))

@[bound] theorem canon_blkCtrlWrite (n : Nat) (mask : Nat) (hs : 0 < s.canon) : 0 < (blkCtrlWrite n mask s).canon :=
  canon_foldl (canon_carryControl _ hs) fun _ _ hu => canon_ite (canon_declareFailed _ hu) hu

@[bound] theorem canon_roleWrite (n : Nat) (v : Word) (hs : 0 < s.canon) : 0 < pairCanon (roleWrite n v s) :=
  pairCanon_ite (canon_refuse _ hs) (pairCanon_ite (canon_refuse _ hs) (pairCanon_ite (canon_refuse _ hs) (canon_okay
    (canon_set _ _ (canon_mk (partsCanon_of_canon hs))))))

@[bound] theorem canon_loadWrite (b : Nat) (bs : List Byte) (hs : 0 < s.canon) : 0 < (loadWrite b bs s).canon :=
  canon_foldl hs fun _ _ hu => canon_ite (canon_sramWrite _ _ hu) hu

@[bound] theorem canon_readSlot (source : Nat) (hs : 0 < s.canon) : 0 < (readSlot source s).canon :=
  canon_ite hs (canon_loadWrite _ _ (canon_mk (partsCanon_of_canon hs)))

@[bound] theorem canon_loadStart (source : Nat) (boot : Bool) (other : Option Nat) (hs : 0 < s.canon) :
    0 < (loadStart source boot other s).canon :=
  canon_readSlot _ (canon_set _ _ (canon_set _ _ (canon_set _ _ (canon_mk (partsCanon_of_canon hs)))))

@[bound] theorem canon_imageLoad (source : Nat) (hs : 0 < s.canon) : 0 < pairCanon (imageLoad source s) :=
  pairCanon_ite (canon_refuse _ hs) (pairCanon_ite (canon_refuse _ hs) (pairCanon_ite (canon_refuse _ hs) (canon_okay
    (canon_loadStart _ _ _ hs))))

@[bound] theorem canon_imgCtrlWrite (v : Word) (hs : 0 < s.canon) : 0 < pairCanon (imgCtrlWrite v s) :=
  pairCanon_ite (canon_imageLoad _ hs) (canon_okay hs)

@[bound] theorem canon_bootLoad (hs : 0 < s.canon) : 0 < (bootLoad s).canon := canon_loadStart _ _ _ hs

@[bound] theorem canon_bootDone (hs : 0 < s.canon) : 0 < (bootDone s).canon := canon_set _ _ hs

@[bound] theorem canon_loadFailed (l : LoadRec) (code sub : Nat) (hs : 0 < s.canon) : 0 < (loadFailed l code sub s).canon := by
  unfold loadFailed
  aesop (rule_sets := [Bound, -default]) (config := alongState)

@[bound] theorem canon_loadBlocks (i : ImageRec) (overrides fails : List Nat) (hs : 0 < s.canon) :
    0 < (loadBlocks i overrides fails s).canon := by
  unfold loadBlocks
  refine canon_foldl (canon_foldl (canon_foldl (canon_mk (partsCanon_of_canon hs)) (fun _ _ hu => canon_setWord _ _
    (canon_setWord _ _ hu))) (fun _ _ hu => canon_setBlockState _ _ (canon_setRole _ _ (canon_setBlock _ _ hu)))) fun _ _
    hu => canon_ite ?_ hu
  split
  · exact canon_powerSpare _ _ hu
  · exact hu

@[bound] theorem canon_loadKernels (i : ImageRec) (hs : 0 < s.canon) : 0 < (loadKernels i s).canon :=
  canon_foldl hs fun _ _ hu => canon_ite (canon_sramWrite _ _ hu) hu

@[bound] theorem canon_loadPools (i : ImageRec) (hs : 0 < s.canon) : 0 < (loadPools i s).canon := by
  unfold loadPools
  refine canon_foldl hs fun _ _ hu => ?_
  split
  · exact canon_setWord _ _ (canon_setWord _ _ hu)
  · exact canon_setWord _ _ (canon_setWord _ _ hu)

@[bound] theorem canon_loadGeometry (i : ImageRec) (hs : 0 < s.canon) : 0 < (loadGeometry i s).canon := by
  unfold loadGeometry
  exact canon_newMapping (canon_storeMap (canon_set _ _ (canon_set _ _ (canon_set _ _ (canon_installGeom _ (canon_geomDrop
    (canon_mapDrop (canon_withConf _ (canon_set _ _ hs)))))))))

@[bound] theorem canon_loadDecode (hs : 0 < s.canon) : 0 < (loadDecode s).canon :=
  canon_set _ _ (canon_mk (partsCanon_of_canon hs))

@[bound] theorem canon_applyImage (l : LoadRec) (fails : List Nat) (i : ImageRec) (hs : 0 < s.canon) :
    0 < (applyImage l fails i s).canon := by
  unfold applyImage
  refine canon_raise _ (canon_updateCapped (canon_offerMap (canon_takeEpochRecords (canon_capsRecheck ?_))))
  refine canon_foldl (canon_mk (partsCanon_of_canon (canon_mk (partsCanon_of_canon ?_)))) fun v k hv => canon_setMasks _ _ hv
  refine canon_loadDecode (canon_loadGeometry _ (canon_loadPools _ (canon_emptyLog (canon_loadEvents _ ?_))))
  refine canon_setWord _ _ (canon_setWord _ _ (canon_setWord _ _ (canon_set _ _ (canon_set _ _ (canon_set _ _ (canon_set _ _
    (canon_set _ _ (canon_loadKernels _ (canon_loadBlocks _ _ _ (canon_mk (partsCanon_of_canon (canon_clearParks ?_))))))))))))
  exact canon_pathsReset (canon_endWork hs)

@[bound] theorem canon_spoilSlot (hs : 0 < s.canon) : 0 < (spoilSlot s).canon :=
  canon_loadWrite _ _ (canon_mk (partsCanon_of_canon hs))

@[bound] theorem canon_validationDone (flashError : Bool) (fails : List Nat) (hs : 0 < s.canon) :
    0 < (validationDone flashError fails s).canon := by
  unfold validationDone
  aesop (rule_sets := [Bound, -default]) (config := alongState)

/-! ## Reset and boot -/

@[bound] theorem canon_interruptWrite (hs : 0 < s.canon) : 0 < (interruptWrite s).canon :=
  canon_ite (canon_flashErase _ _ hs) hs

@[bound] theorem canon_resetTakes (cause : Nat) (held : Bool) (hs : 0 < s.canon) :
    0 < (resetTakes cause held s).canon := by
  obtain ⟨hregs, hhbm, -, hsram⟩ := partsCanon_pos.mp (partsCanon_of_canon canon_reset)
  obtain ⟨-, -, hflash, -⟩ := partsCanon_pos.mp (partsCanon_of_canon (canon_interruptWrite hs))
  unfold resetTakes
  exact canon_foldl (canon_set _ _ (canon_mk (partsCanon_pos.mpr ⟨hregs, hhbm, hflash, hsram⟩))) fun u n hu => canon_emit _ hu

@[bound] theorem canon_resetAssert (ns : Nat) (hs : 0 < s.canon) : 0 < (resetAssert ns s).canon :=
  canon_ite hs (canon_ite (canon_resetTakes _ _ hs) (canon_ite (canon_resetTakes _ _ (canon_mk (partsCanon_of_canon hs)))
    (canon_mk (partsCanon_of_canon hs))))

@[bound] theorem canon_sampleStraps (i : BootInput) (hs : 0 < s.canon) : 0 < (sampleStraps i s).canon :=
  canon_set _ _ (canon_set _ _ (canon_set _ _ (canon_mk (partsCanon_of_canon hs))))

@[bound] theorem canon_bootLinks (hs : 0 < s.canon) : 0 < (bootLinks s).canon :=
  canon_foldl hs fun _ _ hu => canon_ite (canon_firstAttempt _ hu) hu

@[bound] theorem canon_trainStack (trains k : Nat) (hs : 0 < s.canon) : 0 < (trainStack trains k s).canon := by
  unfold trainStack
  dsimp only
  split
  · exact canon_set _ _ (canon_setStack _ _ hs)
  · exact canon_setMasks _ _ (canon_startRefresh _ (canon_rateCheck _ (canon_foldl (canon_set _ _ (canon_set _ _
      (canon_setStack _ _ hs))) fun _ _ hu => canon_set _ _ hu)))

@[bound] theorem canon_atStep (n : Nat) (hs : 0 < s.canon) : 0 < (atStep n s).canon := canon_mk (partsCanon_of_canon hs)

@[bound] theorem canon_bootSequence (i : BootInput) (hs : 0 < s.canon) : 0 < (bootSequence i s).canon := by
  unfold bootSequence
  aesop (rule_sets := [Bound, -default]) (config := alongState)

@[bound] theorem canon_resetRelease (i : BootInput) (hs : 0 < s.canon) : 0 < (resetRelease i s).canon :=
  canon_ite hs (canon_ite (canon_mk (partsCanon_of_canon hs)) (canon_bootSequence _ hs))

@[bound] theorem canon_refclkLoss (hs : 0 < s.canon) : 0 < (refclkLoss s).canon :=
  canon_mk (partsCanon_of_canon (canon_ite hs (canon_resetTakes _ _ hs)))

@[bound] theorem canon_refclkReturn (i : BootInput) (hs : 0 < s.canon) : 0 < (refclkReturn i s).canon :=
  canon_ite hs (canon_ite (canon_mk (partsCanon_of_canon hs)) (canon_bootSequence _ (canon_mk (partsCanon_of_canon hs))))

@[bound] theorem canon_domainUp (d : Nat) (hs : 0 < s.canon) : 0 < (domainUp d s).canon :=
  canon_ite hs (canon_ite (canon_plankPowered _ (canon_mk (partsCanon_of_canon hs))) (canon_ite (canon_fullerPowered _
    (canon_mk (partsCanon_of_canon hs))) (canon_mk (partsCanon_of_canon hs))))

end

end Sys2Proof.Machine
end

section
/-! SUPPORT. The canonical form is kept by what the model is built of:
translation, the memory, the register bus and the control protocol. -/

namespace Sys2Proof.Machine

section
variable {s : State}

/-! ## Translation -/

@[bound] theorem canon_rowFault (e code : Nat) (hs : 0 < s.canon) : 0 < (rowFault e code s).canon := by
  unfold rowFault
  split
  · exact hs
  · exact canon_ite (canon_dropTasks _ _ _ hs) (canon_settle _ _ (canon_segmentLost _ _ _ _ (canon_dropTasks _ _ _ hs)))

@[bound] theorem canon_cardFault (block cell code : Nat) (lease : Option Nat) (hs : 0 < s.canon) :
    0 < (cardFault block cell code lease s).canon := by
  unfold cardFault
  split
  · split
    · exact canon_ite (canon_poisonItem _ _ hs) (canon_ite (canon_setInstant _ hs) (canon_instantEnds _ hs))
    · exact canon_poisonItem _ _ hs
  · exact hs

@[bound] theorem canon_confFault (block cell code : Nat) (hs : 0 < s.canon) : 0 < (confFault block cell code s).canon := by
  unfold confFault
  split
  · exact canon_ite (canon_frameEndsUnit _ (canon_clearCell _ _ hs)) (canon_ite (canon_poisonItem _ _ hs) (canon_confTile _
      _ _ (canon_clearCell _ _ hs)))
  · exact hs

@[bound] theorem canon_faultWork (ctx code : Nat) (lease : Option Nat) (block cell : Nat) (hs : 0 < s.canon) :
    0 < (faultWork ctx code lease block cell s).canon := by
  unfold faultWork
  refine canon_ite (canon_rowFault _ _ hs) (canon_ite (canon_cardFault _ _ _ _ hs) (canon_ite (canon_confFault _ _ _ hs)
    (canon_ite (canon_ite (canon_withEnc _ hs) hs) (canon_ite (canon_plankFault _ hs) (canon_ite ?_ (canon_ite
    (canon_pushUnderrun hs) hs))))))
  split
  · exact canon_fulFail _ _ _ hs
  · exact hs

@[bound] theorem canon_xlatRequest (ctx ca : Nat) (write : Bool) (lease : Option (Nat × Nat)) (block cell : Nat)
    (hs : 0 < s.canon) : 0 < (xlatRequest ctx ca write lease block cell s).canon := by
  unfold xlatRequest
  split
  · exact canon_emit _ hs
  · exact canon_faultWork _ _ _ _ _ (canon_xlatFault _ _ _ _ _ (canon_emit _ hs))

@[bound] theorem canon_forceLeases (kind id : Nat) (hs : 0 < s.canon) : 0 < (forceLeases kind id s).canon :=
  canon_foldl hs fun _ _ hu => canon_setLease _ _ hu

@[bound] theorem canon_drainForced (kind id : Nat) (remained : Bool) (hs : 0 < s.canon) :
    0 < (drainForced kind id remained s).canon :=
  canon_foldl (canon_ite (canon_raiseWith _ _ _ hs) hs) fun _ _ hu => canon_ite (canon_raiseWith _ _ _ (canon_setLease _ _
    hu)) hu

theorem canon_forceRelease (kind id : Nat) {s t : State} {b : Bool} (hs : 0 < s.canon)
    (h : forceRelease kind id s = .ok (b, t)) : 0 < t.canon := by
  unfold forceRelease at h
  dsimp only at h
  split at h
  · cases h
  · split at h
    · cases h
    · cases h
      aesop (rule_sets := [Bound, -default]) (config := alongState)

@[bound] theorem canon_xlatReleaseNow (v : Word) (hs : 0 < s.canon) : 0 < pairCanon (xlatReleaseNow v s) := by
  unfold xlatReleaseNow
  dsimp only
  split
  · exact hs
  next b t ht =>
    have hforced := canon_forceRelease _ _ hs ht
    aesop (rule_sets := [Bound, -default]) (config := alongState)

@[bound] theorem canon_xlatRelease (who : Requester) (v : Word) (hs : 0 < s.canon) : 0 < (xlatRelease who v s).canon := by
  unfold xlatRelease
  dsimp only
  split
  · aesop (rule_sets := [Bound, -default]) (config := alongState)
  · split
    · aesop (rule_sets := [Bound, -default]) (config := alongState)
    · split
      · aesop (rule_sets := [Bound, -default]) (config := alongState)
      next b t ht => exact canon_mk (partsCanon_of_canon (canon_forceRelease _ _ hs ht))

@[bound] theorem canon_forcedDrained (hs : 0 < s.canon) : 0 < (forcedDrained s).canon := by
  unfold forcedDrained
  split
  · exact hs
  · exact canon_emit _ (canon_drainForced _ _ _ (canon_mk (partsCanon_of_canon hs)))

@[bound] theorem canon_leaseComplete (e : Nat) (hs : 0 < s.canon) : 0 < (leaseComplete e s).canon :=
  canon_ite (canon_completeRelease _ hs) hs

@[bound] theorem canon_xlatProbe (lo v : Word) (hs : 0 < s.canon) : 0 < pairCanon (xlatProbe lo v s) :=
  canon_okay (canon_setWord _ _ (canon_setWord _ _ (canon_mk (partsCanon_of_canon (canon_setWord _ _ (canon_setWord _ _
    hs))))))

@[bound] theorem canon_engineResume (ctx : Nat) (hs : 0 < s.canon) : 0 < (engineResume ctx s).canon := by
  unfold engineResume
  dsimp only
  aesop (rule_sets := [Bound, -default]) (config := alongState)

/-! ## Bulk transfers -/

@[bound] theorem canon_plainAnswer (st : Status) (hs : 0 < s.canon) : 0 < tripleCanon (plainAnswer st s) := canon_triple hs

@[bound] theorem canon_targetWrite (target pool a : Nat) (bs : List Byte) (hs : 0 < s.canon) :
    0 < (targetWrite target pool a bs s).canon := by
  unfold targetWrite
  refine canon_ite (canon_loadWrite _ _ (canon_mk (partsCanon_of_canon hs))) (canon_ite ?_ (canon_flashWrite _ _ hs))
  split
  · exact canon_poolWrite _ _ _ hs
  · exact hs

@[bound] theorem canon_closeBulk (b : Bulk) (hs : 0 < s.canon) : 0 < (closeBulk b s).canon := by
  unfold closeBulk
  refine canon_ite ?_ (canon_mk (partsCanon_of_canon hs))
  split
  · exact canon_poolWrite _ _ _ (canon_mk (partsCanon_of_canon (canon_mk (partsCanon_of_canon hs))))
  · exact canon_mk (partsCanon_of_canon hs)

@[bound] theorem canon_dropBulks (slot : Nat) (hs : 0 < s.canon) : 0 < (dropBulks slot s).canon :=
  canon_foldl hs fun _ _ hu => canon_closeBulk _ hu

@[bound] theorem canon_openBulk (slot : Nat) (h : PutHead) (hs : 0 < s.canon) : 0 < pairCanon (openBulk slot h s) :=
  canon_pair (canon_ite (canon_flashErase _ _ hs) hs)

@[bound] theorem canon_takeChunk (b : Bulk) (h : PutHead) (hs : 0 < s.canon) : 0 < (takeChunk b h s).canon := by
  unfold takeChunk
  refine canon_ite ?_ (canon_targetWrite _ _ _ _ (canon_mk (partsCanon_of_canon hs)))
  split
  · exact canon_poolWrite _ _ _ (canon_mk (partsCanon_of_canon hs))
  · exact canon_mk (partsCanon_of_canon hs)

@[bound] theorem canon_expandBulk (b : Bulk) (hs : 0 < s.canon) : 0 < pairCanon (expandBulk b s) := by
  unfold expandBulk
  aesop (rule_sets := [Bound, -default]) (config := alongState)

@[bound] theorem canon_noteChunk (b : Bulk) (hs : 0 < s.canon) : 0 < (noteChunk b s).canon :=
  canon_mk (partsCanon_of_canon hs)

@[bound] theorem canon_endBulk (b : Bulk) (h : PutHead) (hs : 0 < s.canon) : 0 < tripleCanon (endBulk b h s) := by
  unfold endBulk
  aesop (rule_sets := [Bound, -default]) (config := alongState)

@[bound] theorem canon_bulkTimeout (slot id : Nat) (hs : 0 < s.canon) : 0 < (bulkTimeout slot id s).canon := by
  unfold bulkTimeout
  split
  · exact canon_ite (canon_closeBulk _ hs) hs
  · exact hs

@[bound] theorem canon_bulkPut (slot priv maxPayload : Nat) (payload : List Byte) (hs : 0 < s.canon) :
    0 < tripleCanon (bulkPut slot priv maxPayload payload s) := by
  unfold bulkPut
  dsimp only
  aesop (rule_sets := [Bound, -default]) (config := alongState)

@[bound] theorem canon_bulkGet (maxPayload : Nat) (payload : List Byte) (hs : 0 < s.canon) :
    0 < tripleCanon (bulkGet maxPayload payload s) := by
  unfold bulkGet
  aesop (rule_sets := [Bound, -default]) (config := alongState)

/-! ## The memory -/

@[bound] theorem canon_neighbourDraw (p r : Nat) (hs : 0 < s.canon) : 0 < pairCanon (neighbourDraw p r s) := by
  unfold neighbourDraw
  split
  · exact canon_pair hs
  · exact pairCanon_ite (canon_pair hs) (canon_pair (canon_mk (partsCanon_of_canon hs)))

@[bound] theorem canon_precharge (p b : Nat) (hs : 0 < s.canon) : 0 < (precharge p b s).canon :=
  canon_countNeighbours _ _ (canon_setPc _ _ hs)

@[bound] theorem canon_activate (p b : Nat) (write : Bool) (hs : 0 < s.canon) : 0 < (activate p b write s).canon := by
  unfold activate
  dsimp only
  aesop (rule_sets := [Bound, -default]) (config := alongState)

@[bound] theorem canon_column (p b : Nat) (r : MemReq) (hs : 0 < s.canon) : 0 < (column p b r s).canon :=
  canon_takeInput _ (canon_setPc _ _ hs)

@[bound] theorem canon_serveOne (write : Bool) (p n : Nat) (hs : 0 < s.canon) : 0 < pairCanon (serveOne write p n s) := by
  induction n generalizing s with
  | zero => exact hs
  | succ n ih =>
    unfold serveOne
    dsimp only
    split
    · aesop (rule_sets := [Bound, -default]) (config := alongState)
    · split
      · aesop (rule_sets := [Bound, -default]) (config := alongState)
      · refine ih (canon_ite (canon_precharge _ _ ?_) (canon_activate _ _ _ ?_))
        all_goals aesop (rule_sets := [Bound, -default]) (config := alongState)

@[bound] theorem canon_writeServed (r : MemReq) (hs : 0 < s.canon) : 0 < (writeServed r s).canon :=
  canon_ite (canon_hbmWrite _ _ hs) hs

@[bound] theorem canon_drainWrites (keep p n : Nat) (hs : 0 < s.canon) : 0 < (drainWrites keep p n s).canon := by
  induction n generalizing s with
  | zero => exact hs
  | succ n ih =>
    have hserve := canon_serveOne true p serveLimit hs
    unfold drainWrites
    split
    · exact hs
    · split
      next t ht =>
        rw [ht] at hserve
        exact hserve
      next r t ht =>
        rw [ht] at hserve
        exact ih (canon_writeServed _ hserve)

@[bound] theorem canon_writeTurn (p : Nat) (hs : 0 < s.canon) : 0 < (writeTurn p s).canon :=
  canon_ite (canon_orderLevel _ (canon_drainWrites _ _ _ hs)) hs

@[bound] theorem canon_writeWait (p : Nat) (hs : 0 < s.canon) : 0 < (writeWait p s).canon := by
  unfold writeWait
  split
  · exact hs
  · exact canon_ite (canon_orderLevel _ (canon_drainWrites _ _ _ hs)) hs

@[bound] theorem canon_memRequest (id : Nat) (write : Bool) (m : Nat) (data : List Byte) (hs : 0 < s.canon) :
    0 < (memRequest id write m data s).canon :=
  canon_ite hs (canon_ite (canon_takeInput _ (canon_setPc _ _ hs)) (canon_writeTurn _ (canon_takeInput _ (canon_setPc _ _
    hs))))

@[bound] theorem canon_correctedWord (p : Nat) (r : MemReq) (hs : 0 < s.canon) : 0 < (correctedWord p r s).canon :=
  canon_ite (canon_raiseQuiet _ _ _ (canon_bump _ hs)) (canon_setPc _ _ (canon_raiseQuiet _ _ _ (canon_bump _ hs)))

@[bound] theorem canon_uncorrectableWord (p : Nat) (r : MemReq) (hs : 0 < s.canon) : 0 < (uncorrectableWord p r s).canon :=
  canon_ite (canon_enterSafe _ (canon_poisonWord _ (canon_raiseWith _ _ _ (canon_set _ _ (canon_set _ _ (canon_bump _
    hs)))))) (canon_poisonWord _ (canon_raiseWith _ _ _ (canon_set _ _ (canon_set _ _ (canon_bump _ hs)))))

@[bound] theorem canon_readServed (p ecc : Nat) (r : MemReq) (hs : 0 < s.canon) : 0 < (readServed p ecc r s).canon :=
  canon_ite (canon_uncorrectableWord _ _ (canon_emit _ (canon_mk (partsCanon_of_canon hs)))) (canon_ite
    (canon_correctedWord _ _ (canon_emit _ hs)) (canon_emit _ hs))

@[bound] theorem canon_readReturn (p ecc : Nat) (hs : 0 < s.canon) : 0 < (readReturn p ecc s).canon := by
  have hserve := canon_serveOne false p serveLimit hs
  unfold readReturn
  split
  · exact hs
  · split
    next t ht =>
      rw [ht] at hserve
      exact hserve
    next r t ht =>
      rw [ht] at hserve
      exact canon_orderLevel _ (canon_readServed _ _ _ hserve)

@[bound] theorem canon_refreshDue (p : Nat) (hs : 0 < s.canon) : 0 < (refreshDue p s).canon :=
  canon_ite hs (canon_refreshPc _ hs)

@[bound] theorem canon_freqctlWrite (k : Nat) (v : Word) (hs : 0 < s.canon) : 0 < pairCanon (freqctlWrite k v s) :=
  pairCanon_ite (canon_refuse _ hs) (pairCanon_ite (canon_refuse _ hs) (canon_okay (canon_rateCheck _ (canon_set _ _ hs))))

@[bound] theorem canon_completeQueued (p n : Nat) (hs : 0 < s.canon) : 0 < (completeQueued p n s).canon := by
  induction n generalizing s with
  | zero => exact hs
  | succ n ih =>
    have hread := canon_serveOne false p serveLimit hs
    unfold completeQueued
    split
    next r t ht =>
      rw [ht] at hread
      exact ih (canon_readServed _ _ _ hread)
    next t ht =>
      rw [ht] at hread
      have hwrite := canon_serveOne true p serveLimit (s := t) hread
      split
      next r u hu =>
        rw [hu] at hwrite
        exact ih (canon_writeServed _ hwrite)
      next u hu =>
        rw [hu] at hwrite
        exact hwrite

@[bound] theorem canon_freqStart (k : Nat) (hs : 0 < s.canon) : 0 < (freqStart k s).canon := by
  unfold freqStart
  split
  · exact hs
  · exact canon_ite hs (canon_foldl (canon_foldl (canon_setStack _ _ (canon_set _ _ (canon_set _ _ hs))) (fun _ _ hu =>
      canon_orderLevel _ (canon_prechargeAll _ (canon_completeQueued _ _ hu)))) (fun _ _ hu => canon_set _ _ hu))

@[bound] theorem canon_freqDone (k : Nat) (hs : 0 < s.canon) : 0 < (freqDone k s).canon :=
  canon_ite hs (canon_freqStart _ (canon_rateCheck _ (canon_foldl (canon_startRefresh _ (canon_set _ _ (canon_set _ _
    (canon_set _ _ (canon_set _ _ (canon_foldl hs (fun _ _ hu => canon_set _ _ (canon_set _ _ hu)))))))) (fun _ _ hu =>
    canon_takeInput _ hu))))

/-! ## Self tests -/

@[bound] theorem canon_ethLoopWrite (who : Requester) (n : Nat) (v : Word) (hs : 0 < s.canon) :
    0 < pairCanon (ethLoopWrite who n v s) :=
  pairCanon_ite (canon_refuse _ hs) (pairCanon_ite (canon_refuse _ hs) (pairCanon_ite (canon_refuse _ hs) (canon_okay
    (canon_mk (partsCanon_of_canon (canon_foldl (canon_set _ _ (canon_set _ _ (canon_set _ _ (canon_set _ _ hs)))) (fun _ _
    hu => canon_set _ _ hu)))))))

@[bound] theorem canon_ethLoopTimeout (n : Nat) (hs : 0 < s.canon) : 0 < (ethLoopTimeout n s).canon :=
  canon_ite (canon_ethLoopEnd _ hs) hs

@[bound] theorem canon_sendPattern (n mode : Nat) (hs : 0 < s.canon) : 0 < (sendPattern n mode s).canon :=
  canon_ite (canon_freshTx _ _ hs) (canon_beginPeriod _ _ _ _ (canon_setLink _ _ (canon_freshTx _ _ hs)))

@[bound] theorem canon_lnkLoopWrite (n : Nat) (v : Word) (hs : 0 < s.canon) : 0 < pairCanon (lnkLoopWrite n v s) := by
  unfold lnkLoopWrite
  aesop (rule_sets := [Bound, -default]) (config := alongState)

@[bound] theorem canon_patternSymbol (n i : Nat) (correct : Bool) (hs : 0 < s.canon) :
    0 < (patternSymbol n i correct s).canon :=
  canon_ite (canon_emit _ hs) (canon_ite hs (canon_set _ _ (canon_setLink _ _ (canon_ite (canon_bump _ hs) hs))))

@[bound] theorem canon_loopSelfRefresh (k : Nat) (hs : 0 < s.canon) : 0 < (loopSelfRefresh k s).canon :=
  canon_foldl hs fun _ _ hu => canon_set _ _ hu

@[bound] theorem canon_hbmTestWrite (c : Nat) (v : Word) (hs : 0 < s.canon) : 0 < pairCanon (hbmTestWrite c v s) :=
  pairCanon_ite (canon_okay hs) (pairCanon_ite (canon_refuse _ hs) (pairCanon_ite (canon_refuse _ hs) (pairCanon_ite
    (canon_refuse _ hs) (canon_okay (canon_ite (canon_loopSelfRefresh _ (canon_mk (partsCanon_of_canon (canon_setWord _ _
    hs)))) (canon_mk (partsCanon_of_canon (canon_setWord _ _ hs))))))))

@[bound] theorem canon_testEnds (c : Nat) (passed : Bool) (hs : 0 < s.canon) : 0 < (testEnds c passed s).canon :=
  canon_set _ _ (canon_mk (partsCanon_of_canon hs))

@[bound] theorem canon_loopTestDone (c : Nat) (passed : Bool) (hs : 0 < s.canon) : 0 < (loopTestDone c passed s).canon :=
  canon_ite hs (canon_ite (canon_testEnds _ _ hs) (canon_ite (canon_loopSelfRefresh _ (canon_testEnds _ _ hs)) (canon_foldl
    (canon_startRefresh _ (canon_loopSelfRefresh _ (canon_testEnds _ _ hs))) (fun _ _ hu => canon_takeInput _ hu))))

@[bound] theorem canon_loseMemory (c : Nat) (hs : 0 < s.canon) : 0 < (loseMemory c s).canon := by
  obtain ⟨hregs, hhbm, hflash, hsram⟩ := partsCanon_pos.mp (partsCanon_of_canon hs)
  exact canon_mk (partsCanon_pos.mpr ⟨hregs, tabWf_filter _ _ _ hhbm, hflash, hsram⟩)

@[bound] theorem canon_memoryLost (hs : 0 < s.canon) : 0 < (memoryLost s).canon :=
  canon_offerMap (canon_ite (canon_newMapping (canon_storeMap (canon_set _ _ (canon_withConf _ (canon_clearSaves
    (canon_emptyLog hs)))))) (canon_set _ _ (canon_withConf _ (canon_clearSaves (canon_emptyLog hs)))))

@[bound] theorem canon_mbistDone (c : Nat) (failure : Option (Nat × Nat × Nat)) (hs : 0 < s.canon) :
    0 < (mbistDone c failure s).canon := by
  unfold mbistDone
  refine canon_ite hs (canon_memoryLost (canon_loseMemory _ ?_))
  split
  · exact canon_set _ _ (canon_set _ _ (canon_set _ _ (canon_testEnds _ _ hs)))
  · exact canon_testEnds _ _ hs

@[bound] theorem canon_decSelftestWrite (v : Word) (hs : 0 < s.canon) : 0 < pairCanon (decSelftestWrite v s) :=
  pairCanon_ite (canon_okay (canon_set _ _ hs)) (pairCanon_ite (canon_refuse _ hs) (pairCanon_ite (canon_refuse _ hs)
    (pairCanon_ite (canon_refuse _ hs) (pairCanon_ite (canon_refuse _ hs) (canon_okay (canon_mk (partsCanon_of_canon
    (canon_setWord _ _ (canon_set _ _ hs)))))))))

@[bound] theorem canon_decSelftestDone (fails : Nat) (hpFail : Bool) (hs : 0 < s.canon) :
    0 < (decSelftestDone fails hpFail s).canon := by
  unfold decSelftestDone
  aesop (rule_sets := [Bound, -default]) (config := alongState)

@[bound] theorem canon_driveBalls (hs : 0 < s.canon) : 0 < (driveBalls s).canon := by
  unfold driveBalls
  split
  · exact canon_emit _ hs
  · exact canon_emit _ hs
  · exact canon_emit _ hs
  · exact canon_emit _ hs
  · exact canon_emit _ hs
  · exact hs

@[bound] theorem canon_captureCells (hs : 0 < s.canon) : 0 < pairCanon (captureCells s) :=
  canon_pair (canon_mk (partsCanon_of_canon hs))

@[bound] theorem canon_tapScan (tdi : List Bool) (hs : 0 < s.canon) : 0 < (tapScan tdi s).canon := by
  unfold tapScan
  dsimp only
  aesop (rule_sets := [Bound, -default]) (config := alongState)

@[bound] theorem canon_tapOperation (op : TapOp) (hs : 0 < s.canon) : 0 < (tapOperation op s).canon := by
  unfold tapOperation
  split
  · exact canon_mk (partsCanon_of_canon hs)
  · exact canon_driveBalls (canon_mk (partsCanon_of_canon hs))
  · exact canon_tapScan _ hs

/-! ## The register bus -/

@[bound] theorem canon_clearRc (d : RegDesc) (i a : Nat) (hs : 0 < s.canon) : 0 < (clearRc d i a s).canon :=
  canon_ite (canon_laneErrClear _ hs) (canon_ite (canon_laneErrClear _ hs) (canon_foldl hs (fun _ _ hu => canon_ite
    (canon_set _ _ hu) hu)))

@[bound] theorem canon_regRead (a : Nat) (hs : 0 < s.canon) : 0 < tripleCanon (regRead a s) := by
  unfold regRead
  refine tripleCanon_ite (canon_triple hs) ?_
  split
  · exact canon_triple hs
  · exact tripleCanon_ite (canon_triple hs) (canon_triple (canon_clearRc _ _ _ (canon_mk (partsCanon_of_canon hs))))

@[bound] theorem canon_readRequest (who : Requester) (a : Nat) (hs : 0 < s.canon) : 0 < (readRequest who a s).canon := by
  have hread : 0 < (regRead a s).2.2.canon := canon_regRead a hs
  exact canon_ite (canon_emit _ hs) (canon_emit _ hread)

@[bound] theorem canon_immediateWrite (d : RegDesc) (a : Nat) (v : Word) (hs : 0 < s.canon) :
    0 < pairCanon (immediateWrite d a v s) :=
  pairCanon_ite (canon_refuse _ hs) (canon_okay (canon_setWord _ _ hs))

@[bound] theorem canon_stagedWrite (d : RegDesc) (a : Nat) (v : Word) (hs : 0 < s.canon) :
    0 < pairCanon (stagedWrite d a v s) :=
  pairCanon_ite (canon_refuse _ hs) (pairCanon_ite (canon_refuse _ hs) (canon_okay (canon_stageWrite _ _ hs)))

@[bound] theorem canon_holdLow (a : Nat) (v : Word) (hs : 0 < s.canon) : 0 < (holdLow a v s).canon :=
  canon_mk (partsCanon_of_canon hs)

@[bound] theorem canon_applyPair {f : Nat → Word → State → Res} (hi : Nat) (v : Word) (hs : 0 < s.canon)
    (hf : ∀ a w u, 0 < u.canon → 0 < pairCanon (f a w u)) : 0 < pairCanon (applyPair f hi v s) := by
  have hhi := hf hi v s hs
  have hlo := hf (hi - 4) (s.lowWord (hi - 4)) _ hhi
  exact pairCanon_ite hs (pairCanon_ite hs (canon_mk (partsCanon_of_canon hlo)))

@[bound] theorem canon_holdPair (f : Nat → Word → State → Res) (lo : Nat) (v : Word) (hs : 0 < s.canon) :
    0 < pairCanon (holdPair f lo v s) :=
  pairCanon_ite (canon_pair hs) (canon_okay (canon_holdLow _ _ hs))

@[bound] theorem canon_linkWrite (a : Nat) (v : Word) (hs : 0 < s.canon) : 0 < pairCanon (linkWrite a v s) :=
  pairCanon_ite (canon_linkCfgWrite _ _ hs) (pairCanon_ite (canon_linkCtrlWrite _ _ hs) (pairCanon_ite (canon_laneSelWrite
    _ _ hs) (pairCanon_ite (canon_lnkLoopWrite _ _ hs) (canon_okay hs))))

@[bound] theorem canon_eventWrite (who : Requester) (b i : Nat) (v : Word) (hs : 0 < s.canon) :
    0 < pairCanon (eventWrite who b i v s) := by
  unfold eventWrite
  aesop (rule_sets := [Bound, -default]) (config := alongState)

/-- 1 unless the answer of a register with a write of its own has a state that is not in canonical form. -/
def answerCanon : Option Res → Nat
  | some r => pairCanon r
  | none => 1

@[bound] theorem answerCanon_some {r : Res} (h : 0 < pairCanon r) : 0 < answerCanon (some r) := h

@[bound] theorem answerCanon_none : 0 < answerCanon none := Nat.one_pos

@[bound] theorem answerCanon_ite {a b : Option Res} {p : Prop} [Decidable p] (h : 0 < answerCanon a) (k : 0 < answerCanon b) :
    0 < answerCanon (if p then a else b) := by split <;> assumption

theorem canon_ownWrite (who : Requester) (d : RegDesc) (i j a : Nat) (v w : Word) (hs : 0 < s.canon) :
    0 < answerCanon (ownWrite who d i j a v w s) := by
  unfold ownWrite
  dsimp only
  repeat' apply answerCanon_ite
  all_goals aesop (rule_sets := [Bound, -default]) (config := alongState)

@[bound] theorem canon_noteStaged (a : Nat) {r : Res} (hr : 0 < pairCanon r) : 0 < pairCanon (noteStaged a r) :=
  pairCanon_ite (canon_noteWritten a hr) hr

@[bound] theorem canon_mappedWrite (who : Requester) (d : RegDesc) (i j a : Nat) (w : Word) (hs : 0 < s.canon) :
    0 < pairCanon (mappedWrite who d i j a w s) := by
  unfold mappedWrite
  dsimp only
  split
  · exact hs
  · refine canon_noteStaged a ?_
    have hown := canon_ownWrite who d i j a (w &&& BitVec.ofNat 32 (writableMask d)) w hs
    split
    next r hr =>
      rw [hr] at hown
      exact hown
    next => aesop (rule_sets := [Bound, -default]) (config := alongState)

@[bound] theorem canon_regWrite (who : Requester) (a : Nat) (w : Word) (hs : 0 < s.canon) :
    0 < pairCanon (regWrite who a w s) := by
  unfold regWrite
  refine pairCanon_ite (canon_refuse _ hs) ?_
  split
  · exact canon_refuse _ hs
  · exact canon_mappedWrite _ _ _ _ _ _ hs

/-! ## The control protocol -/

@[bound] theorem canon_setSession (n : Nat) (x : Session) (hs : 0 < s.canon) : 0 < (s.setSession n x).canon :=
  canon_mk (partsCanon_of_canon hs)

@[bound] theorem canon_closeSession (n : Nat) (hs : 0 < s.canon) : 0 < (closeSession n s).canon :=
  canon_setWord _ _ (canon_mk (partsCanon_of_canon (canon_dropBulks _ (canon_foldl hs (fun _ _ hu => canon_unbindChannel _
    hu)))))

@[bound] theorem canon_kcpSend (n port origin opcode seq flags : Nat) (st : Status) (payload : List Byte) (hs : 0 < s.canon) :
    0 < (kcpSend n port origin opcode seq flags st payload s).canon :=
  canon_sendOn _ _ hs

@[bound] theorem canon_bareAnswer (opcode : Nat) (st : Status) (d : KcpDatagram) (hs : 0 < s.canon) :
    0 < (bareAnswer opcode st d s).canon :=
  canon_sendOn _ _ hs

@[bound] theorem canon_openSession (n slot maxPayload : Nat) (key : List Byte) (priv : Nat) (d : KcpDatagram)
    (hs : 0 < s.canon) : 0 < (openSession n slot maxPayload key priv d s).canon :=
  canon_kcpSend _ _ _ _ _ _ _ _ (canon_set _ _ (canon_set _ _ (canon_set _ _ (canon_set _ _ (canon_setSession _ _ (canon_mk
    (partsCanon_of_canon (canon_mk (partsCanon_of_canon hs)))))))))

@[bound] theorem canon_hello (d : KcpDatagram) (hs : 0 < s.canon) : 0 < (hello d s).canon := by
  unfold hello
  refine canon_ite (canon_bareAnswer _ _ _ hs) (canon_ite (canon_bareAnswer _ _ _ hs) ?_)
  split
  · exact canon_bareAnswer _ _ _ hs
  · refine canon_ite (canon_bareAnswer _ _ _ hs) ?_
    split
    · exact canon_bareAnswer _ _ _ hs
    · exact canon_openSession _ _ _ _ _ _ hs

@[bound] theorem canon_noProgress (st : Status) (hs : 0 < s.canon) : 0 < tripleCanon (noProgress st s) := canon_triple hs

@[bound] theorem canon_readWords (a done k : Nat) (out : List Byte) (hs : 0 < s.canon) :
    0 < tripleCanon (readWords a done k out s) := by
  induction k generalizing a done out s with
  | zero => exact hs
  | succ k ih =>
    have hread : 0 < (regRead a s).2.2.canon := canon_regRead a hs
    exact tripleCanon_ite (ih _ _ _ hread) (tripleCanon_ite hread hread)

@[bound] theorem canon_writeWords (who : Requester) (a done : Nat) (ws : List Word) (hs : 0 < s.canon) :
    0 < tripleCanon (writeWords who a done ws s) := by
  induction ws generalizing a done s with
  | nil => exact hs
  | cons w ws ih =>
    have hwrite := canon_permit (who := who) (addr := a) hs (canon_regWrite who a w hs)
    exact tripleCanon_ite (ih _ _ hwrite) hwrite

theorem canon_rangeCheck (payload : List Byte) {r : KcpAnswer} (hs : 0 < s.canon)
    (h : rangeCheck payload s = some r) : 0 < tripleCanon r := by
  unfold rangeCheck at h
  dsimp only at h
  split_ifs at h
  all_goals
    cases h
    exact canon_noProgress _ hs

@[bound] theorem canon_kcpRead (maxPayload : Nat) (payload : List Byte) (hs : 0 < s.canon) :
    0 < tripleCanon (kcpRead maxPayload payload s) := by
  unfold kcpRead
  dsimp only
  split
  · exact canon_noProgress _ hs
  · split
    next r hr => exact canon_rangeCheck payload hs hr
    next => exact tripleCanon_ite (canon_noProgress _ hs) (canon_readWords _ _ _ _ hs)

@[bound] theorem canon_kcpWrite (who : Requester) (payload : List Byte) (hs : 0 < s.canon) :
    0 < tripleCanon (kcpWrite who payload s) := by
  unfold kcpWrite
  dsimp only
  split
  · exact canon_noProgress _ hs
  · split
    next r hr => exact canon_rangeCheck payload hs hr
    next => exact canon_writeWords _ _ _ _ hs

@[bound] theorem canon_batchItem (who : Requester) (i : BatchItem) (hs : 0 < s.canon) :
    0 < tripleCanon (batchItem who i s) := by
  have hread : 0 < (regRead i.addr s).2.2.canon := canon_regRead i.addr hs
  have hwrite (v : Word) : 0 < pairCanon (permit who i.addr (regWrite who i.addr v) s) :=
    canon_permit hs (canon_regWrite _ _ _ hs)
  exact tripleCanon_ite hread (tripleCanon_ite (hwrite _) (tripleCanon_ite (hwrite _) hs))

@[bound] theorem canon_runItems (who : Requester) (done : Nat) (out : List Byte) (is : List BatchItem) {s : State}
    (hs : 0 < s.canon) : 0 < tripleCanon (runItems who done out is s) := by
  induction is generalizing done out s with
  | nil => exact hs
  | cons i is ih =>
    have hitem : 0 < (batchItem who i s).2.2.canon := canon_batchItem who i hs
    exact tripleCanon_ite (ih _ _ hitem) (tripleCanon_ite hitem hitem)

@[bound] theorem canon_openShadow (hs : 0 < s.canon) : 0 < (openShadow s).canon := canon_mk (partsCanon_of_canon hs)

@[bound] theorem canon_closeShadow (hs : 0 < s.canon) : 0 < (closeShadow s).canon :=
  canon_foldl (canon_foldl (canon_mk (partsCanon_of_canon hs)) (fun _ _ hu => canon_stage _ _ hu)) fun _ _ hu =>
    canon_noteWritten _ hu

@[bound] theorem canon_kcpBatch (who : Requester) (maxPayload : Nat) (payload : List Byte) (hs : 0 < s.canon) :
    0 < tripleCanon (kcpBatch who maxPayload payload s) := by
  have hrun (items : List BatchItem) : 0 < (runItems who 0 [] items (openShadow s)).2.2.canon :=
    canon_runItems who 0 [] items (canon_openShadow hs)
  have hclosed (items : List BatchItem) : 0 < (closeShadow (runItems who 0 [] items (openShadow s)).2.2).canon :=
    canon_closeShadow (hrun items)
  unfold kcpBatch
  dsimp only
  repeat' split
  all_goals aesop (rule_sets := [Bound, -default]) (config := alongState)

@[bound] theorem canon_commitAnswer (st : Status) (objectState : Nat) (hs : 0 < s.canon) :
    0 < tripleCanon (commitAnswer st objectState s) :=
  canon_triple hs

@[bound] theorem canon_kcpCommit (priv : Nat) (payload : List Byte) (hs : 0 < s.canon) :
    0 < tripleCanon (kcpCommit priv payload s) :=
  tripleCanon_ite (canon_commitAnswer _ _ hs) (tripleCanon_ite (canon_commitAnswer _ _ hs) (tripleCanon_ite
    (canon_commitAnswer _ _ hs) (canon_commitAnswer _ _ (canon_snd (canon_pathAction _ _ _ _ hs)))))

@[bound] theorem canon_kcpMode (who : Requester) (payload : List Byte) (hs : 0 < s.canon) :
    0 < tripleCanon (kcpMode who payload s) :=
  tripleCanon_ite (canon_triple hs) (tripleCanon_ite (canon_triple hs) (canon_triple (canon_snd (canon_modeRequest _ _ hs))))

@[bound] theorem canon_kcpAuth (n : Nat) (payload : List Byte) (hs : 0 < s.canon) : 0 < tripleCanon (kcpAuth n payload s) :=
  tripleCanon_ite (canon_plainAnswer _ hs) (tripleCanon_ite (canon_plainAnswer _ (canon_set _ _ hs)) (canon_plainAnswer _ hs))

@[bound] theorem canon_kcpExecute (n opcode : Nat) (d : KcpDatagram) (hs : 0 < s.canon) :
    0 < tripleCanon (kcpExecute n opcode d s) := by
  unfold kcpExecute
  aesop (rule_sets := [Bound, -default]) (config := alongState)

@[bound] theorem canon_answerExecuted (n port origin opcode seq : Nat) (st : Status) (payload : List Byte) (hs : 0 < s.canon) :
    0 < (answerExecuted n port origin opcode seq st payload s).canon :=
  canon_setSession _ _ (canon_kcpSend _ _ _ _ _ _ _ _ hs)

@[bound] theorem canon_executeRequest (n opcode : Nat) (d : KcpDatagram) (hs : 0 < s.canon) :
    0 < (executeRequest n opcode d s).canon := by
  have hrun : 0 < (kcpExecute n opcode d s).2.2.canon := canon_kcpExecute n opcode d hs
  unfold executeRequest
  dsimp only
  aesop (rule_sets := [Bound, -default]) (config := alongState)

@[bound] theorem canon_releaseHeld (n k : Nat) (hs : 0 < s.canon) : 0 < (releaseHeld n k s).canon := by
  induction k generalizing s with
  | zero => exact hs
  | succ k ih =>
    unfold releaseHeld
    dsimp only
    split
    · exact hs
    · exact ih (canon_executeRequest _ _ _ (canon_setSession _ _ hs))

@[bound] theorem canon_sequence (n opcode : Nat) (d : KcpDatagram) (hs : 0 < s.canon) : 0 < (sequence n opcode d s).canon := by
  unfold sequence
  refine canon_ite hs (canon_ite (canon_releaseHeld _ _ (canon_executeRequest _ _ _ hs)) (canon_ite (canon_setSession _ _
    hs) ?_))
  split
  · exact canon_kcpSend _ _ _ _ _ _ _ _ hs
  · exact canon_kcpSend _ _ _ _ _ _ _ _ hs

@[bound] theorem canon_gapTimeout (n seq : Nat) (hs : 0 < s.canon) : 0 < (gapTimeout n seq s).canon := by
  unfold gapTimeout
  dsimp only
  aesop (rule_sets := [Bound, -default]) (config := alongState)

@[bound] theorem canon_openTimeout (n : Nat) (hs : 0 < s.canon) : 0 < (openTimeout n s).canon :=
  canon_ite (canon_closeSession _ hs) hs

@[bound] theorem canon_idleTimeout (n : Nat) (hs : 0 < s.canon) : 0 < (idleTimeout n s).canon :=
  canon_ite (canon_closeSession _ hs) hs

@[bound] theorem canon_eventAck (n opcode : Nat) (d : KcpDatagram) (hs : 0 < s.canon) : 0 < (eventAck n opcode d s).canon := by
  unfold eventAck
  split
  · exact canon_bump _ hs
  · exact canon_mk (partsCanon_of_canon hs)

@[bound] theorem canon_sessionRequest (n opcode : Nat) (d : KcpDatagram) (hs : 0 < s.canon) :
    0 < (sessionRequest n opcode d s).canon :=
  canon_ite (canon_kcpSend _ _ _ _ _ _ _ _ (canon_foldl (canon_set _ _ (canon_setSession _ _ hs)) (fun _ _ hu =>
    canon_gapTimeout _ _ hu))) (canon_sequence _ _ _ (canon_foldl (canon_set _ _ (canon_setSession _ _ hs)) (fun _ _ hu =>
    canon_gapTimeout _ _ hu)))

@[bound] theorem canon_wellFormedDatagram (opcode : Nat) (d : KcpDatagram) (hs : 0 < s.canon) :
    0 < (wellFormedDatagram opcode d s).canon := by
  unfold wellFormedDatagram
  refine canon_ite (canon_hello _ hs) ?_
  split
  · exact canon_bump _ hs
  · exact canon_ite (canon_bump _ hs) (canon_ite (canon_eventAck _ _ _ hs) (canon_sessionRequest _ _ _ hs))

@[bound] theorem canon_kcpReceive (opcode : Nat) (d : KcpDatagram) (hs : 0 < s.canon) : 0 < (kcpReceive opcode d s).canon :=
  canon_ite hs (canon_ite (canon_bump _ (canon_foldl hs (fun _ _ hu => canon_idleTimeout _ (canon_openTimeout _ hu))))
    (canon_wellFormedDatagram _ _ (canon_foldl hs (fun _ _ hu => canon_idleTimeout _ (canon_openTimeout _ hu)))))

@[bound] theorem canon_kcpHeard (opcode : Nat) (d : KcpDatagram) (hs : 0 < s.canon) : 0 < (kcpHeard opcode d s).canon :=
  canon_heard hs (canon_kcpReceive _ _ hs)

@[bound] theorem canon_answerSyncs (n : Nat) (test : SyncWait → Bool) (st : Status) (payload : List Byte) (hs : 0 < s.canon) :
    0 < (answerSyncs n test st payload s).canon :=
  canon_foldl (canon_setSession _ _ hs) fun _ _ hu => canon_ite hu (canon_ite (canon_closeSession _ (canon_answerExecuted _
    _ _ _ _ _ _ hu)) (canon_answerExecuted _ _ _ _ _ _ _ hu))

@[bound] theorem canon_syncTimeout (n seq : Nat) (hs : 0 < s.canon) : 0 < (syncTimeout n seq s).canon :=
  canon_answerSyncs _ _ _ _ hs

@[bound] theorem canon_syncFence (hs : 0 < s.canon) : 0 < (syncFence s).canon :=
  canon_foldl hs (fun _ _ hu => canon_ite hu (canon_answerSyncs _ _ _ _ (canon_foldl hu (fun _ _ hu => canon_syncTimeout _
    _ hu))))

@[bound] theorem canon_commitSource (src : Source) (action kind id : Nat) (withCascade : Bool) (hs : 0 < s.canon) :
    0 < (commitSource src action kind id withCascade s).canon := by
  unfold commitSource
  split
  · exact canon_kcpHeard _ _ hs
  · exact canon_request hs (canon_pathAction _ _ _ _ hs)

/-! ## Events to the host -/

@[bound] theorem canon_setChannel (t : Nat) (c : HostChannel) (hs : 0 < s.canon) : 0 < (s.setChannel t c).canon :=
  canon_mk (partsCanon_of_canon hs)

@[bound] theorem canon_sendEvent (t sends : Nat) (hs : 0 < s.canon) : 0 < (sendEvent t sends s).canon :=
  canon_setChannel _ _ (canon_setSession _ _ (canon_kcpSend _ _ _ _ _ _ _ _ hs))

@[bound] theorem canon_eventNew (t : Nat) (hs : 0 < s.canon) : 0 < (eventNew t s).canon :=
  canon_ite (canon_sendEvent _ _ hs) hs

@[bound] theorem canon_eventRepeat (t : Nat) (hs : 0 < s.canon) : 0 < (eventRepeat t s).canon := by
  unfold eventRepeat
  split
  · exact hs
  · exact canon_ite (canon_sendEvent _ _ hs) hs

@[bound] theorem canon_eventAgain (t : Nat) (hs : 0 < s.canon) : 0 < (eventAgain t s).canon := by
  unfold eventAgain
  split
  · exact hs
  · exact canon_ite hs (canon_ite (canon_closeSession _ hs) (canon_sendEvent _ _ hs))

/-! ## The fence -/

@[bound] theorem canon_takeFence (hs : 0 < s.canon) : 0 < (takeFence s).canon := by
  unfold takeFence
  dsimp only
  aesop (rule_sets := [Bound, -default]) (config := alongState)

@[bound] theorem canon_fenceSample (hs : 0 < s.canon) : 0 < (fenceSample s).canon := by
  unfold fenceSample
  split
  · exact canon_ite (canon_takeFence (canon_withPanel _ hs)) hs
  · exact hs

@[bound] theorem canon_fencePasses (hs : 0 < s.canon) : 0 < (fencePasses s).canon :=
  canon_encFence _ (canon_fenceLeases (canon_syncFence (canon_raise _ hs)))

@[bound] theorem canon_teEdge (hs : 0 < s.canon) : 0 < (teEdge s).canon :=
  canon_ite (canon_fencePasses (canon_teRise (canon_ite hs (canon_takeFence hs)))) (canon_teRise hs)

end

end Sys2Proof.Machine
end

section
/-! SUPPORT. Every command keeps the canonical form. -/

namespace Sys2Proof.Machine

section
variable {s : State}

/-! ## Commands whose effect is not one operation of the model -/

theorem canon_execRmSilent (n : Fin 16) (hs : 0 < s.canon) : 0 < outcomeCanon (execRmSilent n s) := by
  unfold execRmSilent
  exact canon_whenLive hs (canon_enterSafe _ (canon_raise _ hs))

theorem canon_execLanePeriodStart (n : Fin 5) (hs : 0 < s.canon) : 0 < outcomeCanon (execLanePeriodStart n s) := by
  unfold execLanePeriodStart
  exact canon_whenLive hs (canon_ite (canon_lanePeriod _ hs) (canon_patternPeriod _ hs))

theorem canon_execFenceSample (hs : 0 < s.canon) : 0 < outcomeCanon (execFenceSample s) := by
  unfold execFenceSample
  exact canon_whenLive hs (canon_lateAtSample (canon_fenceSample hs))

theorem canon_execModeRequest (src : Source) (mode : Fin 16) (hs : 0 < s.canon) :
    0 < outcomeCanon (execModeRequest src mode s) := by
  unfold execModeRequest
  refine canon_whenLive hs ?_
  cases src with
  | kcp d => exact canon_kcpHeard 10 d hs
  | register who => exact canon_request hs (canon_modeRequest _ _ hs)

/-! ## Every command -/

/-- The commands of reset, of the reference clock and of the TAP act in any state; every other one is its effect on a live Q9,
and its effect is built of operations that keep the form. -/
theorem canon_exec (i : Instr) (hs : 0 < s.canon) : 0 < outcomeCanon (exec i s) := by
  cases i
  case tapOperation op => exact canon_tapOperation op hs
  case resetAssert n => exact canon_resetAssert n hs
  case resetRelease => exact canon_resetRelease _ hs
  case refclkSysLoss => exact canon_refclkLoss hs
  case refclkSysReturn => exact canon_refclkReturn _ hs
  case rmSilent n => exact canon_execRmSilent n hs
  case lanePeriodStart n => exact canon_execLanePeriodStart n hs
  case fenceSample => exact canon_execFenceSample hs
  case modeRequest src mode => exact canon_execModeRequest src mode hs
  case ptpManagementReceive h => exact canon_whenLive (f := fun s => s) hs hs
  all_goals
    refine canon_whenLive hs ?_
    aesop (rule_sets := [Bound, -default]) (config := alongState)

end

/-- Settles O4: on an empty queue the time counts, else the command at the front is executed; both keep the canonical form. -/
theorem stepKeepsCanonical : Obligations.StepKeepsCanonical := by
  intro s t hs hstep
  have hcanon : 0 < s.canon := State.canon_pos.mpr hs
  unfold step at hstep
  cases hpending : s.pending with
  | nil =>
    rw [hpending] at hstep
    cases hstep
    exact State.canon_pos.mp (canon_tick hcanon)
  | cons c rest =>
    rw [hpending] at hstep
    dsimp only at hstep
    have hnext := canon_exec c (s := { s with pending := rest }) (canon_mk (partsCanon_of_canon hcanon))
    rw [hstep] at hnext
    exact State.canon_pos.mp hnext

end Sys2Proof.Machine
end
